-- ==== Sys2Proof/Word.lean ====
section
/-! DEFINITION. The words of the controller: a register word, a byte, a line, and the widths of
the addresses and indices that the manual numbers. -/

namespace Sys2Proof

/-- A 32-bit register word (R32). -/
abbrev Word := BitVec 32
/-- Eight bits. -/
abbrev Byte := BitVec 8
/-- A 64-byte line. Byte j is bits [8j+7:8j] (R90, R336). -/
abbrev Line := BitVec 512
/-- A local line address (R178). -/
abbrev Lla := BitVec 38
/-- The line index SA[55:6] of a system address. -/
abbrev LineAddr := BitVec 50
/-- A GF(2^16) symbol: the bits of one pin over a burst (R335, R336). -/
abbrev Sym := BitVec 16
/-- The 40 symbols of a burst as the pins carry them: position p in bits [16p+15:16p]; positions
0 to 7 are CB0 to CB7, positions 8 to 39 are DQ0 to DQ31 (R335). -/
abbrev Burst := BitVec 640
/-- A delay code or a reference-voltage code (R290, R298). -/
abbrev Code := BitVec 14
/-- Sub-channel SC0 to SC3. -/
abbrev Sc := Fin 4
/-- Channel 0 or 1. -/
abbrev Ch := Fin 2
/-- Inbound port: 0 to 3 are LP0 to LP3, 4 is RTP. -/
abbrev PortId := Fin 5
/-- Gear G0 to G3. -/
abbrev Gear := Fin 4
/-- A lane of a sub-channel PHY: 0 to 31 DQ, 32 to 39 CB. -/
abbrev LaneId := Fin 40
/-- A strobe group of a sub-channel PHY. -/
abbrev GroupId := Fin 10
/-- A Gliog instance: 0 to 63 are T00 to T63, 64 is the manager. -/
abbrev InstId := Fin 65

end Sys2Proof
end

