-- ==== Sys2Proof/Syntax.lean ====
section
/-! DEFINITION. The commands of the block: one constructor of `Instr` for every row of
spec/opcode_table.json, and the data their operands carry. An operand holds what reaches the macro
from outside in that step (a pin level, a request, a captured burst) or the outcome of an analogue
or DIMM-side action that the manual gives no digital rule for (DESIGN CHOICE, log 4). -/

namespace Sys2Proof

/-- A temperature sensor of a DIMM (R488). -/
inductive SensorId where
  | hub | ts0 | ts1
  deriving DecidableEq, Repr

/-- The data of a completed sideband transaction (R141, R488, R490). -/
inductive I3cResult where
  /-- every byte of the SPD, the first at index 0 (R532) -/
  | spd (bytes : List Byte)
  | temp (x : SensorId) (t : BitVec 16)
  | pmic (p : BitVec 16)
  deriving DecidableEq, Repr

/-- The device a sideband transaction addressed. -/
inductive I3cDev where
  | spd
  | sensor (x : SensorId)
  | pmic
  deriving DecidableEq, Repr

/-- The features of the devices and the RCD of a channel that R530 marks required, one flag each: present or not. -/
structure Features where
  caParity : Bool
  writeCrc : Bool
  sharedAlert : Bool
  directedRefresh : Bool
  rateField : Bool
  multiPurpose : Bool
  readPreamble : Bool
  readPatterns : Bool
  writeLeveling : Bool
  selfRefresh : Bool
  powerDown : Bool
  deriving DecidableEq, Repr

/-- What DIMM_INIT finds on a channel in the RCD and the mode registers (R148, R241, R361, R530). -/
structure InitReport where
  features : Features
  /-- on the retention path: what the RCD returns differs from its settings in the image (R148) -/
  rcdDiffers : Bool
  /-- the devices report that refresh management is required (R241) -/
  rfmRequired : Bool
  /-- per row entry of the image's repair section for the channel: a hard repair was made (R361) -/
  hardDone : List Bool
  deriving DecidableEq, Repr

/-- What the two samplers of every lane took of a read burst (R299): the bits of sampler A and of sampler B. -/
structure Capture where
  a : Burst
  b : Burst
  deriving DecidableEq, Repr

/-- First and last passing position of a line of the PHY at a chip select, in steps of its delay code or of its
reference-voltage code. A position of a strobe or a gate counts the whole ck of its alignment (R294, R320). -/
structure PassRange where
  lo : Int
  hi : Int
  deriving DecidableEq, Repr

/-- What a training mode of the DRAM or the RCD shows at a chip select (R319, R320): the passing ck phases of
CA_ALIGN, the passing ranges of READ_GATE and WRITE_LEVEL per group, and those of READ_CENTRE per lane. A delay is
given as a position: its code and 2,048 for each ck of the group's alignment. -/
structure TrainEyes where
  caPhases : List (BitVec 3)
  gate : List PassRange
  rx : List PassRange
  vref : List PassRange
  txStrobe : List PassRange
  /-- at READ_GATE and WRITE_LEVEL, per device: the read strobe offset or the write leveling adjustment that aligns it
  within the chip select (R320) -/
  devs : List Byte
  /-- on the retention path, after READ_CENTRE: what the 17 lines of the gear's record in the Lifeline copy returned
  (R321) -/
  saved : List Capture
  deriving DecidableEq, Repr

/-- The end of a recovery of a channel, with the command/address phases that CA_ALIGN found for its sub-channels A and B;
none where it failed (R371). -/
structure Recovery where
  ch : Ch
  caA : Option (BitVec 3)
  caB : Option (BitVec 3)
  deriving DecidableEq, Repr

/-- The outcome of a training step of a chip select (R151, R155, R311, R318 to R320). -/
inductive TrainResult where
  | fail
  /-- SAVE, which has no result of its own -/
  | done
  /-- RCD_OUT: the values of the control words that align the outputs of the RCD (R319, R531) -/
  | rcdOut (words : List Byte)
  /-- steps 0x1, 0x3, 0x4 and 0x5 -/
  | eyes (e : TrainEyes)
  /-- WRITE_CENTRE: what came back at each offset and at each reference voltage, and the counts N of the oscillators
  of the chip select (R310, R311, R317) -/
  | run (points vrefs : List Capture) (counts : List Nat)
  /-- DFE: what came back at each offset of the centring of each value of each tap (R318) -/
  | dfe (runs : List (List Capture))
  /-- READ_CHECK: the swatch lines of the logical rank -/
  | check (lines : List Capture)
  deriving DecidableEq, Repr

/-- What the samplers took of the lines that a retained channel's system region returns (R161, R362, R398), in the order
in which they are read; a line that is missing from a list counts as lost. -/
structure RetentionRead where
  /-- the repair list copy, on physical chip select 0 and on the spare -/
  repair : List Capture
  repairSpare : List Capture
  record : List Capture
  /-- the lines of the bitmap copy that the channel uses -/
  bitmap : List Capture
  /-- the pair record, then the lines of the dirty bitmap copy -/
  dirty : List Capture
  deriving DecidableEq, Repr

/-- One access on the register port (R32 to R36), the direction given by the command. -/
structure RegAcc where
  /-- rg_win: the instance window -/
  win : Bool
  priv : Bool
  /-- rg_addr[19:2] -/
  addr : BitVec 18
  data : Word
  deriving DecidableEq, Repr

/-- A data-port access of a page of an instance: `data` is `none` for a read. -/
structure PortAcc where
  priv : Bool
  data : Option Word
  deriving DecidableEq, Repr

/-- The request channel of an inbound port for a host opcode (R90). -/
structure ReqHdr where
  addr : LineAddr
  tag : BitVec 10
  gen : BitVec 2
  part : BitVec 12
  deriving DecidableEq, Repr

/-- The whole request channel, as a peer opcode uses it (R90). -/
structure PeerHdr where
  hdr : ReqHdr
  src : BitVec 10
  xid : BitVec 16
  epoch : BitVec 8
  deriving DecidableEq, Repr

/-- The refresh-rate field of mode register 4 (R239, R240). -/
inductive Mr4Rate where
  | x1 | x2 | above2
  deriving DecidableEq, Repr

/-- What a poll of mode register 4 brings: the highest field of the devices of each slot of the channel (R240). -/
structure Mr4Poll where
  slot0 : Mr4Rate
  slot1 : Mr4Rate
  deriving DecidableEq, Repr

/-- The outcome of a DBG operation at the pins (R227). -/
inductive DbgResult where
  | line (rx : Capture)
  | mrr (vals : List Byte)
  deriving DecidableEq, Repr

/-- A source of a wake (R485). -/
inductive WakeSrc where
  | port (p : PortId)
  | regWrite (a : RegAcc)
  deriving DecidableEq, Repr

/-- The commands: one constructor per row of the table. -/
inductive Instr where
  | aonRstAssert
  | aonRstRelease (ctlId : BitVec 10) (chanEn : BitVec 2) (imgBase : BitVec 6) (pfN : Bool)
  | aonStartDone
  | imgWordAck (data : Word) (err : Bool)
  | imgWordTimeout
  | imgVerifyDone
  | fuseWordAck (data : Word)
  | fuseWordTimeout
  | pllLock
  | pllLockTimeout
  | phyZqDone (atEnd : Bool)
  | phyZqTimeout
  | i3cTransactionDone (ch : Ch) (slot : Fin 2) (r : I3cResult)
  | i3cTransactionTimeout (ch : Ch) (slot : Fin 2) (d : I3cDev)
  | sidebandDone
  | dimmInitDone (ch : Ch) (r : InitReport)
  | dimmInitTimeout (ch : Ch)
  | trainingStepDone (sc : Sc) (r : TrainResult) (ret : Option RetentionRead)
  | trainingStepTimeout (sc : Sc) (ret : Option RetentionRead)
  | carveOutDone
  | carveOutWatchdog (sc : Sc)
  | serviceEntry
  | regionZeroed (region : BitVec 20)
  | registerWrite (a : RegAcc)
  | sqWrite (a : RegAcc)
  | ppWrite (a : RegAcc)
  | ppConfirm (a : RegAcc)
  | ppWindowExpiry
  | glbLockSet (priv : Bool) (data : Word)
  | indexWrite (a : RegAcc)
  | evtDataRead (priv : Bool) (upset : BitVec 33)
  | evtFlush (priv : Bool) (data : Word)
  | domSnapDataRead (priv : Bool)
  | qptDataAccess (a : PortAcc)
  | qptRdSelWrite (priv : Bool) (data : Word)
  | qptCommit (priv : Bool) (data : Word)
  | phyLlSelWrite (priv : Bool) (data : Word)
  | phyLlDataRead (priv : Bool)
  | rasRplDataRead (priv : Bool)
  | mapProbe (priv : Bool) (data : Word)
  | read (p : PortId) (h : ReqHdr)
  | writeFull (p : PortId) (h : ReqHdr)
  | writePartial (p : PortId) (h : ReqHdr)
  | writePoison (p : PortId) (h : ReqHdr)
  | barrier (p : PortId) (h : ReqHdr)
  | peerMirrorWrite (p : Fin 4) (h : PeerHdr)
  | peerMirrorRead (p : Fin 4) (h : PeerHdr)
  | peerMessage (p : Fin 4) (h : PeerHdr)
  | reservedOpcode (p : PortId) (op : BitVec 4) (h : PeerHdr)
  | writeDataBeat (p : PortId) (data : Line) (mask : BitVec 64)
  | creditReturn (wr : Bool)
  | portTransactionTimeout (p : PortId) (tag : BitVec 10)
  | rtpUrgentChange (level : Bool)
  | egpRequestIssue (slot : BitVec 8)
  | egpResponse (token : BitVec 16) (status : BitVec 3) (stale : Bool) (epoch : BitVec 8)
      (src : BitVec 10) (data : Line)
  | egpSlotTimeout (slot : BitVec 8)
  | qzReqRise (hold : BitVec 16) (deep : Bool)
  | pauseTakeEffect
  | deepPauseSrDone
  | qzHoldExpiry
  | qzReqFall
  | deepPauseExitDone
  | drainBarrierComplete
  | ingressSelect (sc : Sc)
  | mntArbitrate (sc : Sc)
  | schedulerIssue (sc : Sc)
  | readDecode (sc : Sc) (rx : Capture)
  | mergeReadDecode (sc : Sc) (rx : Capture)
  | writeBurstDone (sc : Sc)
  | heldReadRelease (sc : Sc)
  | alertRecognised (ch : Ch)
  | alertRelease (ch : Ch) (width : BitVec 16)
  | replayAttemptEnd (ch : Ch)
  | alertHeldLowTimeout (ch : Ch)
  | channelRecoveryDone (r : Recovery)
  | channelRecoveryTimeout (ch : Ch)
  | progressWatchdogExpiry (sc : Sc)
  | refreshSlot (sc : Sc) (unit : Fin 64)
  | refreshPostpone (sc : Sc) (unit : Fin 64)
  | mr4Poll (ch : Ch) (r : Mr4Poll)
  | backoffRfmDeadline (ch : Ch)
  | epochAdvance (sc : Sc) (unit : Fin 64)
  | ledgerFetchDone (sc : Sc) (rx : Capture)
  | ledgerFetchTimeout (sc : Sc)
  | refillTick
  | qosGuaranteeMiss (part : BitVec 12)
  | wheelSlot
  | scoutPointDone (ch : Ch) (b : Bool) (g : GroupId)
  | scoutBackoffEnd (sc : Sc) (g : GroupId)
  | roleExchange (sc : Sc) (g : GroupId)
  | forcedSwapWindow (sc : Sc)
  | swatchPeriodExpiry (sc : Sc)
  | swatchReq (priv : Bool) (data : Word)
  | swatchRunStart (sc : Sc)
  | swatchRunEnd (sc : Sc) (counts : List Nat)
  | swatchHoldTimeout (sc : Sc)
  | runtimeTrainingTimeout (sc : Sc)
  | oscPeriodExpiry (sc : Sc) (counts : List Nat)
  | lifelineSave (ch : Ch)
  | gearReq (priv : Bool) (data : Word)
  | gearChangeEnter
  | gearChangeDone (readCheckOk : Bool)
  | gearPolicyWindow (nothing : Unit)
  | thermalPoll
  | pmicPoll
  | powerDownEntry (sc : Sc)
  | selfRefreshEntry (sc : Sc)
  | selfRefreshWake (sc : Sc)
  | dormantEntry
  | dormantWake (w : WakeSrc)
  | dormantTimerExpiry
  | wakeComplete
  | pfNFall
  | bindOffComplete
  | scrubReadDecode (sc : Sc) (rx : Capture)
  | scrubDeadlineMiss (sc : Sc)
  | scrubCfgCommit (priv : Bool) (data : Word)
  | errorLeak
  | deviceMarked (sc : Sc) (unit : Fin 64) (dev : Fin 10)
  | pprStart (sc : Sc) (resourceLeft : Bool)
  | pprModeEnter
  | pprDone (sc : Sc)
  | pprTimeout
  | sparingStart (ch : Ch)
  | sparingComplete (ch : Ch)
  | softRepairReq (priv : Bool) (data : Word)
  | sparingReq (priv : Bool) (data : Word)
  | clearCounters (priv : Bool) (data : Word)
  | dbgReadLine (priv : Bool) (data : Word)
  | dbgMrr (priv : Bool) (data : Word)
  | dbgOpDone (r : DbgResult)
  | heartbeatSend
  | heartbeatLoss
  | helloSend
  | joinTimeout
  | censusToken
  | censusResult
  | heartbeat
  | reloadRequest
  | reloadAck
  | staleReply
  | roleChange
  | hello
  | resilverStart
  | resilverDone
  | poisonLine
  | resilverLine (sc : Sc) (rx : Capture)
  | roleChangeInitiate
  | roleChangeConfirmTimeout
  | mirRotate (priv : Bool) (data : Word)
  | mirBreak (priv : Bool) (data : Word)
  | mirRejoin (priv : Bool) (data : Word)
  | mirTakeover (priv : Bool) (data : Word)
  | censusPeriod
  | chiozResend (dst : BitVec 10)
  | censusHopTimeout (dst : BitVec 10)
  | imgReload (priv : Bool) (data : Word)
  | reloadFetchDone
  | reloadQuiescePoint
  | imgBcastReload (priv : Bool) (data : Word)
  | imgBcastWithdraw (priv : Bool) (data : Word)
  | reloadBcastResend (dst : BitVec 10)
  | glgIDoorbell (i : InstId) (priv : Bool) (data : Word)
  | glgIDescDataAccess (i : InstId) (a : PortAcc)
  | glgICplDataRead (i : InstId) (priv : Bool)
  | glgStateDataAccess (a : PortAcc)
  | glgIAbort (i : InstId) (priv : Bool) (data : Word)
  | glgIFlush (i : InstId) (priv : Bool) (data : Word)
  | jobStart (i : InstId)
  | granuleDone (i : InstId) (granule : Nat)
  | jobEnd (i : InstId)
  | granuleTimeout (i : InstId)
  | freezeTakeEffect (i : InstId)
  | mboxAssign (priv : Bool) (data : Word)
  | mboxUnassign (priv : Bool) (data : Word)
  | mboxAbort (priv : Bool) (data : Word)
  | mboxFreeze (priv : Bool) (data : Word)
  | mboxThaw (priv : Bool) (data : Word)
  | mboxSave (priv : Bool) (data : Word)
  | mboxRestore (priv : Bool) (data : Word)
  | mboxNotify (priv : Bool) (data : Word)
  | glgPuSwap (priv : Bool) (data : Word)
  | pvRearmPrecise (priv : Bool) (data : Word)
  | pvRearmImprecise (priv : Bool) (data : Word)
  | glgProbe (priv : Bool) (data : Word)
  | evtChainTake (upsets : List (Nat × BitVec 33))
  | evtIrqDelayExpiry
  | vddqInvalid
  deriving DecidableEq, Repr

end Sys2Proof
end

