-- ==== Sys2Proof/WellFormed.lean ====
section
/-! DEFINITION. Which commands carry operands of the right shape: the lists that stand for a fixed
number of things have that length. `exec` is total on all commands; the tests refuse ill-formed ones. -/

namespace Sys2Proof

/-- A list of codes is left out or has one entry per lane, per group or per device word. -/
def lenOr {α : Type} (l : List α) (n : Nat) : Bool := l.isEmpty || l.length == n

/-- The ranges of a training step: gates and strobes per group, codes and reference codes per lane. -/
def TrainEyes.wf (e : TrainEyes) : Bool :=
  lenOr e.gate 10 && lenOr e.txStrobe 10 && lenOr e.rx 40 && lenOr e.vref 40 && lenOr e.devs 10 && lenOr e.saved 17

/-- The result of a training step: the counts of ten devices; 16 values of each of four taps (R318). -/
def TrainResult.wf : TrainResult → Bool
  | .eyes e => e.wf
  | .run _ _ c => lenOr c 10
  | .dfe r => r.length == 64
  | _ => true

/-- What a retained channel returns: at most a line of counts and 32 lines of eight entries of each repair list copy
(R362), the retention record, 1,024 lines of the bitmap copy, and the pair record with the 1,024 lines of the dirty
bitmap copy (R161, R398). -/
def RetentionRead.wf (r : RetentionRead) : Bool :=
  decide (r.repair.length ≤ 33 ∧ r.repairSpare.length ≤ 33 ∧ r.record.length ≤ 1 ∧ r.bitmap.length ≤ 1024
    ∧ r.dirty.length ≤ 1025)

/-- The operands of a command have the right shape. -/
def Instr.wf : Instr → Bool
  | .i3cTransactionDone _ _ (.spd b) => decide (b.length ≤ 1024)
  | .dimmInitDone _ r => decide (r.hardDone.length ≤ 256)
  | .trainingStepDone _ r ret => r.wf && ret.all RetentionRead.wf
  | .trainingStepTimeout _ ret => ret.all RetentionRead.wf
  | .swatchRunEnd _ c => c.length == 40
  | .oscPeriodExpiry _ c => c.length == 40
  | .dbgOpDone (.mrr v) => decide (v.length ≤ 10)
  | .evtChainTake p => p.all fun u => decide (u.1 < 128)
  | _ => true

end Sys2Proof
end

