-- ==== Sys2Proof/Decode.lean ====
section
/-! DEFINITION. The table of commands gives no row any bits: a command is an event at the ports of the
block, not a word. -/

namespace Sys2Proof

/-- The command that a word spells by the table's bits: no row of the table has bits.
(DESIGN CHOICE, log 1) -/
def decodeTableWord (_nbits _w : Nat) : Option Instr := none

end Sys2Proof
end

