-- ==== Sys2Proof/Config.lean ====
section
/-! DEFINITION. What the manual leaves to no rule: the free values. Each is a constant without a
body, so that nothing can be proved of the value. -/

namespace Sys2Proof.Config

/-- The n-th free value of 16 bits: t_max of a poll for which R539 calls it undefined (DESIGN CHOICE, log 3). -/
opaque free16 : Nat → BitVec 16

/-- The n-th free word: a value that a rule names and does not state (DESIGN CHOICE, log 3). -/
opaque free32 : Nat → BitVec 32

/-- The n-th free line of data (DESIGN CHOICE, log 3). -/
opaque freeLine : Nat → BitVec 512

/-- The rolling-count threshold that the devices of a channel report, and their maximum management
threshold (R241): JESD79-5 defines them, the manual states no value (DESIGN CHOICE, log 3). -/
opaque raaThreshold : Nat → Nat
opaque raaMaximum : Nat → Nat

/-- A rate in units of 400 MT/s has a JEDEC-defined speed bin, and that bin's minimum of parameter i
for a die density, in ck (R205): JESD79-5's tables, which the manual does not give (DESIGN CHOICE, log 3). -/
opaque stdBin : Nat → Bool
opaque binMinimum : Nat → Nat → Nat → Nat

end Sys2Proof.Config
end

