-- ==== Sys2Proof/Machine/State.lean ====
section
/-! DEFINITION. The state of the controller as plain data: everything the manual gives it, the queue
of waiting commands, and the outputs of the last command. The chapters are cited by file number and
the rules by R number. -/

namespace Sys2Proof.Machine

/-- No command of the table stops with a fault: the manual gives every event an effect or leaves it
without effect. The one constructor stands for a command whose operands are no input of the macro
(`Instr.wf` is false); `step` never raises it, the tests of WellFormed name it. Safe. -/
inductive Fault where
  | malformed
  deriving DecidableEq, Repr

/-- Reasons to refuse a command. -/
inductive Refusal where
  /-- raised by `exec` for a command that has no meaning yet. Safe: the machine stops. -/
  | notModelled (mnemonic : String)
  deriving DecidableEq, Repr

/-- A sparse map with natural keys: strictly rising keys. Used for the register words, the partition
table and the other large tables; `KMap.get` gives an unlisted key its default. -/
abbrev KMap (α : Type) := List (Nat × α)

/-! ### Requests and the ports (04) -/

/-- The controller states of 01 ("Controller states"), in the order of their codes (02). -/
inductive Ctl where
  | reset | castOn | service | quiesced | gearChange | dormant | bindOff | held | halted
  deriving DecidableEq, Repr

/-- Opcodes that are accepted (R92). -/
inductive Op where
  | read | writeFull | writePartial | writePoison | barrier | peerWrite | peerRead | peerMessage
  deriving DecidableEq, Repr

/-- Response statuses (R108). -/
inductive Status where
  | ok | corrected | poison | notOwned | failed
  deriving DecidableEq, Repr

/-- Colours of R268. -/
inductive Colour where
  | green | yellow | red
  deriving DecidableEq, Repr

/-- Where an accepted request stands. -/
inductive Phase where
  /-- a write whose data beat has not arrived (R107) -/
  | waitBeat
  /-- in the ingress stage (R261) -/
  | ingress
  /-- in a read queue (R185) -/
  | readQ
  /-- in a write queue (R185) -/
  | writeQ
  /-- a recovery or a remote read at the peer is under way (R393, R394) -/
  | peer
  /-- a BARRIER waiting for earlier requests (R118) -/
  | barrier
  /-- a POISON_LINE message waiting to be handled (R392) -/
  | message
  deriving DecidableEq, Repr

/-- The local and the peer outcome of a mirrored write (R23). -/
inductive Commit where
  | unknown | yes | no
  deriving DecidableEq, Repr

/-- An accepted request (R111), kept until it is answered and, for a write, written (R12). -/
structure Req where
  /-- acceptance number, controller-wide (R114) -/
  id : Nat
  port : PortId
  op : Op
  addr : LineAddr
  lla : Lla
  tag : BitVec 10
  gen : BitVec 2
  /-- label as presented -/
  label : BitVec 12
  /-- partition charged (R264) -/
  part : BitVec 12
  src : BitVec 10
  xid : BitVec 16
  epoch : BitVec 8
  phase : Phase
  answered : Bool
  /-- written to DRAM before its response (R23): it no longer counts as in flight (R12) -/
  written : Bool
  data : Line
  mask : BitVec 64
  beat : Bool
  /-- the window has MAP_Wn_MIRROR at 1 (R379) -/
  mirrored : Bool
  colour : Option Colour
  /-- it has been head of its sub-list: coloured or tier 0 (R268) -/
  tier : Option (Fin 5)
  ftag : Word
  localC : Commit
  peerC : Commit
  /-- a dirty bit set for this write waits for the copy-line buffer (R390) -/
  dirtyWait : Bool
  /-- counted once in PWR_DRAIN_HOLDS (R496) -/
  drainHeld : Bool
  /-- superseded before its forward: its peer outcome is that of this write (R23, R189) -/
  rides : Option Nat
  deriving DecidableEq, Repr

/-- What the next data beat of a port belongs to (R106). -/
inductive BeatDest where
  | req (id : Nat)
  | discard
  deriving DecidableEq, Repr

/-- The credit counters of a port (R97 to R101) and the order of its data beats. -/
structure Port where
  rdHeld : Nat
  wrHeld : Nat
  rdIn : Nat
  wrIn : Nat
  /-- the level of lpn_hold in the pclk cycle before this one (R102) -/
  held : Bool
  /-- a request was presented on it in this cycle, and the level of lpn_hold then -/
  seen : Option Bool
  beats : List BeatDest
  deriving DecidableEq, Repr

/-! ### SDRAM commands and the schedulers (07) -/

/-- The kinds of command on a command bus (R197, R203, R215). -/
inductive CmdKind where
  | act | rd | wr | pre | preAb | refAb | refSb | rfmAb | rfmSb | drfmAb | drfmSb
  | mrr | mrw | mpcZqStart | mpcZqLatch | mpc | sre | srx | pde | pdx
  deriving DecidableEq, Repr

/-- Training modes of the RCD and of the DRAM (R319). -/
inductive TrainMode where
  | ca | readPreamble | readPattern | writeLeveling
  deriving DecidableEq, Repr

/-- What a mode register write, or a control word of the RCD, sets. The manual names the settings and leaves
their encoding to JESD79-5 and JESD82-511 (DESIGN CHOICE, log 60). -/
inductive DevSet where
  /-- the RCD settings of the image (R147, R531) -/
  | rcd
  /-- command/address parity checking in the RCD (R369) -/
  | parity
  /-- write CRC in every device; read CRC stays off (R369) -/
  | writeCrc
  /-- REF_BLAST in every device (R254) -/
  | blast (r : BitVec 2)
  /-- the rate-dependent control words and mode registers of a gear (R147, R330) -/
  | gear (g : Gear)
  /-- the write reference voltage of a device (R310) -/
  | vref (dev : Fin 10) (v : Byte)
  /-- the equaliser word of a device: gain and taps 4 to 1 (R318, R327) -/
  | dfe (dev : Fin 10) (w : BitVec 24)
  /-- the guard keys and the row repair of a device, soft or hard (R359, R361) -/
  | repair (dev : Fin 10) (hard : Bool) (bg : BitVec 3) (ba : BitVec 2) (row : BitVec 18)
  /-- a training mode is entered or left (R319) -/
  | training (m : TrainMode) (on : Bool)
  /-- a control word of the RCD that aligns its outputs to the DRAM, by its place among them (R319, R531) -/
  | rcdOut (n : Nat) (v : Byte)
  /-- the read strobe offset and the write leveling adjustment of a device (R320) -/
  | readOffset (dev : Fin 10) (v : Byte)
  | writeLevel (dev : Fin 10) (v : Byte)
  deriving DecidableEq, Repr

/-- What a mode register read returns (R227, R240, R241, R316, R359, R371). -/
inductive DevGet where
  | addr (a : Byte)
  | features
  /-- the control words of the RCD (R148) -/
  | rcd
  /-- the read training pattern (R155, R319) -/
  | pattern
  | osc
  | pprLeft
  | check
  deriving DecidableEq, Repr

/-- What a command carries beside its coordinates. -/
inductive CmdArg where
  | none
  /-- a precharge that marks its row as the DRFM sample of its bank (R254) -/
  | sample
  | get (d : DevGet)
  | set (d : DevSet)
  /-- the start and the stop of the interval oscillator (R316) -/
  | oscStart
  | oscStop
  deriving DecidableEq, Repr

/-- An SDRAM command with its DRAM coordinates (R179). -/
structure Cmd where
  kind : CmdKind
  cs : BitVec 2
  lr : BitVec 4
  bg : BitVec 3
  ba : BitVec 2
  row : BitVec 18
  col : BitVec 11
  /-- auto-precharge (R200) -/
  ap : Bool
  arg : CmdArg := .none
  deriving DecidableEq, Repr

/-- A command that was issued, with its first ck. -/
structure Issued where
  ck : Nat
  cmd : Cmd
  deriving DecidableEq, Repr

/-- An open row of a bank (R200, R201). -/
structure OpenRow where
  cs : BitVec 2
  lr : BitVec 4
  bg : BitVec 3
  ba : BitVec 2
  row : BitVec 18
  lastCol : Nat
  /-- column commands to it since its ACT -/
  hits : Nat
  /-- column commands in a row that were younger than an entry waiting for another row (R201) -/
  capHits : Nat
  deriving DecidableEq, Repr

/-- The forwarding state of a read entry (R187). -/
inductive Fwd where
  | none
  /-- waits for the merge of this write entry -/
  | onMerge (wr : Nat)
  deriving DecidableEq, Repr

/-- An entry of a read queue (R185). -/
structure RdEnt where
  id : Nat
  lla : Lla
  part : BitVec 12
  stamp : Nat
  urgent : Bool
  /-- it came from RTP (R280) -/
  rtp : Bool
  fwd : Fwd
  /-- its RD has been issued -/
  issued : Bool
  aged : Bool
  deriving DecidableEq, Repr

/-- The merge state of a write entry (R190 to R192). -/
inductive Merge where
  /-- a full line or a poison line: eligible for a write command -/
  | full
  /-- waits for its merge read -/
  | needRead
  /-- its merge read has been issued -/
  | reading
  /-- waits for the merge of an older entry to the same line -/
  | onOlder (wr : Nat)
  /-- takes its base from the peer (R389) -/
  | onPeer
  deriving DecidableEq, Repr

/-- An entry of a write queue (R185). `id` is the acceptance number of its request. -/
structure WrEnt where
  id : Nat
  lla : Lla
  part : BitVec 12
  poison : Bool
  data : Line
  mask : BitVec 64
  stamp : Nat
  urgent : Bool
  /-- it came from RTP (R280) -/
  rtp : Bool
  merge : Merge
  issued : Bool
  aged : Bool
  /-- its forward to the peer has been issued or is not needed (R387) -/
  forwarded : Bool
  deriving DecidableEq, Repr

/-- A line of a copy-line buffer (R535). -/
structure CopyEnt where
  lla : Lla
  data : Line
  stamp : Nat
  deriving DecidableEq, Repr

/-- Origins of a read, as R374 numbers them, with what the data is for. -/
inductive Origin where
  | host (id : Nat)
  | merge (wr : Nat)
  | patrol
  | oot
  | sparing
  /-- slot k of the granule of an instance; one that a write-back may follow locks its line (R222) -/
  | gliog (inst : InstId) (k : Nat) (lock : Bool)
  /-- the line of point k of a swatch run (R312) -/
  | swatch (k : Nat)
  | ledger (line : Nat)
  | resilver
  /-- a line of the row of a repair: saved in step 3, or read back in step 6 (R359) -/
  | repair (back : Bool)
  | debug
  | mrr
  deriving DecidableEq, Repr

/-- A read whose RD has been issued and whose data is not yet captured. -/
structure RdTag where
  origin : Origin
  lla : Lla
  ck : Nat
  deriving DecidableEq, Repr

/-- Where the data of a WR came from. -/
inductive WrSrc where
  | entry (id : Nat)
  | copy
  | maint
  deriving DecidableEq, Repr

/-- A WR whose burst has not completed, and a line record of the replay buffer (R188, R207). -/
structure WrTag where
  src : WrSrc
  lla : Lla
  data : Line
  poison : Bool
  ck : Nat
  cmd : Cmd
  done : Bool
  deriving DecidableEq, Repr

/-- Decode outcomes of R341. -/
inductive Outcome5 where
  | clean | corrected | poison | uncorrectable | addrMismatch
  deriving DecidableEq, Repr

/-- A located error: position and value (R340, R374). -/
abbrev LocErr := Nat × Sym

/-- The result of a decode (R339 to R341). -/
structure Decoded where
  outcome : Outcome5
  data : Line
  errs : List LocErr
  erasure : Bool
  deriving DecidableEq, Repr

/-- A read held by R209 (its RD at `ck`), with its decode. (DEDUCED, log 16) -/
structure HeldRd where
  id : Nat
  lla : Lla
  ck : Nat
  dec : Decoded
  deriving DecidableEq, Repr

/-- Maintenance work of a requester at a sub-channel (R215). -/
inductive MntOp where
  | refSet (unit : Nat) (left : List (Fin 4))
  | rfm (unit : Nat) (kind : Fin 5) (bank : Nat)
  | drfm (unit : Nat) (bank : Nat) (row : Nat) (kind : Fin 5) (value : Nat)
  | lineRead (o : Origin) (lla : Lla)
  | lineWrite (lla : Lla) (data : Line) (poison : Bool) (back : Bool)
  /-- the write of a copied line to the spare chip select (R366) -/
  | spareWrite (lla : Lla) (data : Line) (poison : Bool)
  /-- lines of a carve-out, from the first on in LLA order, all with one content (R157, R161) -/
  | fill (first : Lla) (left : Nat) (data : Line)
  /-- a mode register command or an MPC to a chip select or a logical rank -/
  | mode (k : CmdKind) (cs : BitVec 2) (lr : BitVec 4) (arg : CmdArg)
  deriving DecidableEq, Repr

/-- Maintenance work with its aged flag. -/
structure MntCmd where
  op : MntOp
  /-- the cc in which it was first offered at the maintenance input (R185) -/
  stamp : Option Nat
  aged : Bool
  /-- for a line write that has been offered: the write-queue entries of the line that were present (R223) -/
  after : List Nat
  /-- the partition that a Gliog request is charged to (R283) -/
  label : Option (BitVec 12)
  deriving DecidableEq, Repr

/-- Why write mode was entered (R194). -/
inductive ModeBy where
  | watermark | idle | drain | gear
  deriving DecidableEq, Repr

/-- A replay sequence (R210): the step in progress, its commands still to issue, and those of step 3. -/
structure ReplaySeq where
  step : Fin 4
  todo : List Cmd
  body : List Cmd
  deriving DecidableEq, Repr

/-- Replay of a sub-channel (R208 to R212). -/
inductive Replay where
  | none
  /-- an alert was recognised: issue is frozen; the sequence that it interrupted -/
  | frozen (left : Option ReplaySeq)
  /-- the sequence of R210 runs: its step, the commands of the step still to issue, those of step 3 -/
  | running (seq : ReplaySeq)
  /-- the third attempt failed: no command until recovery (R212) -/
  | failed
  deriving DecidableEq, Repr

/-- Per sub-channel scheduler and maintenance arbiter. -/
structure Sched where
  rq : List RdEnt
  wq : List WrEnt
  copy : List CopyEnt
  writeMode : Bool
  modeBy : ModeBy
  fullDrain : Bool
  wrIssued : Nat
  /-- ck that carried data since the utilisation window began (R487) -/
  dataCk : Nat
  /-- the first ck of the present cc -/
  ck : Nat
  rows : List OpenRow
  /-- issued commands that still constrain later ones, newest first -/
  hist : List Issued
  /-- command records of the replay buffer, oldest first (R207) -/
  recs : List Issued
  pipe : List RdTag
  /-- reads of the replay window whose data an alert lost (R209) -/
  lost : List RdTag
  /-- commands that a refresh gate holds, counted in REF_Sn_GATE_HOLDS -/
  gated : List (Nat × CmdKind)
  lines : List WrTag
  heldRds : List HeldRd
  locks : List Lla
  replay : Replay
  attempts : Nat
  /-- the last ck of the last attempt -/
  replayEnd : Nat
  /-- the commands of the last replay window and the class of its alerts -/
  window : List Issued
  /-- the commands issued since the attempt in progress began: the window of the next one (R212) -/
  since : List Issued
  crcOnly : Bool
  wdogLast : Option Nat
  /-- write hold of a swatch run (R310) -/
  writeHold : Bool
  /-- the next column command is delayed to leave a swap window (R297) -/
  forceWindow : Bool
  maint : Vector (List MntCmd) 7
  maskVec : BitVec 7
  holder : Option (Fin 7)
  burst : Nat
  limit : Nat
  waitFrom : Vector (Option Nat) 7
  deriving DecidableEq, Repr

/-- The alert of a channel and its recovery (R208, R371). -/
structure Alert where
  low : Bool
  cls : Fin 4
  width : Nat
  attempts : Nat
  cmds : Nat
  affected : BitVec 2
  /-- an alert was recognised during the attempt -/
  again : Bool
  recovering : Bool
  recFrom : Nat
  failedSc : BitVec 2
  /-- every rank is in self-refresh: steps 1 and 2 of the recovery are done (R371) -/
  slept : Bool
  /-- a progress watchdog has caused the recovery (R518) -/
  byWdog : Bool
  oos : Bool
  deriving DecidableEq, Repr

/-! ### Refresh and the Row Counter (08) -/

/-- A refresh gate: the slot time in ck (R233). -/
structure RefUnit where
  debt : Int
  /-- ck of the next slot (R230) -/
  next : Nat
  gate : Option Nat
  epoch : BitVec 2
  passCount : Nat
  emergency : Bool
  /-- REF_RC_CFG in force since the last advance (R253) -/
  rc : Word
  deriving DecidableEq, Repr

/-- State of a group entry (R244). -/
inductive GrpState where
  | counting | promoting (left : Nat) | promoted
  deriving DecidableEq, Repr

/-- A group entry (R244). -/
structure RcGroup where
  epoch : BitVec 2
  st : GrpState
  count : Nat
  deriving DecidableEq, Repr

/-- A line of the counter cache: 32 counters (R248). -/
structure RcLine where
  epoch : BitVec 2
  dirty : Bool
  used : Nat
  vals : Vector (BitVec 16) 32
  deriving DecidableEq, Repr

/-- A due row of R254: sub-channel, unit, bank, DRAM row, kind of R259 and the value reported. -/
structure DueRow where
  sc : Sc
  unit : Nat
  bank : Nat
  row : Nat
  kind : Fin 5
  value : Nat
  deriving DecidableEq, Repr

/-- A back-off request (R242): the RFMs that it still asks for, whether the first was issued, whether its deadline
has passed. -/
structure AboReq where
  left : Nat
  begun : Bool
  passed : Bool
  deriving DecidableEq, Repr

/-- Refresh and Row Counter. -/
structure Ref where
  /-- units of sub-channel s under key 64 s + u -/
  units : KMap RefUnit
  doubled : Vector Bool 2
  mr4 : Vector Mr4Rate 2
  groups : KMap RcGroup
  cache : KMap RcLine
  clock : Nat
  /-- what is posted to absent lines: ledger line key, counter index, and whether the counter is set to 0 rather
  than incremented (R246, R254) -/
  posted : List (Nat × Fin 32 × Bool)
  fetching : List (Nat × Sc)
  due : List DueRow
  /-- the back-off requests of each channel, oldest first (R242) -/
  abo : Vector (List AboReq) 2
  aboLate : Vector Bool 2
  /-- rolling activation counts by bank (R241) -/
  raa : KMap Nat
  /-- rows whose ACT is held by R245 or R246 -/
  rcHeld : List Nat
  deriving DecidableEq, Repr

/-! ### Partitions (09) -/

/-- A partition: words 0 to 7 of its entry and its state (R266 to R288). -/
structure Part where
  cfg : Vector Word 8
  /-- 24.12 fixed point (R268) -/
  tc : Nat
  tp : Nat
  /-- 18 fractional bits, signed (R271) -/
  ts : Int
  /-- absolute wheel slot in which it is parked -/
  parked : Option Nat
  /-- valid finish tags under key 5 s + tier (R275) -/
  tags : KMap Word
  missRun : Nat
  missDue : Bool
  missTold : Bool
  missWhy : Byte
  missScs : BitVec 4
  green : Word
  yellow : Word
  red : Word
  misses : Word
  deriving DecidableEq, Repr

/-- The ingress stage. -/
structure Qos where
  parts : KMap Part
  vt : Vector (Vector Word 5) 4
  tb : Vector Int 4
  wheel : Nat
  tick : Nat
  staging : Vector Word 8
  pendingQpt : Option (BitVec 12 × Vector Word 8)
  /-- further staged entries of a live reload that join the pending commit (R433) -/
  pendingMore : List (BitVec 12 × Vector Word 8)
  panic : Bool
  urgent : Bool
  peakRtp : Nat
  lastCrdRd : Fin 5
  lastCrdWr : Fin 5
  deriving DecidableEq, Repr

/-! ### PHY (10) -/

/-- The phase of a scout (PHY_LANE_SCOUT_PHASE). -/
inductive ScoutPhase where
  | idle | left | right | up | down | confirming
  deriving DecidableEq, Repr

/-- One lane with its two samplers and its sweep (R299, R302). -/
structure Lane where
  tx : Code
  /-- the code that the transmit line moves to under the slew limit (R296) -/
  txTo : Code
  codeA : Code
  codeB : Code
  vrefA : Code
  vrefB : Code
  liveB : Bool
  phase : ScoutPhase
  /-- the point the scout holds: delay and reference codes, signed while walking -/
  c : Int
  v : Int
  left : Int
  right : Int
  t : Int
  top : Int
  bottom : Int
  u : Int
  open_ : Bool
  width : Nat
  height : Nat
  errs : Word
  /-- disagreements of the scout at the present point (R301) -/
  dis : Nat
  deriving DecidableEq, Repr

/-- A strobe group (R294, R303 to R307). -/
structure Group where
  txs : Code
  gate : Code
  /-- the code that the receive gate moves to under the slew limit (R307) -/
  gateTo : Code
  /-- bursts compared at the present point, or since the reject (R301, R304) -/
  compared : Nat
  /-- the first ck of the swap window of the last exchange (R306) -/
  lastSwap : Nat
  rdAlign : BitVec 4
  wrAlign : BitVec 4
  promotions : Word
  rejects : Word
  settled : Word
  rejectRun : BitVec 16
  reason : BitVec 4
  lastPromo : Nat
  /-- candidate accepted: bursts of the confirmation that remain to compare (R305) -/
  confirming : Bool
  /-- confirmed: exchange at the next swap window (R306) -/
  exchange : Bool
  backoff : Bool
  /-- PHY_SCOUT_CFG0 to PHY_SCOUT_CFG3 as they stood when the sweep began (R309) -/
  cfg : Vector Word 4
  deriving DecidableEq, Repr

/-- The sequence that runs on a sub-channel (PHY_SEQ_Sn): a swatch run without the grant is the stalled one. -/
inductive PhySeq where
  | idle | training | swatch | osc | walk
  deriving DecidableEq, Repr

/-- Where a swatch run stands (R310): codes move to the offset of the point; its lines are written and read; the
reference voltages are swept; it waits for its judgement; its codes move to where it leaves them. -/
inductive SwStage where
  | shift | lines | vref | vlines | judge | settle
  deriving DecidableEq, Repr

/-- A swatch run (R310, R312). -/
structure SwRun where
  stage : SwStage
  /-- the point, or the reference voltage value that is tried -/
  k : Nat
  /-- reads of the point that are still awaited -/
  waits : Nat
  /-- lanes with a bit error at the point so far: in any chip select, and under 40 c + lane in chip select c -/
  bad : List Nat
  /-- lanes without error at each point done -/
  pass : List (BitVec 40)
  /-- passing values of device d of chip select c, one bit each, under 10 c + d -/
  vpass : List Nat
  /-- PHY_SWATCH_CFG, and PHY_SCOUT_CFG0 to PHY_SCOUT_CFG3, as they read when the run began (R322) -/
  cfg : Word
  limits : Vector Word 4
  deriving DecidableEq, Repr

/-- A PHY of a sub-channel. -/
structure PhySc where
  lanes : Vector Lane 40
  groups : Vector Group 10
  caPhase : BitVec 3
  seq : PhySeq
  run : Option SwRun
  /-- counts of an oscillator update whose mode register reads are still to be issued (R316) -/
  osc : Option (List Nat)
  /-- the first ck that no swap window has been taken from yet (R295) -/
  winCk : Nat
  /-- the ck since which a code has waited for a swap window (R297) -/
  waitCk : Option Nat
  swReq : Bool
  swWanted : Bool
  /-- N_ref of device d of chip select c under index 10 c + d (R316) -/
  nref : List Nat
  /-- codes that oscillator tracking has moved each device since the last run (R317) -/
  moved : Vector Nat 10
  deriving DecidableEq, Repr

/-- The PHY block and the gear change. -/
structure Phy where
  sc : Vector PhySc 4
  /-- on-die Lifelines of 272 words under key 4 ch + gear (R325, R327) -/
  lifeline : KMap (List Word)
  /-- the record has changed since its last save, by channel and gear as in `lifeline` (R326) -/
  llChanged : Vector Bool 8
  llBuf : List Word
  /-- transmit and receive boot codes (R303) under key (4 gear + sub-channel) × 40 + lane -/
  boot : KMap (Code × Code)
  /-- a request that waits for SERVICE or for the boundary of a swatch run (R329) -/
  gearWait : Option Gear
  gearPending : Option Gear
  /-- the target of the change that runs, and the time of its entry into GEAR_CHANGE -/
  gearTo : Option (Gear × Nat)
  /-- sub-channels whose running sequence still follows the program that a reload replaced (R322) -/
  shadow : BitVec 4
  policyRun : Nat
  deriving DecidableEq, Repr

/-! ### Data integrity (11) -/

/-- Counters of a unit (R354) and its mark (R358). -/
structure RasUnit where
  cnt : Vector Byte 10
  ue : Byte
  mark : Option (Fin 10)
  deriving DecidableEq, Repr

/-- An entry of a row log (R356). -/
structure RowLog where
  unit : Nat
  dev : Nat
  bg : BitVec 3
  ba : BitVec 2
  row : Nat
  count : Nat
  deriving DecidableEq, Repr

/-- The patrol pass of a sub-channel (R347 to R349). -/
structure Scrub where
  active : Bool
  done : Nat
  t0 : Nat
  missed : Bool
  periodH : Nat
  oot : List Lla
  deriving DecidableEq, Repr

/-- Steps of a soft repair (R359): the row waits for the end of its writes; its lines are read and the units wait for
D ≤ 0; step 4; step 5 is due; steps 5 and 6 are under way. -/
inductive PprStep where
  | quiet | waiting | mode | writeBack | verify
  deriving DecidableEq, Repr

/-- The repair in progress (R359). -/
structure Ppr where
  sc : Sc
  lla : Lla
  dev : Nat
  count : Nat
  step : PprStep
  outcome : Nat
  buf : List (Lla × Line × Bool)
  byReq : Bool
  /-- a line that was read back shows an error in the repaired device -/
  bad : Bool
  deriving DecidableEq, Repr

/-- Sparing of a channel (R365 to R367). -/
inductive SpareState where
  | none | available | copying | inService
  deriving DecidableEq, Repr

/-- A sparing trigger (R365): 0 a device counter, 1 the UE count, 2 the manager; the chip select, and
what DEVICE_MARKED reports of it: sub-channel, logical rank, device, count. -/
structure SpareReq where
  why : Nat
  cs : BitVec 2
  sc : Sc
  lr : Nat
  dev : Nat
  count : Nat
  deriving DecidableEq, Repr

structure Spare where
  st : SpareState
  cs : BitVec 2
  replaced : BitVec 2
  /-- the copy frontier of sub-channels A and B, in lines done -/
  frontier : Vector Nat 2
  /-- triggers that wait, and the one that the copy serves -/
  waiting : List SpareReq
  active : Option SpareReq
  deriving DecidableEq, Repr

/-- A debug operation (R227). -/
structure Dbg where
  op : Word
  lla : Lla
  deriving DecidableEq, Repr

structure Ras where
  units : KMap RasUnit
  log : Vector (List RowLog) 4
  scrub : Vector Scrub 4
  ppr : Option Ppr
  /-- repairs that wait: sub-channel, line, device, count, at the manager's request -/
  pprWait : List (Sc × Lla × Nat × Nat × Bool)
  rpl : List (Word × Word)
  spare : Vector Spare 2
  dbg : Option Dbg
  /-- scrub write-backs that wait for the peer copy: line, decode, error device, origin (R350) -/
  fetch : List (Sc × Lla × Decoded × Nat × Nat)
  /-- device counters that have reached RAS_MARK_THRESHOLD: sub-channel, unit, device (R357) -/
  reached : List (Sc × Nat × Fin 10)
  deriving DecidableEq, Repr

/-! ### EGP, mirror pairs and the domain (04, 12, 13) -/

/-- What an egress operation is for. -/
inductive EgpFor where
  | mirrorWrite (id : Nat)
  | poisonNotice (id : Nat)
  | recovery (sc : Sc) (id : Nat) (dec : Decoded)
  | remoteRead (id : Nat)
  /-- with the decode of the merge read that the peer copy replaces, if one was made (R389) -/
  | mergeBase (id : Nat) (dec : Option Decoded)
  | scrubFetch (sc : Sc) (lla : Lla)
  | resilver (sc : Sc) (lla : Lla)
  | message (dst : BitVec 10)
  /-- the peer's copy for slot k of the granule of a job (R393, R394, R457) -/
  | glgPeer (i : InstId) (e : Byte) (k : Nat)
  /-- operations of a job of an instance under an owner epoch -/
  | glgWrite (i : InstId) (e : Byte)
  | glgRead (i : InstId) (e : Byte)
  | glgChain (i : InstId) (e : Byte)
  /-- the forward of a line that a job wrote in a mirrored window (R457) -/
  | glgMirror (i : InstId) (e : Byte) (lla : Lla)
  deriving DecidableEq, Repr

/-- Egress opcodes (the egress table of 04). -/
inductive EgpOp where
  | read | writeFull | writePartial | mirrorWrite | mirrorRead | message
  deriving DecidableEq, Repr

/-- An egress request: the egp_req_ fields but the token. -/
structure EgpReq where
  op : EgpOp
  addr : LineAddr
  dst : BitVec 10
  epoch : BitVec 8
  part : BitVec 12
  data : Line
  mask : BitVec 64
  why : EgpFor
  deriving DecidableEq, Repr

/-- A slot: its generation and, while live, its operation and issue time (R128, R129). -/
structure EgpSlot where
  gen : BitVec 4
  live : Option (EgpReq × Nat)
  deriving DecidableEq, Repr

structure Egp where
  waiting : List EgpReq
  slots : KMap EgpSlot
  peak : Nat
  deriving DecidableEq, Repr

/-- A received Chioz message: words 0 to 7 (13), and the request that carried it when its answer is
still due (R392). -/
structure Msg where
  words : Vector Word 8
  reqId : Option Nat
  deriving DecidableEq, Repr

/-- Pair states of R385. -/
inductive PairState where
  | disabled | joining | healthy | degraded | resilvering
  deriving DecidableEq, Repr

/-- A role change under way at its initiator (R404). -/
structure RoleChg where
  reason : Nat
  scope : Byte
  sent : Bool
  /-- token of the request that EGP issued last -/
  tok : BitVec 16
  deriving DecidableEq, Repr

structure Mir where
  primary : Bool
  pair : PairState
  cause : BitVec 4
  hold5 : Bool
  hold6 : Bool
  epoch : BitVec 8
  peerEpoch : BitVec 8
  proto : BitVec 4
  alive : Bool
  missedBeats : Nat
  /-- epoch, role PRIMARY and JOINING of the HELLO with which this controller took part in the exchange that decided the
  roles (R408); none once the peer has shown that it has left JOINING -/
  exchange : Option (BitVec 8 × Bool × Bool)
  retained : Bool
  degradedAt : Nat
  joinLate : Bool
  dirty : BitVec 1048576
  /-- line writes that wait for a copy-line buffer (R390, R404, R535): 1024 c + j for line j + 1 of the
  dirty bitmap copy of channel c, and 2048 + c for its pair record -/
  dirtyCopy : List Nat
  /-- ROLE_CHANGE messages that wait for the pair record to enter its buffer (R404, R535) -/
  recordMsgs : List EgpReq
  walk : Vector Nat 4
  walkOk : Vector Nat 4
  role : Option RoleChg
  /-- a role change that was completed without its confirmation (R404) -/
  unconf : Option RoleChg
  /-- record read at the last retention Cast-On: epoch and role -/
  record : Option (BitVec 8 × Bool)
  ctlBusy : Bool
  locks : List Lla
  deriving DecidableEq, Repr

/-- A census delivery or a reload request under way (R436, R442). -/
structure Delivery where
  dst : BitVec 10
  words : Vector Word 8
  /-- resends left for a reload request; none for a census delivery -/
  tries : Option Nat
  /-- remaining successor indices of a census message -/
  succ : Nat
  result : Bool
  deriving DecidableEq, Repr

/-- A stored census result (R443): words 2 to 6, round, state, time. -/
structure CensusRes where
  words : Vector Word 5
  round : BitVec 16
  st : Fin 4
  time : Nat
  deriving DecidableEq, Repr

structure Dom where
  inbox : List Msg
  seqOut : BitVec 16
  round : BitVec 16
  res : Option CensusRes
  snap : List Word
  snapHeld : Option CensusRes
  startedAt : Option Nat
  lowInitAt : Option Nat
  /-- the last round of each initiator whose first failed delivery has raised TIMEOUT (R442) -/
  told : KMap Nat
  out : List Delivery
  deriving DecidableEq, Repr

/-! ### Image and reload (13) -/

/-- A fetch in progress (R133). -/
structure Fetch where
  reload : Bool
  base : BitVec 6
  len : Option Nat
  deriving DecidableEq, Repr

/-- State of a reload (IMG_RL_STATE). -/
inductive RlState where
  | idle | waitService | fetching | verified | waitPoint | restarting
  deriving DecidableEq, Repr

structure Reload where
  st : RlState
  base : BitVec 6
  id : Byte
  bcast : Bool
  initiator : BitVec 10
  expect : Option (BitVec 64)
  restart : Bool
  /-- it brings back the image at cfg_img_base after a WITHDRAW (R437) -/
  withdrawing : Bool
  deriving DecidableEq, Repr

structure Img where
  words : List Word
  staging : List Word
  fetch : Option Fetch
  applied : Bool
  rl : Reload
  bcastId : Byte
  /-- the last broadcast: a withdrawal, its targets, and the phase that each has reached: 0 accepted,
  1 applied, 2 refused, 3 unreachable, 4 withdrawn (R436, R437) -/
  bcastBack : Bool
  bcastTo : List (BitVec 10)
  bcastPh : List (BitVec 10 × Fin 5)
  /-- the reload ID of each initiator's broadcast that has been applied and not been brought back (R437) -/
  appliedBy : KMap Byte
  deriving DecidableEq, Repr

/-! ### Gliog (14) -/

/-- A queued or active descriptor with the owner epoch at submission. A dead one was aborted in the queue and
waits for a free completion record. -/
structure Desc where
  w : Vector Word 16
  epoch : Byte
  dead : Bool
  deriving DecidableEq, Repr

/-- The latched CRC set of a job (R463): configuration word, polynomial, initial value, final XOR. -/
structure CrcSet where
  cfg : Word
  poly : BitVec 64
  init : BitVec 64
  xorout : BitVec 64
  deriving DecidableEq, Repr

/-- What a read of a granule line brought: data, status bits, and whether the line was lost or poisoned (R454). -/
structure GRead where
  data : Line
  bits : Nat
  bad : Bool
  deriving DecidableEq, Repr

/-- A line of the granule at the cursor that has been taken up: its outcome, its read under way, or the peer's copy
that it waits for, with the decode that the copy replaces. -/
inductive GSlot where
  | got (r : GRead)
  | read
  | peer (dec : Option Decoded)
  deriving DecidableEq, Repr

/-- The active job (R453 to R469). -/
structure Job where
  d : Desc
  cursor : Nat
  /-- the lines of the granule at the cursor that have been taken up, in ascending order -/
  slots : List GSlot
  processed : Nat
  skipped : Nat
  first : Option Nat
  badLines : Nat
  diffs : Nat
  crc : CrcSet
  ruleSet : Bool
  /-- collected result and status bytes: line address, data, mask (R460) -/
  resBuf : Option (LineAddr × Line × BitVec 64)
  stBuf : Option (LineAddr × Line × BitVec 64)
  /-- the digest that waits for the result entry read (VERIFY) -/
  verify : Option (Nat × BitVec 64)
  /-- why it stops at the next granule boundary -/
  stop : Option (Fin 16)
  /-- its granule timed out: the lines that have been issued complete, then the job ends (R480) -/
  givenUp : Bool
  ended : Bool
  chain : Option Bool
  pairEpoch : BitVec 8
  deriving DecidableEq, Repr

/-- A Gliog instance (R448). -/
structure Inst where
  enabled : Bool
  epoch : Byte
  label : BitVec 12
  staged : Vector Word 16
  dbNext : BitVec 4
  queue : List Desc
  cpl : List (Vector Word 6)
  cplPos : Nat
  job : Option Job
  frozen : Bool
  freezeReq : Bool
  /-- time base [31:0] at the freeze (R473) -/
  frozenAt : Word
  /-- frozen for a restart-class reload (R481) -/
  rlHold : Bool
  chained : Option Desc
  refuse : BitVec 4
  deriving DecidableEq, Repr

structure Glg where
  inst : Vector Inst 65
  window : Vector Word 128
  activeSet : Bool
  swapPending : Bool
  mboxBusy : Bool
  /-- the 64-bit values of the CRC registers in effect, under the offset of the low half (R48) -/
  wide : KMap (BitVec 64)
  /-- the instance whose line was taken up last on each sub-channel (R467) -/
  turn : Vector InstId 4
  deriving DecidableEq, Repr

/-! ### Power, thermal, Cast-On, quiesce, events -/

/-- Sub-channel power states (R482). -/
inductive ScPower where
  | active | powerDown | selfRefresh
  deriving DecidableEq, Repr

/-- A temperature sensor: found at SIDEBAND, last reading, validity. -/
structure Sensor where
  found : Bool
  temp : BitVec 16
  valid : Bool
  fresh : Bool
  deriving DecidableEq, Repr

/-- What the SPD of a DIMM says, as R143 and R154 use it. -/
structure SpdInfo where
  /-- a registered DIMM with ECC of a kind that R2 supports (R6) -/
  kindOk : Bool
  is3ds : Bool
  x8 : Bool
  /-- 0 16 Gb, 1 24 Gb, 2 32 Gb, 3 64 Gb (R420) -/
  density : Fin 4
  /-- log2 of the stack height -/
  lrLog : Fin 5
  pkgRanks : Nat
  capacityGib : Nat
  /-- highest supported data rate in units of 400 MT/s -/
  maxRate : Nat
  serial : Word
  deriving DecidableEq, Repr

/-- A transaction on the sideband of a channel (R141, R532): the broadcast that gives every device its address, and reads.
Nothing is ever written to a device. -/
inductive I3cOp where
  | setaasa
  | read (slot : Fin 2) (d : I3cDev)
  deriving DecidableEq, Repr

/-- A DIMM slot (R141, R488 to R490). -/
structure Slot where
  /-- its devices have their addresses by SETAASA (R532) -/
  assigned : Bool
  spd : Option SpdInfo
  spdTries : Nat
  sensors : Vector Sensor 3
  tries : Vector Nat 3
  pmicTries : Nat
  pmicNew : Option (BitVec 16)
  pmic : BitVec 16
  pmicValid : Bool
  invalidPolls : Nat
  failsafe : Bool
  deriving DecidableEq, Repr

/-- Bind-Off bookkeeping for its record (R502). -/
structure BindOff where
  from_ : Ctl
  gear : Gear
  startCk : Nat
  replayRan : Bool
  deepExit : Bool
  recStopped : Bool
  drained : Nat
  copied : Nat
  lost : Nat
  deriving DecidableEq, Repr

structure Pwr where
  sc : Vector ScPower 4
  /-- an MR4 poll or an oscillator update fell due while the sub-channel was in self-refresh (R483) -/
  due : BitVec 4
  waking : Bool
  deferred : List RegAcc
  integ : Int
  u : Nat
  critical : Bool
  tMax : BitVec 16
  /-- when DORMANT was entered -/
  dormantAt : Nat
  bo : Option BindOff
  deriving DecidableEq, Repr

/-- A channel in Cast-On and service (R143 to R152, R372). -/
structure Chan where
  inSeq : Bool
  excluded : Bool
  unpopulated : Bool
  retPath : Bool
  initDone : Bool
  padsOn : Bool
  /-- DRST_n released on the cold path, or self-refresh left on the retention path -/
  released : Bool
  kept : Bool
  /-- chip selects taken offline (R152); a spare that failed training has the number after the last -/
  offline : BitVec 4
  /-- every rank is in self-refresh -/
  inSr : Bool
  latch : Bool
  deriving DecidableEq, Repr

/-- How a Lifeline serves the training of a chip select (R154, R321): not at all; that of the image from the start; the
copy in DRAM from step 0x5 on. -/
inductive LlUse where
  | full | image | copy
  deriving DecidableEq, Repr

/-- Training of a sub-channel (R149 to R155): the gear by its place in ascending order of data rate, the
chip selects left to train at it, the step of the first of them, the tries of the step, whether the chip
select starts from a Lifeline, and the chip selects that failed at each gear. The spare of a channel has
the number after the last of the geometry. -/
structure Train where
  gearPos : Nat
  left : List Nat
  step : Nat
  /-- the logical rank whose read check runs (R150) -/
  lr : Nat
  tries : Nat
  ll : LlUse
  /-- intersections of the eyes of the chip selects trained so far at the gear, as positions, under 64 × kind + index:
  kind 0 receive gate, 1 receive code, 2 reference voltage, 3 transmit strobe, 4 transmit code, 5 the passing phases of
  CA_ALIGN as a mask (R320) -/
  eyes : KMap (Int × Int)
  /-- those of the chip selects that have finished the gear: a chip select that starts again or fails leaves them -/
  eyes0 : KMap (Int × Int)
  /-- the chip select has failed a check of its restored codes and is fully trained (R155, R321) -/
  mustFull : Bool
  /-- device words of the gear: word 10 cs + d of device d of chip select cs, by its number on the bus (R327) -/
  devs : List Word
  /-- transmit codes that WRITE_LEVEL left (R311) -/
  tx5 : List Code
  failed : Vector (BitVec 4) 4
  deriving DecidableEq, Repr

structure Glb where
  ctl : Ctl
  haltCause : Byte
  step : Byte
  gear : Gear
  ctlId : BitVec 10
  chanEn : BitVec 2
  imgBase : BitVec 6
  pfN : Bool
  now : Nat
  cc : Nat
  coreRun : Bool
  vddqOk : Bool
  pllTries : Nat
  /-- a word was acknowledged in this ac: img_req and fuse_rd stay low until the next one (R67) -/
  ackGap : Bool
  fuses : List Word
  ch : Vector Chan 2
  slot : Vector Slot 4
  train : Vector Train 4
  /-- the early-service bitmap (R155) -/
  init : BitVec 1048576
  /-- the bits that the bitmap copies hold (R160, R161) -/
  initCopy : BitVec 1048576
  /-- bits that wait with their bitmap-copy line for a full copy-line buffer (R160) -/
  initWait : List Nat
  /-- on-demand queue of each sub-channel (R165) -/
  onDemand : Vector (List Nat) 4
  /-- lines zeroed of each region of a sub-channel whose zeroing has begun (R165, R166) -/
  zero : Vector (KMap Nat) 4
  /-- SERVICE was entered since the last Cast-On (R139) -/
  served : Bool
  /-- this Cast-On is that of a restart-class reload (R169) -/
  restart : Bool
  deriving DecidableEq, Repr

/-- Where a pause stands (R74 to R80). -/
inductive QzPhase where
  | idle
  /-- requested in CAST_ON or GEAR_CHANGE: taken where SERVICE would be entered -/
  | deferred
  /-- hold is raised, which sets the line boundary; writes still enter their queues -/
  | boundary
  /-- a deep pause waits for self-refresh -/
  | waitSr
  | paused
  /-- a deep pause exits self-refresh -/
  | exiting
  | barrier
  /-- ended or drained; qz_ack stays high until qz_req is low (R78) -/
  | ended
  deriving DecidableEq, Repr

structure Qz where
  req : Bool
  hold : BitVec 16
  deep : Bool
  ph : QzPhase
  ack : Bool
  paused : Bool
  deriving DecidableEq, Repr

/-- A PP value awaiting confirmation (R43). -/
structure PpPend where
  off : Nat
  val : Word
  at_ : Nat
  /-- counted in cc (true) or in ac (R44) -/
  inCc : Bool
  deriving DecidableEq, Repr

/-- A stage of the chain: a word, its parity bit and its poison tag (R512). -/
structure Stage where
  word : Word
  parity : Bool
  bad : Bool
  deriving DecidableEq, Repr

/-- A record in the chain: its unread words, whether it is a GAP, whether a word has been read, when it became complete, and
how many µs have been seen to pass since (R506 to R514). -/
structure ChainRec where
  words : List Stage
  sev : Fin 8
  seq : BitVec 16
  gap : Bool
  begun : Bool
  since : Nat
  waited : Nat
  deriving DecidableEq, Repr

/-- A GAP being built: count, mask, severity, first sequence, time (R508). -/
structure Gap where
  count : Nat
  mask : Byte
  sev : Fin 8
  seq : BitVec 16
  time : BitVec 64
  deriving DecidableEq, Repr

/-- A raised record in the raise buffer, with the drops attached to it (R506). -/
structure Rec where
  words : List Word
  sev : Fin 8
  drops : Option Gap
  deriving DecidableEq, Repr

structure Evt where
  buf : List Rec
  chain : List ChainRec
  pend : Option Gap
  nextSeq : BitVec 16
  /-- time of the last record under a limiter key, and events since it (R259, R285, R334, R375, R502, R519) -/
  lim : KMap (Option Nat × Nat)
  /-- expiries of each timer code since aon_rst_n (EVT_TO_INFO) -/
  expiries : KMap Word
  deriving DecidableEq, Repr

/-- Outputs of the macro in the last command. -/
inductive Out where
  | rsp (p : PortId) (tag : BitVec 10) (gen : BitVec 2) (st : Status) (data : Line)
      (src : BitVec 10) (xid : BitVec 16) (stale : Bool) (epoch : BitVec 8)
  | credit (p : PortId) (wr : Bool)
  | reg (resp : BitVec 2) (rdata : Word)
  | cmd (sc : Sc) (ck : Nat) (c : Cmd)
  /-- a write burst: check and data symbols on the pins -/
  | burst (sc : Sc) (ck : Nat) (b : Burst)
  | egp (token : BitVec 16) (r : EgpReq)
  | i3c (ch : Ch) (op : I3cOp)
  /-- consecutive lines of an open row that Cast-On reads back, in order (R161, R362) (DESIGN CHOICE, log 40) -/
  | fetch (first : Lla) (n : Nat)
  deriving DecidableEq, Repr

/-- The state of the controller. -/
structure State where
  glb : Glb
  regs : KMap Word
  pp : Option PpPend
  qz : Qz
  ports : Vector Port 5
  reqs : List Req
  nextId : Nat
  sched : Vector Sched 4
  alert : Vector Alert 2
  ref : Ref
  qos : Qos
  phy : Phy
  ras : Ras
  egp : Egp
  mir : Mir
  dom : Dom
  img : Img
  glg : Glg
  pwr : Pwr
  evt : Evt
  /-- outputs of the last command: the model's own field -/
  out : List Out
  /-- records of the last command at the tail of the raise buffer: the model's own field (DEDUCED, log 56) -/
  raised : Nat
  /-- names the next free value: the model's own field (DESIGN CHOICE, log 3) -/
  free : Nat
  pending : List Instr
  deriving DecidableEq, Repr

/-! ### Reset -/

/-- An idle port without credits (R97: all credits are zero at reset); lpn_hold is high in RESET (R104). -/
def Port.reset : Port := ⟨0, 0, 0, 0, true, none, []⟩

def Sched.reset : Sched where
  rq := []
  wq := []
  copy := []
  writeMode := false
  modeBy := .watermark
  fullDrain := false
  wrIssued := 0
  dataCk := 0
  ck := 0
  rows := []
  hist := []
  recs := []
  pipe := []
  lost := []
  gated := []
  lines := []
  heldRds := []
  locks := []
  replay := .none
  attempts := 0
  replayEnd := 0
  window := []
  since := []
  crcOnly := false
  wdogLast := none
  writeHold := false
  forceWindow := false
  maint := Vector.replicate 7 []
  maskVec := 0
  holder := none
  burst := 0
  limit := 0
  waitFrom := Vector.replicate 7 none

def Alert.reset : Alert where
  low := false
  cls := 0
  width := 0
  attempts := 0
  cmds := 0
  affected := 0
  again := false
  recovering := false
  recFrom := 0
  failedSc := 0
  slept := false
  byWdog := false
  oos := false

def Ref.reset : Ref where
  units := []
  doubled := Vector.replicate 2 false
  mr4 := Vector.replicate 2 .x1
  groups := []
  cache := []
  clock := 0
  posted := []
  fetching := []
  due := []
  abo := Vector.replicate 2 []
  aboLate := Vector.replicate 2 false
  raa := []
  rcHeld := []

def Qos.reset : Qos where
  parts := []
  vt := Vector.replicate 4 (Vector.replicate 5 0)
  tb := Vector.replicate 4 32768
  wheel := 0
  tick := 0
  staging := Vector.replicate 8 0
  pendingQpt := none
  pendingMore := []
  panic := false
  urgent := false
  peakRtp := 0
  lastCrdRd := 3
  lastCrdWr := 3

def Lane.reset : Lane where
  tx := 0
  txTo := 0
  codeA := 0
  codeB := 0
  vrefA := 0
  vrefB := 0
  liveB := false
  phase := .idle
  c := 0
  v := 0
  left := 0
  right := 0
  t := 0
  top := 0
  bottom := 0
  u := 0
  open_ := false
  width := 0
  height := 0
  errs := 0
  dis := 0

def Group.reset : Group where
  txs := 0
  gate := 0
  gateTo := 0
  compared := 0
  lastSwap := 0
  rdAlign := 0
  wrAlign := 0
  promotions := 0
  rejects := 0
  settled := 0
  rejectRun := 0
  reason := 0
  lastPromo := 0
  confirming := false
  exchange := false
  backoff := false
  cfg := Vector.replicate 4 0

def PhySc.reset : PhySc where
  lanes := Vector.replicate 40 Lane.reset
  groups := Vector.replicate 10 Group.reset
  caPhase := 0
  seq := .idle
  run := none
  osc := none
  winCk := 0
  waitCk := none
  swReq := false
  swWanted := false
  nref := []
  moved := Vector.replicate 10 0

def Phy.reset : Phy where
  sc := Vector.replicate 4 PhySc.reset
  lifeline := []
  llChanged := Vector.replicate 8 false
  llBuf := []
  boot := []
  gearWait := none
  gearPending := none
  gearTo := none
  shadow := 0
  policyRun := 0

def Ras.reset : Ras where
  units := []
  log := Vector.replicate 4 []
  scrub := Vector.replicate 4 ⟨false, 0, 0, false, 1, []⟩
  ppr := none
  pprWait := []
  rpl := []
  spare := Vector.replicate 2 ⟨.none, 0, 0, Vector.replicate 2 0, [], none⟩
  dbg := none
  fetch := []
  reached := []

def Egp.reset : Egp := ⟨[], [], 0⟩

def Mir.reset : Mir where
  primary := false
  pair := .disabled
  cause := 0
  hold5 := false
  hold6 := false
  epoch := 0
  peerEpoch := 0
  proto := 0
  alive := false
  missedBeats := 0
  exchange := none
  retained := false
  degradedAt := 0
  joinLate := false
  dirty := 0
  dirtyCopy := []
  recordMsgs := []
  walk := Vector.replicate 4 0
  walkOk := Vector.replicate 4 0
  role := none
  unconf := none
  record := none
  ctlBusy := false
  locks := []

def Dom.reset : Dom where
  inbox := []
  seqOut := 0
  round := 0
  res := none
  snap := []
  snapHeld := none
  startedAt := none
  lowInitAt := none
  told := []
  out := []

def Reload.reset : Reload := ⟨.idle, 0, 0, false, 0, none, false, false⟩

def Img.reset : Img where
  words := []
  staging := []
  fetch := none
  applied := false
  rl := Reload.reset
  bcastId := 0
  bcastBack := false
  bcastTo := []
  bcastPh := []
  appliedBy := []

/-- An instance after reset: tenants are disabled, the manager is always enabled (R448). -/
def Inst.reset (manager : Bool) : Inst where
  enabled := manager
  epoch := 0
  label := 0
  staged := Vector.replicate 16 0
  dbNext := 0
  queue := []
  cpl := []
  cplPos := 0
  job := none
  frozen := false
  freezeReq := false
  frozenAt := 0
  rlHold := false
  chained := none
  refuse := 0

def Glg.reset : Glg where
  inst := (Vector.replicate 65 (Inst.reset false)).set 64 (Inst.reset true)
  window := Vector.replicate 128 0
  activeSet := false
  swapPending := false
  mboxBusy := false
  wide := []
  turn := Vector.replicate 4 64

def Slot.reset : Slot where
  assigned := false
  spd := none
  spdTries := 0
  sensors := Vector.replicate 3 ⟨false, 0, false, false⟩
  tries := Vector.replicate 3 0
  pmicTries := 0
  pmicNew := none
  pmic := 0
  pmicValid := false
  invalidPolls := 0
  failsafe := false

def Pwr.reset : Pwr where
  sc := Vector.replicate 4 .active
  due := 0
  waking := false
  deferred := []
  integ := 0
  u := 1024
  critical := false
  tMax := 0
  dormantAt := 0
  bo := none

/-- A channel after reset, with the latch that survives it (R65). -/
def Chan.reset (latch : Bool) : Chan :=
  ⟨false, false, false, false, false, false, false, false, 0, latch, latch⟩

def Train.reset : Train where
  gearPos := 0
  left := []
  step := 0
  lr := 0
  tries := 0
  ll := .full
  eyes := []
  eyes0 := []
  mustFull := false
  devs := []
  tx5 := []
  failed := Vector.replicate 4 0

def Glb.reset : Glb where
  ctl := .reset
  haltCause := 0
  step := 0
  gear := 0
  ctlId := 0
  chanEn := 0
  imgBase := 0
  pfN := true
  now := 0
  cc := 0
  coreRun := false
  vddqOk := true
  pllTries := 0
  ackGap := false
  fuses := []
  ch := Vector.replicate 2 (Chan.reset false)
  slot := Vector.replicate 4 Slot.reset
  train := Vector.replicate 4 Train.reset
  init := 0
  initCopy := 0
  initWait := []
  onDemand := Vector.replicate 4 []
  zero := Vector.replicate 4 []
  served := false
  restart := false

def Qz.reset : Qz := ⟨false, 0, false, .idle, false, false⟩

def Evt.reset : Evt := ⟨[], [], none, 0, [], []⟩

/-- The controller in RESET after power-up (R63, R65, R66): aon_rst_n is asserted, no retention
latch is set, every register holds its reset value, no command waits. -/
def State.reset : State where
  glb := Glb.reset
  regs := []
  pp := none
  qz := Qz.reset
  ports := Vector.replicate 5 Port.reset
  reqs := []
  nextId := 0
  sched := Vector.replicate 4 Sched.reset
  alert := Vector.replicate 2 Alert.reset
  ref := Ref.reset
  qos := Qos.reset
  phy := Phy.reset
  ras := Ras.reset
  egp := Egp.reset
  mir := Mir.reset
  dom := Dom.reset
  img := Img.reset
  glg := Glg.reset
  pwr := Pwr.reset
  evt := Evt.reset
  out := []
  raised := 0
  free := 0
  pending := []

end Sys2Proof.Machine
end

