-- ==== Sys2Proof/Machine/Bits.lean ====
section
/-! DEFINITION. Bit fields, bytes and words of a line, sparse maps and the CRC of R463. -/

namespace Sys2Proof.Machine

/-- The field [hi:lo] of a word, as a number. -/
def fld (w : Word) (hi lo : Nat) : Nat := w.toNat / 2 ^ lo % 2 ^ (hi + 1 - lo)

/-- Bit n of a word. -/
def bitOf (w : Word) (n : Nat) : Bool := w.getLsbD n

/-- A flag as a number. -/
def b2n (b : Bool) : Nat := if b then 1 else 0

/-- A word made of fields: values with the position of their lowest bit. -/
def pack : List (Nat × Nat) → Word
  | [] => 0
  | (v, lo) :: r => (BitVec.ofNat 32 v <<< lo) ||| pack r

/-- A word with one field replaced. -/
def setFld (w : Word) (hi lo v : Nat) : Word :=
  BitVec.ofNat 32 (w.toNat - fld w hi lo * 2 ^ lo + v % 2 ^ (hi + 1 - lo) * 2 ^ lo)

/-- A number that saturates at `m`. -/
def sat (m n : Nat) : Nat := if n < m then n else m

/-- Two's complement of an integer in n bits, as a number. -/
def twos (n : Nat) (z : Int) : Nat := (z % (2 ^ n : Nat)).toNat

/-! ### Vectors -/

/-- Replace one element. -/
def vset {α : Type} {n : Nat} (v : Vector α n) (i : Fin n) (x : α) : Vector α n := v.set i.val x i.isLt

/-- Apply a function to one element. -/
def vmod {α : Type} {n : Nat} (v : Vector α n) (i : Fin n) (f : α → α) : Vector α n := vset v i (f (v.get i))

/-- All indices of a vector, in ascending order. -/
def fins (n : Nat) : List (Fin n) := List.finRange n

/-- Index i of a vector of length n + 1, or the last one. -/
def finOr (n i : Nat) : Fin (n + 1) := if h : i < n + 1 then ⟨i, h⟩ else ⟨n, Nat.lt_succ_self n⟩

/-! ### Sparse maps -/

/-- The value under a key, if it is listed. -/
def kfind {α : Type} : KMap α → Nat → Option α
  | [], _ => none
  | (k, v) :: m, i => if k = i then some v else kfind m i

/-- The value under a key, or the default. -/
def kget {α : Type} (d : α) (m : KMap α) (i : Nat) : α := (kfind m i).getD d

/-- Put a value under a key; keys stay strictly rising. -/
def kset {α : Type} : KMap α → Nat → α → KMap α
  | [], i, x => [(i, x)]
  | (k, v) :: m, i, x =>
    if i < k then (i, x) :: (k, v) :: m
    else if i = k then (i, x) :: m
    else (k, v) :: kset m i x

/-- Remove a key. -/
def kdel {α : Type} (m : KMap α) (i : Nat) : KMap α := m.filter fun e => e.1 ≠ i

/-- The keys are strictly rising. -/
def kwf {α : Type} : KMap α → Bool
  | [] => true
  | [_] => true
  | (a, _) :: (b, y) :: m => decide (a < b) && kwf ((b, y) :: m)

/-! ### Lines -/

/-- Byte j of a line (R90). -/
def lineByte (l : Line) (j : Nat) : Byte := l.extractLsb' (8 * j) 8

/-- Word k of a line: bytes 4k to 4k + 3, little-endian (R95). -/
def lineWord (l : Line) (k : Nat) : Word := l.extractLsb' (32 * k) 32

/-- The bytes of a line in order. -/
def lineBytes (l : Line) : List Byte := (List.range 64).map (lineByte l)

/-- A line whose first bytes are given; the rest is 0. -/
def lineOfBytes : List Byte → Line
  | [] => 0
  | b :: r => (b.setWidth 512) ||| (lineOfBytes r <<< 8)

/-- A line whose first words are given; the rest is 0. -/
def lineOfWords : List Word → Line
  | [] => 0
  | w :: r => (w.setWidth 512) ||| (lineOfWords r <<< 32)

/-- The four bytes of a word, least significant first. -/
def wordBytes (w : Word) : List Byte := (List.range 4).map fun j => w.extractLsb' (8 * j) 8

/-- A number from little-endian bytes. -/
def leNat : List Byte → Nat
  | [] => 0
  | b :: r => b.toNat + 256 * leNat r

/-- Spread a byte mask over the bits of a line. -/
def spread (m : BitVec 64) : Line :=
  lineOfBytes ((List.range 64).map fun j => if m.getLsbD j then 0xFF else 0)

/-- Replace the bytes of `old` whose mask bit is 1 (R93). -/
def mergeLine (old new : Line) (m : BitVec 64) : Line :=
  (old &&& ~~~(spread m)) ||| (new &&& spread m)

/-- Parity of a number below 2^n: the exclusive or of its bits (R177). -/
def parity (n v : Nat) : Bool := (List.range n).foldl (fun p i => p != v.testBit i) false

/-- Number of ones among the low n bits. -/
def ones (n v : Nat) : Nat := (List.range n).foldl (fun c i => c + b2n (v.testBit i)) 0

/-- One halving step of a population count over 2^20 bits: fields of 2^k bits are added in pairs. -/
def popStep (v k : Nat) : Nat :=
  let m := (2 ^ 1048576 - 1) / (2 ^ (2 ^ k) + 1)
  (v &&& m) + ((v >>> 2 ^ k) &&& m)

/-- Ones of a 2^20-bit map. -/
def popMap (b : BitVec 1048576) : Nat := (List.range 20).foldl popStep b.toNat

/-! ### The CRC of R463 -/

/-- The parameters of a CRC (R461 to R463): width, polynomial, initial value, final exclusive or. -/
structure CrcParam where
  w : Nat
  poly : Nat
  init : Nat
  xorout : Nat
  refin : Bool
  refout : Bool
  deriving DecidableEq, Repr

/-- One message bit. -/
def crcBit (w poly r : Nat) (b : Bool) : Nat :=
  let r' := 2 * r % 2 ^ w
  if r.testBit (w - 1) != b then r' ^^^ (poly % 2 ^ w) else r'

/-- Bits of a byte in the order they enter: least significant first when reflected. -/
def byteBits (refl : Bool) (b : Byte) : List Bool :=
  (List.range 8).map fun i => b.getLsbD (if refl then i else 7 - i)

/-- The register after one byte. -/
def crcByte (p : CrcParam) (r : Nat) (b : Byte) : Nat :=
  (byteBits p.refin b).foldl (crcBit p.w p.poly) r

/-- The low w bits of a number in reverse order. -/
def reflect (w v : Nat) : Nat :=
  (List.range w).foldl (fun a i => 2 * a + b2n (v.testBit i)) 0

/-- The digest that a register value stands for: reflected out and with the final exclusive or. -/
def crcOut (p : CrcParam) (r : Nat) : Nat :=
  ((if p.refout then reflect p.w r else r) ^^^ p.xorout) % 2 ^ p.w

/-- The digest of a message. -/
def crc (p : CrcParam) (m : List Byte) : Nat :=
  crcOut p (m.foldl (crcByte p) (p.init % 2 ^ p.w))

/-- CRC-64/XZ, set 0 (R417, R463). -/
def crc64xz : CrcParam := ⟨64, 0x42F0E1EBA9EA3693, 0xFFFFFFFFFFFFFFFF, 0xFFFFFFFFFFFFFFFF, true, true⟩

/-- CRC-32C, set 1 (R136, R416, R463). -/
def crc32c : CrcParam := ⟨32, 0x1EDC6F41, 0xFFFFFFFF, 0xFFFFFFFF, true, true⟩

end Sys2Proof.Machine
end

