-- ==== Sys2Proof/Machine/Regs.lean ====
section
/-! DEFINITION. The registers: one row of `regTable` per group of registers of the manual, with their
kind, the bits that hold fields, and the reset value; and the operations on stored register words. -/

namespace Sys2Proof.Machine

/-- What a register does on the register port (02, "Register types"). A register the manual types RO
keeps apart the values that the image may load (R426): `cfg` from LOADS_RESTART, `live` from LOADS_LIVE. -/
inductive RegKind where
  | rw | ro | cfg | live | wo | sq | pp | ppc
  /-- a half of a writable WD value: it has no aliases (R38, R48) -/
  | wd
  /-- a queue or an indexed data port (R49, R51) -/
  | port
  deriving DecidableEq, Repr

/-- A group of registers at base + stride a + stride2 b, for a below n and b below n2. -/
structure RegRow where
  base : Nat
  n : Nat
  stride : Nat
  n2 : Nat
  stride2 : Nat
  kind : RegKind
  mask : Word
  reset : Word
  deriving DecidableEq, Repr

/-- One register. -/
def reg1 (base : Nat) (k : RegKind) (mask reset : Word) : RegRow := ⟨base, 1, 4, 1, 4, k, mask, reset⟩
/-- n registers at a stride. -/
def regN (base n stride : Nat) (k : RegKind) (mask reset : Word) : RegRow := ⟨base, n, stride, 1, 4, k, mask, reset⟩

/-- A PP register and its companion (R43). -/
def regPP (base : Nat) (mask reset : Word) : List RegRow :=
  [reg1 base .pp mask reset, reg1 (base + 4) .ppc 0 0]

/-- GLB (02, 05), EVT (16) and PWR (15). -/
def regsAon : List RegRow :=
  [ reg1 0x0000 .ro 0xFFFFFFFF 0x575A4432, reg1 0x0004 .ro 0xFFFFFFFF 0x00030100,
    reg1 0x0008 .ro 0x000003FF 0, reg1 0x000C .ro 0x00FFFF3F 0x00000001,
    reg1 0x0010 .sq 0x000001FF 0, regN 0x0018 2 4 .ro 0xFFFFFFFF 0 ]
  ++ regPP 0x0020 0x0003FFFF 0 ++
  [ reg1 0x0028 .ro 0x8003FFFF 0, reg1 0x002C .rw 0xFFFFFFFF 0,
    reg1 0x0040 .sq 0x00FF3FC1 0, reg1 0x0044 .ro 0x001FFFFF 0x00100000,
    regN 0x0048 4 4 .ro 0xFFFFFFFF 0,
    reg1 0x2000 .rw 0xFFFFFFFF 0xC2080064, reg1 0x2004 .ro 0x00FF3F1F 0,
    reg1 0x2008 .port 0 0, reg1 0x200C .wo 0x00000001 0, reg1 0x2010 .sq 0x0000001F 0,
    reg1 0x2014 .ro 0xFFFFFFFF 0, reg1 0x2020 .rw 0x0000001F 0x00000001,
    reg1 0x2024 .ro 0xFFFFFFFF 0, regN 0x2040 6 4 .ro 0xFFFFFFFF 0,
    reg1 0x3000 .live 0xF8FFFFFF 0xC0080064, reg1 0x3004 .live 0xFFFFFFFF 0x03E803E8,
    reg1 0x3008 .cfg 0x0000FFFF 0x00000040, reg1 0x300C .live 0xF0FFFFFF 0x00143C64,
    reg1 0x3010 .live 0xFFFFF0FF 0x555F2010, reg1 0x3014 .live 0xFFF007FF 0x5AA00100 ]
  ++ regPP 0x3018 0xFFFFFFFF 0x02000100 ++
  [ reg1 0x3020 .cfg 0x00001FFF 0x00000960, reg1 0x3024 .ro 0xC00000FF 0,
    reg1 0x3028 .ro 0xC7FFFFFF 0x04000000, reg1 0x302C .ro 0xFFFFFFFF 0,
    reg1 0x3030 .rw 0x00000003 0, reg1 0x3034 .ro 0xFFFFFFFF 0, reg1 0x3038 .ro 0x0000FFFF 0,
    reg1 0x303C .ro 0xF800FFFF 0, regN 0x3040 4 4 .ro 0xFFFFFFFF 0,
    reg1 0x3050 .sq 0x0000003F 0, regN 0x3060 7 4 .ro 0xFFFFFFFF 0 ]

/-- IMG and DOM (13), MIR (12). -/
def regsDom : List RegRow :=
  [ reg1 0x4000 .ro 0xFFFFFFFF 0, reg1 0x4004 .ro 0xFF07FFFF 0, regN 0x4008 4 4 .ro 0xFFFFFFFF 0,
    reg1 0x4018 .ro 0xFFFF0000 0, reg1 0x401C .ro 0x0007FFFF 0 ]
  ++ regPP 0x4020 0x8000003F 0 ++
  [ reg1 0x4028 .ro 0xFFFFFF00 0, reg1 0x4030 .rw 0x03FF03FF 0 ]
  ++ regPP 0x4034 0xE000003F 0 ++
  [ reg1 0x403C .ro 0x80FF07FF 0, regN 0x4040 5 4 .ro 0x000007FF 0, reg1 0x4054 .ro 0xFFFFFFFF 0,
    reg1 0x4060 .sq 0x0000000F 0,
    reg1 0x5000 .ro 0xFFFFFFFF 0, reg1 0x5004 .ro 0x07FF03FF 0, regN 0x5008 2 4 .ro 0x03FF03FF 0,
    reg1 0x5010 .ro 0xF03FFFFF 0, regN 0x5014 2 4 .ro 0xFFFFFFFF 0, reg1 0x501C .ro 0x0000FFFF 0,
    regN 0x5020 2 4 .ro 0xFFFFFFFF 0, reg1 0x5028 .ro 0x8000000F 0, reg1 0x502C .port 0 0,
    reg1 0x5030 .sq 0x0000001F 0, regN 0x5040 7 4 .ro 0xFFFFFFFF 0,
    reg1 0x6000 .cfg 0xE3FF0000 0, reg1 0x6004 .cfg 0xFFFFFFFF 0x27100064, reg1 0x6008 .ro 0xFFFCFFFF 0,
    regN 0x600C 2 4 .ro 0x001FFFFF 0, regN 0x6018 2 4 .ro 0xFFFFFFFF 0 ]
  ++ regPP 0x6020 0xF0000000 0 ++
  [ reg1 0x6028 .ro 0xF0000000 0, reg1 0x602C .sq 0x0000001F 0, regN 0x6040 8 4 .ro 0xFFFFFFFF 0 ]

/-- PRT (04), QOS and QPT (09). -/
def regsPort : List RegRow :=
  [ regN 0x8000 5 0x40 .cfg 0x03FF07FF 0, ⟨0x8004, 5, 0x40, 2, 4, .ro, 0x03FF07FF, 0⟩,
    regN 0x800C 4 0x40 .sq 0x0000002F 0, reg1 0x810C .sq 0x0000003F 0,
    ⟨0x8010, 5, 0x40, 3, 4, .ro, 0xFFFFFFFF, 0⟩,
    reg1 0x8140 .rw 0x00FF007F 0x00A00030, reg1 0x8144 .ro 0x007F807F 0,
    regN 0x8180 2 4 .ro 0xFFFFFFFF 0, reg1 0x8200 .ro 0x01FF01FF 0, reg1 0x8204 .rw 0x00000FFF 0,
    regN 0x8208 2 4 .ro 0xFFFFFFFF 0, reg1 0x8210 .sq 0x00000007 0 ]
  ++ regPP 0x9000 0x00000003 0x00000003 ++
  [ regN 0x9008 2 4 .ro 0xFFFFFFFF 0, reg1 0x9010 .ro 0x07FF07FF 0x04000400,
    regN 0x9020 4 4 .ro 0x80FF007F 0, reg1 0x9030 .ro 0x007F07FF 0, reg1 0x9034 .sq 0x00000007 0,
    regN 0x9040 5 4 .ro 0xFFFFFFFF 0,
    reg1 0xA000 .rw 0x0000001F 0, reg1 0xA004 .rw 0x00000FFF 0, reg1 0xA008 .port 0 0 ]
  ++ regPP 0xA010 0x80000FFF 0 ++ [ reg1 0xA018 .ro 0xF0000FFF 0 ]

/-- SCH, MNT, TIM and DBG (07), REF (08). -/
def regsSched : List RegRow :=
  [ regN 0xC000 4 0x400 .rw 0xFFFFFF01 0x10602001, regN 0xC004 4 0x400 .rw 0xFFFFFFFF 0x01002010,
    regN 0xC008 4 0x400 .cfg 0x03FFFFFF 0x02000040, regN 0xC00C 4 0x400 .ro 0xE0FF01FF 0,
    regN 0xC010 4 0x400 .sq 0x0000001F 0, regN 0xC014 4 0x400 .ro 0x000301FF 0,
    regN 0xC018 4 0x400 .ro 0x00FF01FF 0, ⟨0xC020, 4, 0x400, 10, 4, .ro, 0xFFFFFFFF, 0⟩,
    reg1 0xD000 .rw 0x0000FFFF 0, reg1 0xD004 .rw 0x0000FFFF 16, reg1 0xD008 .rw 0x0000FFFF 64,
    reg1 0xD00C .rw 0x0000FFFF 32, regN 0xD010 2 4 .rw 0x0000FFFF 64, reg1 0xD018 .rw 0x0000FFFF 16,
    regN 0xD040 4 4 .ro 0xF87F7F00 0, regN 0xD050 4 4 .ro 0x0000FFFF 0, regN 0xD060 4 4 .ro 0xFFFFFFFF 0,
    reg1 0xD070 .sq 0x0000000F 0, ⟨0xD100, 4, 0x100, 7, 0x10, .ro, 0xFFFFFFFF, 0⟩,
    ⟨0xD104, 4, 0x100, 7, 0x10, .ro, 0xFFFFFFFF, 0⟩, ⟨0xD108, 4, 0x100, 7, 0x10, .ro, 0xFFFFFFFF, 0⟩,
    regN 0xE000 4 0x200 .ro 0xE000001F 0, ⟨0xE010, 4, 0x200, 47, 4, .ro, 0x0000FFFF, 0⟩ ]
  ++ regPP 0x38000 0xF3FC00FF 0 ++
  [ reg1 0x38008 .rw 0xFFFFFFFF 0, reg1 0x3800C .rw 0x0000003F 0, reg1 0x38010 .ro 0xF8000000 0,
    regN 0x38040 16 4 .ro 0xFFFFFFFF 0, reg1 0x10000 .cfg 0xFFFCFFFF 0 ]
  ++ regPP 0x10004 0xFFFFFFFF 0x04000100 ++
  [ reg1 0x1000C .ro 0x00F7FFFF 0, regN 0x10010 4 4 .ro 0xC0F07F00 0, reg1 0x10020 .rw 0x000000FF 0,
    reg1 0x10024 .ro 0xFE007FFF 0, reg1 0x10030 .sq 0x000003FF 0, reg1 0x10034 .ro 0x7FFF7FFF 0,
    reg1 0x10038 .cfg 0xFFFF000F 0, regN 0x10040 6 4 .ro 0xFFFFFFFF 0,
    ⟨0x10100, 4, 0x40, 8, 4, .ro, 0xFFFFFFFF, 0⟩ ]

/-- MAP (06) and RAS (11). -/
def regsRas : List RegRow :=
  [ reg1 0x12000 .ro 0x00FF1FFF 0, regN 0x12008 2 4 .ro 0xFFFFFFFF 0, regN 0x12010 6 4 .ro 0x00FFFFFF 0,
    reg1 0x12040 .wd 0xFFFFFFFF 0, reg1 0x12044 .wd 0x80FFFFFF 0, regN 0x12048 2 4 .ro 0xFFFFFFFF 0,
    reg1 0x12050 .ro 0x800F0003 0, ⟨0x12100, 16, 0x20, 7, 4, .ro, 0xFFFFFFFF, 0⟩,
    reg1 0x14000 .cfg 0xFF0000FE 0x8C00003E ]
  ++ regPP 0x14004 0xFFFFFFFF 0x20020401 ++ regPP 0x1400C 0x8000FFFF 0x80000018 ++
  [ reg1 0x14014 .cfg 0x3FFFFFFF 0, reg1 0x14018 .cfg 0x000FFFFF 0, reg1 0x1401C .cfg 0xFFFFFFFF 0x01F40005 ]
  ++ regPP 0x14020 0xFFE00000 0 ++
  [ reg1 0x14028 .rw 0xFFFFFFFF 0, reg1 0x1402C .rw 0x0000003F 0, reg1 0x14030 .sq 0x00FFFFFF 0,
    reg1 0x14034 .ro 0xF0000000 0, regN 0x14040 2 4 .ro 0xFF03FFFF 0, regN 0x14050 4 0x10 .ro 0xFFFFFFFF 0,
    ⟨0x14054, 4, 0x10, 2, 4, .ro, 0x0007FFFF, 0⟩, reg1 0x14090 .rw 0x000000FF 0,
    reg1 0x14094 .ro 0xF8FF0000 0, regN 0x14098 3 4 .ro 0xFFFFFFFF 0, reg1 0x140B0 .rw 0x000003FF 0,
    reg1 0x140B4 .port 0 0, reg1 0x140B8 .ro 0x000001FF 0, ⟨0x14100, 4, 0x40, 10, 4, .ro, 0xFFFFFFFF, 0⟩ ]

/-- PHY (10). -/
def regsPhy : List RegRow :=
  [ reg1 0x20000 .rw 0x000003FF 0x000003FF, reg1 0x20004 .live 0xFFFF03FF 0x40040300,
    reg1 0x20008 .live 0xFFFFFFFF 0x08803010, reg1 0x2000C .live 0xFFFFFFFF 0x01400080,
    reg1 0x20010 .live 0xFFFFF0FF 0x0320C060, reg1 0x20014 .live 0xFFFFFFFF 0x60105064,
    reg1 0x20018 .live 0xFFFFFFFF 0x00002066, reg1 0x2001C .live 0x0000FFFF 0x00000040 ]
  ++ regPP 0x20020 0x0000000F 0 ++ regPP 0x20028 0x80000003 0 ++
  [ reg1 0x20030 .ro 0xF000FFFF 0, reg1 0x20034 .sq 0x003FFFFF 0, reg1 0x20038 .ro 0xC000FFFF 0,
    reg1 0x20040 .rw 0x00000007 0, reg1 0x20044 .rw 0x000001FF 0, reg1 0x20048 .port 0 0,
    reg1 0x20080 .rw 0x00033F0F 0, regN 0x20084 2 4 .ro 0x3FFF3FFF 0, reg1 0x2008C .ro 0xF0003FFF 0,
    reg1 0x20090 .ro 0xFFFFFFFF 0, reg1 0x20094 .ro 0x3FFF3FFF 0, reg1 0x20098 .ro 0xFFFFFFFF 0,
    reg1 0x200C0 .ro 0x3FFF3FFF 0, reg1 0x200C4 .ro 0x000000FF 0, regN 0x200C8 3 4 .ro 0xFFFFFFFF 0,
    reg1 0x200D4 .ro 0xFFFF000F 0, regN 0x200D8 2 4 .ro 0xFFFFFFFF 0,
    regN 0x20100 4 0x10 .ro 0x00000007 0, ⟨0x20104, 4, 0x10, 2, 4, .ro, 0xFFFFFFFF, 0⟩ ]

/-- The words +0x04 to +0x18 of a CRC set after reset: polynomial, initial value and final
exclusive or, low and high (R463). -/
def regsCrc (c : Nat) (cfg pl ph il ih xl xh : Word) : List RegRow :=
  [ reg1 (0x30100 + 0x20 * c) .rw 0xF000007F cfg,
    reg1 (0x30104 + 0x20 * c) .wd 0xFFFFFFFF pl, reg1 (0x30108 + 0x20 * c) .wd 0xFFFFFFFF ph,
    reg1 (0x3010C + 0x20 * c) .wd 0xFFFFFFFF il, reg1 (0x30110 + 0x20 * c) .wd 0xFFFFFFFF ih,
    reg1 (0x30114 + 0x20 * c) .wd 0xFFFFFFFF xl, reg1 (0x30118 + 0x20 * c) .wd 0xFFFFFFFF xh ]

/-- A page of an instance at a model offset (14): DESC_INDEX, STATUS, IRQ_EN and NOTICE are stored. -/
def regsPage (base n : Nat) : List RegRow :=
  [ regN base n 0x1000 .ro 0xFFCFFC7F 0, regN (base + 0x04) n 0x1000 .rw 0x0000001F 0,
    regN (base + 0x08) n 0x1000 .port 0 0, regN (base + 0x0C) n 0x1000 .wo 0xF0FF001F 0,
    regN (base + 0x10) n 0x1000 .ro 0xFFFFFFFF 0, regN (base + 0x14) n 0x1000 .sq 0x0000001F 0,
    regN (base + 0x18) n 0x1000 .rw 0x0000001F 0, regN (base + 0x1C) n 0x1000 .ro 0x0000001F 0,
    regN (base + 0x20) n 0x1000 .port 0 0, regN (base + 0x24) n 0x1000 .ro 0x0000FFFF 0,
    regN (base + 0x28) n 0x1000 .wo 0x00000003 0 ]

/-- GLG (14). Tenant page n of the instance window is kept under 0x10_0000 + n × 0x1000. -/
def regsGlg : List RegRow :=
  [ reg1 0x30000 .sq 0x0000003F 0, reg1 0x30004 .rw 0x0000003F 0, reg1 0x30008 .rw 0xFFFFFFFF 0 ]
  ++ regPP 0x30010 0xF0FF007F 0 ++
  [ reg1 0x30018 .ro 0xF0FF007F 0, reg1 0x30020 .rw 0x000000FF 0, reg1 0x30024 .port 0 0 ]
  ++ regPP 0x30030 0x00000001 0 ++
  [ reg1 0x30038 .ro 0xC000007F 0, reg1 0x30040 .ro 0xFFF8FFFF 0, regN 0x30044 2 4 .ro 0xFFFFFFFF 0,
    reg1 0x3004C .ro 0x8FE0FFFF 0, reg1 0x30050 .wo 0x00000003 0, regN 0x30060 7 4 .ro 0xFFFFFFFF 0 ]
  ++ regsCrc 0 0xC0000040 0xA9EA3693 0x42F0E1EB 0xFFFFFFFF 0xFFFFFFFF 0xFFFFFFFF 0xFFFFFFFF
  ++ regsCrc 1 0xC0000020 0x1EDC6F41 0 0xFFFFFFFF 0 0xFFFFFFFF 0
  ++ regsCrc 2 0xC0000020 0x04C11DB7 0 0xFFFFFFFF 0 0xFFFFFFFF 0
  ++ regsCrc 3 0xC0000010 0x00008005 0 0 0 0 0
  ++ regsCrc 4 0x00000010 0x00001021 0 0x0000FFFF 0 0 0
  ++ [ regN 0x301A0 3 0x20 .rw 0xF000007F 0, ⟨0x301A4, 3, 0x20, 6, 4, .wd, 0xFFFFFFFF, 0⟩,
    reg1 0x30200 .rw 0x0007001F 0, regN 0x30204 4 4 .rw 0xFFFFFFFF 0, regN 0x30218 2 4 .ro 0xFFFFFFFF 0,
    regN 0x30800 32 0x10 .rw 0xFFFFFFFF 0, regN 0x30804 32 0x10 .rw 0x0FFF0FFF 0,
    regN 0x30808 32 0x10 .rw 0xFFFFFFFF 0, regN 0x3080C 32 0x10 .rw 0xFF00003F 0 ]
  ++ regsPage 0x31000 1 ++ regsPage 0x100000 64

/-- The row of a register holds this offset. -/
def RegRow.hits (r : RegRow) (off : Nat) : Bool :=
  let d := off - r.base
  decide (r.base ≤ off) && decide (d / r.stride < r.n) && decide (d % r.stride % r.stride2 = 0)
    && decide (d % r.stride / r.stride2 < r.n2)

/-- The rows of the block that an offset lies in (02, "Block index"). -/
def blockRows (off : Nat) : List RegRow :=
  if off < 0x4000 then regsAon
  else if off < 0x8000 then regsDom
  else if off < 0xC000 then regsPort
  else if off < 0x12000 then regsSched
  else if off < 0x20000 then regsRas
  else if off < 0x30000 then regsPhy
  else if 0x38000 ≤ off ∧ off < 0x40000 then regsSched
  else regsGlg

/-- The register at a byte offset; none where the word holds no register (R53). -/
def rowOf (off : Nat) : Option RegRow := (blockRows off).find? fun r => r.hits off

/-- The lock bit of the block that an offset lies in (02, "Block index"). -/
def blockOf (off : Nat) : Nat :=
  if off < 0x2000 then 0 else if off < 0x3000 then 1 else if off < 0x4000 then 2
  else if off < 0x5000 then 3 else if off < 0x6000 then 4 else if off < 0x8000 then 5
  else if off < 0x9000 then 6 else if off < 0xA000 then 7 else if off < 0xC000 then 8
  else if off < 0xD000 then 9 else if off < 0xE000 then 10 else if off < 0x10000 then 11
  else if off < 0x12000 then 12 else if off < 0x14000 then 13 else if off < 0x20000 then 14
  else if off < 0x30000 then 15 else if off < 0x38000 then 16 else 17

/-- The reset value of a register; 0 where there is none. -/
def regReset (off : Nat) : Word :=
  match rowOf off with
  | some r => r.reset
  | none => 0

/-- A stored register word. -/
def regGet (s : State) (off : Nat) : Word := (kfind s.regs off).getD (regReset off)

/-- Store a register word. -/
def regSet (off : Nat) (w : Word) (s : State) : State := { s with regs := kset s.regs off w }

/-- Change the field [hi:lo] of a stored register. -/
def regPut (off hi lo v : Nat) (s : State) : State :=
  let m := BitVec.ofNat 32 (2 ^ (hi + 1) - 2 ^ lo)
  regSet off ((regGet s off &&& ~~~m) ||| ((BitVec.ofNat 32 v <<< lo) &&& m)) s

/-- A field of a stored register. -/
def regFld (s : State) (off hi lo : Nat) : Nat := fld (regGet s off) hi lo

/-- A bit of a stored register. -/
def regBit (s : State) (off n : Nat) : Bool := bitOf (regGet s off) n

/-- Count events in a counter that saturates at 0xFFFF_FFFF. -/
def bumpBy (n off : Nat) (s : State) : State :=
  regSet off (BitVec.ofNat 32 (sat 0xFFFFFFFF ((regGet s off).toNat + n))) s

/-- Count one event. -/
def bump (off : Nat) (s : State) : State := bumpBy 1 off s

/-- The word of an SQ register after a hardware event sets bits: the sequence advances (R40). -/
def sqWord (w bits : Word) : Word :=
  (((w >>> 24) + 1) <<< 24) ||| ((w ||| bits) &&& 0x00FFFFFF)

/-- A hardware event sets status bits of an SQ register (R40). -/
def sqSet (off : Nat) (bits : Word) (s : State) : State := regSet off (sqWord (regGet s off) bits) s

/-- A write to an SQ register clears bits only if the sequence matches (R41). -/
def sqClear (off : Nat) (w : Word) (s : State) : State :=
  let v := regGet s off
  if w >>> 24 = v >>> 24 then regSet off (v &&& ~~~(w &&& 0x00FFFFFF)) s else s

/-- A 64-bit value over a _LO and a _HI register. -/
def regSet64 (off : Nat) (v : Nat) (s : State) : State :=
  regSet (off + 4) (BitVec.ofNat 32 (v / 2 ^ 32)) (regSet off (BitVec.ofNat 32 v) s)

/-- The value over a _LO and a _HI register. -/
def regGet64 (s : State) (off : Nat) : Nat := (regGet s off).toNat + 2 ^ 32 * (regGet s (off + 4)).toNat

end Sys2Proof.Machine
end

