-- ==== Sys2Proof/Machine/Ops.lean ====
section
/-! DEFINITION. The operations every family shares: outputs, event records, timers, controller states,
requests and their answers, credits. -/

namespace Sys2Proof.Machine

/-- The outcome type of a meaning. -/
abbrev Res := Host.Outcome State Fault Refusal

/-- A meaning starts with no outputs: `out` holds those of the last command. -/
def begin_ (s : State) : State := { s with out := [], raised := 0 }

/-- A meaning that answers a next state. -/
def run (f : State → State) (s : State) : Res := .next (f (begin_ s))

/-- Present an output. -/
def emit (o : Out) (s : State) : State := { s with out := s.out ++ [o] }

/-- Apply a function when a condition holds. (DESIGN CHOICE, log 5) -/
def onlyIf (c : Bool) (f : State → State) (s : State) : State := if c then f s else s

/-- Apply a function for every element of a list, in order. -/
def forAll {α : Type} (l : List α) (f : α → State → State) (s : State) : State :=
  l.foldl (fun t x => f x t) s

/-- Microseconds and milliseconds in ac. -/
def us (n : Nat) : Nat := 25 * n
def ms (n : Nat) : Nat := 25000 * n

/-- The channel of a sub-channel, and its sub-channels. -/
def chOf (x : Sc) : Ch := ⟨x.val / 2, by omega⟩
def scA (c : Ch) : Sc := ⟨2 * c.val, by omega⟩
def scB (c : Ch) : Sc := ⟨2 * c.val + 1, by omega⟩
/-- Sub-channel B of a channel, or A. -/
def scAt (c : Ch) (b : Bool) : Sc := if b then scB c else scA c
/-- A number of an index that an encoding keeps in range. -/
def scN (n : Nat) : Sc := ⟨n % 4, Nat.mod_lt _ (by decide)⟩
def chN (n : Nat) : Ch := ⟨n % 2, Nat.mod_lt _ (by decide)⟩

/-! ### Event records (16) -/

def rStateChange : Nat := 0x0010
def rCastOn : Nat := 0x0040
def rEvtCfg : Nat := 0x2000
def rEvtStatus : Nat := 0x2010
def rEvtRaised : Nat := 0x2040
def rEvtDropped : Nat := 0x2044
def rEvtFiltered : Nat := 0x2048
def rEvtFlushed : Nat := 0x204C
def rEvtParity : Nat := 0x2050
def rEvtTimeouts : Nat := 0x2054

/-- The source of a record, from its header (R503). -/
def recSource (ws : List Word) : Nat := fld (ws.headD 0) 18 16

/-- The header of a record (R503). -/
def recHeader (ty len : Nat) (sev : Fin 8) (src : Nat) (seq : BitVec 16) : Word :=
  pack [(ty, 26), (len - 1, 22), (sev.val, 19), (src, 16), (seq.toNat, 0)]

/-- Add the drop of a record to a GAP, or start one (R508). -/
def gapAdd (g : Option Gap) (ws : List Word) (sev : Fin 8) : Gap :=
  let m : Byte := 1 <<< recSource ws
  match g with
  | some g => { g with count := sat 0xFFFF (g.count + 1), mask := g.mask ||| m, sev := if g.sev < sev then sev else g.sev }
  | none => ⟨1, m, sev, BitVec.ofNat 16 (fld (ws.headD 0) 15 0),
      BitVec.ofNat 64 ((ws.getD 1 0).toNat + 2 ^ 32 * (ws.getD 2 0).toNat)⟩

/-- Drops join an earlier GAP, whose first record stays the first (R508). -/
def gapJoin (a b : Gap) : Gap :=
  { a with count := sat 0xFFFF (a.count + b.count), mask := a.mask ||| b.mask, sev := if a.sev < b.sev then b.sev else a.sev }

/-- The drops that a dropped record stands for: itself and those attached to it. -/
def recDrops (r : Rec) : Gap :=
  let g := gapAdd none r.words r.sev
  match r.drops with
  | none => g
  | some d => gapJoin g d

/-- The sequence of a record that another one goes before. -/
def Rec.later (r : Rec) : Rec :=
  let w := r.words.headD 0
  { r with words := pack [(fld w 31 16, 16), ((fld w 15 0 + 1) % 2 ^ 16, 0)] :: r.words.drop 1 }

/-- The records of one command, raised in one cc, stand in ascending source number (R504): those that stay before a new
record of a source, and those that follow it. -/
def raisedSplit (s : State) (src : Nat) : List Rec × List Rec :=
  let n := s.evt.buf.length - s.raised
  let tail := s.evt.buf.drop n
  let low := tail.takeWhile fun r => decide (recSource r.words ≤ src)
  (s.evt.buf.take n ++ low, tail.drop low.length)

/-- A full raise buffer drops its newest record, and counts the drop at the one before it (R506). -/
def dropNewest (l : List Rec) : List Rec :=
  match l.getLast? with
  | none => l
  | some r => l.dropLast.modify 15 fun q => { q with drops := some ((q.drops.map fun d => gapJoin d (recDrops r)).getD (recDrops r)) }

/-- Put a record into the raise buffer, or count its drop (R504, R506): `ws` are its words for a sequence. -/
def bufferRec (ws : BitVec 16 → List Word) (src : Nat) (sev : Fin 8) (s : State) : State :=
  let (before, after) := raisedSplit s src
  let seq := s.evt.nextSeq - BitVec.ofNat 16 after.length
  let all := before ++ ⟨ws seq, sev, none⟩ :: after.map Rec.later
  let s := { s with evt := { s.evt with nextSeq := s.evt.nextSeq + 1 } }
  if s.evt.buf.length < 16 then { s with evt := { s.evt with buf := all }, raised := s.raised + 1 }
  else bump rEvtDropped { s with evt := { s.evt with buf := dropNewest all } }

/-- Raise a record: type, severity, source and payload (R503 to R506, R515). -/
def raise (ty : Nat) (sev : Fin 8) (src : Nat) (payload : List Word) (s : State) : State :=
  let s := if 3 ≤ sev.val then sqSet rEvtStatus 0x10 s else s
  if sev.val < regFld s rEvtCfg 29 27 then bump rEvtFiltered s
  else
    bufferRec (fun seq => recHeader ty (payload.length + 3) sev src seq ::
      BitVec.ofNat 32 s.glb.now :: BitVec.ofNat 32 (s.glb.now / 2 ^ 32) :: payload) src sev (bump rEvtRaised s)

/-- A rate limit: an event under a key raises its record when `period` ac have passed since the last
one under the key, and is counted otherwise. The record gets the events since the last one, this one
included. (DESIGN CHOICE, log 27) -/
def limited (key period : Nat) (f : Nat → State → State) (s : State) : State :=
  let (last, n) := kget (none, 0) s.evt.lim key
  let due := match last with
    | none => true
    | some t => decide (t + period ≤ s.glb.now)
  if due then f (n + 1) { s with evt := { s.evt with lim := kset s.evt.lim key (some s.glb.now, 0) } }
  else { s with evt := { s.evt with lim := kset s.evt.lim key (last, n + 1) } }

/-- The level of a timer code (R517). -/
def timerLevel (code : Nat) : Nat :=
  if code ≤ 0x03 then 1 else if code ≤ 0x07 then 2 else if code ≤ 0x0B then 3
  else if code ≤ 0x15 then 4 else 5

/-- An expiry of a timer is counted (EVT_TO_INFO). -/
def expired (code : Nat) (s : State) : State :=
  { s with evt := { s.evt with
    expiries := kset s.evt.expiries code
      (BitVec.ofNat 32 (sat 0xFFFFFFFF ((kget 0 s.evt.expiries code).toNat + 1))) } }

/-- An expiry that raises no record of its own: the next record of its code counts it (R519). -/
def expiredMore (code : Nat) (s : State) : State :=
  let k := 0x100 + code
  let l := kget (none, 0) s.evt.lim k
  let s := expired code s
  { s with evt := { s.evt with lim := kset s.evt.lim k (l.1, l.2 + 1) } }

/-- An expiry of a timer: counted, and a TIMEOUT record. An expiry of severity 4 or one that leads to HALTED
raises it every time, any other under the limit of R519. -/
def timeoutBy (always : Bool) (code : Nat) (sev : Fin 8) (src : Nat) (esc : Bool) (subject detail : Nat)
    (s : State) : State :=
  let s := expired code s
  let f := fun (n : Nat) (s : State) => bump rEvtTimeouts (raise 0x15 sev src
    [pack [(timerLevel code, 29), (code, 24), (b2n esc, 23), (subject, 0)],
     BitVec.ofNat 32 detail, pack [(sat 0xFFFF n, 16)]] s)
  limited (0x100 + code) (if always || sev = 4 then 0 else ms 1) f s

/-- An expiry that does not lead to HALTED. -/
def timeout (code : Nat) (sev : Fin 8) (src : Nat) (esc : Bool) (subject detail : Nat) (s : State) : State :=
  timeoutBy false code sev src esc subject detail s

/-- The subject of the sub-channel timers (R519). -/
def subjSc (x : Sc) (cs lr : Nat) : Nat := x.val * 2 ^ 14 + cs * 2 ^ 12 + lr * 2 ^ 8

/-- The subject of the Cast-On timers (R519). -/
def subjStep (s : State) (ch slot : Nat) : Nat := s.glb.step.toNat * 2 ^ 8 + ch * 2 + slot

/-! ### Controller states (01, 02) -/

/-- The code of a controller state (02, GLB_STATE). -/
def Ctl.code : Ctl → Nat
  | .reset => 0 | .castOn => 1 | .service => 2 | .quiesced => 3 | .gearChange => 4
  | .dormant => 5 | .bindOff => 6 | .held => 7 | .halted => 8

/-- A circumstance of R285 that holds for every partition: it is noted in the miss that each may be building
up (word 4 of the record). -/
def missAll (bit : Nat) (s : State) : State :=
  { s with qos := { s.qos with parts := s.qos.parts.map fun e =>
    (e.1, { e.2 with missWhy := e.2.missWhy ||| (1 <<< bit) }) } }

/-- Enter a controller state and set its bit of GLB_STATE_CHANGE (02). A state other than SERVICE is a
circumstance of R285. -/
def enter (c : Ctl) (s : State) : State :=
  onlyIf (c ≠ .service) (missAll 4)
    (sqSet rStateChange (pack [(1, c.code)]) { s with glb := { s.glb with ctl := c } })

/-- Change the record of a channel. -/
def updCh (c : Ch) (f : Chan → Chan) (s : State) : State :=
  { s with glb := { s.glb with ch := vmod s.glb.ch c f } }

/-- Change Cast-On, GLB and clock state. -/
def updGlb (f : Glb → Glb) (s : State) : State := { s with glb := f s.glb }

/-- A fatal failure of Cast-On: HALTED with a cause; DRST_n is low on every channel, which clears the
retention latches (R170, R87, R65). A pause or barrier that waits for the end of Cast-On (R80) stays
deferred: SERVICE is not entered, so qz_ack does not rise. (DESIGN CHOICE, log 51) -/
def halt (cause : Byte) (s : State) : State :=
  enter .halted (updGlb (fun g => { g with
    haltCause := cause
    ch := g.ch.map fun c => { c with latch := false, inSr := false, released := false } }) s)

/-- Enter a Cast-On step (R131). -/
def toStep (n : Byte) (s : State) : State := updGlb (fun g => { g with step := n }) s

/-- In CAST_ON at the given step. -/
def atStep (s : State) (n : Byte) : Bool := s.glb.ctl = .castOn && s.glb.step = n

/-- The channel serves memory: in the sequence, not excluded, not out of service (R372). -/
def chLive (s : State) (c : Ch) : Bool :=
  (s.glb.ch.get c).inSeq && !(s.glb.ch.get c).excluded && !(s.alert.get c).oos

/-- The channel is configured by the image (06, MAP_GEOM). -/
def chConf (s : State) (c : Ch) : Bool := regBit s 0x12000 (22 + c.val)

/-- Logical ranks per chip select, chip selects per channel, rows and width (06, MAP_GEOM). -/
def lrLog (s : State) : Nat := regFld s 0x12000 20 18
def csLog (s : State) : Nat := regFld s 0x12000 17 16
def nRows (s : State) : Nat := 64 * regFld s 0x12000 12 0
def isX8 (s : State) : Bool := regBit s 0x12000 21
def nCs (s : State) : Nat := 2 ^ csLog s
def nLr (s : State) : Nat := 2 ^ lrLog s

/-- The parameter at TIM offset 0x010 + 4 i of the active gear, in ck (R203). -/
def timOf (s : State) (g : Gear) (i : Nat) : Nat := (regGet s (0xE010 + 0x200 * g.val + 4 * i)).toNat
def tim (s : State) (i : Nat) : Nat := timOf s s.glb.gear i

/-- Data rate of a gear in units of 400 MT/s (07, TIM_Gg_CFG). -/
def rateOf (s : State) (g : Gear) : Nat := regFld s (0xE000 + 0x200 * g.val) 4 0

/-- The present cc of a sub-channel: that of the controller, or of its scheduler where it has run ahead (R185).
(DEDUCED, log 14) -/
def ccNow (s : State) (x : Sc) : Nat := max s.glb.cc ((s.sched.get x).ck / 4)

/-- The present ck of a sub-channel, in the same way. (DEDUCED, log 14) -/
def ckNow (s : State) (x : Sc) : Nat := max (s.sched.get x).ck (4 * s.glb.cc)

/-- Free values are named one by one (DESIGN CHOICE, log 3). -/
def nextFree (s : State) : State := { s with free := s.free + 1 }

/-! ### Requests (04) -/

def rPrtStatus (p : PortId) : Nat := 0x800C + 0x40 * p.val
def rPrtReqs (p : PortId) : Nat := 0x8010 + 0x40 * p.val
def rPrtFails (p : PortId) : Nat := 0x8014 + 0x40 * p.val
def rPrtNotOwned (p : PortId) : Nat := 0x8018 + 0x40 * p.val

/-- The status code of R108. -/
def Status.code : Status → Nat
  | .ok => 0 | .corrected => 1 | .poison => 2 | .notOwned => 3 | .failed => 4

/-- The opcode code of R92. -/
def Op.code : Op → Nat
  | .read => 0 | .writeFull => 1 | .writePartial => 2 | .writePoison => 3 | .barrier => 5
  | .peerWrite => 8 | .peerRead => 9 | .peerMessage => 0xA

/-- The write credit class (R92). -/
def Op.isWrite : Op → Bool
  | .read | .barrier | .peerRead => false
  | _ => true

/-- A data beat travels with the opcode (R92). -/
def Op.hasBeat : Op → Bool
  | .writeFull | .writePartial | .peerWrite | .peerMessage => true
  | _ => false

/-- A peer opcode. -/
def Op.isPeer : Op → Bool
  | .peerWrite | .peerRead | .peerMessage => true
  | _ => false

/-- A write that changes a line of memory. -/
def Op.isLineWrite : Op → Bool
  | .writeFull | .writePartial | .writePoison | .peerWrite => true
  | _ => false

def updPort (p : PortId) (f : Port → Port) (s : State) : State := { s with ports := vmod s.ports p f }

/-- Present a response on a port and count it (R108, R109; 04, PRT counters). -/
def respond (p : PortId) (tag : BitVec 10) (gen : BitVec 2) (st : Status) (data : Line)
    (src : BitVec 10) (xid : BitVec 16) (stale : Bool) (epoch : BitVec 8) (s : State) : State :=
  let s := emit (.rsp p tag gen st data src xid stale epoch) s
  match st with
  | .failed => bump (rPrtFails p) s
  | .notOwned => bump (rPrtNotOwned p) s
  | _ => s

def findReq (s : State) (id : Nat) : Option Req := s.reqs.find? fun r => r.id = id

def updReq (id : Nat) (f : Req → Req) (s : State) : State :=
  { s with reqs := s.reqs.map fun r => if r.id = id then f r else r }

/-- lpn_hold in the present state (R104): the ports must stop presenting requests. -/
def holdNow (s : State) : Bool :=
  match s.glb.ctl with
  | .service =>
    match s.qz.ph with
    | .idle | .deferred | .ended => decide (s.img.rl.st = .waitPoint ∨ s.img.rl.st = .restarting)
    | _ => true
  | .halted => false
  | _ => true

/-- A pclk cycle ends on every port, with the level that hold had in it, which decides about the next one (R102). -/
def cycleEnds (level : Bool) (s : State) : State :=
  { s with ports := s.ports.map fun q => { q with held := level, seen := none } }

/-- A cycle ends with the present level of hold: with a cc of a scheduler, with a credit and with a cycle of aclk.
(DESIGN CHOICE, log 66) -/
def portCycles (s : State) : State := cycleEnds (holdNow s) s

/-- Give up one in-flight count of a port. -/
def dropInflight (p : PortId) (wr : Bool) (s : State) : State :=
  updPort p (fun q => if wr then { q with wrIn := q.wrIn - 1 } else { q with rdIn := q.rdIn - 1 }) s

/-- The write has committed here and its peer outcome is open: the request stays until it is known, although it may have
been answered by the timeout of its port (R119, R390, R399). -/
def Req.peerOpen (r : Req) : Bool := r.localC = .yes && r.peerC = .unknown

/-- The request is done: it leaves the table, and its port's in-flight count if it is still counted
there (R12, R100). -/
def finish (id : Nat) (s : State) : State :=
  match findReq s id with
  | none => s
  | some r =>
    onlyIf (!r.written) (dropInflight r.port r.op.isWrite) { s with reqs := s.reqs.filter fun q => q.id ≠ id }

/-- The data of a write is in DRAM (R12, R100): the write is done once it is answered and its peer outcome known. -/
def writtenToDram (id : Nat) (s : State) : State :=
  match findReq s id with
  | none => s
  | some r =>
    if r.answered && !r.peerOpen then finish id s
    else if r.written then s
    else dropInflight r.port true (updReq id (fun r => { r with written := true }) s)

/-- Present the one response of a request (R110). A request of the read class is then done; a write
stays until it is written to DRAM. A completion of a request that was answered is discarded (R119). In HELD
no response is presented (R104, R110). -/
def answer1 (id : Nat) (st : Status) (data : Line) (stale : Bool) (epoch : BitVec 8) (s : State) : State :=
  match findReq s id with
  | none => s
  | some r =>
    if r.answered || s.glb.ctl = .held then s
    else
      let s := respond r.port r.tag r.gen st data r.src r.xid stale epoch s
      if r.op.isWrite && !r.written then updReq id (fun r => { r with answered := true }) s else finish id s

/-- A BARRIER is answered once every request accepted earlier on its port is (R118). -/
def barrierDue (s : State) (b : Req) : Bool :=
  s.reqs.all fun r => !(r.port = b.port && decide (r.id < b.id) && !r.answered)

/-- Answer the BARRIERs that are due, oldest first. -/
def barriers (s : State) : State :=
  forAll (s.reqs.filter fun r => r.phase = .barrier) (fun b s =>
    if barrierDue s b then answer1 b.id .ok 0 false 0 s else s) s

/-- Answer an accepted request, and the BARRIERs that waited for it. -/
def answerX (id : Nat) (st : Status) (data : Line) (stale : Bool) (epoch : BitVec 8) (s : State) : State :=
  barriers (answer1 id st data stale epoch s)

/-- The current role epoch that a peer answer carries (R90, R121). -/
def peerEpochFor (s : State) (r : Req) : BitVec 8 := if r.op.isPeer && r.op ≠ .peerMessage then s.mir.epoch else 0

/-- Answer without a stale flag. -/
def answer (id : Nat) (st : Status) (data : Line) (s : State) : State :=
  match findReq s id with
  | none => s
  | some r => answerX id st data false (peerEpochFor s r) s

/-- Answer FAILED and drop the request: nothing of it is written. -/
def failReq (id : Nat) (s : State) : State := finish id (answer id .failed 0 s)

/-- Requests of a port and a tag that are outstanding (R111). -/
def outstanding (s : State) (p : PortId) (tag : BitVec 10) : Option Req :=
  s.reqs.find? fun r => r.port = p && r.tag = tag && !r.answered

/-- Requests that hold an ingress slot (R12): a write that waits for its beat, a request of the ingress stage,
and a POISON_LINE until it is handled (R392). A BARRIER enters no queue (R98, R118); the model counts a waiting
one neither in the ingress slots nor in the RTP buffer. (DESIGN CHOICE, log 53) -/
def Req.inIngress (r : Req) : Bool :=
  match r.phase with
  | .waitBeat | .ingress | .message => true
  | _ => false

/-- Occupied ingress slots, and the RTP buffer (R12, R262). -/
def ingressCount (s : State) : Nat := (s.reqs.filter Req.inIngress).length
def rtpCount (s : State) : Nat := (s.reqs.filter fun r => r.inIngress && r.port = 4).length

/-! ### The register port (02) -/

/-- Response codes of the register port (02): OK, DENIED, POISON_DATA. -/
def respOk (d : Word) (s : State) : State := emit (.reg 0 d) s

/-- An access to the register window: none is accepted in RESET (R35), one that does not come from
the manager is DENIED (R36). While a write waits for a wake, rg_ready is low, so that accesses take
effect in order (R28, R34). -/
def portReady (s : State) : Bool := s.glb.ctl ≠ .reset && s.pwr.deferred.isEmpty
def onPort (priv : Bool) (f : State → State) (s : State) : State :=
  if portReady s then (if priv then f s else emit (.reg 1 0) s) else s

/-- A read of a data port outside GLB and EVT: until the image is applied it returns the reset value and
leaves the port as it is (R138). (DEDUCED, log 10) -/
def imagePort (f : State → State) (s : State) : State :=
  if s.img.applied then f s else respOk 0 s

/-- Writes that waited for a wake which does not complete are answered without effect (R33).
(DEDUCED, log 10) -/
def dropDeferred (s : State) : State :=
  s.pwr.deferred.foldl (fun s _ => respOk 0 s) { s with pwr := { s.pwr with waking := false, deferred := [] } }

/-! ### The egress port (04) -/

/-- Ask EGP for an operation; it waits until a slot is issued (R125). -/
def egpAsk (r : EgpReq) (s : State) : State := { s with egp := { s.egp with waiting := s.egp.waiting ++ [r] } }

/-- Ask EGP for an operation ahead of those that wait. -/
def egpAskFirst (r : EgpReq) (s : State) : State := { s with egp := { s.egp with waiting := r :: s.egp.waiting } }

/-! ### Updates of the parts that are held per sub-channel or channel -/

def updSched (x : Sc) (f : Sched → Sched) (s : State) : State := { s with sched := vmod s.sched x f }
def updAlert (c : Ch) (f : Alert → Alert) (s : State) : State := { s with alert := vmod s.alert c f }
def updPhySc (x : Sc) (f : PhySc → PhySc) (s : State) : State := { s with phy := { s.phy with sc := vmod s.phy.sc x f } }
def updRef (f : Ref → Ref) (s : State) : State := { s with ref := f s.ref }
def updRas (f : Ras → Ras) (s : State) : State := { s with ras := f s.ras }
def updMir (f : Mir → Mir) (s : State) : State := { s with mir := f s.mir }
def updDom (f : Dom → Dom) (s : State) : State := { s with dom := f s.dom }
def updImg (f : Img → Img) (s : State) : State := { s with img := f s.img }
def updQos (f : Qos → Qos) (s : State) : State := { s with qos := f s.qos }
def updPwr (f : Pwr → Pwr) (s : State) : State := { s with pwr := f s.pwr }
/-- Something that needs the ranks of a sub-channel fell due while they are in self-refresh: it asks for their wake
(R483). -/
def dueAsleep (x : Sc) (s : State) : State :=
  if s.pwr.sc.get x = .selfRefresh then { s with pwr := { s.pwr with due := s.pwr.due ||| (1 <<< x.val) } } else s
def updQz (f : Qz → Qz) (s : State) : State := { s with qz := f s.qz }
def updEvt (f : Evt → Evt) (s : State) : State := { s with evt := f s.evt }
def updGlg (f : Glg → Glg) (s : State) : State := { s with glg := f s.glg }
def updInst (i : InstId) (f : Inst → Inst) (s : State) : State := { s with glg := { s.glg with inst := vmod s.glg.inst i f } }

/-- A half of a 64-bit value of a CRC set (R48, R463). -/
def wideHalf (off : Nat) : Bool := decide (0x30100 ≤ off ∧ off < 0x30200 ∧ 4 ≤ off % 0x20 ∧ off % 0x20 < 0x1C)
def wideLow (off : Nat) : Nat := if off % 8 = 4 then off else off - 4

/-- The 64-bit value that a CRC register pair holds takes effect (R48). -/
def wideSync (off : Nat) (s : State) : State :=
  let o := wideLow off
  if wideHalf off then updGlg (fun g => { g with wide := kset g.wide o (BitVec.ofNat 64 (regGet64 s o)) }) s else s

/-- The value of a CRC register pair in effect. -/
def wideGet (s : State) (off : Nat) : BitVec 64 :=
  (kfind s.glg.wide off).getD (BitVec.ofNat 64 ((regReset off).toNat + 2 ^ 32 * (regReset (off + 4)).toNat))
end Sys2Proof.Machine
end

