-- ==== Sys2Proof/Machine/AddrMap.lean ====
section
/-! DEFINITION. The address map (06): windows, ownership, the dense index, the hash, the LLA, the
DRAM coordinates, the reverse map and the address block of event records. -/

namespace Sys2Proof.Machine

/-- A window descriptor (06, "Interleave windows"). Line indices are numbers. -/
structure Win where
  base : Nat
  limit : Nat
  lbase : Nat
  k : Nat
  x3 : Bool
  g : Nat
  ownWay : Nat
  mirror : Bool
  deriving DecidableEq, Repr

/-- The registers of window n; none where it is not enabled (06, MAP_Wn). -/
def winOf (s : State) (n : Nat) : Option Win :=
  let o := 0x12100 + 0x20 * n
  let c := regGet s (o + 0x10)
  if bitOf c 31 then
    some { base := regGet64 s o / 64, limit := regGet64 s (o + 8) / 64, lbase := regGet64 s (o + 0x14)
           k := fld c 18 15, x3 := bitOf c 19, g := fld c 14 10, ownWay := fld c 29 20, mirror := bitOf c 30 }
  else none

/-- Way count (06). -/
def Win.ways (w : Win) : Nat := (if w.x3 then 3 else 1) * 2 ^ w.k

/-- The way and the dense local index of line index a (R173). -/
def Win.place (w : Win) (a : Nat) : Nat × Nat :=
  let o := a - w.base
  let n := o / 2 ^ w.g
  let low := n % 2 ^ w.k
  let high := n / 2 ^ w.k
  let way := if w.x3 then high % 3 * 2 ^ w.k + low else low
  let q := if w.x3 then high / 3 else high
  (way, w.lbase + q * 2 ^ w.g + o % 2 ^ w.g)

/-- The line index of dense index d of this controller's way (R182, step 6). -/
def Win.unplace (w : Win) (d : Nat) : Nat :=
  let e := d - w.lbase
  let q := e / 2 ^ w.g
  let r := w.ownWay / 2 ^ w.k
  let low := w.ownWay % 2 ^ w.k
  let high := q * (if w.x3 then 3 else 1) + r
  w.base + (high * 2 ^ w.k + low) * 2 ^ w.g + e % 2 ^ w.g

/-- What the forward map says of a line index (R171, R174). -/
inductive Fwdmap where
  | noWindow
  | otherWay (n : Nat)
  | owned (n : Nat) (mirror : Bool) (d : Nat)
  deriving DecidableEq, Repr

/-- Window match and ownership test among the windows from n on (R171, R174). -/
def fwdFrom (s : State) (a : Nat) : List Nat → Fwdmap
  | [] => .noWindow
  | n :: r =>
    match winOf s n with
    | none => fwdFrom s a r
    | some w =>
      if w.base ≤ a ∧ a < w.limit then
        let p := w.place a
        if p.1 = w.ownWay then .owned n w.mirror p.2 else .otherWay n
      else fwdFrom s a r

/-- The forward map of a system line address. -/
def fwd (s : State) (a : LineAddr) : Fwdmap := fwdFrom s a.toNat (List.range 16)

/-- The fields of an LLA before packing (R178). -/
structure Coord where
  line : Nat
  bank : Nat
  bg : Nat
  row : Nat
  lr : Nat
  cs : Nat
  sub : Nat
  ch : Nat
  deriving DecidableEq, Repr

/-- Both channels are configured. -/
def twoCh (s : State) : Bool := regFld s 0x12000 23 22 = 3

/-- The fields of a dense index (R176). -/
def split (s : State) (d : Nat) : Coord :=
  let sub := d % 2
  let d := d / 2
  let ch := if twoCh s then d % 2 else if chConf s 1 then 1 else 0
  let d := if twoCh s then d / 2 else d
  let lr := d / 2 ^ 12 % 2 ^ lrLog s
  let cs := d / 2 ^ (12 + lrLog s) % 2 ^ csLog s
  { sub := sub, ch := ch, bank := d % 4, bg := d / 4 % 8, line := d / 32 % 128, lr := lr, cs := cs,
    row := d / 2 ^ (12 + lrLog s + csLog s) }

/-- The dense index of fields (R176). -/
def join (s : State) (c : Coord) : Nat :=
  let u := c.bank + 4 * c.bg + 32 * c.line + 2 ^ 12 * c.lr + 2 ^ (12 + lrLog s) * c.cs
    + 2 ^ (12 + lrLog s + csLog s) * c.row
  c.sub + 2 * (if twoCh s then c.ch + 2 * u else u)

/-- The parity that hashes target bit t (R177). -/
def hashBit (s : State) (c : Coord) (t : Nat) : Nat :=
  let src := c.row + 2 ^ 18 * c.lr + 2 ^ 22 * c.cs
  b2n (parity 24 (src &&& (regGet s (0x12010 + 4 * t)).toNat))

/-- The hash of R177, its own inverse. -/
def hash (s : State) (c : Coord) : Coord :=
  { c with
    bank := c.bank ^^^ (hashBit s c 0 + 2 * hashBit s c 1)
    bg := c.bg ^^^ (hashBit s c 2 + 2 * hashBit s c 3 + 4 * hashBit s c 4)
    sub := c.sub ^^^ hashBit s c 5 }

/-- The LLA of hashed fields (R178). -/
def Coord.lla (c : Coord) : Lla :=
  BitVec.ofNat 38 (c.line + 2 ^ 7 * c.bank + 2 ^ 9 * c.bg + 2 ^ 12 * c.row + 2 ^ 30 * c.lr
    + 2 ^ 34 * c.cs + 2 ^ 36 * c.sub + 2 ^ 37 * c.ch)

/-- The fields of an LLA (R178). -/
def unpackLla (l : Lla) : Coord :=
  let n := l.toNat
  { line := n % 128, bank := n / 2 ^ 7 % 4, bg := n / 2 ^ 9 % 8, row := n / 2 ^ 12 % 2 ^ 18,
    lr := n / 2 ^ 30 % 16, cs := n / 2 ^ 34 % 4, sub := n / 2 ^ 36 % 2, ch := n / 2 ^ 37 % 2 }

/-- The LLA of a dense index (R176 to R178). -/
def llaOf (s : State) (d : Nat) : Lla := (hash s (split s d)).lla

/-- The sub-channel of an LLA (R179). -/
def scOf (l : Lla) : Sc := scN (l.toNat / 2 ^ 36 % 2 + 2 * (l.toNat / 2 ^ 37 % 2))

/-- The region index LLA[37:18] (06, 05). -/
def regionOf (l : Lla) : Nat := l.toNat / 2 ^ 18

/-- The logical-rank unit of an LLA within its sub-channel: chip select × LR + logical rank (06, R228). -/
def unitNo (s : State) (cs lr : Nat) : Nat := cs * nLr s + lr

/-- DRAM row and column (R179). -/
def dramRow (s : State) (c : Coord) : Nat := if isX8 s then 2 * c.row + c.line / 64 else c.row
def dramCol (s : State) (c : Coord) : Nat := 16 * (if isX8 s then c.line % 64 else c.line)

/-- The command that addresses a line (R179). -/
def cmdFor (s : State) (k : CmdKind) (l : Lla) : Cmd :=
  let c := unpackLla l
  { kind := k, cs := BitVec.ofNat 2 c.cs, lr := BitVec.ofNat 4 c.lr, bg := BitVec.ofNat 3 c.bg,
    ba := BitVec.ofNat 2 c.bank, row := BitVec.ofNat 18 (dramRow s c), col := BitVec.ofNat 11 (dramCol s c),
    ap := false }

/-- What the reverse map answers (R182). -/
inductive Revmap where
  | valid (n : Nat) (a : Nat)
  | carveOut
  | unpopulated
  | uncovered
  deriving DecidableEq, Repr

/-- The window whose local slice contains a dense index. -/
def sliceFrom (s : State) (d : Nat) : List Nat → Revmap
  | [] => .uncovered
  | n :: r =>
    match winOf s n with
    | none => sliceFrom s d r
    | some w =>
      if w.lbase ≤ d ∧ d < w.lbase + (w.limit - w.base) / w.ways then .valid n (w.unplace d)
      else sliceFrom s d r

/-- The reverse map (R182). -/
def rev (s : State) (l : Lla) : Revmap :=
  let c := hash s (unpackLla l)
  if !chConf s (chN c.ch) || nCs s ≤ c.cs || nLr s ≤ c.lr || nRows s ≤ c.row then .unpopulated
  else if nRows s - 192 ≤ c.row then .carveOut
  else sliceFrom s (join s c) (List.range 16)

/-- The address block of R183: words A and B. -/
def addrBlock (s : State) (l : Lla) : List Word :=
  let other (k : Nat) : List Word := [BitVec.ofNat 32 l.toNat, pack [(k, 30), (l.toNat / 2 ^ 32, 0)]]
  match rev s l with
  | .valid _ a => [BitVec.ofNat 32 a, pack [(a / 2 ^ 32, 0)]]
  | .carveOut => other 1
  | .unpopulated => other 2
  | .uncovered => other 3

/-- An LLA row of the system region of a channel: sub-channel A, chip select 0, logical rank 0, the
carve-out of R180. Line n of that region. -/
def sysLine (s : State) (c : Ch) (n : Nat) : Lla :=
  let row := nRows s - 192 + n / 2 ^ 12
  Coord.lla { line := n % 128, bank := n / 2 ^ 7 % 4, bg := n / 2 ^ 9 % 8, row := row, lr := 0, cs := 0,
              sub := 0, ch := c.val }

/-- The rank of a line is in service: its channel serves and its chip select is online (R146). -/
def rankLive (s : State) (l : Lla) : Bool :=
  let c := unpackLla l
  chLive s (chN c.ch) && !(s.glb.ch.get (chN c.ch)).offline.getLsbD c.cs

end Sys2Proof.Machine
end

