-- ==== Sys2Proof/Machine/Chioz.lean ====
section
/-! DEFINITION. Chioz messages as they are sent and received (13, "Chioz messages"), and the messages
of a mirror pair (12, R406). -/

namespace Sys2Proof.Machine

/-- Message types (R537). -/
def tyToken : Nat := 1
def tyResult : Nat := 2
def tyHeartbeat : Nat := 3
def tyReloadReq : Nat := 4
def tyReloadAck : Nat := 5
def tyStale : Nat := 6
def tyRole : Nat := 7
def tyResilver : Nat := 8

/-- The CRC-32C of words, each taken least significant byte first (13). -/
def wordsCrc (ws : List Word) : Word := BitVec.ofNat 32 (crc crc32c (ws.flatMap wordBytes))

/-- The eight words of a message: header, payload words 2 to 6, CRC. -/
def msgWords (ty proto src dst seq epoch : Nat) (pay : List Word) : Vector Word 8 :=
  let h := [pack [(ty, 24), (proto, 20), (src, 10), (dst, 0)], pack [(seq, 16), (epoch, 8)]]
  let b := h ++ (List.range 5).map fun i => pay.getD i 0
  Vector.ofFn fun i => if i.val = 7 then wordsCrc b else b.getD i.val 0

/-- The line that carries a message (R95). -/
def msgLine (m : Vector Word 8) : Line := lineOfWords m.toList

/-- The message in a line: bytes 32 to 63 are ignored (R95). -/
def lineMsg (l : Line) : Vector Word 8 := Vector.ofFn fun i => lineWord l i.val

def msgTy (m : Vector Word 8) : Nat := fld m[0] 31 24
def msgProto (m : Vector Word 8) : Nat := fld m[0] 23 20
def msgSrc (m : Vector Word 8) : Nat := fld m[0] 19 10
def msgDst (m : Vector Word 8) : Nat := fld m[0] 9 0
def msgSeq (m : Vector Word 8) : Nat := fld m[1] 31 16
def msgEpoch (m : Vector Word 8) : Nat := fld m[1] 15 8

/-- The message window of a controller (R120, R127). -/
def msgAddr (s : State) (id : Nat) : LineAddr := BitVec.ofNat 50 (regGet64 s 0x8180 / 64 + id)

/-- The peer protocol level of the running image (13, IMG_INFO). -/
def protoNow (s : State) : Nat := regFld s 0x4004 31 28

/-- The label of peer operations (R127). -/
def egpPart (s : State) : BitVec 12 := BitVec.ofNat 12 (regFld s 0x8204 11 0)

/-- The egress request that carries a message (R127). -/
def msgReq (s : State) (dst : BitVec 10) (m : Vector Word 8) (why : EgpFor) : EgpReq where
  op := .message
  addr := msgAddr s dst.toNat
  dst := dst
  epoch := BitVec.ofNat 8 (msgEpoch m)
  part := egpPart s
  data := msgLine m
  mask := 0xFFFFFFFF
  why := why

/-- Form a message with the sender's message count as its sequence (R438). -/
def formMsg (ty : Nat) (dst : BitVec 10) (epoch : Nat) (pay : List Word) (s : State) : Vector Word 8 × State :=
  (msgWords ty (protoNow s) s.glb.ctlId.toNat dst.toNat s.dom.seqOut.toNat epoch pay,
   updDom (fun d => { d with seqOut := d.seqOut + 1 }) s)

/-- Send a message. -/
def sendMsg (ty : Nat) (dst : BitVec 10) (epoch : Nat) (pay : List Word) (why : EgpFor) (s : State) : State :=
  let (m, s) := formMsg ty dst epoch pay s
  egpAsk (msgReq s dst m why) s

/-! ### The pair (12, MIR_CFG) -/

/-- MIR_EN and the peer. -/
def mirEn (s : State) : Bool := regBit s 0x6000 31
def peerId (s : State) : BitVec 10 := BitVec.ofNat 10 (regFld s 0x6000 25 16)

/-- Send a mirror message to the peer with the current epoch. -/
def sendPeer (ty : Nat) (pay : List Word) (why : EgpFor) (s : State) : State :=
  sendMsg ty (peerId s) s.mir.epoch.toNat pay why s

/-- POISON_LINE for a system line (R391, R406). -/
def poisonPay (a : LineAddr) : List Word :=
  [pack [(4, 24)], BitVec.ofNat 32 a.toNat, pack [(a.toNat / 2 ^ 32, 0)]]

/-- The line a POISON_LINE names (R406). -/
def poisonAddr (m : Vector Word 8) : LineAddr :=
  BitVec.ofNat 50 (m[3].toNat + 2 ^ 32 * fld m[4] 17 0)

/-- The line that an egress operation counts for under R130: the line a POISON_LINE names (R391). -/
def egpLine (r : EgpReq) : LineAddr :=
  let m := lineMsg r.data
  if r.op = .message && decide (msgTy m = tyResilver) && decide (fld m[2] 31 24 = 4) then poisonAddr m else r.addr

/-- A peer mirror operation or a PEER_MESSAGE (R129). -/
def EgpOp.isPeer : EgpOp → Bool
  | .mirrorWrite | .mirrorRead | .message => true
  | _ => false

/-- A PEER_MIRROR_WRITE or PEER_MIRROR_READ of a line at the current epoch (R127, R387). -/
def peerOp (s : State) (op : EgpOp) (a : LineAddr) (data : Line) (why : EgpFor) : EgpReq where
  op := op
  addr := a
  dst := peerId s
  epoch := s.mir.epoch
  part := egpPart s
  data := data
  mask := if op = .mirrorWrite then BitVec.allOnes 64 else 0
  why := why

end Sys2Proof.Machine
end

