-- ==== Sys2Proof/Machine/GearReq.lean ====
section
/-! DEFINITION. Requests for a gear change (10, R329, R331; 15, R487). -/

namespace Sys2Proof.Machine

def rGearStatus : Nat := 0x20030

/-- Why a target is refused: result codes 1 undefined, 2 unavailable, 3 active. (DEDUCED, log 23) -/
def gearRefusal (s : State) (g : Gear) : Option Nat :=
  let w := regGet s (0xE000 + 0x200 * g.val)
  if !bitOf w 31 then some 1 else if bitOf w 30 then some 2 else if g = s.glb.gear then some 3 else none

/-- A swatch run is under way on some sub-channel, or its codes walk back. -/
def swatchRuns (s : State) : Bool := s.phy.sc.toList.any fun p => p.seq = .swatch || p.seq = .walk

/-- A waiting request is taken in SERVICE outside a swatch run: accepted, which makes it pending, or
refused (R329). (DEDUCED, log 23) -/
def gearTake (s : State) : State :=
  match s.phy.gearWait with
  | none => s
  | some g =>
    if s.glb.ctl ≠ .service || swatchRuns s then s
    else
      let s := { s with phy := { s.phy with gearWait := none } }
      match gearRefusal s g with
      | some r => regPut rGearStatus 30 28 r s
      | none => { s with phy := { s.phy with gearPending := some g } }

/-- A request: it replaces one that has not started, whether that one waits or was accepted, and whatever becomes of the
new one (R329). (DEDUCED, log 23) -/
def gearAsk (g : Gear) (s : State) : State :=
  gearTake { s with phy := { s.phy with gearWait := some g, gearPending := none } }

/-- PHY_GEAR_BUSY: a request waits or a change runs. -/
def gearBusy (s : State) : Bool := s.phy.gearWait.isSome || s.phy.gearPending.isSome || s.phy.gearTo.isSome

/-- The committed value of PHY_GEAR_REQ. -/
def actGearReq (v : Word) (s : State) : State :=
  if bitOf v 31 then gearAsk ⟨fld v 1 0 % 4, Nat.mod_lt _ (by decide)⟩ s else s

/-- The power policy of R487 is enabled, and its low and high gears. -/
def policyOn (s : State) : Bool := regBit s 0x3000 27
def policyLow (s : State) : Gear := ⟨regFld s 0x300C 31 30 % 4, Nat.mod_lt _ (by decide)⟩
def policyHigh (s : State) : Gear := ⟨regFld s 0x300C 29 28 % 4, Nat.mod_lt _ (by decide)⟩

/-- RTP enters panic in the low gear: the policy asks for the high gear (R487). -/
def policyPanic (s : State) : State :=
  if policyOn s && s.glb.ctl = .service && s.glb.gear = policyLow s then gearAsk (policyHigh s) s else s

end Sys2Proof.Machine
end

