-- ==== Sys2Proof/Machine/QosOps.lean ====
section
/-! DEFINITION. Partitions, heads, colours, tiers, finish tags and panic (09; 04 R124). -/

namespace Sys2Proof.Machine

/-! ### Partition entries (09, "Partition entry") -/

/-- The default entry: P0 is enabled as best-effort with weight 16 (09, "Changing a partition"). -/
def partWords (label : Nat) : Vector Word 8 :=
  Vector.ofFn fun i => if i.val = 0 then (if label = 0 then 0x80100000 else 0x00010000) else 0

def partNew (cfg : Vector Word 8) : Part where
  cfg := cfg
  tc := 0
  tp := 0
  ts := 0
  parked := none
  tags := []
  missRun := 0
  missDue := false
  missTold := false
  missWhy := 0
  missScs := 0
  green := 0
  yellow := 0
  red := 0
  misses := 0

def partOf (s : State) (label : Nat) : Part := kget (partNew (partWords label)) s.qos.parts label
def setPart (label : Nat) (p : Part) (s : State) : State := updQos (fun q => { q with parts := kset q.parts label p }) s
def updPart (label : Nat) (f : Part → Part) (s : State) : State := setPart label (f (partOf s label)) s

def cfgEn (c : Vector Word 8) : Bool := bitOf (c)[0] 31
def cfgClass (c : Vector Word 8) : Nat := fld (c)[0] 30 29
def cfgDemote (c : Vector Word 8) : Bool := bitOf (c)[0] 28
def cfgShapeEn (c : Vector Word 8) : Bool := bitOf (c)[0] 27
def cfgMeterEn (c : Vector Word 8) : Bool := bitOf (c)[0] 26
def cfgWeight (c : Vector Word 8) : Nat := fld (c)[0] 23 16
def cfgMinRd (c : Vector Word 8) : Nat := fld (c)[0] 13 8
def cfgMinWr (c : Vector Word 8) : Nat := fld (c)[0] 4 0
def cfgCir (c : Vector Word 8) : Nat := (c)[1].toNat
def cfgPir (c : Vector Word 8) : Nat := (c)[2].toNat
def cfgCbs (c : Vector Word 8) : Nat := fld (c)[3] 23 0
def cfgPbs (c : Vector Word 8) : Nat := fld (c)[4] 23 0
def cfgRate (c : Vector Word 8) : Nat := (c)[5].toNat
def cfgBurst (c : Vector Word 8) : Nat := fld (c)[6] 23 0
def cfgMiss (c : Vector Word 8) : Nat := fld (c)[7] 13 0

/-- A disabled partition drains as best-effort with weight 1, without meter, shaper and shares (R287). -/
def Part.cls (p : Part) : Nat := if cfgEn p.cfg then cfgClass p.cfg else 0
def Part.weight (p : Part) : Nat := if cfgEn p.cfg then max 1 (cfgWeight p.cfg) else 1
def Part.meterEn (p : Part) : Bool := cfgEn p.cfg && cfgMeterEn p.cfg
def Part.shapeEn (p : Part) : Bool := cfgEn p.cfg && cfgShapeEn p.cfg
def Part.minRd (p : Part) : Nat := if cfgEn p.cfg then cfgMinRd p.cfg else 0
def Part.minWr (p : Part) : Nat := if cfgEn p.cfg then cfgMinWr p.cfg else 0

/-- Buckets full (R268, R272). -/
def Part.full (p : Part) : Part :=
  { p with tc := cfgCbs p.cfg * 2 ^ 12, tp := cfgPbs p.cfg * 2 ^ 12, ts := cfgBurst p.cfg * 2 ^ 18 }

/-- The result code of a partition entry on its own (R288; 09, QPT_STATUS): 0 where no rule is broken. -/
def partCode (label : Nat) (w : Vector Word 8) : Nat :=
  if cfgWeight w = 0 then 2
  else if cfgClass w = 3 ∨ (label = 0 ∧ !cfgEn w) then 3
  else if cfgMeterEn w ∧ (cfgPir w < cfgCir w ∨ cfgCbs w < 64 ∨ cfgPbs w < 64) then 4
  else if cfgShapeEn w ∧ (cfgRate w = 0 ∨ cfgBurst w < 64) then 5
  else 0

/-- The share sums of enabled entries are within R278. -/
def sharesOk (l : List (Vector Word 8)) : Bool :=
  let l := l.filter cfgEn
  decide ((l.map cfgMinRd).sum ≤ 192) && decide ((l.map cfgMinWr).sum ≤ 96)

/-! ### Shapers and throttle buckets (R271, R272, R282) -/

/-- The throttle value in force (QOS_T_NOW). -/
def tNow (s : State) : Nat := regFld s 0x9010 10 0

/-- rate_eff of R271. -/
def rateEff (s : State) (p : Part) : Nat := cfgRate p.cfg * tNow s / 2 ^ 10

/-- Slots ahead at which a partition in debt is parked (R271); without any rate, the longest span.
(DEDUCED, log 19) -/
def parkSpan (s : State) (p : Part) : Nat :=
  let r := rateEff s p
  if r = 0 then 1023 else min ((p.ts.natAbs + r - 1) / r) 1023

/-- Park a partition whose shaper is negative (R271, R272). -/
def parkIf (s : State) (p : Part) : Part :=
  if p.shapeEn && decide (p.ts < 0) then { p with parked := some (s.qos.wheel + parkSpan s p) } else { p with parked := none }

/-- The shaper debit of a selection (R271). -/
def shaperDebit (label : Nat) (s : State) : State :=
  let p := partOf s label
  if p.shapeEn then setPart label (parkIf s { p with ts := p.ts - (64 * 2 ^ 18 : Nat) }) s else s

/-- The debit of the throttle bucket (R282). -/
def tbDebit (x : Sc) (s : State) : State := updQos (fun q => { q with tb := vmod q.tb x fun b => b - 64 }) s

/-- The shaper of the partition is eligible (R271, R272). -/
def shaperOk (p : Part) : Bool := !p.shapeEn || (decide (0 ≤ p.ts) && p.parked.isNone)

/-! ### Heads (R261) -/

/-- Requests that are linked in the ingress stage. -/
def Req.linked (r : Req) : Bool := r.phase = .ingress

/-- The head of its sub-list: no older request of the same partition and sub-channel. -/
def isHead (s : State) (r : Req) : Bool :=
  r.linked && s.reqs.all fun q =>
    !(q.linked && q.part = r.part && scOf q.lla = scOf r.lla && decide (q.id < r.id))

def heads (s : State) (x : Sc) : List Req := s.reqs.filter fun r => scOf r.lla = x && isHead s r

/-- A request that RTP panic serves in tier 0 (R274). -/
def inPanic (s : State) (r : Req) : Bool := s.qos.panic && r.port = 4

/-! ### Colours and tags (R268, R275, R276) -/

/-- The colour of a line of 64 bytes, and the meter after the charge (R268). -/
def colourOf (p : Part) : Colour × Part :=
  let b := 64 * 2 ^ 12
  if !p.meterEn then (.green, p)
  else if p.tp < b then (.red, p)
  else if p.tc < b then (.yellow, { p with tp := p.tp - b })
  else (.green, { p with tp := p.tp - b, tc := p.tc - b })

/-- Count a colouring (09, words 12 to 14). -/
def countColour (c : Colour) (p : Part) : Part :=
  let inc (w : Word) : Word := BitVec.ofNat 32 (sat 0xFFFFFFFF (w.toNat + 1))
  match c with
  | .green => { p with green := inc p.green }
  | .yellow => { p with yellow := inc p.yellow }
  | .red => { p with red := inc p.red }

/-- The tier of a coloured head under the present configuration; none for a red one under HOLD (R269, R274). A
disabled partition has no meter, so that its heads all drain as best-effort (R287). (DEDUCED, log 19) -/
def tierOf (p : Part) (c : Colour) : Option (Fin 5) :=
  if !cfgEn p.cfg then some 3
  else match c with
  | .green => some (if p.cls = 2 then 1 else if p.cls = 1 then 2 else 3)
  | .yellow => some 3
  | .red => if cfgDemote p.cfg then some 4 else none

/-- The cost of one line in virtual time (R275). -/
def wfqInc (p : Part) : Nat := (65536 + p.weight - 1) / p.weight

/-- Tags in serial order (R275). -/
def laterTag (a b : Word) : Bool := (a - b).toNat < 2 ^ 31

/-- The next finish tag of a partition in a tier of a sub-channel (R275). -/
def nextTag (s : State) (x : Sc) (t : Fin 5) (p : Part) : Word :=
  let v := (s.qos.vt.get x).get t
  let start := match kfind p.tags (5 * x.val + t.val) with
    | some f => if laterTag f v then f else v
    | none => v
  start + BitVec.ofNat 32 (wfqInc p)

/-- A head enters a tier: it takes a tag there unless it is in that tier already (R276). -/
def enterTier (r : Req) (t : Option (Fin 5)) (s : State) : State :=
  if r.tier = t then s
  else
    match t with
    | none => updReq r.id (fun r => { r with tier := none }) s
    | some t =>
      let p := partOf s r.part.toNat
      let f := nextTag s (scOf r.lla) t p
      updReq r.id (fun r => { r with tier := some t, ftag := f })
        (setPart r.part.toNat { p with tags := kset p.tags (5 * (scOf r.lla).val + t.val) f } s)

/-- A partial write that changes nothing (R93). -/
def Req.nothing (r : Req) : Bool := r.op = .writePartial && r.mask = 0

/-- A host write to a mirrored window at the primary, whose response needs both outcomes (R23). -/
def Req.twoSided (s : State) (r : Req) : Bool := r.mirrored && !r.op.isPeer && s.mir.primary

/-- A request for a line whose local rank is not in service is answered FAILED without entering a queue, or a
POISON_LINE of it is dropped: all but those that the peer serves (R146, R387 to R389, R394). -/
def deadFails (s : State) (r : Req) : Bool :=
  !rankLive s r.lla && !r.nothing && !(r.twoSided s && s.mir.pair = .healthy)

/-- A head that is charged nothing: a POISON_LINE of the peer (R392), and a request that is answered FAILED without
entering a queue (R265). -/
def uncharged (s : State) (r : Req) : Bool := r.op = .peerMessage || deadFails s r

/-- Colour a head, charge the meter, place it in its tier (R268). -/
def colourHead (r : Req) (s : State) : State :=
  let p := partOf s r.part.toNat
  let free := uncharged s r
  let (c, p') := if free then (Colour.green, p) else colourOf p
  let s := setPart r.part.toNat (if free then p else countColour c p') s
  let s := updReq r.id (fun r => { r with colour := some c }) s
  enterTier { r with colour := some c } (tierOf p c) s

/-- A finish tag becomes invalid when its sub-list becomes empty (R276). -/
def dropTags (s : State) : State :=
  let used (label x : Nat) : Bool := s.reqs.any fun r => r.linked && r.part.toNat = label && (scOf r.lla).val = x
  let trim (e : Nat × Part) : Nat × Part := (e.1, { e.2 with tags := e.2.tags.filter fun t => used e.1 (t.1 / 5) })
  updQos (fun q => { q with parts := q.parts.map trim }) s

/-- Every new head is coloured at the moment it becomes head, but for RTP requests in panic (R268). -/
def colourHeads (s : State) : State :=
  let s := dropTags s
  forAll (s.reqs.filter fun r => isHead s r && r.colour.isNone && !inPanic s r) colourHead s

/-! ### Panic (R124, R280) -/

/-- The exit level in use (PRT_RTP_CFG). -/
def panicExit (s : State) : Nat :=
  let l := regFld s 0x8140 6 0
  let e := regFld s 0x8140 22 16
  if l ≠ 0 ∧ l ≤ e then l - 1 else e

/-- The urgent condition. -/
def urgentNow (s : State) : Bool := s.qos.urgent && regBit s 0x8140 23

/-- Queued entries of RTP become urgent when panic begins (R280). -/
def urgeRtp (s : State) : State :=
  { s with sched := s.sched.map fun q => { q with
      rq := q.rq.map (fun e => { e with urgent := e.urgent || e.rtp })
      wq := q.wq.map (fun e => { e with urgent := e.urgent || e.rtp }) } }

/-- Panic after a change of occupancy or urgency (R124); when it ends, heads that were not coloured
are coloured (R268, R289). -/
def panicUpdate (s : State) : State :=
  let occ := rtpCount s
  let l := regFld s 0x8140 6 0
  let s := updQos (fun q => { q with peakRtp := max q.peakRtp occ }) s
  if s.qos.panic then
    if occ ≤ panicExit s ∧ !urgentNow s then colourHeads (updQos (fun q => { q with panic := false }) s) else s
  else if (l ≠ 0 ∧ l ≤ occ) ∨ urgentNow s then
    policyPanic (sqSet (rPrtStatus 4) 0x10 (urgeRtp (missAll 1 (updQos (fun q => { q with panic := true }) s))))
  else s

/-- The ingress stage changed: the requests that are heads now are coloured, and panic is judged again. -/
def ingressLeft (s : State) : State := panicUpdate (colourHeads s)

/-! ### Uninitialised regions (R15, R163 to R167) -/

/-- The region of an LLA is initialised. -/
def regionInit (s : State) (l : Lla) : Bool := s.glb.init.getLsbD (regionOf l)

/-- A write of a line that has been accepted and not yet answered by its queue. -/
def Req.openWrite (r : Req) : Bool :=
  r.op.isLineWrite && r.inIngress

/-- An accepted write to the region is outstanding (R15). -/
def regionWritten (s : State) (l : Lla) : Bool :=
  s.reqs.any fun r => (r.openWrite || (r.op = .peerMessage && r.linked)) && decide (regionOf r.lla = regionOf l)

/-- The region waits for zeroing on demand, or is being zeroed on demand (R15, R165). -/
def onDemandNow (s : State) (l : Lla) : Bool := (s.glb.onDemand.get (scOf l)).contains (regionOf l)

/-- A read of the line is answered with zeros at once (R15, R164, R167). -/
def readsZero (s : State) (l : Lla) : Bool := !regionInit s l && !regionWritten s l && !onDemandNow s l

/-- A read of the line waits until its region has been zeroed (R15, R164, R167). -/
def readWaits (s : State) (l : Lla) : Bool := !regionInit s l && (regionWritten s l || onDemandNow s l)

/-- A write waits for its region: the region joins its sub-channel's on-demand queue (R165), unless it is queued or has
been zeroed and waits for its bitmap-copy line (R160). -/
def demand (l : Lla) (s : State) : State :=
  let x := scOf l
  if regionInit s l ∨ (s.glb.onDemand.get x).contains (regionOf l) ∨ s.glb.initWait.contains (regionOf l) then s
  else updGlb (fun g => { g with onDemand := vmod g.onDemand x fun q => q ++ [regionOf l] }) s

/-- A write still in the ingress stage, with or without its beat. -/
def Req.ingressWrite (r : Req) : Bool := r.openWrite || (r.op = .peerMessage && r.linked)

/-- The head is blocked (R263): an older write to its line is still in the ingress stage, or its region
is not initialised. (DEDUCED, log 19) -/
def blocked (s : State) (r : Req) : Bool :=
  (s.reqs.any fun q => q.ingressWrite && q.lla = r.lla && decide (q.id < r.id)) || !regionInit s r.lla

/-! ### Gliog requests (R283) -/

/-- A line request of the partition may be made on the sub-channel (R21, R283). -/
def glgEligible (s : State) (label : Nat) (x : Sc) : Bool :=
  let p := partOf s label
  shaperOk p && decide (0 ≤ s.qos.tb.get x) && ((colourOf p).1 ≠ .red || cfgDemote p.cfg)

/-- Charge a line request that the arbiter grants (R283). A label whose partition is disabled keeps its own entry, and
nothing is counted in QOS_UNMAPPED: R264 speaks of requests of the ports. (DEDUCED, log 41; DESIGN CHOICE, log 67) -/
def glgCharge (label : Nat) (x : Sc) (s : State) : State :=
  let (c, p) := colourOf (partOf s label)
  tbDebit x (shaperDebit label (setPart label (countColour c p) s))

/-! ### Circumstances of a guarantee miss (R285) -/

/-- RFMs for back-offs that a channel still owes (R242). -/
def aboOwed (s : State) (c : Ch) : Nat := ((s.ref.abo.get c).map AboReq.left).sum

/-- Refresh of the sub-channel is in the emergency state: some unit is, or RFMs for a back-off are
owed (R236, R242); in BIND_OFF none is (R494). -/
def emergency (s : State) (x : Sc) : Bool :=
  s.glb.ctl ≠ .bindOff && ((s.ref.units.any fun e => decide (e.1 / 64 = x.val) && e.2.emergency)
    || decide (0 < aboOwed s (chOf x)))

/-- Partitions for which misses are detected (09, "Guarantee-miss detection"). -/
def tracked (p : Part) : Bool := cfgEn p.cfg && decide (cfgClass p.cfg = 1 ∨ cfgClass p.cfg = 2) && decide (cfgMiss p.cfg ≠ 0)

/-- Note a circumstance of a possible miss for the partitions that a test picks (R285). -/
def missNote (bit : Nat) (pick : Nat → Part → Bool) (s : State) : State :=
  let f (e : Nat × Part) : Nat × Part :=
    if tracked e.2 && pick e.1 e.2 then (e.1, { e.2 with missWhy := e.2.missWhy ||| (1 <<< bit) }) else e
  updQos (fun q => { q with parts := q.parts.map f }) s

/-- The sub-channels for which a partition holds queued requests, as a mask. -/
def queuedScs (s : State) (label : Nat) : BitVec 4 :=
  BitVec.ofNat 4 ((fins 4).map fun x =>
    if s.reqs.any (fun r => r.linked && r.part.toNat = label && scOf r.lla = x) then 2 ^ x.val else 0).sum

/-- What a request shows of its partition when it enters the ingress stage (R285): the sub-channel for which it
is queued, whether it is blocked, whether refresh there is in the emergency state. (DEDUCED, log 19) -/
def missQueued (r : Req) (s : State) : State :=
  let x := scOf r.lla
  let why : Byte := BitVec.ofNat 8 (128 * b2n (blocked s r) + b2n (emergency s x))
  let f (e : Nat × Part) : Nat × Part :=
    if tracked e.2 && decide (e.1 = r.part.toNat) then
      (e.1, { e.2 with missScs := e.2.missScs ||| (1 <<< x.val), missWhy := e.2.missWhy ||| why })
    else e
  updQos (fun q => { q with parts := q.parts.map f }) s

/-- Refresh of a sub-channel enters the emergency state: a circumstance for the partitions that have requests
queued there (R285). -/
def missEmergency (x : Sc) (s : State) : State :=
  missNote 0 (fun label _ => (queuedScs s label).getLsbD x.val) s

/-- The partition that is charged: P0 for a disabled label (R264). -/
def chargePart (q : Req) (s : State) : State :=
  if cfgEn (partOf s q.label.toNat).cfg then s
  else sqSet 0x9034 0x2 (bump 0x9040 (updReq q.id (fun r => { r with part := 0 }) s))

end Sys2Proof.Machine
end

