-- ==== Sys2Proof/Machine/MirOps.lean ====
section
/-! DEFINITION. What mirrored writes, the dirty bitmap, the copy-line buffers and the pair state share
(12; 05 R160; 07 R535; 01 R23). -/

namespace Sys2Proof.Machine

/-! ### The copy-line buffers (R535) -/

/-- Line j + 1 of the dirty bitmap copy of channel c, or its pair record at line 0 (R398, R407). -/
def dirtyLla (s : State) (c : Ch) (line : Nat) : Lla := sysLine s c (131072 + line)

/-- Line j + 1 of the dirty bitmap copy: bit k is region 512 j + k of channel c (R398). -/
def dirtyBits (s : State) (c : Ch) (j : Nat) : Line := s.mir.dirty.extractLsb' (c.val * 2 ^ 19 + 512 * j) 512

/-- Epoch and role that the pair record holds: those after a role change that is under way (R404). -/
def recordNow (s : State) : BitVec 8 × Bool :=
  match s.mir.role with
  | some _ => (s.mir.epoch + 1, false)
  | none => (s.mir.epoch, s.mir.primary)

/-- The pair record (R407). -/
def pairRecord (s : State) : Line :=
  let (e, p) := recordNow s
  let ws : List Word :=
    [pack [(1, 16), (e.toNat, 8), (b2n p, 7)], pack [((peerId s).toNat, 16), (s.glb.ctlId.toNat, 0)],
     regGet s 0x6018, regGet s 0x601C] ++ List.replicate 11 0
  lineOfWords (ws ++ [wordsCrc ws])

/-- The line of a key of `Mir.dirtyCopy`: its channel, its LLA and its present contents. -/
def copyLine (s : State) (k : Nat) : Ch × Lla × Line :=
  if k < 2048 then
    let c := chN (k / 1024)
    (c, dirtyLla s c (k % 1024 + 1), dirtyBits s c (k % 1024))
  else
    let c := chN (k - 2048)
    (c, dirtyLla s c 0, pairRecord s)

/-- The buffer of channel c can take the line: it holds it, or has a free entry (R535). A channel that
does not serve takes no line (R404 writes only to those that serve): nothing waits for it. -/
def copyRoom (s : State) (c : Ch) (l : Lla) : Bool :=
  let b := (s.sched.get (scA c)).copy
  !chLive s c || b.any (fun e => e.lla = l) || decide (b.length < 16)

/-- The line enters the buffer of channel c, in place of an entry that holds it (R535). -/
def copyPut (c : Ch) (l : Lla) (d : Line) (s : State) : State :=
  onlyIf (chLive s c) (updSched (scA c) (fun x =>
    if x.copy.any (fun e => e.lla = l) then
      { x with copy := x.copy.map fun e => if e.lla = l then { e with data := d } else e }
    else { x with copy := x.copy ++ [⟨l, d, ccNow s (scA c)⟩] })) s

/-- The bits of a block of 512 regions in the bitmap copy (05, "Retention record and bitmap copy"). -/
def initBits (s : State) (blk : Nat) : Line := s.glb.initCopy.extractLsb' (512 * blk) 512

/-- Set one bit of a map of regions. -/
def setBit (m : BitVec 1048576) (r : Nat) : BitVec 1048576 := m ||| BitVec.ofNat 1048576 (1 <<< r)
def clrBit (m : BitVec 1048576) (r : Nat) : BitVec 1048576 := m &&& ~~~(BitVec.ofNat 1048576 (1 <<< r))

/-- Regions whose bit is clear (05, GLB_INIT_LEFT). -/
def initLeft (s : State) : Nat := 2 ^ 20 - popMap s.glb.init

/-- GLB_CO_INIT_DONE and its time, once every bit is set (05). -/
def initDone (s : State) : State :=
  if initLeft s = 0 ∧ !regBit s rCastOn 0 ∧ regGet64 s 0x0050 = 0 then
    sqSet rCastOn 1 (regSet64 0x0050 s.glb.now s)
  else s

/-- A zeroed region: its bit enters the copy line, then the bitmap on die; both wait while the buffer
is full (R160). -/
def pumpInit (r : Nat) (s : State) : State :=
  let c := chN (r / 2 ^ 19)
  let l := sysLine s c (1 + r / 512)
  if copyRoom s c l then
    let s := updGlb (fun g => { g with initCopy := setBit g.initCopy r, init := setBit g.init r
                                       initWait := g.initWait.filter (· ≠ r) }) s
    initDone (copyPut c l (initBits s (r / 512)) s)
  else s

/-- A waiting line write of the dirty bitmap copy or the pair record. -/
def pumpDirty (k : Nat) (s : State) : State :=
  let (c, l, d) := copyLine s k
  if copyRoom s c l then copyPut c l d (updMir (fun m => { m with dirtyCopy := m.dirtyCopy.filter (· ≠ k) }) s) else s

/-- The key of the bitmap-copy line that holds a region's dirty bit. -/
def dirtyKey (r : Nat) : Nat := r / 2 ^ 19 * 1024 + r % 2 ^ 19 / 512

/-- A mirrored write has both outcomes and is answered OK, unless its port has answered it; one that is in DRAM is then
done (R12, R23, R119). -/
def answerSettled (id : Nat) (s : State) : State :=
  let s := answer id .ok 0 s
  onlyIf ((findReq s id).any fun r => r.answered && r.written) (finish id) s

/-- A write whose bitmap-copy line has entered the buffer is answered (R390). -/
def dirtyRelease (s : State) : State :=
  forAll (s.reqs.filter fun r => r.dirtyWait && !s.mir.dirtyCopy.contains (dirtyKey (regionOf r.lla)))
    (fun r s => answerSettled r.id (updReq r.id (fun r => { r with dirtyWait := false }) s)) s

/-- The messages that waited for the pair record leave (R404). -/
def recordRelease (s : State) : State :=
  if s.mir.dirtyCopy.all (· < 2048) then
    { s with egp := { s.egp with waiting := s.egp.waiting ++ s.mir.recordMsgs }, mir := { s.mir with recordMsgs := [] } }
  else s

/-- Everything that waits for room in a copy-line buffer goes on as far as it can. -/
def pumpCopy (s : State) : State :=
  recordRelease (dirtyRelease (forAll s.mir.dirtyCopy pumpDirty (forAll s.glb.initWait pumpInit s)))

/-- Write a line of the dirty bitmap copy or a pair record through the buffer. -/
def copyWrite (k : Nat) (s : State) : State :=
  pumpCopy (updMir (fun m => { m with dirtyCopy := if m.dirtyCopy.contains k then m.dirtyCopy else m.dirtyCopy ++ [k] }) s)

/-- Set the dirty bit of a region (R390); a bit that was clear is counted and its copy line written.
(DEDUCED, log 32) -/
def setDirty (r : Nat) (s : State) : State :=
  if s.mir.dirty.getLsbD r then s
  else copyWrite (dirtyKey r) (bump 0x6058 (updMir (fun m => { m with dirty := setBit m.dirty r }) s))

/-- Write the pair record on every configured channel that serves (R404, R405, R407). -/
def writeRecords (s : State) : State :=
  forAll (fins 2) (fun c s => if chLive s c then copyWrite (2048 + c.val) s else s) s

/-- Dirty regions. -/
def dirtyCount (s : State) : Nat := popMap s.mir.dirty

/-! ### Pair states (R385, R386, R396, R411) -/

/-- The code of a pair state (R385). -/
def PairState.code : PairState → Nat
  | .disabled => 0 | .joining => 1 | .healthy => 2 | .degraded => 3 | .resilvering => 4

/-- The line's pair is healthy (R386). -/
def lineHealthy (s : State) (l : Lla) : Bool :=
  match s.mir.pair with
  | .healthy => true
  | .resilvering => s.mir.primary && !s.mir.dirty.getLsbD (regionOf l)
  | _ => false

/-- The window of an LLA is mirrored. -/
def lineMirrored (s : State) (l : Lla) : Bool :=
  match rev s l with
  | .valid n _ => mirEn s && (winOf s n).any Win.mirror
  | _ => false

/-- The system line of an LLA in a window; 0 elsewhere. -/
def sysAddr (s : State) (l : Lla) : LineAddr :=
  match rev s l with
  | .valid _ a => BitVec.ofNat 50 a
  | _ => 0

/-- MIRROR_DEGRADED, MIRROR_RESTORED and ROLE_CHANGE (R411). -/
def mirRecord (ty : Nat) (sev : Fin 8) (kind prev tok : Nat) (s : State) : State :=
  raise ty sev 5
    [pack [(kind, 28), (b2n s.mir.primary, 27), ((peerId s).toNat, 16), (s.mir.epoch.toNat, 8), (prev, 0)],
     BitVec.ofNat 32 (dirtyCount s), pack [(tok, 16)]] s

/-- ROLE_CHANGE with its severity (R411). -/
def roleRecord (reason : Nat) (prev : BitVec 8) (s : State) : State :=
  sqSet 0x602C 0x8 (mirRecord 0x0F (if reason = 2 then 3 else 1) reason prev.toNat 0 s)

/-- Logical chip selects of a channel that are in service. -/
def csLive (s : State) (c : Ch) (cs : Nat) : Bool := chLive s c && !(s.glb.ch.get c).offline.getLsbD cs

/-- The chip selects of both channels that are offline or out of service, as ROLE_CHANGE words them (R406). -/
def deadScope (s : State) : Byte :=
  BitVec.ofNat 8 <| ((fins 2).flatMap fun c => (List.range (nCs s)).map fun k =>
    if chConf s c && !csLive s c k then 2 ^ (4 * c.val + k) else 0).sum

/-- A role change of the primary's own accord (R403, reason 0) or at the manager's request (reason 1):
only in HEALTHY. ROLE_CHANGE_INITIATE carries it out. -/
def reqRole (reason : Nat) (s : State) : State :=
  if s.mir.primary && s.mir.pair = .healthy && s.mir.role.isNone then
    updMir (fun m => { m with role := some ⟨reason, if reason = 0 then deadScope s else 0, false, 0⟩ }) s
  else s

/-! ### The outcome of a mirrored write (R23) -/

/-- Answer a mirrored write once both outcomes are known (R23, R388, R390). -/
def settle (id : Nat) (s : State) : State :=
  match findReq s id with
  | none => s
  | some r =>
    match r.localC, r.peerC with
    | .yes, .yes => answerSettled id s
    | .yes, .no =>
      let s := setDirty (regionOf r.lla) s
      if !r.answered && s.mir.dirtyCopy.contains (dirtyKey (regionOf r.lla)) then
        updReq id (fun r => { r with dirtyWait := true }) s
      else answerSettled id s
    | .no, .yes => reqRole 0 (finish id (answer id .ok 0 s))
    | .no, .no => finish id (answer id .failed 0 s)
    | _, _ => s

/-- The local outcome is known. -/
def settleLocal (id : Nat) (c : Commit) (s : State) : State :=
  settle id (updReq id (fun r => { r with localC := c }) s)

/-- The peer outcome is known: that of the write itself, and that of every older write which it superseded
before their forward (R23, R189). (DEDUCED, log 33) -/
def settlePeer (id : Nat) (c : Commit) (s : State) : State :=
  forAll (s.reqs.filter fun r => r.id = id || r.rides = some id)
    (fun r s => settle r.id (updReq r.id (fun r => { r with peerC := c }) s)) s

/-- The mirrored write that an egress operation forwards. -/
def EgpReq.forwards (r : EgpReq) : Option Nat :=
  match r.why with
  | .mirrorWrite id | .poisonNotice id => some id
  | _ => none

/-- An operation of the resilver requester. -/
def EgpReq.isResilver (r : EgpReq) : Bool :=
  match r.why with
  | .resilver .. => true
  | _ => false

/-- The forward of a line that a Gliog job wrote: instance, owner epoch, line. -/
def EgpReq.glgForwards (r : EgpReq) : Option (InstId × Byte × Lla) :=
  match r.why with
  | .glgMirror i e l => some (i, e, l)
  | _ => none

/-- A data access or an egress operation of a job failed: it ends with FAILED at its next granule boundary
(R469, R480), unless it has ended or belongs to an old owner. -/
def glgFail (i : InstId) (e : Byte) (s : State) : State :=
  updInst i (fun a =>
    if a.epoch = e then { a with job := a.job.map fun j => if j.stop.isNone then { j with stop := some 10 } else j } else a) s

/-- The peer did not take a line that a job wrote: its region is dirty (R390), or nothing holds it. -/
def glgUnmirrored (w : InstId × Byte × Lla) (s : State) : State :=
  if rankLive s w.2.2 then setDirty (regionOf w.2.2) s else glgFail w.1 w.2.1 s

/-- The operations that EGP holds: those that wait, and those that are live. -/
def egpHeld (s : State) : List EgpReq := s.egp.waiting ++ s.egp.slots.filterMap fun e => e.2.live.map Prod.fst

/-- A controller that is no longer primary forwards nothing more: a write that has committed here and for which EGP holds
no forward, such as one that waits for its merge, has no peer commit (R23, R384). One that rides a forward follows it. -/
def settleOpen (s : State) : State :=
  let held := (egpHeld s).filterMap EgpReq.forwards
  forAll (s.reqs.filter fun r => r.peerOpen && !held.contains r.id && !r.rides.any held.contains)
    (fun r s => settlePeer r.id .no s) s

/-- In DEGRADED the primary forwards nothing: forwards that EGP has not issued are given up (R397). -/
def dropForwards (s : State) : State :=
  let gone := s.egp.waiting.filterMap EgpReq.forwards
  let glg := s.egp.waiting.filterMap EgpReq.glgForwards
  let s := { s with egp := { s.egp with waiting := s.egp.waiting.filter fun r =>
    r.forwards.isNone && r.glgForwards.isNone && !r.isResilver } }
  forAll glg glgUnmirrored (forAll gone (fun id s => settlePeer id .no s) s)

/-- A cause of R396 occurs: the pair enters DEGRADED from HEALTHY, RESILVERING or JOINING; in DEGRADED
the latest cause is shown and nothing is raised. Causes 5 and 6 hold (R397). The record counts the dirty regions after
the forwards that are given up (R411). (DEDUCED, log 31) -/
def degrade (cause : Nat) (tok : Nat) (s : State) : State :=
  if s.mir.pair = .disabled then s
  else
    let old := s.mir.pair
    let s := updMir (fun m => { m with
      cause := BitVec.ofNat 4 cause, hold5 := m.hold5 || cause == 5, hold6 := m.hold6 || cause == 6 }) s
    let s := onlyIf (cause == 5) (sqSet 0x602C 0x10) s
    if old = .degraded then s
    else
      mirRecord 0x0D 2 cause 0 tok (dropForwards (sqSet 0x602C 0x2
        (updMir (fun m => { m with pair := .degraded, degradedAt := s.glb.now, locks := [] }) s)))

/-- The primary forwards writes (R387, R400). -/
def forwardsNow (s : State) : Bool := s.mir.primary && (s.mir.pair = .healthy || s.mir.pair = .resilvering)

/-- Forward a committed line of a mirrored write (R387, R391), or know that it is not forwarded.
(DEDUCED, log 33) -/
def forward (id : Nat) (data : Line) (poison : Bool) (s : State) : State :=
  match findReq s id with
  | none => s
  | some r =>
    if forwardsNow s then
      if poison then sendPeer tyResilver (poisonPay r.addr) (.poisonNotice id) s
      else egpAsk (peerOp s .mirrorWrite r.addr data (.mirrorWrite id)) s
    else settlePeer id .no s

/-- A request for a mirrored window that the ingress stage still holds. -/
def Req.heldMirrored (r : Req) : Bool := r.mirrored && !r.op.isPeer && r.inIngress

/-- A controller that has lost the PRIMARY role answers the mirrored host requests it holds NOT_OWNED
(R382, R404). -/
def heldNotOwned (s : State) : State :=
  ingressLeft (forAll (s.reqs.filter Req.heldMirrored) (fun r s => finish r.id (answer r.id .notOwned 0 s)) s)

/-- Epochs in serial order (R384). -/
def laterEpoch (a b : BitVec 8) : Bool := 1 ≤ (a - b).toNat && (a - b).toNat ≤ 127

/-- A pending role change of the primary ends unfinished: the manager's rotate ends with code 2 (R404, R412).
(DEDUCED, log 31) -/
def roleOff (s : State) : State :=
  match s.mir.role with
  | none => s
  | some r =>
    let s := updMir (fun m => { m with role := none }) s
    if r.reason = 1 then updMir (fun m => { m with ctlBusy := false }) (regSet 0x6028 (pack [(2, 28)]) s) else s

/-- A later peer epoch is learned (R384). The writes that have committed here alone are settled first (R23). -/
def learnEpoch (e : BitVec 8) (s : State) : State :=
  if laterEpoch e s.mir.epoch then
    let prev := s.mir.epoch
    let s := updMir (fun m => { m with epoch := e, primary := false, exchange := none }) (roleOff (settleOpen s))
    heldNotOwned (roleRecord 4 prev (degrade 8 0 s))
  else s

end Sys2Proof.Machine
end

