-- ==== Sys2Proof/Machine/Code.lean ====
section
/-! DEFINITION. The line code of 11: RS(43,35) over GF(2^16), its encoder, its decoder, and the
attribution of located errors to devices. -/

namespace Sys2Proof.Machine

/-! ### The field (R335). Elements are numbers below 2^16; addition is exclusive or. -/

/-- Multiplication by α. -/
def gfX (a : Nat) : Nat := if a.testBit 15 then (2 * a) ^^^ 0x1100B else 2 * a

/-- The product of two symbols. -/
def gfMul (a b : Nat) : Nat :=
  (List.range 16).foldl (fun r i => let r := gfX r; if b.testBit (15 - i) then r ^^^ a else r) 0

/-- α to a power. -/
def gfPow : Nat → Nat
  | 0 => 1
  | n + 1 => gfX (gfPow n)

/-- Division by α. -/
def gfXInv (a : Nat) : Nat := if a.testBit 0 then (a ^^^ 0x1100B) / 2 else a / 2

/-- α to a negative power. -/
def gfPowNeg : Nat → Nat
  | 0 => 1
  | n + 1 => gfXInv (gfPowNeg n)

/-- The inverse a^(2^16 − 2): the product of the squares a^2, a^4, … a^(2^15). -/
def gfInv (a : Nat) : Nat :=
  ((List.range 15).foldl (fun (p : Nat × Nat) _ => let q := gfMul p.2 p.2; (gfMul p.1 q, q)) (1, a)).1

/-! ### Polynomials: coefficients, lowest first -/

def polyAdd : List Nat → List Nat → List Nat
  | [], b => b
  | a, [] => a
  | x :: a, y :: b => (x ^^^ y) :: polyAdd a b

def polyScale (c : Nat) (a : List Nat) : List Nat := a.map (gfMul c)

/-- Multiply by (1 + r x). -/
def polyRoot (r : Nat) (a : List Nat) : List Nat := polyAdd a (0 :: polyScale r a)

/-- The value at a point. -/
def polyEval (a : List Nat) (x : Nat) : Nat := a.foldr (fun c v => c ^^^ gfMul v x) 0

/-- Coefficient i of a product. -/
def polyCoef (a b : List Nat) (i : Nat) : Nat :=
  (List.range (i + 1)).foldl (fun v j => v ^^^ gfMul (a.getD j 0) (b.getD (i - j) 0)) 0

/-- The degree; 0 for the zero polynomial. -/
def polyDeg (a : List Nat) : Nat := (a.reverse.dropWhile (· = 0)).length - 1

/-- The formal derivative in characteristic 2. -/
def polyDeriv (a : List Nat) : List Nat :=
  (a.drop 1).zipIdx.map fun (c, i) => if i % 2 = 0 then c else 0

/-! ### Symbols of a line and of an address (R335, R336) -/

/-- d_i: bit b is line bit 32 b + i. -/
def dataSym (l : Line) (i : Nat) : Nat :=
  (List.range 16).foldl (fun v b => v + b2n (l.getLsbD (32 * b + i)) * 2 ^ b) 0

/-- The line whose data symbols are given. -/
def lineOfSyms (d : List Nat) : Line :=
  BitVec.ofNat 512 <| (List.range 512).foldl
    (fun v k => v + b2n ((d.getD (k % 32) 0).testBit (k / 32)) * 2 ^ k) 0

/-- v0, v1 and v2 of an LLA, with the poison bit. -/
def virtSyms (a : Lla) (poison : Bool) : List Nat :=
  [a.toNat % 2 ^ 16, a.toNat / 2 ^ 16 % 2 ^ 16, a.toNat / 2 ^ 32 + b2n poison * 2 ^ 15]

/-- The symbols of a burst, positions 0 to 39. -/
def burstSyms (b : Burst) : List Nat := (List.range 40).map fun p => b.toNat / 2 ^ (16 * p) % 2 ^ 16

/-- A burst from its symbols. -/
def burstOf (l : List Nat) : Burst :=
  BitVec.ofNat 640 (l.foldr (fun x v => x + 2 ^ 16 * v) 0)

/-! ### Encoding (R337, R338) -/

/-- g(x) = (x + α^0) … (x + α^7) without its leading coefficient, lowest first. -/
def genPoly : List Nat :=
  ((List.range 8).foldl (fun g i => polyAdd (polyScale (gfPow i) g) (0 :: g)) [1]).take 8

/-- One step of the division by g(x): the remainder so far and the next coefficient below. -/
def divStep (g r : List Nat) (x : Nat) : List Nat :=
  let f := r.getD 7 0 ^^^ x
  polyAdd (0 :: r.take 7) (polyScale f g)

/-- The check symbols: M(x) mod g(x), M given by its coefficients from position 42 down to 8. -/
def checkSyms (m : List Nat) : List Nat := m.foldl (divStep genPoly) (List.replicate 8 0)

/-- The 40 symbols that the pins carry for a line written at an LLA (R337, R338). -/
def encodeLine (a : Lla) (l : Line) (poison : Bool) : Burst :=
  let d := if poison then List.replicate 32 0 else (List.range 32).map (dataSym l)
  burstOf (checkSyms ((d ++ virtSyms a poison).reverse) ++ d)

/-! ### Decoding (R339 to R341) -/

/-- The 43 received symbols for an issued LLA (R339). -/
def received (a : Lla) (b : Burst) : List Nat := burstSyms b ++ virtSyms a false

/-- S_m for m = 0 to 7 (R339). -/
def syndromes (r : List Nat) : List Nat := (List.range 8).map fun m => polyEval r (gfPow m)

/-- A step of the search for the locator polynomial (Berlekamp and Massey, started from the erasure
locator): locator, its correction, their length. -/
def bmStep (s : List Nat) (e : Nat) (st : List Nat × List Nat × Nat) (r : Nat) : List Nat × List Nat × Nat :=
  let (lam, b, len) := st
  let d := polyCoef lam s (r - 1)
  let b' := 0 :: b
  if d = 0 then (lam, b', len)
  else
    let t := polyAdd lam (polyScale d b')
    if 2 * len ≤ r + e - 1 then (t, polyScale (gfInv d) lam, r + e - len) else (t, b', len)

/-- The locator polynomial for syndromes and erased positions. -/
def locator (s : List Nat) (er : List Nat) : List Nat :=
  let g := er.foldl (fun a p => polyRoot (gfPow p) a) [1]
  ((List.range (8 - er.length)).foldl (fun st i => bmStep s er.length st (er.length + 1 + i))
    (g, g, er.length)).1

/-- The value of the error at position p for a locator: Forney's quotient. -/
def errorAt (s lam : List Nat) (p : Nat) : Nat :=
  let x := gfPow p
  let xi := gfPowNeg p
  let om := (List.range 8).map (polyCoef s lam)
  gfMul (gfMul x (polyEval om xi)) (gfInv (polyEval (polyDeriv lam) xi))

/-- Apply located errors to symbols. -/
def applyErrs (r : List Nat) (errs : List (Nat × Nat)) : List Nat :=
  errs.foldl (fun r e => r.modify e.1 fun x => x ^^^ e.2) r

/-- The pattern of R340: located errors of non-zero value in ascending order, or none where no
pattern lies within the capacity. -/
def errPattern (r er : List Nat) : Option (List (Nat × Nat)) :=
  let s := syndromes r
  if s.all (· = 0) then some []
  else
    let lam := locator s er
    let pos := (List.range 43).filter fun p => polyEval lam (gfPowNeg p) = 0
    let errs := (pos.map fun p => (p, errorAt s lam p)).filter fun e => e.2 ≠ 0
    let fresh := (errs.filter fun e => !er.contains e.1).length
    if polyDeg lam = pos.length ∧ fresh ≤ (if er.isEmpty then 4 else 2)
        ∧ (syndromes (applyErrs r errs)).all (· = 0)
    then some errs else none

/-! ### Devices (R342) -/

/-- The device of a position below 40. -/
def devOf (x8 : Bool) (p : Nat) : Nat :=
  if x8 then (if p < 8 then 4 else (p - 8) / 8) else if p < 8 then 8 + p / 4 else (p - 8) / 4

/-- The positions of a device. -/
def devPos (x8 : Bool) (d : Nat) : List Nat := (List.range 40).filter fun p => devOf x8 p = d

/-- The devices of a DIMM. -/
def devCount (x8 : Bool) : Nat := if x8 then 5 else 10

/-- The erased positions of a mark (R339). -/
def erased (x8 : Bool) : Option (Fin 10) → List Nat
  | none => []
  | some d => devPos x8 d.val

/-- The outcome of located errors (R341). -/
def outcomeOf (er : List Nat) (errs : List (Nat × Nat)) : Outcome5 :=
  if errs.any fun e => e.1 = 40 || e.1 = 41 || (e.1 = 42 && e.2 ≠ 0x8000) then .addrMismatch
  else if errs.any fun e => e.1 = 42 then .poison
  else if errs.any fun e => !er.contains e.1 then .corrected
  else .clean

/-- The decode of a captured burst for an issued LLA under a mark (R339 to R341). -/
def decodeBurst (x8 : Bool) (mark : Option (Fin 10)) (a : Lla) (b : Burst) : Decoded :=
  let r := received a b
  let er := erased x8 mark
  match errPattern r er with
  | none => ⟨.uncorrectable, 0, [], mark.isSome⟩
  | some errs =>
    let o := outcomeOf er errs
    let d := if o = .clean ∨ o = .corrected then lineOfSyms (((applyErrs r errs).drop 8).take 32) else 0
    ⟨o, d, errs.map fun e => (e.1, BitVec.ofNat 16 e.2), mark.isSome⟩

/-- The line with its located errors corrected; none where the decoder finds no pattern (R340, R227). -/
def correctedLine (x8 : Bool) (mark : Option (Fin 10)) (a : Lla) (b : Burst) : Option Line :=
  (errPattern (received a b) (erased x8 mark)).map fun errs =>
    lineOfSyms (((applyErrs (received a b) errs).drop 8).take 32)

/-- The device attributed to an UNCORRECTABLE decode on a ×4 DIMM by the ten trials (R355). -/
def trialDevice (a : Lla) (b : Burst) : Option Nat :=
  let r := received a b
  match (List.range 10).filter fun d => (errPattern r (devPos false d)).isSome with
  | [d] => some d
  | _ => none

/-- The stored LLA and the stored poison bit of an ADDR_MISMATCH (R341, R374). -/
def storedAt (a : Lla) (errs : List LocErr) : Lla × Bool :=
  errs.foldl (fun (x : Lla × Bool) e =>
    if e.1 = 40 then (x.1 ^^^ BitVec.ofNat 38 e.2.toNat, x.2)
    else if e.1 = 41 then (x.1 ^^^ BitVec.ofNat 38 (e.2.toNat * 2 ^ 16), x.2)
    else if e.1 = 42 then (x.1 ^^^ BitVec.ofNat 38 (e.2.toNat % 64 * 2 ^ 32), x.2 != e.2.getLsbD 15)
    else x) (a, false)

/-- The device in which all located errors lie (R374); 0xF where there is none. -/
def soleDevice (x8 : Bool) (errs : List LocErr) : Nat :=
  match errs with
  | [] => 0xF
  | e :: r =>
    if 40 ≤ e.1 then 0xF
    else if r.all fun f => decide (f.1 < 40) && decide (devOf x8 f.1 = devOf x8 e.1) then devOf x8 e.1 else 0xF

end Sys2Proof.Machine
end

