-- ==== Sys2Proof/Machine/RasOps.lean ====
section
/-! DEFINITION. What every decoded read shares (11): the decode under the mark of its unit, the records
of R374, the out-of-turn list, the error accounting. -/

namespace Sys2Proof.Machine

/-- Counter i of a sub-channel (11, RAS registers). -/
def rRas (x : Sc) (i : Nat) : Nat := 0x14100 + 0x40 * x.val + 4 * i
def rRasStatus : Nat := 0x14030

/-- The counters and the mark of a unit (R354, R358). -/
def RasUnit.fresh : RasUnit := ⟨Vector.replicate 10 0, 0, none⟩
def unitKey (x : Sc) (u : Nat) : Nat := 64 * x.val + u
def rasUnit (s : State) (x : Sc) (u : Nat) : RasUnit := kget RasUnit.fresh s.ras.units (unitKey x u)
def setUnit (x : Sc) (u : Nat) (r : RasUnit) (s : State) : State :=
  updRas (fun a => { a with units := kset a.units (unitKey x u) r }) s

/-- The unit of an LLA on its sub-channel. -/
def unitOf (s : State) (l : Lla) : Nat := let c := unpackLla l; unitNo s c.cs c.lr

/-- The decode of a burst read for an LLA (R339 to R341). -/
def decodeAt (s : State) (l : Lla) (rx : Burst) : Decoded :=
  decodeBurst (isX8 s) (rasUnit s (scOf l) (unitOf s l)).mark l rx

/-- The corrected line of a burst read for an LLA (R340); a debug read shows it whatever line address it was
stored with (R227). (DEDUCED, log 48) -/
def correctedAt (s : State) (l : Lla) (rx : Burst) : Option Line :=
  correctedLine (isX8 s) (rasUnit s (scOf l) (unitOf s l)).mark l rx

/-- The outcomes in which the line is lost. -/
def Outcome5.lost : Outcome5 → Bool
  | .uncorrectable | .addrMismatch => true
  | _ => false

/-- What a record of R374 adds to the decode. -/
structure RasInfo where
  origin : Nat
  repaired : Bool
  rewritten : Bool
  discarded : Bool
  dev : Nat
  port : Nat
  tag : Nat
  deriving DecidableEq, Repr

/-- A record of an origin without a port. -/
def RasInfo.of (origin dev : Nat) : RasInfo := ⟨origin, false, false, false, dev, 7, 0⟩

/-- The payload of R374. -/
def rasPayload (s : State) (ty : Nat) (l : Lla) (d : Decoded) (i : RasInfo) (count : Nat) : List Word :=
  let er := if d.erasure then erased (isX8 s) (rasUnit s (scOf l) (unitOf s l)).mark else []
  let n := (d.errs.filter fun e => !er.contains e.1).length
  let pos (k : Nat) : Nat := ((d.errs.map Prod.fst).getD k 0x3F)
  let val (k : Nat) : Nat := ((d.errs.map fun e => e.2.toNat).getD k 0)
  let st := storedAt l d.errs
  let mis := decide (ty = 6)
  [pack [(i.origin, 28), ((scOf l).val, 26), (b2n d.erasure, 25), (b2n i.repaired, 24), (b2n i.rewritten, 23),
      (b2n i.discarded, 22), (i.dev, 18), (n, 15), (i.port, 12), (i.tag, 0)],
   pack [(pos 0, 26), (pos 1, 20), (pos 2, 14), (pos 3, 8), (b2n (mis && st.2), 7),
      (if mis then st.1.toNat / 2 ^ 32 else 0, 0)],
   if mis then BitVec.ofNat 32 st.1.toNat else pack [(val 0, 16), (val 1, 0)]]
  ++ addrBlock s l ++ [BitVec.ofNat 32 (sat 0xFFFFFFFF count)]

/-- Interval of limited records in ac (RAS_CE_REC_MS; 0 is used as 1). -/
def cePeriod (s : State) : Nat := ms (max 1 (regFld s 0x14004 7 0))

/-- Raise a record of R374 under the rate of R375. -/
def rasRaise (ty : Nat) (sev : Fin 8) (lim : Bool) (l : Lla) (d : Decoded) (i : RasInfo) (s : State) : State :=
  limited (0x200 + 4 * ty + (scOf l).val) (if lim then cePeriod s else 0)
    (fun n s => raise ty sev 4 (rasPayload s ty l d i n) s) s

/-- The record of a read that is not a scrub, by its outcome (R374, R375). -/
def readRecord (l : Lla) (d : Decoded) (i : RasInfo) (s : State) : State :=
  match d.outcome with
  | .clean => s
  | .corrected => rasRaise 1 1 true l d i s
  | .uncorrectable => rasRaise 2 (if i.origin ≤ 1 then 3 else 2) false l d i s
  | .poison => let hot := i.origin == 1 || i.origin == 9
    rasRaise 5 (if hot then 3 else 2) (!hot) l d i s
  | .addrMismatch => rasRaise 6 3 false l d i s

/-- RAS_UE_SEEN for a lost line. -/
def ueSeen (x : Sc) (o : Outcome5) (s : State) : State :=
  onlyIf o.lost (sqSet rRasStatus (pack [(1, 4 + x.val)])) s

/-- The counters of a read that is not a scrub (11, RAS registers). -/
def countRead (x : Sc) (o : Outcome5) (s : State) : State :=
  ueSeen x o <|
  match o with
  | .clean => s
  | .corrected => bump (rRas x 0) s
  | .uncorrectable => bump (rRas x 1) s
  | .poison => bump (rRas x 2) s
  | .addrMismatch => bump (rRas x 3) s

/-- Enter a line in the out-of-turn list (R352). -/
def ootAdd (x : Sc) (l : Lla) (s : State) : State :=
  let q := (s.ras.scrub.get x).oot
  if q.contains l then s
  else if 16 ≤ q.length then bump (rRas x 9) s
  else updRas (fun a => { a with scrub := vmod a.scrub x fun c => { c with oot := c.oot ++ [l] } }) s

/-- The out-of-turn entry of a read of any origin other than scrub (R352). -/
def ootRead (l : Lla) (o : Outcome5) (s : State) : State :=
  if o.lost || (o = .corrected && regBit s 0x14000 1) then ootAdd (scOf l) l s else s

/-- The lane on which a position of the code travels (R292, R335). -/
def laneOfPos (p : Nat) : Nat := if p < 8 then 32 + p else p - 8

/-- Bits in which the live samplers of a lane disagree with the true bits (R301). -/
def laneErrs (errs : List LocErr) (i : Nat) : Nat :=
  ((errs.filter fun e => decide (e.1 < 40) && decide (laneOfPos e.1 = i)).map fun e => ones 16 e.2.toNat).sum

/-! ### Accounting of scrub decodes (R354 to R356) -/

/-- Thresholds of RAS_THRESH; 0 is used as 1. -/
def rasMarkThr (s : State) : Nat := max 1 (regFld s 0x14004 31 24)
def rasPprThr (s : State) : Nat := max 1 (regFld s 0x14004 23 16)
def rasUeThr (s : State) : Nat := max 1 (regFld s 0x14004 15 8)
def rasWeight (s : State) : Nat := regFld s 0x14000 31 28

/-- Add to a device counter; it saturates (R354). -/
def addDev (d : Fin 10) (n : Nat) (r : RasUnit) : RasUnit :=
  { r with cnt := vmod r.cnt d fun c => BitVec.ofNat 8 (sat 255 (c.toNat + n)) }

/-- Located errors in each device. (DEDUCED, log 30) -/
def devHits (x8 : Bool) (d : Fin 10) (errs : List LocErr) : Nat :=
  (errs.filter fun e => decide (e.1 < 40) && decide (devOf x8 e.1 = d.val)).length

/-- The counters of a unit after a counted decode (R354) and an attributed device (R355). -/
def countDecode (s : State) (d : Decoded) (attr : Option Nat) (r : RasUnit) : RasUnit :=
  let r :=
    if d.outcome = .clean then r
    else (fins 10).foldl (fun r k =>
      let n := devHits (isX8 s) k d.errs
      if n = 0 then r else addDev k (if n = 1 then 1 else rasWeight s) r) r
  let r := match attr with
    | some k => addDev (finOr 9 k) (rasWeight s) r
    | none => r
  if d.outcome.lost then { r with ue := BitVec.ofNat 8 (sat 255 (r.ue.toNat + 1)) } else r

/-- The row-log entry with the lowest count, the least recently incremented of them: the list is kept
in the order of the last increment. -/
def lowest : List RowLog → Nat
  | [] => 0
  | [e] => e.count
  | e :: r => min e.count (lowest r)

/-- Remove the first entry of that count. -/
def dropLowest (q : List RowLog) : List RowLog :=
  match q.findIdx? fun e => e.count = lowest q with
  | some i => q.eraseIdx i
  | none => q

/-- The same row and device. -/
def RowLog.same (a b : RowLog) : Bool :=
  a.unit = b.unit && a.dev = b.dev && a.bg = b.bg && a.ba = b.ba && a.row = b.row

/-- One more error of a row and device: the entry after it, and the log (R356). -/
def logHit (q : List RowLog) (e : RowLog) : RowLog × List RowLog :=
  match q.find? fun x => x.same e with
  | some x => ({ x with count := sat 255 (x.count + 1) }, q.filter fun y => !y.same e)
  | none => (e, if q.length < 32 then q else dropLowest q)

/-- The row log entry of a line and device. -/
def rowLogOf (s : State) (l : Lla) (dev : Nat) : RowLog :=
  let c := unpackLla l
  ⟨unitNo s c.cs c.lr, dev, BitVec.ofNat 3 c.bg, BitVec.ofNat 2 c.bank, dramRow s c, 1⟩

/-- An entry that reaches RAS_PPR_THRESHOLD requests a soft repair and is freed (R356, R358). With RAS_SPPR_EN at 0, or
for a marked device, no repair is requested and the entry stays in the log (DESIGN CHOICE, log 67). -/
def rowLogHit (l : Lla) (dev : Nat) (s : State) : State :=
  let x := scOf l
  let (e, q) := logHit (s.ras.log.get x) (rowLogOf s l dev)
  let marked := (rasUnit s x e.unit).mark.any fun m => m.val = dev
  if rasPprThr s ≤ e.count ∧ regBit s 0x14000 4 ∧ !marked then
    updRas (fun a => { a with log := vset a.log x q, pprWait := a.pprWait ++ [(x, l, dev, e.count, false)] }) s
  else updRas (fun a => { a with log := vset a.log x (q ++ [e]) }) s

/-- A sparing trigger waits for SPARING_START (R365). (DEDUCED, log 29) -/
def spareAsk (c : Ch) (r : SpareReq) (s : State) : State :=
  updRas (fun a => { a with spare := vmod a.spare c fun p => { p with waiting := p.waiting ++ [r] } }) s

/-- A unit's UE count reaches RAS_UE_SPARE_THRESHOLD: a sparing request of its chip select (R365).
(DEDUCED, log 30) -/
def ueSpare (l : Lla) (before after : RasUnit) (s : State) : State :=
  let c := chOf (scOf l)
  let k := unpackLla l
  if before.ue.toNat < rasUeThr s ∧ rasUeThr s ≤ after.ue.toNat then
    spareAsk c ⟨1, BitVec.ofNat 2 k.cs, scOf l, k.lr, 0xF, after.ue.toNat⟩ s
  else s

/-- A device counter reaches RAS_MARK_THRESHOLD in a decode: DEVICE_MARKED acts on it (R357). On ×4 DIMMs
a unit without a mark takes any counter at the threshold, which may have been lowered. (DEDUCED, log 30) -/
def reachMark (x : Sc) (u : Nat) (before after : RasUnit) (s : State) : State :=
  if !regBit s 0x14000 3 then s
  else
    let t := rasMarkThr s
    let hit (d : Fin 10) : Bool :=
      let a := (before.cnt.get d).toNat
      let b := (after.cnt.get d).toNat
      decide (t ≤ b ∧ a < b ∧ (a < t ∨ before.mark = none ∧ isX8 s = false)) && decide (before.mark ≠ some d)
    let new := ((fins 10).filter hit).map fun d => (x, u, d)
    updRas (fun a => { a with reached := a.reached ++ new.filter fun e => !a.reached.contains e }) s

/-- The device of an error (R355): the one that holds every located error, or the one the trials name. -/
def errDevice (s : State) (l : Lla) (d : Decoded) (rx : Burst) : Nat :=
  if d.outcome = .uncorrectable then (if isX8 s then 0xF else (trialDevice l rx).getD 0xF)
  else soleDevice (isX8 s) d.errs

/-- The accounting of a scrub decode (R354 to R356). -/
def account (l : Lla) (d : Decoded) (rx : Burst) (s : State) : State :=
  let x := scOf l
  let u := unitOf s l
  let dev := errDevice s l d rx
  let r := rasUnit s x u
  let r' := countDecode s d (if d.outcome = .uncorrectable ∧ dev ≠ 0xF then some dev else none) r
  let s := reachMark x u r r' (ueSpare l r r' (setUnit x u r' s))
  if d.outcome ≠ .clean ∧ dev ≠ 0xF then rowLogHit l dev s else s

/-- Counters of a scrub decode (11, RAS registers). (DEDUCED, log 30) -/
def countScrub (x : Sc) (o : Outcome5) (s : State) : State :=
  ueSeen x o <|
  match o with
  | .corrected => bump (rRas x 4) s
  | .uncorrectable => bump (rRas x 5) s
  | _ => s

/-! ### Requests of the manager, sparing and debug operations: their ends (R227, R365, R366, R377) -/

/-- RAS_REQ_RESULT. -/
def rReqResult : Nat := 0x14034
def reqBusy (s : State) : Bool := regBit s rReqResult 31
def setResult (busy : Bool) (code : Nat) (s : State) : State := regSet rReqResult (pack [(b2n busy, 31), (code, 28)]) s

/-- DEVICE_MARKED (R377). -/
def markedRecord (r : SpareReq) (action spare regions : Nat) (s : State) : State :=
  let sev : Fin 8 := if action = 1 ∨ action = 2 ∨ action = 5 then 3 else if action = 6 then 2 else 1
  raise 0x0A sev 4
    [pack [(r.sc.val, 30), (r.cs.toNat, 28), (r.lr, 24), (r.dev, 20), (action, 16), (r.count, 8)],
     pack [(if 3 ≤ action then spare else 0, 30), (if action = 4 ∨ action = 6 then regions else 0, 0)], 0] s

/-- Regions copied on both sub-channels (RAS_CHn_COPY_REGIONS). -/
def copyRegions (p : Spare) : Nat := (p.frontier.toList.map fun n => n / 2 ^ 18).sum

/-- The work belongs to a sparing copy. -/
def MntCmd.spares (m : MntCmd) : Bool :=
  match m.op with
  | .lineRead .sparing _ => true
  | .spareWrite _ _ _ => true
  | _ => false

/-- A sparing copy is abandoned, and requests that wait for one lapse (R366, R373). -/
def abandonSparing (c : Ch) (s : State) : State :=
  let p := s.ras.spare.get c
  let s := onlyIf (p.waiting.any fun r => r.why = 2) (setResult false 0) s
  let s := updRas (fun a => { a with spare := vmod a.spare c fun p => { p with waiting := [] } }) s
  match p.st, p.active with
  | .copying, some r =>
    let s := onlyIf (decide (r.why = 2)) (setResult false 0) (markedRecord r 6 p.cs.toNat (copyRegions p) s)
    let s := updRas (fun a => { a with spare := vmod a.spare c fun p => { p with st := .none, active := none } }) s
    forAll [scA c, scB c] (fun x s =>
      let gone (e : Nat × RefUnit) : Bool := decide (e.1 / 64 = x.val) && decide (e.1 % 64 / max 1 (nLr s) = p.cs.toNat)
      updRef (fun a => { a with units := a.units.filter fun e => !gone e })
        (updSched x (fun q => { q with maint := vmod q.maint 6 fun l => l.filter fun m => !m.spares }) s)) s
  | _, _ => s

/-- The lines of the DRAM row of a line (R179, R359). -/
def rowLines (s : State) (l : Lla) : List Lla :=
  let k := unpackLla l
  if isX8 s then (List.range 64).map fun i => Coord.lla { k with line := k.line / 64 * 64 + i }
  else (List.range 128).map fun i => Coord.lla { k with line := i }

/-- The read belongs to a row repair. -/
def Origin.isRepair : Origin → Bool
  | .repair _ => true
  | _ => false

/-- The work of the training requester belongs to a row repair: its write-backs are the only ones of that requester
that end a lock. -/
def MntCmd.repairs (m : MntCmd) : Bool :=
  match m.op with
  | .lineRead o _ => o.isRepair
  | .lineWrite _ _ _ back => back
  | .mode _ _ _ (.set (.repair _ _ _ _ _)) | .mode _ _ _ (.get .pprLeft) => true
  | _ => false

/-- What a repair still had to issue or to read is dropped, and the lines of its row but those given are unlocked. -/
def dropRepairWork (p : Ppr) (keep : List Lla) (s : State) : State :=
  let row := rowLines s p.lla
  updSched p.sc (fun q => { q with
    maint := vmod q.maint 2 fun l => l.filter fun m => !m.repairs
    pipe := q.pipe.filter fun t => !t.origin.isRepair
    lost := q.lost.filter fun t => !t.origin.isRepair
    locks := q.locks.filter fun l => keep.contains l || !row.contains l }) s

/-- Repairs of a channel, waiting or in progress, lapse; the one in progress is lost (R372, R373). -/
def dropRepairs (c : Ch) (s : State) : State :=
  let mine (x : Sc) : Bool := decide (chOf x = c)
  let byReq := (s.ras.pprWait.any fun r => mine r.1 && r.2.2.2.2) || s.ras.ppr.any fun p => mine p.sc && p.byReq
  let s := onlyIf byReq (setResult false 0) s
  let s := match s.ras.ppr with
    | some p => onlyIf (mine p.sc) (dropRepairWork p []) s
    | none => s
  updRas (fun a => { a with pprWait := a.pprWait.filter (fun r => !mine r.1), ppr := a.ppr.filter fun p => !mine p.sc }) s

/-- A debug operation ends: DBG_STATUS and DBG_DATA (R227). Words that its outcome does not fill read 0 (DESIGN CHOICE,
log 67). -/
def rDbgStatus : Nat := 0x38010
def dbgEnd (outcome : Nat) (data : List Word) (s : State) : State :=
  let s := forAll (List.range 16) (fun n s => regSet (0x38040 + 4 * n) (data.getD n 0) s) s
  regSet rDbgStatus (pack [(1, 30), (outcome, 27)]) (updRas (fun a => { a with dbg := none }) s)

/-- The sub-channel that a debug operation works on. -/
def Dbg.sc (d : Dbg) : Sc := if fld d.op 31 28 = 1 then scOf d.lla else scN (fld d.op 25 24)

/-- What the data-integrity block had under way on a channel ends with the channel (R372). -/
def rasLose (c : Ch) (s : State) : State :=
  let s := dropRepairs c (abandonSparing c s)
  let s := updRas (fun a => { a with fetch := a.fetch.filter fun f => decide (chOf f.1 ≠ c) }) s
  if s.ras.dbg.any fun d => decide (chOf d.sc = c) then dbgEnd 5 [] s else s

end Sys2Proof.Machine
end

