-- ==== Sys2Proof/Machine/SchedOps.lean ====
section
/-! DEFINITION. The transaction queues of a sub-channel (07): entry, forwarding, superseding and merging
(R185 to R192), the way out of a queue, and the drain estimate of 15 (R495, R496). -/

namespace Sys2Proof.Machine

/-! ### Timing parameters, numbered by their offset (R203) -/

def pCl : Nat := 0
def pCwl : Nat := 1
def pWbl : Nat := 2
def pRcd : Nat := 3
def pRp : Nat := 4
def pRas : Nat := 5
def pRc : Nat := 6
def pRrdS : Nat := 7
def pRrdL : Nat := 8
def pFaw : Nat := 9
def pCcdS : Nat := 10
def pCcdL : Nat := 11
def pCcdLWr : Nat := 12
def pWtrS : Nat := 13
def pWtrL : Nat := 14
def pRtp : Nat := 15
def pWr : Nat := 16
def pPpd : Nat := 17
def pRtwX : Nat := 18
def pRtrRR : Nat := 19
def pRtrWW : Nat := 20
def pRtrRW : Nat := 21
def pRtrWR : Nat := 22
def pCcdDlr : Nat := 23
def pRrdDlr : Nat := 24
def pFawDlr : Nat := 25
def pRfc1 : Nat := 26
def pRfc2 : Nat := 27
def pRfcSb : Nat := 28
def pRefSbRd : Nat := 29
def pRfcDlr : Nat := 30
def pRfmAb : Nat := 31
def pRfmSb : Nat := 32
def pDrfmAb : Nat := 33
def pDrfmSb : Nat := 34
def pRefi : Nat := 35
def pMrr : Nat := 36
def pMrw : Nat := 37
def pMrd : Nat := 38
def pMpc : Nat := 39
def pZqCal : Nat := 40
def pZqLat : Nat := 41
def pXp : Nat := 42
def pXs : Nat := 43
def pXsDll : Nat := 44
def pCksre : Nat := 45
def pCksrx : Nat := 46

/-- Counter i of a scheduler (07, SCH registers), its status register, its peaks. -/
def rSch (x : Sc) (i : Nat) : Nat := 0xC020 + 0x400 * x.val + 4 * i
def rSchStatus (x : Sc) : Nat := 0xC010 + 0x400 * x.val
def rSchPeak (x : Sc) : Nat := 0xC018 + 0x400 * x.val

/-- The replay window in ck (SCH_Sn_REPLAY_WIN). -/
def replayWin (s : State) (x : Sc) : Nat := regFld s (0xC008 + 0x400 * x.val) 25 16

/-! ### Banks and rows -/

/-- A bank of a logical rank as a number. -/
def bankKey (cs lr bg ba : Nat) : Nat := ((cs * 16 + lr) * 8 + bg) * 4 + ba

/-- Bank and DRAM row of an LLA (R179). -/
def lineBank (l : Lla) : Nat := let c := unpackLla l; bankKey c.cs c.lr c.bg c.bank
def lineRow (s : State) (l : Lla) : Nat := dramRow s (unpackLla l)

def OpenRow.bank (o : OpenRow) : Nat := bankKey o.cs.toNat o.lr.toNat o.bg.toNat o.ba.toNat
def Cmd.bank (c : Cmd) : Nat := bankKey c.cs.toNat c.lr.toNat c.bg.toNat c.ba.toNat

/-- The open row of a bank (R200). -/
def openRow (q : Sched) (bank : Nat) : Option OpenRow := q.rows.find? fun o => o.bank = bank

/-- The row of a line is open. -/
def rowHit (s : State) (q : Sched) (l : Lla) : Bool :=
  (openRow q (lineBank l)).any fun o => o.row.toNat = lineRow s l

/-! ### The drain estimate (R495, R496) -/

/-- Elements of a list without repeats. -/
def distinct (l : List Nat) : List Nat := l.foldl (fun a x => if a.contains x then a else a ++ [x]) []

/-- Unit, bank and row of a line as one number. -/
def rowKey (s : State) (l : Lla) : Nat := lineBank l * 2 ^ 18 + lineRow s l

/-- Bitmap-copy lines that mirrored writes may still change on a channel: R399 names them. -/
def owedLines (s : State) (c : Ch) : List Nat :=
  distinct <| (s.reqs.filter fun r =>
      r.mirrored && !r.op.isPeer && r.localC = .yes && r.peerC = .unknown
        && !s.mir.dirty.getLsbD (regionOf r.lla) && decide (regionOf r.lla / 2 ^ 19 = c.val)).map
    fun r => dirtyKey (regionOf r.lla)

/-- The term l of R495, with further bitmap-copy lines counted. -/
def drainLines (s : State) (x : Sc) (more : List Nat) : Nat :=
  if x.val % 2 = 0 then
    let b := (s.sched.get x).copy
    b.length + (distinct (owedLines s (chOf x) ++ more)).countP fun k =>
      !b.any fun e => e.lla = (copyLine s k).2.1
  else 0

/-- The entry's merge read has not been decoded (R495). One that merges with an older entry has none, and one that takes
its base from the peer had its read decoded. -/
def Merge.open_ : Merge → Bool
  | .needRead | .reading => true
  | _ => false

/-- d of R495 for a sub-channel with further writes (LLA and whether the merge read is open) and
further bitmap-copy lines. -/
def drainEst (s : State) (x : Sc) (more : List (Lla × Bool)) (lines : List Nat) : Nat :=
  let q := s.sched.get x
  let ws : List (Lla × Bool) := q.wq.map (fun e => (e.lla, e.merge.open_)) ++ more
  let w := ws.length
  let m := (ws.filter Prod.snd).length
  let closed := distinct ((ws.filter fun e => !rowHit s q e.1).map fun e => rowKey s e.1)
  let keys := distinct (ws.map fun e => rowKey s e.1)
  let banks := distinct (ws.map fun e => lineBank e.1)
  let r := (banks.map fun b => keys.countP fun k => k / 2 ^ 18 = b).foldl max 0
  let h := if q.writeHold then 256 else 0
  let t := tim s
  let o := t pRcd + t pCl + 8 + t pRtwX + t pWbl + t pWr + t pRp
  max (max (8 * (w + m + drainLines s x lines) + h) (t pRc * r)) ((t pFaw + 3) / 4 * closed.length) + o

/-- cap of R495 for a gear: ⌊PWR_DRAIN_NS × rate / 2,000⌋. -/
def drainCap (s : State) (g : Gear) : Nat := regFld s 0x3020 12 0 * (400 * rateOf s g) / 2000

/-- cap_gc of R331: ⌊1,200 × rate / 2,000⌋. -/
def drainCapGc (s : State) (g : Gear) : Nat := 1200 * (400 * rateOf s g) / 2000

/-- The limit in force: cap_gc while a gear change is pending (R331, R496). -/
def drainLimit (s : State) : Nat :=
  if s.phy.gearPending.isSome then drainCapGc s s.glb.gear else drainCap s s.glb.gear

/-- A further write may enter its queue, or a mirrored write's bitmap-copy line may be owed (R496). A partial write whose
line is queued merges with the entry there and needs no merge read (R190). -/
def drainOk (s : State) (r : Req) (entry : Bool) : Bool :=
  let x := scOf r.lla
  let partial_ := r.op = .writePartial && r.mask ≠ BitVec.allOnes 64 && !(s.sched.get x).wq.any fun e => e.lla = r.lla
  let more := if entry then [(r.lla, partial_)] else []
  let own := !entry || decide (drainEst s x more [] ≤ drainLimit s)
  let key := dirtyKey (regionOf r.lla)
  let a := scA (chN (regionOf r.lla / 2 ^ 19))
  let line := r.mirrored && s.mir.primary && !r.op.isPeer && !s.mir.dirty.getLsbD (regionOf r.lla)
  own && (!line || decide (drainEst s a (if a = x then more else []) [key] ≤ drainLimit s))

/-! ### Entries -/

/-- A write of the whole line: its mask does not matter or is all ones (R92, R93). -/
def Req.wholeLine (r : Req) : Bool := r.op ≠ .writePartial || r.mask = BitVec.allOnes 64

/-- A poison write: WRITE_POISON, or a POISON_LINE of the peer (R94, R392). -/
def Req.poisons (r : Req) : Bool := r.op = .writePoison || r.op = .peerMessage

/-- Record the highest occupancies (SCH_Sn_PEAK). -/
def schPeak (x : Sc) (s : State) : State :=
  let q := s.sched.get x
  let p := rSchPeak x
  regPut p 23 16 (max (regFld s p 23 16) q.wq.length) (regPut p 8 0 (max (regFld s p 8 0) q.rq.length) s)

/-- A read is answered from a line that waits to be written (R117, R187); its entry is released. -/
def answerForwarded (x : Sc) (id : Nat) (line : Line) (poison : Bool) (s : State) : State :=
  let s := bump (rSch x 4) (updSched x (fun q => { q with rq := q.rq.filter fun e => e.id ≠ id }) s)
  answer id (if poison then .poison else .ok) (if poison then 0 else line) s

/-- Reads that wait for the merge of a write entry are answered from a line. -/
def answerWaiting (x : Sc) (wr : Nat) (line : Line) (poison : Bool) (s : State) : State :=
  forAll ((s.sched.get x).rq.filter fun e => e.fwd = .onMerge wr)
    (fun e s => answerForwarded x e.id line poison s) s

/-- The entry of a write is known to have been forwarded, or to need no forward. -/
def markForwarded (x : Sc) (id : Nat) (s : State) : State :=
  updSched x (fun q => { q with wq := q.wq.map fun e => if e.id = id then { e with forwarded := true } else e }) s

/-- Forward the committed line of an entry where its request is a mirrored one (R387). -/
def forwardEntry (x : Sc) (id : Nat) (line : Line) (poison : Bool) (s : State) : State :=
  match findReq s id with
  | none => s
  | some r => if r.twoSided s then markForwarded x id (forward id line poison s) else s

/-- Release an older write that has not been issued: write `keep` replaces it (R189). A mirrored one whose line
has not been forwarded never reaches the peer by itself: its peer outcome is that of the mirrored write that
replaces it and carries the whole line. A POISON_LINE of the peer says that the peer's copy holds what it
writes, so that the outcome is known then. (DEDUCED, log 33) -/
def supersede1 (x : Sc) (keep : Nat) (e : WrEnt) (s : State) : State :=
  let s := bump (rSch x 6) (updSched x (fun q => { q with wq := q.wq.filter fun f => f.id ≠ e.id }) s)
  let s := writtenToDram e.id s
  match findReq s e.id with
  | none => s
  | some r =>
    if r.twoSided s && !e.forwarded then
      if (findReq s keep).any fun k => k.twoSided s then updReq e.id (fun r => { r with rides := some keep }) s
      else settlePeer e.id .yes s
    else s

/-- Supersede every unissued entry of a line but one (R189, R190). (DEDUCED, log 33) -/
def supersede (x : Sc) (l : Lla) (keep : Nat) (s : State) : State :=
  forAll ((s.sched.get x).wq.filter fun e => e.lla = l && !e.issued && e.id ≠ keep) (supersede1 x keep) s

/-- The local outcome of a write that has entered its queue (R16, R23). -/
def writeAccepted (r : Req) (s : State) : State :=
  if r.op = .peerMessage then finish r.id s
  else
    let s := updReq r.id (fun r => { r with phase := .writeQ }) s
    if r.twoSided s then settleLocal r.id .yes s else answer r.id .ok 0 s

/-- A merge produced a poison line (R19, R190, R191). -/
def mergePoison (x : Sc) (s : State) : State := sqSet (rSchStatus x) 0x1 s

/-- The record of a queued poison base: origin 9, no decode; the line is written as a poison line
(R19, R190, R374). -/
def queuedPoison (l : Lla) (r : Option Req) (s : State) : State :=
  let d : Decoded := ⟨.poison, 0, [], false⟩
  let i : RasInfo := ⟨9, false, true, true, 0xF, (r.map fun r => r.port.val).getD 7, (r.map fun r => r.tag.toNat).getD 0⟩
  readRecord l d i (bump (rRas (scOf l) 2) s)

/-- The merge of entry `id` ends with a base line: the entry becomes a full line or a poison line, is
forwarded, answers the reads that waited, and lets the next partial write to the line merge (R190, R191). -/
def mergeDone (fuel : Nat) (x : Sc) (id : Nat) (base : Line) (poison : Bool) (s : State) : State :=
  match fuel with
  | 0 => s
  | fuel + 1 =>
    match (s.sched.get x).wq.find? fun e => e.id = id with
    | none => s
    | some e =>
      let line := if poison then 0 else mergeLine base e.data e.mask
      let s := updSched x (fun q => { q with wq := q.wq.map fun f =>
        if f.id = id then { f with data := line, poison := poison, merge := .full } else f }) s
      let s := onlyIf poison (mergePoison x) (bump (rSch x 5) s)
      let s := answerWaiting x id line poison (forwardEntry x id line poison s)
      match (s.sched.get x).wq.find? fun f => f.merge = .onOlder id with
      | none => s
      | some f =>
        let s := onlyIf poison (queuedPoison f.lla (findReq s f.id)) s
        let s := onlyIf (!e.issued) (supersede1 x f.id { e with forwarded := true }) s
        mergeDone fuel x f.id line poison s

/-- Complete the merge of an entry. -/
def merged (x : Sc) (id : Nat) (base : Line) (poison : Bool) (s : State) : State :=
  mergeDone ((s.sched.get x).wq.length + 1) x id base poison s

/-- The youngest write-queue entry of a line. -/
def youngest (q : Sched) (l : Lla) : Option WrEnt := (q.wq.filter fun e => e.lla = l).getLast?

/-- The youngest line record of the replay buffer for a line (R188, R207). A write whose burst has not ended has
one as well. -/
def lineRecord (q : Sched) (l : Lla) : Option WrTag := (q.lines.filter fun e => e.lla = l).getLast?

/-- The youngest write of a line that has not been issued. -/
def unissued (q : Sched) (l : Lla) : Option WrEnt := (q.wq.filter fun e => e.lla = l && !e.issued).getLast?

/-- A write enters the write queue of its sub-channel (R185 to R192). The peak counts what it leaves there
(DEDUCED, log 48). A read that waits for the merge of a partial write which a full write supersedes is answered
from the line of the superseding write, the youngest match from then on. (DESIGN CHOICE, log 57) -/
def writeEnter (urgent : Bool) (r : Req) (s : State) : State :=
  let x := scOf r.lla
  let old := youngest (s.sched.get x) r.lla
  let mg : Merge :=
    if r.wholeLine || r.poisons then .full
    else match old with
      | none => .needRead
      | some o => .onOlder o.id
  let e : WrEnt :=
    { id := r.id, lla := r.lla, part := r.part, poison := r.poisons, data := r.data, mask := r.mask, stamp := ccNow s x
      urgent := urgent, rtp := r.port = 4, merge := mg, issued := false, aged := false, forwarded := false }
  let stale := (s.sched.get x).wq.filter fun f => f.lla = r.lla && !f.issued
  let s := writeAccepted r (updSched x (fun q => { q with wq := q.wq ++ [e] }) s)
  schPeak x <| match mg with
  | .full =>
    let s := forAll stale (fun f s => answerWaiting x f.id r.data r.poisons s) s
    forwardEntry x r.id r.data r.poisons (supersede x r.lla r.id s)
  | _ =>
    match old with
    | none => s
    | some o =>
      if o.merge = .full then
        let s := onlyIf o.poison (queuedPoison r.lla (some r)) s
        let s := onlyIf (!o.issued) (supersede1 x r.id o) s
        merged x r.id o.data o.poison s
      else s

/-- A read enters the read queue of its sub-channel, or is answered by forwarding (R187, R188). The youngest match
is the last write that has not been issued, else the last one that has, of a host or of maintenance. -/
def readEnter (urgent : Bool) (r : Req) (s : State) : State :=
  let x := scOf r.lla
  let q := s.sched.get x
  let add (f : Fwd) (s : State) : State :=
    let e : RdEnt := { id := r.id, lla := r.lla, part := r.part, stamp := ccNow s x, urgent := urgent, rtp := r.port = 4, fwd := f
                       issued := false, aged := false }
    schPeak x (updSched x (fun q => { q with rq := q.rq ++ [e] }) (updReq r.id (fun r => { r with phase := .readQ }) s))
  match unissued q r.lla with
  | some e => if e.merge = .full then answerForwarded x r.id e.data e.poison s else add (.onMerge e.id) s
  | none =>
    match lineRecord q r.lla with
    | some t => answerForwarded x r.id t.data t.poison s
    | none => add .none s

/-- A read of a line whose local rank is not in service (R146, R372, R394). -/
def readDead (r : Req) (s : State) : State :=
  if r.twoSided s && s.mir.pair = .healthy then
    egpAsk (peerOp s .mirrorRead r.addr 0 (.remoteRead r.id)) (updReq r.id (fun r => { r with phase := .peer }) s)
  else failReq r.id s

/-- A write to a line whose local rank is not in service (R146, R387 to R389). -/
def writeDead (r : Req) (s : State) : State :=
  if r.op = .peerMessage then finish r.id s
  else if r.twoSided s then
    let s := updReq r.id (fun r => { r with phase := .peer, localC := .no }) s
    if s.mir.pair ≠ .healthy then settlePeer r.id .no s
    else if r.wholeLine then forward r.id r.data r.poisons s
    else egpAsk (peerOp s .mirrorRead r.addr 0 (.mergeBase r.id none)) s
  else failReq r.id s

/-- A request leaves the ingress stage for its sub-channel (R185). -/
def leaveIngress (urgent : Bool) (r : Req) (s : State) : State :=
  if r.nothing then finish r.id (answer r.id .ok 0 s)
  else if r.op.isWrite then (if rankLive s r.lla then writeEnter urgent r s else writeDead r s)
  else if rankLive s r.lla then readEnter urgent r s else readDead r s

end Sys2Proof.Machine
end

