-- ==== Sys2Proof/Machine/PhyOps.lean ====
section
/-! DEFINITION. The delay codes of the PHY (10): lanes and strobe groups, the sampler that delivers a burst and
the comparison with the true bits (R299 to R301, R306), the on-die Lifeline (R325, R327), swap windows and the
slew limit (R295, R296). -/

namespace Sys2Proof.Machine

/-! ### Lanes and groups -/

/-- The position of a lane in the code (R292, R335), and the device that drives it (R342). -/
def posOfLane (i : Nat) : Nat := if 32 ≤ i then i - 32 else i + 8
def laneDev (s : State) (i : Nat) : Nat := devOf (isX8 s) (posOfLane i)

/-- The lanes of a group. -/
def grpLanes (g : GroupId) : List (Fin 40) := (List.range 4).map fun j => finOr 39 (4 * g.val + j)

def updLane (x : Sc) (i : Fin 40) (f : Lane → Lane) (s : State) : State :=
  updPhySc x (fun p => { p with lanes := vmod p.lanes i f }) s
def updGroup (x : Sc) (g : GroupId) (f : Group → Group) (s : State) : State :=
  updPhySc x (fun p => { p with groups := vmod p.groups g f }) s
def laneAt (s : State) (x : Sc) (i : Fin 40) : Lane := (s.phy.sc.get x).lanes.get i
def strobeAt (s : State) (x : Sc) (g : GroupId) : Group := (s.phy.sc.get x).groups.get g

/-- Live and scout codes (R299). -/
def Lane.liveCode (a : Lane) : Code := if a.liveB then a.codeB else a.codeA
def Lane.liveVref (a : Lane) : Code := if a.liveB then a.vrefB else a.vrefA
def Lane.scoutCode (a : Lane) : Code := if a.liveB then a.codeA else a.codeB
def Lane.scoutVref (a : Lane) : Code := if a.liveB then a.vrefA else a.vrefB

/-- The code nearest to a wanted delay, and the usable reference-voltage code nearest to a wanted one (R290, R298). -/
def delayCode (c : Int) : Code := BitVec.ofNat 14 (min 16383 c.toNat)
def vrefCode (v : Int) : Code := BitVec.ofNat 14 (max 5734 (min 15974 v.toNat))

/-- The scout sweeps or confirms. -/
def Lane.active (a : Lane) : Bool := a.phase ≠ .idle

/-- The scout stands at its point. -/
def Lane.standing (a : Lane) : Bool := a.scoutCode = delayCode a.c && a.scoutVref = vrefCode a.v

/-- A device marked failed on any unit of the sub-channel freezes its lanes (R308). The lanes of a group
belong to one device. (DEDUCED, log 20) -/
def laneFrozen (s : State) (x : Sc) (i : Nat) : Bool :=
  s.ras.units.any fun e => decide (e.1 / 64 = x.val) && e.2.mark.any fun d => decide (d.val = laneDev s i)
def groupFrozen (s : State) (x : Sc) (g : GroupId) : Bool := laneFrozen s x (4 * g.val)

/-! ### Captured bursts (R299, R301, R306) -/

/-- The bits of the lanes that a test picks. -/
def lanesMask (f : Fin 40 → Bool) : Burst := burstOf ((List.range 40).map fun p => if f (finOr 39 (if p < 8 then 32 + p else p - 8)) then 0xFFFF else 0)

/-- Lanes of a sub-channel whose live sampler for a burst with its first beat at ck t is B: the exchange of a group
holds for bursts whose first beat comes after its window (R306). -/
def liveIsB (s : State) (x : Sc) (t : Nat) (i : Fin 40) : Bool :=
  let b := (laneAt s x i).liveB
  if t < (strobeAt s x (finOr 9 (i.val / 4))).lastSwap then !b else b

/-- The burst that the live samplers deliver, and the one that the scouts took. -/
def liveBurst (s : State) (x : Sc) (t : Nat) (r : Capture) : Burst :=
  let m := lanesMask (liveIsB s x t)
  (r.a &&& ~~~m) ||| (r.b &&& m)
def scoutBurst (s : State) (x : Sc) (t : Nat) (r : Capture) : Burst :=
  let m := lanesMask (liveIsB s x t)
  (r.a &&& m) ||| (r.b &&& ~~~m)

/-- The first beat of a read. -/
def RdTag.beat (s : State) (t : RdTag) : Nat := t.ck + tim s pCl

/-- The delivered burst of a read, and its decode (R339 to R341). -/
def RdTag.burst (s : State) (t : RdTag) (r : Capture) : Burst := liveBurst s (scOf t.lla) (t.beat s) r
def RdTag.decode (s : State) (t : RdTag) (r : Capture) : Decoded := decodeAt s t.lla (t.burst s r)

/-- The symbol of a lane in a burst. -/
def laneSym (b : Burst) (i : Nat) : Nat := b.toNat / 2 ^ (16 * posOfLane i) % 2 ^ 16

/-- The bits that a burst should have had, by the errors located in it. -/
def trueBits (b : Burst) (errs : List LocErr) : Burst :=
  errs.foldl (fun b e => if e.1 < 40 then b ^^^ BitVec.shiftLeft (e.2.setWidth 640) (16 * e.1) else b) b

/-- A group compares bursts: its scouts stand at a point, or it counts bursts after a reject (R301, R304). -/
def comparing (p : PhySc) (g : GroupId) : Bool :=
  let q := p.groups.get g
  q.backoff || (!q.exchange && (grpLanes g).any (fun i => (p.lanes.get i).active)
    && (grpLanes g).all fun i => !(p.lanes.get i).active || (p.lanes.get i).standing)

/-- A decode that knows the codeword compares both samplers of every lane with the true bits (R301): disagreements
of a live sampler are counted in PHY_LANE_ERRS, those of a scout at its point. -/
def compareLanes (t : RdTag) (r : Capture) (d : Decoded) (s : State) : State :=
  if d.outcome.lost then s
  else
    let x := scOf t.lla
    let true_ := trueBits (t.burst s r) d.errs
    let diff := scoutBurst s x (t.beat s) r ^^^ true_
    let lane (p : PhySc) (i : Fin 40) (a : Lane) : Lane :=
      { a with errs := BitVec.ofNat 32 (sat 0xFFFFFFFF (a.errs.toNat + laneErrs d.errs i.val))
               dis := if comparing p (finOr 9 (i.val / 4)) && a.active then a.dis + ones 16 (laneSym diff i.val) else a.dis }
    updPhySc x (fun p => { p with
      lanes := Vector.ofFn fun i => lane p i (p.lanes.get i)
      groups := Vector.ofFn fun g =>
        let q := p.groups.get g
        if comparing p g then { q with compared := q.compared + 1 } else q }) s

/-- Counter and out-of-turn entry of a read that is not a scrub. -/
def readCounted (l : Lla) (d : Decoded) (s : State) : State := ootRead l d.outcome (countRead (scOf l) d.outcome s)

/-- Lanes, counter and out-of-turn entry of a captured read that is not a scrub. -/
def readSeen (t : RdTag) (r : Capture) (d : Decoded) (s : State) : State := compareLanes t r d (readCounted t.lla d s)

/-! ### The Lifeline (R325 to R327) -/

def llKey (c : Ch) (g : Gear) : Fin 8 := finOr 7 (4 * c.val + g.val)
def llRecord (s : State) (c : Ch) (g : Gear) : List Word := kget [] s.phy.lifeline (llKey c g)

/-- The CRC of a record over every word but word 6 (R327). -/
def llCrc (r : List Word) : Word := wordsCrc (r.take 6 ++ r.drop 7)

/-- Replace words of a record by index. -/
def llPatch (r : List Word) (l : List (Nat × Word)) : List Word :=
  r.zipIdx.map fun e => ((l.find? fun p => p.1 = e.2).map Prod.snd).getD e.1

/-- Accepted codes of a sub-channel enter the Lifeline of the active gear, with the time of the change (R325). `l`
gives words by their index within the sub-channel's part. -/
def llPut (x : Sc) (l : List (Nat × Word)) (s : State) : State :=
  let c := chOf x
  let old := llRecord s c s.glb.gear
  let new := llPatch old (l.map fun e => (8 + 132 * (x.val % 2) + e.1, e.2))
  if new = old then s
  else
    let r := llPatch new [(5, BitVec.ofNat 32 s.glb.now)]
    { s with phy := { s.phy with
        lifeline := kset s.phy.lifeline (llKey c s.glb.gear) (llPatch r [(6, llCrc r)])
        llChanged := vset s.phy.llChanged (llKey c s.glb.gear) true } }

/-- A word of a sub-channel's part of the active gear's record. -/
def llWord (s : State) (x : Sc) (i : Nat) : Word := (llRecord s (chOf x) s.glb.gear).getD (8 + 132 * (x.val % 2) + i) 0

/-- The transmit code of a lane in the Lifeline. -/
def llTx (s : State) (x : Sc) (i : Nat) : Code := BitVec.ofNat 14 (fld (llWord s x (1 + 2 * i)) 29 16)

/-- A new transmit code, new live codes, a new gate code of the Lifeline. -/
def llSetTx (x : Sc) (i : Nat) (c : Code) (s : State) : State :=
  llPut x [(1 + 2 * i, setFld (llWord s x (1 + 2 * i)) 29 16 c.toNat)] s
def llSetLive (x : Sc) (i : Fin 40) (s : State) : State :=
  let a := laneAt s x i
  llPut x [(1 + 2 * i.val, setFld (llWord s x (1 + 2 * i.val)) 13 0 a.liveCode.toNat),
    (2 + 2 * i.val, setFld (llWord s x (2 + 2 * i.val)) 13 0 a.liveVref.toNat)] s
def llSetGate (x : Sc) (g : Nat) (c : Code) (s : State) : State :=
  llPut x [(81 + g, setFld (llWord s x (81 + g)) 13 0 c.toNat)] s

/-- The device words of a sub-channel in the active gear's record, and new ones (R327). -/
def llDev (s : State) (x : Sc) : List Word := (List.range 40).map fun i => llWord s x (91 + i)
def llSetDev (x : Sc) (l : List Word) (s : State) : State := llPut x (l.zipIdx.map fun e => (91 + e.2, e.1)) s

/-! ### Sequences (R322) -/

/-- The sequence of a sub-channel has ended: the next one follows the new program (R322).
(DEDUCED, log 21) -/
def seqEnd (x : Sc) (s : State) : State :=
  let s := updPhySc x (fun p => { p with seq := .idle, run := none, osc := none }) s
  let s := updSched x (fun q => { q with writeHold := false }) s
  gearTake { s with phy := { s.phy with shadow := s.phy.shadow &&& ~~~(1#4 <<< x.val) } }

/-- The work sets a reference voltage of a device. -/
def MntCmd.setsVref (m : MntCmd) : Bool :=
  match m.op with
  | .mode _ _ _ (.set (.vref _ _)) => true
  | _ => false

/-! ### Sweeps begin (R300, R302, R309) -/

/-- The parameters of R303 and R304, from the words of PHY_SCOUT_CFG0 to PHY_SCOUT_CFG3. -/
def scoutWords (s : State) : Vector Word 4 := Vector.ofFn fun i => regGet s (0x20004 + 4 * i.val)

/-- Scouts of a sub-channel run: bursts arrive, and PHY_SCOUT_EN is set. -/
def scoutsOn (s : State) (x : Sc) : Bool := regBit s 0x20000 x.val
def scoutState (s : State) (x : Sc) : Bool :=
  chLive s (chOf x) && (s.glb.ctl = .service || s.glb.ctl = .quiesced) && s.pwr.sc.get x ≠ .selfRefresh

/-- The scout is sent to a point: its codes move there under the slew limit (R300). -/
def Lane.toPoint (c v : Int) (a : Lane) : Lane := { a with c := c, v := v, dis := 0 }

/-- The comparison of a point begins (R301). -/
def newPoint (x : Sc) (g : GroupId) (s : State) : State := updGroup x g (fun q => { q with compared := 0 }) s

/-- A new sweep of a group begins at the live codes with the present parameters (R302, R309). -/
def startSweep (x : Sc) (g : GroupId) (s : State) : State :=
  let w := scoutWords s
  let s := updGroup x g (fun q => { q with confirming := false, exchange := false, backoff := false, cfg := w }) s
  newPoint x g <| forAll (grpLanes g) (fun i s => updLane x i (fun a =>
    ({ a with phase := .left, open_ := false } : Lane).toPoint a.liveCode.toNat a.liveVref.toNat) s) s

/-- The scouts of a group rest, with nothing to wait for. -/
def groupIdle (s : State) (x : Sc) (g : GroupId) : Bool := (grpLanes g).all fun i => (laneAt s x i).phase = .idle
def groupFree (s : State) (x : Sc) (g : GroupId) : Bool :=
  let q := strobeAt s x g
  groupIdle s x g && !q.backoff && !q.exchange && !q.confirming && !groupFrozen s x g

/-- Scouts that rest start a sweep where they may run. -/
def startIdle (x : Sc) (s : State) : State :=
  if scoutsOn s x && scoutState s x then forAll ((fins 10).filter (groupFree s x)) (startSweep x) s else s

/-! ### Swap windows and the slew limit (R295 to R297) -/

/-- Preamble and postamble of a burst in ck: the manual gives no length (DESIGN CHOICE, log 62). -/
def preambleCk : Nat := 2
def postambleCk : Nat := 1

/-- The ck in which the burst of a command is on the pins, with its preamble and postamble (R295). -/
def pinSpan (s : State) (h : Issued) : Option (Nat × Nat) :=
  match h.cmd.kind with
  | .rd | .mrr => some (h.ck + tim s pCl - preambleCk, h.ck + tim s pCl + 8 + postambleCk)
  | .wr => some (h.ck + tim s pCwl - preambleCk, h.ck + tim s pCwl + tim s pWbl + postambleCk)
  | _ => none

/-- The first ck from w on at which 4 idle ck begin. -/
def windowFrom (spans : List (Nat × Nat)) : Nat → Nat → Nat
  | 0, w => w
  | n + 1, w =>
    match spans.find? fun p => decide (p.1 < w + 4 ∧ w < p.2) with
    | some p => windowFrom spans n p.2
    | none => w

/-- The swap window of a sub-channel that begins at ck w or next after it. -/
def swapWindow (s : State) (x : Sc) (w : Nat) : Nat :=
  let spans := (s.sched.get x).hist.filterMap (pinSpan s)
  windowFrom spans (spans.length + 1) w

/-- A code on its way to another by at most `lim` (R296). -/
def slew (lim : Nat) (a b : Code) : Code :=
  if a.toNat < b.toNat then BitVec.ofNat 14 (min b.toNat (a.toNat + lim)) else BitVec.ofNat 14 (max b.toNat (a.toNat - lim))

/-- The scout takes a step toward its point (R300). -/
def Lane.scoutStep (a : Lane) : Lane :=
  let c := slew 8 a.scoutCode (delayCode a.c)
  let v := slew 64 a.scoutVref (vrefCode a.v)
  if a.liveB then { a with codeA := c, vrefA := v } else { a with codeB := c, vrefB := v }

/-- Code steps of a swatch run need the grant of the training requester; a walk back and an oscillator update do
not (R313, R315, R316). -/
def txFree (s : State) (x : Sc) : Bool := (s.phy.sc.get x).seq ≠ .swatch || (s.sched.get x).holder = some 2

/-- A code of the sub-channel is on its way. -/
def scoutMoves (s : State) (x : Sc) (i : Fin 40) : Bool :=
  let a := laneAt s x i
  a.active && !a.standing && !laneFrozen s x i.val
def txMoves (s : State) (x : Sc) : Bool := (s.phy.sc.get x).lanes.any fun a => a.tx ≠ a.txTo
def linesMove (s : State) (x : Sc) : Bool :=
  (txFree s x && txMoves s x) || (s.phy.sc.get x).groups.any fun q => q.gate ≠ q.gateTo
def codesMove (s : State) (x : Sc) : Bool := (fins 40).any (scoutMoves s x) || linesMove s x

/-- What has arrived enters the Lifeline (R325): gate codes, and transmit codes that a run or an oscillator update
has accepted. -/
def codesArrive (x : Sc) (before : PhySc) (s : State) : State :=
  let p := s.phy.sc.get x
  let s := forAll (fins 10) (fun g s =>
    let q := p.groups.get g
    if q.gate = q.gateTo && q.gate ≠ (before.groups.get g).gate then llSetGate x g.val q.gate s else s) s
  let final := p.seq ≠ .swatch || p.run.any fun r => r.stage = .settle
  onlyIf final (forAll (fins 40) fun i s =>
    let a := p.lanes.get i
    if a.tx = a.txTo && a.tx ≠ (before.lanes.get i).tx then llSetTx x i.val a.tx s else s) s

/-- One swap window: every line takes one step (R296). -/
def windowStep (x : Sc) (s : State) : State :=
  let before := s.phy.sc.get x
  let free := txFree s x
  let s1 := updPhySc x (fun p => { p with
    lanes := Vector.ofFn fun i =>
      let a := p.lanes.get i
      let a := if scoutMoves s x i then a.scoutStep else a
      if free then { a with tx := slew 8 a.tx a.txTo } else a
    groups := p.groups.map fun q => { q with gate := slew 8 q.gate q.gateTo } }) s
  codesArrive x before s1

/-- Every swap window that begins before ck t (R295). A line that waits for one counts its wait; a scout does not, since
it may delay no burst (R297, R300). -/
def windowsTo : Nat → Sc → Nat → State → State
  | 0, _, _, s => s
  | n + 1, x, t, s =>
    let w := swapWindow s x (s.phy.sc.get x).winCk
    if !codesMove s x then updPhySc x (fun p => { p with winCk := max p.winCk t, waitCk := none }) s
    else if t ≤ w then updPhySc x (fun p => { p with winCk := w, waitCk := if linesMove s x then some (p.waitCk.getD p.winCk) else none }) s
    else windowsTo n x t (windowStep x (updPhySc x (fun p => { p with winCk := w + 4, waitCk := none }) s))

/-- The delay lines of a sub-channel are clocked: its channel serves, and it is not in self-refresh (R309). -/
def phyClocked (s : State) (x : Sc) : Bool :=
  chLive s (chOf x) && s.glb.coreRun && s.pwr.sc.get x ≠ .selfRefresh
    && (match s.glb.ctl with
      | .castOn | .service | .gearChange | .bindOff => true
      | .quiesced => !s.qz.deep
      | _ => false)

/-- The sequence of a sub-channel has done all its work but for codes on their way (R310, R315, R316): the reference
voltages of its devices are set, except in BIND_OFF, where no requester but refresh is served. -/
def seqSettles (s : State) (x : Sc) : Bool :=
  let p := s.phy.sc.get x
  (p.seq = .walk || (p.seq = .osc && p.osc.isNone) || (p.seq = .swatch && p.run.any fun r => r.stage = .settle))
    && (s.glb.ctl = .bindOff || !((s.sched.get x).maint.get 2).any MntCmd.setsVref)

/-- Codes move on as time passes, and a sequence whose codes have all arrived ends. No line needs more than 2,048
windows. Idle scouts start. -/
def codesGoOn (x : Sc) (s : State) : State :=
  if phyClocked s x then
    let s := windowsTo 2049 x (ckNow s x) (startIdle x s)
    if seqSettles s x && !txMoves s x then seqEnd x s else s
  else updPhySc x (fun p => { p with winCk := max p.winCk (ckNow s x) }) s

end Sys2Proof.Machine
end

