-- ==== Sys2Proof/Machine/RowCounter.lean ====
section
/-! DEFINITION. The Row Counter (08): groups, ledger, counter cache, due rows, and what they hold back. -/

namespace Sys2Proof.Machine

/-- Reference units: default, read, write. -/
def RefUnit.fresh : RefUnit := ⟨0, 0, none, 0, 0, false, 0x04000100⟩
def refUnit (s : State) (x : Sc) (u : Nat) : RefUnit := kget RefUnit.fresh s.ref.units (unitKey x u)
def setRefUnit (x : Sc) (u : Nat) (r : RefUnit) (s : State) : State :=
  updRef (fun a => { a with units := kset a.units (unitKey x u) r }) s
def nUnits (s : State) : Nat := nCs s * nLr s

/-- DRAM rows of a bank (06). -/
def dramRows (s : State) : Nat := if isX8 s then 2 * nRows s else nRows s

/-- Threshold and promotion level in force in a unit (R253, R260). -/
def rcThr (r : RefUnit) : Nat := max 512 (fld r.rc 31 16)
def rcProm (r : RefUnit) : Nat := min (max 1 (fld r.rc 15 0)) (rcThr r / 2)

/-- Bank index of a command or an LLA: bank group × 4 + bank (R243). -/
def Cmd.bankIx (c : Cmd) : Nat := c.bg.toNat * 4 + c.ba.toNat
def Cmd.unit (s : State) (c : Cmd) : Nat := unitNo s c.cs.toNat c.lr.toNat

/-- The unit index over the controller in LLA order (R243). -/
def unitIx (s : State) (x : Sc) (u : Nat) : Nat :=
  ((if twoCh s then x.val / 2 else 0) * 2 + x.val % 2) * nUnits s + u

/-- log2 of the group size (R243). -/
def rcLog (s : State) : Nat := regFld s 0x1000C 23 20

/-- The group of a row (R243). -/
def groupIx (s : State) (x : Sc) (u b row : Nat) : Nat :=
  (unitIx s x u * 32 + b) * (dramRows s / 2 ^ rcLog s) + row / 2 ^ rcLog s

/-- The entry of a group: one of another epoch reads as COUNTING with count 0 (R244). -/
def groupAt (s : State) (x : Sc) (u b row : Nat) : RcGroup :=
  let e := (refUnit s x u).epoch
  let g := kget ⟨e, .counting, 0⟩ s.ref.groups (groupIx s x u b row)
  if g.epoch = e then g else ⟨e, .counting, 0⟩

def setGroup (x : Sc) (u b row : Nat) (g : RcGroup) (s : State) : State :=
  updRef (fun a => { a with groups := kset a.groups (groupIx s x u b row) g }) s

/-! ### Ledger lines (R247) -/

/-- The key of the ledger line of a row's counter: unit, then λ. (DESIGN CHOICE, log 18) -/
def ledgerKey (s : State) (x : Sc) (u b row : Nat) : Nat :=
  unitKey x u * 2 ^ 18 + 2 * (b * dramRows s + row) / 64

def keySc (k : Nat) : Sc := scN (k / 2 ^ 24)
def keyUnit (k : Nat) : Nat := k / 2 ^ 18 % 64
def keyLam (k : Nat) : Nat := k % 2 ^ 18
/-- Bank index and first row of a ledger line. -/
def keyBank (s : State) (k : Nat) : Nat := 32 * keyLam k / dramRows s
def keyRow (s : State) (k : Nat) : Nat := 32 * keyLam k % dramRows s

/-- The LLA of a ledger line. -/
def ledgerLla (s : State) (k : Nat) : Lla :=
  let l := keyLam k
  let u := keyUnit k
  let x := keySc k
  Coord.lla { line := l % 128, bank := l / 128 % 4, bg := l / 512 % 8, row := nRows s - 64 + l / 4096
              lr := u % nLr s, cs := u / nLr s, sub := x.val % 2, ch := x.val / 2 }

/-- The ledger line at an LLA, if it lies in a ledger carve-out. -/
def ledgerAt (s : State) (l : Lla) : Option Nat :=
  let c := unpackLla l
  if nRows s - 64 ≤ c.row ∧ c.row < nRows s then
    some (unitKey (scOf l) (unitNo s c.cs c.lr) * 2 ^ 18 + (c.line + 128 * c.bank + 512 * c.bg + 4096 * (c.row - (nRows s - 64))))
  else none

/-- A line of 32 counters as data, and back. -/
def countersLine (v : Vector (BitVec 16) 32) : Line := BitVec.ofNat 512 (v.toList.foldr (fun c n => c.toNat + 2 ^ 16 * n) 0)
def lineCounters (l : Line) : Vector (BitVec 16) 32 := Vector.ofFn fun i => l.extractLsb' (16 * i.val) 16

/-! ### The cache (R248) -/

/-- A line of the cache is valid when its tag is its unit's epoch. -/
def cacheLine (s : State) (k : Nat) : Option RcLine :=
  (kfind s.ref.cache k).filter fun l => l.epoch = (refUnit s (keySc k) (keyUnit k)).epoch

def setCache (k : Nat) (l : RcLine) (s : State) : State :=
  updRef (fun a => { a with cache := kset a.cache k { l with used := a.clock }, clock := a.clock + 1 }) s

/-- Add maintenance work of a requester at a sub-channel, charged to a partition or to none; it takes its age stamp
when it is offered (R185). -/
def mntAddFor (label : Option (BitVec 12)) (x : Sc) (q : Fin 7) (o : MntOp) (s : State) : State :=
  updSched x (fun z => { z with maint := vmod z.maint q fun l => l ++ [⟨o, none, false, [], label⟩] }) s
def mntAdd (x : Sc) (q : Fin 7) (o : MntOp) (s : State) : State := mntAddFor none x q o s

/-- Add maintenance work ahead of what its requester has. -/
def mntFirst (x : Sc) (q : Fin 7) (o : MntOp) (s : State) : State :=
  updSched x (fun z => { z with maint := vmod z.maint q fun l => ⟨o, none, false, [], none⟩ :: l }) s

/-- Make room in a set of 16 ways: the least recently used line goes, written back if dirty (R248). The
set of a line is its key modulo 1,024. (DESIGN CHOICE, log 18) -/
def cacheEvict (k : Nat) (s : State) : State :=
  let set := s.ref.cache.filter fun e => e.1 % 1024 = k % 1024
  if (set.any fun e => e.1 = k) ∨ set.length < 16 then s
  else
    let oldest := set.foldl (fun a e => if e.2.used < a.2 then (e.1, e.2.used) else a) (k, s.ref.clock)
    match kfind s.ref.cache oldest.1 with
    | none => s
    | some l =>
      let keep := (cacheLine s oldest.1).isSome && l.dirty
      let s := updRef (fun a => { a with cache := kdel a.cache oldest.1 }) s
      if keep then
        bump 0x10048 (mntAdd (keySc oldest.1) 3 (.lineWrite (ledgerLla s oldest.1) (countersLine l.vals) false false) s)
      else s

/-- Fetch a ledger line, unless it is being fetched (R246, R248). -/
def ledgerFetch (k : Nat) (s : State) : State :=
  if (s.ref.fetching.any fun e => e.1 = k) then s
  else
    mntAdd (keySc k) 3 (.lineRead (.ledger k) (ledgerLla s k))
      (updRef (fun a => { a with fetching := a.fetching ++ [(k, keySc k)] }) s)

/-! ### Holds (R245, R246, R254, R241, R242) -/

/-- A due row of the bank waits for its DRFM (R254). -/
def bankDue (s : State) (x : Sc) (u b : Nat) : Bool := s.ref.due.any fun d => d.sc = x && d.unit = u && d.bank = b

/-- The ACT of a row is held by R246: its group count would reach the threshold and its counter is
absent. -/
def rcAbsent (s : State) (x : Sc) (u b row : Nat) : Bool :=
  decide (rcThr (refUnit s x u) ≤ (groupAt s x u b row).count + 1) && (cacheLine s (ledgerKey s x u b row)).isNone

/-- The group is being promoted (R245). -/
def rcPromoting (s : State) (x : Sc) (u b row : Nat) : Bool :=
  match (groupAt s x u b row).st with
  | .promoting _ => true
  | _ => false

/-- The rolling count of a bank (R241). -/
def raaKey (x : Sc) (u b : Nat) : Nat := unitKey x u * 32 + b
def raaOf (s : State) (x : Sc) (u b : Nat) : Nat := kget 0 s.ref.raa (raaKey x u b)

/-- What holds an ACT back; `ledger` marks an ACT of the ledger requester, which R245 and R246 never
hold (R250); in BIND_OFF they hold none (R494). (DEDUCED, log 15) -/
def actHeld (s : State) (x : Sc) (c : Cmd) (ledger : Bool) : Bool :=
  let u := c.unit s
  let b := c.bankIx
  bankDue s x u b
    || (!ledger && s.glb.ctl ≠ .bindOff && (rcPromoting s x u b c.row.toNat || rcAbsent s x u b c.row.toNat))
    || (regBit s 0x10000 18 && decide (Config.raaMaximum (x.val / 2) ≤ raaOf s x u b))

/-! ### Counting an ACT (R244, R245, R250, R254) -/

/-- A row becomes due (R254). -/
def makeDue (x : Sc) (u b row : Nat) (kind : Fin 5) (value : Nat) (s : State) : State :=
  if (s.ref.due.any fun d => d.sc = x && d.unit = u && d.bank = b && d.row = row) then s
  else updRef (fun a => { a with due := a.due ++ [⟨x, u, b, row, kind, value⟩] }) s

/-- Add to a row's counter in a cached line; at the threshold the row is due. -/
def countCached (k : Nat) (i : Fin 32) (l : RcLine) (s : State) : State :=
  let v := sat 65535 ((l.vals.get i).toNat + 1)
  let s := setCache k { l with vals := vset l.vals i (BitVec.ofNat 16 v), dirty := true } s
  let x := keySc k
  let u := keyUnit k
  if rcThr (refUnit s x u) ≤ v then makeDue x u (keyBank s k) (keyRow s k + i.val) 0 v s else s

/-- The row counter of a promoted group (R245, R246, R250). -/
def countRow (x : Sc) (u b row : Nat) (ledger : Bool) (s : State) : State :=
  let k := ledgerKey s x u b row
  let i : Fin 32 := finOr 31 (row % 32)
  match cacheLine s k with
  | some l => countCached k i l (bump 0x10040 s)
  | none =>
    let s := bump 0x10044 s
    if ledger then makeDue x u b row 1 (groupAt s x u b row).count s
    else ledgerFetch k (updRef (fun a => { a with posted := a.posted ++ [(k, i, false)] }) s)

/-- A group starts promotion: its ledger lines are written with the promotion level (R245). -/
def promote (x : Sc) (u b row : Nat) (g : RcGroup) (s : State) : State :=
  let n := 2 ^ rcLog s / 32
  let prom := rcProm (refUnit s x u)
  let first := row / 2 ^ rcLog s * 2 ^ rcLog s
  let s := bump 0x1004C (setGroup x u b row { g with st := .promoting n } s)
  forAll (List.range n) (fun i s =>
    let k := ledgerKey s x u b (first + 32 * i)
    let data := countersLine (Vector.replicate 32 (BitVec.ofNat 16 prom))
    let s := updRef (fun a => { a with cache := kdel a.cache k, posted := a.posted.filter fun p => p.1 ≠ k }) s
    mntAdd x 3 (.lineWrite (ledgerLla s k) data false false) s) s

/-- The work is an RFM for the rolling count that serves bank b of a unit: with sb, one of its bank address. -/
def MntCmd.rolling (u b : Nat) (sb : Bool) (m : MntCmd) : Bool :=
  match m.op with
  | .rfm v k c => v = u && k = 3 && (!sb || c % 4 = b % 4)
  | _ => false

/-- A bank whose rolling count has reached its threshold is owed an RFM, unless one is pending (R241). -/
def raaOwe (x : Sc) (u b : Nat) (s : State) : State :=
  if decide (Config.raaThreshold (x.val / 2) ≤ raaOf s x u b)
      && !((s.sched.get x).maint.get 0).any (MntCmd.rolling u b (regFld s 0x10000 31 30 = 2)) then
    mntAdd x 0 (.rfm u 3 b) s
  else s

/-- The rolling count after an ACT (R241). -/
def raaCount (x : Sc) (u b : Nat) (s : State) : State :=
  if regBit s 0x10000 18 then raaOwe x u b (updRef (fun a => { a with raa := kset a.raa (raaKey x u b) (raaOf s x u b + 1) }) s)
  else s

/-- An RFM or a refresh of a bank lowers its rolling count by the threshold; one that is still at the threshold is
owed another RFM. (DESIGN CHOICE, log 3; DESIGN CHOICE, log 17) -/
def raaLower (x : Sc) (u : Nat) (bank : Nat → Bool) (s : State) : State :=
  if regBit s 0x10000 18 then
    let low (e : Nat × Nat) : Nat × Nat :=
      if e.1 / 32 = unitKey x u ∧ bank (e.1 % 32) then (e.1, e.2 - Config.raaThreshold (x.val / 2)) else e
    let s := updRef (fun a => { a with raa := a.raa.map low }) s
    forAll ((List.range 32).filter bank) (raaOwe x u) s
  else s

/-- Every ACT is counted (08, "The Row Counter"). While its group is being promoted only an ACT of the ledger
requester occurs; it finds its counter absent and its row is mitigated after it (R250). -/
def actCounted (x : Sc) (c : Cmd) (ledger : Bool) (s : State) : State :=
  let u := c.unit s
  let b := c.bankIx
  let row := c.row.toNat
  let g := groupAt s x u b row
  let g' := { g with count := sat 65535 (g.count + 1) }
  let s := raaCount x u b (setGroup x u b row g' s)
  match g.st with
  | .counting => if rcProm (refUnit s x u) ≤ g'.count then promote x u b row g' s else s
  | .promoting _ =>
    let thr := rcThr (refUnit s x u)
    let s := onlyIf (decide (g.count < thr ∧ thr ≤ g'.count)) (sqSet 0x10030 0x10) s
    onlyIf (ledger && (cacheLine s (ledgerKey s x u b row)).isNone) (makeDue x u b row 1 g'.count) s
  | .promoted => countRow x u b row ledger s

/-- A ledger line has been written: a promotion may end (R245). -/
def ledgerWritten (l : Lla) (s : State) : State :=
  match ledgerAt s l with
  | none => s
  | some k =>
    let x := keySc k
    let u := keyUnit k
    let b := keyBank s k
    let row := keyRow s k
    let g := groupAt s x u b row
    match g.st with
    | .promoting n => setGroup x u b row { g with st := if n ≤ 1 then .promoted else .promoting (n - 1) } s
    | _ => s

/-- Rows whose ACT is held by R245 or R246 are counted once, and a missing counter is fetched. -/
def noteHeld (x : Sc) (c : Cmd) (s : State) : State :=
  let u := c.unit s
  let b := c.bankIx
  let row := c.row.toNat
  let pr := rcPromoting s x u b row
  let ab := rcAbsent s x u b row
  let k := raaKey x u b * 2 ^ 18 + row
  let new := (pr || ab) && !s.ref.rcHeld.contains k
  let s := onlyIf (new && pr && decide (rcThr (refUnit s x u) ≤ (groupAt s x u b row).count + 1)) (sqSet 0x10030 0x10) s
  let s := onlyIf (!pr && ab) (ledgerFetch (ledgerKey s x u b row)) s
  if new then
    bump 0x10054 (updRef (fun a => { a with rcHeld := a.rcHeld ++ [k] }) s)
  else s

/-- ROW_MITIGATION: at most one record per sub-channel in 1 ms (R259). `row` names a row, if any. -/
def mitigation (x : Sc) (kind : Fin 5) (value : Nat) (l : Option Lla) (s : State) : State :=
  limited (0x330 + x.val) (ms 1) (fun n s =>
    raise 0x0C 0 2
      ([pack [(kind.val, 28), (x.val, 26), (regFld s 0x10000 21 20, 24), (b2n l.isSome, 23), (if kind.val ≤ 2 then value else 0, 0)],
        BitVec.ofNat 32 (sat 0xFFFFFFFF n)] ++ (match l with
          | some l => addrBlock s l
          | none => [0, 0])) s) s

/-- The LLA of the first line of a DRAM row. -/
def rowLla (s : State) (x : Sc) (u b row : Nat) : Lla :=
  Coord.lla { line := if isX8 s then row % 2 * 64 else 0, bank := b % 4, bg := b / 4
              row := if isX8 s then row / 2 else row, lr := u % nLr s, cs := u / nLr s, sub := x.val % 2, ch := x.val / 2 }

/-- The row is open in its bank: the precharge that carries the sample of R254 has not been issued.
(DEDUCED, log 48) -/
def dueOpen (s : State) (d : DueRow) : Bool :=
  (s.sched.get d.sc).rows.any fun o =>
    decide (unitNo s o.cs.toNat o.lr.toNat = d.unit ∧ o.bg.toNat * 4 + o.ba.toNat = d.bank ∧ o.row.toNat = d.row)

/-- The counter of a row becomes 0: at once in a cached line, by a posted value in an absent line of a group that is
promoted or being promoted, whose fetch follows the writes of the promotion (R246, R254). A counting group has no counters
in use. -/
def zeroCounter (x : Sc) (u b row : Nat) (s : State) : State :=
  let k := ledgerKey s x u b row
  let i : Fin 32 := finOr 31 (row % 32)
  match cacheLine s k with
  | some l => setCache k { l with vals := vset l.vals i 0, dirty := true } s
  | none =>
    if (groupAt s x u b row).st ≠ .counting then
      ledgerFetch k (updRef (fun a => { a with posted := a.posted ++ [(k, i, true)] }) s)
    else s

/-- The value that the record of a mitigation shows (R259): the counter before it becomes 0, as it stood when the row
became due if its line is no longer cached; for kind 1 the group count at the DRFM; for kind 2 the value that R249 set. -/
def mitigatedValue (s : State) (d : DueRow) : Nat :=
  match d.kind.val with
  | 0 => ((cacheLine s (ledgerKey s d.sc d.unit d.bank d.row)).map fun l => (l.vals.get (finOr 31 (d.row % 32))).toNat).getD d.value
  | 1 => (groupAt s d.sc d.unit d.bank d.row).count
  | _ => d.value

/-- The DRFM of a due row has been issued: its counter is 0 and the mitigation is recorded (R254, R259). -/
def mitigated (d : DueRow) (s : State) : State :=
  let value := mitigatedValue s d
  let s := zeroCounter d.sc d.unit d.bank d.row (updRef (fun a => { a with due := a.due.filter fun e => e ≠ d }) s)
  let s := bump (0x10114 + 0x40 * d.sc.val) (sqSet 0x10030 (pack [(1, d.sc.val)]) s)
  mitigation d.sc d.kind value (some (rowLla s d.sc d.unit d.bank d.row)) s

end Sys2Proof.Machine
end

