-- ==== Sys2Proof/Machine/Timing.lean ====
section
/-! DEFINITION. The timing rules between two commands (R202 to R204), the bus, and the refresh gates
(R233 to R236). -/

namespace Sys2Proof.Machine

/-! ### Relations of two commands -/

def sameCs (a b : Cmd) : Bool := a.cs = b.cs
def sameLr (a b : Cmd) : Bool := a.cs = b.cs && a.lr = b.lr
def sameBg (a b : Cmd) : Bool := sameLr a b && a.bg = b.bg
def sameBank (a b : Cmd) : Bool := sameBg a b && a.ba = b.ba

/-- A column command: RD, WR, and MRR, which counts as a RD (R204). -/
def CmdKind.isCol : CmdKind → Bool
  | .rd | .wr | .mrr => true
  | _ => false

/-- A command that finds every bank of its logical rank precharged. -/
def CmdKind.wholeRank : CmdKind → Bool
  | .refAb | .rfmAb | .drfmAb | .sre => true
  | _ => false

/-- A command that finds its bank address precharged in every bank group. -/
def CmdKind.oneBank : CmdKind → Bool
  | .refSb | .rfmSb | .drfmSb => true
  | _ => false

/-- ck that a command takes on the bus (R197). -/
def CmdKind.length : CmdKind → Nat
  | .act | .rd | .wr | .mrr | .mrw => 2
  | _ => 1

/-- b needs the bank of a closed. -/
def needsShut (a b : Cmd) : Bool :=
  (b.kind = .act && sameBank a b) || (b.kind.wholeRank && sameLr a b)
    || (b.kind.oneBank && sameLr a b && a.ba = b.ba)

/-- b closes the bank of a. -/
def shuts (a b : Cmd) : Bool := (b.kind = .pre && sameBank a b) || (b.kind = .preAb && sameLr a b)

/-- The refresh mode (R228): 0 ALL_BANK, 1 ALL_BANK_FGR, 2 SAME_BANK. -/
def refMode (s : State) : Nat := regFld s 0x10000 31 30

/-- Spacing of column commands (R204). -/
def colGap (s : State) (a b : Cmd) : Nat :=
  let t := tim s
  let bg := decide (a.bg = b.bg) || a.kind = .mrr || b.kind = .mrr
  let wl := t pCwl + t pWbl
  let pick (x y z w : Nat) : Nat := if sameLr a b then (if bg then x else y) else if sameCs a b then z else w
  match decide (a.kind = .wr), decide (b.kind = .wr) with
  | false, false => pick (t pCcdL) (t pCcdS) (t pCcdDlr) (8 + t pRtrRR)
  | true, true => pick (max (t pCcdLWr) (t pWbl)) (max (t pCcdS) (t pWbl)) (max (t pCcdDlr) (t pWbl)) (t pWbl + t pRtrWW)
  | false, true => t pCl + 8 + t pRtwX + (if sameCs a b then 0 else t pRtrRW) - t pCwl
  | true, false => pick (wl + t pWtrL) (wl + t pWtrS) (wl + t pWtrS) (max 1 (wl + t pRtrWR - t pCl))

/-- What ACT, RD, WR, PRE and PREab ask of later commands to the bank, the rank and the chip select
(R203); a column command with auto-precharge closes its row by itself (R200). -/
def rowGap (s : State) (a b : Cmd) : Nat :=
  let t := tim s
  let close (n : Nat) : Nat := max (if shuts a b then n else 0) (if a.ap && needsShut a b then n + t pRp else 0)
  match a.kind with
  | .act =>
    if b.kind = .act then
      if sameBank a b then max (t pRc) (t pRrdL)
      else if sameBg a b then t pRrdL
      else if sameLr a b then t pRrdS
      else if sameCs a b then t pRrdDlr else 0
    else if (b.kind = .rd || b.kind = .wr) && sameBank a b then t pRcd
    else if shuts a b then t pRas else 0
  | .rd => close (t pRtp)
  | .wr => close (t pCwl + t pWbl + t pWr)
  | .pre =>
    if needsShut a b then t pRp
    else if (b.kind = .pre || b.kind = .preAb) && sameCs a b then t pPpd else 0
  | .preAb =>
    if (b.kind = .act || b.kind.wholeRank || b.kind.oneBank) && sameLr a b then t pRp
    else if (b.kind = .pre || b.kind = .preAb) && sameCs a b then t pPpd else 0
  | _ => 0

/-- What refresh, refresh management, mode-register and power commands ask of later ones (R203).
(DEDUCED, log 14) -/
def unitGap (s : State) (a b : Cmd) : Nat :=
  let t := tim s
  let act := decide (b.kind = .act)
  let lr (n : Nat) : Nat := if sameLr a b then n else 0
  let cs (n : Nat) : Nat := if sameCs a b then n else 0
  let bank (n : Nat) : Nat := if act && sameLr a b && a.ba = b.ba then n else 0
  match a.kind with
  | .refAb =>
    if sameLr a b then t (if refMode s = 0 then pRfc1 else pRfc2) else if act && sameCs a b then t pRfcDlr else 0
  | .rfmAb => lr (t pRfmAb)
  | .drfmAb => lr (t pDrfmAb)
  | .refSb => if act && sameLr a b then (if a.ba = b.ba then t pRfcSb else t pRefSbRd) else 0
  | .rfmSb => bank (t pRfmSb)
  | .drfmSb => bank (t pDrfmSb)
  | .mrr => cs (t pMrr)
  | .mrw => cs (if b.kind = .mrw then t pMrd else t pMrw)
  | .mpc => cs (t pMpc)
  | .mpcZqStart => cs (if b.kind = .mpcZqLatch then max (t pMpc) (t pZqCal) else t pMpc)
  | .mpcZqLatch => cs (max (t pMpc) (t pZqLat))
  | .pdx => cs (t pXp)
  | .srx => cs (if b.kind = .rd || b.kind = .mrr then t pXsDll else t pXs)
  | _ => 0

/-- The least distance from an earlier command to a later one, from first ck to first ck (R202). -/
def gap (s : State) (a b : Cmd) : Nat :=
  max (max (rowGap s a b) (unitGap s a b)) (if a.kind.isCol && b.kind.isCol then colGap s a b else 0)

/-- At most 4 ACT to a logical rank in a tFAW window and 16 to a chip select in a tFAW_dlr window. -/
def fawAt (s : State) (q : Sched) (c : Cmd) : Nat :=
  if c.kind = .act then
    let acts := q.hist.filter fun h => h.cmd.kind = .act
    let at_ (l : List Issued) (n w : Nat) : Nat := match l.drop n with
      | h :: _ => h.ck + w
      | [] => 0
    max (at_ (acts.filter fun h => sameLr h.cmd c) 3 (tim s pFaw)) (at_ (acts.filter fun h => sameCs h.cmd c) 15 (tim s pFawDlr))
  else 0

/-- The first ck after the last command of the bus. -/
def busFree (q : Sched) : Nat :=
  match q.hist with
  | h :: _ => h.ck + h.cmd.kind.length
  | [] => 0

/-- The earliest ck, not before t0, at which a command may be placed on the pins (R197, R202). -/
def earliestPin (s : State) (q : Sched) (t0 : Nat) (c : Cmd) : Nat :=
  q.hist.foldl (fun t h => max t (h.ck + gap s h.cmd c)) (max (max t0 (busFree q)) (fawAt s q c))

/-! ### The spare chip select (R366, R367) -/

/-- The chip select is being copied to its spare. -/
def copying (s : State) (x : Sc) (cs : BitVec 2) : Bool :=
  let p := s.ras.spare.get (chOf x)
  p.st = .copying && p.replaced = cs

/-- A command to the spare alone, as a command to the chip select that is copied to it: both have the
same open rows. -/
def logCmd (s : State) (x : Sc) (c : Cmd) : Cmd :=
  let p := s.ras.spare.get (chOf x)
  if p.st = .copying ∧ p.cs = c.cs then { c with cs := p.replaced } else c

/-- The position of a line among the lines of its chip select in ascending LLA order. -/
def csPos (s : State) (k : Coord) : Nat := k.line + 128 * k.bank + 512 * k.bg + 4096 * (k.row + nRows s * k.lr)

/-- The position of the line that a column command addresses. -/
def cmdPos (s : State) (c : Cmd) : Nat :=
  let line := c.col.toNat / 16 + (if isX8 s then 64 * (c.row.toNat % 2) else 0)
  csPos s { line := line, bank := c.ba.toNat, bg := c.bg.toNat, row := if isX8 s then c.row.toNat / 2 else c.row.toNat
            lr := c.lr.toNat, cs := 0, sub := 0, ch := 0 }

/-- The line lies below the copy frontier of its sub-channel. -/
def belowFrontier (s : State) (x : Sc) (c : Cmd) : Bool :=
  decide (cmdPos s c < (s.ras.spare.get (chOf x)).frontier.get ⟨x.val % 2, Nat.mod_lt _ (by decide)⟩)

/-- The chip selects that carry a command: a replaced one is served by its spare (R367); during the copy
a read below the frontier goes to the spare, a write below it and every command that prepares, closes or
puts away a row or a rank goes to both, each has its own refresh (R366). -/
def pinCmds (s : State) (x : Sc) (c : Cmd) : List Cmd :=
  let p := s.ras.spare.get (chOf x)
  let sp := { c with cs := p.cs }
  if p.st = .inService ∧ p.replaced = c.cs then [sp]
  else if !copying s x c.cs then [c]
  else
    match c.kind with
    | .rd => if belowFrontier s x c then [sp] else [c]
    | .wr => if belowFrontier s x c then [c, sp] else [c]
    | .refAb | .refSb | .mrr => [c]
    | _ => [c, sp]

/-- The ck at which a column command would leave a swap window before its burst, where one is to be forced: its
delay is at most 4 ck (R297). -/
def forcedAt (s : State) (q : Sched) (c : Cmd) (t : Nat) : Nat :=
  if q.forceWindow && c.kind.isCol then
    let last := (q.hist.filterMap (pinSpan s)).foldl (fun m p => max m p.2) 0
    max t (min (t + 4) (last + 4 + preambleCk - (if c.kind = .wr then tim s pCwl else tim s pCl)))
  else t

/-- The earliest ck of a command on every chip select that carries it. (DEDUCED, log 14) -/
def earliest (s : State) (x : Sc) (t0 : Nat) (c : Cmd) : Nat :=
  forcedAt s (s.sched.get x) c ((pinCmds s x c).foldl (fun t d => max t (earliestPin s (s.sched.get x) t0 d)) t0)

/-- The buses of a channel are not used before ck t. -/
def busWaits (c : Ch) (t : Nat) (s : State) : State :=
  forAll [scA c, scB c] (fun x s => updSched x (fun q => { q with ck := max q.ck t }) s) s

/-- The self-refresh entries of a sub-channel that its history holds. -/
def sreCks (q : Sched) : List Nat := (q.hist.filter fun h => h.cmd.kind = .sre).map Issued.ck

/-- DCK of a channel stops tCKSRE after the last SRE of its sub-channels (R203). -/
def dckStop (c : Ch) (s : State) : State :=
  match sreCks (s.sched.get (scA c)) ++ sreCks (s.sched.get (scB c)) with
  | [] => s
  | l => busWaits c (l.foldl max 0 + tim s pCksre) s

/-- DCK of a channel starts: SRX follows tCKSRX later (R203). -/
def dckStart (c : Ch) (s : State) : State :=
  busWaits c (max (ckNow s (scA c)) (ckNow s (scB c)) + tim s pCksrx) s

/-- DCK of a channel stops after the last self-refresh entry and runs again. -/
def dckRestart (c : Ch) (s : State) : State := dckStart c (dckStop c s)

/-! ### Refresh gates (R233 to R236) -/

/-- The calendar of a unit has been built. -/
def calendar (s : State) (x : Sc) (u : Nat) : Bool := (kfind s.ref.units (unitKey x u)).isSome

/-- The bank addresses that a set still covers: those whose REFsb has not been issued (R234). -/
def coveredBank (s : State) (x : Sc) (u : Nat) (ba : BitVec 2) : Bool :=
  ((s.sched.get x).maint.get 0).all fun m =>
    match m.op with
    | .refSet v left => v ≠ u || left.isEmpty || left.any fun b => b.val = ba.toNat
    | _ => true

/-- The time that a command keeps its bank from being refreshed (R234). -/
def gateSpan (s : State) (k : CmdKind) (wr : Bool) : Nat :=
  let t := tim s
  let w := t pCwl + t pWbl + t pWr
  match k with
  | .act => max (t pRas) (if wr then t pRcd + w else t pRcd + t pRtp) + t pRp
  | .rd => t pRtp + t pRp
  | _ => w + t pRp

/-- The gate of a unit holds the command at ck t. -/
def unitGate (s : State) (x : Sc) (u : Nat) (c : Cmd) (wr urgent : Bool) (t : Nat) : Bool :=
  let r := refUnit s x u
  calendar s x u && coveredBank s x u c.ba
    && (r.emergency || (!urgent
      && ((r.gate.any fun g => decide (g < t + gateSpan s c.kind wr))
        || (decide (0 ≤ r.debt) && decide (r.next < t + gateSpan s c.kind wr)))))

/-- A refresh gate holds the command at ck t: that of a unit whose chip select carries it. An urgent host
command is held in the emergency state only (R235); in BIND_OFF every gate is open (R494). -/
def gateHolds (s : State) (x : Sc) (c : Cmd) (wr urgent : Bool) (t : Nat) : Bool :=
  let p := s.ras.spare.get (chOf x)
  let l := logCmd s x c
  (c.kind = .act || c.kind = .rd || c.kind = .wr) && s.glb.ctl ≠ .bindOff
    && (unitGate s x (l.unit s) c wr urgent t
      || (copying s x l.cs && unitGate s x (unitNo s p.cs.toNat c.lr.toNat) c wr urgent t))

end Sys2Proof.Machine
end

