-- ==== Sys2Proof/Machine/Sched.lean ====
section
/-! DEFINITION. What a scheduler chooses among (07): ageing, read and write mode, the commands that its
entries and the maintenance input want next, page policy, holds and selection classes. -/

namespace Sys2Proof.Machine

/-! ### Ageing (R199) -/

/-- The age cap in cc, the page idle time in ck, the hit cap, the watermarks (R226). -/
def ageCap (s : State) (x : Sc) : Nat := 16 * max 1 (regFld s (0xC004 + 0x400 * x.val) 31 16)
def pageIdle (s : State) (x : Sc) : Nat := 16 * regFld s (0xC004 + 0x400 * x.val) 15 8
def hitCap (s : State) (x : Sc) : Nat := max 1 (regFld s (0xC004 + 0x400 * x.val) 7 0)
def wrMin (s : State) (x : Sc) : Nat := max 1 (regFld s (0xC000 + 0x400 * x.val) 31 24)
def wmHigh (s : State) (x : Sc) : Nat := regFld s (0xC000 + 0x400 * x.val) 23 16
def wmLow (s : State) (x : Sc) : Nat :=
  let l := regFld s (0xC000 + 0x400 * x.val) 15 8
  if l < wmHigh s x then l else wmHigh s x - 1

/-- Mark what is aged at cc `now` under the present cap (R199, R226); an entry that becomes aged is counted (07, SCH
registers). -/
def ageAll (x : Sc) (now : Nat) (s : State) : State :=
  let cap := ageCap s x
  let old (st : Nat) : Bool := decide (cap < now - st)
  let q := s.sched.get x
  let n := (q.rq.filter fun e => !e.aged && old e.stamp).length + (q.wq.filter fun e => !e.aged && old e.stamp).length
  let s := updSched x (fun q => { q with
    rq := q.rq.map (fun e => { e with aged := old e.stamp })
    wq := q.wq.map (fun e => { e with aged := old e.stamp })
    maint := q.maint.map fun l => l.map fun m => { m with aged := m.stamp.any old } }) s
  onlyIf (decide (0 < n)) (fun s => sqSet (rSchStatus x) 0x2 (bumpBy n (rSch x 8) s)) s

/-! ### What the queues want -/

/-- What a command serves. -/
inductive Serves where
  | read (id : Nat)
  | merge (id : Nat)
  | write (id : Nat)
  | copy (l : Lla)
  | maint (q : Fin 7)
  | close
  deriving DecidableEq, Repr

/-- A line that an entry of the queues wants to read or write. -/
structure Want where
  lla : Lla
  wr : Bool
  stamp : Nat
  serves : Serves
  urgent : Bool
  aged : Bool
  deriving DecidableEq, Repr

def readWants (q : Sched) : List Want :=
  (q.rq.filter fun e => !e.issued && e.fwd = .none).map fun e => ⟨e.lla, false, e.stamp, .read e.id, e.urgent, e.aged⟩
def mergeWants (q : Sched) : List Want :=
  (q.wq.filter fun e => e.merge = .needRead).map fun e => ⟨e.lla, false, e.stamp, .merge e.id, e.urgent, e.aged⟩
def writeWants (q : Sched) : List Want :=
  (q.wq.filter fun e => e.merge = .full && !e.issued).map fun e => ⟨e.lla, true, e.stamp, .write e.id, e.urgent, e.aged⟩

/-- Lines of a copy-line buffer are never urgent, and R199 ages host entries and maintenance commands only: they never
become aged. (DESIGN CHOICE, log 58) -/
def copyWants (q : Sched) : List Want := q.copy.map fun e => ⟨e.lla, true, e.stamp, .copy e.lla, false, false⟩

/-- The line that maintenance work reads or writes. -/
def MntOp.line? : MntOp → Option (Lla × Bool)
  | .lineRead _ l => some (l, false)
  | .lineWrite l _ _ _ => some (l, true)
  | .spareWrite l _ _ => some (l, true)
  | .fill l _ _ => some (l, true)
  | _ => none

/-- The first work of the holder of the maintenance input. -/
def holderWork (q : Sched) : Option (Fin 7 × MntCmd) :=
  q.holder.bind fun h => ((q.maint.get h).head?).map fun m => (h, m)

/-- The work that is offered at the maintenance input: it has taken its age stamp there (R185). -/
def offered (q : Sched) : Option (Fin 7 × MntCmd) := (holderWork q).filter fun p => p.2.stamp.isSome

/-- Commands of the holder have not reached their limit (R217). -/
def underLimit (q : Sched) : Bool := q.limit = 0 || decide (q.burst < q.limit)

def maintWants (q : Sched) : List Want :=
  match offered q with
  | some (h, m) => match m.op.line? with
    | some (l, w) => [⟨l, w, m.stamp.getD 0, .maint h, false, m.aged⟩]
    | none => []
  | none => []

def hostWants (q : Sched) : List Want := readWants q ++ mergeWants q ++ writeWants q ++ copyWants q
def allWants (q : Sched) : List Want := hostWants q ++ maintWants q

/-! ### Read mode and write mode (R193 to R195, R310, R331) -/

/-- Taken write entries: the write queue and the copy-line buffer (R535). -/
def occupancy (q : Sched) : Nat := q.wq.length + q.copy.length

/-- Some write entry is eligible for a write command (R192, R310). -/
def someWrite (q : Sched) : Bool := !q.writeHold && !(writeWants q ++ copyWants q).isEmpty

/-- A gear change is pending and the drain estimate exceeds cap_gc (R331). -/
def gearDrain (s : State) (x : Sc) : Bool :=
  s.phy.gearPending.isSome && decide (drainCapGc s s.glb.gear < drainEst s x [] [])

/-- Write mode is entered, and why (R194, R331). A read is pending while it has a command to issue: one that waits for the
line of a merge does not count. (DESIGN CHOICE, log 67) -/
def entersWrite (s : State) (x : Sc) : Option ModeBy :=
  let q := s.sched.get x
  let rd := readWants q
  if q.fullDrain then some .drain
  else if gearDrain s x && someWrite q && !(rd.any fun w => w.urgent || w.aged) then some .gear
  else if decide (wmHigh s x ≤ occupancy q) && someWrite q && !(rd.any fun w => w.urgent || w.aged) then some .watermark
  else if regBit s (0xC000 + 0x400 * x.val) 0 && decide (1 ≤ occupancy q) && someWrite q && rd.isEmpty
      && (mergeWants q).isEmpty then some .idle
  else none

/-- Write mode is left (R194, R331). A gear change that is pending keeps it while the drain estimate exceeds cap_gc and
some write is eligible: with none, the merge reads that the estimate counts need read mode. (DESIGN CHOICE, log 67) -/
def leavesWrite (s : State) (x : Sc) : Bool :=
  let q := s.sched.get x
  let rd := readWants q
  if q.fullDrain then q.wq.isEmpty && q.copy.isEmpty
  else if rd.any Want.urgent then true
  else if gearDrain s x && someWrite q then false
  else
    !someWrite q || (decide (occupancy q ≤ wmLow s x) && decide (wrMin s x ≤ q.wrIssued))
      || (q.modeBy = .idle && !(rd.isEmpty && (mergeWants q).isEmpty))
      || (rd.any Want.aged && decide (wrMin s x ≤ q.wrIssued))

/-- Change mode where R194 says so; changes are counted. -/
def modeUpdate (x : Sc) (s : State) : State :=
  let q := s.sched.get x
  if q.writeMode then
    if leavesWrite s x then bump (rSch x 7) (updSched x (fun q => { q with writeMode := false, fullDrain := false }) s) else s
  else
    match entersWrite s x with
    | some why => bump (rSch x 7) (updSched x (fun q => { q with writeMode := true, modeBy := why, wrIssued := 0 }) s)
    | none => s

/-! ### Commands for a line (R200, R201) -/

/-- A want that needs another row of the bank of an open row. -/
def needsOther (s : State) (o : OpenRow) (w : Want) : Bool :=
  decide (lineBank w.lla = o.bank) && decide (lineRow s w.lla ≠ o.row.toNat)
def hitsRow (s : State) (o : OpenRow) (w : Want) : Bool :=
  decide (lineBank w.lla = o.bank) && decide (lineRow s w.lla = o.row.toNat)

/-- The hit cap of the open row has been reached while an entry waits for another row (R201). -/
def capped (s : State) (x : Sc) (o : OpenRow) : Bool :=
  decide (hitCap s x ≤ o.capHits) && (hostWants (s.sched.get x)).any (needsOther s o)

/-- The row may be precharged for a want that needs another row of its bank (R200). (DEDUCED, log 15) -/
def mayClose (s : State) (x : Sc) (o : OpenRow) (w : Want) : Bool :=
  !(hostWants (s.sched.get x)).any (hitsRow s o) || capped s x o || w.aged

/-- PRE of an open row. -/
def OpenRow.pre (o : OpenRow) : Cmd := { kind := .pre, cs := o.cs, lr := o.lr, bg := o.bg, ba := o.ba, row := o.row, col := 0, ap := false }

/-- The next command that a want needs: the column command, or the ACT or PRE on the way to it. -/
def nextCmd (s : State) (x : Sc) (w : Want) : Option Cmd :=
  let c := cmdFor s (if w.wr then .wr else .rd) w.lla
  match openRow (s.sched.get x) (lineBank w.lla) with
  | none => some { c with kind := .act, col := 0 }
  | some o => if o.row = c.row then some c else if mayClose s x o w then some o.pre else none

/-- A column command carries auto-precharge (R200): no other entry or maintenance command hits its row, and pages close
at once or another entry waits for a different row of the bank. -/
def autoPre (s : State) (x : Sc) (w : Want) (c : Cmd) : Bool :=
  let q := s.sched.get x
  let other (v : Want) : Bool := v.serves ≠ w.serves
  match openRow q c.bank with
  | none => false
  | some o =>
    !(allWants q).any (fun v => other v && hitsRow s o v)
      && (pageIdle s x = 0 || (hostWants q).any fun v => other v && needsOther s o v)

/-! ### Holds (R74, R209, R222, R223, R242, R310, R494) -/

/-- Host commands may be issued in this state of the controller. In CAST_ON the only entries are lines of a copy-line
buffer (R160, R535). The lines of a copy-line buffer serve no host request; in a pause the model holds them with the host
commands. (DESIGN CHOICE, log 67) -/
def hostOk (s : State) : Bool :=
  match s.glb.ctl with
  | .service => match s.qz.ph with
    | .boundary | .waitSr | .paused | .exiting => false
    | _ => true
  | .castOn | .gearChange | .bindOff => true
  | _ => false

/-- A column command of the want belongs to the present mode (R193, R195). -/
def inMode (q : Sched) (w : Want) : Bool :=
  match w.serves with
  | .read _ => !q.writeMode
  | .merge _ => !q.writeMode || q.fullDrain
  | .write _ | .copy _ => q.writeMode && !q.writeHold
  | _ => true

/-- A maintenance write to the line was offered before the write entered its queue (R223). -/
def afterMaint (q : Sched) (w : Want) : Bool :=
  match w.serves with
  | .write id => q.maint.toList.any fun l => l.any fun m =>
      m.stamp.isSome && decide (m.op.line? = some (w.lla, true)) && !m.after.contains id
  | _ => false

/-- A host want may have its column command issued. -/
def hostColumn (q : Sched) (w : Want) : Bool :=
  inMode q w && !(w.wr && (q.locks.contains w.lla || afterMaint q w))

/-- A host want may have a command at all: full-drain mode serves no host read (R195), nor does a gear change or a
Bind-Off once the queues have drained (R104, R494). The Bind-Off drain writes its bitmap-copy lines after the write queue
(R399). -/
def hostWant (s : State) (q : Sched) (w : Want) : Bool :=
  match w.serves with
  | .read _ => !q.fullDrain && s.glb.ctl = .service
  | .copy _ => s.glb.ctl ≠ .bindOff || q.wq.all WrEnt.issued
  | _ => true

/-- A line matches a write entry or a line record (R222, R401). -/
def lineBusy (q : Sched) (l : Lla) : Bool := (q.wq.any fun e => e.lla = l) || q.lines.any fun e => e.lla = l

/-- A maintenance read that a write-back may follow (R222), and the reads of the resilver (R401). -/
def Origin.locks : Origin → Bool
  | .patrol | .oot | .sparing | .repair false => true
  | .gliog _ _ lock => lock
  | _ => false
def Origin.waitsLine : Origin → Bool
  | .resilver => true
  | o => o.locks

/-- A maintenance read that waits, as a host read does, for the zeroing of its region (R15, R167). -/
def Origin.waitsRegion : Origin → Bool
  | .debug | .gliog _ _ _ | .repair _ | .resilver => true
  | _ => false

/-- The transmit codes of an aborted swatch run walk back: write bursts are held (R315). -/
def codesWalk (s : State) (x : Sc) : Bool := (s.phy.sc.get x).seq = .walk

/-- A maintenance line command waits: for host writes to its line (R222, R223, R401), for its region, or for codes that
walk back (R315). A write-back waits for no region: its line is locked. -/
def maintHeld (s : State) (x : Sc) (m : MntCmd) : Bool :=
  let q := s.sched.get x
  match m.op with
  | .lineRead o l => (o.waitsLine && lineBusy q l) || (o.waitsRegion && readWaits s l)
  | .lineWrite l _ _ _ => codesWalk s x || q.wq.any fun e => e.lla = l && !e.issued && m.after.contains e.id
  | .fill _ _ _ => codesWalk s x
  | _ => false

/-- A row-counter or back-off rule holds an ACT; no back-off holds a drain of Bind-Off (R494). -/
def actBarred (s : State) (x : Sc) (w : Want) (c : Cmd) : Bool :=
  c.kind = .act && (actHeld s x c (w.serves = .maint 3)
    || (s.ref.aboLate.get (chOf x) && s.glb.ctl ≠ .bindOff && (match w.serves with
        | .maint _ => false
        | _ => true)))

/-! ### Candidates and classes (R197, R198, R221) -/

/-- A command that may be chosen. -/
structure Cand where
  cmd : Cmd
  serves : Serves
  cls : Nat
  stamp : Nat
  /-- 0 for maintenance, 1 + acceptance number for a host entry (R198) -/
  order : Nat
  urgent : Bool
  wr : Bool
  deriving DecidableEq, Repr

/-- Order of R198 at equal class and stamp. A line of a copy-line buffer belongs to no host request: it stands with
maintenance, before it. (DESIGN CHOICE, log 58) -/
def Serves.order : Serves → Nat
  | .read i | .merge i | .write i => i + 1
  | _ => 0

/-- A priority requester (R215). -/
def priorityReq (h : Fin 7) : Bool := decide (h.val ≤ 3)

/-- The class of a line command (R197, R221). A column hit is one of the current mode by its direction: a merge read in
full-drain mode, and a maintenance command of the other direction, are in class 7. (DESIGN CHOICE, log 59) -/
def lineClass (s : State) (x : Sc) (w : Want) (c : Cmd) : Nat :=
  let q := s.sched.get x
  let hit := c.kind.isCol && (decide (w.wr = q.writeMode)) && !((openRow q c.bank).any fun o => capped s x o)
  let rest := if w.aged then 5 else if hit then 6 else 7
  match w.serves with
  | .maint h => if priorityReq h then 4 else rest
  | _ => if w.urgent then 3 else rest

/-- The want is the write of a copied line to the spare (R366). (DEDUCED, log 29) -/
def toSpare (q : Sched) (w : Want) : Bool :=
  match w.serves, offered q with
  | .maint _, some (_, m) => match m.op with
    | .spareWrite _ _ _ => true
    | _ => false
  | _, _ => false

/-- The candidate of a want. -/
def wantCand (s : State) (x : Sc) (w : Want) : Option Cand :=
  match nextCmd s x w with
  | none => none
  | some c =>
    let c := if c.kind.isCol then { c with ap := autoPre s x w c } else c
    let c := if c.kind = .wr && toSpare (s.sched.get x) w && copying s x c.cs then { c with cs := (s.ras.spare.get (chOf x)).cs } else c
    if actBarred s x w c then none
    else some ⟨c, w.serves, lineClass s x w c, w.stamp, w.serves.order, w.urgent, w.wr⟩

/-- Candidates of host entries. -/
def hostCands (s : State) (x : Sc) : List Cand :=
  let q := s.sched.get x
  if !hostOk s then []
  else
    ((hostWants q).filter (hostWant s q)).filterMap fun w =>
      (wantCand s x w).filter fun c => !c.cmd.kind.isCol || hostColumn q w

/-- A command for a whole unit. -/
def unitCmd (s : State) (k : CmdKind) (u : Nat) (ba : Nat) : Cmd :=
  { kind := k, cs := BitVec.ofNat 2 (u / nLr s), lr := BitVec.ofNat 4 (u % nLr s), bg := 0, ba := BitVec.ofNat 2 ba
    row := 0, col := 0, ap := false }

/-- Open rows of a unit. -/
def unitRows (s : State) (q : Sched) (u : Nat) : List OpenRow :=
  q.rows.filter fun o => decide (unitNo s o.cs.toNat o.lr.toNat = u)

/-- The unit whose rows a unit shares: the spare's units have those of the chip select that is copied to
it (R366). -/
def sharedUnit (s : State) (x : Sc) (u : Nat) : Nat :=
  let p := s.ras.spare.get (chOf x)
  if p.st = .copying ∧ u / max 1 (nLr s) = p.cs.toNat then unitNo s p.replaced.toNat (u % max 1 (nLr s)) else u

/-- Units with a calendar of their own. -/
def unitsOn (s : State) (x : Sc) : List Nat :=
  let p := s.ras.spare.get (chOf x)
  List.range (nUnits s) ++ (if p.st = .copying then (List.range (nLr s)).map (unitNo s p.cs.toNat) else [])

/-- A maintenance command other than a refresh set targets the unit. -/
def MntOp.targets (s : State) (u : Nat) : MntOp → Bool
  | .refSet _ _ => false
  | .rfm v _ _ => v = u
  | .drfm v _ _ _ _ => v = u
  | .lineRead _ l => unitOf s l = u
  | .lineWrite l _ _ _ => unitOf s l = u
  | .spareWrite l _ _ => unitOf s l = u
  | .fill l _ _ => unitOf s l = u
  | .mode k cs lr _ => if k = .mrr then unitNo s cs.toNat lr.toNat = u else u / max 1 (nLr s) = cs.toNat

/-- Some entry or maintenance command targets the unit (R232). -/
def unitWanted (s : State) (q : Sched) (u : Nat) : Bool :=
  q.rq.any (fun e => unitOf s e.lla = u) || q.wq.any (fun e => unitOf s e.lla = u) || q.copy.any (fun e => unitOf s e.lla = u)
    || q.maint.toList.any fun l => l.any fun m => m.op.targets s u

/-- A set of the unit may be pulled in, or issued after its slot was postponed (R232, R235). -/
def pullable (s : State) (x : Sc) (u : Nat) : Bool :=
  let q := s.sched.get x
  calendar s x u && decide (-(regFld s 0x10000 25 22 : Int) < (refUnit s x u).debt)
    && (unitRows s q (sharedUnit s x u)).isEmpty && !unitWanted s q (sharedUnit s x u)
    && !(s.ref.due.any fun d => d.sc = x && d.unit = u)

/-- A set of the unit may be issued now: under its gate, in the emergency state, or pulled in. -/
def setDue (s : State) (x : Sc) (u : Nat) : Bool :=
  let r := refUnit s x u
  r.emergency || r.gate.isSome || pullable s x u

/-- The command for a whole unit or for one bank address of it, or the precharge that it needs first. -/
def afterShut (s : State) (x : Sc) (u : Nat) (sb : Option Nat) (ab one : CmdKind) : Cmd :=
  let v := sharedUnit s x u
  let rows := unitRows s (s.sched.get x) v
  match sb with
  | some ba => match rows.find? fun o => o.ba.toNat = ba with
    | some o => o.pre
    | none => unitCmd s one u ba
  | none => if rows.isEmpty then unitCmd s ab u 0 else unitCmd s .preAb v 0

/-- The bank address of same-bank commands: only in SAME_BANK mode. -/
def sbOf (s : State) (ba : Nat) : Option Nat := if refMode s = 2 then some ba else none

/-- The command that the refresh requester, or another without a line, offers. (DESIGN CHOICE, log 17) -/
def opCmd (s : State) (x : Sc) (o : MntOp) : Option Cmd :=
  match o with
  | .refSet u left =>
    if setDue s x u then some (afterShut s x u (sbOf s ((left.head?.map Fin.val).getD 0)) .refAb .refSb) else none
  | .rfm u kind b => some (afterShut s x u (if kind = 4 then none else sbOf s (b % 4)) .rfmAb .rfmSb)
  | .drfm u b _ _ _ => some (afterShut s x u (sbOf s (b % 4)) .drfmAb .drfmSb)
  | .mode k cs lr arg => some { kind := k, cs := cs, lr := lr, bg := 0, ba := 0, row := 0, col := 0, ap := false, arg := arg }
  | _ => none

/-- The candidate of the maintenance input. -/
def maintCands (s : State) (x : Sc) : List Cand :=
  let q := s.sched.get x
  if s.glb.ctl = .bindOff || !underLimit q then []
  else
    match offered q with
    | none => []
    | some (h, m) =>
      if maintHeld s x m then []
      else
        let c := match maintWants q with
          | w :: _ => wantCand s x w
          | [] => (opCmd s x m.op).map fun c =>
              let k := if priorityReq h then 4 else if m.aged then 5 else 7
              ⟨c, .maint h, k, m.stamp.getD 0, 0, false, false⟩
        (c.map fun c => { c with cls := if h = 0 && emergency s x then 2 else c.cls }).toList

/-- Rows that no command has used for the idle time, and rows that a gate wants closed, when no entry
hits them (R200, R234). Such a precharge serves no entry: in class 7 it stands by the cc of the row's last command, before
the entries of that cc. (DEDUCED, log 15; DESIGN CHOICE, log 67) -/
def closeCands (s : State) (x : Sc) (t0 : Nat) : List Cand :=
  let q := s.sched.get x
  (q.rows.filter fun o =>
      !(allWants q).any (hitsRow s o) && decide (o.lastCol + pageIdle s x ≤ t0)
        || gateHolds s x { o.pre with kind := .rd } false false t0 && gateHolds s x { o.pre with kind := .wr } true false t0).map
    fun o => ⟨o.pre, .close, 7, o.lastCol / 4, 0, false, false⟩

/-- a is chosen before b (R197, R198). -/
def candBefore (a b : Cand) : Bool :=
  if a.cls ≠ b.cls then decide (a.cls < b.cls)
  else if a.stamp ≠ b.stamp then decide (a.stamp < b.stamp)
  else decide (a.order ≤ b.order)

def bestCand : List Cand → Option Cand
  | [] => none
  | c :: l => match bestCand l with
    | none => some c
    | some b => some (if candBefore c b then c else b)

/-- The sub-channel may put commands on its bus: its channel serves, it is not in a low-power state. -/
def busOn (s : State) (x : Sc) : Bool :=
  chLive s (chOf x) && s.pwr.sc.get x = .active && s.glb.coreRun

/-- Nothing but a replay goes on while one is in progress on the channel (R197, R208). -/
def replayFree (s : State) (x : Sc) : Bool :=
  (s.sched.get (scA (chOf x))).replay = .none && (s.sched.get (scB (chOf x))).replay = .none

/-- The command is that of a row repair. -/
def CmdArg.repairs : CmdArg → Bool
  | .set (.repair _ _ _ _ _) => true
  | _ => false

/-- Step 4 of a row repair is in progress on the chip select: nothing else is issued to it (R359). -/
def pprBars (s : State) (x : Sc) (c : Cmd) : Bool :=
  !c.arg.repairs && s.ras.ppr.any fun p => p.step = .mode && p.sc = x && decide ((unpackLla p.lla).cs = c.cs.toNat)

/-- Candidates of a cc whose first ck is t0. -/
def cands (s : State) (x : Sc) (t0 : Nat) : List Cand :=
  (hostCands s x ++ maintCands s x ++ closeCands s x t0).filter fun c => !pprBars s x c.cmd

/-- The gate holds a candidate. -/
def candGated (s : State) (x : Sc) (t0 : Nat) (c : Cand) : Bool :=
  gateHolds s x c.cmd c.wr c.urgent (earliest s x t0 c.cmd)

/-- Ready in the cc (R196). -/
def ready (s : State) (x : Sc) (t0 : Nat) (c : Cand) : Bool :=
  decide (earliest s x t0 c.cmd < t0 + 4) && !candGated s x t0 c

end Sys2Proof.Machine
end

