-- ==== Sys2Proof/Machine/Issue.lean ====
section
/-! DEFINITION. Issuing commands (07, 08): what a command on the bus changes, the work it serves, one cc
of a scheduler, the end of a write burst, and the decode of read data. -/

namespace Sys2Proof.Machine

/-! ### A command reaches the bus -/

/-- The open rows after a command; `cap` says that a column command was younger than an entry that
waits for another row of the bank (R201). -/
def rowsAfter (t : Nat) (c : Cmd) (cap : Bool) (rows : List OpenRow) : List OpenRow :=
  match c.kind with
  | .act => rows.filter (fun o => decide (o.bank ≠ c.bank)) ++ [⟨c.cs, c.lr, c.bg, c.ba, c.row, t, 0, 0⟩]
  | .pre => rows.filter fun o => decide (o.bank ≠ c.bank)
  | .preAb => rows.filter fun o => !(o.cs = c.cs && o.lr = c.lr)
  | .rd | .wr =>
    if c.ap then rows.filter fun o => decide (o.bank ≠ c.bank)
    else rows.map fun o =>
      if o.bank = c.bank then { o with lastCol := t, hits := o.hits + 1, capHits := if cap then o.capHits + 1 else 0 } else o
  | _ => rows

/-- Counters of a command: ACTS, RD_CMDS, WR_CMDS, and ROW_HITS for a column command to a row that has
had one since its ACT. -/
def countCmd (x : Sc) (c : Cmd) (hit : Bool) (s : State) : State :=
  match c.kind with
  | .act => bump (rSch x 0) s
  | .rd => onlyIf hit (bump (rSch x 3)) (bump (rSch x 1) s)
  | .wr => onlyIf hit (bump (rSch x 3)) (bump (rSch x 2) s)
  | _ => s

/-- The longest constraint of R203 in ck: commands older than this hold nothing back. -/
def histSpan : Nat := 16400

/-- A command goes onto the bus at ck t, on the chip selects `pins`: it is recorded for the timing rules
and the replay buffer (R207), the row state follows it, an ACT is counted by the Row Counter. -/
def busPins (x : Sc) (t : Nat) (pins : List Cmd) (c : Cmd) (cap ledger : Bool) (s : State) : State :=
  let q := s.sched.get x
  let d := logCmd s x c
  let hit := (openRow q d.bank).any fun o => decide (0 < o.hits)
  let s := forAll pins (fun c s => emit (.cmd x t c) s) s
  let win := replayWin s x
  let after := q.replay = .none && decide (q.attempts ≠ 0 ∧ t ≤ q.replayEnd + win)
  let s := updSched x (fun q => { q with
    hist := pins.map (fun c => ⟨t, c⟩) ++ q.hist.filter (fun h => decide (t ≤ h.ck + histSpan))
    recs := q.recs.filter (fun h => decide (t ≤ h.ck + win)) ++ [⟨t, c⟩]
    since := if after then q.since ++ [⟨t, c⟩] else []
    dataCk := q.dataCk + (if c.kind = .rd || c.kind = .wr then 8 else 0)
    forceWindow := q.forceWindow && !c.kind.isCol
    rows := rowsAfter t d cap q.rows }) s
  let s := countCmd x c hit s
  if c.kind = .act then
    let k := raaKey x (c.unit s) c.bankIx * 2 ^ 18 + c.row.toNat
    actCounted x c ledger (updRef (fun a => { a with rcHeld := a.rcHeld.filter (· ≠ k) }) s)
  else s

/-- The command closes a due row. -/
def closesDue (s : State) (x : Sc) (c : Cmd) : Bool :=
  let d := logCmd s x c
  s.ref.due.any fun r => r.sc = x && r.unit = d.unit s && dueOpen s r
    && (c.kind = .preAb || ((c.kind = .pre || (c.kind.isCol && c.ap)) && r.bank = d.bankIx))

/-- A command goes onto the bus for the chip select that it names. The precharge that closes a due row carries the
sample of R254. -/
def busCmd (x : Sc) (t : Nat) (c : Cmd) (cap ledger : Bool) (s : State) : State :=
  let c := if closesDue s x c then { c with arg := .sample } else c
  busPins x t (pinCmds s x c) c cap ledger s

/-- An auto-precharge that only one of a chip select and its spare carries leaves the bank of the other one to a
precharge of its own (R200, R366), which carries the sample of a due row as well (R254). (DEDUCED, log 29) -/
def twinPre (x : Sc) (t : Nat) (c : Cmd) (due : Bool) (s : State) : State :=
  let l := logCmd s x c
  if c.ap && copying s x l.cs then
    let on := (pinCmds s x c).map Cmd.cs
    forAll ([l.cs, (s.ras.spare.get (chOf x)).cs].filter fun k => !on.contains k) (fun k s =>
      let d := { c with kind := .pre, cs := k, col := 0, ap := false, arg := if due then .sample else .none }
      busPins x (earliestPin s (s.sched.get x) t d) [d] d false false s) s
  else s

/-- A write burst for a line: its line record and the symbols on the pins (R207, R337). -/
def writeBurst (x : Sc) (t : Nat) (c : Cmd) (src : WrSrc) (l : Lla) (d : Line) (poison : Bool) (s : State) : State :=
  let s := updSched x (fun q => { q with lines := q.lines ++ [⟨src, l, d, poison, t, c, false⟩] }) s
  emit (.burst x (t + tim s pCwl) (encodeLine l d poison)) s

/-! ### The refresh requester's commands take effect (08) -/

def rRef (x : Sc) (i : Nat) : Nat := 0x10100 + 0x40 * x.val + 4 * i

/-- L_post; 0 is not used by any image, and is taken as 1. -/
def lPost (s : State) : Nat := max 1 (regFld s 0x10000 29 26)

/-- Enter or leave the emergency state as the debt says (R236). -/
def judgeEmergency (x : Sc) (u : Nat) (s : State) : State :=
  let r := refUnit s x u
  let em := decide ((lPost s : Int) ≤ r.debt)
  if em = r.emergency then s
  else
    let s := setRefUnit x u { r with emergency := em } s
    if em then missEmergency x <| expired 0x04 (bump (rRef x 3) (sqSet 0xD070 (pack [(1, x.val)]) s)) else s

/-- A refresh set has been issued (R231, R232, R251). -/
def setIssued (x : Sc) (u : Nat) (s : State) : State :=
  let r := refUnit s x u
  let s := onlyIf (decide (r.debt ≤ 0)) (bump (rRef x 2)) (bump (rRef x 0) s)
  let s := setRefUnit x u { r with debt := r.debt - 1, gate := none, passCount := r.passCount + 1 } s
  raaLower x u (fun _ => true) (judgeEmergency x u s)

/-- RFMab commands that one back-off request asks of the channel (R242). -/
def aboPer (s : State) : Nat := regFld s 0x10038 3 0 * nUnits s * 2

/-- The requests after an RFM: it belongs to the oldest one that still owes any. One that is served and past its
deadline is done with. -/
def aboServe : List AboReq → List AboReq
  | [] => []
  | r :: l =>
    if r.left = 0 then r :: aboServe l
    else if r.left = 1 ∧ r.passed then l
    else { r with left := r.left - 1, begun := true } :: l

/-- An RFM for a back-off has been issued (R242). -/
def aboIssued (x : Sc) (s : State) : State :=
  let c := chOf x
  let served := ((s.ref.abo.get c).find? fun r => decide (0 < r.left)).any fun r => r.left = 1
  let s := updRef (fun a => { a with abo := vmod a.abo c aboServe }) s
  let s := updRef (fun a => { a with aboLate := if aboOwed s c = 0 then vset a.aboLate c false else a.aboLate }) s
  let s := onlyIf served (fun s => sqSet 0x10030 0x20 (bump (rRef (scA c) 7) (bump (rRef (scB c) 7) s))) s
  mitigation x 4 0 none s

/-! ### The work that a command serves -/

/-- Change the work of a requester. -/
def updMaint (x : Sc) (h : Fin 7) (f : List MntCmd → List MntCmd) (s : State) : State :=
  updSched x (fun q => { q with maint := vmod q.maint h f }) s

/-- Take the first work of a requester off its list. -/
def mntDone (x : Sc) (h : Fin 7) (s : State) : State := updMaint x h (fun l => l.drop 1) s

/-- An RFMab serves every bank of its unit: further RFMs of the unit for the rolling count lapse.
(DESIGN CHOICE, log 17) -/
def forgetRfm (x : Sc) (u : Nat) (s : State) : State := updMaint x 0 (fun l => l.filter fun m => !m.rolling u 0 false) s

/-- The work is the refresh set of a unit. -/
def MntCmd.isSet (u : Nat) (m : MntCmd) : Bool :=
  match m.op with
  | .refSet v _ => v = u
  | _ => false

def lockLine (x : Sc) (l : Lla) (s : State) : State := updSched x (fun q => { q with locks := q.locks ++ [l] }) s
def unlockLine (x : Sc) (l : Lla) (s : State) : State := updSched x (fun q => { q with locks := q.locks.filter (· ≠ l) }) s

/-- A read goes into the pipe of reads whose data is awaited. -/
def pipeAdd (x : Sc) (o : Origin) (l : Lla) (t : Nat) (s : State) : State :=
  updSched x (fun q => { q with pipe := q.pipe ++ [⟨o, l, t⟩] }) s

/-- The resilver requester locks its line for forwards, scrubs and Gliog lock theirs for writes. -/
def lockFor (x : Sc) (o : Origin) (l : Lla) (s : State) : State :=
  match o with
  | .resilver => updMir (fun m => { m with locks := m.locks ++ [l] }) s
  | o => onlyIf o.locks (lockLine x l) s

/-- The copy frontier of a sub-channel moves on by a line (R366). (DEDUCED, log 29) -/
def copied (x : Sc) (s : State) : State :=
  updRas (fun a => { a with spare := vmod a.spare (chOf x) fun p =>
    { p with frontier := vmod p.frontier ⟨x.val % 2, Nat.mod_lt _ (by decide)⟩ (· + 1) } }) s

/-- A line of a carve-out has been written: the next one, or the end. -/
def filled (x : Sc) (h : Fin 7) (l : Lla) (n : Nat) (d : Line) (s : State) : State :=
  if n ≤ 1 then mntDone x h s else updMaint x h (fun q => q.modify 0 fun m => { m with op := .fill (l + 1) (n - 1) d }) s

/-- A command of the maintenance input takes effect. -/
def serveMaint (x : Sc) (t : Nat) (h : Fin 7) (c : Cmd) (s : State) : State :=
  let s := updSched x (fun q => { q with burst := q.burst + 1 }) s
  match ((s.sched.get x).maint.get h).head? with
  | none => s
  | some m =>
    match m.op, c.kind with
    | .lineRead o l, .rd => pipeAdd x o l t (lockFor x o l (mntDone x h s))
    | .lineWrite l d p back, .wr =>
      let s := writeBurst x t c .maint l d p (mntDone x h s)
      onlyIf (h = 3) (ledgerWritten l) (onlyIf back (unlockLine x l) s)
    | .spareWrite l d p, .wr => copied x (unlockLine x l (writeBurst x t c .maint l d p (mntDone x h s)))
    | .fill l n d, .wr => writeBurst x t c .maint l d false (filled x h l n d s)
    | .refSet u _, .refAb => setIssued x u (mntDone x h s)
    | .refSet u left, .refSb =>
      if left.length ≤ 1 then setIssued x u (mntDone x h s)
      else updMaint x h (fun l => l.modify 0 fun m => { m with op := .refSet u (left.drop 1) }) s
    | .rfm u kind _, .rfmAb =>
      let s := raaLower x u (fun _ => true) (onlyIf (kind = 3) (forgetRfm x u) (mntDone x h s))
      if kind = 4 then aboIssued x s else mitigation x kind 0 none (bump (rRef x 6) s)
    | .rfm u kind b, .rfmSb =>
      mitigation x kind 0 none (bump (rRef x 6) (raaLower x u (fun k => k % 4 = b % 4) (mntDone x h s)))
    | .drfm u b row k v, .drfmAb => mitigated ⟨x, u, b, row, k, v⟩ (mntDone x h s)
    | .drfm u b row k v, .drfmSb => mitigated ⟨x, u, b, row, k, v⟩ (mntDone x h s)
    | .mode k _ _ _, j => if k = j then mntDone x h s else s
    | _, _ => s

/-- Writes drained during BIND_OFF (R502). -/
def boCount (f : BindOff → BindOff) (s : State) : State :=
  onlyIf (s.glb.ctl = .bindOff) (updPwr fun p => { p with bo := p.bo.map f }) s

/-- A column command of a host entry takes effect; other commands only prepare it. -/
def serveHost (x : Sc) (t : Nat) (c : Cand) (s : State) : State :=
  let q := s.sched.get x
  match c.serves, c.cmd.kind with
  | .read id, .rd =>
    match q.rq.find? fun e => e.id = id with
    | none => s
    | some e => pipeAdd x (.host id) e.lla t (updSched x (fun q => { q with
        rq := q.rq.map fun e => if e.id = id then { e with issued := true } else e }) s)
  | .merge id, .rd =>
    match q.wq.find? fun e => e.id = id with
    | none => s
    | some e => pipeAdd x (.merge id) e.lla t (updSched x (fun q => { q with
        wq := q.wq.map fun e => if e.id = id then { e with merge := .reading } else e }) s)
  | .write id, .wr =>
    match q.wq.find? fun e => e.id = id with
    | none => s
    | some e =>
      boCount (fun b => { b with drained := b.drained + 1 })
        (writeBurst x t c.cmd (.entry id) e.lla e.data e.poison (updSched x (fun q => { q with
          wrIssued := q.wrIssued + 1
          wq := q.wq.map fun e => if e.id = id then { e with issued := true } else e }) s))
  | .copy l, .wr =>
    match q.copy.find? fun e => e.lla = l with
    | none => s
    | some e =>
      pumpCopy (boCount (fun b => { b with copied := b.copied + 1 })
        (writeBurst x t c.cmd .copy l e.data false (updSched x (fun q => { q with
          wrIssued := q.wrIssued + 1, copy := q.copy.filter fun e => e.lla ≠ l }) s)))
  | _, _ => s

/-- The column command is younger than an entry that waits for another row of its bank (R201). -/
def overtakes (s : State) (x : Sc) (c : Cand) : Bool :=
  let q := s.sched.get x
  c.cmd.kind.isCol && match openRow q c.cmd.bank with
    | none => false
    | some o => (hostWants q).any fun w => needsOther s o w && decide (w.stamp < c.stamp)

/-- Issue a chosen command at its earliest ck (R197). -/
def issue (x : Sc) (t0 : Nat) (c : Cand) (s : State) : State :=
  let t := earliest s x t0 c.cmd
  let s := updSched x (fun q => { q with gated := q.gated.filter fun g => g ≠ (c.order, c.cmd.kind) }) s
  let s := twinPre x t c.cmd (closesDue s x c.cmd) (busCmd x t c.cmd (overtakes s x c) (c.serves = .maint 3) s)
  match c.serves with
  | .maint h => serveMaint x t h c.cmd s
  | _ => serveHost x t c s

/-! ### SCHEDULER_ISSUE (R197) -/

/-- Commands that a gate holds in this cc are counted once (08, REF counters). (DEDUCED, log 15) -/
def countGated (x : Sc) (t0 : Nat) (l : List Cand) (s : State) : State :=
  forAll l (fun c s =>
    let k := (c.order, c.cmd.kind)
    if candGated s x t0 c && !(s.sched.get x).gated.contains k then
      bump (rRef x 4) (updSched x (fun q => { q with gated := q.gated ++ [k] }) s)
    else s) s

/-- The first line command of each requester but the ledger's. -/
def mntHeads (q : Sched) : List Want :=
  ((fins 7).filter fun h => h ≠ 3).filterMap fun h =>
    ((q.maint.get h).head?).bind fun m => m.op.line?.map fun p => ⟨p.1, p.2, m.stamp.getD 0, .maint h, false, m.aged⟩

/-- ACTs that R245 or R246 holds, of host entries and of the requesters: they are counted and their counters fetched.
(DEDUCED, log 15) -/
def noteHolds (x : Sc) (s : State) : State :=
  if s.glb.ctl = .bindOff then s
  else
    let q := s.sched.get x
    forAll ((if hostOk s then hostWants q else []) ++ mntHeads q) (fun w s =>
      match nextCmd s x w with
      | some c => if c.kind = .act then noteHeld x c s else s
      | none => s) s

/-- The first work of the holder is offered at the maintenance input: it takes its age stamp (R185), the write entries
that it waits for are those present now (R223), and a Gliog request is charged if its partition is eligible, else it is not
offered (R282, R283). -/
def offerHead (x : Sc) (s : State) : State :=
  match holderWork (s.sched.get x) with
  | none => s
  | some (h, m) =>
    if m.stamp.isSome || m.label.any (fun p => !glgEligible s p.toNat x) then s
    else
      let q := s.sched.get x
      let after := match m.op with
        | .lineWrite l _ _ false => (q.wq.filter fun e => e.lla = l && !e.issued).map WrEnt.id
        | _ => []
      let now := ccNow s x
      let s := updMaint x h (fun l => l.modify 0 fun m => { m with stamp := some now, after := after }) s
      match m.label with
      | some p => glgCharge p.toNat x s
      | none => s

/-- One choice of the cc. (DEDUCED, log 14) -/
def issueOne (x : Sc) (t0 : Nat) (s : State) : State :=
  match bestCand ((cands s x t0).filter (ready s x t0)) with
  | some c => issue x t0 c s
  | none => s

/-- The next command of a replay sequence: what the bank needs, then the command itself (R210). -/
def replayCmd (s : State) (x : Sc) (e : Cmd) : Cmd :=
  let q := s.sched.get x
  let c := logCmd s x e
  if c.kind = .rd || c.kind = .wr then
    match openRow q c.bank with
    | none => { c with kind := .act, col := 0, ap := false }
    | some o => if o.row = c.row then e else o.pre
  else if c.kind = .act then
    match openRow q c.bank with
    | none => e
    | some o => if o.row = c.row then e else o.pre
  else e

/-- Two column commands to the same column. -/
def Cmd.sameCol (a b : Cmd) : Bool :=
  a.kind = b.kind && a.cs = b.cs && a.lr = b.lr && a.bg = b.bg && a.ba = b.ba && a.row = b.row && a.col = b.col

/-- A replayed write carries the line of its record again, and its record starts anew (R207, R210). Of several records
of the line, those that `later` replayed writes of it follow are the younger ones. -/
def replayWrite (x : Sc) (t : Nat) (c : Cmd) (later : List Cmd) (s : State) : State :=
  let mine := (s.sched.get x).lines.zipIdx.filter fun e => e.1.cmd.sameCol c
  match mine[mine.length - 1 - later.countP fun d => d.sameCol c]? with
  | none => s
  | some (w, i) =>
    emit (.burst x (t + tim s pCwl) (encodeLine w.lla w.data w.poison))
      (updSched x (fun q => { q with lines := q.lines.modify i fun v => { v with ck := t } }) s)

/-- A replayed read whose data the alert lost is awaited again (R209, R211). -/
def replayRead (x : Sc) (t : Nat) (c : Cmd) (s : State) : State :=
  match (s.sched.get x).lost.find? fun r => (cmdFor s .rd r.lla).bank = c.bank && (cmdFor s .rd r.lla).row = c.row
      && (cmdFor s .rd r.lla).col = c.col with
  | none => s
  | some r => updSched x (fun q => { q with lost := q.lost.filter (· ≠ r), pipe := q.pipe ++ [{ r with ck := t }] }) s

/-- The bank addresses that the set of a unit still has to refresh: those of a set that has begun (R228). -/
def setLeft (s : State) (x : Sc) (u : Nat) : List (Fin 4) :=
  match ((s.sched.get x).maint.get 0).find? (MntCmd.isSet u) with
  | some m => match m.op with
    | .refSet _ l => if l.isEmpty then fins 4 else l
    | _ => fins 4
  | none => fins 4

/-- Step 2 of R210: the sets of units in the emergency state when the replay reaches it (R225). -/
def replayRefresh (s : State) (x : Sc) : List Cmd :=
  if s.glb.ctl = .bindOff then []
  else ((unitsOn s x).filter fun u => (refUnit s x u).emergency).flatMap fun u =>
    if refMode s = 2 then (setLeft s x u).map fun b => unitCmd s .refSb u b.val else [unitCmd s .refAb u 0]

/-- A refresh command of step 2 counts in the calendar (R210, R231); a replayed one counted when it was first issued. -/
def replaySet (x : Sc) (c : Cmd) (s : State) : State :=
  let u := c.unit s
  let left := if c.kind = .refAb then [] else (setLeft s x u).filter fun b => b.val ≠ c.ba.toNat
  let s := updMaint x 0 (fun l => l.filter fun m => !m.isSet u) s
  if left.isEmpty then setIssued x u s
  else updMaint x 0 (fun l => { op := .refSet u left, stamp := none, aged := false, after := [], label := none } :: l) s

/-- The sequence at its next step with a command, or at its end (R210). Step 2 is passed once no unit is in the emergency
state (R225). -/
def seqNext (s : State) (x : Sc) (r : ReplaySeq) : ReplaySeq :=
  if !r.todo.isEmpty || r.step = 3 then r
  else
    let two := replayRefresh s x
    if two.isEmpty then ⟨3, r.body, r.body⟩ else ⟨2, two, r.body⟩

/-- One command of the replay sequence. An ACT whose row is already open again is left out; a write waits for codes that
walk back (R315). -/
def replayOne (x : Sc) (t0 : Nat) (s : State) : State :=
  let q := s.sched.get x
  match q.replay with
  | .running r =>
    let r := seqNext s x r
    match r.todo with
    | [] => updSched x (fun q => { q with replay := .running r }) s
    | c :: rest =>
      let s := updSched x (fun q => { q with replay := .running r }) s
      let next (s : State) : State := updSched x (fun q => { q with replay := .running { r with todo := rest } }) s
      if c.kind = .act && (openRow q (logCmd s x c).bank).any (fun o => o.row = c.row) then next s
      else if c.kind = .wr && codesWalk s x then s
      else
        let d := replayCmd s x c
        let t := earliest s x t0 d
        if t0 + 4 ≤ t then s
        else
          let s := twinPre x t d (closesDue s x d) (busCmd x t d false false s)
          if d = c then
            match c.kind with
            | .wr => replayWrite x t c rest (next s)
            | .rd => replayRead x t c (next s)
            | .refAb | .refSb => onlyIf (r.step = 2) (replaySet x c) (next s)
            | _ => next s
          else s
  | _ => s

/-- Line records leave the replay buffer (R207). -/
def dropLines (x : Sc) (t0 : Nat) (s : State) : State :=
  let win := replayWin s x
  updSched x (fun q => { q with lines := q.lines.filter fun w => !w.done || decide (t0 ≤ w.ck + win) }) s

/-- Counters of a requester: grants, waits, longest (07, MNT registers). -/
def rMnt (x : Sc) (q : Fin 7) (i : Nat) : Nat := 0xD100 + 0x100 * x.val + 0x10 * q.val + 4 * i

/-- A wait episode ends (R224). -/
def endWait (x : Sc) (q : Fin 7) (s : State) : State :=
  match (s.sched.get x).waitFrom.get q with
  | none => s
  | some t =>
    let ac := 2 * rateOf s s.glb.gear
    let n := if ac = 0 then 0 else (ccNow s x - t + ac - 1) / ac
    let s := bump (rMnt x q 1) (updSched x (fun z => { z with waitFrom := vset z.waitFrom q none }) s)
    regSet (rMnt x q 2) (BitVec.ofNat 32 (max (sat 0xFFFFFFFF n) (regGet s (rMnt x q 2)).toNat)) s

/-- Mask or unmask every requester of a sub-channel (R219); a wait episode ends at the mask (R224). -/
def setMask (x : Sc) (on : Bool) (s : State) : State :=
  let s := onlyIf on (forAll (fins 7) (endWait x)) s
  updSched x (fun z => { z with maskVec := if on then BitVec.allOnes 7 else 0, holder := if on then none else z.holder }) s

/-! ### Power-down (R482, R219) -/

/-- Commands to every chip select of a sub-channel that is online, each at its earliest ck. -/
def toRanks (x : Sc) (k : CmdKind) (lrs : Bool) (s : State) (arg : CmdArg := .none) : State :=
  forAll ((List.range (nCs s)).filter fun c => csLive s (chOf x) c) (fun c s =>
    forAll (List.range (if lrs then nLr s else 1)) (fun l s =>
      let d : Cmd := { kind := k, cs := BitVec.ofNat 2 c, lr := BitVec.ofNat 4 l, bg := 0, ba := 0, row := 0, col := 0
                       ap := false, arg := arg }
      busCmd x (earliest s x (ckNow s x) d) d false false s) s) s

/-- Exit from power-down: the requesters are unmasked. (DEDUCED, log 45) -/
def powerUp (x : Sc) (s : State) : State :=
  if s.pwr.sc.get x = .powerDown then
    setMask x false (updPwr (fun p => { p with sc := vset p.sc x .active }) (toRanks x .pdx false s))
  else s

/-- A command becomes ready to issue in POWER_DOWN (R482): entries and maintenance work that have not been
issued. -/
def pdWork (s : State) (x : Sc) : Bool :=
  let q := s.sched.get x
  !(hostWants q).isEmpty || q.maint.toList.any fun l => !l.isEmpty

/-- POWER_DOWN ends: work is ready and no alert holds it back, or a replay runs (R210, R482). -/
def pdEnds (s : State) (x : Sc) : Bool :=
  chLive s (chOf x) && s.glb.coreRun && match (s.sched.get x).replay with
    | .none => pdWork s x && replayFree s x
    | .running _ => true
    | _ => false

/-- One cc of the scheduler of a sub-channel. (DEDUCED, log 14) -/
def schedulerCc (x : Sc) (s : State) : State :=
  let s := onlyIf (pdEnds s x) (powerUp x) (codesGoOn x s)
  if !busOn s x then s
  else
    let t0 := max ((s.sched.get x).ck + 4) (4 * s.glb.cc)
    let s := onlyIf (replayFree s x) (dropLines x t0) (updSched x (fun q => { q with ck := t0 }) s)
    match (s.sched.get x).replay with
    | .none =>
      if !replayFree s x then s
      else
        let s := noteHolds x (modeUpdate x (ageAll x (t0 / 4) (offerHead x s)))
        let s := countGated x t0 (cands s x t0) s
        issueOne x t0 (offerHead x (issueOne x t0 s))
    | _ => replayOne x t0 (replayOne x t0 s)

/-! ### WRITE_BURST_DONE (R12, R188) -/

/-- The oldest burst of the sub-channel that is still on the bus completes: a write-queue entry is
released to its line record, and its request is written to DRAM. -/
def writeBurstDone (x : Sc) (s : State) : State :=
  match (s.sched.get x).lines.find? fun w => !w.done with
  | none => s
  | some w =>
    let mark (v : WrTag) : WrTag := if v = w then { v with done := true } else v
    let s := updSched x (fun q => { q with lines := q.lines.map mark }) s
    match w.src with
    | .entry id => writtenToDram id (updSched x (fun q => { q with wq := q.wq.filter fun e => e.id ≠ id }) s)
    | _ => s

def execWriteBurstDone (sc : Sc) (s : State) : Res := run (writeBurstDone sc) s

end Sys2Proof.Machine
end

