-- ==== Sys2Proof/Machine/Arb.lean ====
section
/-! DEFINITION. The maintenance arbiter (07, R215 to R224): requests, grants, wait episodes, masks and
pre-emption. -/

namespace Sys2Proof.Machine

/-- Requester q is masked (R219); in BIND_OFF every one but refresh is (R494). -/
def masked (s : State) (x : Sc) (q : Fin 7) : Bool :=
  (s.sched.get x).maskVec.getLsbD q.val || (s.glb.ctl = .bindOff && q ≠ 0) || !chLive s (chOf x)

/-- The work cannot go on, and its requester withdraws the request, so that the one that ends the hold gets the input
(R217): the row counter, a due row or refresh management holds its ACT (R245, R246, R254), it waits for a host write or
for a region (R167, R222, R223), or its partition is not eligible (R21, R283). -/
def workHeld (s : State) (x : Sc) (q : Fin 7) (m : MntCmd) : Bool :=
  maintHeld s x m
    || (m.stamp.isNone && m.label.any fun p => !glgEligible s p.toNat x)
    || (match m.op.line? with
      | none => false
      | some (l, w) =>
        (openRow (s.sched.get x) (lineBank l)).isNone
          && actHeld s x { cmdFor s (if w then .wr else .rd) l with kind := .act, col := 0 } (q = 3))

/-- A swatch run may run here and now (R310). -/
def swatchState (s : State) (x : Sc) : Bool :=
  chLive s (chOf x) && (s.glb.ctl = .service || (s.glb.ctl = .quiesced && !s.qz.deep))

/-- A swatch run is under way, or one that is asked for may start (R310, R313). -/
def trainAsks (s : State) (x : Sc) : Bool :=
  let p := s.phy.sc.get x
  (swatchState s x && (p.seq = .swatch || (p.seq = .idle && (p.swReq || p.swWanted))))

/-- Requester q has a request present (R216). -/
def requesting (s : State) (x : Sc) (q : Fin 7) : Bool :=
  !masked s x q && match (((s.sched.get x).maint).get q).head? with
    | none => q = 2 && trainAsks s x
    | some m => !workHeld s x q m

/-- A wait episode begins, unless one runs. -/
def startWait (x : Sc) (q : Fin 7) (s : State) : State :=
  if ((s.sched.get x).waitFrom.get q).isSome then s
  else updSched x (fun z => { z with waitFrom := vset z.waitFrom q (some (ccNow s x)) }) s

/-- Grant the input to a requester (R216, R217). -/
def grant (x : Sc) (q : Fin 7) (s : State) : State :=
  let s := bump (rMnt x q 0) (endWait x q s)
  updSched x (fun z => { z with holder := some q, burst := 0, limit := regFld s (0xD000 + 4 * q.val) 15 0 }) s

/-- Refresh in the emergency state takes the input from its holder (R218). -/
def preempt (x : Sc) (s : State) : State :=
  match (s.sched.get x).holder with
  | none => s
  | some h =>
    if h ≠ 0 && emergency s x && requesting s x 0 then
      grant x 0 (startWait x h (bump (0xD060 + 4 * x.val) s))
    else s

/-- The holder keeps its grant: its request is present and its limit is not reached (R217). -/
def keeps (s : State) (x : Sc) : Bool :=
  match (s.sched.get x).holder with
  | none => false
  | some h => requesting s x h && underLimit (s.sched.get x)

/-- The highest-ranked request present, an expired holder left out if another requests (R216, R217). -/
def nextHolder (s : State) (x : Sc) : Option (Fin 7) :=
  let q := s.sched.get x
  let l := (fins 7).filter (requesting s x)
  let exp := q.holder.filter fun _ => !underLimit q
  match l.filter fun h => some h ≠ exp with
  | h :: _ => some h
  | [] => l.head?

/-- Wait episodes begin and end with the requests (R224). -/
def waits (x : Sc) (s : State) : State :=
  forAll (fins 7) (fun q s =>
    if requesting s x q then (if (s.sched.get x).holder = some q then s else startWait x q s) else endWait x q s) s

/-- The arbitration of one cc, once the requesters have made their requests. -/
def arbitrate (x : Sc) (s : State) : State :=
  let s := preempt x s
  let s :=
    if keeps s x then s
    else
      match nextHolder s x with
      | some h => grant x h s
      | none => updSched x (fun z => { z with holder := none }) s
  offerHead x (waits x s)

end Sys2Proof.Machine
end

