-- ==== Sys2Proof/Machine/Image.lean ====
section
/-! DEFINITION. The configuration image as bytes, its header, its section table and the fields that
the controller reads from it after verification (13, R413 to R428). -/

namespace Sys2Proof.Machine

/-- An image: its words in order. -/
abbrev Image := List Word

/-- Byte a of an image (R414). -/
def ib (m : Image) (a : Nat) : Nat := (m.getD (a / 4) 0).toNat / 2 ^ (8 * (a % 4)) % 256
def i16 (m : Image) (a : Nat) : Nat := ib m a + 256 * ib m (a + 1)
def i32 (m : Image) (a : Nat) : Nat := i16 m a + 2 ^ 16 * i16 m (a + 2)
def i64 (m : Image) (a : Nat) : Nat := i32 m a + 2 ^ 32 * i32 m (a + 4)

/-- n bytes from a on. -/
def iBytes (m : Image) (a n : Nat) : List Byte := (List.range n).map fun i => BitVec.ofNat 8 (ib m (a + i))

/-! ### Header (R415) -/

def hdrLength (m : Image) : Nat := i32 m 0x08
def hdrRevision (m : Image) : Nat := i32 m 0x0C
def hdrStep (m : Image) : Nat := i16 m 0x0E
def hdrInvFp (m : Image) : Nat := i64 m 0x10
def hdrFullFp (m : Image) : Nat := i64 m 0x18
def hdrProto (m : Image) : Nat := ib m 0x20
def hdrProtoMin (m : Image) : Nat := ib m 0x21
def hdrCount (m : Image) : Nat := i16 m 0x22

/-! ### Section table (R416) -/

/-- An entry of the section table. -/
structure Sec where
  id : Nat
  cls : Nat
  zero : Nat
  off : Nat
  len : Nat
  crc : Nat
  deriving DecidableEq, Repr

/-- Entry i of the section table. -/
def secAt (m : Image) (i : Nat) : Sec :=
  let o := 0x40 + 16 * i
  ⟨i16 m o, ib m (o + 2), ib m (o + 3), i32 m (o + 4), i32 m (o + 8), i32 m (o + 12)⟩

def secs (m : Image) : List Sec := (List.range (hdrCount m)).map (secAt m)
def sec? (m : Image) (id : Nat) : Option Sec := (secs m).find? fun x => x.id = id

/-- The offset of a section's body; 0 and length 0 where it is absent. -/
def secOff (m : Image) (id : Nat) : Nat := ((sec? m id).map Sec.off).getD 0
def secLen (m : Image) (id : Nat) : Nat := ((sec? m id).map Sec.len).getD 0
def hasSec (m : Image) (id : Nat) : Bool := (sec? m id).isSome

def sDomain : Nat := 0x01
def sProfiles : Nat := 0x02
def sMap : Nat := 0x03
def sMirror : Nat := 0x04
def sGears : Nat := 0x10
def sPolicy : Nat := 0x11
def sLoadsRestart : Nat := 0x12
def sTraining : Nat := 0x18
def sLoadsLive : Nat := 0x19
def sPartitions : Nat := 0x1A
def sRepair : Nat := 0x20
def sLifeline : Nat := 0x21

/-- The class of a section ID (R418). -/
def secClass (id : Nat) : Option Nat :=
  if id ∈ [1, 2, 3, 4] then some 0
  else if id ∈ [0x10, 0x11, 0x12] then some 1
  else if id ∈ [0x18, 0x19, 0x1A] then some 2
  else if id ∈ [0x20, 0x21] then some 3
  else none

/-- The mandatory sections (R418). -/
def mandatory : List Nat := [sDomain, sProfiles, sMap, sGears, sPolicy, sTraining]

/-- The section image (13, "Fingerprints"). -/
def secImage (m : Image) (x : Sec) : List Byte :=
  [BitVec.ofNat 8 x.id, BitVec.ofNat 8 (x.id / 256), BitVec.ofNat 8 x.cls, 0]
    ++ wordBytes (BitVec.ofNat 32 x.len) ++ iBytes m x.off x.len

/-- The invariant and the full fingerprint (R417). -/
def invFp (m : Image) : Nat :=
  crc crc64xz (iBytes m 0x21 1 ++ ((secs m).filter fun x => x.cls = 0).flatMap (secImage m))
def fullFp (m : Image) : Nat :=
  crc crc64xz (iBytes m 0x0C 4 ++ iBytes m 0x20 2 ++ ((secs m).filter fun x => x.cls ≠ 3).flatMap (secImage m))

/-- The tag of a fingerprint (13). -/
def fpTag (f : Nat) : Word := BitVec.ofNat 32 (f / 2 ^ 32) ^^^ BitVec.ofNat 32 f

/-! ### DOMAIN (R419) -/

def isMember (m : Image) (i : Nat) : Bool := decide (i < 1024) && (ib m (secOff m sDomain + i / 8)).testBit (i % 8)
def members (m : Image) : List Nat := (List.range 1024).filter (isMember m)
def domMsgBase (m : Image) : Nat := i64 m (secOff m sDomain + 0x80)
def domPeriod (m : Image) : Nat := i16 m (secOff m sDomain + 0x88)
def domHop (m : Image) : Nat := i16 m (secOff m sDomain + 0x8A)

/-- The rank of a member and its four successors; its own ID in the entries left over (13, "Census"). -/
def domRank (m : Image) (own : Nat) : Nat := ((members m).filter fun i => decide (i < own)).length
def domSucc (m : Image) (own : Nat) : List Nat :=
  let ring := ((members m).filter fun i => decide (own < i)) ++ ((members m).filter fun i => decide (i < own))
  (List.range 4).map fun j => ring.getD j own

/-! ### PROFILES (R420) -/

/-- A profile. -/
structure Profile where
  channels : Nat
  width : Nat
  density : Nat
  is3ds : Bool
  csLog : Nat
  lrLog : Nat
  dimms : Nat
  pkgRanks : Nat
  spare : Nat
  capacity : Nat
  hash : List Nat
  deriving DecidableEq, Repr

def profCount (m : Image) : Nat := ib m (secOff m sProfiles)
/-- The profile index of a controller. -/
def profIndex (m : Image) (i : Nat) : Nat := ib m (secOff m sProfiles + 4 + i)
def profOff (m : Image) (p : Nat) : Nat := secOff m sProfiles + 0x404 + 0x40 * p

def profileAt (m : Image) (p : Nat) : Profile :=
  let o := profOff m p
  let g := ib m (o + 3)
  { channels := ib m o % 4, width := ib m (o + 1), density := ib m (o + 2), is3ds := g.testBit 7
    csLog := g / 16 % 4, lrLog := g % 8, dimms := ib m (o + 4), pkgRanks := ib m (o + 5), spare := ib m (o + 6)
    capacity := i16 m (o + 8), hash := (List.range 6).map fun t => i32 m (o + 0x0C + 4 * t) }

/-- The profile of a controller. -/
def profileOf (m : Image) (i : Nat) : Profile := profileAt m (profIndex m i)

/-- DRAM rows of a density and LLA rows of a profile (06). -/
def densityRows (d : Nat) : Nat := ([65536, 98304, 131072, 262144] : List Nat).getD d 0
def Profile.rows (p : Profile) : Nat := if p.width = 8 then densityRows p.density / 2 else densityRows p.density
/-- Configured channels and dense capacity in lines: units times usable rows times lines of a row. -/
def Profile.chans (p : Profile) : Nat := p.channels % 2 + p.channels / 2
def Profile.dcap (p : Profile) : Nat := 2 * p.chans * 2 ^ p.csLog * 2 ^ p.lrLog * (p.rows - 192) * 4096
/-- The spare chip select of a channel; none for 0xF. -/
def Profile.spareCs (p : Profile) (c : Nat) : Option Nat :=
  let v := p.spare / 16 ^ c % 16
  if v = 0xF then none else some v

/-! ### MAP (R421) and MIRROR (R422) -/

/-- An entry of the MAP section. -/
structure MapEnt where
  base : Nat
  limit : Nat
  lbase : Nat
  k : Nat
  x3 : Bool
  g : Nat
  mirror : Bool
  first : Nat
  stride : Nat
  deriving DecidableEq, Repr

def mapCount (m : Image) : Nat := i16 m (secOff m sMap)
def mapOff (m : Image) (e : Nat) : Nat := secOff m sMap + 4 + 48 * e
def mapAt (m : Image) (e : Nat) : MapEnt :=
  let o := mapOff m e
  { base := i64 m o, limit := i64 m (o + 8), lbase := i64 m (o + 0x10), k := ib m (o + 0x18)
    x3 := ib m (o + 0x19) = 1, g := ib m (o + 0x1A), mirror := (ib m (o + 0x1B)).testBit 0
    first := i16 m (o + 0x1C), stride := i16 m (o + 0x1E) }
def mapEnts (m : Image) : List MapEnt := (List.range (mapCount m)).map (mapAt m)
def MapEnt.ways (e : MapEnt) : Nat := (if e.x3 then 3 else 1) * 2 ^ e.k
/-- The controller named at a way (R421). -/
def MapEnt.ctl (e : MapEnt) (w : Nat) : Nat := e.first + w * e.stride

/-- A pair: controller A, controller B, A is the configured primary. -/
def pairAt (m : Image) (i : Nat) : Nat × Nat × Bool :=
  let w := i32 m (secOff m sMirror + 4 + 4 * i)
  (w % 1024, w / 2 ^ 16 % 1024, w.testBit 31)
def pairCount (m : Image) : Nat := if hasSec m sMirror then i16 m (secOff m sMirror) else 0
def pairs (m : Image) : List (Nat × Nat × Bool) := (List.range (pairCount m)).map (pairAt m)

/-- The pair of a controller: its peer and whether it is the configured primary (R379). -/
def pairOf (m : Image) (own : Nat) : Option (Nat × Bool) :=
  (pairs m).findSome? fun p =>
    if p.1 = own then some (p.2.1, p.2.2) else if p.2.1 = own then some (p.1, !p.2.2) else none

/-- The way at which a controller, or in a mirrored entry its pair, is listed (R421). -/
def MapEnt.wayOf (m : Image) (e : MapEnt) (own : Nat) : Option Nat :=
  (List.range e.ways).find? fun w =>
    e.ctl w = own || (e.mirror && (pairOf m own).any fun p => p.1 = e.ctl w)

/-- The windows of a controller: the entries it serves in list order, with their ways (R421). -/
def windowsOf (m : Image) (own : Nat) : List (MapEnt × Nat) :=
  (mapEnts m).filterMap fun e => (e.wayOf m own).map fun w => (e, w)

/-! ### GEARS (R423), POLICY (R424), TRAINING (R425) -/

def gearMask (m : Image) : Nat := ib m (secOff m sGears) % 16
def bootGear (m : Image) : Nat := ib m (secOff m sGears + 1)
def gearList (m : Image) : List Nat := (List.range 4).filter fun g => (gearMask m).testBit g
/-- The offset of the record of the i-th defined gear. -/
def gearOff (m : Image) (i : Nat) : Nat := secOff m sGears + 4 + 100 * i
/-- The record of gear g: rate and the 47 parameters. -/
def gearRec (m : Image) (g : Nat) : Option (Nat × List Nat) :=
  ((gearList m).zipIdx.find? fun x => x.1 = g).map fun x =>
    (ib m (gearOff m x.2 + 1), (List.range 47).map fun i => i16 m (gearOff m x.2 + 4 + 2 * i))

/-- A byte of the POLICY body, and a timeout field with its default. -/
def polByte (m : Image) (a : Nat) : Nat := ib m (secOff m sPolicy + a)
def polTime (m : Image) (a d : Nat) : Nat := let v := i16 m (secOff m sPolicy + a); if v = 0 then d else v
/-- Population policy and training policy DEGRADE; early service enabled. -/
def popDegrade (m : Image) : Bool := polByte m 0 = 1
def trainDegrade (m : Image) : Bool := polByte m 1 = 1
def earlyService (m : Image) : Bool := polByte m 2 = 1

/-- The programs: gear and step codes, in order; each with its offset (R425). -/
def programsFrom (m : Image) (o : Nat) : Nat → List (Nat × List Nat × Nat)
  | 0 => []
  | n + 1 =>
    let k := ib m (o + 1)
    (ib m o, (List.range k).map (fun i => ib m (o + 4 + 4 * i)), o) :: programsFrom m (o + 4 + 4 * k) n
def programs (m : Image) : List (Nat × List Nat × Nat) :=
  programsFrom m (secOff m sTraining + 4) (ib m (secOff m sTraining + 1))
/-- The step codes of a gear's program. -/
def program (m : Image) (g : Nat) : List Nat := (((programs m).find? fun p => p.1 = g).map fun p => p.2.1).getD []
def abortOnReload (m : Image) : Bool := (ib m (secOff m sTraining)).testBit 0

/-! ### LOADS (R426), PARTITIONS (R427), REPAIR and LIFELINE (R428) -/

/-- The records of a LOADS body: profile, target offset, value, image offset. -/
def loadsOf (m : Image) (id : Nat) : List (Nat × Nat × Word × Nat) :=
  if hasSec m id then
    (List.range (i32 m (secOff m id))).map fun i =>
      let o := secOff m id + 4 + 8 * i
      (ib m (o + 3), i32 m o % 2 ^ 18, BitVec.ofNat 32 (i32 m (o + 4)), o)
  else []

/-- The records that apply to a controller's profile. -/
def loadsFor (m : Image) (own id : Nat) : List (Nat × Word) :=
  ((loadsOf m id).filter fun r => r.1 = 0xFF || r.1 = profIndex m own).map fun r => (r.2.1, r.2.2.1)

/-- The entries of the PARTITIONS body: label, words 0 to 7, image offset. -/
def partEnts (m : Image) : List (Nat × Vector Word 8 × Nat) :=
  if hasSec m sPartitions then
    (List.range (i16 m (secOff m sPartitions))).map fun i =>
      let o := secOff m sPartitions + 4 + 36 * i
      (i16 m o, Vector.ofFn fun k => BitVec.ofNat 32 (i32 m (o + 4 + 4 * k.val)), o)
  else []

/-- The repair entries of a controller, each with its offset in the image. -/
def repairsAt (m : Image) (own : Nat) : List ((Word × Word) × Nat) :=
  if hasSec m sRepair then
    ((List.range (i32 m (secOff m sRepair))).filter fun i => i32 m (secOff m sRepair + 4 + 12 * i) % 1024 = own).map fun i =>
      let o := secOff m sRepair + 4 + 12 * i
      ((BitVec.ofNat 32 (i32 m (o + 4)), BitVec.ofNat 32 (i32 m (o + 8))), o)
  else []
def repairFor (m : Image) (own : Nat) : List (Word × Word) := (repairsAt m own).map Prod.fst

/-- The Lifeline records of a controller: 272 words each. -/
def lifelinesFor (m : Image) (own : Nat) : List (List Word) :=
  if hasSec m sLifeline then
    ((List.range (i32 m (secOff m sLifeline))).filter fun i =>
        i32 m (secOff m sLifeline + 4 + 1092 * i) % 1024 = own).map fun i =>
      (List.range 272).map fun k => BitVec.ofNat 32 (i32 m (secOff m sLifeline + 4 + 1092 * i + 4 + 4 * k))
  else []

/-- The running image. -/
def image (s : State) : Image := s.img.words

end Sys2Proof.Machine
end

