-- ==== Sys2Proof/Machine/Phy.lean ====
section
/-! DEFINITION. The PHY (10): records, judgement, scouts and role exchange, swatch runs, oscillator tracking, and the
copies of the Lifeline. -/

namespace Sys2Proof.Machine

def rPhyCtl : Nat := 0x20000
def rPhyStatus : Nat := 0x20034

/-- Boot codes of a lane at the active gear (R303). -/
def bootKey (g : Gear) (x : Sc) (i : Nat) : Nat := (4 * g.val + x.val) * 40 + i
def bootOf (s : State) (x : Sc) (i : Nat) : Code × Code := kget (0, 0) s.phy.boot (bootKey s.glb.gear x i)

/-- A counter of a group that saturates. -/
def satInc (w : Word) : Word := BitVec.ofNat 32 (sat 0xFFFFFFFF (w.toNat + 1))

/-! ### The Lifeline (R325 to R328) -/

/-- The words of a lane. -/
def laneWords (p : PhySc) (i : Nat) (a : Lane) : List Word :=
  let wr := ((p.groups.toList.getD (i / 4) Group.reset).wrAlign).toNat
  [pack [(a.tx.toNat, 16), (a.liveCode.toNat, 0)], pack [(wr, 26), (a.liveVref.toNat, 0)]]

/-- The 132 words of a sub-channel. -/
def scWords (p : PhySc) (dev : List Word) : List Word :=
  let al (g : Nat) : Nat := ((p.groups.toList.getD g Group.reset).rdAlign).toNat
  [pack [(p.caPhase.toNat, 0), (al 8, 8), (al 9, 12)]]
  ++ (p.lanes.toList.zipIdx.flatMap fun e => laneWords p e.2 e.1)
  ++ (p.groups.toList.map fun g => pack [(g.txs.toNat, 16), (g.gate.toNat, 0)])
  ++ ((List.range 40).map fun i => dev.getD i 0)
  ++ [pack ((List.range 8).map fun g => (al g, 4 * g))]

/-- The device words of a sub-channel (0 or 1) in a record. -/
def devWords (r : List Word) (a : Nat) : List Word := (r.drop (99 + 132 * a)).take 40

/-- The SPD serial number of a slot, or 0. -/
def serialOf (s : State) (slot : Nat) : Word :=
  ((s.glb.slot.toList.getD slot Slot.reset).spd.map SpdInfo.serial).getD 0

/-- The record of a channel at a gear with the present codes and the given device words (R327). -/
def llBuild (s : State) (c : Ch) (g : Gear) (devA devB : List Word) : List Word :=
  let head : List Word := [pack [(1, 16), (c.val, 8), (g.val, 6)], BitVec.ofNat 32 (rateOf s g),
    s.glb.fuses.getD 0x27F 0, serialOf s (2 * c.val), serialOf s (2 * c.val + 1), BitVec.ofNat 32 s.glb.now]
  let mine (l : List Word) : List Word := (List.range 40).map fun i => if i % 10 < devCount (isX8 s) then l.getD i 0 else 0
  let body := scWords (s.phy.sc.get (scA c)) (mine devA) ++ scWords (s.phy.sc.get (scB c)) (mine devB)
  let r := head ++ [0, 0] ++ body
  head ++ [llCrc r, 0] ++ body

/-- The Lifeline of a channel at a gear takes the codes and the device words that training left on its two sub-channels
(R325). -/
def llWrite (c : Ch) (g : Gear) (s : State) : State :=
  let dev (x : Sc) : List Word := (s.glb.train.get x).devs
  { s with phy := { s.phy with
      lifeline := kset s.phy.lifeline (llKey c g) (llBuild s c g (dev (scA c)) (dev (scB c)))
      llChanged := vset s.phy.llChanged (llKey c g) true } }

/-- A field of a word as a code. -/
def codeAt (w : Word) (lo : Nat) : Code := BitVec.ofNat 14 (fld w (lo + 13) lo)

/-- The codes that a record gives a sub-channel (0 or 1): both samplers of a lane take the live codes
(R299, R330). -/
def llApply (r : List Word) (a : Nat) (p : PhySc) : PhySc :=
  let w (i : Nat) : Word := r.getD (8 + 132 * a + i) 0
  { p with
    caPhase := BitVec.ofNat 3 (fld (w 0) 2 0)
    lanes := (fins 40).foldl (fun v i => vmod v i fun l =>
      let x := w (1 + 2 * i.val)
      let y := w (2 + 2 * i.val)
      { l with tx := codeAt x 16, txTo := codeAt x 16, codeA := codeAt x 0, codeB := codeAt x 0, vrefA := codeAt y 0, vrefB := codeAt y 0 }) p.lanes
    groups := (fins 10).foldl (fun v g => vmod v g fun q =>
      let x := w (81 + g.val)
      let al := if g.val < 8 then fld (w 131) (4 * g.val + 3) (4 * g.val) else fld (w 0) (4 * g.val - 21) (4 * g.val - 24)
      { q with txs := codeAt x 16, gate := codeAt x 0, gateTo := codeAt x 0, rdAlign := BitVec.ofNat 4 al
               wrAlign := BitVec.ofNat 4 (fld (w (2 + 8 * g.val)) 29 26) }) p.groups }

/-- The 17 lines of the record of a gear in the copy of a channel (R326). -/
def llLines (s : State) (c : Ch) (g : Gear) : List (Lla × Line) :=
  let r := llRecord s c g
  (List.range 17).map fun i => (sysLine s c (2049 + 17 * g.val + i), lineOfWords ((r.drop (16 * i)).take 16))

/-- LIFELINE_SAVE: the record of the active gear goes to the copy in DRAM through the training requester,
if it has changed since its last save (R326). -/
def lifelineSave (c : Ch) (s : State) : State :=
  let x := scA c
  if swatchState s x && s.phy.llChanged.get (llKey c s.glb.gear) then
    let s := { s with phy := { s.phy with llChanged := vset s.phy.llChanged (llKey c s.glb.gear) false } }
    forAll (llLines s c s.glb.gear) (fun e s => mntAdd x 2 (.lineWrite e.1 e.2 false false) s) s
  else s

def execLifelineSave (ch : Ch) (s : State) : Res := run (lifelineSave ch) s

/-- The snapshot of R328. -/
def llSelect (w : Word) (s : State) : State :=
  let r := llRecord s (chN (fld w 2 2)) ⟨fld w 1 0 % 4, Nat.mod_lt _ (by decide)⟩
  regSet 0x20044 0 (regSet 0x20040 (w &&& 7) { s with phy := { s.phy with llBuf := r } })

/-- A read of PHY_LL_DATA (R51, R328). -/
def llRead (s : State) : State :=
  let i := regFld s 0x20044 8 0
  if 272 ≤ i then respOk 0 s else regPut 0x20044 8 0 (i + 1) (respOk (s.phy.llBuf.getD i 0) s)

/-! ### Records (R334) -/

/-- One record per ms of a type and sub-channel while its enable bit is set; events are counted always. -/
def calib (key bit : Nat) (x : Sc) (f : Nat → State → State) (s : State) : State :=
  let k := key + x.val
  if regBit s rPhyCtl bit then limited k (ms 1) f s
  else
    let (last, n) := kget (none, 0) s.evt.lim k
    updEvt (fun e => { e with lim := kset e.lim k (last, n + 1) }) s

/-- CALIB_PROMOTE. -/
def promoteRecord (x : Sc) (g kind : Nat) (move vmove : Int) (width : Nat) (s : State) : State :=
  calib 0x350 8 x (fun n s => raise 0x10 0 3
    [pack [(x.val, 30), (g, 26), (kind, 24), (twos 16 move, 0)], pack [(twos 16 vmove, 16), (width % 2 ^ 16, 0)],
     BitVec.ofNat 32 (sat 0xFFFFFFFF n)] s) s

/-- CALIB_REJECT. The value of reason 1 is free: the manual names none (DESIGN CHOICE, log 3). -/
def rejectRecord (x : Sc) (g : GroupId) (kind reason lane : Nat) (value : Option Int) (s : State) : State :=
  let v := (value.map (twos 16)).getD (Config.free16 s.free).toNat
  let run := (strobeAt s x g).rejectRun.toNat
  nextFree (calib 0x358 9 x (fun n s => raise 0x11 0 3
    [pack [(x.val, 30), (g.val, 26), (kind, 24), (reason, 20), (lane, 18)], pack [(v, 16), (run, 0)],
     BitVec.ofNat 32 (sat 0xFFFFFFFF n)] s) s)

/-! ### Judgement (R303) -/

/-- What the judgement knows of a lane: its sweep, its moves and its distance from the boot code. -/
structure Eye where
  opened : Bool
  width : Nat
  height : Nat
  move : Int
  drift : Int
  vmove : Int
  deriving DecidableEq, Repr

/-- The outcome of the judgement. -/
inductive Verdict where
  | reject (reason lane : Nat) (value : Option Int)
  | settled
  | accept
  deriving DecidableEq, Repr

/-- The parameters of R303 (PHY_SCOUT_CFG1 to PHY_SCOUT_CFG3). -/
def minMove (c : Vector Word 4) : Nat := fld (c)[1] 31 24
def minVmove (c : Vector Word 4) : Nat := fld (c)[1] 23 16
def maxSpread (c : Vector Word 4) : Nat := fld (c)[1] 15 8
def minWidth (c : Vector Word 4) : Nat := fld (c)[2] 31 16
def maxMove (c : Vector Word 4) : Nat := fld (c)[2] 15 0
def minHeight (c : Vector Word 4) : Nat := fld (c)[3] 31 16

/-- Largest and smallest of a list of moves. -/
def maxOf (l : List Int) : Int := l.foldl max (l.headD 0)
def minOf (l : List Int) : Int := l.foldl min (l.headD 0)
/-- The move of the largest size. -/
def largest (l : List Int) : Int := l.foldl (fun m v => if m.natAbs < v.natAbs then v else m) 0

/-- R303 in order: the first rule that applies decides. (DEDUCED, log 20) -/
def judge (c : Vector Word 4) (es : List Eye) : Verdict :=
  let first (f : Eye → Bool) : Option (Eye × Nat) := es.zipIdx.find? fun e => f e.1
  match first Eye.opened with
  | some (_, j) => .reject 1 j none
  | none =>
  match first fun e => decide (e.width < minWidth c ∨ e.height < minHeight c) with
  | some (e, j) => .reject 2 j (some (if e.width < minWidth c then (e.width : Int) else (e.height : Int)))
  | none =>
  match first fun e => decide (maxMove c < e.move.natAbs) with
  | some (e, j) => .reject 3 j (some e.move)
  | none =>
  match first fun e => decide (2048 < e.drift.natAbs) with
  | some (e, j) => .reject 4 j (some e.drift)
  | none =>
    let ms := es.map Eye.move
    let spread := maxOf ms - minOf ms
    if (maxSpread c : Int) < spread then .reject 5 0 (some spread)
    else if es.any fun e => decide (minMove c ≤ e.move.natAbs ∨ minVmove c ≤ e.vmove.natAbs) then .accept
    else .settled

/-- A reject is counted and recorded (R304). (DEDUCED, log 20) -/
def groupReject (x : Sc) (g : GroupId) (kind reason lane : Nat) (value : Option Int) (s : State) : State :=
  let s := updGroup x g (fun q => { q with
    rejects := satInc q.rejects
    rejectRun := BitVec.ofNat 16 (sat 0xFFFF (q.rejectRun.toNat + 1))
    reason := BitVec.ofNat 4 reason }) s
  let s := onlyIf (kind = 0) (sqSet rPhyStatus (pack [(1, 4 + x.val)])) s
  rejectRecord x g kind reason lane value s

/-- A settled group is counted. -/
def groupSettled (x : Sc) (g : GroupId) (s : State) : State :=
  updGroup x g (fun q => { q with settled := satInc q.settled, rejectRun := 0 }) s

/-! ### Scouts (R300 to R309) -/

/-- The scouts of a group stop: sweep, confirmation and exchange are abandoned without a reject. -/
def stopScouts (x : Sc) (g : GroupId) (s : State) : State :=
  let s := updGroup x g (fun q => { q with confirming := false, exchange := false, backoff := false }) s
  forAll (grpLanes g) (fun i s => updLane x i (fun a => { a with phase := .idle }) s) s

/-- Every group of a sub-channel stops. -/
def stopAll (x : Sc) (s : State) : State := forAll (fins 10) (stopScouts x) s

def sweepStep (c : Vector Word 4) : Int := if fld (c)[3] 3 0 = 0 then 16 else fld (c)[3] 3 0
def sweepVstep (c : Vector Word 4) : Int := 2 ^ fld (c)[3] 7 4
def sweepSpan (c : Vector Word 4) : Int := fld (c)[0] 9 0
def edgeErr (c : Vector Word 4) : Nat := fld (c)[0] 23 16

/-- The sweep of a lane ends at a failing c0 or v0 (R302). -/
def Lane.fail (a : Lane) : Lane := { a with phase := .idle, open_ := true }

/-- The sweep ends with its results. -/
def Lane.done (a : Lane) : Lane :=
  { a with phase := .idle, u := (a.top + a.bottom) / 2, width := (a.right - a.left).toNat, height := (a.top - a.bottom).toNat }

/-- The right walk has ended: the vertical walks begin at the middle. -/
def Lane.upFrom (a : Lane) : Lane :=
  let t := (a.left + a.right) / 2
  ({ a with t := t, phase := .up } : Lane).toPoint t a.liveVref.toNat

/-- One point of a lane's sweep with its disagreements (R302). -/
def sweepPoint (c : Vector Word 4) (n : Nat) (a : Lane) : Lane :=
  let c0 : Int := a.liveCode.toNat
  let v0 : Int := a.liveVref.toNat
  let pass := decide (n < edgeErr c)
  let d := sweepStep c
  let e := sweepVstep c
  let span := sweepSpan c
  match a.phase with
  | .left =>
    if pass && decide (c0 - a.c ≤ span) then a.toPoint (a.c - d) a.v
    else if !pass && a.c = c0 then a.fail
    else ({ a with left := a.c + d, open_ := a.open_ || pass, phase := .right } : Lane).toPoint c0 v0
  | .right =>
    if pass && decide (a.c - c0 ≤ span) then a.toPoint (a.c + d) a.v
    else if !pass && a.c = c0 then a.fail
    else ({ a with right := a.c - d, open_ := a.open_ || pass } : Lane).upFrom
  | .up =>
    if pass && decide (a.v - v0 ≤ 16 * span) then a.toPoint a.t (a.v + e)
    else if !pass && a.v = v0 then a.fail
    else ({ a with top := a.v - e, open_ := a.open_ || pass, phase := .down } : Lane).toPoint a.t v0
  | .down =>
    if pass && decide (v0 - a.v ≤ 16 * span) then a.toPoint a.t (a.v - e)
    else if !pass && a.v = v0 then a.fail
    else ({ a with bottom := a.v + e, open_ := a.open_ || pass } : Lane).done
  | _ => a

/-- What the sweep of a lane gives the judgement. -/
def scoutEye (s : State) (x : Sc) (i : Fin 40) : Eye :=
  let a := laneAt s x i
  { opened := a.open_, width := a.width, height := a.height, move := a.t - a.liveCode.toNat
    drift := a.t - (bootOf s x i.val).2.toNat, vmove := a.u - a.liveVref.toNat }

/-- Every lane of the group has finished: the judgement (R303 to R305). (DEDUCED, log 20) -/
def concludeSweep (x : Sc) (g : GroupId) (s : State) : State :=
  match judge (strobeAt s x g).cfg ((grpLanes g).map (scoutEye s x)) with
  | .reject r j v => newPoint x g (groupReject x g 0 r j v (updGroup x g (fun q => { q with backoff := true }) s))
  | .settled => startSweep x g (groupSettled x g s)
  | .accept =>
    let s := updGroup x g (fun q => { q with confirming := true }) s
    newPoint x g <| forAll (grpLanes g) (fun i s => updLane x i (fun a => ({ a with phase := .confirming } : Lane).toPoint a.t a.u) s) s

/-- A confirmation: one disagreement rejects the candidate, and it is confirmed after PHY_CONFIRM × 16 bursts
(R305). -/
def confirmDone (x : Sc) (g : GroupId) (s : State) : State :=
  match (grpLanes g).zipIdx.find? fun e => decide (0 < (laneAt s x e.1).dis) with
  | some (i, j) =>
    let n := (laneAt s x i).dis
    newPoint x g <| groupReject x g 0 6 j (some (sat 0xFFFF n : Nat))
      (updGroup x g (fun q => { q with backoff := true }) (stopScouts x g s))
  | none =>
    if 16 * fld ((strobeAt s x g).cfg)[1] 7 0 ≤ (strobeAt s x g).compared then
      updGroup x g (fun q => { q with confirming := false, exchange := true }) s
    else s

/-- Bursts of a point (PHY_POINT_BURSTS). -/
def pointBursts (c : Vector Word 4) : Nat := max 1 (fld (c)[0] 31 24)

/-- SCOUT_POINT_DONE: the scouts of a group have compared the bursts of a point, or of a confirmation (R301 to R305):
without them, or while a scout is still on its way, nothing is done. -/
def scoutPointDone (x : Sc) (g : GroupId) (s : State) : State :=
  let q := strobeAt s x g
  if !scoutState s x || groupFrozen s x g then s
  else if !scoutsOn s x then stopScouts x g s
  else if q.exchange || q.backoff || groupIdle s x g || !comparing (s.phy.sc.get x) g then s
  else if q.confirming then confirmDone x g s
  else if q.compared < pointBursts q.cfg then s
  else
    let s := newPoint x g (forAll (grpLanes g) (fun i s => updLane x i (fun a => sweepPoint q.cfg a.dis a) s) s)
    if groupIdle s x g then concludeSweep x g s else s

def execScoutPointDone (ch : Ch) (b : Bool) (g : GroupId) (s : State) : Res := run (scoutPointDone (scAt ch b) g) s

/-- SCOUT_BACKOFF_END: a rejected group has compared 2^PHY_REJECT_BACKOFF bursts and starts a new sweep (R304). -/
def scoutBackoffEnd (x : Sc) (g : GroupId) (s : State) : State :=
  let q := strobeAt s x g
  if scoutState s x && q.backoff && !groupFrozen s x g && decide (2 ^ fld (q.cfg)[3] 15 12 ≤ q.compared) then
    if scoutsOn s x then startSweep x g s else stopScouts x g s
  else s

def execScoutBackoffEnd (sc : Sc) (g : GroupId) (s : State) : Res := run (scoutBackoffEnd sc g) s

/-- The mean of moves, rounded toward 0. -/
def meanMove (l : List Int) : Int := if l.isEmpty then 0 else (l.foldl (· + ·) 0).tdiv l.length

/-- A code a number of steps away. -/
def codePlus (c : Code) (d : Int) : Code := delayCode (c.toNat + d)

/-- ROLE_EXCHANGE: a swap window of a group begins with a confirmed candidate (R306, R307). No burst is on the pins
in the window; without one that begins in this cc nothing is done. (DEDUCED, log 20) -/
def roleExchange (x : Sc) (g : GroupId) (s : State) : State :=
  let w := swapWindow s x (ckNow s x)
  if !(strobeAt s x g).exchange || !scoutsOn s x || !scoutState s x || groupFrozen s x g || decide (ckNow s x + 4 ≤ w) then s
  else
    let es := (grpLanes g).map (scoutEye s x)
    let now := s.glb.now
    let s := forAll (grpLanes g) (fun i s => updLane x i (fun a => { a with liveB := !a.liveB, phase := .idle }) s) s
    let s := updGroup x g (fun q => { q with
      promotions := satInc q.promotions, lastPromo := now, rejectRun := 0, exchange := false, lastSwap := w
      gateTo := codePlus q.gateTo (meanMove (es.map Eye.move)) }) s
    let s := sqSet rPhyStatus (pack [(1, x.val)]) (forAll (grpLanes g) (llSetLive x) s)
    let s := promoteRecord x g.val 0 (largest (es.map Eye.move)) (largest (es.map Eye.vmove))
      ((es.map Eye.width).foldl min 0xFFFF) s
    startSweep x g s

def execRoleExchange (sc : Sc) (g : GroupId) (s : State) : Res := run (roleExchange sc g) s

/-- PHY_SCOUT_EN of a sub-channel is clear: a pending exchange is abandoned (R309). -/
def phyCtlWritten (s : State) : State :=
  forAll ((fins 4).filter fun x => !scoutsOn s x) (fun x s =>
    forAll (fins 10) (fun g s => if (strobeAt s x g).exchange then stopScouts x g s else s) s) s

/-- FORCED_SWAP_WINDOW: the code of a line, not of a scout (R300), has waited 2 µs for a swap window: the next column command is delayed by up to
4 ck to make one (R297). (DEDUCED, log 21) -/
def forcedSwapWindow (x : Sc) (s : State) : State :=
  let s := codesGoOn x s
  let long := (s.phy.sc.get x).waitCk.any fun t => decide (t + 400 * rateOf s s.glb.gear ≤ ckNow s x)
  if long && linesMove s x && !(s.sched.get x).forceWindow then
    bump (0x20108 + 0x10 * x.val) (updSched x (fun q => { q with forceWindow := true }) s)
  else s

def execForcedSwapWindow (sc : Sc) (s : State) : Res := run (forcedSwapWindow sc) s

/-! ### Swatch lines and the points of a run (R180, R310, R312) -/

/-- One step of the generator x^7 + x^6 + 1: the bit that leaves and the next contents. The manual names neither which
bit leaves nor which of a byte comes first (DESIGN CHOICE, log 63). -/
def prbsStep (v : Nat) : Nat × Nat := (v / 64 % 2, v * 2 % 128 + (v / 64 + v / 32) % 2)

/-- Eight bits from a seed. -/
def prbsByte (seed : Nat) : Nat :=
  ((List.range 8).foldl (fun (p : Nat × Nat) i => let r := prbsStep p.2; (p.1 + r.1 * 2 ^ i, r.2)) (0, seed)).1

/-- The swatch line of point k (R312). -/
def swatchLine (k : Nat) : Line := lineOfBytes ((List.range 64).map fun j => BitVec.ofNat 8 (prbsByte ((k + j) % 127 + 1)))

/-- The line of a run on a chip select: the first of the swatch rows of logical rank 0 (R180, R310).
(DESIGN CHOICE, log 63) -/
def swatchLla (s : State) (x : Sc) (cs lr : Nat) : Lla :=
  Coord.lla { line := 0, bank := 0, bg := 0, row := nRows s - 128, lr := lr, cs := cs, sub := x.val % 2, ch := x.val / 2 }

/-- The step and the span of a word of PHY_SWATCH_CFG, and the offsets of a run with them (R310). -/
def swStep (w : Word) : Nat := max 1 (fld w 21 16)
def swSpan (w : Word) : Nat := fld w 31 22
def swCfg (s : State) : Word := regGet s 0x20014
def swPoints (span step : Nat) : Nat := 2 * span / step + 1
def swOffset (span step k : Nat) : Int := (step * k : Nat) - (span : Int)

/-- Lanes with a bit error in a burst (R312). -/
def badLanes (got sent : Burst) : List Nat := (List.range 40).filter fun i => laneSym got i ≠ laneSym sent i

/-- Walk from index i while points pass: the last passing index, and whether the end of the span stopped the walk. -/
def walkUp (pass : Nat → Bool) (n : Nat) : Nat → Nat → Nat × Bool
  | 0, i => (i, true)
  | m + 1, i => if decide (i + 1 < n) then (if pass (i + 1) then walkUp pass n m (i + 1) else (i, false)) else (i, true)
def walkDown (pass : Nat → Bool) : Nat → Nat × Bool
  | 0 => (0, true)
  | i + 1 => if pass i then walkDown pass i else (i + 1, false)

/-- The passing offsets about the middle point, as R302 finds them: left, right, and whether a walk was stopped by the
span or began at a failing point. (DEDUCED, log 21) -/
def passRange (span step : Nat) (pass : List Bool) : Int × Int × Bool :=
  let p (i : Nat) : Bool := pass.getD i false
  let m := span / step
  if !p m then (0, 0, true)
  else
    let l := walkDown p m
    let r := walkUp p pass.length pass.length m
    (swOffset span step l.1, swOffset span step r.1, l.2 || r.2)

/-- The passing values of a device about its present one: lowest and highest; none where that fails. -/
def vrefRange (mask v0 : Nat) : Option (Nat × Nat) :=
  let p (i : Nat) : Bool := mask.testBit i
  if p v0 then some ((walkDown p v0).1, (walkUp p 128 128 v0).1) else none

/-! ### Swatch runs (R310 to R315, R322 to R324) -/

/-- The chip selects of a run. -/
def swCs (s : State) (x : Sc) : List Nat := (List.range (nCs s)).filter (csLive s (chOf x))

/-- Every transmit code is sent to its Lifeline code and an offset. -/
def txTarget (x : Sc) (f : Nat → Int) (s : State) : State :=
  let to_ (i : Fin 40) : Code := codePlus (llTx s x i.val) (f i.val)
  updPhySc x (fun p => { p with lanes := Vector.ofFn fun i => { p.lanes.get i with txTo := to_ i } }) s

def updRun (x : Sc) (f : SwRun → SwRun) (s : State) : State := updPhySc x (fun p => { p with run := p.run.map f }) s

/-- The line of a point is written to each chip select and read back (R310). -/
def swLines (x : Sc) (k : Nat) (s : State) : State :=
  forAll (swCs s x) (fun c s =>
    let l := swatchLla s x c 0
    mntAdd x 2 (.lineRead (.swatch k) l) (mntAdd x 2 (.lineWrite l (swatchLine k) false false) s)) s

/-- A device's reference voltage is set by MRW. -/
def setVref (x : Sc) (c : Nat) (d : Fin 10) (v : Nat) (s : State) : State :=
  mntAdd x 2 (.mode .mrw (BitVec.ofNat 2 c) 0 (.set (.vref d (BitVec.ofNat 8 v)))) s
def swDevices (s : State) : List (Fin 10) := (fins 10).filter fun d => decide (d.val < devCount (isX8 s))

/-- The reference voltage of a device in the Lifeline (R327). -/
def llVref (s : State) (x : Sc) (c d : Nat) : Nat := fld (llWord s x (91 + 10 * c + d)) 31 24

/-- Every device takes a value. -/
def allVrefs (x : Sc) (f : Nat → Nat → Nat) (s : State) : State :=
  forAll (swCs s x) (fun c s => forAll (swDevices s) (fun d s => setVref x c d (f c d.val) s) s) s

/-- What a finished run says of a lane: its range, rounded down in the middle, and over the chip selects the least
height and the largest move of the reference voltage of its device. A step of a device is 0.5% of VDDQ (PRESUMED, log
64). (DEDUCED, log 21) -/
def swatchEye (s : State) (x : Sc) (r : SwRun) (i : Fin 40) : Eye :=
  let (l, h, o) := passRange (swSpan r.cfg) (swStep r.cfg) (r.pass.map fun b => b.getLsbD i.val)
  let t := (l + h) / 2
  let d := laneDev s i.val
  let vs := (swCs s x).map fun c => vrefRange (r.vpass.getD (10 * c + d) 0) (llVref s x c d)
  let codes (n : Nat) : Nat := n * 16384 / 200
  let heights := vs.map fun v => (v.map fun p => codes (p.2 - p.1)).getD 0
  let moves := (swCs s x).map fun c =>
    match vrefRange (r.vpass.getD (10 * c + d) 0) (llVref s x c d) with
    | some p => ((codes ((p.1 + p.2) / 2) : Nat) : Int) - (codes (llVref s x c d) : Nat)
    | none => 0
  { opened := o, width := (h - l).toNat, height := heights.foldl min (heights.headD 0), move := t
    drift := (llTx s x i.val).toNat + t - (bootOf s x i.val).1.toNat, vmove := largest moves }

/-- A swatch run takes its next step, where the training requester holds the grant and every code stands where the
run has sent it (R310, R313). (DEDUCED, log 21) -/
def swatchGo (x : Sc) (s : State) : State :=
  let p := s.phy.sc.get x
  match p.run with
  | none => s
  | some r =>
    let n := (swCs s x).length
    let step := swStep r.cfg
    let span := swSpan r.cfg
    if p.seq ≠ .swatch || (s.sched.get x).holder ≠ some 2 then s
    else match r.stage with
    | .shift => if txMoves s x then s else swLines x r.k (updRun x (fun r => { r with stage := .lines, waits := n, bad := [] }) s)
    | .lines =>
      if r.waits ≠ 0 then s
      else
        let ok : BitVec 40 := BitVec.ofNat 40 (((List.range 40).filter fun i => !r.bad.any fun b => b % 40 = i).map (2 ^ ·)).sum
        let s := updRun x (fun r => { r with pass := r.pass ++ [ok], k := r.k + 1, stage := .shift }) s
        if r.k + 1 < swPoints span step then txTarget x (fun _ => swOffset span step (r.k + 1)) s
        else
          let mid (i : Nat) : Int :=
            let (l, h, o) := passRange span step ((r.pass ++ [ok]).map fun b => b.getLsbD i)
            if o then 0 else (l + h) / 2
          txTarget x mid (updRun x (fun r => { r with stage := .vref, k := 0 }) s)
    | .vref =>
      if txMoves s x then s
      else swLines x r.k (allVrefs x (fun _ _ => r.k) (updRun x (fun r => { r with stage := .vlines, waits := n, bad := [] }) s))
    | .vlines =>
      if r.waits ≠ 0 then s
      else
        let bad (c d : Nat) : Bool := r.bad.any fun b => b / 40 = c && laneDev s (b % 40) = d
        let add (i v : Nat) : Nat := if (swCs s x).contains (i / 10) && !bad (i / 10) (i % 10) then v + 2 ^ r.k else v
        updRun x (fun r => { r with
          vpass := (List.range 40).map fun i => add i (r.vpass.getD i 0)
          k := r.k + 1, stage := if r.k + 1 < 128 then .vref else .judge }) s
    | _ => s

/-- The data of a swatch read: the bits on each pin are compared with the codeword that was written, before correction
(R312). Its decode raises no record. -/
def swatchRead (x : Sc) (t : RdTag) (k : Nat) (rx : Capture) (s : State) : State :=
  let d := t.decode s rx
  let c := (unpackLla t.lla).cs
  let bad := (badLanes (t.burst s rx) (encodeLine t.lla (swatchLine k) false)).map fun i => 40 * c + i
  updRun x (fun r => { r with waits := r.waits - 1, bad := r.bad ++ bad }) (compareLanes t rx d s)

/-- SWATCH_PERIOD_EXPIRY: a run falls due (R310). -/
def swatchPeriodExpiry (x : Sc) (s : State) : State :=
  if chLive s (chOf x) then updPhySc x (fun p => { p with swWanted := true }) s else s

def execSwatchPeriodExpiry (sc : Sc) (s : State) : Res := run (swatchPeriodExpiry sc) s

/-- The committed value of PHY_SWATCH_REQ. -/
def actSwatchReq (v : Word) (s : State) : State :=
  forAll ((fins 4).filter fun x => v.getLsbD x.val) (fun x s => updPhySc x (fun p => { p with swReq := true }) s) s

/-- SWATCH_RUN_START: a run that is asked for holds the grant and enters write hold; the codes start for its first
offset (R310). It keeps the settings with which it starts to its end (R322). -/
def swatchRunStart (x : Sc) (s : State) : State :=
  if (s.phy.sc.get x).seq = .idle && trainAsks s x && (s.sched.get x).holder = some 2 then
    let s := updPhySc x (fun p => { p with seq := .swatch, swReq := false, swWanted := false, run := some ⟨.shift, 0, 0, [], [], [], swCfg s, scoutWords s⟩ }) s
    let s := txTarget x (fun _ => swOffset (swSpan (swCfg s)) (swStep (swCfg s)) 0) s
    bump (0x20104 + 0x10 * x.val) (updSched x (fun q => { q with writeHold := true }) s)
  else s

def execSwatchRunStart (sc : Sc) (s : State) : Res := run (swatchRunStart sc) s

/-- The work belongs to a swatch run. -/
def MntCmd.swatches (s : State) (x : Sc) (m : MntCmd) : Bool :=
  match m.op with
  | .lineRead (.swatch _) _ => true
  | .lineWrite l _ _ _ => (List.range 4).any fun c => l = swatchLla s x c 0
  | _ => m.setsVref

/-- The read belongs to a swatch run. -/
def Origin.isSwatch : Origin → Bool
  | .swatch _ => true
  | _ => false

/-- A swatch run is aborted: what it still had to issue is dropped, its codes walk back to their Lifeline codes, and
write hold ends when they arrive. Reference voltages that it had changed are set back. -/
def abortSwatch (x : Sc) (s : State) : State :=
  let p := s.phy.sc.get x
  if p.seq = .swatch then
    let tried := p.run.any fun r => decide (0 < r.vpass.length) || r.stage = .vlines || r.stage = .settle
    let s := sqSet rPhyStatus (pack [(1, 12 + x.val)]) (updPhySc x (fun p => { p with seq := .walk, run := none }) s)
    let s := updSched x (fun q => { q with
      maint := vmod q.maint 2 fun l => l.filter fun m => !m.swatches s x
      pipe := q.pipe.filter fun t => !t.origin.isSwatch, lost := q.lost.filter fun t => !t.origin.isSwatch }) s
    onlyIf tried (allVrefs x (llVref s x)) (txTarget x (fun _ => 0) s)
  else s

/-- What the judgement of a run leaves of a group: its eyes, whether it was accepted, whether it was rejected. -/
structure SwGroup where
  g : GroupId
  eyes : List Eye
  accepted : Bool
  rejected : Bool
  deriving DecidableEq, Repr

/-- The judgement of a group by a swatch run (R303, R310). -/
def swatchGroup (x : Sc) (r : SwRun) (g : GroupId) (s : State) : SwGroup × State :=
  let es := (grpLanes g).map (swatchEye s x r)
  if groupFrozen s x g then (⟨g, [], false, false⟩, s)
  else match judge r.limits es with
    | .reject w j v => (⟨g, es, false, true⟩, groupReject x g 1 w j v s)
    | .settled => (⟨g, es, false, false⟩, groupSettled x g s)
    | .accept => (⟨g, es, true, false⟩, s)

/-- The judgement of every group. (DEDUCED, log 21) -/
def swatchJudge (x : Sc) (r : SwRun) (s : State) : List SwGroup × State :=
  (fins 10).foldl (fun p g => let q := swatchGroup x r g p.2; (p.1 ++ [q.1], q.2)) ([], s)

/-- A device takes the middle of its range when every group that it drives was accepted. -/
def newVref (s : State) (x : Sc) (r : SwRun) (js : List SwGroup) (c d : Nat) : Nat :=
  let mine := js.filter fun j => laneDev s (4 * j.g.val) = d
  match vrefRange (r.vpass.getD (10 * c + d) 0) (llVref s x c d) with
  | some p => if !mine.isEmpty && mine.all SwGroup.accepted then (p.1 + p.2) / 2 else llVref s x c d
  | none => llVref s x c d

/-- The codes of the transmit lines that stand at their targets are in the Lifeline (R325). -/
def llArrived (x : Sc) (s : State) : State :=
  forAll (fins 40) (fun i s => let a := laneAt s x i; if a.tx = a.txTo then llSetTx x i.val a.tx s else s) s

/-- SWATCH_RUN_END: the sweeps of a run are done. Every group is judged; its codes move to their centres, or back to
their Lifeline codes, and write hold ends when they have arrived; devices take their reference voltages, and new N_ref
values are recorded (R310, R317). A code that already stands at its new centre enters the Lifeline now (R325). The
narrowest eye of the record is that of the accepted groups, whose codes move (DESIGN CHOICE, log 67). (DEDUCED, log 21) -/
def swatchRunEnd (x : Sc) (counts : List Nat) (s : State) : State :=
  match (s.phy.sc.get x).run with
  | none => s
  | some r =>
    if r.stage = .judge && (s.phy.sc.get x).seq = .swatch && swatchState s x && (s.sched.get x).holder = some 2 then
      let (js, s) := swatchJudge x r s
      let ok := js.filter SwGroup.accepted
      let move (i : Nat) : Int := ((ok.find? fun j => j.g.val = i / 4).map fun j => ((j.eyes.map Eye.move).getD (i % 4) 0)).getD 0
      let vref (c d : Nat) : Nat := newVref s x r js c d
      let dev := (llDev s x).zipIdx.map fun e => setFld e.1 31 24 (vref (e.2 / 10) (e.2 % 10))
      let s := llArrived x (txTarget x move (allVrefs x vref s))
      let s := updPhySc x (fun p => { p with nref := counts, moved := Vector.replicate 10 0 }) (updRun x (fun r => { r with stage := .settle }) s)
      let s := onlyIf (js.any SwGroup.rejected) (sqSet rPhyStatus (pack [(1, 12 + x.val)])) s
      let s := sqSet rPhyStatus (pack [(1, 8 + x.val)]) (onlyIf (!ok.isEmpty) (llSetDev x dev) s)
      let es := ok.flatMap SwGroup.eyes
      if es.isEmpty then s
      else promoteRecord x 0xF 1 (largest (es.map Eye.move)) (largest (es.map Eye.vmove)) ((es.map Eye.width).foldl min 0xFFFF) s
    else s

def execSwatchRunEnd (sc : Sc) (counts : List Nat) (s : State) : Res := run (swatchRunEnd sc counts) s

/-- SWATCH_HOLD_TIMEOUT: write hold has lasted PHY_SWATCH_HOLD_MAX (R314). -/
def swatchHoldTimeout (x : Sc) (s : State) : State :=
  if (s.phy.sc.get x).seq = .swatch then timeout 0x06 0 3 false (subjSc x 0 0) 0 (abortSwatch x s) else s

def execSwatchHoldTimeout (sc : Sc) (s : State) : Res := run (swatchHoldTimeout sc) s

/-- RUNTIME_TRAINING_TIMEOUT: a run-time step has not completed in time (R324). -/
def runtimeTrainingTimeout (x : Sc) (s : State) : State :=
  if (s.phy.sc.get x).seq = .swatch then timeout 0x07 0 3 false (subjSc x 0 0) 0 (abortSwatch x s) else s

def execRuntimeTrainingTimeout (sc : Sc) (s : State) : Res := run (runtimeTrainingTimeout sc) s

/-- The run of a sub-channel is stalled: the training requester has lost the grant (R313).
(DEDUCED, log 21) -/
def swatchStalled (s : State) (x : Sc) : Bool := (s.phy.sc.get x).seq = .swatch && (s.sched.get x).holder ≠ some 2

/-- The switch of a live reload: running sequences keep the old program to their end, and a stalled one is
aborted if the new image says so (R322, R323). (DEDUCED, log 21) -/
def shadowProgram (abort : Bool) (s : State) : State :=
  let runs := (fins 4).filter fun x => (s.phy.sc.get x).seq ≠ .idle
  let s := { s with phy := { s.phy with shadow := BitVec.ofNat 4 ((runs.map fun x => 2 ^ x.val).sum) } }
  if abort then
    forAll (runs.filter (swatchStalled s)) (fun x s => sqSet rPhyStatus 0x100000 (abortSwatch x s)) s
  else s

/-! ### Oscillator tracking (R316, R317) -/

/-- The mean of Δ of a device over the online chip selects; none without one. -/
def oscDelta (s : State) (x : Sc) (counts : List Nat) (d : Nat) : Option Int :=
  let p := s.phy.sc.get x
  let gain : Int := regFld s 0x20018 31 16
  let ds := (swCs s x).map fun c =>
    (((p.nref.getD (10 * c + d) 0 : Nat) : Int) - ((counts.getD (10 * c + d) 0 : Nat) : Int)) * gain / 65536
  if ds.isEmpty then none else some (meanMove ds)

/-- A run is asked for by oscillator tracking. -/
def oscAsks (x : Sc) (s : State) : State :=
  sqSet rPhyStatus (pack [(1, 16 + x.val)]) (updPhySc x (fun p => { p with swWanted := true }) s)

/-- The transmit codes of a device follow its drift. The answer says how far they are sent.
(DEDUCED, log 22) -/
def oscDevice (x : Sc) (counts : List Nat) (d : Fin 10) (s : State) : Int × State :=
  match oscDelta s x counts d.val with
  | none => (0, s)
  | some m =>
    if regFld s 0x20018 15 8 < m.natAbs then (0, oscAsks x s)
    else
      let s := forAll ((fins 40).filter fun i => laneDev s i.val = d.val)
        (fun i s => updLane x i (fun l => { l with txTo := codePlus l.txTo m }) s) s
      let s := updPhySc x (fun p => { p with moved := vmod p.moved d (· + m.natAbs) }) s
      let full := decide (regFld s 0x2001C 15 0 ≤ (s.phy.sc.get x).moved.get d) && decide (m ≠ 0)
      (m, if full then oscAsks x s else s)

/-- The work belongs to an oscillator update. -/
def MntCmd.oscs (m : MntCmd) : Bool :=
  match m.op with
  | .mode _ _ _ .oscStart | .mode _ _ _ .oscStop | .mode _ _ _ (.get .osc) => true
  | _ => false

/-- The counts of an update have been read: the codes are sent on (R316). -/
def oscGo (x : Sc) (s : State) : State :=
  match (s.phy.sc.get x).osc with
  | none => s
  | some counts =>
    if ((s.sched.get x).maint.get 2).any MntCmd.oscs then s
    else
      let s := updPhySc x (fun p => { p with osc := none }) s
      let (ms, s) := (swDevices s).foldl
        (fun (p : List Int × State) d => let r := oscDevice x counts d p.2; (p.1 ++ [r.1], r.2)) ([], s)
      if ms.all (· = 0) then s else promoteRecord x 0xF 2 (largest ms) 0 0 s

/-- OSC_PERIOD_EXPIRY: the oscillators of a sub-channel are run: each chip select gets the MPCs that start and stop
them and the mode register reads of their counts, which `counts` gives: device d of chip select c under 10 c + d
(R316). (DEDUCED, log 22) -/
def oscPeriodExpiry (x : Sc) (counts : List Nat) (s : State) : State :=
  if regBit s rPhyCtl (4 + x.val) && scoutState s x && swatchState s x && (s.phy.sc.get x).seq = .idle then
    let s := updPhySc x (fun p => { p with seq := .osc, osc := some counts }) s
    forAll (swCs s x) (fun c s =>
      let cs := BitVec.ofNat 2 c
      mntAdd x 2 (.mode .mrr cs 0 (.get .osc)) (mntAdd x 2 (.mode .mpc cs 0 .oscStop) (mntAdd x 2 (.mode .mpc cs 0 .oscStart) s))) s
  else onlyIf (regBit s rPhyCtl (4 + x.val) && swatchState s x) (dueAsleep x) s

def execOscPeriodExpiry (sc : Sc) (counts : List Nat) (s : State) : Res := run (oscPeriodExpiry sc counts) s

/-- The sequences of a sub-channel take their next step. -/
def phyGo (x : Sc) (s : State) : State := oscGo x (swatchGo x (codesGoOn x s))

end Sys2Proof.Machine
end

