-- ==== Sys2Proof/Machine/Ports.lean ====
section
/-! DEFINITION. The inbound ports (04): presenting a request, its data beat, credits, the port
transaction timeout, urgency of RTP. -/

namespace Sys2Proof.Machine

/-- The port samples its request and write data channels (R101). -/
def sampled (s : State) : Bool := s.glb.ctl ≠ .reset && s.glb.ctl ≠ .dormant && s.glb.ctl ≠ .held

/-- A request in this cycle is forbidden: hold was high in the cycle before it (R102, R538). -/
def holdForbids (s : State) (p : PortId) : Bool := (s.ports.get p).held

/-- The cycle in which a request on port p is presented. Those of one cycle come in the order LP0 to LP3, RTP (R114):
one that does not follow the last of the cycle so begins the next cycle on every port. (DESIGN CHOICE, log 66) -/
def portCycle (p : PortId) (s : State) : State :=
  match ((fins 5).reverse.filterMap fun q => if p ≤ q then (s.ports.get q).seen else none).head? with
  | some level => cycleEnds level s
  | none => s

/-- A request has been presented on port p in this cycle. -/
def presented (p : PortId) (s : State) : State :=
  let h := holdNow s
  updPort p (fun q => { q with seen := some h }) s

/-- Spend a credit, if the port holds one of the class. -/
def hasCredit (s : State) (p : PortId) (wr : Bool) : Bool :=
  if wr then decide (0 < (s.ports.get p).wrHeld) else decide (0 < (s.ports.get p).rdHeld)

def spendCredit (p : PortId) (wr : Bool) (s : State) : State :=
  updPort p (fun q => if wr then { q with wrHeld := q.wrHeld - 1 } else { q with rdHeld := q.rdHeld - 1 }) s

/-- The next data beat of a port belongs to a request, or is discarded. -/
def expectBeat (p : PortId) (d : BeatDest) (s : State) : State := updPort p (fun q => { q with beats := q.beats ++ [d] }) s

/-- Echo fields of a presented request. -/
structure Present where
  p : PortId
  code : BitVec 4
  op : Option Op
  h : ReqHdr
  src : BitVec 10
  xid : BitVec 16
  epoch : BitVec 8
  deriving DecidableEq, Repr

def Present.isWrite (r : Present) : Bool := r.op.any Op.isWrite
def Present.beat (r : Present) : Bool := r.op.any Op.hasBeat

/-- The role epoch in an answer that is given without regard to the pair's rules: that of the line's pair for a
peer mirror opcode, 0 for any other (R90). -/
def pairEpoch (s : State) (op : Option Op) (a : LineAddr) : BitVec 8 :=
  if op = some .peerWrite ∨ op = some .peerRead then
    match fwd s a with
    | .owned _ m _ => if m && mirEn s then s.mir.epoch else 0
    | _ => 0
  else 0

/-- A request refused at the port: answered FAILED without entering any queue; its data beat, if any,
is consumed and discarded (R96, R101, R112, R538). -/
def refusePort (r : Present) (bit : Nat) (s : State) : State :=
  let e := pairEpoch s r.op r.h.addr
  let s := sqSet (rPrtStatus r.p) (pack [(1, bit)]) s
  let s := respond r.p r.h.tag r.h.gen .failed 0 r.src r.xid false e s
  onlyIf r.beat (expectBeat r.p .discard) s

/-- TAG_REUSE (04). -/
def tagReuse (r : Present) (old : Req) (s : State) : State :=
  raise 0x1F 0 1
    [pack [(r.p.val, 28), (r.code.toNat, 24), (r.h.tag.toNat, 14), (r.h.gen.toNat, 12), (old.gen.toNat, 10)],
     BitVec.ofNat 32 r.h.addr.toNat, pack [(r.h.part.toNat, 20), (r.h.addr.toNat / 2 ^ 32, 0)]] s

/-! ### An accepted request -/

/-- The record of an accepted request (R111, R114). -/
def newReq (s : State) (r : Present) (op : Op) : Req :=
  { id := s.nextId, port := r.p, op := op, addr := r.h.addr, lla := 0, tag := r.h.tag, gen := r.h.gen
    label := r.h.part, part := r.h.part, src := r.src, xid := r.xid, epoch := r.epoch
    phase := if op.hasBeat then .waitBeat else .ingress
    answered := false, written := false, data := 0, mask := 0, beat := false, mirrored := false
    colour := none, tier := none, ftag := 0, localC := .unknown, peerC := .unknown, dirtyWait := false
    drainHeld := false, rides := none }

/-- Enter an accepted request in the table. -/
def addReq (q : Req) (s : State) : State :=
  bump (rPrtReqs q.port) { s with
    reqs := s.reqs ++ [q], nextId := s.nextId + 1
    ports := vmod s.ports q.port fun p =>
      let p := if q.op.isWrite then { p with wrIn := p.wrIn + 1 } else { p with rdIn := p.rdIn + 1 }
      if q.op.hasBeat then { p with beats := p.beats ++ [.req q.id] } else p }

/-- Answer an accepted request that enters no queue. -/
def endReq (id : Nat) (st : Status) (stale : Bool) (epoch : BitVec 8) (s : State) : State :=
  finish id (answerX id st 0 stale epoch s)

/-- A linked request may demand its region and may be a new head (R165, R268); what it shows of its partition
is noted (R285). -/
def linked (q : Req) (s : State) : State :=
  let s := onlyIf q.op.isLineWrite (demand q.lla) s
  ingressLeft (missQueued ((findReq s q.id).getD q) s)

/-- A request for an owned line goes on towards its queue (R13 to R15, R146, R164). -/
def toIngress (q : Req) (s : State) : State :=
  let s := updReq q.id (fun _ => q) s
  if !rankLive s q.lla && !(q.mirrored && s.mir.primary) then endReq q.id .failed false (peerEpochFor s q) s
  else if !q.op.isWrite && readsZero s q.lla then answer q.id .ok 0 s
  else
    let s := chargePart q s
    if q.phase = .ingress then linked q s else panicUpdate s

/-- A host request to an owned line, judged by the pair state in a mirrored window (R382). -/
def ownedHost (q : Req) (s : State) : State :=
  if q.mirrored && s.mir.pair = .joining then endReq q.id .failed false 0 s
  else if q.mirrored && !s.mir.primary then endReq q.id .notOwned false 0 s
  else toIngress q s

/-- A peer mirror request to an owned line (R121, R381, R382, R536). -/
def ownedPeer (q : Req) (window : Bool) (s : State) : State :=
  if !window || !mirEn s then endReq q.id .failed false 0 s
  else if q.src ≠ peerId s then endReq q.id .failed false s.mir.epoch s
  else if q.epoch ≠ s.mir.epoch then
    sqSet 0x602C 0x1 (bump 0x6054 (endReq q.id .failed true s.mir.epoch s))
  else if s.mir.hold5 then endReq q.id .failed false s.mir.epoch s
  else if s.mir.pair = .joining || (q.op = .peerWrite && s.mir.primary) then
    endReq q.id .failed false s.mir.epoch s
  else toIngress q s

/-- The forward map decides on a line request (R171, R174). -/
def mapReq (q : Req) (s : State) : State :=
  match fwd s q.addr with
  | .owned _ m d =>
    let q := { q with lla := llaOf s d, mirrored := m && mirEn s }
    if q.op.isPeer then ownedPeer q m s else ownedHost q s
  | _ => endReq q.id .notOwned false 0 s

/-- An accepted request takes its course (R13, R25, R118, R120); in HALTED it is answered FAILED (R104). -/
def acceptReq (r : Present) (op : Op) (s : State) : State :=
  let q := newReq s r op
  let s := addReq q s
  if s.glb.ctl = .halted then endReq q.id .failed false (pairEpoch s (some op) r.h.addr) s
  else
    match op with
    | .barrier => barriers (updReq q.id (fun q => { q with phase := .barrier }) s)
    | .peerMessage =>
      if q.addr = msgAddr s s.glb.ctlId.toNat then s else endReq q.id .notOwned false 0 s
    | _ => mapReq q s

/-- The port admits or refuses a request (R96, R97, R101, R102, R111, R112, R538). R538 puts a missing credit
before a hold violation; where further refusals coincide the model takes the order missing credit, hold
violation, bad opcode, reused tag, and sets the bit of the first. (DESIGN CHOICE, log 52) -/
def takeRequest (r : Present) (s : State) : State :=
  if !hasCredit s r.p r.isWrite then refusePort r 1 s
  else
    let s := spendCredit r.p r.isWrite s
    if holdForbids s r.p then refusePort r 5 s
    else
      match r.op with
      | none => refusePort r 2 s
      | some op =>
        if op.isPeer && r.p = 4 then refusePort r 2 s
        else
          match outstanding s r.p r.h.tag with
          | some old => tagReuse r old (refusePort r 0 s)
          | none => acceptReq r op s

/-- A request is presented on a port in one of its cycles (R96, R101, R102). -/
def present (r : Present) (s : State) : State :=
  if sampled s then presented r.p (takeRequest r (portCycle r.p s)) else s

def hostReq (p : PortId) (op : Op) (h : ReqHdr) : Present := ⟨p, BitVec.ofNat 4 op.code, some op, h, 0, 0, 0⟩
def peerReq (p : Fin 4) (op : Op) (h : PeerHdr) : Present :=
  ⟨p.castSucc, BitVec.ofNat 4 op.code, some op, h.hdr, h.src, h.xid, h.epoch⟩

def execRead (p : PortId) (h : ReqHdr) (s : State) : Res := run (present (hostReq p .read h)) s
def execWriteFull (p : PortId) (h : ReqHdr) (s : State) : Res := run (present (hostReq p .writeFull h)) s
def execWritePartial (p : PortId) (h : ReqHdr) (s : State) : Res := run (present (hostReq p .writePartial h)) s
def execWritePoison (p : PortId) (h : ReqHdr) (s : State) : Res := run (present (hostReq p .writePoison h)) s
def execBarrier (p : PortId) (h : ReqHdr) (s : State) : Res := run (present (hostReq p .barrier h)) s
def execPeerMirrorWrite (p : Fin 4) (h : PeerHdr) (s : State) : Res := run (present (peerReq p .peerWrite h)) s
def execPeerMirrorRead (p : Fin 4) (h : PeerHdr) (s : State) : Res := run (present (peerReq p .peerRead h)) s
def execPeerMessage (p : Fin 4) (h : PeerHdr) (s : State) : Res := run (present (peerReq p .peerMessage h)) s

/-- The opcodes of R92. -/
def opOfCode : Nat → Option Op
  | 0 => some .read | 1 => some .writeFull | 2 => some .writePartial | 3 => some .writePoison
  | 5 => some .barrier | 8 => some .peerWrite | 9 => some .peerRead | 10 => some .peerMessage
  | _ => none

/-- RESERVED_OPCODE: a reserved code, or a peer opcode on RTP (R96). Another code is no such request. -/
def reservedOpcode (p : PortId) (op : BitVec 4) (h : PeerHdr) (s : State) : State :=
  let o := opOfCode op.toNat
  if o.isNone || (o.any Op.isPeer && p = 4) then present ⟨p, op, o, h.hdr, h.src, h.xid, h.epoch⟩ s else s

def execReservedOpcode (p : PortId) (op : BitVec 4) (h : PeerHdr) (s : State) : Res := run (reservedOpcode p op h) s

/-! ### Data beats (R103, R106, R107, R119) -/

/-- The known message types (R537). -/
def knownTy (t : Nat) : Bool := decide (1 ≤ t ∧ t ≤ 8)

/-- A message that the receiver keeps (R438). -/
def msgOk (s : State) (m : Vector Word 8) : Bool :=
  decide (m[7] = wordsCrc (m.toList.take 7)) && decide (msgDst m = s.glb.ctlId.toNat) && isMember (image s) (msgSrc m)
    && knownTy (msgTy m) && decide (regFld s 0x4004 27 24 ≤ msgProto m)

/-- A RESILVER_CONTROL of subtype POISON_LINE. -/
def isPoisonLine (m : Vector Word 8) : Bool := decide (msgTy m = tyResilver) && decide (fld m[2] 31 24 = 4)

/-- A PEER_MESSAGE is stored for the Chioz receiver and answered OK; a bad one is discarded and
counted (R95, R120, R438). A POISON_LINE is answered once it is handled (R392). -/
def storeMsg (r : Req) (data : Line) (s : State) : State :=
  let m := lineMsg data
  if msgOk s m then
    if isPoisonLine m then
      updDom (fun d => { d with inbox := d.inbox ++ [⟨m, some r.id⟩] })
        (updReq r.id (fun r => { r with phase := .message }) s)
    else endReq r.id .ok false 0 (updDom (fun d => { d with inbox := d.inbox ++ [⟨m, none⟩] }) s)
  else endReq r.id .ok false 0 (bump 0x5050 s)

/-- The beat of a request arrives (R107). -/
def takeBeat (id : Nat) (data : Line) (mask : BitVec 64) (s : State) : State :=
  match findReq s id with
  | none => s
  | some r =>
    if r.answered || r.phase ≠ .waitBeat then s
    else if r.op = .peerMessage then storeMsg r data s
    else
      let q := { r with data := data, mask := mask, beat := true, phase := .ingress }
      linked q (updReq id (fun _ => q) s)

/-- WRITE_DATA_BEAT: the beat belongs to the oldest request of the port that waits for one (R106). -/
def writeDataBeat (p : PortId) (data : Line) (mask : BitVec 64) (s : State) : State :=
  if !sampled s then s
  else
    match (s.ports.get p).beats with
    | [] => s
    | d :: rest =>
      let s := updPort p (fun q => { q with beats := rest }) s
      match d with
      | .discard => s
      | .req id => takeBeat id data mask s

def execWriteDataBeat (p : PortId) (data : Line) (mask : BitVec 64) (s : State) : Res := run (writeDataBeat p data mask) s

/-! ### Credits (R12, R98 to R100, R104) -/

/-- Credits are returned in this state (R104); a pause in HALTED withholds them (R80). -/
def creditsFlow (s : State) : Bool :=
  match s.glb.ctl with
  | .service => !holdNow s
  | .halted => !s.qz.paused
  | _ => false

/-- Credits of a class held on all ports, and requests of the class in flight. -/
def heldAll (s : State) (wr : Bool) : Nat := (s.ports.toList.map fun q => if wr then q.wrHeld else q.rdHeld).sum
def inAll (s : State) (wr : Bool) : Nat := (s.ports.toList.map fun q => if wr then q.wrIn else q.rdIn).sum

/-- Ingress slots occupied or claimed by credits, on the line ports and on RTP (R98, R262). -/
def lpSlots (s : State) : Nat :=
  ingressCount s - rtpCount s + ((s.ports.toList.take 4).map fun q => q.rdHeld + q.wrHeld).sum
def rtpSlots (s : State) : Nat := rtpCount s + (s.ports.get 4).rdHeld + (s.ports.get 4).wrHeld

/-- A credit of the class may be returned on the port (R98). (DESIGN CHOICE, log 13) -/
def creditDue (s : State) (wr : Bool) (p : PortId) : Bool :=
  let q := s.ports.get p
  let c := regGet s (0x8000 + 0x40 * p.val)
  let mx := if wr then fld c 25 16 else fld c 10 0
  let used := if wr then q.wrHeld + q.wrIn else q.rdHeld + q.rdIn
  decide (used < mx) && decide (heldAll s wr + inAll s wr < if wr then 512 else 1024)
    && (if p = 4 then decide (rtpSlots s < 64) else decide (lpSlots s < 960))

/-- The order of service: RTP, then the line ports after the one served last (R99).
(DESIGN CHOICE, log 13) -/
def creditOrder (last : Fin 5) : List (Fin 5) :=
  4 :: (List.range 4).map fun i => finOr 4 ((last.val + 1 + i) % 4)

/-- CREDIT_RETURN: the port next in order that may get a credit of the class gets one.
(DESIGN CHOICE, log 13) -/
def creditReturn (wr : Bool) (s : State) : State :=
  if !creditsFlow s then s
  else
    match (creditOrder (if wr then s.qos.lastCrdWr else s.qos.lastCrdRd)).find? (creditDue s wr) with
    | none => s
    | some p =>
      let s := updPort p (fun q => if wr then { q with wrHeld := q.wrHeld + 1 } else { q with rdHeld := q.rdHeld + 1 }) s
      let s := if p = 4 then s
        else updQos (fun q => if wr then { q with lastCrdWr := p } else { q with lastCrdRd := p }) s
      emit (.credit p wr) (portCycles s)

def execCreditReturn (wr : Bool) (s : State) : Res := run (creditReturn wr) s

/-! ### Port transaction timeout (R119, R168) and urgency (R124) -/

/-- PORT_TRANSACTION_TIMEOUT: the request with this tag is answered FAILED. One that is still in the
ingress stage is not carried out. In HELD the core island is off and nothing is answered (R104). -/
def portTransactionTimeout (p : PortId) (tag : BitVec 10) (s : State) : State :=
  match outstanding s p tag with
  | none => s
  | some r =>
    if s.glb.ctl = .held then s
    else
    let s := sqSet (rPrtStatus p) 0x8 s
    let s := timeout 0x0C 3 1 false (p.val * 2 ^ 13 + r.gen.toNat * 2 ^ 10 + tag.toNat) (r.addr.toNat % 2 ^ 32) s
    let s := answer r.id .failed 0 s
    if r.phase = .waitBeat || r.phase = .ingress then ingressLeft (finish r.id s) else s

def execPortTransactionTimeout (p : PortId) (tag : BitVec 10) (s : State) : Res := run (portTransactionTimeout p tag) s

/-- RTP_URGENT_CHANGE: the level of rtp_urgent (R124). While the ports are not sampled it is only noted. -/
def rtpUrgentChange (level : Bool) (s : State) : State :=
  let s := updQos (fun q => { q with urgent := level }) s
  if sampled s then panicUpdate s else s

def execRtpUrgentChange (level : Bool) (s : State) : Res := run (rtpUrgentChange level) s

end Sys2Proof.Machine
end

