-- ==== Sys2Proof/Machine/ReadPath.lean ====
section
/-! DEFINITION. Captured read data of host reads and merge reads (07 R187 to R191, R209; 11 R341, R343;
12 R393, R395). -/

namespace Sys2Proof.Machine

/-- The oldest awaited read of the sub-channel that a test picks, taken out of the pipe. -/
def takeTag (x : Sc) (f : Origin → Bool) (s : State) : Option (RdTag × State) :=
  match (s.sched.get x).pipe.find? fun r => f r.origin with
  | none => none
  | some r => some (r, updSched x (fun q => { q with pipe := q.pipe.filter fun v => v ≠ r }) s)

def Origin.isMerge : Origin → Bool
  | .merge _ => true
  | _ => false

/-- The status of an outcome (R343). -/
def Outcome5.status : Outcome5 → Status
  | .clean => .ok
  | .corrected => .corrected
  | _ => .poison

/-- What the record of a host read says of its request (R374): origin 0, or 7 for a peer read. -/
def readInfo (s : State) (r : Req) (d : Decoded) : RasInfo :=
  { RasInfo.of (if r.op.isPeer then 7 else 0) (soleDevice (isX8 s) d.errs) with port := r.port.val, tag := r.tag.toNat }

/-- A read entry is released (R12). -/
def releaseRead (x : Sc) (id : Nat) (s : State) : State :=
  updSched x (fun q => { q with rq := q.rq.filter fun e => e.id ≠ id }) s

/-- A decoded read is counted, recorded and answered (R343, R374). (DEDUCED, log 16) -/
def settleRead (x : Sc) (id : Nat) (l : Lla) (d : Decoded) (s : State) : State :=
  let s := readCounted l d (releaseRead x id s)
  match findReq s id with
  | none => s
  | some r => answer id d.outcome.status d.data (readRecord l d (readInfo s r d) s)

/-- The data of a host read is captured and decoded. A lost line is held unanswered (R209). -/
def hostRead (x : Sc) (t : RdTag) (id : Nat) (rx : Capture) (s : State) : State :=
  let d := t.decode s rx
  let s := compareLanes t rx d s
  if d.outcome.lost then updSched x (fun q => { q with heldRds := q.heldRds ++ [⟨id, t.lla, t.ck, d⟩] }) s
  else settleRead x id t.lla d s

/-- The read is recovered from the peer (R393, R389): a host request to a mirrored line at the primary,
with the line's pair healthy. -/
def recovers (s : State) (r : Req) : Bool := r.mirrored && !r.op.isPeer && s.mir.primary && lineHealthy s r.lla

/-- The record of a merge read (R374): origin 1, with the port of the write. A line that is lost or
poisoned is written back as a poison line, and the merged bytes are discarded (R19, R191).
(DEDUCED, log 48) -/
def mergeInfo (s : State) (r : Option Req) (d : Decoded) (bad repaired : Bool) : RasInfo :=
  { RasInfo.of 1 (soleDevice (isX8 s) d.errs) with
    repaired := repaired, rewritten := bad, discarded := bad, port := (r.map fun r => r.port.val).getD 7, tag := (r.map fun r => r.tag.toNat).getD 0 }

/-- A merge read has its outcome and its entry a base (R19, R191). -/
def mergeBase (x : Sc) (id : Nat) (l : Lla) (d : Decoded) (s : State) : State :=
  let bad := d.outcome.lost || d.outcome = .poison
  merged x id d.data bad (readRecord l d (mergeInfo s (findReq s id) d bad false) s)

/-- MERGE_READ_DECODE: the oldest merge read is decoded and its entry completes (R191). One of a poisoned
line compares no samplers (R301). A lost line of a
healthy mirrored pair takes the peer copy as its base (R389). -/
def mergeReadDecode (x : Sc) (rx : Capture) (s : State) : State :=
  match takeTag x Origin.isMerge s with
  | none => s
  | some (t, s) =>
    match t.origin with
    | .merge id =>
      let d := t.decode s rx
      let s := onlyIf (d.outcome ≠ .poison) (compareLanes t rx d) (readCounted t.lla d s)
      match findReq s id with
      | none => mergeBase x id t.lla d s
      | some r =>
        if d.outcome.lost && recovers s r then
          egpAsk (peerOp s .mirrorRead r.addr 0 (.mergeBase id (some d))) (updSched x (fun q => { q with
            wq := q.wq.map fun e => if e.id = id then { e with merge := .onPeer } else e }) s)
        else mergeBase x id t.lla d s
    | _ => s

def execMergeReadDecode (sc : Sc) (rx : Capture) (s : State) : Res := run (mergeReadDecode sc rx) s

/-- HELD_READ_RELEASE: the replay window of the oldest held read has passed without an alert (R209). -/
def heldReadRelease (x : Sc) (s : State) : State :=
  match (s.sched.get x).heldRds with
  | [] => s
  | h :: rest =>
    if (s.sched.get x).replay ≠ .none || s.glb.ctl = .held then s
    else
      let s := updSched x (fun q => { q with heldRds := rest }) s
      match findReq s h.id with
      | none => releaseRead x h.id (readCounted h.lla h.dec s)
      | some r =>
        if recovers s r && !r.answered then
          let s := readCounted h.lla h.dec (releaseRead x h.id s)
          egpAsk (peerOp s .mirrorRead r.addr 0 (.recovery x h.id h.dec)) (updReq h.id (fun r => { r with phase := .peer }) s)
        else settleRead x h.id h.lla h.dec s

def execHeldReadRelease (sc : Sc) (s : State) : Res := run (heldReadRelease sc) s

end Sys2Proof.Machine
end

