-- ==== Sys2Proof/Machine/Refresh.lean ====
section
/-! DEFINITION. The refresh calendar, what the refresh requester offers, epochs, and the ledger fetches
of the Row Counter (08). -/

namespace Sys2Proof.Machine

/-! ### The calendar (R228 to R231, R238, R239) -/

/-- Slot period in ck (R228, R229). -/
def slotPeriod (s : State) (c : Ch) : Nat :=
  let p := if refMode s = 0 then tim s pRefi else tim s pRefi / 2
  if s.ref.doubled.get c then p / 2 else p

/-- off(u, s) (R230); a unit of a spare in its copy follows its matching unit by ⌊p / (4n)⌋ (R366). -/
def slotOff (s : State) (x : Sc) (u : Nat) : Nat :=
  let p := slotPeriod s (chOf x)
  let n := max 1 (nUnits s)
  let v := sharedUnit s x u
  v * p / n + (if x.val % 2 = 1 then p / (2 * n) else 0) + (if v = u then 0 else p / (4 * n))

/-- The work is a refresh set. -/
def MntCmd.anySet (m : MntCmd) : Bool :=
  match m.op with
  | .refSet _ _ => true
  | _ => false

/-- The calendar of a sub-channel is built: debts are 0, no gate is closed, slots count from the next
ck (R230, R231, R238). A unit without a calendar starts at epoch 0 with the present REF_RC_CFG.
(DEDUCED, log 48) -/
def buildCalendar (x : Sc) (s : State) : State :=
  let s := updMaint x 0 (fun l => l.filter fun m => !m.anySet) s
  forAll (unitsOn s x) (fun u s =>
    let r := (kfind s.ref.units (unitKey x u)).getD { RefUnit.fresh with rc := regGet s 0x10004 }
    setRefUnit x u { r with debt := 0, gate := none, emergency := false, next := ckNow s x + 1 + slotOff s x u } s) s

/-- The readings of the sensors of a channel in 1/16 °C: every valid one, and PWR_T_FAILSAFE for a DIMM
in failsafe (R239, R489). -/
def slotTemps (s : State) (p : Slot) : List Int :=
  if p.failsafe then [(16 * regFld s 0x3014 31 24 : Int)]
  else (p.sensors.toList.filter fun z => z.found && z.valid).map fun z => z.temp.toInt
def chTemps (s : State) (c : Ch) : List Int :=
  slotTemps s (s.glb.slot.get ⟨2 * c.val, by omega⟩) ++ slotTemps s (s.glb.slot.get ⟨2 * c.val + 1, by omega⟩)

/-- Doubled refresh after the decision of a slot (R239, R240). Without any reading the decision stays. -/
def doubledNext (s : State) (c : Ch) : Bool :=
  let hi : Int := 16 * regFld s 0x10000 15 8
  let lo : Int := hi - 16 * regFld s 0x10000 7 4
  let t := chTemps s c
  if s.ref.mr4.get c ≠ .x1 || t.any (fun v => decide (hi < v)) then true
  else if !t.isEmpty && t.all (fun v => decide (v ≤ lo)) then false
  else s.ref.doubled.get c

/-- Take the decision; the entry into doubled refresh is shown (REF_DOUBLED_ENTERED). -/
def judgeDoubled (c : Ch) (s : State) : State :=
  let d := doubledNext s c
  let s := onlyIf (d && !s.ref.doubled.get c) (sqSet 0x10030 (pack [(1, 8 + c.val)])) s
  updRef (fun a => { a with doubled := vset a.doubled c d }) s

/-- Slots count (R238, R494). -/
def slotsCount (s : State) (x : Sc) (u : Nat) : Bool :=
  calendar s x u && chLive s (chOf x) && s.pwr.sc.get x ≠ .selfRefresh
    && (match s.glb.ctl with
      | .castOn | .service | .quiesced | .gearChange => true
      | _ => false)
    && csLive s (chOf x) (u / nLr s)

/-- A set of a unit as work: four bank addresses in SAME_BANK mode (R228). -/
def setWork (s : State) (u : Nat) : MntOp := .refSet u (if refMode s = 2 then fins 4 else [])

/-- REFRESH_SLOT: a slot of a unit falls (R231, R233, R236, R239). (DESIGN CHOICE, log 17) -/
def refreshSlot (x : Sc) (u : Nat) (s : State) : State :=
  if !slotsCount s x u then s
  else
    let s := judgeDoubled (chOf x) (powerUp x s)
    let r := refUnit s x u
    let d := r.debt + 1
    let s := setRefUnit x u { r with debt := d, next := r.next + slotPeriod s (chOf x)
                                     gate := if 1 ≤ d then some r.next else r.gate } s
    let s := onlyIf (decide (1 ≤ d) && !((s.sched.get x).maint.get 0).any (MntCmd.isSet u)) (mntAdd x 0 (setWork s u)) s
    preempt x (judgeEmergency x u s)

def execRefreshSlot (sc : Sc) (unit : Fin 64) (s : State) : Res := run (refreshSlot sc unit.val) s

/-- REFRESH_POSTPONE: the set of a closed gate has not been issued by S + 256 ck; the gate opens and the
debt stays (R235). In the emergency state the gate has no such slack (R236). (DESIGN CHOICE, log 17) -/
def refreshPostpone (x : Sc) (u : Nat) (s : State) : State :=
  let r := refUnit s x u
  if r.gate.isNone || r.emergency then s
  else bump (rRef x 1) (setRefUnit x u { r with gate := none } s)

def execRefreshPostpone (sc : Sc) (unit : Fin 64) (s : State) : Res := run (refreshPostpone sc unit.val) s

/-! ### What the refresh requester offers (R232, R242, R254, R255) -/

/-- A partly issued set of SAME_BANK mode. -/
def MntCmd.begun (m : MntCmd) : Bool :=
  match m.op with
  | .refSet _ l => decide (l.length = 1 ∨ l.length = 2 ∨ l.length = 3)
  | _ => false

/-- The set may stay offered. -/
def setStays (s : State) (x : Sc) (m : MntCmd) : Bool :=
  match m.op with
  | .refSet u _ => m.begun || setDue s x u
  | _ => true

/-- The work is the DRFM of a due row. -/
def MntCmd.isDrfm (d : DueRow) (m : MntCmd) : Bool :=
  match m.op with
  | .drfm u b row _ _ => u = d.unit && b = d.bank && row = d.row
  | _ => false

/-- Rank among the work of refresh: a DRFM (R255), a set that has begun and may go on, the set of a unit
in the emergency state, RFMs, other sets. -/
def refRank (s : State) (x : Sc) (m : MntCmd) : Nat :=
  match m.op with
  | .refSet u _ => if m.begun ∧ setDue s x u then 1 else if (refUnit s x u).emergency then 2 else 4
  | .drfm .. => 0
  | .rfm .. => 3
  | _ => 5

/-- The work in order of its rank, older work first. -/
def refSort (s : State) (x : Sc) (l : List MntCmd) : List MntCmd :=
  (List.range 6).flatMap fun k => l.filter fun m => refRank s x m = k

/-- The requests of refresh in a cc: lapsed sets are withdrawn, due rows that are closed ask (R254), and
so do units that owe a set or may pull one in. (DESIGN CHOICE, log 17) -/
def refOffers (x : Sc) (s : State) : State :=
  if s.glb.ctl = .bindOff then s
  else
    let s := updMaint x 0 (fun l => l.filter (setStays s x)) s
    let work (s : State) : List MntCmd := (s.sched.get x).maint.get 0
    let s := forAll (s.ref.due.filter fun d => d.sc = x && !(work s).any (MntCmd.isDrfm d) && !dueOpen s d)
      (fun d s => mntAdd x 0 (.drfm d.unit d.bank d.row d.kind d.value) s) s
    let s := forAll ((unitsOn s x).filter fun u => setDue s x u && !(work s).any (MntCmd.isSet u))
      (fun u s => mntAdd x 0 (setWork s u) s) s
    updMaint x 0 (refSort s x) s

/-! ### Back-off (R242) -/

/-- RFMab for every logical rank of a channel, REF_ABO_RFM_COUNT each, on both sub-channels. Refresh of both enters
the emergency state (R242), which is a circumstance of a guarantee miss (R285). -/
def aboRequest (c : Ch) (s : State) : State :=
  let n := regFld s 0x10038 3 0
  let was := (fins 4).filter (emergency s)
  let s := updRef (fun a => { a with abo := vmod a.abo c fun l => l ++ [⟨aboPer s, false, false⟩] }) s
  forAll [scA c, scB c] (fun x s =>
    let s := onlyIf (!was.contains x) (fun s => missEmergency x (bump (rRef x 3) (sqSet 0xD070 (pack [(1, x.val)]) s))) s
    preempt x (forAll (List.range n) (fun _ s => forAll (List.range (nUnits s)) (fun u s => mntAdd x 0 (.rfm u 4 0) s) s) s)) s

/-- The deadline of the oldest request whose deadline has not passed. -/
def aboPass : List AboReq → List AboReq
  | [] => []
  | r :: l => if r.passed then r :: aboPass l else if r.left = 0 then l else { r with passed := true } :: l

/-- BACKOFF_RFM_DEADLINE: REF_ABO_DELAY has passed since the alert of the oldest back-off request whose deadline was
still to come. If its first RFM has not been issued, the late start is reported. Host ACTs are held from then on until
every RFM owed has been issued (R242, R258). -/
def backoffDeadline (c : Ch) (s : State) : State :=
  let late := ((s.ref.abo.get c).find? fun r => !r.passed).any fun r => !r.begun
  let hold := (s.ref.abo.get c).any fun r => !r.passed
  let s := updRef (fun a => { a with abo := vmod a.abo c aboPass }) s
  let s := onlyIf (hold && decide (0 < aboOwed s c)) (updRef fun a => { a with aboLate := vset a.aboLate c true }) s
  if late then timeout 0x03 1 2 false (subjSc (scA c) 0 0) 0 s else s

def execBackoffRfmDeadline (ch : Ch) (s : State) : Res := run (backoffDeadline ch) s

/-! ### Epochs (R251 to R253, R258) -/

/-- N_pass (R228). -/
def nPass (s : State) : Nat := if refMode s = 0 then 8192 else 16384

/-- Ledger work of a unit: fetches, promotion writes and write-backs. -/
def ledgerWorkOf (s : State) (u : Nat) (m : MntCmd) : Bool := (m.op.line?).any fun p => unitOf s p.1 = u

/-- Fetches, posted increments, promotion writes and held rows of a unit are dropped (R258), and so are its cached
lines, which carry an old tag (R248). -/
def dropLedger (x : Sc) (u : Nat) (s : State) : State :=
  let own (k : Nat) : Bool := decide (k / 2 ^ 18 = unitKey x u)
  updMaint x 3 (fun l => l.filter fun m => !ledgerWorkOf s u m)
    (updRef (fun a => { a with
      posted := a.posted.filter (fun p => !own p.1)
      fetching := a.fetching.filter (fun p => !own p.1)
      rcHeld := a.rcHeld.filter (fun k => decide (k / 2 ^ 18 / 32 ≠ unitKey x u))
      cache := a.cache.filter fun e => !own e.1 }) s)

/-- Every group entry of the unit restarts: entries that are not listed read as COUNTING with count 0
and the current tag (R244, R252). -/
def sweepGroups (x : Sc) (u : Nat) (s : State) : State :=
  let w := 32 * (dramRows s / 2 ^ rcLog s)
  let i := unitIx s x u
  updRef (fun a => { a with groups := a.groups.filter fun e => decide (w = 0 ∨ e.1 / w ≠ i) }) s

/-- EPOCH_ADVANCE: the unit has been issued N_pass sets since its last advance (R251 to R253). -/
def epochAdvance (x : Sc) (u : Nat) (s : State) : State :=
  let r := refUnit s x u
  if !calendar s x u || decide (r.passCount < nPass s) then s
  else
    let s := setRefUnit x u { r with epoch := r.epoch + 1, passCount := r.passCount - nPass s, rc := regGet s 0x10004 } s
    sweepGroups x u (dropLedger x u s)

def execEpochAdvance (sc : Sc) (unit : Fin 64) (s : State) : Res := run (epochAdvance sc unit.val) s

/-! ### Ledger fetches (R248, R249) -/

def Origin.isLedger : Origin → Bool
  | .ledger _ => true
  | _ => false

/-- A ledger line arrives in the cache; its posted increments are applied (R246, R248). -/
def installLine (k : Nat) (vals : Vector (BitVec 16) 32) (dirty : Bool) (s : State) : State :=
  let s := cacheEvict k s
  let s := setCache k ⟨(refUnit s (keySc k) (keyUnit k)).epoch, dirty, 0, vals⟩ s
  let mine := s.ref.posted.filter fun p => p.1 = k
  let s := updRef (fun a => { a with posted := a.posted.filter (fun p => p.1 ≠ k)
                                     fetching := a.fetching.filter fun p => p.1 ≠ k }) s
  forAll mine (fun p s => match cacheLine s k with
    | some l => if p.2.2 then setCache k { l with vals := vset l.vals p.2.1 0, dirty := true } s else countCached k p.2.1 l s
    | none => s) s

/-- A fetch failed: the counters take the group's count, and every row whose held ACT waited for the
line is mitigated (R249). -/
def failLine (k : Nat) (s : State) : State :=
  let x := keySc k
  let u := keyUnit k
  let b := keyBank s k
  let n := (groupAt s x u b (keyRow s k)).count
  let rows := s.ref.rcHeld.filter fun h =>
    let row := h % 2 ^ 18
    decide (h / 2 ^ 18 = raaKey x u b ∧ ledgerKey s x u b row = k) && rcAbsent s x u b row && !rcPromoting s x u b row
  let s := installLine k (Vector.replicate 32 (BitVec.ofNat 16 n)) true s
  forAll rows (fun h s => makeDue x u b (h % 2 ^ 18) 2 n s) s

/-- LEDGER_FETCH_DONE: the data of the oldest ledger fetch is decoded. A fetch that an epoch advance
overtook is dropped (R258). -/
def ledgerFetchDone (x : Sc) (rx : Capture) (s : State) : State :=
  match (s.sched.get x).pipe.find? fun r => r.origin.isLedger with
  | none => s
  | some t =>
    let s := updSched x (fun q => { q with pipe := q.pipe.filter fun v => v ≠ t }) s
    match t.origin with
    | .ledger k =>
      let d := t.decode s rx
      let s := readRecord t.lla d (RasInfo.of 6 (soleDevice (isX8 s) d.errs)) (readSeen t rx d s)
      if !(s.ref.fetching.any fun e => e.1 = k) then s
      else if d.outcome.lost || d.outcome = .poison then failLine k (sqSet 0x10030 0x40 s)
      else installLine k (lineCounters d.data) false s
    | _ => s

def execLedgerFetchDone (sc : Sc) (rx : Capture) (s : State) : Res := run (ledgerFetchDone sc rx) s

/-- The read of a ledger line. -/
def Origin.ledgerIs (k : Nat) : Origin → Bool
  | .ledger j => j = k
  | _ => false
def MntCmd.fetches (k : Nat) (m : MntCmd) : Bool :=
  match m.op with
  | .lineRead o _ => o.ledgerIs k
  | _ => false

/-- LEDGER_FETCH_TIMEOUT: the oldest fetch of the sub-channel has not completed in time (R249). -/
def ledgerFetchTimeout (x : Sc) (s : State) : State :=
  match s.ref.fetching.find? fun e => e.2 = x with
  | none => s
  | some (k, _) =>
    let u := keyUnit k
    let s := timeout 0x13 1 2 false (subjSc x (u / max 1 (nLr s)) (u % max 1 (nLr s))) 0 s
    let s := sqSet 0x10030 0x80 (bump 0x10050 s)
    let s := updSched x (fun q => { q with pipe := q.pipe.filter fun r => !r.origin.ledgerIs k }) s
    failLine k (updMaint x 3 (fun l => l.filter fun m => !m.fetches k) s)

def execLedgerFetchTimeout (sc : Sc) (s : State) : Res := run (ledgerFetchTimeout sc) s

end Sys2Proof.Machine
end

