-- ==== Sys2Proof/Machine/Service.lean ====
section
/-! DEFINITION. Self-refresh of the sub-channels, the way into SERVICE, and the quiesce protocol (03, R73
to R80; 15). -/

namespace Sys2Proof.Machine

/-! ### Self-refresh -/

/-- The sub-channels of the channels in service. -/
def liveScs (s : State) : List Sc := (fins 4).filter fun x => chLive s (chOf x)

/-- No burst of the sub-channel is in progress. -/
def busDone (s : State) (x : Sc) : Bool :=
  let q := s.sched.get x
  q.pipe.isEmpty && q.lost.isEmpty && q.lines.all WrTag.done && q.replay = .none

/-- A read for a host request. -/
def Origin.forHost : Origin → Bool
  | .host _ | .merge _ => true
  | _ => false

/-- No burst of a host command is in progress (R74). -/
def hostBusDone (s : State) (x : Sc) : Bool :=
  let q := s.sched.get x
  !(q.pipe ++ q.lost).any (fun r => r.origin.forHost) && q.lines.all (fun l => l.done || l.src = .maint) && q.replay = .none

/-- A channel is in self-refresh when both of its sub-channels are. -/
def noteSr (c : Ch) (s : State) : State :=
  let sr := s.pwr.sc.get (scA c) = .selfRefresh && s.pwr.sc.get (scB c) = .selfRefresh
  updCh c (fun h => { h with inSr := sr, latch := h.latch && sr }) s

/-- Every chip select of a sub-channel enters self-refresh: PREab, then SRE (R482). The maintenance
requesters are masked (R219). -/
def srEnter (x : Sc) (s : State) : State :=
  if s.pwr.sc.get x = .selfRefresh then s
  else
    let s := toRanks x .sre false (toRanks x .preAb true (powerUp x s))
    noteSr (chOf x) (setMask x true (updPwr (fun p => { p with sc := vset p.sc x .selfRefresh }) s))

/-- Every chip select of a sub-channel leaves self-refresh; the calendar is rebuilt and the requesters are
unmasked (R238, R483). DCK, which stands while both sub-channels of the channel are in self-refresh (R87), starts
first. The retention latch clears (R65). -/
def srExit (x : Sc) (s : State) : State :=
  if s.pwr.sc.get x = .selfRefresh then
    let s := onlyIf (s.glb.ch.get (chOf x)).inSr (dckRestart (chOf x)) s
    let s := toRanks x .srx false (updPwr (fun p => { p with sc := vset p.sc x .active, due := p.due &&& ~~~((1 : BitVec 4) <<< x.val) }) s)
    noteSr (chOf x) (buildCalendar x (setMask x false s))
  else s

/-- Enter and leave self-refresh on every channel in service. -/
def srEnterAll (s : State) : State := forAll (liveScs s) srEnter s
def srExitAll (s : State) : State := forAll (liveScs s) srExit s

/-! ### The way into SERVICE -/

/-- Credits may be withheld for a reload only in SERVICE; a fetch begins and a quiesce point is sought
there (R430, R432). -/
def reloadPump (s : State) : State :=
  if s.glb.ctl ≠ .service then s
  else
    match s.img.rl.st with
    | .waitService =>
      updImg (fun i => { i with
        staging := [], fetch := some ⟨true, i.rl.base, none⟩, rl := { i.rl with st := .fetching } }) s
    | .verified => updImg (fun i => { i with rl := { i.rl with st := .waitPoint } }) s
    | _ => s

/-- What waits for SERVICE starts: a gear request (R329) and a reload (R430). -/
def servicePump (s : State) : State := reloadPump (gearTake s)

/-- Every accepted request has been answered (R77, R432). -/
def allAnswered (s : State) : Bool := s.reqs.all Req.answered

/-- A drain barrier ends: qz_ack rises and credits return (R77). -/
def barrierEnds (s : State) : State := cycleEnds true (updQz (fun q => { q with ph := .ended, ack := true }) s)

/-- The pause is in force: QUIESCED is entered (R76); hold has been high for a cycle on every port, so that the line
boundary has passed (R102). With qz_deep the ranks go to self-refresh first and
every maintenance requester is held (R75). -/
def pauseStarts (s : State) : State :=
  let s := enter .quiesced (cycleEnds true s)
  if s.qz.deep then forAll (liveScs s) (fun x s => setMask x true s) (updQz (fun q => { q with ph := .waitSr }) s)
  else updQz (fun q => { q with ph := .paused, ack := true, paused := true }) s

/-- SERVICE is entered; the entry that ends a Cast-On is timed (05, GLB_SERVICE_TIME). -/
def enterService (s : State) : State :=
  enter .service (onlyIf (s.glb.served && regGet64 s 0x48 = 0) (regSet64 0x48 s.glb.now) s)

/-- The point at which SERVICE is entered. A pause that waited takes effect there, and a drain barrier
is taken there (R80). Hold was high in the state that is left (R102, R104). A panic is judged anew (R124).
(DEDUCED, log 24) -/
def arriveService (s : State) : State :=
  let s := cycleEnds true s
  panicUpdate <| if s.qz.ph = .deferred then
    if s.qz.hold = 0 then
      let s := updQz (fun q => { q with ph := .barrier }) (enterService s)
      servicePump (onlyIf (allAnswered s) barrierEnds s)
    else pauseStarts s
  else servicePump (enterService s)

/-! ### The quiesce protocol -/

/-- QZ_REQ_RISE: a rising qz_req is recognised (R73, R74, R77, R80). The manual is silent on one that follows a fall
before qz_ack rose: in SERVICE, CAST_ON and GEAR_CHANGE the new hold time and depth are sampled and the pause or
barrier starts anew; in QUIESCED, on the way into or out of a deep pause, only the level is noted.
(DESIGN CHOICE, log 50) -/
def qzReqRise (hold : BitVec 16) (deep : Bool) (s : State) : State :=
  if s.qz.req || s.qz.ack || s.glb.ctl = .reset then s
  else
    let go (ph : QzPhase) (ack paused : Bool) (s : State) : State :=
      updQz (fun q => { q with req := true, hold := hold, deep := deep, ph := ph, ack := ack, paused := paused }) s
    match s.glb.ctl with
    | .service => go (if hold = 0 then .barrier else .boundary) false false s
    | .castOn | .gearChange => go .deferred false false s
    | .dormant | .halted => if hold = 0 then go .ended true false s else go .paused true true s
    | _ => updQz (fun q => { q with req := true }) s

def execQzReqRise (hold : BitVec 16) (deep : Bool) (s : State) : Res := run (qzReqRise hold deep) s

/-- A write accepted before the boundary that has neither entered a write queue nor been answered (R74). -/
def Req.outside (r : Req) : Bool :=
  r.op.isWrite && !r.answered && (r.phase = .waitBeat || r.phase = .ingress || (r.phase = .peer && r.op.isLineWrite))

/-- PAUSE_TAKE_EFFECT: every write accepted before the boundary has entered a queue or been answered, and
the bursts of host commands have completed (R74, R76). (DEDUCED, log 24) -/
def pauseTakeEffect (s : State) : State :=
  if s.glb.ctl = .service && s.qz.ph = .boundary && !s.reqs.any Req.outside && (liveScs s).all (hostBusDone s) then
    pauseStarts s
  else s

def execPauseTakeEffect (s : State) : Res := run pauseTakeEffect s

/-- A row repair is in step 4: its repair sequence has been issued. -/
def repairMode (s : State) : Bool :=
  s.ras.ppr.any fun p => p.step = .mode && !((s.sched.get p.sc).maint.get 2).any MntCmd.repairs

/-- DEEP_PAUSE_SR_DONE: the bursts in progress are complete and every rank in service is in self-refresh
(R75, R76). (DEDUCED, log 24) -/
def deepPauseSrDone (s : State) : State :=
  if s.glb.ctl = .quiesced && s.qz.ph = .waitSr && (liveScs s).all (busDone s) && !repairMode s then
    updQz (fun q => { q with ph := .paused, ack := true, paused := true }) (srEnterAll s)
  else s

def execDeepPauseSrDone (s : State) : Res := run deepPauseSrDone s

/-- qz_ack falls when qz_req is low and the pause or drain has ended (R78). -/
def ackFalls (s : State) : State :=
  if s.qz.ph = .ended && !s.qz.req then updQz (fun q => { q with ph := .idle, ack := false }) s else s

/-- The pause has ended: SERVICE, and credits return (R76). -/
def finishPause (s : State) : State :=
  let s := updQz (fun q => { q with ph := .ended, paused := false }) s
  ackFalls (if s.glb.ctl = .quiesced then arriveService s else s)

/-- The pause starts to end: a deep one leaves self-refresh first (R76). -/
def endPause (s : State) : State :=
  if s.qz.ph ≠ .paused then s
  else if s.glb.ctl = .quiesced && s.qz.deep then updQz (fun q => { q with ph := .exiting }) s
  else finishPause s

/-- QZ_HOLD_EXPIRY: the hold time has elapsed since qz_paused rose (R76). -/
def qzHoldExpiry (s : State) : State := if s.qz.hold = 0xFFFF then s else endPause s

def execQzHoldExpiry (s : State) : Res := run qzHoldExpiry s

/-- QZ_REQ_FALL: a falling qz_req is recognised (R78). -/
def qzReqFall (s : State) : State :=
  if !s.qz.req then s else ackFalls (endPause (updQz (fun q => { q with req := false }) s))

def execQzReqFall (s : State) : Res := run qzReqFall s

/-- DEEP_PAUSE_EXIT_DONE: every rank has left self-refresh (R76, R78). -/
def deepPauseExitDone (s : State) : State :=
  if s.glb.ctl = .quiesced && s.qz.ph = .exiting then finishPause (srExitAll s) else s

def execDeepPauseExitDone (s : State) : Res := run deepPauseExitDone s

/-- DRAIN_BARRIER_COMPLETE: every accepted request has its response (R77). -/
def drainBarrierComplete (s : State) : State :=
  if s.glb.ctl = .service && s.qz.ph = .barrier && allAnswered s then barrierEnds s else s

def execDrainBarrierComplete (s : State) : Res := run drainBarrierComplete s

/-- The next aclk edge for a pause or drain whose qz_req has fallen before qz_ack rose (R78). -/
def qzTick (s : State) : State :=
  if s.qz.req then s else if s.qz.ph = .paused then endPause s else ackFalls s

end Sys2Proof.Machine
end

