-- ==== Sys2Proof/Machine/Clock.lean ====
section
/-! DEFINITION. The passing of one aclk cycle. -/

namespace Sys2Proof.Machine

/-- Core-clock cycles per aclk cycle of the active gear: the data rate is 8 bits per cc and pin, so
a gear of rate r × 400 MT/s runs cc at 50 r MHz, which is 2 r cycles per 40 ns. (DEDUCED, log 6) -/
def ccPerAc (s : State) : Nat := 2 * rateOf s s.glb.gear

/-- The clocks advance by one aclk cycle, which ends a cycle on every port and the one in which a word was
acknowledged (R54, R67, R102). Delay codes that are on their way move in the swap windows of the cycle (R296).
(DESIGN CHOICE, log 1; DEDUCED, log 6) -/
def tick (s : State) : State :=
  forAll (fins 4) codesGoOn <| portCycles { s with glb := { s.glb with
    now := s.glb.now + 1
    cc := if s.glb.coreRun then s.glb.cc + ccPerAc s else s.glb.cc
    ackGap := false } }

/-- One aclk cycle without a command (DESIGN CHOICE, log 1). In RESET nothing advances. A pause or drain whose qz_req fell
before its acknowledge ends at this edge (R78). -/
def idle (s : State) : State :=
  if s.glb.ctl = .reset then begin_ s else qzTick (tick (begin_ s))

end Sys2Proof.Machine
end

