-- ==== Sys2Proof/Machine/Replay.lean ====
section
/-! DEFINITION. Alerts, command replay, channel recovery and the progress watchdog (07 R207 to R214; 11
R369 to R373, R376; 16 R517, R518). -/

namespace Sys2Proof.Machine

/-! ### What an alert does to a sub-channel (R208, R209) -/

/-- ALERT_n is watched: the channel serves, DCK runs, its pads are those of a serving channel (R87): in CAST_ON from the
enabling of the pads on, later until its ranks are in self-refresh. Until then ALERT_n is watched in a gear change and a
deep pause too. (DESIGN CHOICE, log 67) -/
def alertWatched (s : State) (c : Ch) : Bool :=
  let asleep := s.pwr.sc.get (scA c) = .selfRefresh && s.pwr.sc.get (scB c) = .selfRefresh
  chLive s c && s.glb.coreRun && (s.glb.ch.get c).padsOn
    && (match s.glb.ctl with
      | .castOn => true
      | .service | .gearChange | .quiesced => !asleep
      | .bindOff => !asleep && !(s.glb.ch.get c).inSr && !s.pwr.bo.any fun b => b.from_ = .halted
      | _ => false)

/-- The last attempt of the sub-channel has ended and its window has not passed (R212). -/
def inWindow (s : State) (x : Sc) (q : Sched) : Bool := decide (q.attempts ≠ 0) && decide (ckNow s x ≤ q.replayEnd + replayWin s x)

/-- The data of a read was wholly captured by now (R209). -/
def wholly (s : State) (x : Sc) (r : RdTag) : Bool := decide (r.beat s + 8 ≤ ckNow s x)

/-- Held reads and reads in flight lose their data; one that was wholly captured keeps it (R209). The window is what
was issued within its length; that of an attempt, with what followed it, where the alert belongs to one (R208, R212). A
sequence in progress is kept beside the freeze. -/
def freeze (s : State) (x : Sc) (q : Sched) : Sched :=
  let left := match q.replay with
    | .running l => some l
    | .frozen l => l
    | _ => none
  let win := replayWin s x
  { q with
    replay := .frozen left
    window := if left.isSome then q.window
      else if inWindow s x q then q.window ++ q.since
      else q.recs.filter (fun h => decide (ckNow s x ≤ h.ck + win))
    lost := q.lost ++ q.heldRds.map (fun h => ⟨.host h.id, h.lla, h.ck⟩) ++ q.pipe.filter fun r => !wholly s x r
    pipe := q.pipe.filter (wholly s x)
    heldRds := []
    since := [] }

def freezeCh (c : Ch) (s : State) : State :=
  forAll [scA c, scB c] (fun x s => updSched x (freeze s x) s) s

/-- Requesters of maintenance reads. -/
def Origin.requester : Origin → Fin 7
  | .debug | .mrr => 1
  | .ledger _ => 3
  | .resilver => 4
  | .swatch _ | .repair _ => 2
  | .gliog _ _ _ => 5
  | _ => 6

/-- A lost read becomes an ordinary read again (R209). -/
def requeue (x : Sc) (r : RdTag) (s : State) : State :=
  match r.origin with
  | .host id => updSched x (fun q => { q with rq := q.rq.map fun e => if e.id = id then { e with issued := false } else e }) s
  | .merge id => updSched x (fun q => { q with wq := q.wq.map fun e => if e.id = id then { e with merge := .needRead } else e }) s
  | o => mntAdd x o.requester (.lineRead o r.lla)
      (updMir (fun m => { m with locks := m.locks.filter (· ≠ r.lla) }) (unlockLine x r.lla s))

/-- The channel goes on: what was lost is read again. -/
def resume (c : Ch) (s : State) : State :=
  forAll [scA c, scB c] (fun x s =>
    let l := (s.sched.get x).lost
    forAll l (requeue x) (updSched x (fun q => { q with lost := [], replay := .none }) s)) s

/-! ### Replay sequences (R210, R212) -/

/-- Step 1: PREab to every rank with an open bank or an ACT in the window. -/
def replayClose (q : Sched) : List Cmd :=
  let r := q.rows.map (fun o => (o.cs, o.lr)) ++ (q.window.filter fun h => h.cmd.kind = .act).map fun h => (h.cmd.cs, h.cmd.lr)
  (r.foldl (fun a p => if a.contains p then a else a ++ [p]) []).map fun p =>
    { kind := .preAb, cs := p.1, lr := p.2, bg := 0, ba := 0, row := 0, col := 0, ap := false }

/-- Step 3: the whole window, or its writes. -/
def replayBody (q : Sched) : List Cmd :=
  (q.window.map Issued.cmd).filter fun c => !q.crcOnly || c.kind = .wr

/-- Start an attempt on an affected sub-channel. -/
def startAttempt (x : Sc) (n : Nat) (s : State) : State :=
  let q := s.sched.get x
  let s := updSched x (fun q => { q with attempts := n, since := [], replay := .running ⟨1, replayClose q, replayBody q⟩ }) s
  let s := bump (rSch x 9) s
  regSet (0xC014 + 0x400 * x.val) (pack [(n, 16), (min 320 q.window.length, 0)]) s

/-- The class of an alert by its width (R370): 0 parity, 1 write CRC, 2 unclassified, 3 back-off. -/
def alertClass (s : State) (w : Nat) : Fin 4 :=
  let p := regGet s 0x14014
  let r := regGet s 0x14018
  if fld p 29 20 ≤ w ∧ w ≤ fld p 19 10 then 1
  else if fld p 9 0 ≤ w ∧ w ≤ fld r 19 10 then 0
  else if fld r 9 0 ≤ w ∧ regBit s 0x10000 19 then 3
  else 2

/-- The sub-channels that an alert of a class affects (R370). One in self-refresh takes no command and is not affected.
(DEDUCED, log 16) -/
def affects (s : State) (cls : Fin 4) (x : Sc) : Bool :=
  let w := (s.sched.get x).window
  s.pwr.sc.get x ≠ .selfRefresh && match cls with
    | 0 => !w.isEmpty
    | 1 => w.any fun h => h.cmd.kind = .wr
    | 2 => true
    | 3 => false

/-- CA_PARITY_REPLAY and WRITE_CRC_REPLAY (R376). -/
def replayRecord (c : Ch) (s : State) : State :=
  let a := s.alert.get c
  let ty := if a.cls = 1 then 8 else 7
  limited (0x200 + 4 * ty + c.val) (cePeriod s) (fun n s => raise ty 1 4
    [pack [(c.val, 31), (a.affected.toNat, 29), (a.attempts, 27), (min 320 a.cmds, 18), (sat 1023 a.width, 8), (a.cls.val, 4)],
     BitVec.ofNat 32 (sat 0xFFFFFFFF n)] s) s

/-! ### REPLAY_FAIL, recovery and loss of a channel (R212, R371, R372, R498) -/

/-- Reads held: entries whose data is awaited, lost or held. (DEDUCED, log 16) -/
def readsHeld (s : State) (c : Ch) : Nat :=
  ([scA c, scB c].map fun x => ((s.sched.get x).rq.filter fun e => e.issued).length).sum

/-- REPLAY_FAIL (R376). -/
def failRecord (c : Ch) (phase lost time : Nat) (sev : Fin 8) (s : State) : State :=
  raise 9 sev 4
    [pack [(c.val, 31), ((s.alert.get c).failedSc.toNat, 29), (phase, 27), (min 511 (readsHeld s c), 18), (min 511 lost, 9)],
     BitVec.ofNat 32 time] s

/-- Writes of a channel that have not been issued are lost in Bind-Off (R498). -/
def loseUnissued (c : Ch) (s : State) : State :=
  forAll [scA c, scB c] (fun x s =>
    let q := s.sched.get x
    let n := (q.wq.filter fun e => !e.issued).length
    boCount (fun b => { b with lost := b.lost + n })
      (updMir (fun m => { m with dirtyCopy := m.dirtyCopy.filter fun k => decide ((copyLine s k).1 ≠ c) })
      (updSched x (fun q => { q with wq := q.wq.filter (fun e => e.issued), copy := [], replay := .none, lost := [] }) s))) s

/-- The recovery of a channel begins (R371); during Bind-Off none runs (R498). -/
def startRecovery (c : Ch) (failed : BitVec 2) (wdog : Bool) (s : State) : State :=
  let s := updAlert c (fun a => { a with failedSc := failed, slept := false, byWdog := wdog, recovering := s.glb.ctl ≠ .bindOff, recFrom := s.glb.now, low := false }) s
  let s := failRecord c 0 0 0 3 s
  if s.glb.ctl = .bindOff then loseUnissued c s
  else forAll [scA c, scB c] (fun x s => updSched x (fun q => { q with replay := .failed }) s) s

/-- The third attempt of a replay has failed (R212). (DEDUCED, log 16) -/
def replayFail (c : Ch) (s : State) : State :=
  let f := (s.alert.get c).affected
  let mark (x : Sc) (b : Nat) (s : State) : State := onlyIf (f.getLsbD b) (sqSet (rSchStatus x) 0x8) s
  startRecovery c f false (mark (scA c) 0 (mark (scB c) 1 s))

/-- Every region of a channel that no longer serves counts as initialised (R163). -/
def chInit (c : Ch) (s : State) : State :=
  let m : BitVec 1048576 := BitVec.ofNat 1048576 ((2 ^ 524288 - 1) * 2 ^ (524288 * c.val))
  initDone (updGlb (fun g => { g with
    init := g.init ||| m
    initWait := g.initWait.filter (fun r => decide (r / 2 ^ 19 ≠ c.val))
    onDemand := vset (vset g.onDemand (scA c) []) (scB c) []
    zero := vset (vset g.zero (scA c) []) (scB c) [] }) s)

/-- The entries of a sub-channel whose channel is gone: reads fail or go to the peer, writes that have
not been issued are lost; a mirrored one that has not been forwarded goes on as one of a dead rank
(R372, R387, R394). -/
def strandSc (x : Sc) (s : State) : State :=
  let q := s.sched.get x
  let s := updSched x (fun q => { q with
    rq := [], wq := [], copy := [], pipe := [], lost := [], heldRds := [], locks := [], rows := []
    replay := .none, maint := Vector.replicate 7 [], holder := none }) s
  let s := forAll q.wq (fun e s => match findReq s e.id with
    | some r =>
      if r.twoSided s && !e.forwarded && !r.answered then writeDead { r with data := e.data } s
      else if r.twoSided s && !e.forwarded then finish r.id s
      else writtenToDram r.id s
    | none => s) s
  forAll q.rq (fun e s => match findReq s e.id with
    | some r => if r.answered then finish r.id s else readDead r s
    | none => s) s

/-- A channel goes out of service (R372). (DEDUCED, log 16) -/
def loseChannel (c : Ch) (s : State) : State :=
  let lost := ([scA c, scB c].map fun x => (s.sched.get x).wq.length).sum
  let t := (s.glb.now - (s.alert.get c).recFrom) / us 1
  let s := failRecord c 2 lost t 4 s
  let s := updAlert c (fun a => { a with recovering := false, oos := true, low := false }) s
  let s := rasLose c (sqSet rRasStatus (pack [(1, 16 + c.val)]) s)
  let s := chInit c (strandSc (scB c) (strandSc (scA c) s))
  reqRole 0 (pumpCopy s)

/-- Put commands on the bus without regard to the cc: a recovery or a reset of the sub-channel runs them
as fast as the timing rules allow. (DEDUCED, log 16) -/
def force (fuel : Nat) (x : Sc) (c : Cmd) (later : List Cmd) (s : State) : State :=
  match fuel with
  | 0 => s
  | n + 1 =>
    let d := replayCmd s x c
    let t := earliest s x (ckNow s x) d
    let s := updSched x (fun q => { q with ck := t }) (busCmd x t d false false s)
    if d = c then (if c.kind = .wr then replayWrite x t c later s else s) else force n x c later s

/-- Every chip select with an open bank is precharged, then each enters self-refresh. -/
def sleepRanks (x : Sc) (s : State) : State :=
  let q := s.sched.get x
  toRanks x .sre false (forAll (replayClose { q with window := [] }) (fun c s => force 1 x c [] s) s)

/-- Steps 1 and 2 of a recovery, once both sub-channels have no burst in progress (R371). -/
def recoverySleep (c : Ch) (s : State) : State :=
  let a := s.alert.get c
  let quiet (x : Sc) : Bool := let q := s.sched.get x; q.pipe.isEmpty && q.lost.isEmpty && q.lines.all WrTag.done
  if a.recovering && !a.slept && quiet (scA c) && quiet (scB c) then
    updAlert c (fun a => { a with slept := true }) (forAll [scA c, scB c] sleepRanks s)
  else s

/-- CA_ALIGN runs on a sub-channel (R319, R371). (DESIGN CHOICE, log 40) -/
def recoveryAlign (x : Sc) (s : State) : State :=
  let set (on : Bool) (s : State) : State := toRanks x .mrw false s (.set (.training .ca on))
  set false (set true s)

/-- A recovery fails (R371, R372): one that a watchdog has caused is reported by timer 0x09 (R518). -/
def recoveryFails (c : Ch) (s : State) : State :=
  loseChannel c (onlyIf (s.alert.get c).byWdog (timeout 0x09 4 4 false (subjSc (scA c) 0 0) 0) s)

/-- Every chip select exits self-refresh, and the calendar is rebuilt. -/
def wakeRanks (x : Sc) (s : State) : State := buildCalendar x (toRanks x .srx false s)

/-- The writes of the last replay window are issued again (R371). -/
def rewriteWindow (x : Sc) (s : State) : State :=
  let ws := ((s.sched.get x).window.map fun h => { h.cmd with ap := false, arg := .none }).filter fun d => d.kind = .wr
  forAll ws.zipIdx (fun e s => force 3 x e.1 (ws.drop (e.2 + 1)) s) s

/-- CHANNEL_RECOVERY_DONE: the sequence has run: both sub-channels sleep, DCK stops and starts, each takes the
phase that CA_ALIGN found, wakes, reads one mode register of every chip select and issues the writes of its last window
again; held reads are read again and service resumes. Without a phase on either, step 3 has failed, and with it the
recovery (R371). (DEDUCED, log 16) -/
def recoveryDone (c : Ch) (pa pb : Option (BitVec 3)) (s : State) : State :=
  let a := s.alert.get c
  if !a.recovering then s
  else
    let t := (s.glb.now - a.recFrom) / us 1
    let scs := [scA c, scB c]
    let s := forAll scs recoveryAlign (dckStop c (onlyIf (!a.slept) (forAll scs sleepRanks) s))
    match pa, pb with
    | some pa, some pb =>
      let s := dckStart c s
      let s := updPhySc (scB c) (fun p => { p with caPhase := pb }) (updPhySc (scA c) (fun p => { p with caPhase := pa }) s)
      let s := forAll scs (fun x s => toRanks x .mrr false s (.get .check)) (forAll scs wakeRanks s)
      let s := forAll scs rewriteWindow s
      let s := sqSet rRasStatus (pack [(1, 14 + c.val)]) (failRecord c 1 0 t 1 (freezeCh c s))
      updAlert c (fun a => { a with recovering := false, slept := false, attempts := 0 }) (resume c s)
    | _, _ => recoveryFails c s

def execChannelRecoveryDone (r : Recovery) (s : State) : Res := run (recoveryDone r.ch r.caA r.caB) s

/-- CHANNEL_RECOVERY_TIMEOUT: the recovery failed or took too long (R371, R372). -/
def recoveryTimeout (c : Ch) (s : State) : State :=
  if !(s.alert.get c).recovering then s
  else loseChannel c (timeout 0x09 4 4 false (subjSc (scA c) 0 0) 0 s)

def execChannelRecoveryTimeout (ch : Ch) (s : State) : Res := run (recoveryTimeout ch) s

/-! ### The alert (R208 to R212, R370) -/

/-- An attempt is in progress, or its window has not passed (R212). -/
def inAttempt (s : State) (c : Ch) : Bool :=
  [scA c, scB c].any fun x =>
    let q := s.sched.get x
    match q.replay with
    | .running _ => true
    | .none => inWindow s x q
    | _ => false

/-- An alert ends a row repair of its channel with outcome 2, through steps 5 and 6, those of them that are left (R373). -/
def pprAlert (c : Ch) (s : State) : State :=
  let end_ (p : Ppr) : Ppr :=
    if chOf p.sc = c then { p with step := if p.step = .verify then .verify else .writeBack, outcome := 2 } else p
  updRas (fun a => { a with ppr := a.ppr.map end_ }) s

/-- ALERT_RECOGNISED: ALERT_n has been low for at least 4 ck (R208). During a recovery it fails the recovery once its
second step is done, and has no effect before (R371). (DEDUCED, log 16) -/
def alertRecognised (c : Ch) (s : State) : State :=
  let a := s.alert.get c
  if !alertWatched s c || a.low then s
  else if a.recovering then onlyIf a.slept (recoveryFails c) s
  else
    let again := inAttempt s c
    freezeCh c (updAlert c (fun a => { a with low := true, again := again }) (pprAlert c s))

def execAlertRecognised (ch : Ch) (s : State) : Res := run (alertRecognised ch) s

/-- Start a replay, or a further attempt, for a classified alert (R210, R212). -/
def startReplay (c : Ch) (cls : Fin 4) (w : Nat) (s : State) : State :=
  let a := s.alert.get c
  let hit (x : Sc) (b : Nat) : Bool := affects s cls x || (a.again && a.affected.getLsbD b)
  let aff : BitVec 2 := BitVec.ofNat 2 (b2n (hit (scA c) 0) + 2 * b2n (hit (scB c) 1))
  let n := if a.again then a.attempts + 1 else 1
  let cmds := max (s.sched.get (scA c)).window.length (s.sched.get (scB c)).window.length
  let s := updAlert c (fun a => { a with cls := cls, width := w, attempts := n, affected := aff, cmds := cmds, again := false }) s
  if aff = 0 then updAlert c (fun a => { a with attempts := 0 }) (resume c (replayRecord c s))
  else
    forAll [(scA c, 0), (scB c, 1)] (fun p s =>
      let s := updSched p.1 (fun q => { q with crcOnly := decide (cls = 1) && (!a.again || q.crcOnly) }) s
      if aff.getLsbD p.2 then startAttempt p.1 n s else s) (boCount (fun b => { b with replayRan := true }) s)

/-- Some sub-channel of the channel had its sequence interrupted by the alert. -/
def interrupted (s : State) (c : Ch) : Bool :=
  [scA c, scB c].any fun x => match (s.sched.get x).replay with
    | .frozen l => l.isSome
    | _ => false

/-- The sequences that the alert interrupted go on. -/
def unfreeze (q : Sched) : Sched :=
  { q with replay := match q.replay with
    | .frozen (some l) => .running l
    | r => r }

/-- ALERT_RELEASE: ALERT_n is high again after a low width of `w` ck (R210, R242, R258, R370). A back-off
request starts no replay, and a replay in progress goes on. Any other alert in the third attempt or its window fails
the replay (R212). -/
def alertRelease (c : Ch) (w : Nat) (s : State) : State :=
  let a := s.alert.get c
  if !a.low then s
  else
    let s := updAlert c (fun a => { a with low := false }) s
    let cls := alertClass s w
    if cls = 3 then
      let s := updAlert c (fun a => { a with again := false }) (aboRequest c s)
      if interrupted s c then forAll [scA c, scB c] (fun x s => updSched x unfreeze s) s else resume c s
    else if a.again && decide (3 ≤ a.attempts) then replayFail c (expired 0x01 s)
    else startReplay c cls w s

def execAlertRelease (ch : Ch) (width : BitVec 16) (s : State) : Res := run (alertRelease ch width.toNat) s

/-- The sequence of a sub-channel has been issued, or it takes no part. -/
def Replay.over : Replay → Bool
  | .running r => r.step = 3 && r.todo.isEmpty
  | .frozen _ | .none => true
  | _ => false
def Replay.runs : Replay → Bool
  | .running _ => true
  | _ => false

/-- REPLAY_ATTEMPT_END: every affected sub-channel has issued its sequence without a further alert: the
replay is recorded and service goes on (R210 to R212, R370). -/
def replayAttemptEnd (c : Ch) (s : State) : State :=
  let a := s.alert.get c
  let isOver (x : Sc) : Bool := (s.sched.get x).replay.over
  let runs (x : Sc) : Bool := (s.sched.get x).replay.runs
  if a.low || !(isOver (scA c) && isOver (scB c)) || !(runs (scA c) || runs (scB c)) then s
  else
    let s := forAll [scA c, scB c] (fun x s =>
      if (s.sched.get x).replay.runs then
        bump (rRas x (if a.cls = 1 then 8 else 7)) (sqSet (rSchStatus x) 0x4 (updSched x (fun q => { q with replayEnd := q.ck }) s))
      else s) s
    resume c (replayRecord c (sqSet rRasStatus (pack [(1, 12 + c.val)]) s))

def execReplayAttemptEnd (ch : Ch) (s : State) : Res := run (replayAttemptEnd ch) s

/-- ALERT_HELD_LOW_TIMEOUT: ALERT_n has been low for 10 µs, which counts as a third failed attempt (R517): of the
sub-channels that the replay in progress affects, or of both. -/
def alertHeldLow (c : Ch) (s : State) : State :=
  if !(s.alert.get c).low then s
  else
    let s := timeout 0x02 3 4 false (subjSc (scA c) 0 0) 0 s
    let aff (a : Alert) : BitVec 2 := if a.again && decide (a.affected ≠ 0) then a.affected else 3
    replayFail c (updAlert c (fun a => { a with affected := aff a, attempts := 3 }) s)

def execAlertHeldLowTimeout (ch : Ch) (s : State) : Res := run (alertHeldLow ch) s

/-! ### Progress watchdog (R213, R214, R518) -/

/-- Something has a command to issue (R213). -/
def hasWork (s : State) (x : Sc) : Bool :=
  let q := s.sched.get x
  (s.glb.ctl ≠ .quiesced && !(hostWants q).isEmpty) || q.maint.toList.any fun l => !l.isEmpty

/-- PROGRESS_WATCHDOG_EXPIRY (R213, R214): bursts in progress complete, every rank is precharged, and the timing
engine starts again with every bank idle for tRP. A second expiry within 1 ms starts the channel's recovery, and its
record, which R518 gives it, is not limited. -/
def watchdog (x : Sc) (s : State) : State :=
  let q := s.sched.get x
  if !busOn s x || q.replay = .failed || !hasWork s x then s
  else
    let again := q.wdogLast.any fun t => decide (s.glb.now ≤ t + ms 1)
    let s := sqSet (rSchStatus x) 0x10 (timeoutBy again 0x08 (if again then 3 else 1) 2 again (subjSc x 0 0) 0 s)
    let s := updSched x (fun q => { q with wdogLast := some s.glb.now }) s
    if again then
      startRecovery (chOf x) (if x.val % 2 = 0 then 1 else 2) true (freezeCh (chOf x) s)
    else
      let last (k : CmdKind → Bool) (f : Issued → Nat) (q : Sched) : Nat := (q.hist.filter fun h => k h.cmd.kind).foldl (fun m h => max m (f h)) q.ck
      let s := updSched x (fun q => { q with ck := last CmdKind.isCol (fun h =>
        h.ck + (if h.cmd.kind = .wr then tim s pCwl + tim s pWbl else tim s pCl + 8)) q }) s
      let s := toRanks x .preAb true s
      updSched x (fun q => { q with rows := [], hist := [], ck := last (· = .preAb) Issued.ck q + tim s pRp }) s

def execProgressWatchdogExpiry (sc : Sc) (s : State) : Res := run (watchdog sc) s

end Sys2Proof.Machine
end

