-- ==== Sys2Proof/Machine/Ras.lean ====
section
/-! DEFINITION. Scrub, error accounting, device marks, row repair, rank sparing and debug operations (11
R347 to R368; 07 R227). -/

namespace Sys2Proof.Machine

/-! ### The repair list (R363, R364) -/

/-- The entries of a channel, word by word. -/
def rplWords (s : State) (c : Ch) : List Word :=
  (s.ras.rpl.filter fun e => bitOf e.1 27 = decide (c.val = 1)).flatMap fun e => [e.1, e.2]

/-- The lines of the repair list copy: the count with the CRC, then eight entries each. -/
def rplLines (s : State) (c : Ch) : List Line :=
  let w := rplWords s c
  lineOfWords [BitVec.ofNat 32 (w.length / 2), wordsCrc w] ::
    (List.range ((w.length + 15) / 16)).map fun i => lineOfWords ((w.drop (16 * i)).take 16)

/-- The LLA of line i of the copy: byte offset 4 MiB of the system region. -/
def rplLla (s : State) (c : Ch) (i : Nat) : Lla := sysLine s c (65536 + i)

/-- Rewrite the copy of a channel (R364). (DEDUCED, log 28) -/
def rplCopy (c : Ch) (s : State) : State :=
  if chLive s c then
    forAll (rplLines s c).zipIdx (fun p s => mntAdd (scA c) 2 (.lineWrite (rplLla s c p.2) p.1 false false) s) s
  else s

/-- Append an entry. A full list takes none: the manual says so of a soft repair, which ends before it makes one, and not
of a mark or of sparing, which stay in force without an entry (DESIGN CHOICE, log 67). -/
def rplPut (e : Word × Word) (s : State) : State :=
  if 256 ≤ s.ras.rpl.length then s else updRas (fun a => { a with rpl := a.rpl ++ [e] }) s
def rplAdd (c : Ch) (e : Word × Word) (s : State) : State := rplCopy c (rplPut e s)

/-- Word 0 of an entry. -/
def rplWord0 (kind hard : Nat) (x : Sc) (cs lr dev bg ba spare : Nat) : Word :=
  pack [(1, 31), (kind, 29), (hard, 28), (x.val, 26), (cs, 24), (lr, 20), (dev, 16), (bg, 13), (ba, 11), (spare, 9)]

/-! ### The patrol pass (R347 to R349) -/

/-- Units of a sub-channel in service, in ascending LLA order. -/
def scrubUnits (s : State) (x : Sc) : List Nat := (List.range (nUnits s)).filter fun u => csLive s (chOf x) (u / nLr s)

/-- The unit whose System region its channel uses: that of sub-channel A, chip select 0, logical rank 0 (R180). -/
def sysUnit (x : Sc) (u : Nat) : Bool := x.val % 2 = 0 && u = 0

/-- Regions of a unit in a pass: all but the swatch region, the last but one, and but a System region that is not used,
which is never accessed (R180, R347). (DEDUCED, log 30) -/
def unitRegions (s : State) (x : Sc) (u : Nat) : Nat := nRows s / 64 - (if sysUnit x u then 1 else 2)
def scrubRegions (s : State) (x : Sc) : Nat := ((scrubUnits s x).map (unitRegions s x)).sum
/-- L: the lines of a pass. -/
def scrubLines (s : State) (x : Sc) : Nat := scrubRegions s x * 2 ^ 18

/-- The unit of a region of a pass, and the place of the region in the unit. -/
def regionAt (len : Nat → Nat) (r : Nat) : List Nat → Nat × Nat
  | [] => (0, r)
  | u :: rest => if r < len u then (u, r) else regionAt len (r - len u) rest

/-- Line n of a pass. -/
def scrubLla (s : State) (x : Sc) (n : Nat) : Lla :=
  let (u, b) := regionAt (unitRegions s x) (n / 2 ^ 18) (scrubUnits s x)
  let b := if unitRegions s x u ≤ b + 1 then nRows s / 64 - 1 else b
  let i := n % 2 ^ 18
  Coord.lla { line := i % 128, bank := i / 128 % 4, bg := i / 512 % 8, row := 64 * b + i / 4096
              lr := u % nLr s, cs := u / nLr s, sub := x.val % 2, ch := x.val / 2 }

/-- Every populated region of the sub-channel is initialised (R167, R347). -/
def scInit (s : State) (x : Sc) : Bool :=
  let m := 2 ^ (nRows s / 64) - 1
  (scrubUnits s x).all fun u =>
    let base := x.val * 2 ^ 18 + u / nLr s * 2 ^ 16 + u % nLr s * 2 ^ 12
    decide (s.glb.init.toNat / 2 ^ base &&& m = m)

/-- Period in ac. -/
def scrubPeriod (h : Nat) : Nat := 3600 * 25000000 * h
def scrubCfgH (s : State) : Nat := max 1 (regFld s 0x1400C 15 0)
def scrubEn (s : State) : Bool := regBit s 0x1400C 31

def updScrub (x : Sc) (f : Scrub → Scrub) (s : State) : State := updRas (fun a => { a with scrub := vmod a.scrub x f }) s

/-- Start a pass at t0 from the lowest region. -/
def scrubStart (x : Sc) (t0 : Nat) (s : State) : State :=
  updScrub x (fun c => { c with active := true, done := 0, t0 := t0, missed := false, periodH := scrubCfgH s }) s

/-- A line of the pass is done; the last one completes the pass, and the next starts at max(now, t0 + P). -/
def scrubStep (x : Sc) (s : State) : State :=
  let c := s.ras.scrub.get x
  if !c.active then s
  else if scrubLines s x ≤ c.done + 1 then
    bump (0x14050 + 0x10 * x.val) (scrubStart x (max s.glb.now (c.t0 + scrubPeriod c.periodH)) s)
  else updScrub x (fun c => { c with done := c.done + 1 }) s

/-- Lines that the pass should have done by now (R348). -/
def scrubTarget (s : State) (x : Sc) : Nat :=
  let c := s.ras.scrub.get x
  scrubLines s x * (s.glb.now - c.t0) / max 1 (scrubPeriod c.periodH)

/-- The pass has a line to read now: behind its target, or past its deadline (R348, R349). -/
def scrubBehind (s : State) (x : Sc) : Bool :=
  let c := s.ras.scrub.get x
  c.active && decide (c.t0 ≤ s.glb.now) && (c.missed || decide (c.done < scrubTarget s x))

/-- Reads of the scrubber. -/
def Origin.isScrub : Origin → Bool
  | .patrol | .oot | .sparing => true
  | _ => false
def MntCmd.scrubs (m : MntCmd) : Bool :=
  match m.op with
  | .lineRead o _ => o.isScrub
  | .lineWrite _ _ _ back => back
  | .spareWrite _ _ _ => true
  | _ => false

/-- One read-then-write of the scrubber is under way on the sub-channel. -/
def scrubBusy (s : State) (x : Sc) : Bool :=
  let q := s.sched.get x
  (q.maint.get 6).any MntCmd.scrubs || q.pipe.any (fun t => t.origin.isScrub) || q.lost.any (fun t => t.origin.isScrub)
    || s.ras.fetch.any fun f => f.1 = x

/-- The line to copy next: that of the frontier. -/
def spareLine (s : State) (x : Sc) : Option Lla :=
  let p := s.ras.spare.get (chOf x)
  let n := p.frontier.get ⟨x.val % 2, Nat.mod_lt _ (by decide)⟩
  if p.st = .copying ∧ n < 4096 * nRows s * nLr s then
    some (Coord.lla { line := n % 128, bank := n / 128 % 4, bg := n / 512 % 8, row := n / 4096 % nRows s
                      lr := n / 4096 / nRows s, cs := p.replaced.toNat, sub := x.val % 2, ch := x.val / 2 })
  else none

/-- What the scrubber asks for: a line of the out-of-turn list, of a sparing copy, or of the pass. A line
that a write is about to change counts as rewritten (R222), but a copy waits for it. The copy of a line in an
uninitialised region would write zeros: it demands the region, and waits for it (R165, R167). -/
def scrubOffer (x : Sc) (s : State) : State :=
  let c := s.ras.scrub.get x
  let s := onlyIf (!c.active && scrubEn s && s.glb.ctl = .service && chLive s (chOf x) && scInit s x)
    (scrubStart x s.glb.now) s
  if scrubBusy s x || !chLive s (chOf x) then s
  else
    match c.oot with
    | l :: rest =>
      let s := updScrub x (fun c => { c with oot := rest }) s
      if lineBusy (s.sched.get x) l || !rankLive s l then s else mntAdd x 6 (.lineRead .oot l) s
    | [] =>
      match spareLine s x with
      | some l => if regionInit s l then mntAdd x 6 (.lineRead .sparing l) s else demand l s
      | none =>
        if (s.ras.spare.get (chOf x)).st = .copying || !scrubBehind s x then s
        else
          let l := scrubLla s x (s.ras.scrub.get x).done
          if lineBusy (s.sched.get x) l then scrubStep x s else mntAdd x 6 (.lineRead .patrol l) s

/-- SCRUB_DEADLINE_MISS: lines of the pass are left at t0 + P (R349, R378). Before that time nothing is done. -/
def scrubDeadline (x : Sc) (s : State) : State :=
  let c := s.ras.scrub.get x
  if !c.active || c.missed || decide (s.glb.now < c.t0 + scrubPeriod c.periodH) then s
  else
    let left := scrubRegions s x - c.done / 2 ^ 18
    let s := sqSet rRasStatus (pack [(1, x.val)]) (updScrub x (fun c => { c with missed := true }) s)
    raise 0x1D 0 4 [pack [(x.val, 30)], regGet s (0x14050 + 0x10 * x.val), pack [(left, 0)]] s

def execScrubDeadlineMiss (sc : Sc) (s : State) : Res := run (scrubDeadline sc) s

/-- A patrol read that waits for its grant. -/
def MntCmd.patrols (m : MntCmd) : Bool :=
  match m.op with
  | .lineRead .patrol _ => true
  | _ => false

/-- RAS_SCRUB_CFG has a new value: clearing RAS_SCRUB_EN abandons the pass, setting it starts a new one
at once; the period applies from the next pass (R349). -/
def actScrubCfg (old : Word) (s : State) : State :=
  forAll (fins 4) (fun x s =>
    if !scrubEn s then
      updSched x (fun q => { q with maint := vmod q.maint 6 fun l => l.filter fun m => !m.patrols })
        (updScrub x (fun c => { c with active := false, done := 0, missed := false }) s)
    else if !bitOf old 31 && chLive s (chOf x) && scInit s x then scrubStart x s.glb.now s
    else s) s

/-! ### SCRUB_READ_DECODE (R350 to R353) -/

/-- The origin of R374: 2 patrol, 4 sparing copy; 0 stands for an out-of-turn read, which raises no
record. -/
def Origin.scrubCode : Origin → Nat
  | .patrol => 2
  | .sparing => 4
  | _ => 0

/-- The record of a scrub event, with the line rewritten (R350, R374). -/
def scrubRecord (l : Lla) (d : Decoded) (dev origin : Nat) (repaired lost : Bool) (s : State) : State :=
  if origin = 0 then s
  else
    let i : RasInfo := { RasInfo.of origin dev with repaired := repaired, rewritten := true }
    match d.outcome with
    | .addrMismatch => rasRaise 6 3 false l d i s
    | _ => if lost then rasRaise 4 2 false l d i s else rasRaise 3 1 true l d i s

/-- Write a line back; a sparing copy writes it to the spare too. The last write releases the lock. -/
def scrubBack (x : Sc) (l : Lla) (data : Line) (poison : Bool) (origin : Nat) (s : State) : State :=
  let s := mntAdd x 6 (.lineWrite l data poison (decide (origin ≠ 4))) s
  onlyIf (decide (origin = 4)) (mntAdd x 6 (.spareWrite l data poison)) s

/-- Nothing is written back. -/
def scrubKeep (x : Sc) (l : Lla) (data : Line) (poison : Bool) (origin : Nat) (s : State) : State :=
  if origin = 4 then mntAdd x 6 (.spareWrite l data poison) s else unlockLine x l s

/-- A lost line is written back as the poison codepoint (R350). -/
def scrubPoison (x : Sc) (l : Lla) (d : Decoded) (dev origin : Nat) (s : State) : State :=
  scrubRecord l d dev origin false true (scrubBack x l 0 true origin s)

/-- The peer copy of a lost line has arrived (R350): its data, a poison answer, or neither. -/
def scrubFetched (x : Sc) (l : Lla) (st : Option Status) (data : Line) (s : State) : State :=
  match s.ras.fetch.find? fun f => f.1 = x && f.2.1 = l with
  | none => s
  | some (_, _, d, dev, origin) =>
    let s := updRas (fun a => { a with fetch := a.fetch.filter fun f => !(f.1 = x && f.2.1 = l) }) s
    match st with
    | some .ok | some .corrected =>
      scrubRecord l d dev origin true false (bump (rRas x 6) (scrubBack x l data false origin s))
    | _ => scrubPoison x l d dev origin s

/-- A scrub read is decoded: counted, accounted, and handled by R350. -/
def scrubDecode (x : Sc) (t : RdTag) (rx : Capture) (s : State) : State :=
  let l := t.lla
  let b := t.burst s rx
  let d := t.decode s rx
  let dev := errDevice s l d b
  let o := t.origin.scrubCode
  let s := compareLanes t rx d (account l d b (countScrub x d.outcome s))
  let s := onlyIf (decide (o = 2)) (scrubStep x) s
  match d.outcome with
  | .clean => scrubKeep x l d.data false o s
  | .poison => scrubKeep x l 0 true o s
  | .corrected => scrubRecord l d dev o false false (scrubBack x l d.data false o s)
  | _ =>
    if lineMirrored s l && lineHealthy s l then
      egpAsk (peerOp s .mirrorRead (sysAddr s l) 0 (.scrubFetch x l)) (updRas (fun a => { a with fetch := a.fetch ++ [(x, l, d, dev, o)] }) s)
    else scrubPoison x l d dev o s

/-- SCRUB_READ_DECODE: the data of the oldest scrub read of the sub-channel is captured. -/
def scrubReadDecode (x : Sc) (rx : Capture) (s : State) : State :=
  match takeTag x Origin.isScrub s with
  | none => s
  | some (t, s) => scrubDecode x t rx s

def execScrubReadDecode (sc : Sc) (rx : Capture) (s : State) : Res := run (scrubReadDecode sc rx) s

/-- ERROR_LEAK: every non-zero device counter decreases by 1 (R354). -/
def errorLeak (s : State) : State :=
  updRas (fun a => { a with units := a.units.map fun e => (e.1, { e.2 with cnt := e.2.cnt.map fun c => if c = 0 then 0 else c - 1 }) }) s

def execErrorLeak (s : State) : Res := run errorLeak s

/-! ### Marks and sparing (R357, R358, R365 to R368) -/

/-- Sparing may start on a channel (R365). -/
def spareMay (s : State) (c : Ch) : Bool := regBit s 0x14000 2 && (s.ras.spare.get c).st = .available

/-- The trigger of a device counter. -/
def markReq (s : State) (x : Sc) (u : Nat) (d : Fin 10) : SpareReq :=
  ⟨0, BitVec.ofNat 2 (u / max 1 (nLr s)), x, u % max 1 (nLr s), d.val, ((rasUnit s x u).cnt.get d).toNat⟩

/-- The action that reports a trigger of a device counter as not applied (R357). -/
def markRefused (s : State) : Nat := if isX8 s then 1 else 2

/-- DEVICE_MARKED: a device counter has reached RAS_MARK_THRESHOLD (R357). -/
def deviceMarked (x : Sc) (u : Nat) (d : Fin 10) (s : State) : State :=
  if !s.ras.reached.contains (x, u, d) then s
  else
    let s := updRas (fun a => { a with reached := a.reached.filter (· ≠ (x, u, d)) }) s
    let r := markReq s x u d
    let z := rasUnit s x u
    if !isX8 s && z.mark = none then
      let s := sqSet rRasStatus (pack [(1, 20 + x.val)]) (setUnit x u { z with mark := some d } s)
      rplAdd (chOf x) (rplWord0 1 0 x r.cs.toNat r.lr d.val 0 0 0, pack [(r.count, 24)]) (markedRecord r 0 0 0 s)
    else if spareMay s (chOf x) then spareAsk (chOf x) r s
    else markedRecord r (markRefused s) 0 0 s

def execDeviceMarked (sc : Sc) (unit : Fin 64) (dev : Fin 10) (s : State) : Res := run (deviceMarked sc unit.val dev) s

/-- A trigger that starts no sparing (R365). -/
def spareRefuse (r : SpareReq) (spare : Nat) (s : State) : State :=
  if r.why = 0 then markedRecord r (markRefused s) 0 0 s
  else
    let s := markedRecord r 5 spare 0 s
    onlyIf (decide (r.why = 2)) (setResult false (if regBit s 0x14000 2 then 4 else 3)) s

/-- Close every open row of a chip select, as fast as timing allows. -/
def shutCs (x : Sc) (cs : BitVec 2) (s : State) : State :=
  forAll (distinct (((s.sched.get x).rows.filter fun o => o.cs = cs).map fun o => o.lr.toNat))
    (fun lr s => force 1 x { kind := .preAb, cs := cs, lr := BitVec.ofNat 4 lr, bg := 0, ba := 0, row := 0, col := 0, ap := false } [] s) s

/-- A command to one physical chip select. -/
def pinOne (x : Sc) (d : Cmd) (s : State) : State :=
  let q := s.sched.get x
  let t := earliestPin s q (ckNow s x) d
  busPins x t [d] d false false (updSched x (fun q => { q with ck := t }) s)
def rawCmd (x : Sc) (k : CmdKind) (cs : BitVec 2) (s : State) : State :=
  pinOne x { kind := k, cs := cs, lr := 0, bg := 0, ba := 0, row := 0, col := 0, ap := false } s

/-- The rows that are open on a chip select when its copy begins are opened on the spare, which takes every write of
the chip select from then on (R366). They stay open: R200 names no other reason to close them. (DEDUCED, log 29) -/
def openTwins (x : Sc) (cs spare : BitVec 2) (s : State) : State :=
  forAll ((s.sched.get x).rows.filter fun o => o.cs = cs) (fun o s =>
    let s' := pinOne x { kind := .act, cs := spare, lr := o.lr, bg := o.bg, ba := o.ba, row := o.row, col := 0, ap := false } s
    updSched x (fun q => { q with rows := (s.sched.get x).rows }) s') s

/-- The calendars of the spare's units: those of the matching units, ⌊p / (4n)⌋ later (R366).
(DEDUCED, log 29) -/
def spareCalendars (x : Sc) (r : SpareReq) (spare : Nat) (s : State) : State :=
  forAll (List.range (nLr s)) (fun lr s =>
    let m := refUnit s x (unitNo s r.cs.toNat lr)
    let off := slotPeriod s (chOf x) / (4 * max 1 (nUnits s))
    setRefUnit x (unitNo s spare lr) { m with debt := 0, gate := none, emergency := false, next := m.next + off } s) s

/-- SPARING_START: the oldest trigger of a channel starts a copy, or is refused. It waits for the end of a
recovery or of another channel's copy (R365, R366, R373). (DEDUCED, log 29) -/
def sparingStart (c : Ch) (s : State) : State :=
  let p := s.ras.spare.get c
  match p.waiting with
  | [] => s
  | r :: rest =>
    if (s.alert.get c).recovering || (s.ras.spare.get (chN (1 - c.val))).st = .copying || !chLive s c then s
    else
      let s := updRas (fun a => { a with spare := vmod a.spare c fun p => { p with waiting := rest } }) s
      if !spareMay s c then spareRefuse r p.cs.toNat s
      else
        let s := forAll [scA c, scB c] (fun x s => openTwins x r.cs p.cs (spareCalendars x r p.cs.toNat (rawCmd x .srx p.cs s))) s
        let s := updRas (fun a => { a with spare := vmod a.spare c fun p =>
          { p with st := .copying, replaced := r.cs, frontier := Vector.replicate 2 0, active := some r } }) s
        markedRecord r 3 p.cs.toNat 0 s

def execSparingStart (ch : Ch) (s : State) : Res := run (sparingStart ch) s

/-- A line written outside the arbiter, on the chip select that `c` names. -/
def forceLine (x : Sc) (c : Cmd) (l : Lla) (d : Line) (poison : Bool) (s : State) : State :=
  let s := force 3 x c [] s
  writeBurst x (s.sched.get x).ck c .maint l d poison s

/-- The units of the replaced chip select take over the spare's calendars; their marks and counters are
cleared, their groups restart empty at the current epoch (R367, R368). (DEDUCED, log 29) -/
def spareSwitch (x : Sc) (cs spare : Nat) (s : State) : State :=
  forAll (List.range (nLr s)) (fun lr s =>
    let u := unitNo s cs lr
    let v := unitNo s spare lr
    let r := refUnit s x v
    let o := refUnit s x u
    let s := setRefUnit x u { o with debt := r.debt, next := r.next, gate := r.gate, emergency := r.emergency } s
    let s := updRef (fun a => { a with
      units := kdel a.units (unitKey x v), cache := a.cache.filter fun e => decide (e.1 / 2 ^ 18 ≠ unitKey x u) }) s
    let s := updRas (fun a => { a with units := kdel a.units (unitKey x u), reached := a.reached.filter fun e => !(e.1 = x && e.2.1 = u) }) s
    sweepGroups x u (dropLedger x u s)) s

/-- Both sub-channels have copied every line. -/
def copyDone (s : State) (p : Spare) : Bool := p.frontier.toList.all fun n => decide (4096 * nRows s * nLr s ≤ n)

/-- SPARING_COMPLETE: the entry goes into the repair list and its copies, the commands of the chip select
move to the spare, the chip select enters self-refresh (R367). -/
def sparingComplete (c : Ch) (s : State) : State :=
  let p := s.ras.spare.get c
  match p.st, p.active with
  | .copying, some r =>
    if !copyDone s p then s
    else
      let a := scA c
      let s := rplPut (rplWord0 2 0 a p.replaced.toNat 0 0 0 0 p.cs.toNat, pack [(r.count, 24)]) s
      let s := forAll (rplLines s c).zipIdx (fun e s =>
        let l := rplLla s c e.2
        let w := cmdFor s .wr l
        let s := forceLine a w l e.1 false s
        if p.replaced = 0 then s else forceLine a { w with cs := p.cs } l e.1 false s) s
      let s := forAll [scA c, scB c] (fun x s => rawCmd x .sre p.replaced (shutCs x p.replaced s)) s
      let s := updRas (fun a => { a with spare := vmod a.spare c fun p => { p with st := .inService, active := none } }) s
      let s := forAll [scA c, scB c] (fun x s => spareSwitch x p.replaced.toNat p.cs.toNat s) s
      let s := sqSet rRasStatus (pack [(1, 18 + c.val)]) (markedRecord r 4 p.cs.toNat (copyRegions p) s)
      onlyIf (decide (r.why = 2)) (setResult false 0) s
  | _, _ => s

def execSparingComplete (ch : Ch) (s : State) : Res := run (sparingComplete ch) s

/-! ### Row repair (R359, R360) -/

/-- The row of a repair: its coordinates, and its DRAM row. -/
structure PprRow where
  x : Sc
  cs : Nat
  lr : Nat
  bg : Nat
  bank : Nat
  row : Nat
  deriving DecidableEq, Repr

/-- PPR_DONE (R378). -/
def pprRecord (r : PprRow) (dev outcome : Nat) (hard : Bool) (l : Lla) (s : State) : State :=
  raise 0x0B (if outcome = 0 then 1 else 2) 4
    ([pack [(r.x.val, 30), (r.cs, 28), (r.lr, 24), (dev, 20), (b2n hard, 19), (outcome, 16), (s.ras.rpl.length, 0)],
      pack [(r.bg, 29), (r.bank, 27), (r.row, 0)]] ++ addrBlock s l) s

/-- PPR_DONE, and the list entry of outcomes 0 and 3 (R359, R363, R378). -/
def pprEnd (x : Sc) (l : Lla) (dev count outcome : Nat) (byReq : Bool) (s : State) : State :=
  let k := unpackLla l
  let row := dramRow s k
  let s := onlyIf (outcome == 0 || outcome == 3)
    (rplAdd (chOf x) (rplWord0 0 0 x k.cs k.lr dev k.bg k.bank 0, pack [(count, 24), (row, 0)])) s
  let s := sqSet rRasStatus (pack [(1, 8 + x.val)]) (updRas (fun a => { a with ppr := none }) s)
  let s := onlyIf byReq (setResult false 0) s
  pprRecord ⟨x, k.cs, k.lr, k.bg, k.bank, row⟩ dev outcome false ((rowLines s l).headD l) s

/-- PPR_START: the oldest waiting repair, one of the sub-channel, begins: the training requester reads the resource
register of its device, which answers `resourceLeft` (step 1); then it waits for the writes of its row (step 2).
(DEDUCED, log 28) -/
def pprStart (sc : Sc) (resourceLeft : Bool) (s : State) : State :=
  match s.ras.pprWait with
  | [] => s
  | (x, l, dev, count, byReq) :: rest =>
    let k := unpackLla l
    let s' := updRas (fun a => { a with pprWait := rest }) s
    let asked := mntAdd x 2 (.mode .mrr (BitVec.ofNat 2 k.cs) (BitVec.ofNat 4 k.lr) (.get .pprLeft)) s'
    if x ≠ sc || s.ras.ppr.isSome || !replayFree s x || (s.alert.get (chOf x)).recovering then s
    else if 256 ≤ s.ras.rpl.length then pprEnd x l dev count 4 byReq s'
    else if !resourceLeft then pprEnd x l dev count 1 byReq asked
    else updRas (fun a => { a with ppr := some ⟨x, l, dev, count, .quiet, 0, [], byReq, false⟩ }) asked

def execPprStart (sc : Sc) (resourceLeft : Bool) (s : State) : Res := run (pprStart sc resourceLeft) s

/-- The data of a repair read: step 3 saves the line, a lost one as poison; step 6 looks for an error in the repaired
device (R359). -/
def repairRead (x : Sc) (t : RdTag) (rx : Capture) (s : State) : State :=
  let d := t.decode s rx
  let s := readRecord t.lla d (RasInfo.of 10 (soleDevice (isX8 s) d.errs)) (readSeen t rx d s)
  match s.ras.ppr with
  | none => s
  | some p =>
    if p.sc ≠ x then s
    else
      let hit := d.errs.any fun e => decide (e.1 < 40) && decide (devOf (isX8 s) e.1 = p.dev)
      let p := if t.origin = .repair false then { p with buf := p.buf ++ [(t.lla, d.data, d.outcome.lost || decide (d.outcome = .poison))] }
        else { p with bad := p.bad || hit }
      updRas (fun a => { a with ppr := some p }) s

/-- The bank of a row is precharged, where a row of it is open. -/
def shutBank (x : Sc) (c : Cmd) (s : State) : State :=
  onlyIf (openRow (s.sched.get x) c.bank).isSome (force 1 x { c with kind := .pre } []) s

/-- PPR_MODE_ENTER: every line is saved, and every unit of the chip select has D ≤ 0: the bank of the row is closed, and
the training requester enters soft repair mode and repairs the row before any other work (step 4). (DEDUCED, log 28) -/
def pprMode (s : State) : State :=
  match s.ras.ppr with
  | none => s
  | some p =>
    let k := unpackLla p.lla
    let cs := k.cs
    if p.step ≠ .waiting || decide (p.buf.length < (rowLines s p.lla).length) || !replayFree s p.sc
        || !(List.range (nLr s)).all (fun lr => decide ((refUnit s p.sc (unitNo s cs lr)).debt ≤ 0)) then s
    else
      let s := shutBank p.sc (cmdFor s .act p.lla) s
      let fix : DevSet := .repair (finOr 9 p.dev) false (BitVec.ofNat 3 k.bg) (BitVec.ofNat 2 k.bank) (BitVec.ofNat 18 (dramRow s k))
      let m : MntCmd := { op := .mode .mrw (BitVec.ofNat 2 cs) (BitVec.ofNat 4 k.lr) (.set fix), stamp := none, aged := false, after := [], label := none }
      updMaint p.sc 2 (fun l => m :: l) (updRas (fun a => { a with ppr := some { p with step := .mode } }) s)

def execPprModeEnter (s : State) : Res := run pprMode s

/-- PPR_TIMEOUT: step 4 has lasted longer than RAS_PPR_TIMEOUT (R360). -/
def pprTimeout (s : State) : State :=
  match s.ras.ppr with
  | none => s
  | some p =>
    if p.step ≠ .mode then s
    else
      let k := unpackLla p.lla
      timeout 0x05 2 4 false (subjSc p.sc k.cs k.lr) 0
        (updRas (fun a => { a with ppr := some { p with step := .writeBack, outcome := 2 } }) s)

def execPprTimeout (s : State) : Res := run pprTimeout s

/-- Step 3: the lines of the row are read and locked. Those of an uninitialised region read as zeros at once (R164,
R167). -/
def pprSave (p : Ppr) (s : State) : State :=
  let x := p.sc
  let ls := rowLines s p.lla
  if ls.any (lineBusy (s.sched.get x)) then s
  else if readsZero s p.lla then
    updRas (fun a => { a with ppr := some { p with step := .waiting, buf := ls.map fun l => (l, 0, false) } })
      (forAll ls (lockLine x) s)
  else
    forAll ls (fun l s => mntAdd x 2 (.lineRead (.repair false) l) s)
      (updRas (fun a => { a with ppr := some { p with step := .waiting } }) s)

/-- Step 5 begins: what the repair had not issued is dropped, the saved lines are written back, which releases their
locks, and the row is read (R359, R373). In an uninitialised region the writes demand it and wait (R165, R167). -/
def pprBack (p : Ppr) (s : State) : State :=
  let x := p.sc
  let s := dropRepairWork p (p.buf.map fun e => e.1) s
  if !regionInit s p.lla then demand p.lla (updRas (fun a => { a with ppr := some { p with step := .writeBack } }) s)
  else
    let s := forAll p.buf (fun e s => mntAdd x 2 (.lineWrite e.1 e.2.1 e.2.2 true) s) s
    let s := forAll (rowLines s p.lla) (fun l s => mntAdd x 2 (.lineRead (.repair true) l) s) s
    updRas (fun a => { a with ppr := some { p with step := .verify } }) s

/-- The repair of a sub-channel goes on: its row has no write under way, the row has been repaired, or an alert or a
timeout has ended a step. (DEDUCED, log 28) -/
def pprGo (x : Sc) (s : State) : State :=
  match s.ras.ppr with
  | none => s
  | some p =>
    if p.sc ≠ x || !replayFree s x then s
    else match p.step with
      | .quiet => pprSave p s
      | .mode => if ((s.sched.get x).maint.get 2).any MntCmd.repairs then s else pprBack p s
      | .writeBack => pprBack p s
      | _ => s

/-- Work or data of a repair is outstanding on a sub-channel. -/
def repairOpen (s : State) (x : Sc) : Bool :=
  let q := s.sched.get x
  (q.maint.get 2).any MntCmd.repairs || (q.pipe ++ q.lost).any fun t => t.origin.isRepair

/-- PPR_DONE: the row of the repair of the sub-channel has been written back and read: the repair ends with its outcome (step 6).
(DEDUCED, log 28) -/
def pprDone (sc : Sc) (s : State) : State :=
  match s.ras.ppr with
  | none => s
  | some p =>
    if p.sc ≠ sc || p.step ≠ .verify || repairOpen s sc then s
    else pprEnd sc p.lla p.dev p.count (if p.outcome = 0 ∧ p.bad then 3 else p.outcome) p.byReq s

def execPprDone (sc : Sc) (s : State) : Res := run (pprDone sc) s

/-! ### RAS_REQ (11, RAS registers) -/

/-- The line of RAS_REQ_LLA. -/
def reqLla (s : State) : Lla := BitVec.ofNat 38 (regGet64 s 0x14028)

/-- The line is populated and its rank in service. -/
def lineUsable (s : State) (l : Lla) : Bool := rankLive s l && decide (rev s l ≠ .unpopulated)

/-- Op 1: a soft repair with the row log bypassed. -/
def actRepair (v : Word) (s : State) : State :=
  let l := reqLla s
  let dev := fld v 27 24
  if !regBit s 0x14000 4 then setResult false 3 s
  else if !lineUsable s l || decide (devCount (isX8 s) ≤ dev) then setResult false 2 s
  else setResult true 0 (updRas (fun a => { a with pprWait := a.pprWait ++ [(scOf l, l, dev, 0, true)] }) s)

/-- Op 2: sparing of a chip select. -/
def actSpare (v : Word) (s : State) : State :=
  let c : Ch := chN (fld v 23 23)
  let cs := fld v 22 21
  let r : SpareReq := ⟨2, BitVec.ofNat 2 cs, scA c, 0, 0xF, 0⟩
  if !csLive s c cs || decide (nCs s ≤ cs) then setResult false 2 s
  else if !spareMay s c then spareRefuse r (s.ras.spare.get c).cs.toNat s
  else setResult true 0 (spareAsk c r s)

/-- Op 3: the counters and the UE count of the unit in RAS_DEV_SEL. -/
def actClear (s : State) : State :=
  let x := scN (regFld s 0x14090 7 6)
  let u := regFld s 0x14090 5 0
  if decide (nUnits s ≤ u) || !csLive s (chOf x) (u / max 1 (nLr s)) then setResult false 2 s
  else setResult false 0 (setUnit x u { rasUnit s x u with cnt := Vector.replicate 10 0, ue := 0 } s)

/-- A confirmed RAS_REQ: refused with code 1 while the last one is in progress. (DEDUCED, log 28) -/
def actRasReq (v : Word) (s : State) : State :=
  if reqBusy s then setResult true 1 s
  else
    match fld v 31 28 with
    | 1 => actRepair v s
    | 2 => actSpare v s
    | 3 => actClear s
    | _ => setResult false 2 s

/-! ### Debug operations (07, R227) -/

/-- A confirmed DBG_OP: ignored while an operation is in progress. (DEDUCED, log 28) -/
def actDbg (v : Word) (s : State) : State :=
  if s.ras.dbg.isSome then s
  else
    let l : Lla := BitVec.ofNat 38 (regGet64 s 0x38008)
    let d : Dbg := ⟨v, l⟩
    let s := regSet rDbgStatus 0x80000000 (updRas (fun a => { a with dbg := some d }) s)
    match fld v 31 28 with
    | 1 =>
      if !lineUsable s l then dbgEnd 5 [] s
      else if readsZero s l then dbgEnd 6 [] s
      else mntAdd (scOf l) 1 (.lineRead .debug l) s
    | 2 =>
      let cs := fld v 23 22
      let lr := fld v 21 18
      if !csLive s (chOf d.sc) cs || decide (nCs s ≤ cs ∨ nLr s ≤ lr) then dbgEnd 5 [] s
      else mntAdd d.sc 1 (.mode .mrr (BitVec.ofNat 2 cs) (BitVec.ofNat 4 lr) (.get (.addr (BitVec.ofNat 8 (fld v 7 0))))) s
    | _ => dbgEnd 5 [] s

/-- The outcome code of DBG_STATUS. -/
def Outcome5.dbgCode : Outcome5 → Nat
  | .clean => 0 | .corrected => 1 | .poison => 2 | .uncorrectable => 3 | .addrMismatch => 4

/-- The data bits of a burst as they were received. -/
def rawLine (rx : Burst) : Line := lineOfSyms (((burstSyms rx).drop 8).take 32)

def Origin.isDebug : Origin → Bool
  | .debug => true
  | _ => false

/-- The mode register read has left the arbiter. -/
def mrrIssued (s : State) (x : Sc) : Bool := ((s.sched.get x).maint.get 1).isEmpty

/-- DBG_OP_DONE: the operation completes with the burst of its line, or the values of its mode register
on the strobe groups; ×8 DIMMs carry data on the even groups only. -/
def dbgOpDone (r : DbgResult) (s : State) : State :=
  match s.ras.dbg with
  | none => s
  | some d =>
    match r with
    | .line rx =>
      match takeTag d.sc Origin.isDebug s with
      | none => s
      | some (t, s) =>
        let b := t.burst s rx
        let z := t.decode s rx
        let line := (correctedAt s t.lla b).getD (rawLine b)
        dbgEnd z.outcome.dbgCode ((List.range 16).map (lineWord line)) (readSeen t rx z s)
    | .mrr vals =>
      if fld d.op 31 28 = 2 ∧ mrrIssued s d.sc then
        dbgEnd 0 ((List.range 10).map fun n =>
          if isX8 s && decide (n % 2 = 1) then 0 else (vals.getD n 0).setWidth 32) s
      else s

def execDbgOpDone (r : DbgResult) (s : State) : Res := run (dbgOpDone r) s

end Sys2Proof.Machine
end

