-- ==== Sys2Proof/Machine/Verify.lean ====
section
/-! DEFINITION. IMG_VERIFY: the checks of R429 in their order, each with the section and the byte
offset that it reports. -/

namespace Sys2Proof.Machine

/-- A failing item: section ID, 0 for the header or the table, and image byte offset. -/
abbrev Bad := Option (Nat × Nat)

/-- The first failure of a list of conditions, each with what it reports. -/
def firstBad : List (Bool × Nat × Nat) → Bad
  | [] => none
  | (b, x) :: r => if b then some x else firstBad r

/-! ### Codes 0x01 to 0x07: header, section table, checksums (R414 to R418) -/

def chkMagic (m : Image) : Bad :=
  firstBad [(decide (i32 m 0 ≠ 0x49445A57), 0, 0), (decide (i16 m 4 ≠ 1), 0, 4), (decide (i16 m 6 ≠ 64), 0, 6)]

/-- A length that the fetch accepts (R133). -/
def lengthOk (n : Nat) : Bool := decide (64 ≤ n ∧ n ≤ 0x40000)

def chkHeader (m : Image) : Bad :=
  let n := hdrLength m
  firstBad ([(n % 4 ≠ 0 || !lengthOk n || decide (n < 64 + 16 * hdrCount m), 0, 0x08),
      (decide (hdrProto m = 0 ∨ 15 < hdrProto m), 0, 0x20),
      (decide (hdrProtoMin m = 0 ∨ hdrProto m < hdrProtoMin m), 0, 0x21),
      (decide (hdrCount m = 0 ∨ 32 < hdrCount m), 0, 0x22)]
    ++ (List.range 28).map fun i => (decide (ib m (0x24 + i) ≠ 0), 0, 0x24 + i))

/-- Entry i after an entry that ends at `e`: its ID exceeds `id`, its body lies after `e`. -/
def chkTableFrom (m : Image) : List Nat → Nat → Nat → Bad
  | [], _, _ => none
  | i :: r, id, e =>
    let x := secAt m i
    if (i = 0 ∨ id < x.id) ∧ x.zero = 0 ∧ x.off % 4 = 0 ∧ x.len % 4 = 0 ∧ e ≤ x.off ∧ x.off + x.len ≤ hdrLength m
    then chkTableFrom m r x.id (x.off + x.len) else some (0, 0x40 + 16 * i)

def chkTable (m : Image) : Bad := chkTableFrom m (List.range (hdrCount m)) 0 (0x40 + 16 * hdrCount m)

def chkClass (m : Image) : Bad :=
  firstBad ((secs m).zipIdx.map fun x => (decide (secClass x.1.id ≠ some x.1.cls), x.1.id % 256, 0x42 + 16 * x.2))

def chkCrc (m : Image) : Bad :=
  firstBad ((secs m).map fun x => (decide (crc crc32c (iBytes m x.off x.len) ≠ x.crc), x.id, x.off))

def chkFull (m : Image) : Bad := firstBad [(decide (fullFp m ≠ hdrFullFp m), 0, 0x18)]
def chkInv (m : Image) : Bad := firstBad [(decide (invFp m ≠ hdrInvFp m), 0, 0x10)]

/-! ### Code 0x08: lengths and reserved bits of bodies (R414, R419 to R428) -/

/-- The body length that the counts of a section give. -/
def bodyLen (m : Image) (x : Sec) : Nat :=
  let o := x.off
  if x.id = sDomain then 140
  else if x.id = sProfiles then 0x404 + 0x40 * ib m o
  else if x.id = sMap then 4 + 48 * i16 m o
  else if x.id = sMirror then 4 + 4 * i16 m o
  else if x.id = sGears then 4 + 100 * (gearList m).length
  else if x.id = sPolicy then 32
  else if x.id = sTraining then 4 + ((programs m).map fun p => 4 + 4 * p.2.1.length).sum
  else if x.id = sPartitions then 4 + 36 * i16 m o
  else if x.id = sRepair then 4 + 12 * i32 m o
  else if x.id = sLifeline then 4 + 1092 * i32 m o
  else 4 + 8 * i32 m o

/-- The reserved bits of a partition entry (09, "Partition entry"). -/
def partReserved : List Nat := [0x0300C0E0, 0, 0, 0xFF000000, 0xFF000000, 0, 0xFF000000, 0xFFFFC000]

/-- n reserved bytes from a on, and the reserved bits of a word, as offsets with masks. -/
def zeros (a n : Nat) : List (Nat × Nat) := (List.range n).map fun i => (a + i, 0xFF)
def zeroBits (a mask : Nat) : List (Nat × Nat) := (List.range 4).map fun i => (a + i, mask / 256 ^ i % 256)

/-- For n items at a stride. (DESIGN CHOICE, log 5) -/
def each (n : Nat) (f : Nat → List (Nat × Nat)) : List (Nat × Nat) := (List.range n).flatMap f

/-- The bits of word k of a Lifeline record that R327 states 0 or does not name. -/
def llReserved (k : Nat) : Nat :=
  let j := (k - 8) % 132
  if k = 0 then 0x0000003F
  else if k = 1 then 0xFFFFFFE0
  else if k < 7 then 0
  else if k = 7 then 0xFFFFFFFF
  else if j = 0 then 0xFFFF00F8
  else if j ≤ 80 then (if j % 2 = 1 then 0xC000C000 else 0xC3FFC000)
  else if j ≤ 90 then 0xC000C000
  else 0

/-- The reserved bytes and bits of a section's body, by offset from its start. -/
def reservedOf (m : Image) (x : Sec) : List (Nat × Nat) :=
  let o := x.off
  let n2 := i16 m o
  let n4 := i32 m o
  if x.id = sProfiles then
    zeros 1 3 ++ each (ib m o) fun p => let a := 0x404 + 0x40 * p
      [(a, 0xFC), (a + 3, 0x48), (a + 7, 0xFF)] ++ zeros (a + 0x0A) 2
        ++ each 6 (fun t => zeroBits (a + 0x0C + 4 * t) 0xFF000000) ++ zeros (a + 0x24) 28
  else if x.id = sMap then
    zeros 2 2 ++ each n2 fun e => (4 + 48 * e + 0x1B, 0xFE) :: zeros (4 + 48 * e + 0x20) 16
  else if x.id = sMirror then zeros 2 2 ++ each n2 fun e => zeroBits (4 + 4 * e) 0x7C00FC00
  else if x.id = sGears then
    (0, 0xF0) :: zeros 2 2 ++ each (gearList m).length fun i => zeros (4 + 100 * i + 2) 2 ++ zeros (4 + 100 * i + 98) 2
  else if x.id = sPolicy then (3, 0xFF) :: zeros 0x12 14
  else if x.id = sTraining then
    (0, 0xFE) :: zeros 2 2 ++ (programs m).flatMap fun p => let a := p.2.2 - o
      zeros (a + 2) 2 ++ each p.2.1.length fun k => zeros (a + 5 + 4 * k) 3
  else if x.id = sPartitions then
    zeros 2 2 ++ each n2 fun e => zeros (4 + 36 * e + 2) 2
      ++ each 8 fun k => zeroBits (4 + 36 * e + 4 + 4 * k) (partReserved.getD k 0)
  else if x.id = sRepair then
    each n4 fun e => let a := 4 + 12 * e
      zeroBits a 0xFFFFFC00 ++ zeroBits (a + 4) 0x000001FF ++ zeroBits (a + 8) 0x00FC0000
  else if x.id = sLifeline then
    each n4 fun e => let a := 4 + 1092 * e
      zeroBits a 0xFFFFFC00 ++ each 272 fun k => zeroBits (a + 4 + 4 * k) (llReserved k)
  else if x.id = sDomain then []
  else each n4 fun e => zeroBits (4 + 8 * e) 0x00FC0000

/-- The first reserved bit of a body that is not 0. -/
def chkReserved (m : Image) (x : Sec) : Bad :=
  ((reservedOf m x).find? fun r => decide (ib m (x.off + r.1) &&& r.2 ≠ 0)).map fun r => (x.id, x.off + r.1)

def chkBodies (m : Image) : Bad :=
  (firstBad ((mandatory.map fun i => (!hasSec m i, i, 0))
    ++ (secs m).map fun x => (decide (bodyLen m x ≠ x.len), x.id, x.off))).or
    ((secs m).findSome? (chkReserved m))

/-! ### Code 0x09: membership and profiles (R419, R420) -/

/-- The spare chip select field names none, or one beyond the geometry. -/
def spareOk (p : Profile) (c : Nat) : Bool :=
  match p.spareCs c with
  | none => true
  | some v => decide (v ≤ 3 ∧ 2 ^ p.csLog ≤ v)

/-- The values form a supported geometry (R420). -/
def Profile.ok (p : Profile) : Bool :=
  decide (p.channels ≠ 0) && decide (p.width = 4 ∨ p.width = 8) && decide (p.density ≤ 3) && decide (p.csLog ≤ 2)
    && decide (p.lrLog ≤ 4) && (p.is3ds == decide (0 < p.lrLog)) && decide (p.dimms = 1 ∨ p.dimms = 2)
    && spareOk p 0 && spareOk p 1

def chkMembers (m : Image) (own : Nat) : Bad :=
  let o := secOff m sProfiles
  let badIdx (i : Nat) : Bool := decide (profCount m ≤ profIndex m i)
  firstBad ([(!isMember m own, sDomain, secOff m sDomain + own / 8),
      (decide (profCount m = 0 ∨ 16 < profCount m), sProfiles, o), (badIdx own, sProfiles, o + 4 + own)]
    ++ ((members m).map fun i => (badIdx i, sProfiles, o + 4 + i))
    ++ (members m).map fun i => (!(profileOf m i).ok, sProfiles, profOff m (profIndex m i)))

/-! ### Code 0x0A: windows (R172, R421) -/

/-- Fields and ways of an entry. LIMIT is a line index, of 50 bits (R171). -/
def mapEntOk (m : Image) (o : Nat) (e : MapEnt) : Bool :=
  decide (ib m (o + 0x19) ≤ 1) && decide (e.k ≤ (if e.x3 then 8 else 10)) && decide (e.g ≤ 24) && decide (1 ≤ e.stride)
    && decide (e.base % 2 ^ e.g = 0) && decide (e.base < e.limit ∧ e.limit < 2 ^ 50) && decide ((e.limit - e.base) % (e.ways * 2 ^ e.g) = 0)
    && (List.range e.ways).all fun w => decide (e.ctl w ≤ 1023) && isMember m (e.ctl w)

/-- Two ranges share an element. -/
def meets (a b c d : Nat) : Bool := decide (a < d ∧ c < b)

/-- The end of an entry's local slice. -/
def MapEnt.lend (e : MapEnt) : Nat := e.lbase + (e.limit - e.base) / e.ways

/-- The windows of a controller with their entry numbers. -/
def winEnts (m : Image) (own : Nat) : List (Nat × MapEnt × Nat) :=
  (mapEnts m).zipIdx.filterMap fun x => (x.1.wayOf m own).map fun w => (x.2, x.1, w)

/-- A window clashes with an earlier one of the same controller. -/
def clash (l : List (Nat × MapEnt × Nat)) (x : Nat × MapEnt × Nat) : Bool :=
  l.any fun y => decide (y.1 < x.1)
    && (meets x.2.1.base x.2.1.limit y.2.1.base y.2.1.limit || meets x.2.1.lbase x.2.1.lend y.2.1.lbase y.2.1.lend)

/-- The first bad window of a controller. -/
def chkWindowsOf (m : Image) (c : Nat) : Bad :=
  let l := winEnts m c
  let msg := domMsgBase m / 64
  firstBad (l.zipIdx.map fun x =>
    (decide (16 ≤ x.2) || decide ((profileOf m c).dcap < x.1.2.1.lend) || clash l x.1
        || meets x.1.2.1.base x.1.2.1.limit msg (msg + 1024), sMap, mapOff m x.1.1))

/-- The window count and every window (R421). (DEDUCED, log 44) -/
def chkMap (m : Image) : Bad :=
  (firstBad ((decide (255 < mapCount m), sMap, secOff m sMap)
    :: (List.range (mapCount m)).map fun e => (!mapEntOk m (mapOff m e) (mapAt m e), sMap, mapOff m e))).or
    ((members m).findSome? (chkWindowsOf m))

/-! ### Code 0x0B: pairs (R379, R380) -/

/-- MAP_GEOM of a profile (06). -/
def geomWord (p : Profile) : Word :=
  pack [(p.channels, 22), (b2n (decide (p.width = 8)), 21), (p.lrLog, 18), (p.csLog, 16), (p.rows / 64, 0)]

/-- The mirrored windows of a controller: window number, entry, way. -/
def mirWins (m : Image) (c : Nat) : List (Nat × Nat × Nat) :=
  (winEnts m c).zipIdx.filterMap fun x => if x.1.2.1.mirror then some (x.2, x.1.1, x.1.2.2) else none

/-- The two controllers of a pair agree. -/
def pairOk (m : Image) (a b : Nat) : Bool :=
  decide (a ≠ b) && isMember m a && isMember m b && decide (geomWord (profileOf m a) = geomWord (profileOf m b))
    && decide ((profileOf m a).hash = (profileOf m b).hash) && decide (mirWins m a = mirWins m b)

def chkMirror (m : Image) : Bad :=
  let ids := (pairs m).flatMap fun p => [p.1, p.2.1]
  let o := secOff m sMirror
  firstBad (((pairs m).zipIdx.map fun x =>
      (!pairOk m x.1.1 x.1.2.1 || decide (2 ≤ ids.count x.1.1) || decide (2 ≤ ids.count x.1.2.1), sMirror, o + 4 + 4 * x.2))
    ++ (mapEnts m).zipIdx.map fun x =>
      (x.1.mirror && (List.range x.1.ways).any fun w => (pairOf m (x.1.ctl w)).isNone, sMap, mapOff m x.2))

/-! ### Code 0x0C: gears (R203, R205, R4) -/

/-- The ranges of R203, in the order of the parameters. -/
def timRanges : List (Nat × Nat) :=
  [(22, 126), (20, 124), (8, 9), (8, 255), (8, 255), (16, 511), (24, 511), (8, 63), (8, 127), (32, 255)]
  ++ [(8, 15), (8, 127), (16, 255), (4, 63), (8, 127), (8, 127), (24, 511), (2, 7), (0, 15), (0, 15)]
  ++ [(0, 15), (0, 15), (0, 15), (8, 15), (4, 31), (16, 255), (120, 8191), (80, 8191), (60, 4095), (8, 511)]
  ++ [(8, 1023), (120, 8191), (60, 4095), (120, 8191), (60, 8191), (2000, 65535), (8, 63), (8, 127), (8, 127)]
  ++ [(8, 127), (1000, 16383), (8, 511), (8, 127), (128, 16383), (128, 16383), (4, 63), (4, 63)]

/-- The conditions of R205 but the bin minima. -/
def timOk (t : List Nat) : Bool :=
  let p (i : Nat) : Nat := t.getD i 0
  ((t.zip timRanges).all fun x => decide (x.2.1 ≤ x.1 ∧ x.1 ≤ x.2.2)) && decide (p pCl % 2 = 0)
    && decide (p pCwl + 2 = p pCl) && decide (p pRas + p pRp ≤ p pRc) && decide (p pRcd ≤ p pRas)
    && decide (p pRrdS ≤ p pRrdL) && decide (p pCcdS ≤ p pCcdL) && decide (p pXs ≤ p pXsDll)

/-- The minima of the speed bin for a die density (R205). -/
def binOk (rate density : Nat) (t : List Nat) : Bool :=
  !Config.stdBin rate || t.zipIdx.all fun x => decide (Config.binMinimum density rate x.2 ≤ x.1)

/-- Two DIMMs per channel bear at most 8,000 MT/s (R4). -/
def gearOk (m : Image) (rate : Nat) (t : List Nat) : Bool :=
  decide (8 ≤ rate ∧ rate ≤ 26) && timOk t && (members m).all fun i =>
    let p := profileOf m i
    binOk rate p.density t && (decide (p.dimms ≠ 2) || decide (400 * rate ≤ 8000))

def chkGears (m : Image) : Bad :=
  let bad (x : Nat × Nat) : Bool :=
    match gearRec m x.1 with
    | none => true
    | some (rate, t) => decide (ib m (gearOff m x.2) ≠ x.1) || !gearOk m rate t
  firstBad (((gearList m).zipIdx.map fun x => (bad x, sGears, gearOff m x.2))
    ++ [(!(gearList m).contains (bootGear m), sGears, secOff m sGears + 1)])

/-! ### Code 0x0D: training programs (R319, R425) -/

/-- A list of numbers rises strictly. -/
def rising : List Nat → Bool
  | a :: b :: r => decide (a < b) && rising (b :: r)
  | _ => true

/-- The steps of a program. -/
def stepsOk (l : List Nat) : Bool :=
  decide (1 ≤ l.length ∧ l.length ≤ 16) && rising l && l.all (fun k => decide (1 ≤ k ∧ k ≤ 9))
    && ([1, 3, 4, 5, 6, 8, 9] : List Nat).all l.contains

def chkTraining (m : Image) : Bad :=
  firstBad (((programs m).map fun p => (!stepsOk p.2.1, sTraining, p.2.2))
    ++ [(decide ((programs m).map Prod.fst ≠ gearList m), sTraining, secOff m sTraining + 1)])

/-! ### Code 0x0E: loads (R426, R123, R242, R360, R497, R534) -/

/-- RW and PP registers whose chapters say that the image sets them (04, 07, 08, 10, 11, 14, 15, 16). -/
def imageRw (o : Nat) : Bool :=
  ([0x2000, 0x3018, 0x8140, 0x8204, 0x10004, 0x14004, 0x1400C, 0x20000] : List Nat).contains o
    || (decide (0xC000 ≤ o ∧ o < 0xD000) && decide (o % 0x400 ≤ 4)) || decide (0x30100 ≤ o ∧ o < 0x30200)

/-- A record of a LOADS section may target the register (R426). -/
def loadTarget (sec off : Nat) : Bool :=
  decide (off % 4 = 0) &&
  match rowOf off with
  | none => false
  | some r =>
    match r.kind with
    | .cfg => decide (sec = sLoadsRestart)
    | .live => decide (sec = sLoadsLive)
    | .rw | .pp | .wd => decide (sec = sLoadsLive) && imageRw off
    | _ => false

/-- A stated range: first register, registers, stride, field, lowest and highest value. -/
structure Range where
  base : Nat
  n : Nat
  stride : Nat
  hi : Nat
  lo : Nat
  mn : Nat
  mx : Nat
  deriving DecidableEq, Repr

/-- The ranges that the chapters state narrower than the field. -/
def ranges : List Range :=
  [ ⟨0x8000, 5, 0x40, 25, 16, 0, 512⟩, ⟨0x8000, 5, 0x40, 10, 0, 0, 1024⟩, ⟨0x8140, 1, 4, 6, 0, 0, 64⟩,
    ⟨0xC000, 4, 0x400, 31, 24, 1, 64⟩, ⟨0xC000, 4, 0x400, 23, 16, 2, 128⟩, ⟨0xC004, 4, 0x400, 31, 16, 1, 65535⟩,
    ⟨0xC004, 4, 0x400, 7, 0, 1, 255⟩, ⟨0xC008, 4, 0x400, 25, 16, 128, 640⟩, ⟨0xC008, 4, 0x400, 15, 0, 1, 65535⟩ ]
  ++ [ ⟨0x3000, 1, 4, 23, 16, 1, 255⟩, ⟨0x3000, 1, 4, 15, 0, 1, 65535⟩, ⟨0x3004, 1, 4, 31, 16, 1, 65535⟩,
    ⟨0x300C, 1, 4, 23, 16, 0, 100⟩, ⟨0x300C, 1, 4, 15, 8, 0, 100⟩, ⟨0x300C, 1, 4, 7, 0, 1, 255⟩,
    ⟨0x3010, 1, 4, 15, 12, 1, 15⟩, ⟨0x3010, 1, 4, 7, 0, 1, 255⟩, ⟨0x3014, 1, 4, 10, 0, 256, 1024⟩,
    ⟨0x3020, 1, 4, 12, 0, 500, 2880⟩, ⟨0x6004, 1, 4, 31, 16, 1, 65535⟩, ⟨0x6004, 1, 4, 15, 0, 1, 65535⟩ ]
  ++ [ ⟨0x10000, 1, 4, 31, 30, 0, 2⟩, ⟨0x10000, 1, 4, 21, 20, 1, 2⟩, ⟨0x10000, 1, 4, 7, 4, 1, 15⟩,
    ⟨0x10004, 1, 4, 31, 16, 512, 65535⟩, ⟨0x14000, 1, 4, 31, 28, 1, 15⟩, ⟨0x14004, 1, 4, 31, 24, 1, 255⟩,
    ⟨0x14004, 1, 4, 23, 16, 1, 255⟩, ⟨0x14004, 1, 4, 15, 8, 1, 255⟩, ⟨0x20004, 1, 4, 31, 24, 1, 255⟩,
    ⟨0x20004, 1, 4, 23, 16, 1, 255⟩, ⟨0x20004, 1, 4, 9, 0, 64, 1023⟩, ⟨0x20008, 1, 4, 31, 24, 1, 255⟩,
    ⟨0x20008, 1, 4, 23, 16, 1, 255⟩, ⟨0x20008, 1, 4, 15, 8, 1, 255⟩, ⟨0x20008, 1, 4, 7, 0, 1, 255⟩,
    ⟨0x20014, 1, 4, 31, 22, 64, 512⟩, ⟨0x20014, 1, 4, 21, 16, 1, 63⟩, ⟨0x20014, 1, 4, 10, 0, 10, 2047⟩,
    ⟨0x30100, 8, 0x20, 29, 28, 0, 2⟩, ⟨0x30100, 8, 0x20, 6, 0, 0, 64⟩ ]

/-- The range speaks of the register. -/
def Range.hits (r : Range) (off : Nat) : Bool :=
  decide (r.base ≤ off) && decide ((off - r.base) % r.stride = 0) && decide ((off - r.base) / r.stride < r.n)

/-- Ranges that compare two fields of a register: exit and entry level of panic, the watermarks, the
limits of R228, and the promotion level of R260. -/
def rangePair (off : Nat) (v : Word) : Bool :=
  if off = 0x8140 then decide (fld v 6 0 = 0 ∨ fld v 22 16 < fld v 6 0)
  else if 0xC000 ≤ off ∧ off < 0xD000 ∧ off % 0x400 = 0 then decide (fld v 15 8 < fld v 23 16)
  else if off = 0x10000 then
    let lim := if fld v 31 30 = 0 then 4 else 8
    decide (1 ≤ fld v 29 26 ∧ fld v 29 26 ≤ lim ∧ fld v 25 22 ≤ lim)
  else if off = 0x10004 then decide (1 ≤ fld v 15 0 ∧ fld v 15 0 ≤ fld v 31 16 / 2)
  else true

/-- The value lies in the register's stated range; MIR_CFG takes only MIR_LONE_START from a load, the
rest of it from the MIRROR section. -/
def valueOk (off : Nat) (v : Word) : Bool :=
  let mask := if off = 0x6000 then 0x20000000 else ((rowOf off).map RegRow.mask).getD 0
  decide (v &&& ~~~mask = 0) && rangePair off v
    && ranges.all fun r => !r.hits off || decide (r.mn ≤ fld v r.hi r.lo ∧ fld v r.hi r.lo ≤ r.mx)

/-- The value that a register has under a profile after both LOADS sections. -/
def loadVal (m : Image) (p off : Nat) : Word :=
  ((loadsOf m sLoadsRestart ++ loadsOf m sLoadsLive).filter fun r => decide (r.2.1 = off ∧ (r.1 = 0xFF ∨ r.1 = p))).foldl
    (fun _ r => r.2.2.1) (regReset off)

/-- d of R534 at a gear, for a controller with or without a mirrored window. (DEDUCED, log 44) -/
def singleWrite (t : List Nat) (mir : Bool) : Nat :=
  let p (i : Nat) : Nat := t.getD i 0
  max (max (8 * (2 + b2n mir)) (p pRc)) ((p pFaw + 3) / 4)
    + (p pRcd + p pCl + 8 + p pRtwX + p pWbl + p pWr + p pRp)

/-- The bracket of R497 in ck. -/
def boundCk (t : List Nat) (cs : Nat) : Nat :=
  let p (i : Nat) : Nat := t.getD i 0
  p pXp + p pCl + 8 + max (max (p pRfc1) (p pRfc2)) (max (p pRfmAb) (p pDrfmAb)) + 2 * cs + p pCksre

/-- The conditions on a gear that the loads of a profile bring (R360, R497, R534). -/
def gearLoadsOk (m : Image) (p : Nat) (mir : Bool) (rate : Nat) (t : List Nat) : Bool :=
  let r := 400 * rate
  let ref := loadVal m p 0x10000
  let period := if fld ref 31 30 = 0 then t.getD pRefi 0 / 2 else t.getD pRefi 0 / 2 / 2
  let drain := fld (loadVal m p 0x3020) 12 0
  let d := singleWrite t mir
  (!bitOf (loadVal m p 0x14000) 4 || decide (fld (loadVal m p 0x1401C) 15 0 * r < 2 * ((fld ref 29 26 - 1) * period)))
    && decide (boundCk t (2 ^ (profileAt m p).csLog) * 2000 + drain * r ≤ 2880 * r)
    && decide (d ≤ drain * r / 2000) && decide (d ≤ 1200 * r / 2000)

/-- The conditions of R123, R242, R360, R497 and R534 on a profile. -/
def profLoadsOk (m : Image) (p : Nat) (mir : Bool) : Bool :=
  let c := loadVal m p 0x8100
  decide (fld c 25 16 + fld c 10 0 ≤ 64)
    && (!bitOf (loadVal m p 0x10000) 19 || ([1, 2, 4] : List Nat).contains (fld (loadVal m p 0x10038) 3 0))
    && (gearList m).all fun g => (gearRec m g).any fun x => gearLoadsOk m p mir x.1 x.2

/-- The controller serves a mirrored window. -/
def servesMirror (m : Image) (c : Nat) : Bool := (winEnts m c).any fun x => x.2.1.mirror

/-- The record counts and the records of both LOADS sections (R426). (DEDUCED, log 44) -/
def chkLoads (m : Image) : Bad :=
  let recs (id : Nat) : List (Bool × Nat × Nat) :=
    (hasSec m id && decide (4096 < i32 m (secOff m id)), id, secOff m id) ::
    (loadsOf m id).map fun r => (!loadTarget id r.2.1 || !valueOk r.2.1 r.2.2.1, id, r.2.2.2)
  firstBad (recs sLoadsRestart ++ recs sLoadsLive
    ++ (members m).map fun i => (!profLoadsOk m (profIndex m i) (servesMirror m i), sLoadsRestart, secOff m sLoadsRestart))

/-! ### Codes 0x0F to 0x11: partitions, policy, local sections (R424, R427, R428) -/

def chkParts (m : Image) : Bad :=
  let l := partEnts m
  firstBad ((decide (4096 < l.length), sPartitions, secOff m sPartitions) :: (l.map fun e => (decide (4096 ≤ e.1) || decide (partCode e.1 e.2.1 ≠ 0)
      || decide (2 ≤ l.countP fun f => decide (f.1 = e.1)), sPartitions, e.2.2))
    ++ [(!sharesOk (l.map fun e => e.2.1), sPartitions, secOff m sPartitions)])

/-- POLICY and DOMAIN values. The message window base is a system address, of 56 bits (R419). -/
def chkPolicy (m : Image) : Bad :=
  let d := secOff m sDomain
  firstBad (((List.range 3).map fun i => (decide (1 < polByte m i), sPolicy, secOff m sPolicy + i))
    ++ [(decide (domMsgBase m % 2 ^ 16 ≠ 0 ∨ 2 ^ 56 ≤ domMsgBase m), sDomain, d + 0x80),
        (decide (domPeriod m < 100 ∨ 60000 < domPeriod m), sDomain, d + 0x88),
        (decide (domHop m < 1 ∨ 1000 < domHop m), sDomain, d + 0x8A)])

/-- An entry of the repair list is well formed: fields that its kind does not use are 0 (R363). -/
def repairOk (w0 w1 : Word) : Bool :=
  let kind := fld w0 30 29
  bitOf w0 31 && decide (kind ≠ 3) && decide (fld w0 8 0 = 0) && decide (fld w1 23 18 = 0)
    && (decide (kind = 2) || decide (fld w0 10 9 = 0)) && (decide (kind = 0) || decide (fld w1 17 0 = 0 ∧ fld w0 15 11 = 0 ∧ fld w0 28 28 = 0))
    && (decide (kind ≠ 2) || decide (fld w0 26 26 = 0 ∧ fld w0 23 16 = 0))

/-- The repair entries of this controller: their number, then each of them. -/
def chkRepair (m : Image) (own : Nat) : Bad :=
  let o := secOff m sRepair
  let l := repairsAt m own
  firstBad ((decide (256 < l.length), sRepair, o) :: l.map fun e => (!repairOk e.1.1 e.1.2, sRepair, e.2))

/-! ### Verification -/

/-- The checks of R429 with their codes. -/
def checks (m : Image) (own : Nat) : List (Nat × (Unit → Bad)) :=
  [ (0x01, fun _ => chkMagic m), (0x02, fun _ => chkHeader m), (0x03, fun _ => chkTable m), (0x04, fun _ => chkClass m),
    (0x05, fun _ => chkCrc m), (0x06, fun _ => chkFull m), (0x07, fun _ => chkInv m), (0x08, fun _ => chkBodies m),
    (0x09, fun _ => chkMembers m own), (0x0A, fun _ => chkMap m), (0x0B, fun _ => chkMirror m),
    (0x0C, fun _ => chkGears m), (0x0D, fun _ => chkTraining m), (0x0E, fun _ => chkLoads m),
    (0x0F, fun _ => chkParts m), (0x10, fun _ => chkPolicy m), (0x11, fun _ => chkRepair m own) ]

/-- The code, section and offset of the first failing check (R429). (DEDUCED, log 35; DEDUCED, log 44) -/
def verify (m : Image) (own : Nat) : Option (Nat × Nat × Nat) :=
  (checks m own).findSome? fun c => (c.2 ()).map fun b => (c.1, b)

/-- Verify an image and show the outcome in IMG_VERIFY_STATUS and IMG_VERIFY_OFFSET. -/
def showVerify (r : Option (Nat × Nat × Nat)) (s : State) : State :=
  let (c, x, o) := r.getD (0, 0, 0)
  regSet 0x401C (BitVec.ofNat 32 (o % 2 ^ 19)) (regSet 0x4018 (pack [(c, 24), (x % 256, 16)]) s)

/-- The words that the CRC of a Lifeline record covers: every word but word 6 (R327). -/
def lifelineOk (l : List Word) : Bool := decide (l.getD 6 0 = wordsCrc (l.take 6 ++ l.drop 7))

/-- Lifeline records of this controller with a wrong CRC are ignored and counted (R429, code 0x11). -/
def countIgnored (m : Image) (s : State) : State :=
  bumpBy ((lifelinesFor m s.glb.ctlId.toNat).countP fun l => !lifelineOk l) 0x4054 s

end Sys2Proof.Machine
end

