-- ==== Sys2Proof/Machine/Apply.lean ====
section
/-! DEFINITION. What a verified image sets in the registers of every block (05 R138; 13 R419 to R427),
at Cast-On and at the switch of a live reload. -/

namespace Sys2Proof.Machine

/-- Store a list of register words at a stride of 4. -/
def regFill (off : Nat) (ws : List Nat) (s : State) : State :=
  forAll ws.zipIdx (fun x s => regSet (off + 4 * x.2) (BitVec.ofNat 32 x.1) s) s

/-- IMG registers of the running image (13). -/
def applyImg (m : Image) (s : State) : State :=
  let s := regFill 0x4000 [hdrRevision m, hdrProto m * 2 ^ 28 + hdrProtoMin m * 2 ^ 24 + hdrLength m % 2 ^ 19] s
  regSet64 0x4010 (hdrFullFp m) (regSet64 0x4008 (hdrInvFp m) s)

/-- DOM registers and the message window (13, R419, R441; 04). -/
def applyDom (m : Image) (own : Nat) (s : State) : State :=
  let x (j : Nat) : Nat := (domSucc m own).getD j own
  let s := regFill 0x5000 [domPeriod m * 2 ^ 16 + domHop m, (members m).length * 2 ^ 16 + domRank m own,
    x 1 * 2 ^ 16 + x 0, x 3 * 2 ^ 16 + x 2] s
  regSet64 0x8180 (domMsgBase m % 2 ^ 56) s

/-- MAP registers (06): geometry, capacity, hash masks and windows. -/
def applyMap (m : Image) (own : Nat) (s : State) : State :=
  let p := profileOf m own
  let s := regSet64 0x12008 p.dcap (regSet 0x12000 (geomWord p) s)
  let s := regFill 0x12010 p.hash s
  forAll ((windowsOf m own).zipIdx) (fun x s =>
    let e := x.1.1
    let o := 0x12100 + 0x20 * x.2
    let cfg := pack [(1, 31), (b2n e.mirror, 30), (x.1.2, 20), (b2n e.x3, 19), (e.k, 15), (e.g, 10)]
    regSet64 (o + 0x14) (e.lbase % 2 ^ 38) (regSet (o + 0x10) cfg
      (regSet64 (o + 8) (64 * e.limit % 2 ^ 56) (regSet64 o (64 * e.base % 2 ^ 56) s)))) s

/-- The words that the pair fingerprint covers (R380). -/
def pairWords (s : State) : List Word :=
  let wins := (List.range 16).filter fun n => (winOf s n).any Win.mirror
  regGet s 0x12000 :: (List.range 6).map (fun t => regGet s (0x12010 + 4 * t))
    ++ wins.flatMap fun n => (List.range 7).map fun i => regGet s (0x12100 + 0x20 * n + 4 * i)

/-- MIR_CFG and the pair fingerprint (R379, R380); MIR_LONE_START comes from a load. -/
def applyMir (m : Image) (own : Nat) (s : State) : State :=
  let lone := b2n (regBit s 0x6000 29)
  match pairOf m own with
  | none => regSet 0x6000 (pack [(lone, 29)]) s
  | some (peer, prim) =>
    regSet64 0x6018 (crc crc64xz ((pairWords s).flatMap wordBytes))
      (regSet 0x6000 (pack [(1, 31), (b2n prim, 30), (lone, 29), (peer, 16)]) s)

/-- TIM registers of a gear (R203, R423). -/
def applyGear (m : Image) (g : Nat) (s : State) : State :=
  match gearRec m g with
  | none => regFill (0xE000 + 0x200 * g) [0] s
  | some (rate, t) =>
    regFill (0xE010 + 0x200 * g) t
      (regSet (0xE000 + 0x200 * g) (pack [(1, 31), (b2n (Config.stdBin rate), 29), (rate, 0)]) s)

/-- The Row Counter's groups (R243): log2 G, and the groups in use. -/
def rcGeom (p : Profile) : Nat × Nat :=
  let total := 2 * p.chans * 2 ^ (p.csLog + p.lrLog) * 32 * densityRows p.density
  let l := ((List.range 8).map (· + 6)).find? fun l => decide (total / 2 ^ l ≤ 262144)
  (l.getD 13, total / 2 ^ l.getD 13)

/-- A load writes a register. RAS_SPARE_PRESENT comes from the profile and REF_RFM_REQ from the devices. -/
def applyLoad (r : Nat × Word) (s : State) : State :=
  let keep : Word := if r.1 = 0x14000 then 0xC0 else if r.1 = 0x10000 then 0x40000 else if r.1 = 0x6000 then 0xC3FF0000 else 0
  wideSync r.1 (regSet r.1 ((r.2 &&& ~~~keep) ||| (regGet s r.1 &&& keep)) s)

/-- RO targets of the old image's section return to their reset values, then the new loads are made in
record order (R426). -/
def applyLoads (old m : Image) (own id : Nat) (s : State) : State :=
  let ro (o : Nat) : Bool := (rowOf o).any fun r => r.kind = .cfg || r.kind = .live
  let gone := ((loadsFor old own id).map Prod.fst).filter ro
  forAll (loadsFor m own id) applyLoad (forAll gone (fun o s => applyLoad (o, regReset o) s) s)

/-- The entry of a partition under an image (R427). -/
def partFor (m : Image) (label : Nat) : Vector Word 8 :=
  (((partEnts m).find? fun e => decide (e.1 = label)).map fun e => e.2.1).getD (partWords label)

/-- Partitions that an image names or the table holds. -/
def partLabels (m : Image) (s : State) : List Nat :=
  distinct (s.qos.parts.map Prod.fst ++ (partEnts m).map fun e => e.1)

/-- At Cast-On every partition takes its entry, with full buckets. -/
def applyParts (m : Image) (s : State) : State :=
  let s := updQos (fun q => { q with pendingQpt := none, pendingMore := [] }) s
  forAll (partLabels m s) (fun l s => setPart l ({ partOf s l with cfg := partFor m l }).full s) s

/-! ### The early-service bitmap (R156, R163) -/

/-- The unit of bits 4096 u to 4096 u + 4095 of the bitmap is held by a rank in service. -/
def unitHeld (s : State) (u : Nat) : Bool :=
  let c := chN (u / 128)
  let k := u / 16 % 4
  chConf s c && csLive s c k && decide (k < nCs s) && decide (u % 16 < nLr s)

/-- The bits of regions that no rank in service holds (R163). -/
def unheld (s : State) : BitVec 1048576 :=
  let rows := regFld s 0x12000 12 0
  let blk (u : Nat) : Nat := if unitHeld s u then 2 ^ 4096 - 2 ^ rows else 2 ^ 4096 - 1
  BitVec.ofNat 1048576 ((List.range 256).foldl (fun v u => v + blk u * 2 ^ (4096 * u)) 0)

/-- The bits of the three carve-out regions of every unit (R156, R180). -/
def carveBits (s : State) : BitVec 1048576 :=
  let rows := regFld s 0x12000 12 0
  let blk (u : Nat) : Nat := if unitHeld s u then 7 * 2 ^ (rows - 3) else 0
  BitVec.ofNat 1048576 ((List.range 256).foldl (fun v u => v + blk u * 2 ^ (4096 * u)) 0)

/-- Set early-service bits without zeroing (R163). A region in an on-demand queue leaves it. -/
def coverUnheld (s : State) : State :=
  if s.img.applied then
    let b := s.glb.init ||| unheld s
    initDone (updGlb (fun g => { g with
      init := b, initWait := g.initWait.filter fun r => !b.getLsbD r
      onDemand := g.onDemand.map fun q => q.filter fun r => !b.getLsbD r }) s)
  else s

/-- The image is applied to the registers of every block (R138). -/
def applyImage (m : Image) (s : State) : State :=
  let own := s.glb.ctlId.toNat
  let p := profileOf m own
  let old := if s.img.applied then s.img.words else []
  let s := applyMap m own (applyDom m own (applyImg m s))
  let s := forAll (List.range 4) (applyGear m) s
  let g := rcGeom p
  let s := regSet 0x1000C (pack [(g.1, 20), (g.2, 0)]) s
  let s := regPut 0x14000 7 6 (b2n (p.spareCs 0).isSome + 2 * b2n (p.spareCs 1).isSome) s
  let s := applyLoads old m own sLoadsLive (applyLoads old m own sLoadsRestart s)
  let s := applyParts m (applyMir m own s)
  coverUnheld (updImg (fun i => { i with words := m, applied := true }) s)

end Sys2Proof.Machine
end

