-- ==== Sys2Proof/Machine/Mirror.lean ====
section
/-! DEFINITION. Mirror pairs (12): heartbeats, joining, role changes, resilver, the manager's operations,
and the mirror messages that the Chioz receiver hands on. -/

namespace Sys2Proof.Machine

/-! ### Received messages (13, R438, R439; 12, R384, R406) -/

/-- The oldest stored message that a test picks, taken out of the store. -/
def takeMsg (f : Vector Word 8 → Bool) (s : State) : Option (Msg × State) :=
  match s.dom.inbox.find? fun m => f m.words with
  | none => none
  | some m => some (m, updDom (fun d => { d with inbox := d.inbox.erase m }) s)

/-- The message is of a type, or a RESILVER_CONTROL of a subtype. -/
def isTy (t : Nat) (m : Vector Word 8) : Bool := decide (msgTy m = t)
def isSub (n : Nat) (m : Vector Word 8) : Bool := isTy tyResilver m && decide (fld m[2] 31 24 = n)

/-- The message comes from the peer of a pair that is not DISABLED. -/
def fromPeer (s : State) (m : Vector Word 8) : Bool :=
  mirEn s && s.mir.pair ≠ .disabled && decide (msgSrc m = (peerId s).toNat)

/-- The header epoch. -/
def epochOf (m : Vector Word 8) : BitVec 8 := BitVec.ofNat 8 (msgEpoch m)

/-- What every message of the peer shows: its level and epoch (R381; MIR_STATE). -/
def notePeer (m : Vector Word 8) (e : BitVec 8) (s : State) : State :=
  updMir (fun r => { r with proto := BitVec.ofNat 4 (min (protoNow s) (msgProto m)), peerEpoch := e }) s

/-- The message carries an epoch older than this controller's. -/
def olderMsg (s : State) (m : Vector Word 8) : Bool := laterEpoch s.mir.epoch (epochOf m)

/-- An older mirror message is rejected with STALE_REPLY (R384, R439). -/
def staleReply (m : Vector Word 8) (s : State) : State :=
  bump 0x5054 (sendPeer tyStale
    [pack [(msgTy m, 24), (msgEpoch m, 16), (s.mir.epoch.toNat, 8)], pack [(msgSeq m, 16)]] (.message (peerId s)) s)

/-- Handle a message of the peer unless its epoch is older (R384). -/
def mirrorMsg (m : Vector Word 8) (f : State → State) (s : State) : State :=
  if !fromPeer s m then s
  else
    let s := notePeer m (epochOf m) s
    if olderMsg s m then staleReply m s else f s

/-! ### Fingerprints and divergence (R380, R381, R440, R446) -/

/-- Own fingerprints. -/
def ownInv (s : State) : Nat := regGet64 s 0x4008
def ownPair (s : State) : Nat := regGet64 s 0x6018

/-- A 64-bit value as two words. -/
def words64 (v : Nat) : List Word := [BitVec.ofNat 32 v, BitVec.ofNat 32 (v / 2 ^ 32)]

/-- DOMAIN_DIVERGENT of kind 1 or 2 for the peer. -/
def divergentPeer (kind fp : Nat) (s : State) : State :=
  raise 0x19 2 5 ([pack [(kind, 28), ((peerId s).toNat, 0)]] ++ words64 (ownInv s) ++ words64 fp) s

/-- The peer is divergent: cause 5, recorded when it is found (R381, R397). -/
def diverge (kind fp : Nat) (s : State) : State :=
  let s := onlyIf (!s.mir.hold5) (divergentPeer kind fp) s
  degrade 5 0 s

/-- Compare the peer's fingerprints; cause 5 clears when both match (R397, R440). -/
def compareFps (inv : Option Nat) (pair : Nat) (s : State) : State :=
  match inv with
  | some v =>
    if v ≠ ownInv s then diverge 1 v s
    else if pair ≠ ownPair s then diverge 2 pair s
    else updMir (fun m => { m with hold5 := false }) s
  | none => if pair ≠ ownPair s then diverge 2 pair s else s

/-! ### Heartbeats (R396, R440) -/

def heartbeatPay (s : State) : List Word :=
  words64 (ownInv s) ++ words64 (ownPair s)
    ++ [pack [(regFld s 0x4000 31 16, 16), (b2n s.mir.primary, 3), (s.mir.pair.code, 0)]]

/-- HEARTBEAT_SEND: a controller in a pair that is not DISABLED sends HEARTBEAT. -/
def heartbeatSend (s : State) : State :=
  if s.mir.pair = .disabled then s
  else
    let counts (m : Mir) : Bool := m.alive || decide (m.pair ≠ .joining)
    sendPeer tyHeartbeat (heartbeatPay s) (.message (peerId s))
      (updMir (fun m => { m with
        missedBeats := if counts m then sat 3 (m.missedBeats + 1) else m.missedBeats
        alive := m.alive && decide (m.missedBeats < 3) }) s)

def execHeartbeatSend (s : State) : Res := run heartbeatSend s

/-- HEARTBEAT_LOSS: none arrived in three periods. In JOINING it counts only once the peer has been heard;
in DEGRADED it is counted and raises nothing (R396). (DEDUCED, log 31) -/
def heartbeatLoss (s : State) : State :=
  if s.mir.pair = .disabled || (s.mir.pair = .joining && !s.mir.alive) then s
  else
    let s := updMir (fun m => { m with alive := false, missedBeats := 3, exchange := none }) s
    if s.mir.pair = .degraded then degrade 4 0 (expiredMore 0x17 s)
    else degrade 4 0 (timeout 0x17 2 5 false (peerId s).toNat 0 s)

def execHeartbeatLoss (s : State) : Res := run heartbeatLoss s

/-! ### ROLE_CHANGE messages (R404, R406) -/

/-- The payload of ROLE_CHANGE. -/
def rolePay (reason : Nat) (epoch : BitVec 8) (confirm : Bool) (primary : Nat) (scope : Byte) : List Word :=
  [pack [(reason, 24), (epoch.toNat, 16), (b2n confirm, 15), (primary, 0)], pack [(if reason = 0 then scope.toNat else 0, 0)]]

/-- A ROLE_CHANGE waits until the pair record has entered its buffers (R404, R535). -/
def sendRole (pay : List Word) (s : State) : State :=
  let (m, s) := formMsg tyRole (peerId s) s.mir.epoch.toNat pay s
  recordRelease (updMir (fun r => { r with recordMsgs := r.recordMsgs ++ [msgReq s (peerId s) m (.message (peerId s))] }) s)

/-- The request of a role change to the peer. -/
def sendRoleReq (r : RoleChg) (epoch : BitVec 8) (s : State) : State :=
  sendRole (rolePay r.reason epoch false (peerId s).toNat r.scope) s

/-! ### Regions of the mirrored windows -/

/-- The dense indices of a row of a unit lie in this range. -/
def rowSpan (s : State) (c : Coord) (row : Nat) : Nat × Nat :=
  let k := { c with row := row, line := 0, bank := 0, bg := 0 }
  let sub := k.sub ^^^ hashBit s k 5
  let lo := join s { k with sub := sub }
  (lo, join s { k with sub := sub, line := 127, bank := 3, bg := 7 })

/-- A window is mirrored and its local slice meets a range of dense indices. -/
def sliceMeets (s : State) (lo hi : Nat) : Bool :=
  (List.range 16).any fun n => (winOf s n).any fun w =>
    w.mirror && decide (w.lbase ≤ hi) && decide (lo < w.lbase + (w.limit - w.base) / w.ways)

/-- Some line of a region lies in a mirrored window. (DEDUCED, log 32) -/
def regionMirrored (s : State) (r : Nat) : Bool :=
  let c := unpackLla (BitVec.ofNat 38 (r * 2 ^ 18))
  chConf s (chN c.ch) && decide (c.cs < nCs s ∧ c.lr < nLr s ∧ c.row + 192 < nRows s)
    && (List.range 64).any fun i => let p := rowSpan s c (c.row + i); sliceMeets s p.1 p.2

/-- The mirrored regions. -/
def mirroredRegions (s : State) : List Nat :=
  if mirEn s then (List.range (2 ^ 20)).filter (regionMirrored s) else []

/-- Every mirrored region is initialised (R406). -/
def mirroredInit (s : State) : Bool := (mirroredRegions s).all fun r => s.glb.init.getLsbD r

/-- Set the dirty bit of every initialised mirrored region that a test picks. -/
def dirtyAll (f : Nat → Bool) (s : State) : State :=
  forAll ((mirroredRegions s).filter fun r => s.glb.init.getLsbD r && f r) setDirty s

/-- A region lies in a scope of chip selects (R406): 4 bits for each channel. -/
def inScope (scope : Byte) (r : Nat) : Bool :=
  let c := unpackLla (BitVec.ofNat 38 (r * 2 ^ 18))
  scope.getLsbD (4 * c.ch + c.cs)

/-! ### Taking a role (R384, R404, R405, R408) -/

/-- Enter DEGRADED with a cause that a new role gives; the bitmap then holds what `mark` sets. -/
def newRole (primary : Bool) (epoch : BitVec 8) (cause reason : Nat) (mark : State → State) (s : State) : State :=
  let prev := s.mir.epoch
  let s := updMir (fun m => { m with primary := primary, epoch := epoch, unconf := none, exchange := none }) (roleOff s)
  let s := degrade cause 0 (mark (writeRecords s))
  roleRecord reason prev s

/-- Step 4 of R404 at the old primary. -/
def completeRole (r : RoleChg) (s : State) : State :=
  let prev := s.mir.epoch
  let s := updMir (fun m => { m with primary := false, epoch := m.epoch + 1, role := none, exchange := none }) s
  let s := roleRecord r.reason prev (heldNotOwned (degrade 9 0 s))
  if r.reason = 1 then updMir (fun m => { m with ctlBusy := false }) (regSet 0x6028 0 s) else s

/-- ROLE_CHANGE_INITIATE: the requests already selected have completed; the pair record is written and the
request sent (R404, steps 1 and 2). A pair that is no longer HEALTHY gives the change up. -/
def roleInitiate (s : State) : State :=
  match s.mir.role with
  | none => s
  | some r =>
    if r.sent then s
    else if s.mir.pair ≠ .healthy then roleOff s
    else if s.reqs.any fun q => q.mirrored && !q.op.isPeer && !q.inIngress && (!q.answered || q.peerOpen) then s
    else
      let s := updMir (fun m => { m with role := some { r with sent := true } }) s
      sendRoleReq r (s.mir.epoch + 1) (writeRecords s)

def execRoleChangeInitiate (s : State) : Res := run roleInitiate s

/-- ROLE_CHANGE_CONFIRM_TIMEOUT: no confirmation within 20 µs of the request's answer; the old primary
completes the change (R404). -/
def roleTimeout (s : State) : State :=
  match s.mir.role with
  | none => s
  | some r =>
    if !r.sent then s
    else
      let s := timeout 0x1B 1 5 false r.tok.toNat (peerId s).toNat s
      updMir (fun m => { m with unconf := some r }) (completeRole r s)

def execRoleChangeConfirmTimeout (s : State) : Res := run roleTimeout s

/-- The peer asks this controller to be primary at a new epoch (R404, step 3), which it adopts whatever its role; a repeated
request is confirmed again. (DEDUCED, log 31) -/
def becomePrimary (reason : Nat) (e : BitVec 8) (scope : Byte) (s : State) : State :=
  let reply (s : State) : State := sendRole (rolePay reason e true s.glb.ctlId.toNat scope) s
  if s.mir.primary && e = s.mir.epoch then reply s
  else if laterEpoch e s.mir.epoch || e = s.mir.epoch then
    newRole true e 9 reason (fun s => reply (onlyIf (decide (reason = 0)) (dirtyAll (inScope scope)) s)) s
  else s

/-- ROLE_CHANGE: a request or a confirmation (R404 to R406). A later epoch that comes with no part of this controller's
own role change is learned (R384). -/
def roleChange (s : State) : State :=
  match takeMsg (isTy tyRole) s with
  | none => s
  | some (g, s) =>
    let m := g.words
    mirrorMsg m (fun s =>
      let w := m[2]
      let e : BitVec 8 := BitVec.ofNat 8 (fld w 23 16)
      if bitOf w 15 then
        match s.mir.role with
        | some r => if r.sent && e = s.mir.epoch + 1 then completeRole r s else learnEpoch e s
        | none => learnEpoch e (updMir (fun r => { r with unconf := if e = r.epoch then none else r.unconf }) s)
      else if fld w 9 0 = s.glb.ctlId.toNat then becomePrimary (fld w 31 24) e (BitVec.ofNat 8 (fld m[3] 7 0)) s
      else learnEpoch e s) s

def execRoleChange (s : State) : Res := run roleChange s

/-- A STALE_REPLY makes its receiver adopt the later epoch; one whose own epoch is older is rejected (R384). -/
def staleReplyMsg (s : State) : State :=
  match takeMsg (isTy tyStale) s with
  | none => s
  | some (g, s) => mirrorMsg g.words (learnEpoch (BitVec.ofNat 8 (fld g.words[2] 15 8))) s

def execStaleReply (s : State) : Res := run staleReplyMsg s

/-- HEARTBEAT: fingerprints and epoch are compared (R440); one with the old epoch after a role change that
was not confirmed makes the request go out again (R404). (DEDUCED, log 31) -/
def heartbeat (s : State) : State :=
  match takeMsg (isTy tyHeartbeat) s with
  | none => s
  | some (g, s) =>
    let m := g.words
    if !fromPeer s m then s
    else
      let s := updMir (fun r => { r with
        alive := true, missedBeats := 0, exchange := if fld m[6] 2 0 = PairState.joining.code then r.exchange else none })
        (notePeer m (epochOf m) s)
      if olderMsg s m then
        let s := staleReply m s
        match s.mir.unconf with
        | some r => sendRoleReq r s.mir.epoch s
        | none => s
      else compareFps (some (m[2].toNat + 2 ^ 32 * m[3].toNat)) (m[4].toNat + 2 ^ 32 * m[5].toNat) s

def execHeartbeat (s : State) : Res := run heartbeat s

/-! ### HELLO and joining (R400, R406 to R409) -/

/-- Epoch and role that HELLO reports, and JOINING: those of the pair record while JOINING (R406). A secondary whose peer has
not shown that it has left JOINING repeats the HELLO of the exchange, so that the peer decides by the same two HELLOs
(R408). (DEDUCED, log 31) -/
def helloSelf (s : State) : BitVec 8 × Bool × Bool :=
  if s.mir.pair = .joining then let (e, p) := s.mir.record.getD (0, false); (e, p, true)
  else
    let now := (s.mir.epoch, s.mir.primary, false)
    if s.mir.primary then now else s.mir.exchange.getD now

def helloPay (s : State) : List Word :=
  let (e, p, j) := helloSelf s
  [pack [(1, 24), (e.toNat, 16), (b2n p, 15), (b2n s.mir.retained, 14), (b2n j, 13), (b2n (mirroredInit s), 12)]]
    ++ words64 (ownPair s)

/-- HELLO has header epoch 0 (R406). -/
def sendHello (s : State) : State := sendMsg tyResilver (peerId s) 0 (helloPay s) (.message (peerId s)) s

/-- HELLO_SEND: a controller in JOINING, or a secondary in DEGRADED. -/
def helloSend (s : State) : State :=
  if s.mir.pair = .joining || (s.mir.pair = .degraded && !s.mir.primary) then sendHello s else s

def execHelloSend (s : State) : Res := run helloSend s

/-- One side of a HELLO exchange. -/
structure Side where
  id : Nat
  epoch : BitVec 8
  primary : Bool
  retained : Bool
  joining : Bool
  deriving DecidableEq, Repr

def sideSelf (s : State) : Side :=
  let (e, p, j) := helloSelf s
  ⟨s.glb.ctlId.toNat, e, p, s.mir.retained, j⟩

def sidePeer (m : Vector Word 8) : Side :=
  ⟨msgSrc m, BitVec.ofNat 8 (fld m[2] 23 16), bitOf m[2] 15, bitOf m[2] 14, bitOf m[2] 13⟩

/-- The dirty set that R408 gives the new primary. -/
inductive DirtySet where
  | kept | empty | all
  deriving DecidableEq, Repr

/-- The table of R408 for sides a and b: the primary is a, its epoch, its dirty set. `confA` says that a
is the configured primary. (DEDUCED, log 31) -/
def joinTable (a b : Side) (confA : Bool) : Bool × BitVec 8 × DirtySet :=
  let incumbent (x y : Side) : DirtySet := if y.retained && y.epoch = x.epoch then .kept else .all
  if !a.joining && a.primary then (true, a.epoch, incumbent a b)
  else if !b.joining && b.primary then (false, b.epoch, incumbent b a)
  else if !a.retained && !b.retained then (confA, 1, .empty)
  else if a.retained && !b.retained then (true, a.epoch + 1, .all)
  else if b.retained && !a.retained then (false, b.epoch + 1, .all)
  else if a.epoch = b.epoch && a.primary != b.primary then (a.primary, a.epoch, .kept)
  else if a.epoch = b.epoch then (decide (a.id < b.id), a.epoch + 1, .all)
  else if laterEpoch a.epoch b.epoch then (true, a.epoch + 1, .all)
  else (false, b.epoch + 1, .all)

/-- Give the bitmap the contents that R408 names. -/
def setDirtySet (d : DirtySet) (s : State) : State :=
  match d with
  | .kept => s
  | .empty => updMir (fun m => { m with dirty := 0 }) s
  | .all => dirtyAll (fun _ => true) s

/-- Decide the roles (R408): DEGRADED with cause 7 on both sides; the new primary holds its dirty set. A
primary that stays primary has no new role to report. -/
def joinDecide (a b : Side) (s : State) : State :=
  let (mine, e, d) := joinTable a b (regBit s 0x6000 30)
  if mine then
    if a.primary && !a.joining then degrade 7 0 (setDirtySet d s)
    else newRole true e 7 3 (setDirtySet d) s
  else newRole false e 7 3 id s

/-- Start the resilver: START is sent, and writes are forwarded again (R400). -/
def resilverBegin (s : State) : State :=
  let s := sendPeer tyResilver [pack [(2, 24)], pack [(dirtyCount s, 0)]] (.message (peerId s)) s
  regSet 0x6010 0 (updMir (fun m => { m with pair := .resilvering, walk := Vector.replicate 4 0, walkOk := Vector.replicate 4 0 }) s)

/-- With every bit clear the primary sends DONE and enters HEALTHY (R402). -/
def resilverCheck (s : State) : State :=
  if s.mir.pair = .resilvering ∧ s.mir.primary = true ∧ s.mir.dirty = 0 then
    let s := sendPeer tyResilver [pack [(3, 24)], 0] (.message (peerId s)) s
    mirRecord 0x0E 0 0 0 0 (sqSet 0x602C 0x4 (updMir (fun m => { m with pair := .healthy, locks := [] }) s))
  else s

/-- The conditions of R400 for a HELLO. -/
def mayResilver (s : State) (p : Side) (inited : Bool) : Bool :=
  s.mir.primary && s.mir.pair = .degraded && !s.mir.hold5 && !s.mir.hold6 && !p.primary && !p.joining && inited
    && p.epoch = s.mir.epoch && decide (s.mir.degradedAt + ms (regFld s 0x6004 15 0) ≤ s.glb.now)

/-- HELLO: roles are decided while a side is JOINING, otherwise the resilver may start (R400, R408). The controller that
decides sends the HELLO it decides by, so that both sides decide alike. Only the first exchange decides: a further HELLO of a
peer still JOINING is answered, and changes nothing. (DEDUCED, log 31) -/
def hello (s : State) : State :=
  match takeMsg (isSub 1) s with
  | none => s
  | some (g, s) =>
    let m := g.words
    if !fromPeer s m then s
    else
      let p := sidePeer m
      let s := compareFps none (m[3].toNat + 2 ^ 32 * m[4].toNat) (notePeer m p.epoch s)
      let s := onlyIf (!p.joining) (updMir (fun r => { r with exchange := none })) s
      if s.mir.hold5 then s
      else if s.mir.exchange.isSome then sendHello s
      else
        let a := sideSelf s
        if a.joining || p.joining then
          let s := joinDecide a p (sendHello s)
          updMir (fun r => { r with exchange := if p.joining then some (a.epoch, a.primary, a.joining) else none }) s
        else if mayResilver s p (bitOf m[2] 12) then resilverCheck (resilverBegin s)
        else s

def execHello (s : State) : Res := run hello s

/-- The takeover of R405: primary at the next epoch, every initialised mirrored region dirty. -/
def takeover (s : State) : State :=
  let e := s.mir.epoch + 1
  newRole true e 9 2 (fun s => dirtyAll (fun _ => true) (sendRole (rolePay 2 e false s.glb.ctlId.toNat 0) s)) s

/-- JOIN_TIMEOUT: no HELLO within MIR_JOIN_TIMEOUT_MS (R409). -/
def joinTimeout (s : State) : State :=
  if s.mir.pair ≠ .joining then s
  else
    let s := updMir (fun m => { m with joinLate := true }) (timeout 0x19 2 5 false (peerId s).toNat 0 s)
    let own := if s.mir.retained then s.mir.record.any Prod.snd else regBit s 0x6000 30
    if regBit s 0x6000 29 && own then takeover s else s

def execJoinTimeout (s : State) : Res := run joinTimeout s

/-- SERVICE entry: a pair enters JOINING (R408). -/
def joinStart (s : State) : State :=
  if !mirEn s then s
  else updMir (fun m => { m with
    pair := .joining, joinLate := false, primary := false, alive := false, missedBeats := 0, exchange := none
    epoch := (m.record.map Prod.fst).getD m.epoch, unconf := none, locks := [] }) (roleOff s)

/-! ### START, DONE, POISON_LINE (R392, R400, R402) -/

/-- RESILVER_START: the secondary enters RESILVERING. -/
def resilverStart (s : State) : State :=
  match takeMsg (isSub 2) s with
  | none => s
  | some (g, s) => mirrorMsg g.words (fun s =>
      if s.mir.pair = .degraded ∧ s.mir.primary = false then updMir (fun m => { m with pair := .resilvering }) s else s) s

def execResilverStart (s : State) : Res := run resilverStart s

/-- RESILVER_DONE: the secondary enters HEALTHY. -/
def resilverDone (s : State) : State :=
  match takeMsg (isSub 3) s with
  | none => s
  | some (g, s) => mirrorMsg g.words (fun s =>
      if s.mir.pair = .resilvering ∧ s.mir.primary = false then
        sqSet 0x602C 0x4 (updMir (fun m => { m with pair := .healthy }) s)
      else s) s

def execResilverDone (s : State) : Res := run resilverDone s

/-- The request that carried a POISON_LINE becomes an ingress write of poison for the named line, answered
OK, in the slot that it holds (R392); it is queued in the partition of its label, or in P0 (R264). (DEDUCED, log 19) -/
def poisonEnter (id : Nat) (a : LineAddr) (s : State) : State :=
  match findReq s id, fwd s a with
  | some _, .owned _ true d =>
    let s := updReq id (fun r => { r with addr := a, lla := llaOf s d, phase := .ingress }) s
    let s := answer id .ok 0 s
    match findReq s id with
    | some r =>
      let s := chargePart r (demand r.lla s)
      ingressLeft (missQueued ((findReq s id).getD r) s)
    | none => s
  | some _, _ => finish id (answer id .ok 0 s)
  | none, _ => s

/-- POISON_LINE: handled before the message is answered; one with an older epoch is rejected, and still
answered OK (R384, R392). -/
def poisonLine (s : State) : State :=
  match takeMsg (isSub 4) s with
  | none => s
  | some (g, s) =>
    match g.reqId with
    | none => s
    | some id =>
      let m := g.words
      let drop (s : State) : State := finish id (answer id .ok 0 s)
      if !fromPeer s m || s.mir.hold5 then drop s
      else
        let s := notePeer m (epochOf m) s
        if olderMsg s m then drop (staleReply m s)
        else if s.mir.primary || s.mir.pair = .joining then drop s
        else poisonEnter id (poisonAddr m) s

def execPoisonLine (s : State) : Res := run poisonLine s

/-! ### The resilver requester (R401, R402) -/

/-- The lowest dirty region of a sub-channel whose rank is in service. (DEDUCED, log 32) -/
def walkRegion (s : State) (x : Sc) : Option Nat :=
  ((List.range (2 ^ 18)).map fun i => x.val * 2 ^ 18 + i).find? fun r =>
    s.mir.dirty.getLsbD r && rankLive s (BitVec.ofNat 38 (r * 2 ^ 18))

def Origin.isResilver : Origin → Bool
  | .resilver => true
  | _ => false

/-- A resilver read of the sub-channel is under way. -/
def walkBusy (s : State) (x : Sc) : Bool :=
  let q := s.sched.get x
  !(q.maint.get 4).isEmpty || q.pipe.any (fun t => t.origin.isResilver) || q.lost.any (fun t => t.origin.isResilver)

/-- A line of the walk has been answered, or needs no forward; the last one of a region clears its bit. -/
def walkAnswered (x : Sc) (s : State) : State :=
  let n := s.mir.walkOk.get x + 1
  if n < 2 ^ 18 then updMir (fun m => { m with walkOk := vset m.walkOk x n }) s
  else
    match walkRegion s x with
    | none => s
    | some r =>
      let s := bump 0x6010 (updMir (fun m => { m with
        dirty := clrBit m.dirty r, walk := vset m.walk x 0, walkOk := vset m.walkOk x 0 }) s)
      resilverCheck s

def walkStep (x : Sc) (s : State) : State := updMir (fun m => { m with walk := vset m.walk x (m.walk.get x + 1) }) s

/-- The line waits for its out-of-turn scrub (R401, step 3). -/
def walkWaits (s : State) (x : Sc) (l : Lla) : Bool :=
  (s.ras.scrub.get x).oot.contains l || (s.sched.get x).locks.contains l
    || ((s.sched.get x).maint.get 6).any fun m => m.op.line? = some (l, false) || m.op.line? = some (l, true)

/-- What the resilver requester asks for. Lines of the region outside the mirrored windows are passed; one of an
uninitialised region reads as zeros at once (R164, R167). (DEDUCED, log 32) -/
def resilverOffer (x : Sc) (s : State) : State :=
  if s.mir.pair ≠ .resilvering || !s.mir.primary || walkBusy s x then s
  else
    match walkRegion s x with
    | none => s
    | some r =>
      let n := s.mir.walk.get x
      let l : Lla := BitVec.ofNat 38 (r * 2 ^ 18 + n)
      if 2 ^ 18 ≤ n || walkWaits s x l then s
      else if !lineMirrored s l then walkAnswered x (walkStep x s)
      else if readsZero s l then
        egpAsk (peerOp s .mirrorWrite (sysAddr s l) 0 (.resilver x l)) (walkStep x (updMir (fun m => { m with locks := m.locks ++ [l] }) s))
      else mntAdd x 4 (.lineRead .resilver l) s

/-- RESILVER_LINE: the line is decoded and forwarded, or waits for its scrub (R401). -/
def resilverLine (x : Sc) (rx : Capture) (s : State) : State :=
  match takeTag x Origin.isResilver s with
  | none => s
  | some (t, s) =>
    let l := t.lla
    let d := t.decode s rx
    let s := readRecord l d (RasInfo.of 8 (soleDevice (isX8 s) d.errs)) (readSeen t rx d s)
    if s.mir.pair ≠ .resilvering then updMir (fun m => { m with locks := m.locks.filter (· ≠ l) }) s
    else
      let a := sysAddr s l
      match d.outcome with
      | .clean | .corrected => egpAsk (peerOp s .mirrorWrite a d.data (.resilver x l)) (walkStep x s)
      | .poison => sendPeer tyResilver (poisonPay a) (.resilver x l) (walkStep x s)
      | _ => updMir (fun m => { m with locks := m.locks.filter (· ≠ l) }) s

def execResilverLine (sc : Sc) (rx : Capture) (s : State) : Res := run (resilverLine sc rx) s

/-! ### The manager's operations (R403, R412) -/

def setMirResult (busy : Bool) (code : Nat) (s : State) : State :=
  regSet 0x6028 (pack [(b2n busy, 31), (code, 28)]) (updMir (fun m => { m with ctlBusy := busy }) s)

/-- Cause 4 is in force: three periods have passed without a HEARTBEAT, and none has come since (R396, R403). -/
def beatsLost (s : State) : Bool := !s.mir.alive && s.mir.missedBeats = 3

/-- The operation of a confirmed MIR_CTL value. (DEDUCED, log 28) -/
def actMirCtl (v : Word) (s : State) : State :=
  if s.mir.pair = .disabled then setMirResult false 4 s
  else if s.mir.ctlBusy then setMirResult true 1 s
  else
    match fld v 31 28 with
    | 1 =>
      if s.mir.primary && s.mir.pair = .healthy && s.mir.role.isNone then setMirResult true 0 (reqRole 1 s)
      else setMirResult false 2 s
    | 2 => setMirResult false 0 (degrade 6 0 s)
    | 3 => setMirResult false 0 (updMir (fun m => { m with hold6 := false }) s)
    | 4 =>
      if s.mir.primary then setMirResult false 2 s
      else if (s.mir.pair = .joining && s.mir.joinLate) || (s.mir.pair = .degraded && beatsLost s) then
        setMirResult false 0 (takeover s)
      else setMirResult false (if s.mir.alive then 3 else 2) s
    | _ => setMirResult false 2 s

end Sys2Proof.Machine
end

