-- ==== Sys2Proof/Machine/Domain.lean ====
section
/-! DEFINITION. The domain census (13, R441 to R447): rounds, tokens, results, deliveries, the published
state and the snapshot mailbox. -/

namespace Sys2Proof.Machine

/-! ### Members (13, "Census"; DOM registers) -/

def domN (s : State) : Nat := regFld s 0x5004 26 16
def ownRank (s : State) : Nat := regFld s 0x5004 9 0
def succId (s : State) (j : Nat) : Nat :=
  let o := if j < 2 then 0x5008 else 0x500C
  if j % 2 = 0 then regFld s o 9 0 else regFld s o 25 16
/-- The census period and hop timeout in ac. -/
def censusPeriod (s : State) : Nat := ms (regFld s 0x5000 31 16)

/-! ### Tokens (R439, R441) -/

/-- A census token or result. -/
structure Token where
  inv : Word
  full : Word
  hi : Nat
  lo : Nat
  invMm : Nat
  fullMm : Nat
  init : Nat
  seen : Nat
  skipped : Nat
  incomplete : Bool
  deriving DecidableEq, Repr

/-- Payload words 2 to 6. -/
def Token.pay (t : Token) : Vector Word 5 :=
  #v[t.inv, t.full, pack [(t.hi, 16), (t.lo, 0)], pack [(t.invMm, 21), (t.fullMm, 10), (t.init, 0)],
     pack [(t.seen, 21), (t.skipped, 10), (b2n t.incomplete, 0)]]

def tokenOf (w : Vector Word 5) : Token where
  inv := w[0]
  full := w[1]
  hi := fld w[2] 31 16
  lo := fld w[2] 15 0
  invMm := fld w[3] 31 21
  fullMm := fld w[3] 20 10
  init := fld w[3] 9 0
  seen := fld w[4] 31 21
  skipped := fld w[4] 20 10
  incomplete := bitOf w[4] 0

/-- The payload of a message. -/
def payOf (m : Vector Word 8) : Vector Word 5 := #v[m[2], m[3], m[4], m[5], m[6]]

/-- The message of a token or result to a member: its sequence is the round (R438). -/
def tokenMsg (s : State) (ty : Nat) (dst round : Nat) (t : Token) : Vector Word 8 :=
  msgWords ty (protoNow s) s.glb.ctlId.toNat dst round 0 t.pay.toList

/-- Start a delivery to successor j (R442). -/
def deliver (result : Bool) (j round : Nat) (t : Token) (s : State) : State :=
  let dst := succId s j
  let m := tokenMsg s (if result then tyResult else tyToken) dst round t
  let d : Delivery := { dst := BitVec.ofNat 10 dst, words := m, tries := none, succ := j, result := result }
  egpAsk (msgReq s (BitVec.ofNat 10 dst) m (.message (BitVec.ofNat 10 dst))) (updDom (fun a => { a with out := a.out ++ [d] }) s)

/-- The first successor from j on that is another member. -/
def nextSucc (s : State) (j : Nat) : Option Nat :=
  ((List.range 4).drop j).find? fun k => decide (succId s k ≠ s.glb.ctlId.toNat)

/-- Send a result to the first successor from j on (R443). -/
def sendResult (j round : Nat) (t : Token) (s : State) : State :=
  match nextSucc s j with
  | some k => deliver true k round t s
  | none => s

/-! ### The stored result (R443, R444, R446, R447) -/

/-- The published state: 0 AGREED, 1 UPGRADING, 2 DIVERGENT (R444). -/
def Token.state (t : Token) : Fin 4 :=
  if 0 < t.invMm then 2 else if t.lo + 1 < t.hi then 2 else if 0 < t.fullMm ∨ t.hi ≠ t.lo then 1 else 0

/-- The eight words of the snapshot mailbox. -/
def snapWords (r : CensusRes) : List Word :=
  r.words.toList ++ [pack [(r.round.toNat, 16), (r.st.val, 0)], BitVec.ofNat 32 r.time, BitVec.ofNat 32 (r.time / 2 ^ 32)]

/-- A result reaches the mailbox (R447). -/
def snapPut (r : CensusRes) (s : State) : State :=
  if 0 < s.dom.snap.length ∧ s.dom.snap.length < 8 then
    let s := onlyIf s.dom.snapHeld.isSome (fun s => sqSet 0x5030 0x10 (bump 0x5058 s)) s
    updDom (fun d => { d with snapHeld := some r }) s
  else updDom (fun d => { d with snap := snapWords r }) s

/-- CENSUS_RESULT (R446). -/
def censusRecord (r : CensusRes) (s : State) : State :=
  let t := tokenOf r.words
  raise 0x18 0 5
    [pack [(r.st.val, 30), (b2n t.incomplete, 29), (t.seen, 11), (t.skipped, 0)], pack [(r.round.toNat, 16), (t.init, 0)],
     r.words[2], pack [(t.invMm, 16), (t.fullMm, 0)]] s

/-- What a change of result is shown by. -/
def resKey (r : CensusRes) : Fin 4 × Nat × Nat × Bool := let t := tokenOf r.words; (r.st, t.seen, t.skipped, t.incomplete)

/-- Store and publish a result. -/
def storeResult (round : Nat) (t : Token) (s : State) : State :=
  let r : CensusRes := { words := t.pay, round := BitVec.ofNat 16 round, st := t.state, time := s.glb.now }
  let old := s.dom.res
  let s := updDom (fun d => { d with
    res := some r, lowInitAt := if t.init < s.glb.ctlId.toNat then some s.glb.now else d.lowInitAt }) s
  let s := snapPut r s
  let s := onlyIf (decide (old.map resKey ≠ some (resKey r))) (censusRecord r) s
  if old.map CensusRes.st = some r.st then s
  else
    let s := sqSet 0x5030 (pack [(1, r.st.val)]) s
    if r.st = 2 then raise 0x19 2 5 ([pack [(t.init, 0)]] ++ words64 (ownInv s) ++ [t.inv, 0]) s else s

/-- finish of R441. -/
def finishRound (round : Nat) (t : Token) (s : State) : State := sendResult 0 round t (storeResult round t s)

/-- pass_on of R441, from successor j on: once the fourth has failed the round is incomplete. -/
def passOn (j round : Nat) (t : Token) (s : State) : State :=
  if 4 ≤ j then finishRound round { t with incomplete := true } s
  else if domN s ≤ t.seen + t.skipped then finishRound round t s
  else deliver false j round t s

/-- Own tags and step. -/
def ownTags (s : State) : Word × Word := (fpTag (ownInv s), fpTag (regGet64 s 0x4010))
def ownStep (s : State) : Nat := regFld s 0x4000 31 16

/-- start of R441. -/
def startRound (s : State) : State :=
  let s := bump 0x5040 (updDom (fun d => { d with round := d.round + 1, startedAt := some s.glb.now }) s)
  let (i, f) := ownTags s
  passOn 0 s.dom.round.toNat ⟨i, f, ownStep s, ownStep s, 0, 0, s.glb.ctlId.toNat, 1, 0, false⟩ s

/-- A time lies within the last n periods. -/
def withinPeriods (s : State) (n : Nat) (t : Option Nat) : Bool := t.any fun t => decide (s.glb.now ≤ t + n * censusPeriod s)

/-- Census runs once the image is applied and the controller is a member of its domain. -/
def censusOn (s : State) : Bool := s.img.applied && decide (1 ≤ domN s)

/-- CENSUS_PERIOD (R441). -/
def censusTick (s : State) : State :=
  if !censusOn s then s
  else if ownRank s = 0 then startRound s
  else if withinPeriods s (2 + min (ownRank s) 8) s.dom.lowInitAt then s
  else startRound s

def execCensusPeriod (s : State) : Res := run censusTick s

/-- Fold this controller into a token (R441). -/
def foldIn (s : State) (t : Token) : Token :=
  let (i, f) := ownTags s
  { t with
    seen := sat 2047 (t.seen + 1), invMm := if i ≠ t.inv then sat 2047 (t.invMm + 1) else t.invMm
    fullMm := if f ≠ t.full then sat 2047 (t.fullMm + 1) else t.fullMm
    hi := max t.hi (ownStep s), lo := min t.lo (ownStep s) }

/-- CENSUS_TOKEN: folded in and passed on, or dropped (R441). -/
def censusToken (s : State) : State :=
  match takeMsg (isTy tyToken) s with
  | none => s
  | some (g, s) =>
    let t := tokenOf (payOf g.words)
    if s.glb.ctlId.toNat < t.init ∧ withinPeriods s 2 s.dom.startedAt = true then bump 0x504C s
    else passOn 0 (msgSeq g.words) (foldIn s t) s

def execCensusToken (s : State) : Res := run censusToken s

/-- CENSUS_RESULT: stored and forwarded unless the same round and initiator are stored (R443). -/
def censusResult (s : State) : State :=
  match takeMsg (isTy tyResult) s with
  | none => s
  | some (g, s) =>
    let t := tokenOf (payOf g.words)
    let held := s.dom.res.any fun r => decide (r.round.toNat = msgSeq g.words ∧ (tokenOf r.words).init = t.init)
    if held then s else finishRound (msgSeq g.words) t s

def execCensusResult (s : State) : Res := run censusResult s

/-! ### Deliveries (R442) -/

/-- A delivery was answered OK: it is over; a token that was delivered has been passed on. -/
def delivered (dst : BitVec 10) (data : Line) (s : State) : State :=
  match s.dom.out.find? fun d => d.dst = dst && msgLine d.words = data with
  | none => s
  | some d =>
    let s := updDom (fun a => { a with out := a.out.filter (· ≠ d) }) s
    onlyIf (d.tries.isNone && !d.result) (bump 0x5044) s

/-- A census delivery to a member. -/
def censusTo (s : State) (dst : BitVec 10) : Option Delivery := s.dom.out.find? fun d => d.dst = dst && d.tries.isNone

/-- CHIOZ_RESEND: an unanswered census delivery is sent again. (DEDUCED, log 31) -/
def chiozResend (dst : BitVec 10) (s : State) : State :=
  match censusTo s dst with
  | none => s
  | some d => egpAsk (msgReq s d.dst d.words (.message d.dst)) s

def execChiozResend (dst : BitVec 10) (s : State) : Res := run (chiozResend dst) s

/-- CENSUS_HOP_TIMEOUT: the delivery fails, the successor is skipped (R441, R442). The first failure of a round, which its
initiator and number name, raises TIMEOUT. (DEDUCED, log 31) -/
def hopTimeout (dst : BitVec 10) (s : State) : State :=
  match censusTo s dst with
  | none => s
  | some d =>
    let round := msgSeq d.words
    let t := tokenOf (payOf d.words)
    let s := updDom (fun a => { a with out := a.out.filter (· ≠ d) }) s
    let s := sqSet 0x5030 0x8 (bump 0x5048 s)
    let s := if kfind s.dom.told t.init = some round then expiredMore 0x18 s
      else updDom (fun a => { a with told := kset a.told t.init round }) (timeout 0x18 0 5 false dst.toNat round s)
    if d.result then sendResult (d.succ + 1) round t s
    else passOn (d.succ + 1) round { t with skipped := sat 2047 (t.skipped + 1) } s

def execCensusHopTimeout (dst : BitVec 10) (s : State) : Res := run (hopTimeout dst) s

/-! ### DOM_SNAP_DATA (R447) -/

/-- A read consumes the next word; after word 7 a held result becomes the snapshot. -/
def domSnapRead (s : State) : State :=
  match s.dom.snap with
  | [] => respOk 0 s
  | w :: rest =>
    let s := updDom (fun d => { d with snap := rest }) s
    let s := if rest = [] then
        match s.dom.snapHeld with
        | some r => updDom (fun d => { d with snap := snapWords r, snapHeld := none }) s
        | none => s
      else s
    respOk w s

def execDomSnapDataRead (priv : Bool) (s : State) : Res := run (onPort priv (imagePort domSnapRead)) s

end Sys2Proof.Machine
end

