-- ==== Sys2Proof/Machine/Gear.lean ====
section
/-! DEFINITION. The gear change (10, R329 to R333) and the gear policy (15, R487). -/

namespace Sys2Proof.Machine

/-- The drain estimate of every sub-channel in service lies at or below cap_gc (R331). -/
def gearDrained (s : State) : Bool :=
  (liveScs s).all fun x => decide (drainEst s x [] [] ≤ drainCapGc s s.glb.gear)

/-- Every scheduler enters full-drain mode (R195, R330, R434): a swatch run is aborted (R315). -/
def fullDrain (s : State) : State :=
  let s := forAll (fins 4) abortSwatch s
  forAll ((liveScs s).filter fun x => s.pwr.sc.get x ≠ .selfRefresh) (fun x s =>
    updSched x (fun q => { q with fullDrain := true }) (powerUp x s)) s

/-- The write queues and copy-line buffers are empty and no burst is in progress (R330, steps 1 and 2). -/
def drained (s : State) : Bool :=
  (liveScs s).all fun x => let q := s.sched.get x; q.wq.isEmpty && q.copy.isEmpty && busDone s x

/-- A repair or a recovery is in progress: a gear change waits for its end (R373). -/
def repairing (s : State) : Bool := s.ras.ppr.isSome || s.alert.toList.any Alert.recovering

/-- GEAR_CHANGE_ENTER: a pending change starts (R330 step 1, R331). Scouts abandon their sweeps (R309). -/
def gearChangeEnter (s : State) : State :=
  match s.phy.gearPending with
  | none => s
  | some g =>
    if s.glb.ctl ≠ .service || s.qz.ph = .boundary || repairing s || !gearDrained s then s
    else
      let s := { s with phy := { s.phy with gearPending := none, gearTo := some (g, s.glb.now) } }
      forAll (fins 4) stopAll (fullDrain (enter .gearChange s))

def execGearChangeEnter (s : State) : Res := run gearChangeEnter s

/-- The codes of a gear are loaded into every line and both samplers (R330, step 4); scouts start again (R309), and a
run-time sequence that still had codes on their way, or counts to read, has ended. -/
def loadGear (s : State) : State :=
  forAll (liveScs s) (fun x s =>
    let r := llRecord s (chOf x) s.glb.gear
    let s := onlyIf ((s.phy.sc.get x).seq ≠ .training) (seqEnd x) s
    let s := updMaint x 2 (fun l => l.filter fun m => !m.oscs) (stopAll x s)
    updPhySc x (llApply r (x.val % 2)) s) s

/-- Steps 2 to 7 of R330: every rank sleeps, DCK stops, the clock and the codes are those of gear g, DCK starts at the new
rate, the devices and the RCD get the settings that depend on it, every rank wakes (R206). -/
def gearSwitch (g : Gear) (s : State) : State :=
  let s := forAll (fins 2) dckStop (srEnterAll s)
  let s := forAll (fins 2) dckStart (loadGear (updGlb (fun b => { b with gear := g }) s))
  srExitAll (forAll (liveScs s) (fun x s => toRanks x .mrw false s (.set (.gear g))) s)

/-- The read check of R333: one swatch line of every logical rank. -/
def readCheck (s : State) : State :=
  forAll (liveScs s) (fun x s => forAll (swCs s x) (fun c s => forAll (List.range (nLr s)) (fun lr s =>
    force 3 x (cmdFor s .rd (swatchLla s x c lr)) [] s) s) s) s

/-- A gear becomes unavailable until the next Cast-On (R152, R333). -/
def gearUnavail (g : Gear) (s : State) : State :=
  sqSet rCastOn (pack [(1, 20 + g.val)]) (regPut (0xE000 + 0x200 * g.val) 30 30 1 s)

/-- GEAR_CHANGE_DONE: the drain is complete and steps 2 to 8 run; `readCheckOk` says whether the
target gear passed its read check. Without it the controller changes back to the gear it left by the same sequence
(R333). (DEDUCED, log 23) -/
def gearChangeDone (readCheckOk : Bool) (s : State) : State :=
  match s.phy.gearTo with
  | none => s
  | some (g, t) =>
    if s.glb.ctl ≠ .gearChange || !drained s then s
    else
      let old := s.glb.gear
      let s := readCheck (gearSwitch g s)
      let s := if readCheckOk then s else gearSwitch old (gearUnavail g s)
      let s := { s with phy := { s.phy with gearTo := none, policyRun := 0 } }
      let s := regSet rGearStatus (pack [(if readCheckOk then 0 else 5, 28), (sat 0xFFFF (s.glb.now - t), 0)]) s
      arriveService (sqSet rPhyStatus 0x200000 s)

def execGearChangeDone (readCheckOk : Bool) (s : State) : Res := run (gearChangeDone readCheckOk) s

/-- A power fail ends the request, pending or under way (R331, R333). -/
def gearPowerFail (s : State) : State :=
  if gearBusy s then
    sqSet rPhyStatus 0x200000 (regPut rGearStatus 30 28 4
      { s with phy := { s.phy with gearPending := none, gearTo := none, gearWait := none } })
  else s

/-- The ck of a utilisation window that carried data, and all its ck at the active gear, over the sub-channels in service
(R487): ck runs at half the data rate. -/
def windowData (s : State) : Nat := ((liveScs s).map fun x => (s.sched.get x).dataCk).sum
def windowAll (s : State) : Nat := (liveScs s).length * (regFld s 0x300C 7 0 * (200000 * rateOf s s.glb.gear))

/-- A utilisation window begins. -/
def windowBegins (s : State) : State := { s with sched := s.sched.map fun q => { q with dataCk := 0 } }

/-- What the policy makes of a window (R487). -/
def policyJudge (s : State) : State :=
  let run (n : Nat) (s : State) : State := { s with phy := { s.phy with policyRun := n } }
  let data := 100 * windowData s
  if !policyOn s || s.glb.ctl ≠ .service then s
  else if s.glb.gear = policyHigh s then
    if data < regFld s 0x300C 23 16 * windowAll s then
      if 1 ≤ s.phy.policyRun then gearAsk (policyLow s) s else run 1 s
    else run 0 s
  else if s.glb.gear = policyLow s && decide (regFld s 0x300C 15 8 * windowAll s < data) then gearAsk (policyHigh s) (run 0 s)
  else run 0 s

/-- GEAR_POLICY_WINDOW: a window ends, its utilisation is judged, and the next one begins (R487). A window that ends
during a pause or a gear change is discarded (R501). (DEDUCED, log 23) -/
def gearPolicyWindow (s : State) : State := windowBegins (policyJudge s)

def execGearPolicyWindow (_nothing : Unit) (s : State) : Res := run gearPolicyWindow s

end Sys2Proof.Machine
end

