-- ==== Sys2Proof/Machine/Qos.lean ====
section
/-! DEFINITION. Selection from the ingress stage, refill ticks, the timing wheel, guarantee misses (09). -/

namespace Sys2Proof.Machine

/-! ### Eligibility (R263, R273, R278, R279, R404, R496) -/

/-- Entries of a sub-channel that a partition holds. -/
def heldRd (s : State) (x : Sc) (label : Nat) : Nat := (s.sched.get x).rq.countP fun e => e.part.toNat = label
def heldWr (s : State) (x : Sc) (label : Nat) : Nat := (s.sched.get x).wq.countP fun e => e.part.toNat = label

/-- Outstanding reservations (R278). -/
def resRd (s : State) (x : Sc) : Nat :=
  (s.qos.parts.map fun e => if cfgEn e.2.cfg then e.2.minRd - heldRd s x e.1 else 0).sum
def resWr (s : State) (x : Sc) : Nat :=
  (s.qos.parts.map fun e => if cfgEn e.2.cfg then e.2.minWr - heldWr s x e.1 else 0).sum

def freeRd (s : State) (x : Sc) : Nat := 256 - (s.sched.get x).rq.length
def freeWr (s : State) (x : Sc) : Nat := 128 - (s.sched.get x).wq.length

/-- The request takes an entry of a transaction queue. -/
def takesEntry (s : State) (r : Req) : Bool := rankLive s r.lla && !r.nothing

/-- An entry is available to the request (R278). -/
def shareOk (s : State) (r : Req) : Bool :=
  let x := scOf r.lla
  let p := partOf s r.part.toNat
  !takesEntry s r ||
    (if r.op.isWrite then
      (decide (heldWr s x r.part.toNat < p.minWr) && decide (0 < freeWr s x)) || decide (resWr s x < freeWr s x)
    else (decide (heldRd s x r.part.toNat < p.minRd) && decide (0 < freeRd s x)) || decide (resRd s x < freeRd s x))

/-- A tier 0 request may take any free entry (R279). -/
def borrowOk (s : State) (r : Req) : Bool :=
  inPanic s r && regBit s 0x9000 1 && decide (0 < (if r.op.isWrite then freeWr s (scOf r.lla) else freeRd s (scOf r.lla)))

/-- R496 holds the write back. -/
def drainHolds (s : State) (r : Req) : Bool :=
  r.op.isWrite && !r.nothing && !drainOk s r (rankLive s r.lla)

/-- What the state admits: every head in SERVICE; up to the line boundary of a pause only writes
(R74, R289); no mirrored host request while a role change runs (R404). -/
def stateAdmits (s : State) (r : Req) : Bool :=
  s.glb.ctl = .service
    && (match s.qz.ph with
        | .boundary => r.op.isWrite
        | .waitSr | .paused | .exiting => false
        | _ => true)
    && !(s.mir.role.isSome && r.heldMirrored)

/-- The tier in which a head is served now (R274). -/
def tierNow (s : State) (r : Req) : Option (Fin 5) := if inPanic s r then some 0 else r.tier

/-- Eligible but for the drain estimate (R273). -/
def nearlyEligible (s : State) (r : Req) : Bool :=
  stateAdmits s r && !blocked s r && (tierNow s r).isSome && (inPanic s r || shaperOk (partOf s r.part.toNat))
    && decide (0 ≤ s.qos.tb.get (scOf r.lla)) && (shareOk s r || borrowOk s r)

/-- R273. -/
def eligible (s : State) (r : Req) : Bool := nearlyEligible s r && !drainHolds s r

/-! ### Selection (R275) -/

/-- a goes before b: lower tier; in tier 0 acceptance order; else earlier tag, at equal tags the lower
label. -/
def goesBefore (s : State) (a b : Req) : Bool :=
  let ta := ((tierNow s a).map Fin.val).getD 5
  let tb := ((tierNow s b).map Fin.val).getD 5
  if ta ≠ tb then decide (ta < tb)
  else if ta = 0 then decide (a.id < b.id)
  else if a.ftag = b.ftag then decide (a.part.toNat < b.part.toNat)
  else !laterTag a.ftag b.ftag

/-- The best of a list. -/
def bestReq (s : State) : List Req → Option Req
  | [] => none
  | r :: l => match bestReq s l with
    | none => some r
    | some b => some (if goesBefore s r b then r else b)

/-- Writes that only the drain estimate holds are counted once (R496). -/
def countDrainHolds (x : Sc) (s : State) : State :=
  forAll ((heads s x).filter fun r => nearlyEligible s r && drainHolds s r && !r.drainHeld)
    (fun r s => sqSet 0x3050 0x1 (bump 0x3070 (updReq r.id (fun r => { r with drainHeld := true }) s))) s

/-- Charge a selected request (R265, R271, R282). -/
def chargeSelect (r : Req) (s : State) : State :=
  if uncharged s r then s else tbDebit (scOf r.lla) (shaperDebit r.part.toNat s)

/-- Circumstances of a selection on sub-channel x (R285): a higher tier took service; a partition had
no entry available; an entry was borrowed. -/
def noteSelect (x : Sc) (t : Nat) (borrow : Bool) (s : State) : State :=
  let low (label : Nat) : Bool := (heads s x).any fun r => r.part.toNat = label && decide (t < ((tierNow s r).map Fin.val).getD 0)
  let short (label : Nat) : Bool := (heads s x).any fun r => r.part.toNat = label && !shareOk s r
  let s := missNote 6 (fun l _ => low l) (missNote 5 (fun l _ => short l) s)
  onlyIf borrow (missNote 3 fun _ _ => true) s

/-- The selected head leaves for its queue (R273 to R280). -/
def selectReq (x : Sc) (r : Req) (s : State) : State :=
  let t := ((tierNow s r).map Fin.val).getD 4
  let borrow := !shareOk s r
  let urgent := t == 0 || (r.colour = some .green && (partOf s r.part.toNat).cls == 2)
  let s := noteSelect x t borrow s
  let s := onlyIf (t == 0) (bump 0x9044) (onlyIf borrow (bump 0x9048) s)
  let s := if t = 0 then s
    else updQos (fun q => { q with vt := vmod q.vt x fun v => vset v (finOr 4 t) r.ftag }) s
  let s := chargeSelect r s
  ingressLeft (leaveIngress urgent r s)

/-- INGRESS_SELECT: one cc of a sub-channel. -/
def ingressSelect (x : Sc) (s : State) : State :=
  let s := countDrainHolds x s
  match bestReq s ((heads s x).filter (eligible s)) with
  | none => s
  | some r => selectReq x r s

def execIngressSelect (sc : Sc) (s : State) : Res := run (ingressSelect sc) s

/-! ### Refill ticks (R267 to R287) -/

/-- The coloured heads of a partition are placed by its present configuration: a head keeps its colour, and
takes a tag where its tier changes (R269, R274, R276, R287). -/
def placeHeads (label : Nat) (s : State) : State :=
  forAll (s.reqs.filter fun r => isHead s r && decide (r.part.toNat = label))
    (fun r s => match r.colour with
      | none => s
      | some c => enterTier r (tierOf (partOf s label) c) s) s

/-- Apply a partition change (R287). -/
def applyPart (label : Nat) (w : Vector Word 8) (s : State) : State :=
  let p := partOf s label
  let q := { p with cfg := w }
  let clipped := { q with tc := min p.tc q.full.tc, tp := min p.tp q.full.tp, ts := min p.ts q.full.ts }
  placeHeads label <| setPart label
    (if cfgEn w && !cfgEn p.cfg then { q.full with tags := [], parked := none }
     else if cfgShapeEn w && !cfgShapeEn p.cfg then { clipped with ts := q.full.ts, parked := none }
     else if !cfgEn w || !cfgShapeEn w then { clipped with parked := none }
     else clipped) s

/-- Step 1: the pending change is applied (R286, R287, R433). QPT_RESULT is that of the manager's
last commit, so BUSY stays. (DESIGN CHOICE, log 11) -/
def applyPending (s : State) : State :=
  let all := s.qos.pendingQpt.toList ++ s.qos.pendingMore
  if all.isEmpty then s
  else
    let s := forAll all (fun e s => applyPart e.1.toNat e.2 s) s
    let s := onlyIf (s.qos.pendingQpt.isSome && decide (regFld s 0xA018 30 28 = 1)) (regPut 0xA018 30 28 0) (regPut 0xA018 31 31 0 s)
    updQos (fun q => { q with pendingQpt := none, pendingMore := [] }) s

/-- THERMAL_THROTTLE of a kind: at most one a second (R493, R502). -/
def throttleRecord (kind t ch slot : Nat) (s : State) : State :=
  limited (0x310 + kind) (ms 1000) (fun n s =>
    raise 0x12 0 7 [pack [(kind, 28), (t, 16), (s.pwr.tMax.toNat, 0)],
      pack [(sat 0xFFFF n, 16), (ch, 5), (slot, 4)]] s) s

/-- Step 2: the throttle value of this tick (R282, R493, PWR_THROTTLE_ENTERED). -/
def takeThrottle (s : State) : State :=
  let old := tNow s
  let t := regFld s 0x9010 26 16
  let s := regPut 0x9010 10 0 t s
  let s := onlyIf (decide (t < 1024)) (bump 0x904C) s
  if t < 1024 ∧ 1024 ≤ old then throttleRecord 0 t 0 0 (sqSet 0x3050 0x8 (sqSet 0x9034 0x4 s))
  else if 1024 ≤ t ∧ old < 1024 then throttleRecord 1 t 0 0 s
  else s

/-- The Tc refill would be clipped at CBS (R284). -/
def clips (p : Part) : Bool := decide (cfgCbs p.cfg * 2 ^ 12 < p.tc + cfgCir p.cfg)

/-- Step 3 for a partition (R268). -/
def refillPart (p : Part) : Part :=
  { p with tc := min (p.tc + cfgCir p.cfg) (cfgCbs p.cfg * 2 ^ 12), tp := min (p.tp + cfgPir p.cfg) (cfgPbs p.cfg * 2 ^ 12) }

/-- Step 3 (R268, R282). -/
def refillAll (s : State) : State :=
  let t := tNow s
  updQos (fun q => { q with
    parts := q.parts.map (fun e => (e.1, refillPart e.2))
    tb := q.tb.map fun b => min (b + (32 * t : Nat)) 32768 }) s

/-- Step 4: red heads under HOLD are coloured again (R270). -/
def recolour (s : State) : State :=
  forAll (s.reqs.filter fun r => isHead s r && r.colour = some .red && r.tier.isNone && !inPanic s r) colourHead s

/-- A partition is backlogged (09). -/
def backlogged (s : State) (label : Nat) : Bool :=
  shaperOk (partOf s label) && s.reqs.any fun r => r.part.toNat = label && isHead s r && !blocked s r

/-- The circumstances that a tick shows (R285). One that begins between two ticks is noted where it begins
(`enter`, `panicUpdate`, `missEmergency`, `missQueued`, `noteSelect`). (DEDUCED, log 19) -/
def tickWhy (s : State) (label : Nat) : Byte :=
  let bl := s.reqs.any fun r => r.part.toNat = label && r.linked && blocked s r
  let em := (fins 4).any fun x => (queuedScs s label).getLsbD x.val && emergency s x
  BitVec.ofNat 8 (128 * b2n bl + 16 * b2n (s.glb.ctl ≠ .service) + 4 * b2n (decide (tNow s < 1024))
    + 2 * b2n s.qos.panic + b2n em)

/-- Step 5 for a partition; `clip` says that its Tc refill was clipped (R284). (DEDUCED, log 19) -/
def missStep (s : State) (clip : Bool) (label : Nat) (p : Part) : Part :=
  if !tracked p then { p with missRun := 0, missTold := false, missWhy := 0, missScs := 0 }
  else if clip && backlogged s label then
    let run := sat 0x3FFF (p.missRun + 1)
    let hit := decide (cfgMiss p.cfg ≤ run) && !p.missTold
    { p with missRun := run, missDue := p.missDue || hit, missTold := p.missTold || hit
             missWhy := p.missWhy ||| tickWhy s label, missScs := p.missScs ||| queuedScs s label }
  else if p.missDue then { p with missRun := 0, missTold := false }
  else { p with missRun := 0, missTold := false, missWhy := tickWhy s label, missScs := queuedScs s label }

/-- REFILL_TICK (R267). -/
def refillTick (s : State) : State :=
  if !s.glb.coreRun then s
  else
    let s := takeThrottle (applyPending (updQos (fun q => { q with tick := q.tick + 1 }) s))
    let clip := (s.qos.parts.filter fun e => clips e.2).map Prod.fst
    let s := recolour (refillAll s)
    updQos (fun q => { q with parts := q.parts.map fun e => (e.1, missStep s (clip.contains e.1) e.1 e.2) }) s

def execRefillTick (s : State) : Res := run refillTick s

/-- QOS_GUARANTEE_MISS of a partition whose miss count reached MISS_TICKS (R284, R285). -/
def guaranteeMiss (part : BitVec 12) (s : State) : State :=
  let p := partOf s part.toNat
  if !p.missDue then s
  else
    let s := setPart part.toNat { p with missDue := false, misses := BitVec.ofNat 32 (sat 0xFFFFFFFF (p.misses.toNat + 1)) } s
    let s := sqSet 0x9034 0x1 (bump 0x9050 s)
    let rec_ (n : Nat) (s : State) : State := raise 0x14 0 1
      [pack [(part.toNat, 20), (cfgClass p.cfg, 18), (p.missScs.toNat, 14), (cfgMiss p.cfg, 0)],
       pack [(p.missWhy.toNat, 0)], BitVec.ofNat 32 (sat 0xFFFFFFFF n)] s
    if regBit s 0x9000 0 then limited 0x300 (ms 1) rec_ s
    else
      let (t, n) := kget (none, 0) s.evt.lim 0x300
      updEvt (fun e => { e with lim := kset e.lim 0x300 (t, n + 1) }) s

def execQosGuaranteeMiss (part : BitVec 12) (s : State) : Res := run (guaranteeMiss part) s

/-- WHEEL_SLOT: shapers are refilled, partitions parked at this slot are judged again (R271, R272). -/
def wheelPart (s : State) (p : Part) : Part :=
  if !p.shapeEn then p
  else
    let p := { p with ts := min (p.ts + rateEff s p) (cfgBurst p.cfg * 2 ^ 18 : Nat) }
    match p.parked with
    | none => p
    | some k => if k ≤ s.qos.wheel then parkIf s p else p

def wheelSlot (s : State) : State :=
  if !s.glb.coreRun then s
  else
    let s := updQos (fun q => { q with wheel := q.wheel + 1 }) s
    updQos (fun q => { q with parts := q.parts.map fun e => (e.1, wheelPart s e.2) }) s

def execWheelSlot (s : State) : Res := run wheelSlot s

end Sys2Proof.Machine
end

