-- ==== Sys2Proof/Machine/Reload.lean ====
section
/-! DEFINITION. Reload of the configuration image and the broadcast of reloads (13, R430 to R437). -/

namespace Sys2Proof.Machine

def rImgStatus : Nat := 0x4060
def rReload : Nat := 0x4028

def updRl (f : Reload → Reload) (s : State) : State := updImg (fun i => { i with rl := f i.rl }) s

/-! ### Broadcast targets (R436, R437) -/

/-- The broadcast has an answer from every target, or gave it up; a withdrawal needs their WITHDRAWN.
(DEDUCED, log 26) -/
def bcastOver (s : State) : Bool :=
  s.img.bcastTo.all fun t => s.img.bcastPh.any fun p => p.1 = t && (!s.img.bcastBack || decide (2 ≤ p.2.val))

/-- A target reaches a phase; the last one ends the broadcast. (DEDUCED, log 26) -/
def bcastPhase (t : BitVec 10) (ph : Fin 5) (s : State) : State :=
  if s.img.bcastTo.contains t then
    let before := bcastOver s
    let s := updImg (fun i => { i with bcastPh := i.bcastPh.filter (fun p => p.1 ≠ t) ++ [(t, ph)] }) s
    onlyIf (!before && bcastOver s) (sqSet rImgStatus 0x8) s
  else s

/-- Targets in a phase (IMG_BCAST counters). (DEDUCED, log 26) -/
def bcastCount (s : State) (ph : Fin 5) : Nat := s.img.bcastPh.countP fun p => p.2 = ph

/-! ### Gliog (R481) -/

def glgStat (bits : Word) (s : State) : State := sqSet 0x30000 bits s

/-- Jobs that use the rule set that is not active (GLG_PU_OLD_JOBS). -/
def oldJobs (s : State) : Nat := s.glg.inst.toList.countP fun a => a.job.any fun j => j.ruleSet ≠ s.glg.activeSet

/-- A pending swap ends with the last job of the old set (R479). -/
def swapCheck (s : State) : State :=
  if s.glg.swapPending && oldJobs s == 0 then glgStat 0x10 (updGlg (fun g => { g with swapPending := false }) s) else s

/-- An instance that is thawed: a start for the rule set (R479). -/
def Inst.thawed (set : Bool) (a : Inst) : Inst :=
  { a with rlHold := false, frozen := false, freezeReq := false, job := a.job.map fun j => { j with ruleSet := set } }

/-- Every Gliog instance freezes for a restart-class reload (R472, R481). -/
def glgHold (s : State) : State :=
  updGlg (fun g => { g with inst := g.inst.map fun a =>
    if a.enabled && !a.frozen && !a.freezeReq then { a with freezeReq := true, rlHold := true } else a }) s

/-- The instances are thawed: every one when SERVICE is entered again, those that the reload froze when it is withdrawn
before (R481, R437). A manager's FREEZE that still waits stays. -/
def glgRelease (all : Bool) (s : State) : State :=
  swapCheck (updGlg (fun g => { g with inst := g.inst.map fun a =>
    if a.rlHold || (all && a.frozen) then a.thawed g.activeSet else a }) s)
/-- Every enabled instance is frozen. -/
def glgStill (s : State) : Bool := s.glg.inst.toList.all fun a => !a.enabled || a.frozen

/-! ### Acknowledgements and records (R436, R446) -/

/-- RELOAD_ACK to the initiator of a broadcast; this controller's own broadcast takes it directly. -/
def ackReload (r : Reload) (phase : Fin 5) (reason : Nat) (s : State) : State :=
  if !r.bcast then s
  else if r.initiator = s.glb.ctlId then
    if s.img.bcastId = r.id then bcastPhase s.glb.ctlId (if phase = 4 then 4 else ⟨phase.val - 1, by omega⟩) s else s
  else
    sendMsg tyReloadAck r.initiator 0
      [pack [(phase.val, 24), (r.id.toNat, 16), (reason, 8), (b2n r.restart, 0)], regGet s 0x4000] (.message r.initiator) s

/-- IMAGE_RELOAD: the phase as RELOAD_ACK gives it. -/
def recordReload (r : Reload) (phase reason : Nat) (before staged : Word) (s : State) : State :=
  raise 0x1A (if phase = 3 then 2 else 0) 5
    [pack [(phase, 28), (reason, 20), (b2n r.restart, 19), (b2n r.bcast, 18), (r.initiator.toNat, 8), (r.id.toNat, 0)], before, staged] s

/-- The revision of the staged image. -/
def stagedRev (s : State) : Word := BitVec.ofNat 32 (hdrRevision s.img.staging)

/-- IMG_RL_OUTCOME, IMG_RL_REASON and IMG_RL_ID of a reload. -/
def showReload (r : Reload) (outcome reason : Nat) (s : State) : State :=
  regSet rReload (pack [(outcome, 24), (reason, 16), (r.id.toNat, 8)]) s

/-- No reload is in progress any more. -/
def endReload (s : State) : State :=
  updImg (fun i => { i with rl := Reload.reset, fetch := i.fetch.filter fun f => !f.reload }) s

/-- A reload is refused (R430, R431). (DEDUCED, log 25) -/
def refuseReload (r : Reload) (reason : Nat) (staged : Word) (s : State) : State :=
  let s := sqSet rImgStatus 0x2 (showReload r 4 reason s)
  ackReload r 3 reason (recordReload r 3 reason (regGet s 0x4000) staged s)

/-- The reload in progress is refused; the running image stays in force. -/
def rejectReload (reason : Nat) (s : State) : State :=
  let r := s.img.rl
  refuseReload r reason (if reason = 2 then 0 else stagedRev s) (endReload s)

/-! ### Start (R430) -/

/-- A reload is requested. One in progress makes it busy. -/
def startReload (r : Reload) (s : State) : State :=
  if s.img.rl.st ≠ .idle then refuseReload r 1 0 s
  else reloadPump (updImg (fun i => { i with rl := { r with st := .waitService } }) (regPut rReload 15 8 r.id.toNat s))

/-- The committed value of IMG_RELOAD. -/
def actReload (v : Word) (s : State) : State :=
  if bitOf v 31 then startReload { Reload.reset with base := BitVec.ofNat 6 (fld v 5 0) } s else s

/-- The reload that brings a withdrawn image back (R437). -/
def backReload (s : State) (id : Byte) (initiator : BitVec 10) : Reload :=
  { Reload.reset with base := s.glb.imgBase, id := id, bcast := true, initiator := initiator, withdrawing := true }

/-- A WITHDRAW of a reload ID (R437): a reload in progress has not reached its switch and is abandoned, one that has been
applied is brought back by a further reload, any other needs nothing. A Cast-On that the reload has begun goes on with the
running image. (DEDUCED, log 26) -/
def withdraw (id : Byte) (initiator : BitVec 10) (s : State) : State :=
  let r := s.img.rl
  if r.st ≠ .idle && r.bcast && r.id = id && r.initiator = initiator then
    if r.withdrawing then s
    else
      let staged := if r.st = .verified ∨ r.st = .waitPoint ∨ r.st = .restarting then stagedRev s else 0
      let s := showReload r 5 0 (endReload s)
      let s := if s.glb.restart then updImg (fun i => { i with staging := i.words }) s else glgRelease false s
      ackReload r 4 0 (recordReload r 4 0 (regGet s 0x4000) staged s)
  else if kfind s.img.appliedBy initiator.toNat = some id then startReload (backReload s id initiator) s
  else ackReload { Reload.reset with id := id, bcast := true, initiator := initiator } 4 0 s

/-- RELOAD_REQUEST from a member (R430, R437). -/
def reloadRequest (s : State) : State :=
  match takeMsg (isTy tyReloadReq) s with
  | none => s
  | some (g, s) =>
    let w := g.words[2]
    let from_ : BitVec 10 := BitVec.ofNat 10 (msgSrc g.words)
    let id : Byte := BitVec.ofNat 8 (fld w 23 16)
    let e := g.words[3].toNat + 2 ^ 32 * g.words[4].toNat
    let s := sqSet rImgStatus 0x4 s
    if fld w 31 24 = 1 then
      startReload { Reload.reset with
        base := BitVec.ofNat 6 (fld w 5 0), id := id, bcast := true, initiator := from_
        expect := if e = 0 then none else some (BitVec.ofNat 64 e) } s
    else if fld w 31 24 = 2 then withdraw id from_ s
    else s

def execReloadRequest (s : State) : Res := run reloadRequest s

/-! ### The decision (R431) and the switch (R432 to R434, R437) -/

/-- The section images of a class. -/
def classImages (m : Image) (c : Nat) : List (List Byte) := ((secs m).filter fun x => x.cls = c).map (secImage m)

/-- A section of an image, as it is compared. -/
def secBytes (m : Image) (id : Nat) : Option (List Byte) := (sec? m id).map (secImage m)

/-- A section differs between two images. -/
def secDiffers (a b : Image) (id : Nat) : Bool := secBytes a id ≠ secBytes b id

/-- The retention record of the running image (05). -/
def retentionLine (s : State) : Line :=
  lineOfWords (words64 (regGet64 s 0x4008) ++ words64 (regGet64 s 0x4010) ++ [regGet s 0x4000, pack [(s.glb.ctlId.toNat, 0)]])

/-- The retention record is rewritten on every channel in service (R159, R433). (DEDUCED, log 25) -/
def writeRetention (s : State) : State :=
  forAll ((fins 2).filter (chLive s)) (fun c s => mntAdd (scA c) 2 (.lineWrite (sysLine s c 0) (retentionLine s) false false) s) s

/-- The partition entries that an image changes (R427, R433). -/
def partChanges (m : Image) (s : State) : List (BitVec 12 × Vector Word 8) :=
  ((partLabels m s).filter fun l => decide ((partOf s l).cfg ≠ partFor m l)).map fun l => (BitVec.ofNat 12 l, partFor m l)

/-- Staged entries become one pending commit; a manager commit still pending is discarded (R433). -/
def stageParts (m : Image) (s : State) : State :=
  let l := partChanges m s
  let s := onlyIf s.qos.pendingQpt.isSome (regPut 0xA018 30 28 7) s
  regPut 0xA018 31 31 (b2n (!l.isEmpty)) (updQos (fun q => { q with pendingQpt := none, pendingMore := l }) s)

/-- What the registers that a live reload has loaded bring about, as their writes do: scouts (R309), patrol scrub
(R349), the panic thresholds (R124). -/
def loadEffects (scrub : Word) (s : State) : State :=
  panicUpdate (onlyIf (regGet s 0x1400C ≠ scrub) (actScrubCfg scrub) (phyCtlWritten s))

/-- All shadow copies of a live reload become active: every LIVE value, also one that the running image gave alike (R432,
R433). (DEDUCED, log 25) -/
def liveSwitch (m : Image) (s : State) : State :=
  let old := image s
  let own := s.glb.ctlId.toNat
  let s := applyImg m s
  let scrub := regGet s 0x1400C
  let s := stageParts m (loadEffects scrub (applyLoads old m own sLoadsLive s))
  let s := shadowProgram (abortOnReload m) s
  writeRetention (updImg (fun i => { i with words := m }) s)

/-- The reload would change a value held in a locked block (R431): a register that a section loads, a partition entry, or
the training program. A live reload loads the LIVE sections alone. (DEDUCED, log 25) -/
def lockedChange (restart : Bool) (m : Image) (s : State) : Bool :=
  let locked (b : Nat) : Bool := regBit s 0x20 b
  let own := s.glb.ctlId.toNat
  let a := if restart then applyLoads (image s) m own sLoadsRestart (forAll (List.range 4) (applyGear m) s) else s
  let t := applyLoads (image s) m own sLoadsLive a
  (t.regs.any fun e => locked (blockOf e.1) && decide (regGet s e.1 ≠ e.2)) || (locked 8 && !(partChanges m s).isEmpty)
    || (locked (blockOf 0x20000) && secDiffers (image s) m sTraining)

/-- The step differs by more than 1 from the running step or from an extreme of the last census. -/
def stepGap (m : Image) (s : State) : Bool :=
  let far (a : Nat) : Bool := decide (a + 1 < hdrStep m ∨ hdrStep m + 1 < a)
  far (ownStep s) || s.dom.res.any fun r => let t := tokenOf r.words; far t.hi || far t.lo

/-- What the comparison decides: a refusal, no change, a restart-class or a live reload. -/
inductive RlPlan where
  | refuse (reason : Nat)
  | nothing
  | restart
  | live
  deriving DecidableEq, Repr

/-- The table of R431 in order. (DEDUCED, log 25) -/
def planReload (m : Image) (s : State) : RlPlan :=
  let old := image s
  let restart := decide (classImages old 1 ≠ classImages m 1)
  let live := decide (classImages old 2 ≠ classImages m 2 ∨ classImages old 3 ≠ classImages m 3
    ∨ hdrRevision old ≠ hdrRevision m ∨ hdrProto old ≠ hdrProto m)
  if classImages old 0 ≠ classImages m 0 ∨ hdrProtoMin old ≠ hdrProtoMin m then .refuse 4
  else if stepGap m s then .refuse 5
  else if s.img.rl.expect.any fun e => decide (e.toNat ≠ hdrFullFp m) then .refuse 6
  else if (restart || live) && lockedChange restart m s then .refuse 7
  else if restart then .restart
  else if live then .live
  else .nothing

/-- A broadcast reload has been applied, or brought back (R437). -/
def noteApplied (r : Reload) (s : State) : State :=
  onlyIf r.bcast (updImg fun i => { i with appliedBy :=
    if r.withdrawing then i.appliedBy.filter fun e => e.1 ≠ r.initiator.toNat else kset i.appliedBy r.initiator.toNat r.id }) s

/-- The reload has been applied: outcome, acknowledgement and record. A reload that a WITHDRAW caused ends
as withdrawn (R437). -/
def appliedReload (outcome : Nat) (before : Word) (s : State) : State :=
  let r := s.img.rl
  let ph : Fin 5 := if r.withdrawing then 4 else 2
  let s := sqSet rImgStatus 0x1 (showReload r (if r.withdrawing then 5 else outcome) 0 (noteApplied r (endReload s)))
  ackReload r ph 0 (recordReload r ph.val 0 before (stagedRev s) s)

/-- A reload is accepted. -/
def acceptReload (restart : Bool) (s : State) : State :=
  let s := updRl (fun r => { r with st := .verified, restart := restart }) s
  let s := onlyIf restart glgHold s
  let s := recordReload s.img.rl 1 0 (regGet s 0x4000) (stagedRev s) s
  reloadPump (onlyIf (!s.img.rl.withdrawing) (ackReload s.img.rl 1 0) s)

/-- The words of a fetch are all there: none beyond the length is read (R69). -/
def fetchedAll (s : State) : Bool :=
  s.img.fetch.any fun f => f.len.any fun n => decide (n / 4 ≤ s.img.staging.length)

/-- RELOAD_FETCH_DONE: the fetch of a reload is complete; it is verified and judged (R430, R431). -/
def reloadFetchDone (s : State) : State :=
  if s.img.rl.st ≠ .fetching || !fetchedAll s then s
  else
    let m := s.img.staging
    let v := verify m s.glb.ctlId.toNat
    let s := updImg (fun i => { i with fetch := none }) (showVerify v s)
    if v.isSome then rejectReload 3 s
    else
      let s := countIgnored m s
      match planReload m s with
      | .refuse n => rejectReload n s
      | .restart => acceptReload true s
      | .live => acceptReload false s
      | .nothing => appliedReload 3 (regGet s 0x4000) (acceptReload false s)

def execReloadFetchDone (s : State) : Res := run reloadFetchDone s

/-- The latches of the channels in service are set, and Cast-On starts again at step 0x05, with the pads as they are
before DIMM_INIT enables them (R87, R169, R434). (DEDUCED, log 36) -/
def restartEnter (s : State) : State :=
  let live := (fins 2).filter (chLive s)
  let s := forAll live abandonSparing (forAll (fins 4) stopAll (srEnterAll s))
  let s := forAll live (fun c s => updCh c (fun h => { h with latch := true, padsOn := false, released := false }) s) s
  let s := regSet64 0x48 0 (toStep 5 (enter .castOn s))
  updGlb (fun g => { g with served := false, restart := true, coreRun := false, pllTries := 0, zero := Vector.replicate 4 [] }) s

/-- RELOAD_QUIESCE_POINT: every accepted request is answered. A live reload switches; a restart-class one
drains and then enters CAST_ON (R432, R434). (DEDUCED, log 25) -/
def reloadQuiescePoint (s : State) : State :=
  let r := s.img.rl
  if s.glb.ctl ≠ .service || s.qz.ph = .boundary then s
  else if r.st = .waitPoint && allAnswered s then
    if r.restart then (if glgStill s then fullDrain (updRl (fun r => { r with st := .restarting }) s) else s)
    else
      let before := regGet s 0x4000
      appliedReload 1 before (liveSwitch s.img.staging s)
  else if r.st = .restarting && drained s && !repairing s then restartEnter s
  else s

def execReloadQuiescePoint (s : State) : Res := run reloadQuiescePoint s

/-- A power fail abandons a reload that has not switched (R435). -/
def reloadPowerFail (s : State) : State :=
  if s.img.rl.st = .idle then s else showReload s.img.rl 6 0 (endReload s)

/-! ### Broadcast (R436, R437) -/

/-- A message of a broadcast to a target: sent up to three times (R436). -/
def bcastSend (dst : BitVec 10) (pay : List Word) (s : State) : State :=
  let (m, s) := formMsg tyReloadReq dst 0 pay s
  let d : Delivery := { dst := dst, words := m, tries := some 2, succ := 0, result := false }
  egpAsk (msgReq s dst m (.message dst)) (updDom (fun a => { a with out := a.out ++ [d] }) s)

/-- Deliveries of an earlier broadcast end. -/
def bcastClear (s : State) : State := updDom (fun a => { a with out := a.out.filter fun d => d.tries.isNone }) s

/-- The committed value of IMG_BCAST. -/
def actBcast (v : Word) (s : State) : State :=
  let own := s.glb.ctlId
  match fld v 31 30 with
  | 1 =>
    let lo := regFld s 0x4030 9 0
    let hi := regFld s 0x4030 25 16
    let ts := ((members (image s)).filter fun i => decide (lo ≤ i ∧ i ≤ hi)).map (BitVec.ofNat 10)
    let id := s.img.bcastId + 1
    let e := if bitOf v 29 then hdrFullFp s.img.staging else 0
    let base := fld v 5 0
    let s := bcastClear (updImg (fun i => { i with bcastId := id, bcastBack := false, bcastTo := ts, bcastPh := [] }) s)
    let pay := pack [(1, 24), (id.toNat, 16), (base, 0)] :: words64 e
    forAll ts (fun t s =>
      if t = own then startReload { Reload.reset with
        base := BitVec.ofNat 6 base, id := id, bcast := true, initiator := own
        expect := if e = 0 then none else some (BitVec.ofNat 64 e) } s
      else bcastSend t pay s) s
  | 2 =>
    let id := s.img.bcastId
    let s := bcastClear (updImg (fun i => { i with bcastBack := true }) s)
    forAll s.img.bcastTo (fun t s =>
      if t = own then withdraw id own s else bcastSend t [pack [(2, 24), (id.toNat, 16)]] s) s
  | _ => s

/-- A broadcast message to a member that waits for its answer. (DEDUCED, log 26) -/
def bcastDelivery (s : State) (dst : BitVec 10) : Option Delivery := s.dom.out.find? fun d => d.dst = dst && d.tries.isSome

/-- RELOAD_BCAST_RESEND: 1 ms has passed without an OK (R436). -/
def bcastResend (dst : BitVec 10) (s : State) : State :=
  match bcastDelivery s dst with
  | none => s
  | some d =>
    let rest := s.dom.out.filter (· ≠ d)
    match d.tries with
    | some (n + 1) =>
      egpAsk (msgReq s dst d.words (.message dst)) (updDom (fun a => { a with out := rest ++ [{ d with tries := some n }] }) s)
    | _ =>
      bcastPhase dst 3 (timeout 0x1A 0 5 false dst.toNat s.img.bcastId.toNat (updDom (fun a => { a with out := rest }) s))

def execReloadBcastResend (dst : BitVec 10) (s : State) : Res := run (bcastResend dst) s

/-- RELOAD_ACK from a target of the last broadcast (R436). -/
def reloadAck (s : State) : State :=
  match takeMsg (isTy tyReloadAck) s with
  | none => s
  | some (g, s) =>
    let w := g.words[2]
    if BitVec.ofNat 8 (fld w 23 16) ≠ s.img.bcastId then s
    else
      let t : BitVec 10 := BitVec.ofNat 10 (msgSrc g.words)
      match fld w 31 24 with
      | 1 => bcastPhase t 0 s
      | 2 => bcastPhase t 1 s
      | 3 => bcastPhase t 2 s
      | 4 => bcastPhase t 4 s
      | _ => s

def execReloadAck (s : State) : Res := run reloadAck s

end Sys2Proof.Machine
end

