-- ==== Sys2Proof/Machine/Gliog.lean ====
section
/-! DEFINITION. The Gliog scan engine (14). Its lines are taken up one at a time by requester 5 of the sub-channels; a
granule whose lines are all done is finished by GRANULE_DONE. -/

namespace Sys2Proof.Machine

/-! ### Pages and status -/

def isMgr (i : InstId) : Bool := i.val = 64
def instOf (s : State) (i : InstId) : Inst := s.glg.inst.get i

/-- A register of an instance page; those of the tenants are kept from 0x10_0000 on.
(DESIGN CHOICE, log 12) -/
def rPage (i : InstId) (off : Nat) : Nat := (if isMgr i then 0x31000 else 0x100000 + 0x1000 * i.val) + off

/-- GLG_I_STATUS and GLG_STATUS. -/
def pageStat (i : InstId) (bits : Word) (s : State) : State := sqSet (rPage i 0x14) bits s

/-- irq_inst of a tenant, or the manager page's share of irq_mgr (R470). -/
def irqInst (s : State) (i : InstId) : Bool := regGet s (rPage i 0x14) &&& regGet s (rPage i 0x18) &&& 0x1F ≠ 0

def updJob (i : InstId) (f : Job → Job) (s : State) : State := updInst i (fun a => { a with job := a.job.map f }) s

/-- Jobs run in SERVICE, and in a pause (R75). -/
def glgRuns (s : State) : Bool := s.glb.ctl = .service || s.glb.ctl = .quiesced

/-- A restart-class reload holds the instances (R481). -/
def glgHeld (s : State) : Bool := s.img.rl.restart && s.img.rl.st ≠ .idle

/-! ### Descriptors (R450) -/

def Desc.op (d : Desc) : Nat := fld d.w[0] 31 28
def Desc.crcNo (d : Desc) : Nat := fld d.w[0] 27 25
def Desc.chains (d : Desc) : Bool := bitOf d.w[0] 24
def Desc.stats (d : Desc) : Bool := bitOf d.w[0] 23
def Desc.entLog (d : Desc) : Nat := fld d.w[0] 22 21
def Desc.gran (d : Desc) : Nat := fld d.w[0] 20 16
def Desc.jobId (d : Desc) : Nat := fld d.w[0] 15 0
/-- START and NEXT as line indices, RESULT and STATUS as byte addresses. -/
def Desc.start (d : Desc) : Nat := fld d.w[1] 31 6 + 2 ^ 26 * fld d.w[2] 23 0
def Desc.next (d : Desc) : Nat := fld d.w[10] 31 6 + 2 ^ 26 * fld d.w[11] 23 0
def Desc.result (d : Desc) : Nat := d.w[4].toNat + 2 ^ 32 * fld d.w[5] 23 0
def Desc.status (d : Desc) : Nat := d.w[6].toNat + 2 ^ 32 * fld d.w[7] 23 0
def Desc.count (d : Desc) : Nat := d.w[3].toNat
/-- The line whose byte 8m + b is byte b of the pattern (R453). -/
def Desc.pattern (d : Desc) : Line := lineOfWords ((List.replicate 8 [d.w[8], d.w[9]]).flatten)
/-- The first line of granule n, and the line after the last granule. -/
def Desc.granLine (d : Desc) (n : Nat) : Nat := d.start + n * 2 ^ d.gran
def Desc.stop (d : Desc) : Nat := d.granLine d.count
def Desc.digests (d : Desc) : Bool := decide (d.op = 3 ∨ d.op = 4)

/-- Bits of each word that hold no field. -/
def descReserved : List Word := [0, 0x3F, 0xFF000000, 0, 0, 0xFF000000, 0, 0xFF000000, 0, 0, 0x3F, 0xFF000000,
  0xFFFFF000, 0, 0xFFFFFFFF, 0x00FFFFFF]

def Desc.reserved (d : Desc) : Bool :=
  (d.w.toList.zip descReserved).any (fun p => decide (p.1 &&& p.2 ≠ 0)) || decide (fld d.w[15] 31 24 ≠ 1)

/-! ### CRC sets (R461 to R464) -/

/-- The CRC set c as it stands. -/
def crcSetOf (s : State) (c : Nat) : CrcSet :=
  let o := 0x30100 + 0x20 * c
  ⟨regGet s o, wideGet s (o + 4), wideGet s (o + 0xC), wideGet s (o + 0x14)⟩

/-- Width; values above 64 are used as 0. -/
def CrcSet.width (c : CrcSet) : Nat := let w := fld c.cfg 6 0; if 64 < w then 0 else w
def CrcSet.param (c : CrcSet) : CrcParam :=
  ⟨c.width, c.poly.toNat, c.init.toNat % 2 ^ c.width, c.xorout.toNat, bitOf c.cfg 31, bitOf c.cfg 30⟩

/-- The message of a granule (R462). -/
def granuleMsg (c : CrcSet) (sa : Nat) (l : List Line) : List Byte :=
  let a := (List.range 8).map fun k => BitVec.ofNat 8 (64 * sa / 256 ^ k)
  let m := l.flatMap lineBytes
  match fld c.cfg 29 28 with
  | 1 => a ++ m
  | 2 => m ++ a
  | _ => m

/-- The digest of a granule. The fold mode 3 is reserved: the value is free (DESIGN CHOICE, log 3). -/
def digestOf (c : CrcSet) (sa : Nat) (l : List Line) (s : State) : BitVec 64 × State :=
  if fld c.cfg 29 28 = 3 then
    (BitVec.ofNat 64 ((Config.free32 s.free).toNat + 2 ^ 32 * (Config.free32 (s.free + 1)).toNat), nextFree (nextFree s))
  else (BitVec.ofNat 64 (crc c.param (granuleMsg c sa l)), s)

/-- GLG_PROBE: the digest of the probe data (R464). (DEDUCED, log 47) -/
def actProbe (v : Word) (s : State) : State :=
  let c := crcSetOf s (fld v 18 16)
  let bytes := (List.range 4).flatMap fun k => wordBytes (regGet s (0x30204 + 4 * k))
  let rw := v &&& 0x0007001F
  if c.width = 0 then regSet64 0x30218 0 (regSet 0x30200 (rw ||| 0xC0000000) s)
  else regSet64 0x30218 (crc c.param (bytes.take (min 16 (fld v 4 0)))) (regSet 0x30200 (rw ||| 0x80000000) s)

/-! ### Protection unit (R475 to R479) -/

/-- A permission: data and result reads, writes, descriptor fetches. -/
inductive Perm where
  | r | w | x
  deriving DecidableEq, Repr

def puOff (set : Bool) (r : Nat) : Nat := 0x30800 + 0x100 * b2n set + 0x10 * r

/-- Region r of a rule set applies to a job of the instance and holds line a. -/
def puHits (s : State) (set : Bool) (i : InstId) (a r : Nat) : Bool :=
  let o := puOff set r
  let h := regGet s (o + 4)
  let p := regGet s (o + 0xC)
  bitOf p 31 && (isMgr i || bitOf p 30 || decide (fld p 29 24 = i.val))
    && decide ((regGet s o).toNat + 2 ^ 32 * fld h 11 0 ≤ a / 64)
    && decide (a / 64 < (regGet s (o + 8)).toNat + 2 ^ 32 * fld h 27 16)

/-- The bit of a permission in GLG_PU_Ss_Rr_PERM. -/
def permBit (i : InstId) (p : Perm) : Nat :=
  (if isMgr i then 3 else 0) + (match p with | .x => 0 | .w => 1 | .r => 2)

/-- An access of line a is denied; the value says that no region matched (R475, R476). -/
def denied (s : State) (set : Bool) (i : InstId) (p : Perm) (a : Nat) : Option Bool :=
  match (List.range 16).find? (puHits s set i a) with
  | some r => if bitOf (regGet s (puOff set r + 0xC)) (permBit i p) then none else some false
  | none =>
    if isMgr i && p ≠ .x && (mapEnts (image s)).any (fun e => decide (e.base ≤ a ∧ a < e.limit)) then none
    else some true

/-- Word 3 of the violation records. -/
def pvWord (i : InstId) (j : Job) (precise : Bool) (kind : Nat) (noMatch : Bool) : Word :=
  pack [(b2n precise, 31), (kind, 28), (b2n (isMgr i), 27), (i.val, 20), (b2n j.ruleSet, 19), (b2n noMatch, 18), (j.d.jobId, 0)]

/-- A precise violation: kind 0 data read, 1 result read, 2 descriptor fetch, 3 data write (R477, R478). -/
def violation (i : InstId) (j : Job) (kind : Nat) (noMatch : Bool) (a : Nat) (s : State) : State :=
  let s := bump 0x30070 s
  if regBit s 0x30040 31 then s
  else
    let s := regSet 0x30040 (pack [(1, 31), (kind, 29), (b2n (isMgr i), 28), (i.val, 21), (b2n j.ruleSet, 20),
      (b2n noMatch, 19), (j.d.jobId, 0)]) (regSet64 0x30044 (64 * a) s)
    raise (if kind = 3 then 0x17 else 0x16) 2 6
      [pvWord i j true (if kind = 3 then 0 else kind) noMatch, BitVec.ofNat 32 a, pack [(a / 2 ^ 32, 0)]] (glgStat 0x4 s)

/-- An imprecise violation: kind 1 result write, 2 status write. -/
def violationLate (i : InstId) (j : Job) (kind : Nat) (noMatch : Bool) (s : State) : State :=
  let s := bump 0x30070 s
  if regBit s 0x3004C 31 then s
  else
    let s := regSet 0x3004C (pack [(1, 31), (i.val, 21), (j.d.jobId, 0)]) s
    raise 0x17 2 6 [pvWord i j false kind noMatch, 0, 0] (glgStat 0x8 s)

/-- GLG_PV_REARM (R478). -/
def actRearm (v : Word) (s : State) : State :=
  let s := onlyIf (bitOf v 0) (regPut 0x30040 31 31 0) s
  onlyIf (bitOf v 1) (regPut 0x3004C 31 31 0) s

/-- A confirmed GLG_PU_CTL (R479). -/
def actSwap (v : Word) (s : State) : State :=
  if bitOf v 0 && !s.glg.swapPending then
    swapCheck (updGlg (fun g => { g with activeSet := !g.activeSet, swapPending := true }) s)
  else s

/-! ### Jobs: start, stop, result writes (R451, R452, R460, R466, R468) -/

/-- The checks of a start, in order: the status of the first that fails. (DEDUCED, log 42) -/
def Desc.check (s : State) (mgr : Bool) (d : Desc) : Option (Fin 16) :=
  let c := crcSetOf s d.crcNo
  if d.op = 0 ∨ 6 < d.op ∨ (d.op = 6 ∧ !mgr) then some 4
  else if d.reserved ∨ 24 < d.gran ∨ d.count = 0 then some 3
  else if d.start % 2 ^ d.gran ≠ 0 ∨ 2 ^ 50 < d.stop then some 3
  else if (mapEnts (image s)).any fun e => meets d.start d.stop e.base e.limit && decide (e.g < d.gran) then some 3
  else if d.digests && (c.width == 0 || decide (8 * 2 ^ d.entLog < c.width) || decide (d.result % 2 ^ d.entLog ≠ 0)) then some 3
  else none

/-- A job at its start: the CRC set, the rule set and the pair's epoch are latched (R463, R475). -/
def newJob (s : State) (mgr : Bool) (d : Desc) : Job where
  d := d
  cursor := 0
  slots := []
  processed := 0
  skipped := 0
  first := none
  badLines := 0
  diffs := 0
  crc := crcSetOf s d.crcNo
  ruleSet := s.glg.activeSet
  resBuf := none
  stBuf := none
  verify := none
  stop := d.check s mgr
  givenUp := false
  ended := false
  chain := none
  pairEpoch := s.mir.epoch

/-- The partition that a job is charged to (R452). -/
def jobLabel (s : State) (i : InstId) (j : Job) : BitVec 12 := if isMgr i then j.d.w[12].setWidth 12 else (instOf s i).label

/-- A job stops at the next granule boundary; the first reason stands. -/
def stopJob (i : InstId) (c : Fin 16) (s : State) : State :=
  updJob i (fun j => if j.stop.isNone then { j with stop := some c } else j) s

/-- The job has ended, or ends at this boundary. -/
def Job.over (j : Job) : Bool := j.stop.isSome || decide (j.d.count ≤ j.cursor)

/-- The completion status (R469). -/
def Job.status (j : Job) : Fin 16 :=
  match j.stop with
  | some c => c
  | none => if j.first.isSome then 1 else 0

/-- An egress request of a job. -/
def jobReq (s : State) (i : InstId) (j : Job) (op : EgpOp) (a : LineAddr) (d : Line) (m : BitVec 64) (why : EgpFor) : EgpReq :=
  { op := op, addr := a, dst := 0, epoch := 0, part := jobLabel s i j, data := d, mask := m, why := why }

/-- Collected bytes: the result entries (kind 1) or the status bytes (kind 2). -/
def Job.buf (j : Job) (kind : Nat) : Option (LineAddr × Line × BitVec 64) := if kind = 1 then j.resBuf else j.stBuf
def setBuf (i : InstId) (kind : Nat) (b : Option (LineAddr × Line × BitVec 64)) (s : State) : State :=
  updJob i (fun j => if kind = 1 then { j with resBuf := b } else { j with stBuf := b }) s

/-- Issue the collected write; a denied one is dropped (R460, R477). -/
def flushBuf (i : InstId) (kind : Nat) (s : State) : State :=
  match (instOf s i).job with
  | none => s
  | some j =>
    match j.buf kind with
    | none => s
    | some (a, d, m) =>
      let s := setBuf i kind none s
      match denied s j.ruleSet i .w a.toNat with
      | some nm => stopJob i 6 (violationLate i j kind nm s)
      | none =>
        egpAsk (jobReq s i j (if m = BitVec.allOnes 64 then .writeFull else .writePartial) a d m (.glgWrite i (instOf s i).epoch)) s

/-- Collect bytes at a byte address; a line that another address opens is issued first (R460). -/
def putBytes (i : InstId) (kind addr : Nat) (bs : List Byte) (s : State) : State :=
  let a : LineAddr := BitVec.ofNat 50 (addr / 64)
  let d := lineOfBytes bs <<< (8 * (addr % 64))
  let m : BitVec 64 := BitVec.ofNat 64 ((2 ^ bs.length - 1) * 2 ^ (addr % 64))
  let held := (instOf s i).job.bind fun j => j.buf kind
  let s := onlyIf (held.any fun b => b.1 ≠ a) (flushBuf i kind) s
  match held.filter fun b => b.1 = a with
  | some (_, d0, m0) => setBuf i kind (some (a, mergeLine d0 d m, m0 ||| m)) s
  | none => setBuf i kind (some (a, d, m)) s

/-- An egress operation of the instance under an owner epoch that a completion waits for (R468). -/
def EgpReq.ofJob (s : State) (i : InstId) (e : Byte) (r : EgpReq) : Bool :=
  match r.why with
  | .glgWrite k f | .glgRead k f | .glgChain k f | .glgPeer k f _ => k = i && f = e
  | .glgMirror k f l => k = i && f = e && !rankLive s l
  | _ => false

/-- Egress operations of the instance are under way. -/
def egpBusy (s : State) (i : InstId) : Bool :=
  let e := (instOf s i).epoch
  s.egp.waiting.any (EgpReq.ofJob s i e) || s.egp.slots.any fun p => p.2.live.any fun r => r.1.ofJob s i e

/-- A data write of a range still waits at requester 5. -/
def MntCmd.writesIn (s : State) (lo hi : Nat) (m : MntCmd) : Bool :=
  match m.op with
  | .lineWrite l _ _ _ => let a := (sysAddr s l).toNat; decide (lo ≤ a ∧ a < hi)
  | _ => false

/-- The data writes of a job have been issued (R468). -/
def dataSettled (s : State) (d : Desc) : Bool :=
  s.sched.toList.all fun q => !(q.maint.get 5).any (MntCmd.writesIn s d.start d.stop)

/-- The job wants its chain fetch. -/
def Job.wantsChain (j : Job) : Bool := j.d.chains && decide (j.status.val ≤ 1) && j.chain.isNone

/-- The chain fetch of an ended job, once its writes are answered (R468, R477). (DEDUCED, log 42) -/
def chainPump (i : InstId) (s : State) : State :=
  match (instOf s i).job with
  | none => s
  | some j =>
    if !j.ended || !j.wantsChain || egpBusy s i then s
    else
      match denied s j.ruleSet i .x j.d.next with
      | some nm => updJob i (fun j => { j with stop := some 5 }) (violation i j 2 nm j.d.next s)
      | none =>
        egpAsk (jobReq s i j .read (BitVec.ofNat 50 j.d.next) 0 0 (.glgChain i (instOf s i).epoch))
          (updJob i (fun j => { j with chain := some false }) s)

/-- A job that is over ends at its granule boundary, which the read of a VERIFY entry puts off: what it collected is
issued. -/
def closeJob (i : InstId) (s : State) : State :=
  match (instOf s i).job with
  | none => s
  | some j =>
    if !j.over || !j.slots.isEmpty || j.verify.isSome then s
    else
      let s := onlyIf (!j.ended) (fun s => flushBuf i 2 (flushBuf i 1 (updJob i (fun j => { j with ended := true }) s))) s
      chainPump i s

/-- Words 2 to 5 of a completion record. -/
def Job.record (j : Job) : List Word :=
  let ix := if 2 ≤ j.status.val then j.cursor else j.first.getD 0xFFFFFFFF
  [BitVec.ofNat 32 j.processed, BitVec.ofNat 32 j.skipped, BitVec.ofNat 32 ix,
   pack [(sat 0xFFFF j.badLines, 16), (sat 0xFFFF j.diffs, 0)]]

/-- Write a completion record (R469, R470). -/
def putRecord (i : InstId) (d : Desc) (st : Fin 16) (ws : List Word) (s : State) : State :=
  let w0 := pack [(st.val, 28), (d.op, 24), (d.epoch.toNat, 16), (d.jobId, 0)]
  let r : Vector Word 6 := #v[w0, d.w[13], ws.getD 0 0, ws.getD 1 0, ws.getD 2 0, ws.getD 3 0]
  pageStat i (if st = 0 then 0x1 else 0x3) (bump 0x30064 (updInst i (fun a => { a with cpl := a.cpl ++ [r] }) s))

/-- Descriptors that were aborted in the queue get their records as the completion queue has room.
(DEDUCED, log 42) -/
def flushDead (i : InstId) (s : State) : State :=
  forAll (List.range 5) (fun _ s =>
    let a := instOf s i
    match a.queue with
    | d :: r =>
      if d.dead && decide (a.cpl.length < 4) then
        putRecord i d 2 [0, 0, 0, 0] (updInst i (fun a => { a with queue := r }) s)
      else s
    | [] => s) s

/-- Every job that waits ends with ABORTED (R469). (DEDUCED, log 42) -/
def killQueue (i : InstId) (s : State) : State :=
  flushDead i (updInst i (fun a => { a with
    chained := none, queue := (a.chained.toList ++ a.queue).map fun d => { d with dead := true } }) s)

/-- A descriptor becomes the active job (R451, R466). -/
def beginJob (i : InstId) (d : Desc) (s : State) : State :=
  closeJob i (updInst i (fun a => { a with job := some (newJob s (isMgr i) d) }) (bump 0x30060 s))

/-- JOB_START: the chained descriptor goes before the queue (R466, R468). -/
def jobStart (i : InstId) (s : State) : State :=
  let a := instOf s i
  if !glgRuns s || glgHeld s || !a.enabled || a.frozen || a.freezeReq || a.job.isSome || decide (4 ≤ a.cpl.length) then s
  else
    match a.chained, a.queue with
    | some d, _ => beginJob i d (updInst i (fun a => { a with chained := none }) s)
    | none, d :: r => if d.dead then s else beginJob i d (updInst i (fun a => { a with queue := r }) s)
    | none, [] => s

def execJobStart (i : InstId) (s : State) : Res := run (jobStart i) s

/-- The completion record of the active job. -/
def finishJob (i : InstId) (j : Job) (s : State) : State :=
  swapCheck (putRecord i j.d j.status j.record (updInst i (fun a => { a with job := none }) s))

/-- JOB_END: the writes of an ended job are settled, its chain fetch has an outcome (R468). -/
def jobEnd (i : InstId) (s : State) : State :=
  let s := closeJob i s
  match (instOf s i).job with
  | none => s
  | some j =>
    if j.ended && !j.wantsChain && !egpBusy s i && dataSettled s j.d && decide ((instOf s i).cpl.length < 4) then
      finishJob i j s
    else s

def execJobEnd (i : InstId) (s : State) : Res := run (jobEnd i) s

/-! ### Granules (R453 to R460, R467) -/

/-- A line of a granule: system line, LLA, whether its window is mirrored. -/
structure GLine where
  sa : Nat
  lla : Lla
  mir : Bool
  deriving DecidableEq, Repr

/-- Line k of the granule at the cursor. -/
def granuleLine (s : State) (j : Job) (k : Nat) : Option GLine :=
  let a := j.d.granLine j.cursor + k
  match fwd s (BitVec.ofNat 50 a) with
  | .owned _ m d => some ⟨a, llaOf s d, m && mirEn s⟩
  | _ => none

/-- The lines of the granule at the cursor, ascending. -/
def granuleLines (s : State) (j : Job) : List GLine := (List.range (2 ^ j.d.gran)).filterMap (granuleLine s j)

/-- The peer serves a read of the line: its recovery, or the read of a line that has no rank (R393, R394, R457). -/
def peerServes (s : State) (g : GLine) : Bool :=
  g.mir && s.mir.primary && (if rankLive s g.lla then lineHealthy s g.lla else s.mir.pair = .healthy)

/-- The peer takes the writes of the line (R387, R457). -/
def peerTakes (s : State) (g : GLine) : Bool :=
  g.mir && s.mir.primary && (s.mir.pair = .healthy || (s.mir.pair = .resilvering && rankLive s g.lla))

/-- The record of a lost line that the peer copy replaced (R393). -/
def recoveredRecord (l : Lla) (d : Decoded) (i : RasInfo) (s : State) : State :=
  let i := { i with repaired := true }
  if d.outcome = .addrMismatch then rasRaise 6 3 false l d i s else rasRaise 1 1 true l d i s

/-- Line k of the granule has a new state. -/
def putSlot (i : InstId) (k : Nat) (v : GSlot) (s : State) : State :=
  updJob i (fun j => { j with slots := if k < j.slots.length then j.slots.set k v else j.slots ++ [v] }) s

/-- Line k is done with status bits and no data. -/
def gotBits (i : InstId) (k bits : Nat) (s : State) : State := putSlot i k (.got ⟨0, bits, false⟩) s

/-- Offer a data write to requester 5, charged to the job's partition (R21, R283). A write-back releases the lock that
its read took (R222). -/
def glgStore (label : BitVec 12) (l : Lla) (data : Line) (poison back : Bool) (s : State) : State :=
  mntAddFor (some label) (scOf l) 5 (.lineWrite l data poison back) (bump 0x3006C s)

/-- Write a line, and forward it or mark its region in a mirrored window (R387, R390, R457). -/
def glgWrite (i : InstId) (label : BitVec 12) (g : GLine) (data : Line) (back : Bool) (s : State) : State :=
  let e := (instOf s i).epoch
  let s := if rankLive s g.lla then glgStore label g.lla data false back s else s
  if !g.mir then s
  else if peerTakes s g then egpAsk (peerOp s .mirrorWrite (BitVec.ofNat 50 g.sa) data (.glgMirror i e g.lla)) s
  else glgUnmirrored (i, e, g.lla) s

/-- The peer is asked for line k; the decode is that of a line it recovers (R393, R394, R457). -/
def glgAskPeer (i : InstId) (k : Nat) (g : GLine) (d : Option Decoded) (s : State) : State :=
  egpAsk (peerOp s .mirrorRead (BitVec.ofNat 50 g.sa) 0 (.glgPeer i (instOf s i).epoch k)) (putSlot i k (.peer d) s)

/-- SCRUB of a line that was read: what R350 does for a scrub read, written back by requester 5 (R453, R455).
(DEDUCED, log 41) -/
def scrubSlot (i : InstId) (k : Nat) (label : BitVec 12) (g : GLine) (d : Decoded) (peer : Option Line) (s : State) : State :=
  let dev := soleDevice (isX8 s) d.errs
  match d.outcome with
  | .clean => gotBits i k 0 (unlockLine (scOf g.lla) g.lla s)
  | .poison => gotBits i k 2 (unlockLine (scOf g.lla) g.lla s)
  | .corrected => gotBits i k 17 (scrubRecord g.lla d dev 5 false false (glgStore label g.lla d.data false true s))
  | _ =>
    match peer with
    | some p => gotBits i k 49 (scrubRecord g.lla d dev 5 true false (bump (rRas (scOf g.lla) 6) (glgStore label g.lla p false true s)))
    | none => gotBits i k 20 (scrubRecord g.lla d dev 5 false true (glgStore label g.lla 0 true true s))

/-- What a read of any other opcode brings, with its record (R341, R393, R455). -/
def readSlot (s : State) (g : GLine) (d : Decoded) (peer : Option Line) : GRead × State :=
  let info := RasInfo.of 5 (soleDevice (isX8 s) d.errs)
  match d.outcome with
  | .clean => (⟨d.data, 0, false⟩, s)
  | .corrected => (⟨d.data, 1, false⟩, readRecord g.lla d info s)
  | .poison => (⟨0, 2, true⟩, readRecord g.lla d info s)
  | _ =>
    match peer with
    | some p => (⟨p, 1, true⟩, recoveredRecord g.lla d info (bump 0x6050 s))
    | none => (⟨0, 4, true⟩, readRecord g.lla d info s)

/-- What a line that was read leaves: CLEANSE writes the pattern over one that decodes as POISON, UNCORRECTABLE or
ADDR_MISMATCH (R453, R455). (DEDUCED, log 41) -/
def tookSlot (i : InstId) (k : Nat) (j : Job) (g : GLine) (r : GRead) (s : State) : State :=
  if j.d.op = 6 && r.bad then gotBits i k (r.bits ||| 16) (glgWrite i (jobLabel s i j) g j.d.pattern true s)
  else putSlot i k (.got r) (onlyIf (decide (j.d.op = 6)) (unlockLine (scOf g.lla) g.lla) s)

/-- A line that was read has its outcome, with the peer copy of a lost one. -/
def settleSlot (i : InstId) (k : Nat) (j : Job) (g : GLine) (d : Decoded) (peer : Option Line) (s : State) : State :=
  if j.d.op = 5 then scrubSlot i k (jobLabel s i j) g d peer s
  else let (r, s) := readSlot s g d peer; tookSlot i k j g r s

/-- A granule that was given up is left once the lines that had been issued are done (R480). -/
def leaveGranule (i : InstId) (s : State) : State :=
  let done (v : GSlot) : Bool := match v with
    | .got _ => true
    | _ => false
  match (instOf s i).job with
  | none => s
  | some j => if j.givenUp && j.slots.all done then closeJob i (updJob i (fun j => { j with slots := [], givenUp := false }) s) else s

/-- The data of a Gliog read is captured: a lost line whose pair is healthy asks the peer (R393, R350, R457). One whose
job has gone is dropped. -/
def glgData (x : Sc) (t : RdTag) (i : InstId) (k : Nat) (rx : Capture) (s : State) : State :=
  match (instOf s i).job with
  | none => unlockLine x t.lla s
  | some j =>
    match j.slots[k]?, granuleLine s j k with
    | some .read, some g =>
      let d := t.decode s rx
      let s := bump 0x30068 s
      let s := if j.d.op = 5 then ootRead g.lla d.outcome (compareLanes t rx d (countScrub x d.outcome s)) else readSeen t rx d s
      leaveGranule i (if d.outcome.lost && peerServes s g then glgAskPeer i k g (some d) s else settleSlot i k j g d none s)
    | _, _ => unlockLine x t.lla s

/-- The peer has answered for line k; an answer that is no line leaves it lost, and no answer ends the job with FAILED
(R393, R394, R480). -/
def glgPeerDone (i : InstId) (e : Byte) (k : Nat) (st : Option Status) (data : Line) (s : State) : State :=
  let a := instOf s i
  let s := onlyIf st.isNone (glgFail i e) s
  match a.job with
  | none => s
  | some j =>
    match j.slots[k]?, granuleLine s j k with
    | some (.peer dec), some g =>
      if a.epoch ≠ e then s
      else
        let ok := decide (st = some .ok ∨ st = some .corrected)
        leaveGranule i <| match dec with
        | some d => settleSlot i k j g d (if ok then some data else none) s
        | none =>
          if ok then tookSlot i k j g ⟨data, 1, false⟩ (bump 0x30068 s)
          else if st = some .poison then tookSlot i k j g ⟨0, 2, true⟩ (bump 0x30068 s)
          else gotBits i k 4 s
    | _, _ => s

/-- A line without a rank: the peer serves its read, or it is unreadable. SCRUB has nothing to scrub there. -/
def takeDead (i : InstId) (k : Nat) (j : Job) (g : GLine) (s : State) : State :=
  if j.d.op ≠ 5 && peerServes s g then glgAskPeer i k g none s else gotBits i k 4 s

/-- Line k of the granule is taken up (R453, R456, R467). Where its data are known at once it is done; a line that a write
is about to change counts as rewritten (R222). (DEDUCED, log 41) -/
def takeLine (i : InstId) (k : Nat) (j : Job) (g : GLine) (s : State) : State :=
  let x := scOf g.lla
  let label := jobLabel s i j
  let op := j.d.op
  let back := decide (op = 5 ∨ op = 6)
  let live := rankLive s g.lla
  if op = 1 then gotBits i k 0 (if live && !regionInit s g.lla then s else glgWrite i label g 0 false s)
  else if op = 2 then gotBits i k 0 (glgWrite i label g j.d.pattern false s)
  else if !live then takeDead i k j g s
  else if readsZero s g.lla then gotBits i k 0 (bump 0x30068 s)
  else if back && lineBusy (s.sched.get x) g.lla then gotBits i k 0 s
  else mntAddFor (some label) x 5 (.lineRead (.gliog i k back) g.lla) (putSlot i k .read s)

/-- A processed granule is complete: its status byte and the counts (R454, R458, R469). -/
def granuleEnd (i : InstId) (bits : Nat) (s : State) : State :=
  match (instOf s i).job with
  | none => s
  | some j =>
    let s := onlyIf j.d.stats (putBytes i 2 (j.d.status + j.cursor) [BitVec.ofNat 8 (bits ||| 128)]) s
    let bad := bits.testBit 1 || bits.testBit 2
    let ev := bad || bits.testBit 3 || bits.testBit 6
    closeJob i (updJob i (fun j => { j with
      cursor := j.cursor + 1, processed := j.processed + 1
      first := if ev && j.first.isNone then some j.cursor else j.first
      badLines := j.badLines + b2n bad, diffs := j.diffs + b2n (bits.testBit 3) }) s)

/-- A granule that another controller processes, or none (R457, R458). -/
def granuleSkip (i : InstId) (s : State) : State :=
  closeJob i (updJob i (fun j => { j with cursor := j.cursor + 1, skipped := j.skipped + 1 }) s)

/-- The bytes of an entry (R460). -/
def entryBytes (d : Desc) (v : BitVec 64) : List Byte := (List.range (2 ^ d.entLog)).map fun k => BitVec.ofNat 8 (v.toNat / 256 ^ k)

/-- A region that the job's processed granules cover is zeroed on demand (R456). -/
def zeroCovers (s : State) (d : Desc) (hi : Nat) (r : Nat) : Bool :=
  (List.range (2 ^ 18)).all fun n =>
    match rev s (BitVec.ofNat 38 (r * 2 ^ 18 + n)) with
    | .valid _ a => decide (d.start ≤ a ∧ a < hi)
    | _ => false

/-- The uninitialised regions that a ZERO granule touched and completes. -/
def zeroDemand (j : Job) (lines : List GLine) (s : State) : State :=
  let rs := distinct ((lines.filter fun g => !regionInit s g.lla).map fun g => regionOf g.lla)
  forAll (rs.filter (zeroCovers s j.d (j.d.granLine (j.cursor + 1))))
    (fun r s => demand (BitVec.ofNat 38 (r * 2 ^ 18)) s) s

/-- The permissions that a line of the granule needs (R453). -/
def Desc.perms (d : Desc) : List Perm :=
  match d.op with
  | 1 | 2 => [.w]
  | 5 | 6 => [.r, .w]
  | _ => [.r]

/-- The first denied line of a granule with its kind (R477). -/
def granuleDenied (s : State) (i : InstId) (j : Job) (lines : List GLine) : Option (Nat × Bool × Nat) :=
  lines.findSome? fun g => j.d.perms.findSome? fun p =>
    (denied s j.ruleSet i p g.sa).map fun nm => (if p = .w then 3 else 0, nm, g.sa)

/-- Lines that a write of the job waits for: their region is zeroed first (R165, R456). -/
def granuleWaits (s : State) (j : Job) (lines : List GLine) : List GLine :=
  if j.d.op = 2 then lines.filter fun g => rankLive s g.lla && !regionInit s g.lla else []

/-- Every line of the granule is done: what follows depends on the opcode (R453, R455). (DEDUCED, log 41) -/
def granuleRun (i : InstId) (j : Job) (got : List GRead) (s : State) : State :=
  let bits := got.foldl (fun b r => b ||| r.bits) 0
  let s := updJob i (fun j => { j with slots := [] }) s
  if !j.d.digests then granuleEnd i bits (onlyIf (decide (j.d.op = 1)) (zeroDemand j (granuleLines s j)) s)
  else if bits.testBit 1 || bits.testBit 2 then granuleEnd i bits s
  else
    let (v, s) := digestOf j.crc (j.d.granLine j.cursor) (got.map GRead.data) s
    let at_ := j.d.result + j.cursor * 2 ^ j.d.entLog
    if j.d.op = 3 then granuleEnd i bits (putBytes i 1 at_ (entryBytes j.d v) s)
    else
      match denied s j.ruleSet i .r (at_ / 64) with
      | some nm => closeJob i (stopJob i 5 (violation i j 1 nm (at_ / 64) s))
      | none =>
        egpAsk (jobReq s i j .read (BitVec.ofNat 50 (at_ / 64)) 0 0 (.glgRead i (instOf s i).epoch))
          (updJob i (fun j => { j with verify := some (bits, v) }) s)

/-- A mirrored window meets the range of the job. -/
def jobMirrored (s : State) (d : Desc) : Bool :=
  mirEn s && (List.range 16).any fun n => (winOf s n).any fun w => w.mirror && meets d.start d.stop w.base w.limit

/-- What becomes of the granule at the cursor before its first line: the job is over or stops, another controller
processes it, a line is denied, regions are zeroed first, or its lines are taken up. -/
inductive Granule where
  | over
  | stop (c : Fin 16)
  | skip
  | denied (kind : Nat) (noMatch : Bool) (a : Nat)
  | zero (l : List GLine)
  | go
  deriving DecidableEq, Repr

/-- The checks before the first line of a granule, in order (R456 to R458, R477). (DEDUCED, log 41) -/
def granuleStart (s : State) (i : InstId) (j : Job) : Granule :=
  if j.over then .over
  else if j.pairEpoch ≠ s.mir.epoch && jobMirrored s j.d then .stop 8
  else
    match fwd s (BitVec.ofNat 50 (j.d.granLine j.cursor)) with
    | .owned _ m _ =>
      if m && mirEn s && s.mir.pair = .joining then .stop 10
      else if m && mirEn s && !s.mir.primary then .skip
      else
        let lines := granuleLines s j
        match granuleDenied s i j lines with
        | some (k, nm, a) => .denied k nm a
        | none =>
          if decide (j.d.op ≤ 2) && lines.any (fun g => !rankLive s g.lla && !peerTakes s g) then .stop 10
          else
            let wait := granuleWaits s j lines
            if wait.isEmpty then .go else .zero wait
    | _ => .skip

/-- A granule that does not start, or waits (R456, R458, R477). -/
def granuleAside (i : InstId) (j : Job) (s : State) : State :=
  match granuleStart s i j with
  | .over => closeJob i s
  | .stop c => closeJob i (stopJob i c s)
  | .skip => granuleSkip i s
  | .denied k nm a => closeJob i (stopJob i 5 (violation i j k nm a s))
  | .zero l => forAll l (fun g s => demand g.lla s) s
  | .go => s

/-- The outcomes of a granule whose lines are all done. -/
def gotAll (j : Job) : Option (List GRead) :=
  if j.slots.length < 2 ^ j.d.gran then none
  else j.slots.mapM fun v => match v with
    | .got r => some r
    | _ => none

/-- A read that its rank took with it is that of a line without a rank (R372, R394). -/
def deadSlots (i : InstId) (s : State) : State :=
  match (instOf s i).job with
  | none => s
  | some j =>
    forAll j.slots.zipIdx (fun e s =>
      match e.1, granuleLine s j e.2 with
      | .read, some g => onlyIf (!rankLive s g.lla) (takeDead i e.2 j g) s
      | _, _ => s) s

/-- GRANULE_DONE: the granule, the one at the cursor, is skipped, or every line of it has completed and its data writes are issued
(R457, R458, R468). A freeze that waits lets a granule that has begun complete (R472). (DEDUCED, log 41) -/
def granuleDone (i : InstId) (granule : Nat) (s : State) : State :=
  let a := instOf s i
  match a.job with
  | none => s
  | some j =>
    if granule ≠ j.cursor || !glgRuns s || a.frozen || j.verify.isSome || j.ended then s
    else if j.slots.isEmpty then (if a.freezeReq then s else granuleAside i j s)
    else
      let s := leaveGranule i (deadSlots i s)
      match (instOf s i).job with
      | none => s
      | some j =>
        let lo := j.d.granLine j.cursor
        let queued := s.sched.toList.any fun q => (q.maint.get 5).any (MntCmd.writesIn s lo (lo + 2 ^ j.d.gran))
        match gotAll j with
        | some l => if queued then s else granuleRun i j l s
        | none => s

def execGranuleDone (i : InstId) (granule : Nat) (s : State) : Res := run (granuleDone i granule) s

/-! ### Requester 5 (R215, R222, R467) -/

/-- The instances in their turn after the last one, the manager instance after the tenants. -/
def glgOrder (t : InstId) : List InstId := (fins 65).filter (fun i => decide (t < i)) ++ (fins 65).filter fun i => decide (i ≤ t)

/-- The line that an instance takes up next on the sub-channel: at most 32 are in flight, and one whose region is being
zeroed waits (R15, R167, R467). -/
def glgNext (s : State) (x : Sc) (i : InstId) : Option (Job × GLine × Nat) :=
  let a := instOf s i
  a.job.bind fun j =>
    let k := j.slots.length
    let begun := decide (0 < k)
    let inFlight := j.slots.countP fun v => match v with
      | .got _ => false
      | _ => true
    if a.frozen || j.verify.isSome || j.ended || j.givenUp || decide (2 ^ j.d.gran ≤ k) || decide (32 ≤ inFlight) then none
    else if !begun && (a.freezeReq || granuleStart s i j ≠ .go) then none
    else
      (granuleLine s j k).bind fun g =>
        if scOf g.lla = x && glgEligible s (jobLabel s i j).toNat x && !(decide (3 ≤ j.d.op) && rankLive s g.lla && readWaits s g.lla)
        then some (j, g, k) else none

/-- A read-then-write that has not been issued is not started on a line that a write has come to match: the line counts
as rewritten (R222). -/
def glgBusy (x : Sc) (s : State) : State :=
  let q := s.sched.get x
  let gone (m : MntCmd) : Option (InstId × Nat) := match m.op with
    | .lineRead (.gliog i k true) l => if lineBusy q l then some (i, k) else none
    | _ => none
  forAll ((q.maint.get 5).filterMap gone) (fun e s => gotBits e.1 e.2 0 s) (updMaint x 5 (fun l => l.filter fun m => (gone m).isNone) s)

/-- Requester 5 takes up one line of the next job in turn, once what it had has been issued (R467). -/
def glgPump (x : Sc) (s : State) : State :=
  if !glgRuns s then s
  else
    let s := glgBusy x s
    if masked s x 5 || !((s.sched.get x).maint.get 5).isEmpty then s
    else
      match (glgOrder (s.glg.turn.get x)).findSome? fun i => (glgNext s x i).map fun e => (i, e) with
      | none => s
      | some (i, j, g, k) => takeLine i k j g (updGlg (fun a => { a with turn := vset a.turn x i }) s)

/-! ### Granules that do not complete (R480) -/

def Origin.ofInst (i : InstId) : Origin → Bool
  | .gliog k _ _ => decide (k = i)
  | _ => false

def MntCmd.readsFor (i : InstId) (m : MntCmd) : Bool :=
  match m.op with
  | .lineRead o _ => o.ofInst i
  | _ => false

/-- The reads of an instance are dropped, with their locks. -/
def dropReads (i : InstId) (s : State) : State :=
  forAll (fins 4) (fun x s =>
    let q := s.sched.get x
    let tags := (q.pipe ++ q.lost).filter fun t => t.origin.ofInst i
    let s := updSched x (fun q => { q with
      pipe := q.pipe.filter (fun t => !t.origin.ofInst i), lost := q.lost.filter (fun t => !t.origin.ofInst i) }) s
    forAll tags (fun t s => unlockLine x t.lla s) (updMaint x 5 (fun l => l.filter fun m => !m.readsFor i) s)) s

/-- The granule at the cursor is given up: its reads and its peer reads that have not been issued. Writes go on. -/
def dropGranule (i : InstId) (s : State) : State :=
  match (instOf s i).job with
  | none => s
  | some j =>
    let held := j.slots.zipIdx.filterMap fun e => match e.1 with
      | .peer (some _) => granuleLine s j e.2
      | _ => none
    let s := forAll held (fun g s => unlockLine (scOf g.lla) g.lla s) (dropReads i s)
    let s := { s with egp := { s.egp with waiting := s.egp.waiting.filter fun r => match r.why with
      | .glgPeer k _ _ => decide (k ≠ i)
      | _ => true } }
    updJob i (fun j => { j with slots := [] }) s

/-- The reads of an instance that have not been issued, to DRAM or to the peer, are not made: their lines are left. A peer
read for a line that DRAM has answered goes on (R480). -/
def dropUnissued (i : InstId) (s : State) : State :=
  let unread (m : MntCmd) : Option Nat := match m.op with
    | .lineRead (.gliog k n _) _ => if k = i then some n else none
    | _ => none
  let ranked (k : Nat) : Bool := (instOf s i).job.any fun j => match j.slots[k]? with
    | some (.peer (some _)) => true
    | _ => false
  let unasked (r : EgpReq) : Option Nat := match r.why with
    | .glgPeer k _ n => if k = i && !ranked n then some n else none
    | _ => none
  let gone := (s.sched.toList.flatMap fun q => (q.maint.get 5).filterMap unread) ++ s.egp.waiting.filterMap unasked
  let s := forAll (fins 4) (fun x s => updMaint x 5 (fun l => l.filter fun m => (unread m).isNone) s) s
  forAll gone (fun k s => gotBits i k 0 s) { s with egp := { s.egp with waiting := s.egp.waiting.filter fun r => (unasked r).isNone } }

/-- GRANULE_TIMEOUT: no line completed within the granule timeout; the lines that have been issued complete before the job
ends. It does not run while the requester is masked, nor while the granule waits for zeroing (R480). -/
def granuleTimeout (i : InstId) (s : State) : State :=
  let a := instOf s i
  match a.job with
  | none => s
  | some j =>
    let lines := granuleLines s j
    let zeroes := !(granuleWaits s j lines).isEmpty || lines.any fun g => rankLive s g.lla && readWaits s g.lla
    if !glgRuns s || a.frozen || j.ended || j.givenUp || (j.over && j.slots.isEmpty) || j.verify.isSome || lines.isEmpty
        || lines.any (fun g => chLive s (chOf (scOf g.lla)) && masked s (scOf g.lla) 5) || zeroes then s
    else
      let s := timeout 0x14 2 6 false i.val j.d.jobId (glgStat 0x2 s)
      let s := updJob i (fun j => { j with givenUp := true }) (stopJob i 7 s)
      leaveGranule i (dropUnissued i s)

def execGranuleTimeout (i : InstId) (s : State) : Res := run (granuleTimeout i) s

/-! ### Answers of the egress port -/

/-- The result entry of a VERIFY granule was read (R453, R454). -/
def glgReadDone (i : InstId) (e : Byte) (st : Option Status) (data : Line) (s : State) : State :=
  let a := instOf s i
  match a.job with
  | none => s
  | some j =>
    match j.verify with
    | none => s
    | some (bits, v) =>
      if a.epoch ≠ e then s
      else
        let s := updJob i (fun j => { j with verify := none }) s
        match st with
        | some .ok | some .corrected =>
          let n := 2 ^ j.d.entLog
          let k := (j.d.result + j.cursor * n) % 64
          let same := (List.range n).all fun m => lineByte data (k + m) = BitVec.ofNat 8 (v.toNat / 256 ^ m)
          granuleEnd i (if same then bits else bits ||| 8) s
        | some .poison => granuleEnd i (bits ||| 64) s
        | _ => closeJob i (stopJob i 10 s)

/-- A result or status write was answered; the chain fetch follows the last one. -/
def glgWriteDone (i : InstId) (e : Byte) (st : Option Status) (s : State) : State :=
  let bad := !(st = some .ok || st = some .corrected)
  let s := onlyIf bad (glgFail i e) s
  if (instOf s i).epoch = e then closeJob i s else s

/-- The chain fetch was answered (R468). -/
def glgChainDone (i : InstId) (e : Byte) (st : Option Status) (data : Line) (s : State) : State :=
  let a := instOf s i
  if a.epoch ≠ e || a.job.isNone then s
  else
    let s := updJob i (fun j => { j with chain := some true }) s
    match st with
    | some .ok | some .corrected =>
      updInst i (fun a => { a with chained := some ⟨Vector.ofFn fun k => lineWord data k.val, a.epoch, false⟩ }) s
    | _ => updJob i (fun j => { j with stop := some 9 }) s

/-- The forward of a written line was answered (R390); a line without a rank is then held by the peer alone (R23). A failed
forward of a line whose rank is live sets the dirty bit and the job goes on: the write has committed. A read of the peer that
times out ends the job FAILED. Which operations R480 counts as those of the job is settled so here. (DESIGN CHOICE, log 67) -/
def glgMirrorDone (i : InstId) (e : Byte) (l : Lla) (st : Option Status) (s : State) : State :=
  match st with
  | some .ok | some .corrected => if rankLive s l then s else reqRole 0 s
  | _ => glgUnmirrored (i, e, l) s

/-! ### Submission and completion (R465, R466, R469) -/

/-- The reason that refuses a doorbell; 0 where it is accepted. -/
def doorbellReason (s : State) (i : InstId) (v : Word) : Nat :=
  let a := instOf s i
  if !a.enabled || s.glb.ctl = .halted then 1
  else if fld v 23 16 ≠ a.epoch.toNat then 2
  else if fld v 31 28 ≠ a.dbNext.toNat then 3
  else if regFld s (rPage i 4) 4 0 ≠ 16 ∨ fld v 4 0 ≠ 16 then 4
  else if 4 ≤ a.queue.length then 5
  else 0

/-- A write to GLG_I_DOORBELL. -/
def actDoorbell (i : InstId) (v : Word) (s : State) : State :=
  let k := doorbellReason s i v
  if k = 0 then
    regSet (rPage i 4) 0 (updInst i (fun a => { a with
      queue := a.queue ++ [⟨a.staged, a.epoch, false⟩], staged := Vector.replicate 16 0, dbNext := a.dbNext + 1 }) s)
  else bump 0x30078 (pageStat i 0x4 (updInst i (fun a => { a with refuse := BitVec.ofNat 4 k }) s))

/-- An access to GLG_I_DESC_DATA: the word read, and the state after it. -/
def descData (i : InstId) (w : Option Word) (s : State) : Word × State :=
  let k := regFld s (rPage i 4) 4 0
  let a := instOf s i
  let v := a.staged.toList.getD k 0
  if 16 ≤ k then (0, s)
  else
    let s := regSet (rPage i 4) (BitVec.ofNat 32 (k + 1)) s
    match w with
    | none => (v, s)
    | some w => (0, updInst i (fun a => { a with staged := a.staged.setIfInBounds k w }) s)

/-- A read of GLG_I_CPL_DATA: the next word of the oldest record; word 5 frees its slot. -/
def cplData (i : InstId) (s : State) : Word × State :=
  let a := instOf s i
  match a.cpl with
  | [] => (0, s)
  | r :: rest =>
    let w := r.toList.getD a.cplPos 0
    if 5 ≤ a.cplPos then (w, flushDead i (updInst i (fun a => { a with cpl := rest, cplPos := 0 }) s))
    else (w, updInst i (fun a => { a with cplPos := a.cplPos + 1 }) s)

/-- The active job ends with ABORTED at its next granule boundary (R469). (DEDUCED, log 42) -/
def abortJob (i : InstId) (s : State) : State :=
  closeJob i (updJob i (fun j => if j.ended then j else { j with verify := none, stop := some (j.stop.getD 2) }) s)

/-- A write to GLG_I_CTL. -/
def actGlgCtl (i : InstId) (v : Word) (s : State) : State :=
  onlyIf (bitOf v 1) (killQueue i) (onlyIf (bitOf v 0) (abortJob i) s)

/-! ### Freeze, save and restore (R472 to R474) -/

/-- GLG_MBOX_RESULT of a command that has ended. (DEDUCED, log 43) -/
def mboxEnd (code : Nat) (i : InstId) (s : State) : State :=
  let s := updGlg (fun g => { g with mboxBusy := false }) s
  onlyIf (code == 0) (glgStat 0x1) (regSet 0x30018 (pack [(code, 28), ((instOf s i).epoch.toNat, 16), (i.val, 0)]) s)

/-- The freeze takes effect; a mailbox FREEZE that waited for it ends. -/
def setFrozen (i : InstId) (s : State) : State :=
  let mine := s.glg.mboxBusy && decide (regFld s 0x30018 6 0 = i.val)
  let s := pageStat i 0x8 (updInst i (fun a => { a with
    frozen := true, freezeReq := false, frozenAt := BitVec.ofNat 32 s.glb.now }) s)
  onlyIf mine (mboxEnd 0 i) s

/-- FREEZE_TAKE_EFFECT: a job at a boundary with its writes settled, or no job; a fetched descriptor becomes
the active job (R472). -/
def freezeTake (i : InstId) (s : State) : State :=
  let a := instOf s i
  if !a.freezeReq || a.frozen then s
  else
    match a.job with
    | none =>
      match a.chained with
      | none => if egpBusy s i then s else setFrozen i s
      | some d =>
        if 4 ≤ a.cpl.length then s
        else
          let s := beginJob i d (updInst i (fun a => { a with chained := none }) s)
          setFrozen i (match (instOf s i).job with
            | some j => if j.ended then finishJob i j s else s
            | none => s)
    | some j =>
      if j.over || j.verify.isSome || !j.slots.isEmpty then s
      else
        let s := flushBuf i 2 (flushBuf i 1 s)
        if ((instOf s i).job.any Job.over) then closeJob i s
        else if egpBusy s i || !dataSettled s j.d then s
        else setFrozen i s

def execFreezeTakeEffect (i : InstId) (s : State) : Res := run (freezeTake i) s

/-- The state blob (R473). -/
def blobOf (s : State) (i : InstId) : List Word :=
  let a := instOf s i
  let job : List Word := match a.job with
    | none => List.replicate 32 0
    | some j =>
      j.d.w.toList ++ [BitVec.ofNat 32 j.cursor, BitVec.ofNat 32 j.processed, BitVec.ofNat 32 j.skipped,
        BitVec.ofNat 32 (j.first.getD 0xFFFFFFFF), pack [(sat 0xFFFF j.badLines, 16), (sat 0xFFFF j.diffs, 0)], 0, j.crc.cfg]
      ++ [j.crc.poly, j.crc.init, j.crc.xorout].flatMap (fun (v : BitVec 64) => [v.setWidth 32, (v >>> 32).setWidth 32]) ++ [0, 0, 0]
  let pad (n : Nat) (l : List Word) : List Word := (l ++ List.replicate n 0).take n
  let ws : List Word := [0x00010080, pack [(s.glb.ctlId.toNat, 16), (i.val, 0)],
      pack [(a.cpl.length, 20), (a.queue.length, 16), (b2n a.job.isSome, 0)], a.frozenAt]
    ++ job ++ pad 64 (a.queue.flatMap fun d => d.w.toList) ++ pad 24 (a.cpl.flatMap fun r => r.toList) ++ [0, 0, 0]
  ws ++ [wordsCrc ws]

/-- Format and CRC of the blob in the state window (R474). -/
def blobOk (w : List Word) : Bool := w.getD 0 0 = 0x00010080 && w.getD 127 0 = wordsCrc (w.take 127)

/-- Part k of a list cut in parts of n words. -/
def cut (w : List Word) (at_ n k : Nat) : List Word := (w.drop (at_ + n * k)).take n

/-- The active job of a blob, with this instance's owner epoch. -/
def blobJob (s : State) (a : Inst) (w : List Word) : Job :=
  let g (k : Nat) : Word := w.getD k 0
  let l (k : Nat) : BitVec 64 := BitVec.ofNat 64 ((g k).toNat + 2 ^ 32 * (g (k + 1)).toNat)
  let d : Desc := ⟨Vector.ofFn fun k => g (4 + k.val), a.epoch, false⟩
  { newJob s true d with
    cursor := (g 20).toNat, processed := (g 21).toNat, skipped := (g 22).toNat
    first := if g 23 = 0xFFFFFFFF then none else some (g 23).toNat
    badLines := fld (g 24) 31 16, diffs := fld (g 24) 15 0, crc := ⟨g 26, l 27, l 29, l 31⟩, stop := none }

/-- RESTORE loads a blob (R474). (DEDUCED, log 43) -/
def restore (i : InstId) (w : List Word) (s : State) : State :=
  let c := w.getD 2 0
  updInst i (fun a => { a with
    job := if bitOf c 0 then some (blobJob s a w) else none
    queue := (List.range (min 4 (fld c 18 16))).map fun k => ⟨Vector.ofFn fun n => (cut w 36 16 k).getD n.val 0, a.epoch, false⟩
    cpl := (List.range (min 4 (fld c 22 20))).map (fun k => Vector.ofFn fun n => (cut w 100 6 k).getD n.val 0)
    cplPos := 0 }) s

/-- An access to GLG_STATE_DATA (R473). -/
def stateData (w : Option Word) (s : State) : Word × State :=
  let k := regFld s 0x30020 7 0
  if 128 ≤ k then (0, s)
  else
    let v := s.glg.window.toList.getD k 0
    let s := regSet 0x30020 (BitVec.ofNat 32 (k + 1)) s
    match w with
    | none => (v, s)
    | some w => (0, updGlg (fun g => { g with window := g.window.setIfInBounds k w }) s)

/-! ### Manager mailbox (R471) -/

/-- ASSIGN and UNASSIGN: the instance starts anew under the next epoch. (DEDUCED, log 43) -/
def assign (i : InstId) (label : BitVec 12) (on : Bool) (s : State) : State :=
  let a := instOf s i
  let s := dropGranule i s
  let s := updInst i (fun _ => { Inst.reset on with epoch := a.epoch + 1, label := label, refuse := a.refuse }) s
  let o := rPage i 0x14
  swapCheck (regSet (rPage i 4) 0 (regSet o (regGet s o &&& 0xFF000000) s))

/-- THAW: a start for the rule set (R479). (DEDUCED, log 43) -/
def thaw (i : InstId) (s : State) : State := swapCheck (updInst i (Inst.thawed s.glg.activeSet) s)

/-- A restart-class reload freezes an instance again that the mailbox has thawed or assigned meanwhile (R471, R481).
(DEDUCED, log 43) -/
def holdAgain (i : InstId) (s : State) : State :=
  onlyIf (glgHeld s) (updInst i fun a =>
    if a.enabled && !a.frozen && !a.freezeReq then { a with freezeReq := true, rlHold := true } else a) s

/-- A command whose epoch is current. -/
def mboxRun (op : Nat) (i : InstId) (s : State) : State :=
  let a := instOf s i
  let arg := regGet s 0x30008
  match op with
  | 1 => if isMgr i then mboxEnd 3 i s else mboxEnd 0 i (holdAgain i (assign i (arg.setWidth 12) true s))
  | 2 => if isMgr i then mboxEnd 3 i s else mboxEnd 0 i (assign i (arg.setWidth 12) false s)
  | 3 => mboxEnd 0 i (killQueue i (abortJob i s))
  | 4 =>
    if !a.enabled then mboxEnd 3 i s
    else if a.frozen then mboxEnd 0 i (updInst i (fun a => { a with rlHold := false }) s)
    else
      regSet 0x30018 (pack [(1, 31), (a.epoch.toNat, 16), (i.val, 0)])
        (updGlg (fun g => { g with mboxBusy := true }) (updInst i (fun a => { a with freezeReq := true, rlHold := false }) s))
  | 5 => mboxEnd 0 i (holdAgain i (thaw i s))
  | 6 =>
    if !a.frozen then mboxEnd 3 i s
    else
      let w := blobOf s i
      mboxEnd 0 i (regSet 0x30020 0 (updGlg (fun g => { g with window := Vector.ofFn fun k => w.getD k.val 0 }) s))
  | 7 =>
    if !a.enabled || !a.frozen || a.job.isSome || !a.queue.isEmpty || !a.cpl.isEmpty then mboxEnd 3 i s
    else if blobOk s.glg.window.toList then mboxEnd 0 i (restore i s.glg.window.toList s)
    else mboxEnd 4 i s
  | _ => mboxEnd 0 i (pageStat i 0x10 (regSet (rPage i 0x24) (arg &&& 0xFFFF) s))

/-- A confirmed GLG_MBOX_CMD. (DEDUCED, log 43) -/
def actMbox (v : Word) (s : State) : State :=
  let op := fld v 31 28
  if op = 0 ∨ 8 < op then s
  else if s.glg.mboxBusy then regPut 0x30018 30 28 1 s
  else if h : fld v 6 0 < 65 then
    let i : InstId := ⟨fld v 6 0, h⟩
    if fld v 23 16 ≠ (instOf s i).epoch.toNat then bump 0x30074 (glgStat 0x20 (mboxEnd 2 i s))
    else mboxRun op i s
  else regSet 0x30018 (pack [(3, 28), (fld v 6 0, 0)]) s

/-- Bind-Off: jobs stop, and no job state survives (R481). -/
def glgPowerFail (s : State) : State :=
  updGlg (fun g => { g with
    mboxBusy := false
    inst := g.inst.map fun a => { a with job := none, queue := [], chained := none, freezeReq := false } }) (forAll (fins 65) dropGranule s)

end Sys2Proof.Machine
end

