-- ==== Sys2Proof/Machine/BindOff.lean ====
section
/-! DEFINITION. Bind-Off: the power fail, the drain, HELD (15 R494 to R502; 03 R70 to R72), the loss of
VDDQ, and the pad states (03 R87). -/

namespace Sys2Proof.Machine

/-- The sub-channels that Bind-Off must bring to self-refresh: those of live channels whose ranks have left
reset or self-refresh, or are in self-refresh (R72, R494). -/
def boScs (s : State) : List Sc :=
  if s.pwr.bo.any fun b => b.from_ = .halted then []
  else (liveScs s).filter fun x => let h := s.glb.ch.get (chOf x); h.released || h.inSr

/-- Mirrored writes, of hosts and of Gliog, that have committed here and whose peer outcome is open: their regions are dirty
(R399). -/
def boDirty (s : State) : State :=
  let host := (s.reqs.filter fun r => r.twoSided s && r.peerOpen).map Req.lla
  let glg := (((egpHeld s).filterMap EgpReq.glgForwards).map fun w => w.2.2).filter (rankLive s)
  forAll (host ++ glg) (fun l s => setDirty (regionOf l) s) s

/-- Every gate opens, every unit leaves the emergency state; no refresh or RFM is owed any more. -/
def boRefresh (s : State) : State :=
  updRef (fun a => { a with
    units := a.units.map fun e => (e.1, { e.2 with gate := none, emergency := false })
    abo := Vector.replicate 2 [], aboLate := Vector.replicate 2 false, due := [], rcHeld := [] }) s

/-- Maintenance work that has not been issued ends; a read-then-write is abandoned and its line left as it
was read. -/
def boMaint (s : State) : State :=
  let s := { s with sched := s.sched.map fun q => { q with
    maint := Vector.replicate 7 [], locks := [], holder := none
    pipe := q.pipe.filter (fun t => t.origin.forHost), lost := q.lost.filter fun t => t.origin.forHost } }
  updRas (fun a => { a with fetch := [] }) s

/-- Repairs, sparing and recovery stop; ranks that a recovery has put to sleep stay asleep (R371, R373, R498). -/
def boRas (s : State) : State :=
  let stop (c : Ch) (s : State) : State :=
    if (s.alert.get c).recovering then
      let asleep (s : State) : State := noteSr c (updPwr (fun p => { p with sc := vset (vset p.sc (scA c) .selfRefresh) (scB c) .selfRefresh }) s)
      updPwr (fun p => { p with bo := p.bo.map fun b => { b with recStopped := true } })
        (updAlert c (fun a => { a with recovering := false, slept := false }) (onlyIf (s.alert.get c).slept asleep (loseUnissued c s)))
    else s
  forAll (fins 2) (fun c s => stop c (dropRepairs c (abandonSparing c s))) s

/-- A sub-channel in self-refresh with writes to drain leaves it first; from a deep pause that is the exit of R498. -/
def boWake (s : State) : State :=
  let deep (b : BindOff) : BindOff := { b with deepExit := b.deepExit || (b.from_ = .quiesced && s.qz.deep) }
  forAll ((boScs s).filter fun x =>
      s.pwr.sc.get x = .selfRefresh && (!(s.sched.get x).wq.isEmpty || !(s.sched.get x).copy.isEmpty))
    (fun x s => updPwr (fun p => { p with bo := p.bo.map deep }) (srExit x s)) s

/-- A replay runs, or an alert has stopped one that goes on afterwards. -/
def Replay.began : Replay → Bool
  | .running _ | .frozen (some _) => true
  | _ => false

/-- The first ck that no sub-channel has reached. -/
def ckLast (s : State) : Nat := s.sched.toList.foldl (fun m q => max m q.ck) (4 * s.glb.cc)

/-- PF_N_FALL: a power fail is recognised in any state but RESET and HELD (R26, R70, R494). A fetch of the
image ends with it. (DEDUCED, log 39) -/
def pfNFall (s : State) : State :=
  let s := updGlb (fun g => { g with pfN := false }) s
  match s.glb.ctl with
  | .reset | .held | .bindOff => s
  | from_ =>
    let bo : BindOff := ⟨from_, s.glb.gear, ckLast s, s.sched.toList.any (fun q => q.replay.began), false, false, 0, 0, 0⟩
    let s := dropDeferred (updPwr (fun p => { p with bo := some bo }) (enter .bindOff s))
    let s := updQz (fun q => { q with ph := .idle, ack := false, paused := false }) s
    let s := gearPowerFail (updImg (fun i => { i with fetch := none }) (reloadPowerFail s))
    if from_ = .halted ∨ from_ = .dormant then panicUpdate (glgPowerFail s)
    else
      let s := boDirty (glgPowerFail (forAll (fins 4) stopAll s))
      fullDrain (boWake (boRefresh (boMaint (boRas s))))

def execPfNFall (s : State) : Res := run pfNFall s

/-- A sub-channel has drained: no write, no bitmap-copy line, no burst, no replay. The lines that wait for a copy-line
buffer are those of sub-channel A. -/
def boDone (s : State) (x : Sc) : Bool :=
  let q := s.sched.get x
  q.wq.isEmpty && q.copy.isEmpty && busDone s x
    && (x ≠ scA (chOf x) || s.mir.dirtyCopy.all fun k => (copyLine s k).1 ≠ chOf x)

/-- The ranks of a sub-channel are in self-refresh. -/
def boAsleep (s : State) (x : Sc) : Bool := s.pwr.sc.get x = .selfRefresh || (s.glb.ch.get (chOf x)).inSr

/-- SCHEDULER_ISSUE: one cc of a sub-channel. In BIND_OFF one that has drained enters self-refresh (R494, step 5); a
channel in recovery puts its ranks to sleep (R371). -/
def schedulerIssue (x : Sc) (s : State) : State :=
  let s := onlyIf s.glb.coreRun (fun s => recoverySleep (chOf x) (portCycles s)) s
  if s.glb.ctl = .bindOff && (boScs s).contains x && !boAsleep s x && boDone s x then srEnter x s else schedulerCc x s

def execSchedulerIssue (sc : Sc) (s : State) : Res := run (schedulerIssue sc) s

/-- The latches of the channels whose ranks are in self-refresh (R65). (DEDUCED, log 39) -/
def boLatch (s : State) : State :=
  if s.pwr.bo.any fun b => b.from_ = .halted then s
  else forAll (fins 2) (fun c s => updCh c (fun h => { h with latch := h.latch || h.inSr }) s) s

/-- ck from the recognition of the power fail to the end of the last tCKSRE, or to the last command where no rank had to
enter self-refresh (R502). -/
def boTime (b : BindOff) (s : State) : Nat :=
  match ((fins 4).flatMap fun x => sreCks (s.sched.get x)).filter fun t => decide (b.startCk ≤ t) with
  | [] => ckLast s - b.startCk
  | l => l.foldl max 0 + tim s pCksre - b.startCk

/-- BIND_OFF (R502). -/
def boRecord (b : BindOff) (s : State) : State :=
  let latch (c : Ch) : Nat := b2n (s.glb.ch.get c).latch
  let open_ := s.reqs.countP fun r => !r.answered
  raise 0x1C (if b.lost = 0 then 0 else 2) 7
    [pack [(b.from_.code, 28), (b.gear.val, 26), (latch 1, 25), (latch 0, 24), (b2n b.replayRan, 23), (b2n b.deepExit, 22),
      (b2n b.recStopped, 21), (b2n (decide (b.lost ≠ 0)), 20)],
     BitVec.ofNat 32 (boTime b s),
     pack [(sat 0xFFFF b.drained, 16), (sat 0xFFFF b.copied, 0)],
     pack [(sat 0xFFFF b.lost, 16), (sat 0xFFFF open_, 0)]] s

/-- BIND_OFF_COMPLETE: every rank is in self-refresh; HELD is entered and pf_held rises (R494, steps 5 and 6).
(DEDUCED, log 39) -/
def bindOffComplete (s : State) : State :=
  match s.pwr.bo with
  | none => s
  | some b =>
    if s.glb.ctl ≠ .bindOff || !(boScs s).all (boAsleep s) then s
    else boRecord b (enter .held (updGlb (fun g => { g with coreRun := false }) (boLatch s)))

def execBindOffComplete (s : State) : Res := run bindOffComplete s

/-- VDDQ_INVALID: every latch clears; the pull-down of DRST_n resets the DIMMs (R65, R87). -/
def vddqInvalid (s : State) : State :=
  updGlb (fun g => { g with
    vddqOk := false, ch := g.ch.map fun h => { h with latch := false, inSr := false, released := false } }) s

def execVddqInvalid (s : State) : Res := run vddqInvalid s

/-! ### Pad states (R87) -/

/-- The rows of the pad state table that an SDRAM-side pad can follow. -/
inductive PadRow where
  | noVddq | latched | clear | castOn | service | selfRefresh
  deriving DecidableEq, Repr

/-- A level of a pad: `proto` as the commands and bursts in progress require. -/
inductive PadLevel where
  | low | high | pullDown | undriven | static_ | running | hiZ | proto | ignored | monitored
  deriving DecidableEq, Repr

/-- HALTED, or a BIND_OFF or HELD that was entered from it (R26, R87). -/
def padHalted (s : State) : Bool :=
  s.glb.ctl = .halted || ((s.glb.ctl = .bindOff || s.glb.ctl = .held) && s.pwr.bo.any fun b => b.from_ = .halted)

/-- BIND_OFF, or a HELD after it. -/
def boundOff (s : State) : Bool := s.glb.ctl = .bindOff || s.glb.ctl = .held

/-- The pads of the channel have not been enabled in a Cast-On that runs, or that a power fail ended (R72). -/
def padsEarly (s : State) (c : Ch) : Bool :=
  !(s.glb.ch.get c).padsOn && (s.glb.ctl = .castOn || (boundOff s && s.pwr.bo.any fun b => b.from_ = .castOn))

/-- The row that the pads of a sub-channel follow: the more specific one wins. In BIND_OFF and HELD a channel whose ranks
have left reset for no service is reset again (05, "Coincidences during Cast-On"). The row of a gear change and that of a
deep pause hold once the sub-channel is in self-refresh: until then the bus carries the drain of R330 step 1, the bursts of
R75 and the commands that enter self-refresh, and the SERVICE row holds. (DESIGN CHOICE, log 67) -/
def padRow (s : State) (x : Sc) : PadRow :=
  let c := chOf x
  let h := s.glb.ch.get c
  let byLatch : PadRow := if h.latch then .latched else .clear
  if !s.glb.vddqOk then .noVddq
  else if s.glb.ctl = .reset then byLatch
  else if padHalted s || !s.glb.chanEn.getLsbD c.val then .clear
  else if h.excluded then byLatch
  else if h.unpopulated then .clear
  else if padsEarly s c then byLatch
  else if boundOff s && !h.released && !h.inSr then .clear
  else if (s.alert.get c).oos then .selfRefresh
  else if s.glb.ctl = .dormant || s.glb.ctl = .gearChange && s.pwr.sc.get x = .selfRefresh then .selfRefresh
  else if s.glb.ctl = .held then .selfRefresh
  else if s.glb.ctl = .castOn then .castOn
  else if s.pwr.sc.get x = .selfRefresh || h.inSr then .selfRefresh
  else .service

/-- DRST_n of the sub-channel's channel. -/
def padDrst (s : State) (x : Sc) : PadLevel :=
  match padRow s x with
  | .noVddq => .pullDown
  | .clear => .low
  | .latched | .service | .selfRefresh => .high
  | .castOn => if (s.glb.ch.get (chOf x)).released || (s.glb.ch.get (chOf x)).latch then .high else .low

/-- One sub-channel of a channel in service may be in self-refresh while the other is not: DCK runs for both (R87). A
channel out of service has both (R372). -/
def padsShared (s : State) (c : Ch) : Bool :=
  (s.glb.ctl = .service || s.glb.ctl = .quiesced || s.glb.ctl = .bindOff) && !(s.glb.ch.get c).inSr && !(s.alert.get c).oos

/-- DCS_n; DCA and DPAR; DCK; DQ, CB and DQS; ALERT_n, which in BIND_OFF is monitored until all ranks are in
self-refresh. -/
def padDcs (s : State) (x : Sc) : PadLevel :=
  match padRow s x with
  | .noVddq => .undriven
  | .castOn | .service => .proto
  | _ => .high
def padDca (s : State) (x : Sc) : PadLevel :=
  match padRow s x with
  | .noVddq => .undriven
  | .castOn | .service => .proto
  | _ => .low
def padDck (s : State) (x : Sc) : PadLevel :=
  match padRow s x with
  | .noVddq => .undriven
  | .castOn | .service => .running
  | .selfRefresh => if padsShared s (chOf x) then .running else .static_
  | _ => .static_
def padDq (s : State) (x : Sc) : PadLevel :=
  match padRow s x with
  | .noVddq => .undriven
  | .castOn | .service => .proto
  | _ => .hiZ
def padAlert (s : State) (x : Sc) : PadLevel :=
  match padRow s x with
  | .noVddq => .undriven
  | .castOn | .service => .monitored
  | .selfRefresh => if s.glb.ctl = .bindOff && padsShared s (chOf x) then .monitored else .ignored
  | _ => .ignored

/-- pf_held, qz_ack and qz_paused (R71, R78). -/
def pfHeld (s : State) : Bool := s.glb.ctl = .held

end Sys2Proof.Machine
end

