-- ==== Sys2Proof/Machine/Boot.lean ====
section
/-! DEFINITION. Reset and the first steps of Cast-On (05; 03 R61 to R69): straps, image fetch and
verification, fuses, clocks and the application of the image, pad impedance. -/

namespace Sys2Proof.Machine

/-! ### aon_rst_n (R63 to R66) -/

/-- AON_RST_ASSERT: the whole macro is reset. A retention latch that is set stays set, and its ranks stay
in self-refresh; the levels of the inputs are those of the outside. (DEDUCED, log 35) -/
def aonRstAssert (s : State) : State :=
  { State.reset with
    glb := { Glb.reset with ch := s.glb.ch.map fun h => Chan.reset h.latch, vddqOk := s.glb.vddqOk, pfN := s.glb.pfN }
    qos := { Qos.reset with urgent := s.qos.urgent }
    free := s.free
    pending := s.pending }

def execAonRstAssert (s : State) : Res := run aonRstAssert s

/-- AON_RST_RELEASE: the supplies are valid, the straps are sampled (R61), the time base starts, CAST_ON is
entered. A channel disabled by cfg_chan_en has DRST_n low, which clears its latch (R64). RTP's urgency is judged (R124).
(DEDUCED, log 39) -/
def aonRstRelease (id : BitVec 10) (en : BitVec 2) (base : BitVec 6) (pfN : Bool) (s : State) : State :=
  if s.glb.ctl ≠ .reset then s
  else
    panicUpdate <| toStep 1 (enter .castOn (updGlb (fun g => { g with
      ctlId := id, chanEn := en, imgBase := base, pfN := pfN, vddqOk := true
      ch := Vector.ofFn fun c => Chan.reset ((g.ch.get c).latch && en.getLsbD c.val) }) s))

def execAonRstRelease (ctlId : BitVec 10) (chanEn : BitVec 2) (imgBase : BitVec 6) (pfN : Bool) (s : State) : Res :=
  run (aonRstRelease ctlId chanEn imgBase pfN) s

/-- AON_START_DONE: pf_n is high; the image is fetched (R63). -/
def aonStartDone (s : State) : State :=
  if atStep s 1 then
    updImg (fun i => { i with staging := [], fetch := some ⟨false, s.glb.imgBase, none⟩ })
      (toStep 2 (updGlb (fun g => { g with pfN := true }) s))
  else s

def execAonStartDone (s : State) : Res := run aonStartDone s

/-! ### Image fetch and verification (R67 to R69, R133 to R135, R430) -/

/-- A fetch fails: Cast-On halts, a reload is refused. (DEDUCED, log 35) -/
def fetchFail (f : Fetch) (cause : Byte) (reason : Nat) (s : State) : State :=
  if f.reload then rejectReload reason s
  else onlyIf (decide (s.glb.ctl = .castOn)) (halt cause) (updImg (fun i => { i with fetch := none }) s)

/-- The header is there: the length of the image is known and must be in range (R133). (DEDUCED, log 35) -/
def headerSeen (f : Fetch) (s : State) : State :=
  let n := hdrLength s.img.staging
  if lengthOk n then updImg (fun i => { i with fetch := some { f with len := some n } }) s
  else fetchFail f 0x03 3 (showVerify (some (2, 0, 0x08)) s)

/-- img_req and img_addr: a word is requested, by its address in the fetch space, while a fetch has words left, but
for the cycle after an acknowledge (R67, R69). -/
def imgReq (s : State) : Bool := s.img.fetch.isSome && !fetchedAll s && !s.glb.ackGap
def imgAddr (s : State) : BitVec 22 := BitVec.ofNat 22 (((s.img.fetch.map fun f => f.base.toNat).getD 0) * 2 ^ 16 + s.img.staging.length)

/-- The request is dropped for the rest of the cycle (R67). -/
def wordTaken (s : State) : State := updGlb (fun g => { g with ackGap := true }) s

/-- IMG_WORD_ACK: the word requested is acknowledged. -/
def imgWordAck (data : Word) (err : Bool) (s : State) : State :=
  match s.img.fetch with
  | none => s
  | some f =>
    if !imgReq s then s
    else if err then fetchFail f 0x01 2 (wordTaken s)
    else
      let s := wordTaken s
      let s := updImg (fun i => { i with staging := i.staging ++ [data] }) s
      let s := if s.img.staging.length = 16 then headerSeen f s else s
      if !f.reload && fetchedAll s then toStep 3 (updImg (fun i => { i with fetch := none }) s) else s

def execImgWordAck (data : Word) (err : Bool) (s : State) : Res := run (imgWordAck data err) s

/-- IMG_WORD_TIMEOUT: 10 ms without an acknowledge (R132, R134). -/
def imgWordTimeout (s : State) : State :=
  match s.img.fetch with
  | none => s
  | some f =>
    if !imgReq s then s
    else
      let a := f.base.toNat * 2 ^ 16 + s.img.staging.length
      fetchFail f 0x02 2 (timeout 0x0D (if f.reload then 2 else 4) 0 false (subjStep s 0 0) a s)

def execImgWordTimeout (s : State) : Res := run imgWordTimeout s

/-- IMG_VERIFY_DONE: every check of R429 (R135). (DEDUCED, log 35) -/
def imgVerifyDone (s : State) : State :=
  if !atStep s 3 then s
  else
    let v := verify s.img.staging s.glb.ctlId.toNat
    let s := showVerify v s
    if v.isSome then halt 0x03 s
    else toStep 4 (countIgnored s.img.staging (updGlb (fun g => { g with fuses := [] }) s))

def execImgVerifyDone (s : State) : Res := run imgVerifyDone s

/-! ### Fuses (R136, R293) -/

/-- The skipped cells of a delay line word ascend strictly and lie in 0 to 67. -/
def lineWordOk (w : Word) : Bool :=
  decide (fld w 6 0 < fld w 13 7 ∧ fld w 13 7 < fld w 20 14 ∧ fld w 20 14 < fld w 27 21 ∧ fld w 27 21 ≤ 67)

/-- The CRC of the map and its delay line words 0x010 to 0x23F are right. -/
def fusesOk (f : List Word) : Bool :=
  decide (wordsCrc (f.take 0x27F) = f.getD 0x27F 0) && ((f.drop 0x10).take 0x230).all lineWordOk

/-- fuse_rd and fuse_addr (R67, R136). -/
def fuseRd (s : State) : Bool := atStep s 4 && decide (s.glb.fuses.length < 0x280) && !s.glb.ackGap
def fuseAddr (s : State) : BitVec 10 := BitVec.ofNat 10 s.glb.fuses.length

/-- FUSE_WORD_ACK: the next fuse word; the last one completes the map. -/
def fuseWordAck (data : Word) (s : State) : State :=
  if !fuseRd s then s
  else
    let s := wordTaken s
    let f := s.glb.fuses ++ [data]
    let s := updGlb (fun g => { g with fuses := f }) s
    if f.length < 0x280 then s
    else if fusesOk f then toStep 5 (updGlb (fun g => { g with pllTries := 0 }) s)
    else halt 0x05 s

def execFuseWordAck (data : Word) (s : State) : Res := run (fuseWordAck data) s

/-- FUSE_WORD_TIMEOUT: 10 ms without an acknowledge. -/
def fuseWordTimeout (s : State) : State :=
  if fuseRd s then halt 0x04 (timeout 0x0E 4 0 false (subjStep s 0 0) s.glb.fuses.length s) else s

def execFuseWordTimeout (s : State) : Res := run fuseWordTimeout s

/-! ### Clocks and the image (R137, R138, R163) -/

/-- A gear by number. -/
def gearN (n : Nat) : Gear := ⟨n % 4, Nat.mod_lt _ (by decide)⟩

/-- The channels that the sequence works on from here: enabled by cfg_chan_en and configured. -/
def enterSequence (m : Image) (s : State) : State :=
  let p := profileOf m s.glb.ctlId.toNat
  updGlb (fun g => { g with
    ch := Vector.ofFn fun c => { Chan.reset (g.ch.get c).latch with
      inSeq := g.chanEn.getLsbD c.val && p.channels.testBit c.val } }) s

/-- PLL_LOCK: the core clock runs at the boot gear and the verified image is applied. A restart-class reload
is then in force (R434, R437). The panic of RTP is judged by the levels that the image sets (R124). -/
def pllLock (s : State) : State :=
  if !atStep s 5 then s
  else
    let m := s.img.staging
    let before := regGet s 0x4000
    let s := updGlb (fun g => { g with gear := gearN (bootGear m), coreRun := true, pllTries := 0 }) s
    let s := applyImage m (enterSequence m s)
    let s := if s.glb.restart && s.img.rl.st = .restarting then appliedReload 2 before s
      else updImg (fun i => { i with staging := [] }) s
    panicUpdate (toStep 6 s)

def execPllLock (s : State) : Res := run pllLock s

/-- PLL_LOCK_TIMEOUT: an attempt of 100 µs failed, at CLOCKS or in a wake that relocks (R137, R486). -/
def pllLockTimeout (s : State) : State :=
  if atStep s 5 || (s.glb.ctl = .dormant && s.pwr.waking && regBit s 0x3000 28) then
    let last := decide (2 ≤ s.glb.pllTries)
    let s := timeout 0x0F (if last then 4 else 1) 0 false (subjStep s 0 0) 0 s
    if last then panicUpdate (dropDeferred (halt 0x06 s)) else updGlb (fun g => { g with pllTries := g.pllTries + 1 }) s
  else s

def execPllLockTimeout (s : State) : Res := run pllLockTimeout s

/-! ### Pad impedance (R140) -/

/-- Reads of devices of a slot are put on its sideband, once its devices have addresses (R532). -/
def i3cRead (c : Ch) (k : Fin 2) (l : List I3cDev) (s : State) : State :=
  onlyIf (s.glb.slot.get ⟨2 * c.val + k.val, by omega⟩).assigned (forAll l fun d s => emit (.i3c c (.read k d)) s) s

/-- The sideband of every channel that cfg_chan_en enables starts: SETAASA, then every device of each slot is read (R141,
R532). -/
def i3cStart (s : State) : State :=
  let s := updGlb (fun g => { g with slot := Vector.ofFn fun i => { g.slot.get i with assigned := g.chanEn.getLsbD (i.val / 2) } }) s
  forAll ((fins 2).filter fun c => s.glb.chanEn.getLsbD c.val) (fun c s =>
    forAll (fins 2) (fun k s => i3cRead c k [.spd, .sensor .hub, .sensor .ts0, .sensor .ts1, .pmic] s) (emit (.i3c c .setaasa) s)) s

/-- SIDEBAND begins: nothing has answered yet. Thermal polling starts with i = 0 and u = 1,024 (R539); on a
restart it goes on. -/
def sidebandStart (s : State) : State :=
  let s := updGlb (fun g => { g with slot := g.slot.map fun p =>
    if g.restart then { p with spd := none, spdTries := 0 } else Slot.reset }) s
  i3cStart <| toStep 7 (onlyIf (!s.glb.restart) (updPwr fun p => { p with integ := 0, u := 1024 }) s)

/-- PHY_ZQ_DONE: `atEnd` says that a code lies at an end of its range. -/
def phyZqDone (atEnd : Bool) (s : State) : State :=
  if !atStep s 6 then s else if atEnd then halt 0x07 s else sidebandStart s

def execPhyZqDone (atEnd : Bool) (s : State) : Res := run (phyZqDone atEnd) s

/-- PHY_ZQ_TIMEOUT: calibration has taken 1 ms. -/
def phyZqTimeout (s : State) : State :=
  if atStep s 6 then halt 0x07 (timeout 0x10 4 0 false (subjStep s 0 0) 0 s) else s

def execPhyZqTimeout (s : State) : Res := run phyZqTimeout s

end Sys2Proof.Machine
end

