-- ==== Sys2Proof/Machine/Egress.lean ====
section
/-! DEFINITION. The egress port (04 R125 to R130): slots and tokens, answers, timeouts, and what each
block does with them (12 R384 to R397; 13; 14). -/

namespace Sys2Proof.Machine

def rEgpStatus : Nat := 0x8210

def slotOf (s : State) (n : Nat) : EgpSlot := kget ⟨0, none⟩ s.egp.slots n
def setSlot (n : Nat) (x : EgpSlot) (s : State) : State := { s with egp := { s.egp with slots := kset s.egp.slots n x } }
def liveSlots (s : State) : Nat := s.egp.slots.countP fun p => p.2.live.isSome

/-- The token of a slot (R128). (DEDUCED, log 34) -/
def tokenFor (n : Nat) (g : BitVec 4) : BitVec 16 := BitVec.ofNat 16 (16 * n + g.toNat)

/-- A slot is retired: its generation advances (R128). -/
def retire (n : Nat) (s : State) : State := let x := slotOf s n; setSlot n ⟨x.gen + 1, none⟩ s

/-! ### Issue -/

/-- The line of a forward, whose issue may wait for the resilver's lock (R401). -/
def EgpReq.lockLine (s : State) (r : EgpReq) : Option Lla :=
  match r.why with
  | .mirrorWrite id | .poisonNotice id => (findReq s id).map Req.lla
  | .glgMirror _ _ l => some l
  | _ => none

/-- A request may not issue yet: its line has a live operation (R130), the resilver holds its line (R401),
or the drain estimate holds its forward (R496). -/
def egpBlocked (s : State) (r : EgpReq) : Bool :=
  s.egp.slots.any (fun p => p.2.live.any fun q => egpLine q.1 = egpLine r)
    || (r.lockLine s).any s.mir.locks.contains
    || r.forwards.any fun id => (findReq s id).any fun q => !drainOk s q false

/-- Forwards that the drain estimate holds are counted once (R496). -/
def countForwardHolds (s : State) : State :=
  forAll (s.egp.waiting.filterMap EgpReq.forwards) (fun id s => match findReq s id with
    | some r => onlyIf (!drainOk s r false && !r.drainHeld)
        (fun s => sqSet 0x3050 0x1 (bump 0x3070 (updReq id (fun r => { r with drainHeld := true }) s))) s
    | none => s) s

/-- RESILVER_CONTROL of subtype START (R400). -/
def EgpReq.isStart (r : EgpReq) : Bool :=
  let m := lineMsg r.data
  r.op = .message && decide (msgTy m = tyResilver) && decide (fld m[2] 31 24 = 2)

/-- The operation carries a line to the peer's copy. -/
def EgpReq.carries (r : EgpReq) : Bool := r.forwards.isSome || r.glgForwards.isSome || r.isResilver

/-- A request that waits keeps a later one back: requests to one line keep their order, and START goes before every line
(R400). The resilver's own forward of a line that it holds goes before the forwards that wait for its lock (R401, R410). -/
def keepsBack (s : State) (q r : EgpReq) : Bool :=
  (q.isStart && r.carries)
    || (decide (egpLine q = egpLine r) && !(r.isResilver && (q.lockLine s).any s.mir.locks.contains))

/-- The first request that may issue. -/
def egpNext (s : State) : List EgpReq → List EgpReq → Option (EgpReq × List EgpReq)
  | _, [] => none
  | before, r :: rest =>
    if egpBlocked s r || before.any (fun q => keepsBack s q r) then egpNext s (before ++ [r]) rest
    else some (r, before ++ rest)

/-- A request as it travels: mirror operations carry the current epoch, peer operations the label of
PRT_EGP_PART as it stands (R127, R387). -/
def egpFinal (s : State) (r : EgpReq) : EgpReq :=
  let r := if r.op.isPeer then { r with part := egpPart s } else r
  match r.op with
  | .mirrorWrite | .mirrorRead => { r with epoch := s.mir.epoch }
  | _ => r

/-- What issuing a request changes at its block. -/
def egpIssued (tok : BitVec 16) (r : EgpReq) (s : State) : State :=
  let s := onlyIf (r.op = .mirrorWrite) (bump 0x6040) s
  match r.why with
  | .poisonNotice _ => bump 0x6044 s
  | .recovery _ _ _ => bump 0x604C s
  | .glgPeer i _ k => onlyIf ((instOf s i).job.any fun j => match j.slots[k]? with
      | some (.peer (some _)) => true
      | _ => false) (bump 0x604C) s
  | .resilver _ l =>
    onlyIf (r.op = .message) (bump 0x6044) (updMir (fun m => { m with locks := m.locks.filter (· ≠ l) }) s)
  | .message _ =>
    if msgTy (lineMsg r.data) = tyRole then updMir (fun m => { m with role := m.role.map fun c => { c with tok := tok } }) s else s
  | _ => s

/-- EGP runs while the core clock may. (DEDUCED, log 34) -/
def egpOn (s : State) : Bool := s.glb.ctl ≠ .reset && s.glb.ctl ≠ .held && s.glb.ctl ≠ .dormant

/-! ### Answers -/

/-- The status of a code; none for a reserved one. -/
def statusOf (v : BitVec 3) : Option Status :=
  match v.toNat with
  | 0 => some .ok
  | 1 => some .corrected
  | 2 => some .poison
  | 3 => some .notOwned
  | 4 => some .failed
  | _ => none

/-- The operation was done. -/
def answered (st : Option Status) : Bool := st = some .ok || st = some .corrected

/-- The peer refused a mirror operation: it is at a later epoch (R384), or cause 2 of R396. -/
def peerRefused (st : Option Status) (stale : Bool) (epoch : BitVec 8) (tok : BitVec 16) (s : State) : State :=
  if answered st || st = some .poison then s
  else if stale then learnEpoch epoch s
  else degrade 2 tok.toNat s

/-- The answer of a recovery read (R393); none is a timeout. -/
def recoveryAnswer (id : Nat) (d : Decoded) (st : Option Status) (data : Line) (s : State) : State :=
  match findReq s id with
  | none => s
  | some r =>
    if answered st then answer id .corrected data (recoveredRecord r.lla d (readInfo s r d) (bump 0x6050 s))
    else answer id .poison 0 (readRecord r.lla d (readInfo s r d) s)

/-- The answer of a remote read is the peer's (R394): no answer, or a reserved code, is one of FAILED.
(DESIGN CHOICE, log 54) -/
def remoteDone (id : Nat) (st : Option Status) (data : Line) (s : State) : State :=
  match st with
  | some .ok => answer id .ok data s
  | some .corrected => answer id .corrected data s
  | some .poison => answer id .poison 0 s
  | some .notOwned => answer id .notOwned 0 s
  | _ => failReq id s

/-- The answer of a merge-base read (R389): of an entry that waits for it, or of a write without a rank, whose forward
goes before the requests to the line that were accepted after it (R13). -/
def mergeBaseDone (id : Nat) (dec : Option Decoded) (st : Option Status) (data : Line) (s : State) : State :=
  match findReq s id with
  | none => s
  | some r =>
    let x := scOf r.lla
    let ok := answered st
    match dec with
    | some d =>
      if ok then merged x id data false (recoveredRecord r.lla d (mergeInfo s (some r) d false true) s)
      else merged x id 0 true (readRecord r.lla d (mergeInfo s (some r) d true false) s)
    | none =>
      if ok && forwardsNow s then egpAskFirst (peerOp s .mirrorWrite r.addr (mergeLine data r.data r.mask) (.mirrorWrite id)) s
      else settlePeer id .no s

/-- The peer outcome of a mirrored write. -/
def commitOf (st : Option Status) : Commit := if answered st then .yes else .no

/-- A resilver forward was answered (R401, R402). -/
def resilverAnswer (x : Sc) (st : Option Status) (s : State) : State :=
  if answered st && s.mir.pair = .resilvering then walkAnswered x (bump 0x605C s) else s

/-- What a block does with the end of its operation: an answer, or none at a timeout. -/
def egpDone (r : EgpReq) (st : Option Status) (data : Line) (s : State) : State :=
  match r.why with
  | .mirrorWrite id | .poisonNotice id => settlePeer id (commitOf st) s
  | .recovery _ id d => recoveryAnswer id d st data s
  | .remoteRead id => remoteDone id st data s
  | .mergeBase id d => mergeBaseDone id d st data s
  | .scrubFetch x l => scrubFetched x l st data s
  | .resilver x _ => resilverAnswer x st s
  | .message dst => if st = some .ok then delivered dst r.data s else s
  | .glgWrite i e => glgWriteDone i e st s
  | .glgRead i e => glgReadDone i e st data s
  | .glgChain i e => glgChainDone i e st data s
  | .glgMirror i e l => glgMirrorDone i e l st s
  | .glgPeer i e k => glgPeerDone i e k st data s

/-- A read of the peer's copy that waits, and whose region has become dirty meanwhile: the peer's line may be older than
what the read must see (R13, R393). -/
def staleRead (s : State) (r : EgpReq) : Bool :=
  r.op = .mirrorRead && match fwd s r.addr with
    | .owned _ _ d => s.mir.dirty.getLsbD (regionOf (llaOf s d))
    | _ => false

/-- Such a read is not issued: it ends as one that the peer cannot serve. (DEDUCED, log 31) -/
def endStaleReads (s : State) : State :=
  let old := s.egp.waiting.filter (staleRead s)
  forAll old (fun r s => egpDone r (some .failed) 0 s)
    { s with egp := { s.egp with waiting := s.egp.waiting.filter fun r => !staleRead s r } }

/-- EGP_REQUEST_ISSUE in a free slot (R125, R128). (DEDUCED, log 34) -/
def egpIssue (n : Nat) (s : State) : State :=
  if !egpOn s || (slotOf s n).live.isSome then s
  else
    let s := countForwardHolds (endStaleReads s)
    match egpNext s [] s.egp.waiting with
    | none => s
    | some (r, rest) =>
      let r := egpFinal s r
      let g := (slotOf s n).gen
      let s := setSlot n ⟨g, some (r, s.glb.now)⟩ { s with egp := { s.egp with waiting := rest } }
      let s := { s with egp := { s.egp with peak := max s.egp.peak (liveSlots s) } }
      egpIssued (tokenFor n g) r (emit (.egp (tokenFor n g) r) s)

def execEgpRequestIssue (slot : BitVec 8) (s : State) : Res := run (egpIssue slot.toNat) s

/-- A mirror operation, whose failure concerns the pair (R396). START, DONE and HELLO are plain messages, whose failure
changes nothing at the pair: the "resilver operations" of cause 3 are those that carry a line. (DESIGN CHOICE, log 67) -/
def EgpReq.isMirror (r : EgpReq) : Bool :=
  match r.why with
  | .message _ | .glgWrite .. | .glgRead .. | .glgChain .. => false
  | _ => true

/-- A stale answer is discarded, counted and reported (R24, R128). It is one event of the SQ register, also
where it names a slot that does not exist (R40). (DEDUCED, log 48) -/
def egpStale (tok : BitVec 16) (st : BitVec 3) (src : BitVec 10) (s : State) : State :=
  let n := tok.toNat / 16
  let x := slotOf s n
  let s := sqSet rEgpStatus (if 256 ≤ n then 0x5 else 0x1) (bump 0x8208 s)
  limited 0x340 (ms 1) (fun k s => raise 0x1B 0 1
    [pack [(tok.toNat, 16), (if 256 ≤ n then 0 else x.gen.toNat, 12), (st.toNat, 9), (b2n (x.live.isSome && decide (n < 256)), 8)],
     pack [(src.toNat, 22), (sat 0x3FFFFF k, 0)]] s) s

/-- EGP_RESPONSE (R128): a live matching slot is retired and its block goes on. -/
def egpResponse (tok : BitVec 16) (status : BitVec 3) (stale : Bool) (epoch : BitVec 8) (src : BitVec 10) (data : Line)
    (s : State) : State :=
  if !egpOn s then s
  else
    let n := tok.toNat / 16
    let x := slotOf s n
    match x.live with
    | none => egpStale tok status src s
    | some (r, _) =>
      if tok ≠ tokenFor n x.gen then egpStale tok status src s
      else
        let st := statusOf status
        let s := egpDone r st data (retire n s)
        onlyIf r.isMirror (peerRefused st stale epoch tok) s

def execEgpResponse (token : BitVec 16) (status : BitVec 3) (stale : Bool) (epoch : BitVec 8) (src : BitVec 10)
    (data : Line) (s : State) : Res := run (egpResponse token status stale epoch src data) s

/-- The cause of R396 that a timeout of the operation is: 3 for every read. (DEDUCED, log 31; DESIGN CHOICE, log 54) -/
def EgpReq.cause (r : EgpReq) : Nat :=
  match r.why with
  | .mirrorWrite _ | .poisonNotice _ | .glgMirror .. => 1
  | _ => 3

/-- EGP_SLOT_TIMEOUT: a live slot is retired by its time (R129, R396, R480). (DEDUCED, log 31) -/
def egpTimeout (n : Nat) (s : State) : State :=
  let x := slotOf s n
  match if egpOn s then x.live else none with
  | none => s
  | some (r, _) =>
    let tok := tokenFor n x.gen
    let s := sqSet rEgpStatus 0x2 (bump 0x820C (retire n s))
    let s :=
      if r.op.isPeer then timeout 0x16 2 5 false tok.toNat r.dst.toNat s else timeout 0x15 2 1 false tok.toNat r.dst.toNat s
    let s := egpDone r none 0 (onlyIf r.op.isPeer (bump 0x6048) s)
    onlyIf r.isMirror (degrade r.cause tok.toNat) s

def execEgpSlotTimeout (slot : BitVec 8) (s : State) : Res := run (egpTimeout slot.toNat) s

end Sys2Proof.Machine
end

