-- ==== Sys2Proof/Machine/Events.lean ====
section
/-! DEFINITION. The event queue (16): the chain, GAP records, reading, flushing, interrupts. -/

namespace Sys2Proof.Machine

/-- Stages in use: the unread words of the chain (R510). -/
def chainUsed (c : List ChainRec) : Nat := (c.map fun r => r.words.length).sum

/-- Free stages of the 128 (R507). -/
def chainFree (s : State) : Nat := 128 - chainUsed s.evt.chain

/-- The words of a GAP record (R508). -/
def gapWords (g : Gap) : List Word :=
  [ pack [(0x3F, 26), (3, 22), (g.sev.val, 19), (g.seq.toNat, 0)],
    BitVec.ofNat 32 g.time.toNat, BitVec.ofNat 32 (g.time.toNat / 2 ^ 32),
    pack [(g.count, 16), (g.mask.toNat, 0)] ]

/-- The parity of the 32 data bits, which makes it even with its bit (R512). -/
def evenParity (w : Word) : Bool := (List.range 32).foldl (fun b i => b != w.getLsbD i) false

/-- A word enters the chain with fresh parity (R512). -/
def Stage.of (w : Word) : Stage := ⟨w, evenParity w, false⟩

/-- Bits of a stage that have turned over: the word in bits 31 to 0, its parity bit in bit 32. -/
def Stage.upset (m : BitVec 33) (x : Stage) : Stage := { x with word := x.word ^^^ m.setWidth 32, parity := x.parity != m.getLsbD 32 }

/-- The parity does not match (R512). -/
def Stage.fails (x : Stage) : Bool := evenParity x.word ≠ x.parity

/-- The check of a stage: a mismatch sets the tag, which stays (R512). -/
def Stage.checked (x : Stage) : Stage := { x with bad := x.bad || x.fails }

/-- The GAP that an unread GAP record stands for. -/
def gapOf (r : ChainRec) : Gap :=
  let w (i : Nat) : Word := ((r.words[i]?).map Stage.word).getD 0
  { count := fld (w 3) 31 16, mask := BitVec.ofNat 8 (fld (w 3) 7 0), sev := r.sev, seq := r.seq
    time := BitVec.ofNat 64 ((w 1).toNat + 2 ^ 32 * (w 2).toNat) }

/-- A GAP record in the chain, no word read. -/
def gapRec (now : Nat) (g : Gap) : ChainRec :=
  { words := (gapWords g).map Stage.of, sev := g.sev, seq := g.seq, gap := true, begun := false, since := now, waited := 0 }

/-- Extend the newest record, an unread GAP: fresh parity, and poison tags stay (R508, R520). -/
def gapExtend (r : ChainRec) (g : Gap) : ChainRec :=
  let j := gapJoin (gapOf r) g
  { r with words := ((gapWords j).zip r.words).map (fun e => { Stage.of e.1 with bad := e.2.bad }), sev := j.sev }

/-- Write a new GAP record at the tail (R507, R509). -/
def writeGap (g : Gap) (s : State) : State :=
  sqSet rEvtStatus 0x9 (updEvt (fun e => { e with chain := e.chain ++ [gapRec s.glb.now g], pend := none }) s)

/-- Drops reach the chain: they extend the newest record if it is a GAP of which no word has been
read, otherwise a new GAP is written, or waits for 4 free stages (R507, R540). -/
def addDrops (g : Gap) (s : State) : State :=
  match s.evt.chain.getLast? with
  | some r =>
    if r.gap && !r.begun then
      updEvt (fun e => { e with chain := e.chain.dropLast ++ [gapExtend r g] }) s
    else if 4 ≤ chainFree s then writeGap g s
    else updEvt (fun e => { e with pend := some g }) s
  | none => writeGap g s

/-- The oldest record of the raise buffer reaches the chain (R506, R507, R540). -/
def takeRec (r : Rec) (s : State) : State :=
  let s := updEvt (fun e => { e with buf := e.buf.drop 1 }) s
  match s.evt.pend with
  | some g => bump rEvtDropped (updEvt (fun e => { e with pend := some (gapJoin g (recDrops r)) }) s)
  | none =>
    if r.words.length + 4 ≤ chainFree s then
      let c : ChainRec := { words := r.words.map Stage.of, sev := r.sev, seq := BitVec.ofNat 16 (fld (r.words.headD 0) 15 0)
                            gap := false, begun := false, since := s.glb.now, waited := 0 }
      let s := sqSet rEvtStatus 0x1 (updEvt (fun e => { e with chain := e.chain ++ [c] }) s)
      match r.drops with
      | none => s
      | some d => addDrops d s
    else bump rEvtDropped (addDrops (recDrops r) s)

/-- Stage i of the chain changes. -/
def modStage (f : Stage → Stage) : Nat → List ChainRec → List ChainRec
  | _, [] => []
  | i, r :: c =>
    if i < r.words.length then { r with words := r.words.modify i f } :: c
    else r :: modStage f (i - r.words.length) c

/-- The stages of the chain in order. -/
def chainStages (c : List ChainRec) : List Stage := c.flatMap ChainRec.words

/-- The stages that a check finds to fail for the first time. -/
def newlyBad (l : List Stage) : Nat := l.countP fun x => !x.bad && x.fails

/-- A check has found n mismatches: each counts once and sets EVT_PARITY_SEEN (R512). -/
def parityErrors (n : Nat) (s : State) : State := forAll (List.range n) (fun _ s => sqSet rEvtStatus 0x4 (bump rEvtParity s)) s

/-- Every word moves, and is checked as it moves (R512). -/
def checkChain (s : State) : State :=
  parityErrors (newlyBad (chainStages s.evt.chain))
    (updEvt (fun e => { e with chain := e.chain.map fun r => { r with words := r.words.map Stage.checked } }) s)

/-- EVT_CHAIN_TAKE: in one ac the pending GAP, or the oldest record of the raise buffer, is written
into the chain (R506, R507, R540), and the words move. `upsets` names the stages in which bits have turned over before
that, and the bits (R512). (DESIGN CHOICE, log 56) -/
def evtChainTake (upsets : List (Nat × BitVec 33)) (s : State) : State :=
  let s := forAll upsets (fun u s => updEvt (fun e => { e with chain := modStage (Stage.upset u.2) u.1 e.chain }) s) s
  checkChain <|
    match s.evt.pend with
    | some g =>
      if 4 ≤ chainFree s then writeGap g s
      else match s.evt.buf with
        | r :: _ => takeRec r s
        | [] => s
    | none =>
      match s.evt.buf with
      | r :: _ => takeRec r s
      | [] => s

/-- The next word of the head record (R510). -/
def headWord (s : State) : Option Stage := s.evt.chain.head?.bind fun r => r.words.head?

/-- The chain after its head word has been consumed; an emptied record is gone. -/
def popWord : List ChainRec → List ChainRec
  | [] => []
  | r :: c => if r.words.length ≤ 1 then c else { r with words := r.words.drop 1, begun := true } :: c

/-- EVT_DATA_READ: the next word of the head record is returned and consumed (R49, R50, R510); its parity is checked as it
is read. `upset` names the bits of the stage that have turned over (R512). (DESIGN CHOICE, log 56) -/
def evtDataRead (upset : BitVec 33) (s : State) : State :=
  match headWord s with
  | none => respOk 0 s
  | some w =>
    let w := w.upset upset
    emit (.reg (if w.checked.bad then 2 else 0) w.word)
      (parityErrors (newlyBad [w]) (updEvt (fun e => { e with chain := popWord e.chain }) s))

/-- EVT_FLUSH with bit 0 at 1: every complete record is discarded and counted (R511). -/
def evtFlush (s : State) : State :=
  sqSet rEvtStatus 0x2 (bumpBy s.evt.chain.length rEvtFlushed (updEvt (fun e => { e with chain := [] }) s))

/-- EVT_IRQ_DELAY_EXPIRY: EVT_IRQ_DELAY_US µs have passed since the head record became complete (R514). -/
def evtIrqDelay (s : State) : State :=
  let d := regFld s rEvtCfg 15 0
  updEvt (fun e => match e.chain with
    | r :: c => { e with chain := { r with waited := max r.waited d } :: c }
    | [] => e) s

/-- The head record became complete at least EVT_IRQ_DELAY_US µs ago, and that is not 0 (R514). -/
def irqDelayed (s : State) : Bool :=
  let d := regFld s rEvtCfg 15 0
  decide (d ≠ 0) && s.evt.chain.head?.any fun r => decide (d ≤ r.waited ∨ r.since + us d ≤ s.glb.now)

/-- irq_evt (R514, R81). -/
def irqEvt (s : State) : Bool :=
  s.glb.ctl ≠ .reset && regBit s rEvtCfg 31 &&
    (decide (max 1 (regFld s rEvtCfg 23 16) ≤ s.evt.chain.length)
      || irqDelayed s
      || s.evt.chain.any (fun r => decide (regFld s rEvtCfg 26 24 ≤ 4 ∧ regFld s rEvtCfg 26 24 ≤ r.sev.val))
      || s.evt.chain.any (fun r => r.gap))

/-- irq_crit (R515, R81). -/
def irqCrit (s : State) : Bool := s.glb.ctl ≠ .reset && regBit s rEvtCfg 30 && regBit s rEvtStatus 4

def execEvtChainTake (upsets : List (Nat × BitVec 33)) (s : State) : Res := run (evtChainTake upsets) s

def execEvtDataRead (priv : Bool) (upset : BitVec 33) (s : State) : Res := run (onPort priv (evtDataRead upset)) s

def execEvtFlush (priv : Bool) (data : Word) (s : State) : Res :=
  run (onPort priv fun s => respOk 0 (onlyIf (bitOf data 0) evtFlush s)) s

def execEvtIrqDelayExpiry (s : State) : Res := run evtIrqDelay s

end Sys2Proof.Machine
end

