-- ==== Sys2Proof/Machine/Mnt.lean ====
section
/-! DEFINITION. Zeroing of uninitialised regions (05 R160, R165, R166) and one cc of the maintenance
arbiter with the requests of its requesters (07 R216). -/

namespace Sys2Proof.Machine

/-- The lowest clear bit of a number below 2^w. -/
def lowestClear (w v : Nat) : Option Nat := if 2 ^ w - 1 ≤ v then none else some (Nat.log2 (v ^^^ (v + 1)))

/-- Regions of a sub-channel that wait for their bitmap-copy line, or in its on-demand queue. -/
def regionsTaken (s : State) (x : Sc) : List Nat :=
  (s.glb.initWait.filter fun r => r / 2 ^ 18 = x.val) ++ s.glb.onDemand.get x

/-- The region that background zeroing works on: the lowest uninitialised one (R166). (DEDUCED, log 38) -/
def backRegion (s : State) (x : Sc) : Option Nat :=
  let v := s.glb.init.toNat / 2 ^ (x.val * 2 ^ 18) % 2 ^ (2 ^ 18)
  let v := (regionsTaken s x).foldl (fun v r => v ||| 2 ^ (r % 2 ^ 18)) v
  (lowestClear (2 ^ 18) v).map fun r => x.val * 2 ^ 18 + r

/-- The region that zeroing on demand works on. (DEDUCED, log 38) -/
def demandRegion (s : State) (x : Sc) : Option Nat := (s.glb.onDemand.get x).head?

/-- Zeroing work of a requester. -/
def MntCmd.zeroes (r : Nat) (m : MntCmd) : Bool :=
  match m.op with
  | .lineWrite l _ _ back => !back && decide (regionOf l = r)
  | _ => false

/-- What background zeroing still has to write of a region that is zeroed on demand now is written at that rank (R166).
Zeroing goes first in its list: other work of the requester may wait for it (R167). -/
def zeroPromote (x : Sc) (r : Nat) (s : State) : State :=
  let z := ((s.sched.get x).maint.get 6).filter (MntCmd.zeroes r)
  updMaint x 2 (fun l => (z.map fun m => { m with stamp := none, aged := false }) ++ l)
    (updMaint x 6 (fun l => l.filter fun m => !m.zeroes r) s)

/-- Lines of a region that have been offered. (DEDUCED, log 38) -/
def zeroDone (s : State) (x : Sc) (r : Nat) : Nat := kget 0 (s.glb.zero.get x) r

/-- Offer the next line of a region at a requester, one at a time. -/
def zeroOffer (x : Sc) (q : Fin 7) (r : Nat) (s : State) : State :=
  let n := zeroDone s x r
  if 2 ^ 18 ≤ n || ((s.sched.get x).maint.get q).any (MntCmd.zeroes r) then s
  else
    mntFirst x q (.lineWrite (BitVec.ofNat 38 (r * 2 ^ 18 + n)) 0 false false)
      (updGlb (fun g => { g with zero := vmod g.zero x fun m => kset m r (n + 1) }) s)

/-- Zeroing on demand asks at the rank of training, in the background at that of patrol scrub (R166).
(DEDUCED, log 38) -/
def zeroOffers (x : Sc) (s : State) : State :=
  if !chLive s (chOf x) then s
  else
    let s := match demandRegion s x with
      | some r => zeroOffer x 2 r (zeroPromote x r s)
      | none => s
    match backRegion s x with
    | some r => zeroOffer x 6 r s
    | none => s

/-- A scrub read that has not been issued is not started on a line that a write has come to match: the line counts as
rewritten (R222). A copy to the spare waits for the write. -/
def scrubWithdraw (x : Sc) (s : State) : State :=
  let q := s.sched.get x
  let gone (o : Origin) (m : MntCmd) : Bool := match m.op with
    | .lineRead p l => p = o && lineBusy q l
    | _ => false
  let l := q.maint.get 6
  let s := updMaint x 6 (fun l => l.filter fun m => !gone .patrol m && !gone .oot m) s
  onlyIf (l.any (gone .patrol)) (scrubStep x) s

/-- SERVICE_ENTRY zeroes every region first, with early service disabled (R162). -/
def zeroFirst (s : State) : Bool := atStep s 0x0B && !earlyService (image s)

/-- The requests of a cc. In CAST_ON refresh requests from the calendar on (R230), and zeroing at SERVICE_ENTRY where it
comes first; the other requesters begin with SERVICE. (DEDUCED, log 48) -/
def mntOffers (x : Sc) (s : State) : State :=
  match s.glb.ctl with
  | .bindOff => s
  | .castOn => onlyIf (zeroFirst s) (zeroOffers x) (refOffers x s)
  | _ => glgPump x (resilverOffer x (scrubOffer x (scrubWithdraw x (zeroOffers x (refOffers x s)))))

/-- MNT_ARBITRATE: one cc of the arbiter of a sub-channel, after its repair and its PHY sequences have taken their next
step. -/
def mntArbitrate (x : Sc) (s : State) : State :=
  if s.glb.ctl = .castOn || s.glb.ctl = .service || s.glb.ctl = .quiesced || s.glb.ctl = .gearChange || s.glb.ctl = .bindOff then
    arbitrate x (mntOffers x (phyGo x (pprGo x s)))
  else s

def execMntArbitrate (sc : Sc) (s : State) : Res := run (mntArbitrate sc) s

/-- A zeroed region: it leaves the queue, its bitmap-copy line goes first (R160). -/
def regionDone (r : Nat) (s : State) : State :=
  let x := scN (r / 2 ^ 18)
  pumpInit r (updGlb (fun g => { g with
    initWait := if g.initWait.contains r then g.initWait else g.initWait ++ [r]
    onDemand := vmod g.onDemand x fun q => q.filter (· ≠ r)
    zero := vmod g.zero x fun m => kdel m r }) s)

/-- REGION_ZEROED: every line of the region has been written. (DEDUCED, log 38) -/
def regionZeroed (r : Nat) (s : State) : State :=
  let x := scN (r / 2 ^ 18)
  if s.glb.init.getLsbD r then s
  else if 2 ^ 18 ≤ zeroDone s x r && !(s.sched.get x).maint.toList.any (fun l => l.any (MntCmd.zeroes r))
      && (s.sched.get x).lines.all (fun t => t.done || decide (regionOf t.lla ≠ r)) then regionDone r s
  else s

def execRegionZeroed (region : BitVec 20) (s : State) : Res := run (regionZeroed region.toNat) s

end Sys2Proof.Machine
end

