-- ==== Sys2Proof/Machine/Popul.lean ====
section
/-! DEFINITION. Sideband transactions, the population check and DIMM_INIT (05, R141 to R148; 08 R241, R257;
11 R361, R362). -/

namespace Sys2Proof.Machine

/-! ### The sideband (R141, R142, R488 to R490; 03 R86) -/

def slotIx (c : Ch) (k : Fin 2) : Fin 4 := ⟨2 * c.val + k.val, by omega⟩
def slotAt (s : State) (c : Ch) (k : Fin 2) : Slot := s.glb.slot.get (slotIx c k)
def updSlot (c : Ch) (k : Fin 2) (f : Slot → Slot) (s : State) : State :=
  updGlb (fun g => { g with slot := vmod g.slot (slotIx c k) f }) s

/-- The controller owns the bus of a channel. -/
def busOwned (s : State) (c : Ch) : Bool :=
  s.glb.chanEn.getLsbD c.val
    && match s.glb.ctl with
      | .reset | .held => false
      | .castOn => decide (7 ≤ s.glb.step.toNat)
      | _ => true

def sensorIx : SensorId → Fin 3
  | .hub => 0
  | .ts0 => 1
  | .ts1 => 2

/-- A reading of a sensor: one that SIDEBAND finds, or a later one of a sensor that was found. -/
def takeTemp (found : Bool) (t : BitVec 16) (z : Sensor) : Sensor :=
  if found || z.found then ⟨true, t, true, true⟩ else z

/-- What the bytes of an SPD say. The manual names JESD400-5, whose layout this is: byte 2 the device type, 3 the module
type, 4 density and dies, 6 the width, 20 and 21 the shortest tCK in ps, 234 the ranks, 235 the widths of the bus, 517 to
520 the serial number. The capacity follows from them. (PRESUMED, log 68) -/
def spdInfo (b : List Byte) : SpdInfo :=
  let at_ (i : Nat) : Nat := (b.getD i 0).toNat
  let dies := at_ 4 / 32
  let den := at_ 4 % 32
  let x8 := decide (at_ 6 / 32 = 1)
  let lr : Fin 5 := finOr 4 (if dies < 2 then 0 else dies - 1)
  let ranks := at_ 234 / 8 % 8 + 1
  let tck := at_ 20 + 256 * at_ 21
  let density : Fin 4 := finOr 3 (if den = 4 then 0 else if den = 5 then 1 else if den = 6 then 2 else 3)
  let gb := ([16, 24, 32, 64] : List Nat).getD density.val 0
  { kindOk := decide (at_ 2 = 0x12 ∧ at_ 3 / 128 = 0 ∧ at_ 3 % 16 = 1 ∧ at_ 235 % 128 = 0x32 ∧ at_ 234 / 64 % 2 = 0
      ∧ dies ≠ 1 ∧ dies ≤ 5 ∧ (den = 4 ∨ den = 5 ∨ den = 6 ∨ den = 8) ∧ at_ 6 / 32 ≤ 1)
    is3ds := decide (2 ≤ dies)
    x8 := x8
    density := density
    lrLog := lr
    pkgRanks := ranks
    capacityGib := ranks * 2 ^ lr.val * gb * (if x8 then 4 else 8) * 2 / 8
    maxRate := 2000000 / tck / 400
    serial := BitVec.ofNat 32 (at_ 517 + 256 * at_ 518 + 65536 * at_ 519 + 16777216 * at_ 520) }

/-- I3C_TRANSACTION_DONE: SPD contents are read at SIDEBAND only. -/
def i3cDone (c : Ch) (k : Fin 2) (r : I3cResult) (s : State) : State :=
  if !busOwned s c then s
  else
    match r with
    | .spd b => if atStep s 7 then updSlot c k (fun p => { p with spd := some (spdInfo b), spdTries := 0 }) s else s
    | .temp x t =>
      updSlot c k (fun p => { p with
        sensors := vmod p.sensors (sensorIx x) (takeTemp (atStep s 7) t), tries := vset p.tries (sensorIx x) 0 }) s
    | .pmic p => updSlot c k (fun q => { q with pmicNew := some p, pmicTries := 0 }) s

def execI3cTransactionDone (ch : Ch) (slot : Fin 2) (r : I3cResult) (s : State) : Res := run (i3cDone ch slot r) s

/-- The third failure of a transaction: the device is absent at SIDEBAND, its reading invalid later. -/
def i3cLost (d : I3cDev) (boot : Bool) (p : Slot) : Slot :=
  match d with
  | .spd => { p with spd := none, spdTries := 0 }
  | .sensor x =>
    { p with
      sensors := vmod p.sensors (sensorIx x) fun z => { z with found := z.found && !boot, valid := false, fresh := false }
      tries := vset p.tries (sensorIx x) 0 }
  | .pmic => { p with pmicNew := none, pmicTries := 0 }

/-- Failures of the transaction so far, and one more. -/
def i3cTries (d : I3cDev) (p : Slot) : Nat :=
  match d with
  | .spd => p.spdTries
  | .sensor x => p.tries.get (sensorIx x)
  | .pmic => p.pmicTries
def i3cRetry (d : I3cDev) (p : Slot) : Slot :=
  match d with
  | .spd => { p with spdTries := p.spdTries + 1 }
  | .sensor x => { p with tries := vmod p.tries (sensorIx x) (· + 1) }
  | .pmic => { p with pmicTries := p.pmicTries + 1 }

/-- I3C_TRANSACTION_TIMEOUT: two retries (R142), each of which reads again. -/
def i3cTimeout (c : Ch) (k : Fin 2) (d : I3cDev) (s : State) : State :=
  if !busOwned s c then s
  else
    let s := timeout 0x11 0 7 false (subjStep s c.val k.val) 0 s
    if i3cTries d (slotAt s c k) < 2 then i3cRead c k [d] (updSlot c k (i3cRetry d) s) else updSlot c k (i3cLost d (atStep s 7)) s

def execI3cTransactionTimeout (ch : Ch) (slot : Fin 2) (d : I3cDev) (s : State) : Res := run (i3cTimeout ch slot d) s

/-! ### Channels that leave the sequence (R144, R145, R148, R163) -/

/-- A channel is excluded. -/
def exclude (c : Ch) (s : State) : State :=
  coverUnheld (sqSet rCastOn (pack [(1, 10 + c.val)]) (updCh c (fun h => { h with excluded := true }) s))

/-- No channel is left in the sequence: HALTED (R145). -/
def orHalt (s : State) : State := if (fins 2).any (chLive s) then s else halt 0x08 s

/-- Population policy STRICT (R144). -/
def strictPop (s : State) : Bool := !popDegrade (image s)

/-! ### The population check (R143) -/

/-- The profile of this controller, and the highest data rate the image defines. -/
def ownProfile (s : State) : Profile := profileOf (image s) s.glb.ctlId.toNat
def topRate (s : State) : Nat := ((gearList (image s)).map fun g => rateOf s (gearN g)).foldl max 0

/-- What a slot holds is what the profile says of it. -/
def slotOk (p : Profile) (rate : Nat) (want : Bool) (x : Slot) : Bool :=
  match x.spd with
  | none => !want
  | some i =>
    want && i.kindOk && (i.is3ds == p.is3ds) && (i.x8 == decide (p.width = 8)) && decide (i.density.val = p.density)
      && decide (i.lrLog.val = p.lrLog) && decide (i.pkgRanks = p.pkgRanks) && decide (i.capacityGib = p.capacity)
      && decide (rate ≤ i.maxRate)

/-- The population of a channel differs from the image. -/
def mismatch (s : State) (c : Ch) : Bool :=
  if s.glb.chanEn.getLsbD c.val then
    (fins 2).any fun k => !slotOk (ownProfile s) (topRate s) (chConf s c && decide (k.val < (ownProfile s).dimms)) (slotAt s c k)
  else chConf s c

/-- Nothing answered on a channel. -/
def noDimm (s : State) (c : Ch) : Bool := (fins 2).all fun k => (slotAt s c k).spd.isNone

/-! ### The start of DIMM_INIT (R147, R257, R361) -/

/-- The Row Counter starts empty at epoch 0; work for the ledger and the calendars is gone (R257). -/
def resetCounter (s : State) : State :=
  let s := updRef (fun a => { a with
    units := [], groups := [], cache := [], posted := [], fetching := [], due := [], raa := [], rcHeld := []
    abo := Vector.replicate 2 [], aboLate := Vector.replicate 2 false }) s
  forAll (fins 4) (fun x s => updMaint x 0 (fun _ => []) (updMaint x 3 (fun _ => []) s)) s

/-- The sparing entry of a channel. -/
def sparingEntry (s : State) (c : Ch) : Option (Word × Word) :=
  s.ras.rpl.find? fun e => fld e.1 30 29 = 2 && fld e.1 27 27 = c.val

/-- The spare of a channel before its training: in service, where an entry of the list says so (R361, R362),
else not available. (DEDUCED, log 36) -/
def spareState (s : State) (c : Ch) : Spare :=
  let k := ((ownProfile s).spareCs c.val).getD 0
  match sparingEntry s c with
  | some e => ⟨.inService, BitVec.ofNat 2 (fld e.1 10 9), BitVec.ofNat 2 (fld e.1 25 24), Vector.replicate 2 0, [], none⟩
  | none => ⟨.none, BitVec.ofNat 2 k, 0, Vector.replicate 2 0, [], none⟩
/-- An entry of the repair list that Cast-On loads is reported (R377, action 7). -/
def loadedRecord (e : Word × Word) (s : State) : State :=
  let x := if bitOf e.1 26 then scB (chN (fld e.1 27 27)) else scA (chN (fld e.1 27 27))
  let mark := decide (fld e.1 30 29 = 1)
  markedRecord ⟨0, BitVec.ofNat 2 (fld e.1 25 24), x, fld e.1 23 20, if mark then fld e.1 19 16 else 0xF, fld e.2 31 24⟩
    7 (fld e.1 10 9) 0 s

/-- The spare of a channel takes the state that the list gives it (R361, R362). -/
def takeSparing (c : Ch) (s : State) : State :=
  let was := (s.ras.spare.get c).st = .inService
  let s := updRas (fun a => { a with spare := vset a.spare c (spareState s c) }) s
  match sparingEntry s c with
  | some e => onlyIf (!was) (loadedRecord e) s
  | none => s

/-- Entries of a repair list that belong to a channel. -/
def entriesOf (c : Ch) (l : List (Word × Word)) : List (Word × Word) := l.filter fun e => decide (fld e.1 27 27 = c.val)

/-- The mark entries of a list that are in force after it: an entry for a replaced chip select ends the marks of that
chip select that stand before it (R358, R367). -/
def marksLeft (l : List (Word × Word)) : List (Word × Word) :=
  l.foldl (fun m e =>
    if fld e.1 30 29 = 1 then m ++ [e]
    else if fld e.1 30 29 = 2 then m.filter fun z => decide (fld z.1 25 24 ≠ fld e.1 25 24) else m) []

/-- The marks of a channel's entries come into force; each is reported (R361, R377). -/
def takeMarks (c : Ch) (s : State) : State :=
  forAll (marksLeft (entriesOf c s.ras.rpl)) (fun e s =>
    let x := if bitOf e.1 26 then scB c else scA c
    let u := unitNo s (fld e.1 25 24) (fld e.1 23 20)
    let r := rasUnit s x u
    let d := finOr 9 (fld e.1 19 16)
    if r.mark = some d then s else loadedRecord e (setUnit x u { r with mark := some d } s)) s

/-- A list of entries joins the on-die list: each once, up to 256. -/
def mergeEntries (l : List (Word × Word)) (s : State) : State :=
  forAll l (fun e s => if s.ras.rpl.contains e then s else rplPut e s) s

/-- The half of a region map that a channel holds. -/
def halfMask (c : Ch) : BitVec 1048576 := BitVec.ofNat 1048576 ((2 ^ 524288 - 1) * 2 ^ (524288 * c.val))

/-- A channel on the cold path: its regions start uninitialised, its dirty bits clear, its repairs are those
of the image, its counters and logs start anew (R161, R361, R398). -/
def coldStart (c : Ch) (s : State) : State :=
  let keep := ~~~(halfMask c)
  let s := updGlb (fun g => { g with init := g.init &&& keep, initCopy := g.initCopy &&& keep }) s
  let s := updMir (fun m => { m with dirty := m.dirty &&& keep }) s
  let es := entriesOf c (repairFor (image s) s.glb.ctlId.toNat)
  takeSparing c (mergeEntries es s)

/-- The path of a channel is chosen by its latch as it reads now (R147). (DEDUCED, log 35) -/
def choosePath (c : Ch) (s : State) : State :=
  let s := updCh c (fun h => { h with retPath := h.latch, kept := s.glb.restart && h.latch, padsOn := true }) s
  if (s.glb.ch.get c).retPath then takeSparing c s else coldStart c s

/-- DIMM_INIT begins. -/
def dimmInitStart (s : State) : State :=
  let s := regPut 0x10000 18 18 0 (resetCounter s)
  toStep 8 (coverUnheld (forAll ((fins 2).filter (chLive s)) choosePath s))

/-- A channel that is expected to be empty is found empty: its pads drive DRST_n low, which clears its latch (R65,
R87, R145). -/
def noteEmpty (c : Ch) (s : State) : State := updCh c (fun h => { h with unpopulated := true, latch := false, inSr := false }) s

/-- SIDEBAND_DONE: the population is compared with the image (R143 to R145). -/
def sidebandDone (s : State) : State :=
  if !atStep s 7 then s
  else
    let bad := (fins 2).filter (mismatch s)
    if !bad.isEmpty && strictPop s then halt 0x09 s
    else
      let s := forAll ((fins 2).filter fun c => noDimm s c && !bad.contains c) noteEmpty s
      let s := orHalt (forAll bad exclude s)
      if s.glb.ctl = .castOn then dimmInitStart s else s

def execSidebandDone (s : State) : Res := run sidebandDone s

/-! ### DIMM_INIT (R147, R148, R530) -/

/-- A channel is excluded at DIMM_INIT: on the retention path its ranks return to self-refresh first (R148). -/
def dropInit (c : Ch) (s : State) : State :=
  exclude c (updCh c (fun h => { h with latch := h.retPath, inSr := h.retPath, released := false }) s)

/-- The chip selects of a channel: those of the geometry, and the spare that the image names. -/
def physCs (s : State) (c : Ch) : List Nat := List.range (nCs s) ++ ((ownProfile s).spareCs c.val).toList

/-- A command to one chip select, by its number on the bus. -/
def chipCmd (x : Sc) (n : Nat) (k : CmdKind) (arg : CmdArg) (s : State) : State :=
  pinOne x { kind := k, cs := BitVec.ofNat 2 n, lr := 0, bg := 0, ba := 0, row := 0, col := 0, ap := false, arg := arg } s

/-- A command to every chip select of a sub-channel. -/
def toChips (x : Sc) (k : CmdKind) (arg : CmdArg) (s : State) : State :=
  forAll (physCs s (chOf x)) (fun n s => chipCmd x n k arg s) s

/-- What DIMM_INIT puts on the bus first (R147, R148, R530): the control words of the RCD on the cold path; on the
retention path self-refresh exit, and the read of the words that the RCD has kept; what the devices and the RCD report of
their features. (DESIGN CHOICE, log 60) -/
def initFirst (ret : Bool) : List (CmdKind × CmdArg) :=
  (if ret then [(.srx, .none), (.mrr, .get .rcd)] else [(.mrw, .set .rcd)]) ++ [(.mrr, .get .features)]

/-- What DIMM_INIT puts on the bus on a channel that has every feature (R147, R148, R254, R369): the control words of the
RCD where those that it has kept differ; parity checking and write CRC; the settings of the boot gear; ZQ calibration.
(DESIGN CHOICE, log 60) -/
def initCmds (s : State) (differs : Bool) : List (CmdKind × CmdArg) :=
  (if differs then [(.mrw, .set .rcd)] else [])
    ++ [(.mrw, .set .parity), (.mrw, .set .writeCrc)]
    ++ [(.mrw, .set (.blast (BitVec.ofNat 2 (regFld s 0x10000 21 20)))), (.mrw, .set (.gear s.glb.gear))]
    ++ [(.mpcZqStart, .none), (.mpcZqLatch, .none)]

/-- Commands to every chip select of a channel, on both sub-channels. -/
def initPut (c : Ch) (l : List (CmdKind × CmdArg)) (s : State) : State :=
  forAll [scA c, scB c] (fun x s => forAll l (fun e s => toChips x e.1 e.2 s) s) s

/-- DIMM_INIT of a channel begins on the bus: DCK runs for tCKSRX before the ranks leave self-refresh (R203). -/
def initWake (c : Ch) (s : State) : State :=
  let ret := (s.glb.ch.get c).retPath
  let s := updCh c (fun h => { h with latch := false, inSr := false }) s
  let s := forAll [scA c, scB c] (fun x s => updSched x (fun q => { q with ck := ckNow s x }) s) s
  initPut c (initFirst ret) (onlyIf ret (dckStart c) s)

/-- A feature that R530 requires is missing on a channel that is excluded for it: the ranks that have left self-refresh
return to it first (R148). -/
def initAsleep (c : Ch) (s : State) : State :=
  onlyIf (s.glb.ch.get c).retPath (fun s => dckStop c (initPut c [(.sre, .none)] s)) s

/-- A chip select that a sparing entry replaces is not used: where it has left self-refresh it goes back (R362). -/
def restReplaced (c : Ch) (s : State) : State :=
  let p := s.ras.spare.get c
  onlyIf (p.st = .inService && (s.glb.ch.get c).retPath) (fun s => forAll [scA c, scB c] (fun x s => rawCmd x .sre p.replaced s) s) s

/-- A channel has every feature: its settings are written, requests of its requesters count, its calendars are built
(R147, R238). -/
def initCh (c : Ch) (differs : Bool) (s : State) : State :=
  let s := updCh c (fun h => { h with released := true, initDone := true }) s
  let s := restReplaced c (initPut c (initCmds s differs) s)
  forAll [scA c, scB c] (fun x s =>
    buildCalendar x (setMask x false (updPwr (fun p => { p with sc := vset p.sc x .active }) s))) s

/-- Hard repairs that the cold path made are noted in the list (R361). (DEDUCED, log 28) -/
def noteHard (c : Ch) (done : List Bool) (s : State) : State :=
  let rows := (entriesOf c s.ras.rpl).filter fun e => decide (fld e.1 30 29 = 0)
  let hit := ((rows.zip done).filter fun e => e.2 && !bitOf e.1.1 28 && regBit s 0x14000 5).map Prod.fst
  updRas (fun a => { a with rpl := a.rpl.map fun e => if hit.contains e then (e.1 ||| 0x10000000, e.2) else e }) s

/-- The first line of a DRAM row (R179). -/
def rowFirst (s : State) (r : PprRow) : Lla :=
  let x8 := isX8 s
  Coord.lla { line := if x8 then 64 * (r.row % 2) else 0, bank := r.bank, bg := r.bg, row := if x8 then r.row / 2 else r.row
              lr := r.lr, cs := r.cs, sub := r.x.val % 2, ch := r.x.val / 2 }

/-- The row of an entry of the repair list (R363). -/
def entryRow (e : Word × Word) : PprRow :=
  let c := chN (fld e.1 27 27)
  ⟨if bitOf e.1 26 then scB c else scA c, fld e.1 25 24, fld e.1 23 20, fld e.1 15 13, fld e.1 12 11, fld e.2 17 0⟩

/-- The repairs of the cold path are reported (R378). (DEDUCED, log 28) -/
def coldRecords (c : Ch) (done : List Bool) (s : State) : State :=
  let rows := (entriesOf c s.ras.rpl).filter fun e => decide (fld e.1 30 29 = 0)
  forAll (rows.zipIdx.filter fun e => !bitOf e.1.1 28) (fun e s =>
    let r := entryRow e.1
    pprRecord r (fld e.1.1 19 16) 0 (done.getD e.2 false && regBit s 0x14000 5) (rowFirst s r)
      (sqSet rRasStatus (pack [(1, 8 + r.x.val)]) s)) s

/-- The repairs of the cold path: a hard one where one was made, a soft one for every other row entry whose hard
repair is not done already (R361). (DEDUCED, log 28) -/
def coldRepairs (c : Ch) (done : List Bool) (s : State) : State :=
  let rows := (entriesOf c s.ras.rpl).filter fun e => decide (fld e.1 30 29 = 0)
  forAll (rows.zipIdx.filter fun e => !bitOf e.1.1 28) (fun e s =>
    let w := e.1.1
    let hard := done.getD e.2 false && regBit s 0x14000 5
    let fix : DevSet := .repair (finOr 9 (fld w 19 16)) hard (BitVec.ofNat 3 (fld w 15 13)) (BitVec.ofNat 2 (fld w 12 11))
      (BitVec.ofNat 18 (fld e.1.2 17 0))
    let d : Cmd := { kind := .mrw, cs := BitVec.ofNat 2 (fld w 25 24), lr := BitVec.ofNat 4 (fld w 23 20), bg := 0, ba := 0
                     row := 0, col := 0, ap := false, arg := .set fix }
    pinOne (if bitOf w 26 then scB c else scA c) d s) s

/-- A lockstep step of every live channel is over. -/
def allInit (s : State) : Bool := (fins 2).all fun c => !chLive s c || (s.glb.ch.get c).initDone

/-- What DIMM_INIT found on a channel that is still in it. -/
def initReport (c : Ch) (r : InitReport) (s : State) : State :=
  let s := onlyIf r.rfmRequired (regPut 0x10000 18 18 1) s
  let cold := !(s.glb.ch.get c).retPath
  onlyIf cold (fun s => noteHard c r.hardDone (coldRecords c r.hardDone (coldRepairs c r.hardDone s))) (initCh c (!cold && r.rcdDiffers) s)

/-- Every feature that R530 marks required is present. -/
def featuresOk (f : Features) : Bool :=
  f.caParity && f.writeCrc && f.sharedAlert && f.directedRefresh && f.rateField && f.multiPurpose && f.readPreamble
    && f.readPatterns && f.writeLeveling && f.selfRefresh && f.powerDown

end Sys2Proof.Machine
end

