-- ==== Sys2Proof/Machine/Power.lean ====
section
/-! DEFINITION. Power states of the sub-channels and DORMANT (15, R482 to R486). -/

namespace Sys2Proof.Machine

def rPwrStatus : Nat := 0x3050

/-- The sub-channel has nothing queued, on the bus or in the ingress stage (R482). (DEDUCED, log 45) -/
def scQuiet (s : State) (x : Sc) : Bool :=
  let q := s.sched.get x
  q.rq.isEmpty && q.wq.isEmpty && q.copy.isEmpty && busDone s x
    && !(s.reqs.any fun r => r.inIngress && scOf r.lla = x)

/-- Work of the refresh requester that does not keep a sub-channel awake (R482). -/
def MntCmd.refreshes (m : MntCmd) : Bool :=
  match m.op with
  | .refSet .. | .rfm .. | .drfm .. => true
  | _ => false

/-- A maintenance requester requests; refresh sets, RFM and DRFM do not count. -/
def mntAsks (s : State) (x : Sc) : Bool :=
  ((s.sched.get x).maint.toList.any fun l => l.any fun m => !m.refreshes) || trainAsks s x

/-- POWER_DOWN_ENTRY: every bank is closed and every chip select enters power-down (R482). -/
def powerDownEntry (x : Sc) (s : State) : State :=
  let q := s.sched.get x
  let idle := busDone s x && q.rq.all RdEnt.issued && q.wq.all WrEnt.issued && q.copy.isEmpty
    && q.maint.toList.all List.isEmpty && !trainAsks s x
  if s.glb.ctl = .service && chLive s (chOf x) && s.pwr.sc.get x = .active && regBit s 0x3000 31 && idle then
    let s := toRanks x .pde false (toRanks x .preAb true s)
    bump 0x3060 (setMask x true (updPwr (fun p => { p with sc := vset p.sc x .powerDown }) s))
  else s

def execPowerDownEntry (sc : Sc) (s : State) : Res := run (powerDownEntry sc) s

/-- SELF_REFRESH_ENTRY: the conditions of R482 have held for PWR_SR_IDLE. -/
def selfRefreshEntry (x : Sc) (s : State) : State :=
  let idle := scQuiet s x && !mntAsks s x && !scrubBehind s x && !(s.ras.fetch.any fun f => f.1 = x)
    && (s.ras.spare.get (chOf x)).st ≠ .copying && s.ras.ppr.isNone
  if s.glb.ctl = .service && chLive s (chOf x) && s.pwr.sc.get x ≠ .selfRefresh && regBit s 0x3000 30 && idle then
    bump 0x3064 (srEnter x s)
  else s

def execSelfRefreshEntry (sc : Sc) (s : State) : Res := run (selfRefreshEntry sc) s

/-- Lines by which the patrol scrub lies behind its pacing target, and the lag that wakes a sub-channel (R483). -/
def scrubLag (s : State) (x : Sc) : Nat :=
  let c := s.ras.scrub.get x
  if c.active && decide (c.t0 ≤ s.glb.now) then scrubTarget s x - c.done else 0
def scrubBatch (s : State) : Nat := 1024 * max 1 (regFld s 0x3008 15 0)

/-- A wake condition of R483 (patrol reads have one of their own): a request in the ingress stage or work in the queues; the scrub's lag; a swatch run, an
oscillator update, a Lifeline save or an MR4 poll that is due; a request of another requester. (DEDUCED, log 45) -/
def srWakes (s : State) (x : Sc) : Bool :=
  (s.reqs.any fun r => r.inIngress && scOf r.lla = x) || !(hostWants (s.sched.get x)).isEmpty
    || decide (scrubBatch s ≤ scrubLag s x) || s.pwr.due.getLsbD x.val || trainAsks s x
    || (s.sched.get x).maint.toList.any fun l => l.any fun m => !m.refreshes && !m.patrols

/-- SELF_REFRESH_WAKE: the exit that a wake condition of R483 asks for is complete.
(DEDUCED, log 24; DEDUCED, log 45) -/
def selfRefreshWake (x : Sc) (s : State) : State :=
  if (s.glb.ctl = .service || (s.glb.ctl = .quiesced && !s.qz.deep)) && chLive s (chOf x) && srWakes s x then srExit x s
  else s

def execSelfRefreshWake (sc : Sc) (s : State) : Res := run (selfRefreshWake sc) s

/-! ### DORMANT (R484, R485) -/

/-- Every condition of R484 but its time. -/
def mayDoze (s : State) : Bool :=
  s.glb.ctl = .service && regBit s 0x3000 29
    && (liveScs s).all (fun x => s.pwr.sc.get x = .selfRefresh)
    && s.reqs.isEmpty && s.egp.waiting.isEmpty && s.egp.slots.all (fun e => e.2.live.isNone)
    && s.glg.inst.toList.all (fun a => a.job.isNone && a.queue.isEmpty && a.chained.isNone)
    && s.img.rl.st = .idle && s.phy.gearPending.isNone && s.phy.gearWait.isNone && s.ras.ppr.isNone && s.ras.pprWait.isEmpty
    && s.ras.spare.toList.all (fun p => p.st ≠ .copying) && s.alert.toList.all (fun a => !a.recovering) && !mirEn s
    && (s.qz.ph = .idle || s.qz.ph = .ended)

/-- DORMANT_ENTRY: hold rises and the fast clocks stop. -/
def dormantEntry (s : State) : State :=
  if mayDoze s then
    let s := updGlb (fun g => { g with coreRun := false }) (enter .dormant (updPwr (fun p => { p with dormantAt := s.glb.now }) s))
    sqSet rPwrStatus 0x2 (bump 0x3068 s)
  else s

def execDormantEntry (s : State) : Res := run dormantEntry s

/-- A wake starts, unless one is in progress. -/
def startWake (s : State) : State :=
  if s.pwr.waking then s else updGlb (fun g => { g with pllTries := 0 }) (updPwr (fun p => { p with waking := true }) s)

/-- DORMANT_TIMER_EXPIRY: PWR_DORMANT_MAX_MS after entry, unless it is 0. -/
def dormantTimer (s : State) : State :=
  if s.glb.ctl = .dormant && regFld s 0x3004 15 0 ≠ 0 then startWake s else s

def execDormantTimerExpiry (s : State) : Res := run dormantTimer s

end Sys2Proof.Machine
end

