-- ==== Sys2Proof/Machine/ReadData.lean ====
section
/-! DEFINITION. READ_DECODE: captured data of the reads that have no command of their own (07 R187, R209; 10 R312;
11 R359; 14 R453). -/

namespace Sys2Proof.Machine

/-- Reads whose data READ_DECODE captures. -/
def Origin.isRead : Origin → Bool
  | .host _ | .gliog _ _ _ | .swatch _ | .repair _ => true
  | _ => false

/-- READ_DECODE: the oldest awaited read of the host, of Gliog, of a swatch run or of a row repair is captured. -/
def readDecode (x : Sc) (rx : Capture) (s : State) : State :=
  match takeTag x Origin.isRead s with
  | none => s
  | some (t, s) =>
    match t.origin with
    | .host id => hostRead x t id rx s
    | .gliog i k _ => glgData x t i k rx s
    | .swatch k => swatchRead x t k rx s
    | .repair _ => repairRead x t rx s
    | _ => s

def execReadDecode (sc : Sc) (rx : Capture) (s : State) : Res := run (readDecode sc rx) s

end Sys2Proof.Machine
end

