-- ==== Sys2Proof/Machine/Operands.lean ====
section
/-! DEFINITION. The operands of a register-port access: windows, aliases, pages and blocks (02). -/

namespace Sys2Proof

/-- The byte address of an access within its window. -/
def RegAcc.byte (a : RegAcc) : Nat := 4 * a.addr.toNat
/-- The offset of the register: pages of the instance window lie from 0x10_0000 in this model. -/
def RegAcc.off (a : RegAcc) : Nat := if a.win then 0x100000 + a.byte else a.byte % 0x40000
/-- The alias; the instance window has none. -/
def RegAcc.alias_ (a : RegAcc) : Nat := if a.win then 0 else a.byte / 0x40000
/-- The access is allowed (R36). -/
def RegAcc.allowed (a : RegAcc) : Bool := a.win || a.priv
/-- The block lies in the always-on island: GLB, EVT or PWR (01). (DEDUCED, log 10) -/
def RegAcc.aon (a : RegAcc) : Bool := !a.win && decide (Machine.blockOf a.off ≤ 2)
/-- The target is a PP register. -/
def RegAcc.isPp (a : RegAcc) : Bool := (Machine.rowOf a.off).any fun r => r.kind = .pp
/-- The write wakes a dormant controller (R28, R44, R485). (DEDUCED, log 10) -/
def RegAcc.wakes (a : RegAcc) : Bool := !a.aon || a.isPp

end Sys2Proof

namespace Sys2Proof.Machine

/-- A write to the register window at a byte offset. (DESIGN CHOICE, log 12) -/
def winAcc (priv : Bool) (off : Nat) (w : Word) : RegAcc := ⟨false, priv, BitVec.ofNat 18 (off / 4), w⟩

/-- A write to a page of an instance: tenants have theirs in the instance window. (DESIGN CHOICE, log 12) -/
def pageAcc (i : InstId) (priv : Bool) (reg : Nat) (w : Word) : RegAcc :=
  if i.val < 64 then ⟨true, priv, BitVec.ofNat 18 ((0x1000 * i.val + reg) / 4), w⟩ else winAcc priv (0x31000 + reg) w

/-- The instance whose page holds this offset. (DESIGN CHOICE, log 12) -/
def pageInst (off : Nat) : InstId :=
  if off < 0x100000 then 64 else ⟨(off - 0x100000) / 0x1000 % 64, by omega⟩

end Sys2Proof.Machine
end

