-- ==== Sys2Proof/Machine/RegPort.lean ====
section
/-! DEFINITION. Writes on the register port (02): the types of registers, aliases, protected pairs, and
the data ports that are not a family's own. A row of the table that is a write of one register is that
write, given by its data. -/

namespace Sys2Proof.Machine

/-! ### The partition table window (09) -/

/-- The field bits of words 0 to 7 of a partition entry. (DESIGN CHOICE, log 11) -/
def qptMask (k : Nat) : Word :=
  if k = 0 then 0xFCFF3F1F else if k = 3 ∨ k = 4 ∨ k = 6 then 0x00FFFFFF else if k = 7 then 0x3FFF else 0xFFFFFFFF

/-- Word k of the entry of a partition (09, "Partition entry"). -/
def qptWord (s : State) (label k : Nat) : Word :=
  let p := partOf s label
  match k with
  | 8 => BitVec.ofNat 32 (p.tc / 2 ^ 12)
  | 9 => BitVec.ofNat 32 (p.tp / 2 ^ 12)
  | 10 => BitVec.ofInt 32 (p.ts / 2 ^ 18)
  | 11 => pack [(b2n p.parked.isSome, 31), (p.missRun, 11),
      ((s.reqs.filter fun r => r.inIngress && r.part.toNat = label).length, 0)]
  | 12 => p.green
  | 13 => p.yellow
  | 14 => p.red
  | 15 => p.misses
  | k => p.cfg.toList.getD k 0

/-- An access to QPT_DATA moves word QPT_INDEX and advances the index, up to 16 (R51).
(DESIGN CHOICE, log 11) -/
def qptData (w : Option Word) (s : State) : Word × State :=
  let k := regFld s 0xA000 4 0
  if 16 ≤ k then (0, s)
  else
    let v := qptWord s (regFld s 0xA004 11 0) k
    let s := regSet 0xA000 (BitVec.ofNat 32 (k + 1)) s
    match w with
    | none => (v, s)
    | some w => (0, updQos (fun q => { q with staging := q.staging.setIfInBounds k (w &&& qptMask k) }) s)

/-- The labels that have an entry of their own, with the words in force. -/
def qptEntries (s : State) : List (Nat × Vector Word 8) := s.qos.parts.map fun e => (e.1, e.2.cfg)

/-- The configured words of every partition once `label` has the words w. -/
def qptWith (s : State) (label : Nat) (w : Vector Word 8) : List (Vector Word 8) :=
  w :: ((if label ≠ 0 ∧ (kfind s.qos.parts 0).isNone then [(partOf s 0).cfg] else [])
    ++ ((qptEntries s).filter fun e => e.1 ≠ label).map Prod.snd)

/-- QPT_STATUS after a commit. (DESIGN CHOICE, log 11) -/
def qptStatus (code label : Nat) (s : State) : State :=
  let pend := s.qos.pendingQpt.isSome || !s.qos.pendingMore.isEmpty
  regSet 0xA018 (pack [(b2n pend, 31), (code, 28), (label, 0)]) s

/-- A confirmed QPT_COMMIT: the staged words are validated and become pending (R286, R288).
(DESIGN CHOICE, log 11) -/
def actQpt (v : Word) (s : State) : State :=
  let label := fld v 11 0
  let w := s.qos.staging
  if !bitOf v 31 then s
  else if s.qos.pendingQpt.isSome || !s.qos.pendingMore.isEmpty then qptStatus 7 label s
  else if partCode label w ≠ 0 then qptStatus (partCode label w) label s
  else if !sharesOk (qptWith s label w) then qptStatus 6 label s
  else qptStatus 1 label (updQos (fun q => { q with pendingQpt := some (BitVec.ofNat 12 label, w) }) s)

/-! ### The map probe (06, R184) -/

/-- The outcome of a probe: outcome code, window, and the 64-bit answer. -/
def probeOf (s : State) (v : Nat) (back : Bool) : Nat × Nat × Nat :=
  if back then
    let l : Lla := BitVec.ofNat 38 v
    let b := addrBlock s l
    let ab := (b.getD 0 0).toNat + 2 ^ 32 * (b.getD 1 0).toNat
    match rev s l with
    | .valid n a => (0, n, 64 * a)
    | .carveOut => (1, 0, ab)
    | .unpopulated => (2, 0, ab)
    | .uncovered => (3, 0, ab)
  else
    match fwd s (BitVec.ofNat 50 (v / 64)) with
    | .owned n _ d => (0, n, (llaOf s d).toNat)
    | .noWindow => (1, 0, 0)
    | .otherWay n => (2, n, 0)

/-- A write to MAP_PROBE_IN_HI runs the probe (R48, R184). (DEDUCED, log 47) -/
def actMapProbe (s : State) : State :=
  let h := regGet s 0x12044
  let r := probeOf s ((regGet s 0x12040).toNat + 2 ^ 32 * fld h 23 0) (bitOf h 31)
  regSet 0x12050 (pack [(1, 31), (r.2.1, 16), (r.1, 0)]) (regSet64 0x12048 r.2.2 s)

/-! ### Data ports -/

/-- A write to a data port; read-only ports ignore it (R51). -/
def portStore (off : Nat) (w : Word) (s : State) : State :=
  if off = 0xA008 then (qptData (some w) s).2
  else if off = 0x30024 then (stateData (some w) s).2
  else if off % 0x1000 = 0x008 ∧ (off = 0x31008 ∨ 0x100000 ≤ off) then (descData (pageInst off) (some w) s).2
  else s

/-- A write to a write-only register that is no companion. -/
def woStore (off : Nat) (w : Word) (s : State) : State :=
  if off = 0x200C then onlyIf (bitOf w 0) evtFlush s
  else if off = 0x30050 then actRearm w s
  else if off % 0x1000 = 0x00C then actDoorbell (pageInst off) w s
  else if off % 0x1000 = 0x028 then actGlgCtl (pageInst off) w s
  else s

/-! ### Plain registers -/

/-- The rule set of the protection unit that an offset lies in may be written: it is the standby set
and no swap is pending (R479). -/
def puLocked (s : State) (off : Nat) : Bool :=
  decide (0x30800 ≤ off ∧ off < 0x30A00) && (s.glg.swapPending || decide (b2n s.glg.activeSet = (off - 0x30800) / 0x100))

/-- The value that a write of w at an alias leaves (02, "Aliases"). -/
def aliased (al : Nat) (v w : Word) : Word :=
  match al with
  | 1 => v ||| w
  | 2 => v &&& ~~~w
  | 3 => v ^^^ w
  | _ => w

/-- What follows the write of a plain register. -/
def afterStore (off : Nat) (s : State) : State :=
  if off = 0x20000 then phyCtlWritten s
  else if off = 0x20040 then llSelect (regGet s 0x20040) s
  else if off = 0x12044 then actMapProbe s
  else if off = 0x30200 then actProbe (regGet s 0x30200) s
  else if off = 0xA004 then regSet 0xA000 0 s
  else if off = 0x8140 then panicUpdate s
  else if wideHalf off && off ≠ wideLow off then wideSync off s
  else s

/-- A plain register takes its value; reserved bits stay. -/
def rwStore (r : RegRow) (off al : Nat) (w : Word) (s : State) : State :=
  if puLocked s off then s
  else
    let v := regGet s off
    afterStore off (regSet off ((v &&& ~~~r.mask) ||| (aliased al v w &&& r.mask)) s)

/-! ### Protected pairs (R43 to R46) -/

/-- PROTECT_FAULT. -/
def protectFault (reason off : Nat) (v : Word) (s : State) : State :=
  raise 0x1E 0 0 [pack [(reason, 28), (off, 0)], v] s

/-- The pending value is discarded for a reason that names it. -/
def discardPp (reason : Nat) (p : PpPend) (v : Word) (s : State) : State :=
  protectFault reason p.off v { s with pp := none }

/-- The window of a pending value has passed (R43, R44). (DESIGN CHOICE, log 9) -/
def ppLate (s : State) (p : PpPend) : Bool :=
  if p.inCc then decide (p.at_ + 64 < s.glb.cc) else decide (p.at_ + 4 < s.glb.now)

/-- A value whose window has passed is discarded with reason 1 (R45). (DESIGN CHOICE, log 9) -/
def ppExpire (s : State) : State :=
  match s.pp with
  | some p => if ppLate s p then discardPp 1 p p.val s else s
  | none => s

/-- A write to a PP register: the value becomes pending (R43, R45). Its window is counted in cc while the
core clock runs and as 4 ac wherever it stands: R44 says so of steps 0x01 to 0x04 and of an early HALTED, and
the model takes the same count in every other state in which the clock stands (HELD, step 0x05 before PLL
lock) and for PP registers of PWR. (DESIGN CHOICE, log 49) -/
def ppStore (off : Nat) (v : Word) (s : State) : State :=
  let s := ppExpire s
  if regBit s 0x20 (blockOf off) then protectFault 4 off v s
  else
    let s := match s.pp with
      | some p => if p.off = off then s else discardPp 5 p p.val s
      | none => s
    { s with pp := some ⟨off, v, if s.glb.coreRun then s.glb.cc else s.glb.now, s.glb.coreRun⟩ }

/-- What a committed value starts. -/
def ppAction (off : Nat) (old v : Word) (s : State) : State :=
  if off = 0xA010 then actQpt v s
  else if off = 0x1400C then actScrubCfg old s
  else if off = 0x20028 then actGearReq v s
  else if off = 0x14020 then actRasReq v s
  else if off = 0x38000 then actDbg v s
  else if off = 0x6020 then actMirCtl v s
  else if off = 0x4020 then actReload v s
  else if off = 0x4034 then actBcast v s
  else if off = 0x30010 then actMbox v s
  else if off = 0x30030 then actSwap v s
  else s

/-- The field bits of a register. -/
def maskOf (off : Nat) : Word :=
  match rowOf off with
  | some r => r.mask
  | none => 0

/-- A confirmed value takes effect. GLB_LOCK bits are set and never cleared (R55); PHY_SWATCH_REQ holds its
requests until they start (10); DBG_OP ignores what is written while an operation runs (R227). -/
def ppCommit (off : Nat) (v : Word) (s : State) : State :=
  let old := regGet s off
  if off = 0x20 then regSet off (old ||| (v &&& maskOf off)) s
  else if off = 0x38000 ∧ s.ras.dbg.isSome then s
  else if off = 0x20020 then actSwatchReq v s
  else ppAction off old v (regSet off (v &&& maskOf off) s)

/-- A write to the companion of the PP register at `off` (R43, R45). -/
def ppAnswer (off : Nat) (v : Word) (s : State) : State :=
  let s := ppExpire s
  match s.pp with
  | none => protectFault 3 off v s
  | some p =>
    if p.off ≠ off then discardPp 6 p v s
    else if v = ~~~p.val then ppCommit off p.val { s with pp := none }
    else discardPp 2 p p.val s

/-! ### A write -/

/-- A write of w to the register at `off` through an alias; only plain registers have aliases (R38).
(DESIGN CHOICE, log 9) -/
def regWrite (off al : Nat) (w : Word) (s : State) : State :=
  match rowOf off with
  | none => s
  | some r =>
    match r.kind with
    | .rw => rwStore r off al w s
    | .wd => onlyIf (al == 0) (rwStore r off 0 w) s
    | .sq => onlyIf (al == 0) (sqClear off w) s
    | .pp => onlyIf (al == 0) (ppStore off w) s
    | .ppc => onlyIf (al == 0) (ppAnswer (off - 4) w) s
    | .wo => onlyIf (al == 0) (woStore off w) s
    | .port => onlyIf (al == 0) (portStore off w) s
    | .ro | .cfg | .live => s

/-- The write is answered and has no effect: outside GLB and EVT until SERVICE_ENTRY completes (R139), and
in the core island while it is off in HELD. (DEDUCED, log 10) -/
def inert (s : State) (a : RegAcc) : Bool :=
  (!s.glb.served && (a.win || decide (1 < blockOf a.off))) || (s.glb.ctl = .held && !a.aon)

/-- An accepted write takes effect and is answered (R33, R34). (DEDUCED, log 10) -/
def writeNow (a : RegAcc) (s : State) : State :=
  respOk 0 (if inert s a then s else regWrite a.off a.alias_ a.data s)

/-- A write on the register port. -/
def portWrite (a : RegAcc) (s : State) : State :=
  if !portReady s then s
  else if !a.allowed then emit (.reg 1 0) s
  else if s.glb.ctl = .dormant && a.wakes then startWake (updPwr (fun p => { p with deferred := p.deferred ++ [a] }) s)
  else writeNow a s

/-- A read of a data port: `f` gives the word and moves the port on. (DEDUCED, log 10) -/
def portRead (allowed : Bool) (f : State → Word × State) (s : State) : State :=
  if !portReady s then s
  else if !allowed then emit (.reg 1 0) s
  else imagePort (fun s => respOk (f s).1 (f s).2) s

/-! ### Rows that are the write of one register -/

def execRegisterWrite (a : RegAcc) (s : State) : Res := run (portWrite a) s
def execSqWrite (a : RegAcc) (s : State) : Res := run (portWrite a) s
def execPpWrite (a : RegAcc) (s : State) : Res := run (portWrite a) s
def execIndexWrite (a : RegAcc) (s : State) : Res := run (portWrite a) s

/-- A PP register's window ends without a companion write (R45). (DESIGN CHOICE, log 9) -/
def ppWindowExpiry (s : State) : State :=
  match s.pp with
  | some p => discardPp 1 p p.val s
  | none => s

def execPpWindowExpiry (s : State) : Res := run ppWindowExpiry s

def execQptRdSelWrite (priv : Bool) (data : Word) (s : State) : Res := run (portWrite (winAcc priv 0xA004 data)) s
def execPhyLlSelWrite (priv : Bool) (data : Word) (s : State) : Res := run (portWrite (winAcc priv 0x20040 data)) s
def execMapProbe (priv : Bool) (data : Word) (s : State) : Res := run (portWrite (winAcc priv 0x12044 data)) s
def execGlgProbe (priv : Bool) (data : Word) (s : State) : Res := run (portWrite (winAcc priv 0x30200 data)) s
def execPvRearmPrecise (priv : Bool) (data : Word) (s : State) : Res := run (portWrite (winAcc priv 0x30050 data)) s
def execPvRearmImprecise (priv : Bool) (data : Word) (s : State) : Res := run (portWrite (winAcc priv 0x30050 data)) s
def execGlgIDoorbell (i : InstId) (priv : Bool) (data : Word) (s : State) : Res :=
  run (portWrite (pageAcc i priv 0x0C data)) s
def execGlgIAbort (i : InstId) (priv : Bool) (data : Word) (s : State) : Res :=
  run (portWrite (pageAcc i priv 0x28 data)) s
def execGlgIFlush (i : InstId) (priv : Bool) (data : Word) (s : State) : Res :=
  run (portWrite (pageAcc i priv 0x28 data)) s

/-! ### Rows that are accesses to data ports -/

def execQptDataAccess (a : PortAcc) (s : State) : Res :=
  match a.data with
  | none => run (portRead a.priv (qptData none)) s
  | some w => run (portWrite (winAcc a.priv 0xA008 w)) s

def execGlgStateDataAccess (a : PortAcc) (s : State) : Res :=
  match a.data with
  | none => run (portRead a.priv (stateData none)) s
  | some w => run (portWrite (winAcc a.priv 0x30024 w)) s

def execGlgIDescDataAccess (i : InstId) (a : PortAcc) (s : State) : Res :=
  match a.data with
  | none => run (portRead (!isMgr i || a.priv) (descData i none)) s
  | some w => run (portWrite (pageAcc i a.priv 0x08 w)) s

def execGlgICplDataRead (i : InstId) (priv : Bool) (s : State) : Res := run (portRead (!isMgr i || priv) (cplData i)) s

def execPhyLlDataRead (priv : Bool) (s : State) : Res := run (onPort priv (imagePort llRead)) s

/-- A read of RAS_RPL_DATA: a word of the repair list, 0 past its end (R363). -/
def rplData (s : State) : Word × State :=
  let k := regFld s 0x140B0 9 0
  if 512 ≤ k then (0, s)
  else
    let e := s.ras.rpl.getD (k / 2) (0, 0)
    (if k % 2 = 0 then e.1 else e.2, regSet 0x140B0 (BitVec.ofNat 32 (k + 1)) s)

def execRasRplDataRead (priv : Bool) (s : State) : Res := run (portRead priv rplData) s

/-! ### Rows that are the confirmation of a protected register -/

/-- A write of `data` to the companion of `off`, as the row whose committed values satisfy `own`: the commit
of another row's operation is not this row's event. (DESIGN CHOICE, log 9) -/
def confirmRow (off : Nat) (own : Word → Bool) (priv : Bool) (data : Word) (s : State) : State :=
  if s.pp.any fun p => decide (p.off = off ∧ data = ~~~p.val) && !own p.val then s else portWrite (winAcc priv (off + 4) data) s

/-- The value names operation k in [31:28]. -/
def opIs (k : Nat) (v : Word) : Bool := fld v 31 28 == k
/-- The value names operation k of IMG_BCAST in [31:30]. -/
def bcastIs (k : Nat) (v : Word) : Bool := fld v 31 30 == k
/-- Any value. -/
def opAny (_ : Word) : Bool := true

/-- The value at a PP register belongs to a row of the table of its own. -/
def hasRow (off : Nat) (v : Word) : Bool :=
  let op := fld v 31 28
  off = 0x20 || off = 0xA010 || off = 0x20020 || off = 0x20028 || off = 0x1400C || off = 0x4020 || off = 0x30030
    || (off = 0x14020 && decide (1 ≤ op ∧ op ≤ 3)) || (off = 0x38000 && decide (1 ≤ op ∧ op ≤ 2))
    || (off = 0x6020 && decide (1 ≤ op ∧ op ≤ 4)) || (off = 0x30010 && decide (1 ≤ op ∧ op ≤ 8))
    || (off = 0x4034 && decide (1 ≤ fld v 31 30 ∧ fld v 31 30 ≤ 2))

/-- PP_CONFIRM: any companion write that does not commit a value with a row of its own.
(DESIGN CHOICE, log 9) -/
def ppConfirm (a : RegAcc) (s : State) : State :=
  if s.pp.any fun p => decide (p.off + 4 = a.off ∧ a.data = ~~~p.val) && hasRow p.off p.val then s else portWrite a s

def execPpConfirm (a : RegAcc) (s : State) : Res := run (ppConfirm a) s
def execGlbLockSet (priv : Bool) (data : Word) (s : State) : Res := run (confirmRow 0x20 opAny priv data) s
def execQptCommit (priv : Bool) (data : Word) (s : State) : Res := run (confirmRow 0xA010 opAny priv data) s
def execSwatchReq (priv : Bool) (data : Word) (s : State) : Res := run (confirmRow 0x20020 opAny priv data) s
def execGearReq (priv : Bool) (data : Word) (s : State) : Res := run (confirmRow 0x20028 opAny priv data) s
def execScrubCfgCommit (priv : Bool) (data : Word) (s : State) : Res := run (confirmRow 0x1400C opAny priv data) s
def execSoftRepairReq (priv : Bool) (data : Word) (s : State) : Res := run (confirmRow 0x14020 (opIs 1) priv data) s
def execSparingReq (priv : Bool) (data : Word) (s : State) : Res := run (confirmRow 0x14020 (opIs 2) priv data) s
def execClearCounters (priv : Bool) (data : Word) (s : State) : Res := run (confirmRow 0x14020 (opIs 3) priv data) s
def execDbgReadLine (priv : Bool) (data : Word) (s : State) : Res := run (confirmRow 0x38000 (opIs 1) priv data) s
def execDbgMrr (priv : Bool) (data : Word) (s : State) : Res := run (confirmRow 0x38000 (opIs 2) priv data) s
def execMirRotate (priv : Bool) (data : Word) (s : State) : Res := run (confirmRow 0x6020 (opIs 1) priv data) s
def execMirBreak (priv : Bool) (data : Word) (s : State) : Res := run (confirmRow 0x6020 (opIs 2) priv data) s
def execMirRejoin (priv : Bool) (data : Word) (s : State) : Res := run (confirmRow 0x6020 (opIs 3) priv data) s
def execMirTakeover (priv : Bool) (data : Word) (s : State) : Res := run (confirmRow 0x6020 (opIs 4) priv data) s
def execImgReload (priv : Bool) (data : Word) (s : State) : Res := run (confirmRow 0x4020 opAny priv data) s
def execImgBcastReload (priv : Bool) (data : Word) (s : State) : Res := run (confirmRow 0x4034 (bcastIs 1) priv data) s
def execImgBcastWithdraw (priv : Bool) (data : Word) (s : State) : Res := run (confirmRow 0x4034 (bcastIs 2) priv data) s
def execMboxAssign (priv : Bool) (data : Word) (s : State) : Res := run (confirmRow 0x30010 (opIs 1) priv data) s
def execMboxUnassign (priv : Bool) (data : Word) (s : State) : Res := run (confirmRow 0x30010 (opIs 2) priv data) s
def execMboxAbort (priv : Bool) (data : Word) (s : State) : Res := run (confirmRow 0x30010 (opIs 3) priv data) s
def execMboxFreeze (priv : Bool) (data : Word) (s : State) : Res := run (confirmRow 0x30010 (opIs 4) priv data) s
def execMboxThaw (priv : Bool) (data : Word) (s : State) : Res := run (confirmRow 0x30010 (opIs 5) priv data) s
def execMboxSave (priv : Bool) (data : Word) (s : State) : Res := run (confirmRow 0x30010 (opIs 6) priv data) s
def execMboxRestore (priv : Bool) (data : Word) (s : State) : Res := run (confirmRow 0x30010 (opIs 7) priv data) s
def execMboxNotify (priv : Bool) (data : Word) (s : State) : Res := run (confirmRow 0x30010 (opIs 8) priv data) s
def execGlgPuSwap (priv : Bool) (data : Word) (s : State) : Res := run (confirmRow 0x30030 opAny priv data) s

end Sys2Proof.Machine
end

