-- ==== Sys2Proof/Machine/Thermal.lean ====
section
/-! DEFINITION. The thermal loop and the telemetry (15, R488 to R493, R539; 08, R240). -/

namespace Sys2Proof.Machine

/-- u is delivered to the ingress stage as QOS_T_NEXT (R493). -/
def deliverU (u : Nat) (s : State) : State := regPut 0x9010 26 16 u s

/-- PWR_T_FLOOR. -/
def tFloor (s : State) : Nat := regFld s 0x3014 10 0

/-- A reading with its channel, slot and sensor. -/
structure Reading where
  t : Int
  ch : Nat
  slot : Nat
  sensor : Nat
  deriving DecidableEq, Repr

/-- The readings of a slot: its valid sensors, or the failsafe temperature (R488, R489). -/
def slotReadings (s : State) (c : Ch) (k : Fin 2) : List Reading :=
  let p := slotAt s c k
  if p.failsafe then [⟨16 * regFld s 0x3014 31 24, c.val, k.val, 0⟩]
  else (p.sensors.toList.zipIdx.filter fun z => z.1.found && z.1.valid).map fun z => ⟨z.1.temp.toInt, c.val, k.val, z.2⟩

/-- The readings of the channels in service. -/
def readings (s : State) : List Reading :=
  ((fins 2).filter (chLive s)).flatMap fun c => (fins 2).flatMap (slotReadings s c)

/-- The hottest reading, the first of equals. -/
def hottest (r : Reading) (l : List Reading) : Reading := l.foldl (fun a b => if a.t < b.t then b else a) r

/-- THERMAL_CRITICAL (R502). (DEDUCED, log 46) -/
def criticalRecord (left : Bool) (r : Reading) (s : State) : State :=
  raise 0x13 3 7 [pack [(b2n left, 28), (s.pwr.tMax.toNat, 0)], pack [(r.ch, 5), (r.slot, 4), (r.sensor, 2)]] s

/-- The loop becomes critical (R492). -/
def becomeCritical (r : Reading) (s : State) : State :=
  if s.pwr.critical then s
  else
    let s := sqSet rPwrStatus 0x10 (updPwr (fun p => { p with critical := true }) s)
    criticalRecord false r (deliverU (tFloor s) s)

/-- The refresh requester reads mode register 4 of every chip select and logical rank of a sub-channel (R240). -/
def mr4Reads (x : Sc) (s : State) : State :=
  forAll ((List.range (nUnits s)).filter fun u => csLive s (chOf x) (u / nLr s)) (fun u s =>
    let o : MntOp := .mode .mrr (BitVec.ofNat 2 (u / nLr s)) (BitVec.ofNat 4 (u % nLr s)) (.get (.addr 4))
    if ((s.sched.get x).maint.get 0).any fun m => m.op = o then s else mntAdd x 0 o s) s

/-- The higher of two refresh-rate fields. -/
def mr4Top (a b : Mr4Rate) : Mr4Rate :=
  match a, b with
  | .above2, _ | _, .above2 => .above2
  | .x2, _ | _, .x2 => .x2
  | _, _ => .x1

/-- MR4_POLL: a poll of a channel begins; `r` is what it reads. A field above 2× is a critical reading of its slot (R240).
A poll that falls due in self-refresh wakes the ranks (R483). (DESIGN CHOICE, log 40; DEDUCED, log 46) -/
def mr4Poll (c : Ch) (r : Mr4Poll) (s : State) : State :=
  let asleep := s.pwr.sc.get (scA c) = .selfRefresh || s.pwr.sc.get (scB c) = .selfRefresh
  if !chLive s c || !s.glb.coreRun then s
  else if asleep then dueAsleep (scB c) (dueAsleep (scA c) s)
  else
    let top := mr4Top r.slot0 r.slot1
    let s := updRef (fun a => { a with mr4 := vset a.mr4 c top }) (mr4Reads (scB c) (mr4Reads (scA c) s))
    if top = .above2 then becomeCritical ⟨0, c.val, if r.slot0 = .above2 then 0 else 1, 3⟩ s else s

def execMr4Poll (ch : Ch) (r : Mr4Poll) (s : State) : Res := run (mr4Poll ch r) s

/-! ### THERMAL_POLL -/

/-- The sensors of a slot after a poll: one without a reading since the last poll is invalid (R489). -/
def pollSensors (p : Slot) : Slot :=
  { p with sensors := p.sensors.map fun z => { z with valid := z.valid && z.fresh, fresh := false } }

/-- The poll of a slot: invalid readings are counted; failsafe after three polls without one, left at the
first valid one (R489). (DEDUCED, log 46) -/
def pollSlot (c : Ch) (k : Fin 2) (s : State) : State :=
  let p := pollSensors (slotAt s c k)
  let found := p.sensors.toList.filter Sensor.found
  let bad := found.filter fun z => !z.valid
  let dead := !found.isEmpty && bad.length == found.length
  let n := if dead then p.invalidPolls + 1 else 0
  let fs := dead && (p.failsafe || decide (3 ≤ n))
  let s := bumpBy bad.length 0x3074 (updSlot c k (fun _ => { p with invalidPolls := n, failsafe := fs }) s)
  if fs && !p.failsafe then throttleRecord 2 (tNow s) c.val k.val (sqSet rPwrStatus 0x20 s)
  else if !fs && p.failsafe then throttleRecord 3 (tNow s) c.val k.val s
  else s

/-- A 32-bit signed value at its limits. -/
def sat32 (z : Int) : Int := max (-2147483648) (min 2147483647 z)

/-- The law of R491: the integral and u after a poll with t_max t. -/
def thermalLaw (kp ki target floor : Nat) (i t : Int) : Int × Nat :=
  let e : Int := t - 16 * target
  let cand := sat32 (i + ki * e)
  let p : Int := 1024 - kp * e / 256
  let v := p - cand / 65536
  let held := (v < (floor : Int) ∧ 0 < e) ∨ (1024 < v ∧ e < 0)
  let w := if held then p - i / 65536 else v
  (if held then i else cand, (min (max w floor) 1024).toNat)

/-- No channel in service reports a critical MR4 reading. -/
def mr4Calm (s : State) : Bool := (fins 2).all fun c => !chLive s c || s.ref.mr4.get c ≠ .above2

/-- Critical at or above PWR_T_CRIT; left below PWR_T_CRIT less the hysteresis (R492). -/
def judgeCritical (r : Reading) (s : State) : State :=
  let crit : Int := 16 * regFld s 0x3010 23 16
  let out : Int := crit - 16 * regFld s 0x3010 15 12
  if crit ≤ r.t then becomeCritical r s
  else if s.pwr.critical && decide (r.t < out) && mr4Calm s then
    criticalRecord true r (updPwr (fun p => { p with critical := false }) s)
  else s

/-- A poll with readings. -/
def pollLaw (r : Reading) (s : State) : State :=
  let s := judgeCritical r (updPwr (fun p => { p with tMax := BitVec.ofInt 16 r.t }) s)
  let (i, u) := thermalLaw (regFld s 0x3018 31 16) (regFld s 0x3018 15 0) (regFld s 0x3010 31 24) (tFloor s) s.pwr.integ r.t
  let u := if s.pwr.critical then tFloor s else u
  let s := updPwr (fun p => { p with integ := i, u := u }) s
  deliverU u (onlyIf (decide (u < 1024)) (bump 0x3078) s)

/-- The sensors of a slot that SIDEBAND found. -/
def foundSensors (p : Slot) : List I3cDev :=
  ([.hub, .ts0, .ts1].filter fun x => (p.sensors.get (sensorIx x)).found).map .sensor

/-- Reads go out to every slot of the sidebands that the controller owns. -/
def readSlots (f : Slot → List I3cDev) (s : State) : State :=
  forAll ((fins 2).filter (busOwned s)) (fun c s => forAll (fins 2) (fun k s => i3cRead c k (f (slotAt s c k)) s) s) s

/-- THERMAL_POLL: the readings of the poll are complete (R488 to R492), and the reads of the next one go out. Without a
valid one t_max is undefined and the loop skips the poll (R539). (DESIGN CHOICE, log 40) -/
def thermalPoll (s : State) : State :=
  if !(fins 2).any (busOwned s) then s
  else
    let s := readSlots foundSensors (forAll ((fins 2).filter (busOwned s)) (fun c s => forAll (fins 2) (pollSlot c) s) s)
    match readings s with
    | [] => nextFree (updPwr (fun p => { p with tMax := Config.free16 s.free }) s)
    | r :: l => pollLaw (hottest r l) s

def execThermalPoll (s : State) : Res := run thermalPoll s

/-- PMIC_POLL: the power telemetry of each DIMM (R490); the reads of the next poll go out. (DEDUCED, log 46;
DESIGN CHOICE, log 40) -/
def pmicPoll (s : State) : State :=
  readSlots (fun _ => [.pmic]) <| updGlb (fun g => { g with slot := g.slot.map fun p =>
    match p.pmicNew with
    | some v => { p with pmic := v, pmicValid := true, pmicNew := none }
    | none => { p with pmicValid := false } }) s

def execPmicPoll (s : State) : Res := run pmicPoll s

end Sys2Proof.Machine
end

