-- ==== Sys2Proof/Machine/Train.lean ====
section
/-! DEFINITION. Training at Cast-On, what the retention path reads back, CARVE_OUT and SERVICE_ENTRY (05,
R149 to R162; 10, R311, R319 to R321; 11 R362; 12 R398, R407). -/

namespace Sys2Proof.Machine

/-! ### Gears and chip selects (R149, R150) -/

/-- Gears in ascending order of data rate. -/
def gearsUp (s : State) : List Gear :=
  (List.range 32).flatMap fun r => ((gearList (image s)).map gearN).filter fun g => decide (rateOf s g = r)

/-- The spare of a channel is trained with the others unless it is in service; it has the number after the
last chip select. -/
def spareTrains (s : State) (c : Ch) : Bool :=
  ((ownProfile s).spareCs c.val).isSome && (s.ras.spare.get c).st ≠ .inService && !(s.glb.ch.get c).offline.getLsbD (nCs s)
def csTrain (s : State) (c : Ch) : List Nat :=
  (List.range (nCs s)).filter (csLive s c) ++ (if spareTrains s c then [nCs s] else [])

def updTrain (x : Sc) (f : Train → Train) (s : State) : State := updGlb (fun g => { g with train := vmod g.train x f }) s
def trainOf (s : State) (x : Sc) : Train := s.glb.train.get x

/-- The number of chip select k of a sub-channel on its bus. -/
def csPhys (s : State) (c : Ch) (k : Nat) : Nat := if k < nCs s then k else ((ownProfile s).spareCs c.val).getD 0

/-- A Lifeline record is that of a channel and gear, for the fuses, the modules and the rate of this one (R154, R327). -/
def llMatches (s : State) (c : Ch) (g : Gear) (r : List Word) : Bool :=
  lifelineOk r && decide (fld (r.getD 0 0) 31 16 = 1 ∧ fld (r.getD 0 0) 8 8 = c.val ∧ fld (r.getD 0 0) 7 6 = g.val
    ∧ (r.getD 1 0).toNat = rateOf s g ∧ r.getD 2 0 = s.glb.fuses.getD 0x27F 0
    ∧ r.getD 3 0 = serialOf s (2 * c.val) ∧ r.getD 4 0 = serialOf s (2 * c.val + 1))

/-- The Lifeline record of the image that a channel may use at a gear (R154). -/
def lifelineFor (s : State) (c : Ch) (g : Gear) : Option (List Word) :=
  (lifelinesFor (image s) s.glb.ctlId.toNat).find? (llMatches s c g)

/-- How the image's Lifeline serves a chip select that starts at the gear. -/
def imageUse (s : State) (c : Ch) : LlUse := if (lifelineFor s c s.glb.gear).isSome then .image else .full

/-- The steps of a chip select at a gear: with the image's Lifeline RCD_OUT is skipped, with any DFE (R319). -/
def trainSteps (s : State) (g : Gear) (ll : LlUse) : List Nat :=
  (program (image s) g.val).filter fun k => !(ll = .image && k == 2) && !(ll ≠ .full && k == 7)

/-! ### Device settings and swatch lines on the bus (R310, R318, R319) -/

/-- A setting of a device of a chip select. -/
def setDevice (x : Sc) (n : Nat) (v : DevSet) (s : State) : State :=
  pinOne x { kind := .mrw, cs := BitVec.ofNat 2 n, lr := 0, bg := 0, ba := 0, row := 0, col := 0, ap := false, arg := .set v } s

/-- The device words of a record go to the devices: reference voltage and equaliser. -/
def restoreDevs (x : Sc) (r : List Word) (s : State) : State :=
  let w := devWords r (x.val % 2)
  forAll (physCs s (chOf x)) (fun n s => forAll (swDevices s) (fun d s =>
    let v := w.getD (10 * n + d.val) 0
    setDevice x n (.dfe d (BitVec.ofNat 24 (fld v 23 0))) (setDevice x n (.vref d (BitVec.ofNat 8 (fld v 31 24))) s)) s) s

/-- The device words that training has come to on a sub-channel; they enter the record on die with the gear's codes
(R325). -/
def putDevs (x : Sc) (w : List Word) (s : State) : State := updTrain x (fun t => { t with devs := w }) s

/-- The bits of the word of a device of a chip select of the bus are replaced. -/
def putDev (x : Sc) (n : Nat) (d hi lo v : Nat) (s : State) : State :=
  updTrain x (fun t => { t with devs := t.devs.zipIdx.map fun z => if z.2 = 10 * n + d then setFld z.1 hi lo v else z.1 }) s

/-- Training commands of a sub-channel go out while the training requester holds the grant, which it gives back after
them (R215). (DESIGN CHOICE, log 40) -/
def underGrant (x : Sc) (f : State → State) (s : State) : State :=
  updSched x (fun q => { q with holder := none }) (f (grant x 2 s))

/-- A line that training writes. -/
def trainWrite (x : Sc) (l : Lla) (d : Line) (s : State) : State :=
  let w := cmdFor s .wr l
  let s := force 3 x w [] s
  let t := (s.sched.get x).ck
  let tag : WrTag := { src := .maint, lla := l, data := d, poison := false, ck := t, cmd := w, done := true }
  emit (.burst x (t + tim s pCwl) (encodeLine l d false)) (dropLines x t (updSched x (fun q => { q with lines := q.lines ++ [tag] }) s))

/-- The swatch line of a point is written and read back at a logical rank of a chip select. -/
def trainLine (x : Sc) (n lr k : Nat) (s : State) : State :=
  let l := swatchLla s x n lr
  force 3 x (cmdFor s .rd l) [] (trainWrite x l (swatchLine k) s)

/-- A centring: every point at a chip select. -/
def centring (x : Sc) (n points : Nat) (s : State) : State := forAll (List.range points) (trainLine x n 0) s

/-! ### The start of a gear (R149, R319) -/

/-- The codes and device settings of a record are in force (R319). -/
def llRestore (x : Sc) (r : List Word) (s : State) : State :=
  putDevs x (devWords r (x.val % 2)) (restoreDevs x r (updPhySc x (llApply r (x.val % 2)) s))

/-- The device words on die of a sub-channel at a gear, by their places in R327. -/
def devsOnDie (s : State) (x : Sc) (g : Gear) : List Word :=
  (List.range 40).map fun i => (devWords (llRecord s (chOf x) g) (x.val % 2)).getD i 0

/-- A gear starts on a sub-channel. Sampler A is trained (R311). -/
def gearStart (pos : Nat) (x : Sc) (s : State) : State :=
  let s := putDevs x (devsOnDie s x s.glb.gear) s
  let s := match lifelineFor s (chOf x) s.glb.gear with
    | some r => underGrant x (llRestore x r) s
    | none => s
  let left := csTrain s (chOf x)
  updTrain x (fun t => { t with
      gearPos := pos, left := left, step := 0, lr := 0, tries := 0, ll := imageUse s (chOf x), eyes := [], eyes0 := [], mustFull := false, tx5 := [] })
    (updPhySc x (fun p => { p with seq := .training, lanes := p.lanes.map fun a => { a with liveB := false } }) s)

/-- A command to every chip select that has left self-refresh at DIMM_INIT: those of the bus but for one that a sparing
entry replaces (R362). -/
def toAwake (k : CmdKind) (arg : CmdArg) (s : State) : State :=
  forAll (liveScs s) (fun x s =>
    let p := s.ras.spare.get (chOf x)
    let rests (n : Nat) : Bool := p.st = .inService && (s.glb.ch.get (chOf x)).retPath && decide (n = p.replaced.toNat)
    forAll ((physCs s (chOf x)).filter fun n => !rests n) (fun n s => chipCmd x n k arg s) s) s

/-- Training moves to a gear: it does so as a gear change does, since the timing set changes only while every rank is in
self-refresh (R206, R330): open rows close, every rank sleeps, DCK stops, the clock is that of gear g, DCK starts, the
devices and the RCD get its settings, every rank wakes. The state stays CAST_ON. (DEDUCED, log 37) -/
def gearMove (g : Gear) (s : State) : State :=
  if g = s.glb.gear then s
  else
    let s := forAll (liveScs s) (fun x s => forAll (replayClose { s.sched.get x with window := [] }) (fun c s => force 1 x c [] s) s) s
    let s := forAll (fins 2) dckStop (toAwake .sre .none s)
    let s := forAll (fins 2) dckStart (updGlb (fun b => { b with gear := g }) s)
    forAll (liveScs s) (fun x s => buildCalendar x s) (toAwake .srx .none (toAwake .mrw (.set (.gear g)) s))

/-- Every sub-channel of the sequence starts the gear at a place of the order. (DEDUCED, log 37) -/
def gearTrain (pos : Nat) (s : State) : State :=
  match (gearsUp s)[pos]? with
  | some g => forAll (liveScs s) (gearStart pos) (gearMove g s)
  | none => s

/-- TRAINING begins. -/
def trainingStart (s : State) : State :=
  gearTrain 0 (toStep 9 (updGlb (fun g => { g with train := Vector.replicate 4 Train.reset }) s))

/-- DIMM_INIT_DONE: what a channel puts on the bus to be asked for its features, then the rest of its initialisation; a
missing feature follows the population policy (R144, R530). -/
def dimmInitDone (c : Ch) (r : InitReport) (s : State) : State :=
  if !atStep s 8 || !chLive s c || (s.glb.ch.get c).initDone then s
  else
    let s := initWake c s
    let s :=
      if featuresOk r.features then initReport c r s
      else if strictPop s then halt 0x09 s
      else orHalt (dropInit c (initAsleep c s))
    if s.glb.ctl = .castOn && allInit s then trainingStart s else s

def execDimmInitDone (ch : Ch) (r : InitReport) (s : State) : Res := run (dimmInitDone ch r) s

/-- What follows leads to HALTED, so that an expiry that causes it is recorded every time (R519). -/
def haltsBy (f : State → State) (s : State) : Bool := (f s).glb.ctl = .halted

/-- DIMM_INIT_TIMEOUT: the channel is excluded (R148). -/
def dimmInitTimeout (c : Ch) (s : State) : State :=
  if !atStep s 8 || !chLive s c || (s.glb.ch.get c).initDone then s
  else
    let drop (s : State) : State := orHalt (dropInit c s)
    let s := drop (timeoutBy (haltsBy drop s) 0x0A 3 0 false (subjStep s c.val 0) 0 s)
    if s.glb.ctl = .castOn && allInit s then trainingStart s else s

def execDimmInitTimeout (ch : Ch) (s : State) : Res := run (dimmInitTimeout ch) s

/-! ### Eyes and codes (R294, R320) -/

def eyeKey (kind i : Nat) : Nat := 64 * kind + i

/-- Where eyes of a kind meet those of the chip selects before: each with its key. -/
def meetEyes (t : Train) (kind : Nat) (l : List PassRange) : List (Nat × (Int × Int)) :=
  l.zipIdx.map fun e =>
    let k := eyeKey kind e.2
    (k, match kfind t.eyes k with
      | none => (e.1.lo, e.1.hi)
      | some p => (max p.1 e.1.lo, min p.2 e.1.hi))

/-- Every intersection leaves a width. -/
def wideEnough (w : Int) (l : List (Nat × (Int × Int))) : Bool := l.all fun e => decide (w ≤ e.2.2 - e.2.1)

/-- The middles of intersections. -/
def middles (l : List (Nat × (Int × Int))) : List Int := l.map fun e => (e.2.1 + e.2.2) / 2

/-- PHY_MIN_WIDTH (R320). -/
def trainWidth (s : State) : Int := (minWidth (scoutWords s) : Nat)

/-- An alignment, and the code of each position under it, all with bits [13:10] from 6 to 9 (R294). A restored alignment
stays where it fits. Where two others fit, it is the one that brings the first code nearer to the middle.
(DEDUCED, log 37) -/
def alignTo (old : Option (BitVec 4)) (ps : List Int) : Option (Nat × List Code) :=
  let k0 := (ps.headD 8192 - 7168) / 2048
  let fits (k : Int) : Bool :=
    decide (0 ≤ k ∧ k ≤ 15) && ps.all fun p => decide (6144 ≤ p - 2048 * k ∧ p - 2048 * k ≤ 10239)
  ((old.map fun a => (a.toNat : Int)).toList ++ [k0, k0 + 1, k0 - 1]).find? fits |>.map fun k =>
    (k.toNat, ps.map fun p => delayCode (p - 2048 * k))

/-- The position of a code under an alignment. -/
def posOf (a : BitVec 4) (c : Code) : Int := 2048 * a.toNat + c.toNat

/-- The read side of a group takes positions: of its gate, and of its lanes where they are given. A restored group keeps
its alignment where it can. -/
def placeRead (kept : Bool) (g : GroupId) (gate : Int) (rx : List Int) (p : PhySc) : Option PhySc :=
  (alignTo (if kept then some (p.groups.get g).rdAlign else none) (gate :: rx)).map fun e =>
    let c : Code := e.2.headD 0
    { p with
      groups := vmod p.groups g fun q => { q with rdAlign := BitVec.ofNat 4 e.1, gate := c, gateTo := c }
      lanes := (grpLanes g).foldl (fun v i => vmod v i fun a => { a with codeA := (e.2.drop 1).getD (i.val % 4) a.codeA }) p.lanes }

/-- The write side of a group takes positions: of its strobe and of its lanes. -/
def placeWrite (kept : Bool) (g : GroupId) (strobe : Int) (tx : List Int) (p : PhySc) : Option PhySc :=
  (alignTo (if kept then some (p.groups.get g).wrAlign else none) (strobe :: tx)).map fun e =>
    { p with
      groups := vmod p.groups g fun q => { q with wrAlign := BitVec.ofNat 4 e.1, txs := e.2.headD 0 }
      lanes := (grpLanes g).foldl (fun v i => vmod v i fun a =>
        let c : Code := (e.2.drop 1).getD (i.val % 4) a.tx
        { a with tx := c, txTo := c }) p.lanes }

/-- Every group takes its positions. -/
def placeAll (f : GroupId → PhySc → Option PhySc) (p : PhySc) : Option PhySc :=
  (fins 10).foldl (fun r g => r.bind (f g)) (some p)

/-- The codes of a step are in force, and the eyes of the chip select count. -/
def eyesTake (x : Sc) (l : List (Nat × (Int × Int))) (p : PhySc) (s : State) : State :=
  updTrain x (fun t => { t with eyes := l.foldl (fun m e => kset m e.1 e.2) t.eyes }) (updPhySc x (fun _ => p) s)

/-! ### The steps 0x1 to 0x5 (R155, R319, R320) -/

/-- CA_ALIGN: a phase that passes at every chip select; which one is free (DESIGN CHOICE, log 3). A restored phase
stays. -/
def caAlign (x : Sc) (e : TrainEyes) (s : State) : Option State :=
  let t := trainOf s x
  let old := (kget (255, 0) t.eyes (eyeKey 5 0)).1.toNat
  let ok := (List.range 8).filter fun i => old.testBit i && e.caPhases.contains (BitVec.ofNat 3 i)
  let p := s.phy.sc.get x
  if t.ll = .image then (if ok.contains p.caPhase.toNat then some s else none)
  else if ok.isEmpty then none
  else
    let k := ok.getD ((Config.free16 s.free).toNat % ok.length) 0
    some (nextFree (eyesTake x [(eyeKey 5 0, (((ok.map (2 ^ ·)).sum : Nat), 0))] { p with caPhase := BitVec.ofNat 3 k } s))

/-- READ_GATE: receive gates and read alignments. Restored lanes keep their positions, whatever becomes of the alignment
(R155, R294, R319). -/
def readGate (x : Sc) (e : TrainEyes) (s : State) : Option State :=
  let t := trainOf s x
  let p := s.phy.sc.get x
  let l := meetEyes t 0 e.gate
  if !wideEnough (trainWidth s) l then none
  else
    let ms := middles l
    let kept := decide (t.ll = .image)
    let rx (g : GroupId) : List Int :=
      if kept then (grpLanes g).map fun i => posOf (p.groups.get g).rdAlign (p.lanes.get i).codeA else []
    (placeAll (fun g => placeRead kept g (ms.getD g.val 0) (rx g)) p).map fun p => eyesTake x l p s

/-- A restored receive code passes: the eye of the chip select has its centre within 1/16 UI of it (R155). -/
def restoredOk (p : PhySc) (rx : List PassRange) : Bool :=
  rx.zipIdx.all fun e =>
    let q := p.groups.get (finOr 9 (e.2 / 4))
    decide ((((e.1.lo + e.1.hi) / 2) - posOf q.rdAlign (p.lanes.get (finOr 39 e.2)).codeA).natAbs ≤ 64)

/-- The gear's record in the Lifeline copy, from what its lines returned; it must match as one of the image does
(R154, R321). -/
def copyRecord (s : State) (c : Ch) (saved : List Capture) : Option (List Word) :=
  let lla (i : Nat) : Lla := sysLine s c (2049 + 17 * s.glb.gear.val + i)
  let ds := saved.zipIdx.map fun e => decodeAt s (lla e.2) e.1.a
  let r := (ds.flatMap fun d => (List.range 16).map (lineWord d.data))
  if ds.any (fun d => d.outcome.lost) || !llMatches s c s.glb.gear r then none else some r

/-- The write side of a record is in force (R321). -/
def llWriteSide (r : List Word) (a : Nat) (p : PhySc) : PhySc :=
  let q := llApply r a p
  { p with
    lanes := Vector.ofFn fun i => { p.lanes.get i with tx := (q.lanes.get i).tx, txTo := (q.lanes.get i).tx }
    groups := Vector.ofFn fun g => { p.groups.get g with txs := (q.groups.get g).txs, wrAlign := (q.groups.get g).wrAlign } }

/-- On the retention path a channel without a Lifeline of the image reads the copy, and uses it from here on; a chip select
that has failed the check of one is fully trained (R155, R321). -/
def useCopy (x : Sc) (saved : List Capture) (s : State) : State :=
  let c := chOf x
  if (trainOf s x).ll ≠ .full || (trainOf s x).mustFull || !(s.glb.ch.get c).retPath || saved.isEmpty then s
  else
    let s := forAll (List.range 17) (fun i s => force 3 (scA c) (cmdFor s .rd (sysLine s c (2049 + 17 * s.glb.gear.val + i))) [] s) s
    match copyRecord s c saved with
    | none => s
    | some r =>
      let s := putDevs x (devWords r (x.val % 2)) (restoreDevs x r (updPhySc x (llWriteSide r (x.val % 2)) s))
      updTrain x (fun t => { t with ll := .copy }) s

/-- READ_CENTRE: sampler A in the middle of the eyes; a restored code is checked and stays. -/
def readCentre (x : Sc) (e : TrainEyes) (s : State) : Option State :=
  let t := trainOf s x
  let p := s.phy.sc.get x
  if t.ll = .image then (if restoredOk p e.rx then some (eyesTake x (meetEyes t 1 e.rx) p s) else none)
  else
    let l := meetEyes t 1 e.rx
    let v := meetEyes t 2 e.vref
    if !wideEnough (trainWidth s) l || !wideEnough 0 v then none
    else
      let ms := middles l
      let rx (g : GroupId) : List Int := (grpLanes g).map fun i => ms.getD i.val 0
      let gate (g : GroupId) : Int := let q := p.groups.get g; posOf q.rdAlign q.gate
      (placeAll (fun g => placeRead false g (gate g) (rx g)) p).map fun q =>
        let vs := middles v
        useCopy x e.saved (eyesTake x (l ++ v) { q with lanes := Vector.ofFn fun i => { q.lanes.get i with vrefA := vrefCode (vs.getD i.val 0) } } s)

/-- WRITE_LEVEL: transmit strobes and write alignments. The lanes of a group take the code of its strobe, unless a
Lifeline has given them theirs: the manual does not say where the step leaves them (DESIGN CHOICE, log 65). A group
with restored codes keeps its alignment where it can. -/
def writeLevel (x : Sc) (e : TrainEyes) (s : State) : Option State :=
  let t := trainOf s x
  let p := s.phy.sc.get x
  let l := meetEyes t 3 e.txStrobe
  if !wideEnough (trainWidth s) l then none
  else
    let ms := middles l
    let tx (g : GroupId) : List Int :=
      (grpLanes g).map fun i => if t.ll = .full then ms.getD g.val 0 else posOf (p.groups.get g).wrAlign (p.lanes.get i).tx
    (placeAll (fun g => placeWrite (t.ll ≠ .full) g (ms.getD g.val 0) (tx g)) p).map fun q =>
      updTrain x (fun t => { t with tx5 := q.lanes.toList.map Lane.tx }) (eyesTake x l q s)

/-! ### WRITE_CENTRE and DFE (R311, R318) -/

/-- PHY_SWATCH_SPAN of the step: 64 with a Lifeline (R311). -/
def trainSpan (s : State) (ll : LlUse) : Nat := if ll = .full then swSpan (swCfg s) else 64

/-- The lanes without a bit error at each point of a centring. -/
def pointsPass (s : State) (x : Sc) (n : Nat) (f : Nat → Nat) (l : List Capture) : List (List Nat) :=
  let lla := swatchLla s x n 0
  l.zipIdx.map fun e =>
    let bad := badLanes e.1.a (encodeLine lla (swatchLine (f e.2)) false)
    (List.range 40).filter fun i => !bad.contains i

/-- The passing offsets of a lane; none where its code itself fails. -/
def laneRange (span step : Nat) (pass : List (List Nat)) (i : Nat) : Option (Int × Int) :=
  let ps := pass.map fun l => l.contains i
  if ps.getD (span / step) false then let r := passRange span step ps; some (r.1, r.2.1) else none

/-- The values at which every lane of a device passes: from the lowest one up to the last before a failing one. -/
def devRange (s : State) (pass : List (List Nat)) (d : Nat) : Option (Nat × Nat) :=
  let lanes := (List.range 40).filter fun i => laneDev s i = d
  let ok (v : Nat) : Bool := let l := pass.getD v []; lanes.all fun i => l.contains i
  ((List.range pass.length).find? ok).map fun a => (a, (walkUp ok pass.length pass.length a).1)

/-- What WRITE_CENTRE puts on the bus for one chip select: the points of its offsets, then those of each reference voltage
(R310, R311). -/
def writeCentreCmds (x : Sc) (n : Nat) (points vrefs : Nat) (s : State) : State :=
  let s := centring x n points s
  forAll (List.range vrefs) (fun v s =>
    trainLine x n 0 v (forAll (swDevices s) (fun d s => setDevice x n (.vref d (BitVec.ofNat 8 v)) s) s)) s

/-- The step of a run-time swatch run for one chip select: the points about the codes of step 0x5, or of a Lifeline; the
reference voltages; the counts of the oscillators. The codes take the middle of the intersection, the devices that of
their ranges; a step that fails leaves the codes (R311, R317, R320). The run about the codes of a Lifeline has 128 codes at
most, less than the default PHY_MIN_WIDTH: no width is asked of it (DESIGN CHOICE, log 67). The commands are on the bus
either way. -/
def writeCentre (x : Sc) (k : Nat) (points vrefs : List Capture) (counts : List Nat) (s : State) : Option State :=
  let t := trainOf s x
  let n := csPhys s (chOf x) k
  let span := trainSpan s t.ll
  let step := swStep (swCfg s)
  let p := s.phy.sc.get x
  let pass := pointsPass s x n id points
  let rs := (List.range 40).map (laneRange span step pass)
  let base (i : Fin 40) : Int := posOf (p.groups.get (finOr 9 (i.val / 4))).wrAlign (p.lanes.get i).tx
  let eyes := (fins 40).map fun i => let r := (rs.getD i.val none).getD (0, 0); (⟨base i + r.1, base i + r.2⟩ : PassRange)
  let l := meetEyes t 4 eyes
  let vs := (swDevices s).map fun d => (d, devRange s (pointsPass s x n id vrefs) d.val)
  let width : Int := if t.ll = .full then trainWidth s else 0
  if rs.any Option.isNone || !wideEnough width l || vs.any (fun e => e.2.isNone) then none
  else
    let ms := middles l
    let strobe (g : GroupId) : Int := let q := p.groups.get g; posOf q.wrAlign q.txs
    (placeAll (fun g => placeWrite (t.ll ≠ .full) g (strobe g) ((grpLanes g).map fun i => ms.getD i.val 0)) p).map fun q =>
      let nref := (List.range 40).map fun i => if i / 10 = n then counts.getD (i % 10) 0 else q.nref.getD i 0
      let s := eyesTake x l { q with nref := nref } s
      let s := onlyIf (t.ll ≠ .full) (sqSet rCastOn (pack [(1, 16 + s.glb.gear.val)])) s
      forAll vs (fun e s =>
        let r := e.2.getD (0, 0)
        let v := (r.1 + r.2) / 2
        putDev x n e.1.val 31 24 v (setDevice x n (.vref e.1 (BitVec.ofNat 8 v)) s)) s

/-- The first of 16 values whose width is greatest. -/
def widest (w : Nat → Int) : Nat := (List.range 16).foldl (fun b v => if w b < w v then v else b) 0

/-- The write eye of a device in a centring: the least width of its lanes. -/
def devWidth (s : State) (span step : Nat) (pass : List (List Nat)) (d : Nat) : Int :=
  let ws := ((List.range 40).filter fun i => laneDev s i = d).map fun i =>
    match laneRange span step pass i with
    | some r => r.2 - r.1
    | none => -1
  minOf ws

/-- DFE: taps 1 to 4 of every device in turn take the value with the widest write eye; the gain stays (R318). -/
def trainDfe (x : Sc) (k : Nat) (runs : List (List Capture)) (s : State) : State :=
  let n := csPhys s (chOf x) k
  let span := swSpan (swCfg s)
  let step := swStep (swCfg s)
  forAll (List.range 4) (fun tap s =>
    let pass (v : Nat) : List (List Nat) := pointsPass s x n id (runs.getD (16 * tap + v) [])
    let word (d : Nat) (v : Nat) : Word := setFld ((trainOf s x).devs.getD (10 * n + d) 0) (4 * tap + 3) (4 * tap) v
    let set (d : Fin 10) (v : Nat) (s' : State) : State := setDevice x n (.dfe d ((word d.val v).setWidth 24)) s'
    let s' := forAll (List.range 16) (fun v s' =>
      centring x n (swPoints span step) (forAll (swDevices s) (fun d s' => set d v s') s')) s
    forAll (swDevices s) (fun d s' =>
      let v := widest fun v => devWidth s span step (pass v) d.val
      putDev x n d.val (4 * tap + 3) (4 * tap) v (set d v s')) s') s

/-! ### READ_CHECK and SAVE (R150, R319) -/

/-- A swatch line of the logical rank comes back through the normal decode. -/
def checkOk (s : State) (x : Sc) (n lr : Nat) (l : List Capture) : Bool :=
  l.zipIdx.all fun e =>
    let d := decodeAt s (swatchLla s x n lr) e.1.a
    !d.outcome.lost && d.outcome ≠ .poison && d.data = swatchLine e.2

/-- The end of a gear on a sub-channel: sampler A is live and B copies it (R299), the boot codes of the gear are
kept (R303, R311). -/
def gearKeep (x : Sc) (s : State) : State :=
  let s := updPhySc x (fun p => { p with
    seq := .idle, moved := Vector.replicate 10 0, swReq := false, swWanted := false
    lanes := p.lanes.map fun a => { a with liveB := false, codeB := a.codeA, vrefB := a.vrefA, phase := .idle } }) s
  let g := s.glb.gear
  forAll (fins 40) (fun i s =>
    let a := laneAt s x i
    { s with phy := { s.phy with boot := kset s.phy.boot (bootKey g x i.val) (a.tx, a.codeA) } }) s

/-- Once both sub-channels of a channel have trained at the gear, its Lifeline takes the codes, and the record is written
to the channel's Lifeline copy (R153, R325, R326). -/
def gearSave (c : Ch) (s : State) : State :=
  if (trainOf s (scA c)).left.isEmpty && (trainOf s (scB c)).left.isEmpty && chLive s c then
    let s := llWrite c s.glb.gear s
    underGrant (scA c) (fun s => forAll (llLines s c s.glb.gear) (fun e s => trainWrite (scA c) e.1 e.2 s) s) s
  else s

/-! ### What the retention path reads (R161, R362, R398, R407) -/

/-- The bits of 1,024 lines; a line that cannot be read gives `bad` of its index. -/
def linesMap (l : List (Option Line)) (bad : Nat → Line) : Nat :=
  (List.range 1024).foldl (fun v j => v + (((l.getD j none).getD (bad j)).toNat) * 2 ^ (512 * j)) 0

/-- A half of a region map takes new bits. -/
def putHalf (c : Ch) (v : Nat) (m : BitVec 1048576) : BitVec 1048576 :=
  (m &&& ~~~(halfMask c)) ||| (BitVec.ofNat 1048576 (v * 2 ^ (524288 * c.val)) &&& halfMask c)

/-- The epoch and the role that a correct pair record holds (R407). -/
def pairRecordOf (s : State) (l : Line) : Option (BitVec 8 × Bool) :=
  let w (i : Nat) : Word := lineWord l i
  let ok := decide (fld (w 0) 31 16 = 1) && decide (w 15 = wordsCrc ((List.range 15).map w))
    && decide (w 2 = regGet s 0x6018) && decide (w 3 = regGet s 0x601C)
  if ok then some (BitVec.ofNat 8 (fld (w 0) 15 8), bitOf (w 0) 7) else none

/-- Lines of a carve-out are written through a requester, in LLA order (R22, R157, R161). -/
def carveFill (x : Sc) (q : Fin 7) (first : Lla) (n : Nat) (d : Line) (s : State) : State := mntAdd x q (.fill first n d) s

/-- Lines of the system region of a channel. -/
def sysFill (c : Ch) (line n : Nat) (d : Line) (s : State) : State := carveFill (scA c) 2 (sysLine s c line) n d s

/-- Lines of a channel's copy that could not be read are rewritten with their bits clear (R161). -/
def mendCopy (c : Ch) (bitmap : List (Option Line)) (s : State) : State :=
  forAll bitmap.zipIdx (fun e s => if e.1.isNone then sysFill c (1 + 1024 * c.val + e.2) 1 0 s else s) s

/-- A captured line that Cast-On has read: its data, none where it is missing or decodes as UNCORRECTABLE, ADDR_MISMATCH
or POISON (R161). -/
def readLine (s : State) (l : Lla) (r : Option Capture) : Option Line :=
  r.bind fun r => let d := decodeAt s l r.a; if d.outcome.lost || d.outcome = .poison then none else some d.data

/-- n lines that Cast-On has read, from the first on. -/
def readLines (s : State) (first : Lla) (n : Nat) (rs : List Capture) : List (Option Line) :=
  (List.range n).map fun i => readLine s (first + BitVec.ofNat 38 i) (rs[i]?)

/-- What every read counts: its counter, and the out-of-turn list (R22, R352). -/
def readsCounted (first : Lla) (rs : List Capture) (s : State) : State :=
  forAll rs.zipIdx (fun e s => let l := first + BitVec.ofNat 38 e.2; readCounted l (decodeAt s l e.1.a) s) s

/-- The lines of a channel's repair list copy. -/
def rplCopyLines : Nat := 33

/-- The entries of a repair list copy: none where a line of it cannot be read or its CRC is wrong (R362, R364). -/
def rplFrom (ls : List (Option Line)) : Option (List (Word × Word)) :=
  match ls.headD none with
  | none => none
  | some h =>
    let n := fld (lineWord h 0) 8 0
    let body := (ls.drop 1).take ((n + 7) / 8)
    let w := (body.flatMap fun l => (List.range 16).map (lineWord (l.getD 0))).take (2 * n)
    if body.any Option.isNone || decide (256 < n) || wordsCrc w ≠ lineWord h 1 then none
    else some ((List.range n).map fun i => (w.getD (2 * i) 0, w.getD (2 * i + 1) 0))

/-- The copy that counts: a correct one, and of two the one with more entries (R362). -/
def rplChosen (a b : Option (List (Word × Word))) : List (Word × Word) :=
  match a, b with
  | some a, some b => if a.length < b.length then b else a
  | some a, none => a
  | none, some b => b
  | none, none => []

/-- A channel keeps its contents: both bitmaps and the pair record are taken (R161, R398, R407). A dirty line
that cannot be read has free bits: the manual gives none (DESIGN CHOICE, log 3). (DEDUCED, log 36) -/
def keepContents (c : Ch) (bitmap dirtyCopy : List (Option Line)) (s : State) : State :=
  let v := linesMap bitmap (fun _ => 0)
  let f := s.free
  let d := linesMap (dirtyCopy.drop 1) (fun j => Config.freeLine (f + j))
  let s := updGlb (fun g => { g with
    init := putHalf c v g.init, initCopy := putHalf c v g.initCopy }) { s with free := f + 1024 }
  let first := !(s.glb.ch.get (chN (1 - c.val))).kept
  let p := (dirtyCopy.headD none).bind (pairRecordOf s)
  let s := updMir (fun m => { m with dirty := putHalf c d m.dirty, record := if first || m.record.isSome then p else none }) s
  coverUnheld (sqSet rCastOn (pack [(1, 8 + c.val)]) (updCh c (fun h => { h with kept := true }) (mendCopy c bitmap s)))

/-- The ledgers of a channel are zeroed, by the ledger requester: as many lines as a unit has DRAM rows (R157, R180,
R215). -/
def ledgerZero (c : Ch) (s : State) : State :=
  forAll [scA c, scB c] (fun x s => forAll ((List.range (nUnits s)).filter fun u => csLive s c (u / nLr s)) (fun u s =>
    let first := Coord.lla { line := 0, bank := 0, bg := 0, row := nRows s - 64, lr := u % nLr s, cs := u / nLr s, sub := x.val % 2, ch := c.val }
    carveFill x 3 first (dramRows s) 0 s) s) s

/-- A channel's contents are discarded: its ledgers and its bitmap copy are written as zero (R161).
(DEDUCED, log 36) -/
def discardContents (c : Ch) (s : State) : State :=
  let s := sysFill c 1 2048 0 (ledgerZero c s)
  let s := updGlb (fun g => { g with init := putHalf c 0 g.init, initCopy := putHalf c 0 g.initCopy }) s
  let s := updMir (fun m => { m with dirty := putHalf c 0 m.dirty }) s
  coverUnheld (sqSet rCastOn (pack [(1, 6 + c.val)]) s)

/-- n lines are read from the first on: the row of each is opened, which the Row Counter counts, its first line is read by
a command of its own, and the others after it (R22, R244). (DESIGN CHOICE, log 40) -/
def readRows (c : Ch) (first : Lla) (n : Nat) (s : State) : State :=
  let len := if isX8 s then 64 else 128
  let a := first.toNat
  forAll (List.range ((a + n - 1) / len + 1 - a / len)) (fun i s =>
    let lo := max a ((a / len + i) * len)
    let l : Lla := BitVec.ofNat 38 lo
    emit (.fetch l (min (a + n) ((a / len + i + 1) * len) - lo)) (force 3 (scA c) (cmdFor s .rd l) [] s)) s

/-- The repair list copy of a channel on its spare. -/
def spareCopyLla (s : State) (c : Ch) : Option Lla :=
  ((ownProfile s).spareCs c.val).map fun n => ({ unpackLla (rplLla s c 0) with cs := n } : Coord).lla

/-- What the retention path reads of a channel first: the repair list copy, on the spare as well (R362); then the record,
the bitmap copy and the dirty bitmap copy (R161, R398). The reads go out under the grant of the training requester. -/
def readRpl (c : Ch) (s : State) : State :=
  underGrant (scA c) (fun s => forAll ((rplLla s c 0) :: (spareCopyLla s c).toList) (fun l s => readRows c l rplCopyLines s) s) s
def readCopies (c : Ch) (s : State) : State :=
  underGrant (scA c) (fun s =>
    readRows c (dirtyLla s c 0) 1025 (readRows c (sysLine s c (1 + 1024 * c.val)) 1024 (readRows c (sysLine s c 0) 1 s))) s

/-- The repair list copy of a retained channel joins the list on die, and its sparing and marks come into force (R362). A
list that has changed is copied again (R364). -/
def takeRpl (c : Ch) (r : RetentionRead) (s : State) : State :=
  let a := rplLla s c 0
  let b := (spareCopyLla s c).getD a
  let es := rplChosen (rplFrom (readLines s a rplCopyLines r.repair)) (rplFrom (readLines s b rplCopyLines r.repairSpare))
  let old := s.ras.rpl
  let s := readsCounted b r.repairSpare (readsCounted a r.repair s)
  let s := restReplaced c (takeMarks c (takeSparing c (mergeEntries (entriesOf c es) s)))
  onlyIf (s.ras.rpl ≠ old) (rplCopy c) s

/-- The retention record decides what becomes of the contents of a channel (R161). -/
def takeContents (c : Ch) (r : RetentionRead) (s : State) : State :=
  let l := sysLine s c 0
  let m := sysLine s c (1 + 1024 * c.val)
  let d := dirtyLla s c 0
  let rec_ := readLine s l r.record.head?
  let bitmap := readLines s m 1024 r.bitmap
  let dirty := readLines s d 1025 r.dirty
  let s := readsCounted d r.dirty (readsCounted m r.bitmap (readsCounted l r.record s))
  if rec_.any fun v => decide (v.toNat % 2 ^ 64 = regGet64 s 0x4008) then keepContents c bitmap dirty s
  else discardContents c s

/-- Training of a retained channel is complete: the repair list, whose sparing sends the chip select it replaces back to
self-refresh, then the retention record (R362, R161). A restart reads neither (R169). (DEDUCED, log 36) -/
def readBack (c : Ch) (ret : Option RetentionRead) (s : State) : State :=
  let h := s.glb.ch.get c
  if !h.retPath || !chLive s c then s
  else if s.glb.restart then sqSet rCastOn (pack [(1, 8 + c.val)]) s
  else
    let s := readRpl c s
    match ret with
    | some r => takeContents c r (readCopies c (takeRpl c r s))
    | none => discardContents c (readCopies c s)

/-! ### The end of training (R149, R152, R156 to R158, R181) -/

/-- A chip select that trained at the boot gear but failed at another one makes that gear unavailable. -/
def markGears (s : State) : State :=
  forAll ((gearsUp s).filter fun g => decide (g.val ≠ bootGear (image s))) (fun g s =>
    let bad := (liveScs s).any fun x => (List.range (nCs s)).any fun k =>
      csLive s (chOf x) k && ((trainOf s x).failed.get g).getLsbD k
    onlyIf bad (gearUnavail g) s) s

/-- A spare that trained on both sub-channels is available, and waits in self-refresh (11, "Rank sparing"). -/
def markSpare (c : Ch) (s : State) : State :=
  if spareTrains s c then
    let n := BitVec.ofNat 2 (csPhys s c (nCs s))
    forAll [scA c, scB c] (fun x s => rawCmd x .sre n s)
      (updRas (fun a => { a with spare := vmod a.spare c fun p => { p with st := .available } }) s)
  else s

/-- The swatch pattern of every unit of a channel (R157, log 63). -/
def swatchFill (c : Ch) (s : State) : State :=
  forAll [scA c, scB c] (fun x s => forAll ((List.range (nUnits s)).filter fun u => csLive s c (u / nLr s)) (fun u s =>
    carveFill x 2 (swatchLla s x (u / nLr s) (u % nLr s)) 1 (swatchLine 0) s) s) s

/-- What CARVE_OUT writes on a cold channel: ledgers, swatch patterns, bitmap copy, dirty bitmap copy and pair record
(R157, R398), and the repair list copy once its list has entries (R361, R364). (DEDUCED, log 48) -/
def carveCold (c : Ch) (s : State) : State :=
  let s := carveFill (scA c) 2 (dirtyLla s c 0) 1025 0 (sysFill c 1 2048 0 (swatchFill c (ledgerZero c s)))
  onlyIf (!(rplWords s c).isEmpty) (rplCopy c) s

/-- CARVE_OUT begins: its regions count as initialised (R156). The carve-outs of the cold channels, and the retention record
of every channel, are put to the requesters that write them (R157, R159, R169). -/
def carveStart (s : State) : State :=
  let s := initDone (updGlb (fun g => { g with init := g.init ||| carveBits s }) (toStep 0x0A s))
  if (fins 2).any fun c => chLive s c && (s.glb.ch.get c).offline.getLsbD 0 then halt 0x0B s
  else
    forAll ((fins 2).filter (chLive s)) (fun c s =>
      sysFill c 0 1 (retentionLine s) (onlyIf (!(s.glb.ch.get c).retPath) (carveCold c) s)) s

/-- Every gear is trained: where the boot gear was not the last, an ordinary gear change goes to it (R149, R330). Its
read check is that of the gear's own training, which it passed. (DEDUCED, log 37) -/
def trainingEnd (s : State) : State :=
  let boot := gearN (bootGear (image s))
  let other := decide (s.glb.gear ≠ boot)
  let s := onlyIf other (fun s => sqSet rPhyStatus 0x200000 (regSet rGearStatus 0 (readCheck (loadGear (gearMove boot s))))) s
  let s := forAll ((fins 2).filter (chLive s)) (fun c s => markSpare c (takeMarks c s)) (markGears s)
  carveStart { s with phy := { s.phy with llChanged := Vector.replicate 8 false } }

/-- Every sub-channel has finished the gear: the next gear, or the end. -/
def gearsGoOn (ret : Option RetentionRead) (c : Ch) (s : State) : State :=
  let pos := ((liveScs s).map fun x => (trainOf s x).gearPos).foldl max 0
  let lastPos := decide ((gearsUp s).length ≤ pos + 1)
  let chDone (c : Ch) : Bool := (trainOf s (scA c)).left.isEmpty && (trainOf s (scB c)).left.isEmpty
  let s := if lastPos && chLive s c && chDone c then readBack c ret s else s
  if (liveScs s).all fun x => (trainOf s x).left.isEmpty then
    if lastPos then trainingEnd s else gearTrain (pos + 1) s
  else s

/-! ### Steps (R150 to R152, R155) -/

/-- The chip select of a sub-channel is done at the gear: the next one starts. After the last one the gear's codes are
kept and saved (R153, R319). -/
def csNext (x : Sc) (s : State) : State :=
  let t := trainOf s x
  let s := updTrain x (fun t => { t with
    left := t.left.drop 1, step := 0, lr := 0, tries := 0, ll := imageUse s (chOf x), mustFull := false, eyes := t.eyes0 }) s
  onlyIf (t.left.length ≤ 1) (fun s => gearSave (chOf x) (gearKeep x s)) s

/-- A chip select has passed every step at the gear: its eyes count for the others (R320). -/
def csPassed (x : Sc) (s : State) : State := csNext x (updTrain x (fun t => { t with eyes0 := t.eyes }) s)

/-- A chip select leaves the training of a sub-channel. -/
def csDrop (k : Nat) (x : Sc) (s : State) : State :=
  let l := (trainOf s x).left
  if l.head? = some k then csNext x s
  else updTrain x (fun t => { t with left := t.left.filter (· ≠ k) }) s

/-- A chip select of a channel is taken offline (R152, R163). (DEDUCED, log 37) -/
def takeOffline (c : Ch) (k : Nat) (s : State) : State :=
  let s := updCh c (fun h => { h with offline := h.offline ||| BitVec.ofNat 4 (2 ^ k) }) s
  let s := forAll [scA c, scB c] (csDrop k) s
  if nCs s ≤ k then s
  else
    let s := coverUnheld (sqSet rCastOn (pack [(1, 12 + c.val)]) s)
    if (List.range (nCs s)).any (csLive s c) then s
    else orHalt (exclude c (updCh c (fun h => { h with released := false }) s))

/-- A chip select has failed at the gear (R152). A spare that fails is not available. -/
def csFailed (x : Sc) (k : Nat) (s : State) : State :=
  let g := s.glb.gear
  let s := updTrain x (fun t => { t with failed := vmod t.failed g fun f => f ||| BitVec.ofNat 4 (2 ^ k) }) s
  if nCs s ≤ k then takeOffline (chOf x) k s
  else if g.val = bootGear (image s) then
    if trainDegrade (image s) then takeOffline (chOf x) k s else halt 0x0A s
  else csNext x s

/-- The step of a chip select has two more tries (R151). -/
def stepAgain (x : Sc) (k : Nat) (s : State) : State :=
  if (trainOf s x).tries < 2 then updTrain x (fun t => { t with tries := t.tries + 1 }) s else csFailed x k s

/-- A step failed: a restored chip select is fully trained instead (R155), any other tries again. (DEDUCED, log 37) -/
def stepFailed (x : Sc) (k : Nat) (s : State) : State :=
  if (trainOf s x).ll ≠ .full then
    updTrain x (fun t => { t with ll := .full, mustFull := true, step := 0, lr := 0, tries := 0, eyes := t.eyes0 }) s
  else stepAgain x k s

/-- The code of the step that runs on a sub-channel (R319). -/
def stepCode (s : State) (x : Sc) : Nat :=
  let t := trainOf s x
  (trainSteps s s.glb.gear t.ll).getD t.step 0

/-- A step passed: READ_CHECK goes on with the next logical rank (R150), any other step with the next one. -/
def stepPassed (x : Sc) (s : State) : State :=
  let t := trainOf s x
  if stepCode s x = 8 && decide (t.lr + 1 < nLr s) then updTrain x (fun t => { t with lr := t.lr + 1, tries := 0 }) s
  else if t.step + 1 < (trainSteps s s.glb.gear t.ll).length then
    updTrain x (fun t => { t with step := t.step + 1, lr := 0, tries := 0 }) s
  else csPassed x s

/-- A result is one of the step that runs. -/
def stepFits (code : Nat) : TrainResult → Bool
  | .fail => true
  | .done => code == 9
  | .rcdOut _ => code == 2
  | .eyes _ => code == 1 || code == 3 || code == 4 || code == 5
  | .run _ _ _ => code == 6
  | .dfe _ => code == 7
  | .check _ => code == 8

/-- A training mode is entered, used and left. -/
def inTraining (x : Sc) (n : Nat) (m : TrainMode) (f : State → State) (s : State) : State :=
  setDevice x n (.training m false) (f (setDevice x n (.training m true) s))

/-- The adjustments of the devices of a chip select (R320). -/
def setDevices (x : Sc) (n : Nat) (f : Fin 10 → Byte → DevSet) (l : List Byte) (s : State) : State :=
  forAll (swDevices s) (fun d s => setDevice x n (f d (l.getD d.val 0)) s) s

/-- What a training mode of the RCD or the DRAM is used with (R155, R319, R320): CA_ALIGN, or one parity-checked MRW for a
restored phase; READ_GATE, and the read strobe offsets of the devices; the read pattern of READ_CENTRE and of its check;
WRITE_LEVEL, and the write leveling adjustments. How often a mode samples its line, and at which codes, is not given
(DESIGN CHOICE, log 40). -/
def eyesCmds (x : Sc) (n code : Nat) (e : TrainEyes) (s : State) : State :=
  let pattern (s : State) : State := chipCmd x n .mrr (.get .pattern) s
  if code = 1 then
    if (trainOf s x).ll = .image then setDevice x n .parity s else inTraining x n .ca id s
  else if code = 3 then setDevices x n .readOffset e.devs (inTraining x n .readPreamble pattern s)
  else if code = 4 then inTraining x n .readPattern pattern s
  else setDevices x n .writeLevel e.devs (inTraining x n .writeLeveling id s)

/-- The commands that a step puts on the bus, whether or not it passes. (DESIGN CHOICE, log 40) -/
def stepCmds (x : Sc) (k : Nat) (r : TrainResult) (s : State) : State :=
  let n := csPhys s (chOf x) k
  match r with
  | .eyes e => eyesCmds x n (stepCode s x) e s
  | .rcdOut ws => forAll ws.zipIdx (fun w s => setDevice x n (.rcdOut w.2 w.1) s) s
  | .run points vrefs _ => writeCentreCmds x n points.length vrefs.length s
  | .check lines => forAll (List.range lines.length) (trainLine x n (trainOf s x).lr) s
  | _ => s

/-- What a step that passes leaves; none where it fails (R319). -/
def stepOutcome (x : Sc) (k code : Nat) (r : TrainResult) (s : State) : Option State :=
  match r with
  | .fail => none
  | .done => some s
  | .rcdOut _ => some s
  | .eyes e => if code = 1 then caAlign x e s else if code = 3 then readGate x e s else if code = 4 then readCentre x e s else writeLevel x e s
  | .run points vrefs counts => writeCentre x k points vrefs counts s
  | .dfe runs => some (trainDfe x k runs s)
  | .check lines => if checkOk s x (csPhys s (chOf x) k) (trainOf s x).lr lines then some s else none

/-- After a step: the sequence goes on unless it has halted. -/
def afterStep (x : Sc) (ret : Option RetentionRead) (s : State) : State :=
  if atStep s 9 then gearsGoOn ret (chOf x) s else s

/-- TRAINING_STEP_DONE: the step of the first chip select that is left has completed; a result of another step has no
effect. Its commands, and those that its outcome needs, go out under the grant of the training requester (R215).
(DESIGN CHOICE, log 40) -/
def trainingStepDone (x : Sc) (r : TrainResult) (ret : Option RetentionRead) (s : State) : State :=
  if !atStep s 9 || !chLive s (chOf x) then s
  else
    match (trainOf s x).left with
    | [] => s
    | k :: _ =>
      let code := stepCode s x
      if !stepFits code r then s
      else
        let s := stepCmds x k r (grant x 2 s)
        let out := stepOutcome x k code r s
        let s := updSched x (fun q => { q with holder := none }) (out.getD s)
        afterStep x ret (if out.isSome then stepPassed x s else stepFailed x k s)

def execTrainingStepDone (sc : Sc) (r : TrainResult) (ret : Option RetentionRead) (s : State) : Res :=
  run (trainingStepDone sc r ret) s

/-- TRAINING_STEP_TIMEOUT: the step has not completed within its time (R132, R151). -/
def trainingStepTimeout (x : Sc) (ret : Option RetentionRead) (s : State) : State :=
  if !atStep s 9 || !chLive s (chOf x) then s
  else
    match (trainOf s x).left with
    | [] => s
    | k :: _ =>
      let after (s : State) : State := afterStep x ret (stepAgain x k s)
      let s := timeoutBy (haltsBy after s) 0x12 2 3 false (subjSc x (k % 4) (trainOf s x).lr) (stepCode s x) s
      after s

def execTrainingStepTimeout (sc : Sc) (ret : Option RetentionRead) (s : State) : Res := run (trainingStepTimeout sc ret) s

/-! ### CARVE_OUT and SERVICE_ENTRY (R157, R159, R162, R170) -/

/-- The work writes lines of a carve-out. -/
def MntCmd.carves (m : MntCmd) : Bool :=
  match m.op with
  | .fill _ _ _ | .lineWrite _ _ _ _ => true
  | _ => false

/-- Every line that CARVE_OUT writes has been written: neither the training requester nor the ledger requester has one left,
and no write burst is in progress. -/
def carved (s : State) : Bool :=
  (liveScs s).all fun x =>
    let q := s.sched.get x
    !(q.maint.get 2).any MntCmd.carves && !(q.maint.get 3).any MntCmd.carves && q.lines.all WrTag.done

/-- CARVE_OUT_DONE: the carve-outs of the cold channels are written, and the retention record of every channel
(R157, R159, R169). -/
def carveOutDone (s : State) : State := if atStep s 0x0A && carved s then toStep 0x0B s else s

def execCarveOutDone (s : State) : Res := run carveOutDone s

/-- CARVE_OUT_WATCHDOG: a sub-channel made no progress (R170). -/
def carveOutWatchdog (x : Sc) (s : State) : State :=
  if atStep s 0x0A then halt 0x0C (timeout 0x0B 4 0 false (subjStep s (chOf x).val 0) 0 s) else s

def execCarveOutWatchdog (sc : Sc) (s : State) : Res := run (carveOutWatchdog sc) s

/-- The content of this controller is RETAINED: every configured channel kept its contents and the pair
record is correct (R407). -/
def noteRetained (s : State) : State :=
  let rec_ := if s.glb.restart then some (recordNow s) else s.mir.record
  let all := (fins 2).all fun c => !chConf s c || (s.glb.ch.get c).kept
  updMir (fun m => { m with record := rec_, retained := all && rec_.isSome }) s

/-- SERVICE_ENTRY: with early service disabled it waits for every region (R162). The pair joins (R408). -/
def serviceEntry (s : State) : State :=
  if !atStep s 0x0B || (!earlyService (image s) && initLeft s ≠ 0) then s
  else
    let all := s.glb.restart
    let s := noteRetained s
    let s := updGlb (fun g => { g with served := true, restart := false }) (joinStart s)
    arriveService (glgRelease all s)

def execServiceEntry (s : State) : Res := run serviceEntry s

end Sys2Proof.Machine
end

