-- ==== Sys2Proof/Machine/Wake.lean ====
section
/-! DEFINITION. Waking from DORMANT (15, R485, R486). -/

namespace Sys2Proof.Machine

/-- DORMANT_WAKE: a wake input of a port, or a register write to a block in the core island, which takes
effect after the wake (R28, R485). -/
def dormantWake (w : WakeSrc) (s : State) : State :=
  if s.glb.ctl ≠ .dormant then s
  else
    match w with
    | .port _ => startWake s
    | .regWrite a => if a.wakes then portWrite a s else s

def execDormantWake (w : WakeSrc) (s : State) : Res := run (dormantWake w) s

/-- The writes that waited take effect in the order of their acceptance (R34). (DEDUCED, log 10) -/
def playDeferred (s : State) : State :=
  let l := s.pwr.deferred
  forAll l writeNow (updPwr (fun p => { p with deferred := [] }) s)

/-- DRAM ZQ calibration of every chip select, when DORMANT lasted over 128 ms (R486, step 6). -/
def wakeZq (s : State) : State :=
  onlyIf (decide (ms 128 < s.glb.now - s.pwr.dormantAt))
    (forAll (liveScs s) (fun x s => toRanks x .mpcZqLatch false (toRanks x .mpcZqStart false s))) s

/-- WAKE_COMPLETE: the clocks run, every rank has left self-refresh, and the controller enters SERVICE.
Under a pause it enters QUIESCED, and with qz_deep the ranks stay in self-refresh (R75, R80). Writes that
waited for the wake take effect then (R28, R486). -/
def wakeComplete (s : State) : State :=
  if s.glb.ctl = .dormant && s.pwr.waking then
    let s := updGlb (fun g => { g with coreRun := true, pllTries := 0 }) (updPwr (fun p => { p with waking := false }) s)
    let s := sqSet rPwrStatus 0x4 (bump 0x306C s)
    playDeferred (if s.qz.ph = .paused then panicUpdate (enter .quiesced (cycleEnds true (onlyIf (!s.qz.deep) (fun s => wakeZq (srExitAll s)) s))) else arriveService (wakeZq (srExitAll s)))
  else s

def execWakeComplete (s : State) : Res := run wakeComplete s

end Sys2Proof.Machine
end

