-- ==== Sys2Proof/Machine/Dispatch.lean ====
section
/-! DEFINITION. The meaning of every command, one arm per row of the table. -/

namespace Sys2Proof.Machine

def exec (i : Instr) (s : State) : Host.Outcome State Fault Refusal :=
  match i with
  | .aonRstAssert => Sys2Proof.Machine.execAonRstAssert s
  | .aonRstRelease a b c d => Sys2Proof.Machine.execAonRstRelease a b c d s
  | .aonStartDone => Sys2Proof.Machine.execAonStartDone s
  | .imgWordAck a b => Sys2Proof.Machine.execImgWordAck a b s
  | .imgWordTimeout => Sys2Proof.Machine.execImgWordTimeout s
  | .imgVerifyDone => Sys2Proof.Machine.execImgVerifyDone s
  | .fuseWordAck a => Sys2Proof.Machine.execFuseWordAck a s
  | .fuseWordTimeout => Sys2Proof.Machine.execFuseWordTimeout s
  | .pllLock => Sys2Proof.Machine.execPllLock s
  | .pllLockTimeout => Sys2Proof.Machine.execPllLockTimeout s
  | .phyZqDone a => Sys2Proof.Machine.execPhyZqDone a s
  | .phyZqTimeout => Sys2Proof.Machine.execPhyZqTimeout s
  | .i3cTransactionDone a b c => Sys2Proof.Machine.execI3cTransactionDone a b c s
  | .i3cTransactionTimeout a b c => Sys2Proof.Machine.execI3cTransactionTimeout a b c s
  | .sidebandDone => Sys2Proof.Machine.execSidebandDone s
  | .dimmInitDone a b => Sys2Proof.Machine.execDimmInitDone a b s
  | .dimmInitTimeout a => Sys2Proof.Machine.execDimmInitTimeout a s
  | .trainingStepDone a b c => Sys2Proof.Machine.execTrainingStepDone a b c s
  | .trainingStepTimeout a b => Sys2Proof.Machine.execTrainingStepTimeout a b s
  | .carveOutDone => Sys2Proof.Machine.execCarveOutDone s
  | .carveOutWatchdog a => Sys2Proof.Machine.execCarveOutWatchdog a s
  | .serviceEntry => Sys2Proof.Machine.execServiceEntry s
  | .regionZeroed a => Sys2Proof.Machine.execRegionZeroed a s
  | .registerWrite a => Sys2Proof.Machine.execRegisterWrite a s
  | .sqWrite a => Sys2Proof.Machine.execSqWrite a s
  | .ppWrite a => Sys2Proof.Machine.execPpWrite a s
  | .ppConfirm a => Sys2Proof.Machine.execPpConfirm a s
  | .ppWindowExpiry => Sys2Proof.Machine.execPpWindowExpiry s
  | .glbLockSet a b => Sys2Proof.Machine.execGlbLockSet a b s
  | .indexWrite a => Sys2Proof.Machine.execIndexWrite a s
  | .evtDataRead a b => Sys2Proof.Machine.execEvtDataRead a b s
  | .evtFlush a b => Sys2Proof.Machine.execEvtFlush a b s
  | .domSnapDataRead a => Sys2Proof.Machine.execDomSnapDataRead a s
  | .qptDataAccess a => Sys2Proof.Machine.execQptDataAccess a s
  | .qptRdSelWrite a b => Sys2Proof.Machine.execQptRdSelWrite a b s
  | .qptCommit a b => Sys2Proof.Machine.execQptCommit a b s
  | .phyLlSelWrite a b => Sys2Proof.Machine.execPhyLlSelWrite a b s
  | .phyLlDataRead a => Sys2Proof.Machine.execPhyLlDataRead a s
  | .rasRplDataRead a => Sys2Proof.Machine.execRasRplDataRead a s
  | .mapProbe a b => Sys2Proof.Machine.execMapProbe a b s
  | .read a b => Sys2Proof.Machine.execRead a b s
  | .writeFull a b => Sys2Proof.Machine.execWriteFull a b s
  | .writePartial a b => Sys2Proof.Machine.execWritePartial a b s
  | .writePoison a b => Sys2Proof.Machine.execWritePoison a b s
  | .barrier a b => Sys2Proof.Machine.execBarrier a b s
  | .peerMirrorWrite a b => Sys2Proof.Machine.execPeerMirrorWrite a b s
  | .peerMirrorRead a b => Sys2Proof.Machine.execPeerMirrorRead a b s
  | .peerMessage a b => Sys2Proof.Machine.execPeerMessage a b s
  | .reservedOpcode a b c => Sys2Proof.Machine.execReservedOpcode a b c s
  | .writeDataBeat a b c => Sys2Proof.Machine.execWriteDataBeat a b c s
  | .creditReturn a => Sys2Proof.Machine.execCreditReturn a s
  | .portTransactionTimeout a b => Sys2Proof.Machine.execPortTransactionTimeout a b s
  | .rtpUrgentChange a => Sys2Proof.Machine.execRtpUrgentChange a s
  | .egpRequestIssue a => Sys2Proof.Machine.execEgpRequestIssue a s
  | .egpResponse a b c d e f => Sys2Proof.Machine.execEgpResponse a b c d e f s
  | .egpSlotTimeout a => Sys2Proof.Machine.execEgpSlotTimeout a s
  | .qzReqRise a b => Sys2Proof.Machine.execQzReqRise a b s
  | .pauseTakeEffect => Sys2Proof.Machine.execPauseTakeEffect s
  | .deepPauseSrDone => Sys2Proof.Machine.execDeepPauseSrDone s
  | .qzHoldExpiry => Sys2Proof.Machine.execQzHoldExpiry s
  | .qzReqFall => Sys2Proof.Machine.execQzReqFall s
  | .deepPauseExitDone => Sys2Proof.Machine.execDeepPauseExitDone s
  | .drainBarrierComplete => Sys2Proof.Machine.execDrainBarrierComplete s
  | .ingressSelect a => Sys2Proof.Machine.execIngressSelect a s
  | .mntArbitrate a => Sys2Proof.Machine.execMntArbitrate a s
  | .schedulerIssue a => Sys2Proof.Machine.execSchedulerIssue a s
  | .readDecode a b => Sys2Proof.Machine.execReadDecode a b s
  | .mergeReadDecode a b => Sys2Proof.Machine.execMergeReadDecode a b s
  | .writeBurstDone a => Sys2Proof.Machine.execWriteBurstDone a s
  | .heldReadRelease a => Sys2Proof.Machine.execHeldReadRelease a s
  | .alertRecognised a => Sys2Proof.Machine.execAlertRecognised a s
  | .alertRelease a b => Sys2Proof.Machine.execAlertRelease a b s
  | .replayAttemptEnd a => Sys2Proof.Machine.execReplayAttemptEnd a s
  | .alertHeldLowTimeout a => Sys2Proof.Machine.execAlertHeldLowTimeout a s
  | .channelRecoveryDone a => Sys2Proof.Machine.execChannelRecoveryDone a s
  | .channelRecoveryTimeout a => Sys2Proof.Machine.execChannelRecoveryTimeout a s
  | .progressWatchdogExpiry a => Sys2Proof.Machine.execProgressWatchdogExpiry a s
  | .refreshSlot a b => Sys2Proof.Machine.execRefreshSlot a b s
  | .refreshPostpone a b => Sys2Proof.Machine.execRefreshPostpone a b s
  | .mr4Poll a b => Sys2Proof.Machine.execMr4Poll a b s
  | .backoffRfmDeadline a => Sys2Proof.Machine.execBackoffRfmDeadline a s
  | .epochAdvance a b => Sys2Proof.Machine.execEpochAdvance a b s
  | .ledgerFetchDone a b => Sys2Proof.Machine.execLedgerFetchDone a b s
  | .ledgerFetchTimeout a => Sys2Proof.Machine.execLedgerFetchTimeout a s
  | .refillTick => Sys2Proof.Machine.execRefillTick s
  | .qosGuaranteeMiss a => Sys2Proof.Machine.execQosGuaranteeMiss a s
  | .wheelSlot => Sys2Proof.Machine.execWheelSlot s
  | .scoutPointDone a b c => Sys2Proof.Machine.execScoutPointDone a b c s
  | .scoutBackoffEnd a b => Sys2Proof.Machine.execScoutBackoffEnd a b s
  | .roleExchange a b => Sys2Proof.Machine.execRoleExchange a b s
  | .forcedSwapWindow a => Sys2Proof.Machine.execForcedSwapWindow a s
  | .swatchPeriodExpiry a => Sys2Proof.Machine.execSwatchPeriodExpiry a s
  | .swatchReq a b => Sys2Proof.Machine.execSwatchReq a b s
  | .swatchRunStart a => Sys2Proof.Machine.execSwatchRunStart a s
  | .swatchRunEnd a b => Sys2Proof.Machine.execSwatchRunEnd a b s
  | .swatchHoldTimeout a => Sys2Proof.Machine.execSwatchHoldTimeout a s
  | .runtimeTrainingTimeout a => Sys2Proof.Machine.execRuntimeTrainingTimeout a s
  | .oscPeriodExpiry a b => Sys2Proof.Machine.execOscPeriodExpiry a b s
  | .lifelineSave a => Sys2Proof.Machine.execLifelineSave a s
  | .gearReq a b => Sys2Proof.Machine.execGearReq a b s
  | .gearChangeEnter => Sys2Proof.Machine.execGearChangeEnter s
  | .gearChangeDone a => Sys2Proof.Machine.execGearChangeDone a s
  | .gearPolicyWindow a => Sys2Proof.Machine.execGearPolicyWindow a s
  | .thermalPoll => Sys2Proof.Machine.execThermalPoll s
  | .pmicPoll => Sys2Proof.Machine.execPmicPoll s
  | .powerDownEntry a => Sys2Proof.Machine.execPowerDownEntry a s
  | .selfRefreshEntry a => Sys2Proof.Machine.execSelfRefreshEntry a s
  | .selfRefreshWake a => Sys2Proof.Machine.execSelfRefreshWake a s
  | .dormantEntry => Sys2Proof.Machine.execDormantEntry s
  | .dormantWake a => Sys2Proof.Machine.execDormantWake a s
  | .dormantTimerExpiry => Sys2Proof.Machine.execDormantTimerExpiry s
  | .wakeComplete => Sys2Proof.Machine.execWakeComplete s
  | .pfNFall => Sys2Proof.Machine.execPfNFall s
  | .bindOffComplete => Sys2Proof.Machine.execBindOffComplete s
  | .scrubReadDecode a b => Sys2Proof.Machine.execScrubReadDecode a b s
  | .scrubDeadlineMiss a => Sys2Proof.Machine.execScrubDeadlineMiss a s
  | .scrubCfgCommit a b => Sys2Proof.Machine.execScrubCfgCommit a b s
  | .errorLeak => Sys2Proof.Machine.execErrorLeak s
  | .deviceMarked a b c => Sys2Proof.Machine.execDeviceMarked a b c s
  | .pprStart a b => Sys2Proof.Machine.execPprStart a b s
  | .pprModeEnter => Sys2Proof.Machine.execPprModeEnter s
  | .pprDone a => Sys2Proof.Machine.execPprDone a s
  | .pprTimeout => Sys2Proof.Machine.execPprTimeout s
  | .sparingStart a => Sys2Proof.Machine.execSparingStart a s
  | .sparingComplete a => Sys2Proof.Machine.execSparingComplete a s
  | .softRepairReq a b => Sys2Proof.Machine.execSoftRepairReq a b s
  | .sparingReq a b => Sys2Proof.Machine.execSparingReq a b s
  | .clearCounters a b => Sys2Proof.Machine.execClearCounters a b s
  | .dbgReadLine a b => Sys2Proof.Machine.execDbgReadLine a b s
  | .dbgMrr a b => Sys2Proof.Machine.execDbgMrr a b s
  | .dbgOpDone a => Sys2Proof.Machine.execDbgOpDone a s
  | .heartbeatSend => Sys2Proof.Machine.execHeartbeatSend s
  | .heartbeatLoss => Sys2Proof.Machine.execHeartbeatLoss s
  | .helloSend => Sys2Proof.Machine.execHelloSend s
  | .joinTimeout => Sys2Proof.Machine.execJoinTimeout s
  | .censusToken => Sys2Proof.Machine.execCensusToken s
  | .censusResult => Sys2Proof.Machine.execCensusResult s
  | .heartbeat => Sys2Proof.Machine.execHeartbeat s
  | .reloadRequest => Sys2Proof.Machine.execReloadRequest s
  | .reloadAck => Sys2Proof.Machine.execReloadAck s
  | .staleReply => Sys2Proof.Machine.execStaleReply s
  | .roleChange => Sys2Proof.Machine.execRoleChange s
  | .hello => Sys2Proof.Machine.execHello s
  | .resilverStart => Sys2Proof.Machine.execResilverStart s
  | .resilverDone => Sys2Proof.Machine.execResilverDone s
  | .poisonLine => Sys2Proof.Machine.execPoisonLine s
  | .resilverLine a b => Sys2Proof.Machine.execResilverLine a b s
  | .roleChangeInitiate => Sys2Proof.Machine.execRoleChangeInitiate s
  | .roleChangeConfirmTimeout => Sys2Proof.Machine.execRoleChangeConfirmTimeout s
  | .mirRotate a b => Sys2Proof.Machine.execMirRotate a b s
  | .mirBreak a b => Sys2Proof.Machine.execMirBreak a b s
  | .mirRejoin a b => Sys2Proof.Machine.execMirRejoin a b s
  | .mirTakeover a b => Sys2Proof.Machine.execMirTakeover a b s
  | .censusPeriod => Sys2Proof.Machine.execCensusPeriod s
  | .chiozResend a => Sys2Proof.Machine.execChiozResend a s
  | .censusHopTimeout a => Sys2Proof.Machine.execCensusHopTimeout a s
  | .imgReload a b => Sys2Proof.Machine.execImgReload a b s
  | .reloadFetchDone => Sys2Proof.Machine.execReloadFetchDone s
  | .reloadQuiescePoint => Sys2Proof.Machine.execReloadQuiescePoint s
  | .imgBcastReload a b => Sys2Proof.Machine.execImgBcastReload a b s
  | .imgBcastWithdraw a b => Sys2Proof.Machine.execImgBcastWithdraw a b s
  | .reloadBcastResend a => Sys2Proof.Machine.execReloadBcastResend a s
  | .glgIDoorbell a b c => Sys2Proof.Machine.execGlgIDoorbell a b c s
  | .glgIDescDataAccess a b => Sys2Proof.Machine.execGlgIDescDataAccess a b s
  | .glgICplDataRead a b => Sys2Proof.Machine.execGlgICplDataRead a b s
  | .glgStateDataAccess a => Sys2Proof.Machine.execGlgStateDataAccess a s
  | .glgIAbort a b c => Sys2Proof.Machine.execGlgIAbort a b c s
  | .glgIFlush a b c => Sys2Proof.Machine.execGlgIFlush a b c s
  | .jobStart a => Sys2Proof.Machine.execJobStart a s
  | .granuleDone a b => Sys2Proof.Machine.execGranuleDone a b s
  | .jobEnd a => Sys2Proof.Machine.execJobEnd a s
  | .granuleTimeout a => Sys2Proof.Machine.execGranuleTimeout a s
  | .freezeTakeEffect a => Sys2Proof.Machine.execFreezeTakeEffect a s
  | .mboxAssign a b => Sys2Proof.Machine.execMboxAssign a b s
  | .mboxUnassign a b => Sys2Proof.Machine.execMboxUnassign a b s
  | .mboxAbort a b => Sys2Proof.Machine.execMboxAbort a b s
  | .mboxFreeze a b => Sys2Proof.Machine.execMboxFreeze a b s
  | .mboxThaw a b => Sys2Proof.Machine.execMboxThaw a b s
  | .mboxSave a b => Sys2Proof.Machine.execMboxSave a b s
  | .mboxRestore a b => Sys2Proof.Machine.execMboxRestore a b s
  | .mboxNotify a b => Sys2Proof.Machine.execMboxNotify a b s
  | .glgPuSwap a b => Sys2Proof.Machine.execGlgPuSwap a b s
  | .pvRearmPrecise a b => Sys2Proof.Machine.execPvRearmPrecise a b s
  | .pvRearmImprecise a b => Sys2Proof.Machine.execPvRearmImprecise a b s
  | .glgProbe a b => Sys2Proof.Machine.execGlgProbe a b s
  | .evtChainTake a => Sys2Proof.Machine.execEvtChainTake a s
  | .evtIrqDelayExpiry => Sys2Proof.Machine.execEvtIrqDelayExpiry s
  | .vddqInvalid => Sys2Proof.Machine.execVddqInvalid s

end Sys2Proof.Machine
end

