-- ==== Sys2Proof/Machine/Flags.lean ====
section
/-! DEFINITION. The level outputs of the macro that no other file forms (03, 04, 14). -/

namespace Sys2Proof.Machine

/-- irq_inst[n] (R470, R81). -/
def irqTenant (s : State) (n : Fin 64) : Bool := s.glb.ctl ≠ .reset && irqInst s (n.castLE (by decide))

/-- irq_mgr (R470, R81). -/
def irqMgr (s : State) : Bool :=
  s.glb.ctl ≠ .reset && (irqInst s 64 || decide (regGet s 0x30000 &&& regGet s 0x30004 &&& 0x3F ≠ 0))

/-- rtp_panic (R124). -/
def rtpPanic (s : State) : Bool := s.qos.panic

/-- qz_ack and qz_paused (R76, R77). -/
def qzAck (s : State) : Bool := s.qz.ack
def qzPaused (s : State) : Bool := s.qz.paused

/-- rg_ready (R35; low also while a write waits for a wake). (DEDUCED, log 10) -/
def rgReady (s : State) : Bool := portReady s

end Sys2Proof.Machine
end

