-- ==== Sys2Proof/Machine/Groups.lean ====
section
/-! DEFINITION. The groups of registers in which frames are stated. -/

namespace Sys2Proof.Machine

/-- The group of a register: 0 to 17 the blocks of 02, "Block index", for what the controller itself writes
(status, counters, SQ registers), 18 the pages of the Gliog instances, 19 what only register writes and the
image set (plain, protected and write-only registers, data ports, the loads). -/
def regGroup (off : Nat) : Nat :=
  if 0x40000 ≤ off || off / 0x1000 == 0x31 then 18
  else match rowOf off with
    | none => blockOf off
    | some r =>
      match r.kind with
      | .ro | .sq => blockOf off
      | .rw | .wd | .cfg | .live | .wo | .pp | .ppc | .port => 19

end Sys2Proof.Machine
end

