-- ==== Sys2Proof/Machine/Pieces.lean ====
section
/-! DEFINITION. The pieces of State, and which of them a command may change. -/

namespace Sys2Proof.Machine

/-- A piece of State. -/
inductive Piece where
  /-- the time base and the cycles of the core clock -/
  | clock
  /-- the state of the controller -/
  | control
  /-- the halt cause -/
  | halt
  /-- the Cast-On step -/
  | castOnStep
  /-- the active gear -/
  | gear
  /-- the strapped identifier, channels and image base -/
  | straps
  /-- the level of pf_n -/
  | powerFail
  /-- whether the core clock runs -/
  | coreClock
  /-- the level of VDDQ -/
  | supply
  /-- the attempts at PLL lock -/
  | pll
  /-- the fuse words -/
  | fuses
  /-- whether the acknowledge of an image or fuse word still stands -/
  | ackLine
  /-- the channels: latches, exclusion, DIMM data -/
  | channels
  /-- the DIMM slots of the management buses -/
  | slots
  /-- the training that runs at Cast-On -/
  | training
  /-- the bits of the regions that are initialised, their copy, and the waits for them -/
  | regions
  /-- whether service was reached, and whether a restart runs -/
  | service
  /-- the pause request and its two qualifiers -/
  | pauseInput
  /-- the pause and its acknowledge -/
  | pause
  /-- the refresh units -/
  | refresh
  /-- whether refresh is doubled, and the MR4 readings -/
  | refreshRate
  /-- the row counters, their cache and what they wait for -/
  | rowCounters
  /-- what the devices' alert back-off asks for -/
  | backoff
  /-- the rolling activation counts -/
  | rolling
  /-- the partitions -/
  | partitions
  /-- the virtual times of ingress -/
  | virtualTime
  /-- the token buckets -/
  | buckets
  /-- the wheel of guarantees and the refill tick -/
  | wheel
  /-- the staged and the waiting words of the partition table -/
  | partitionTable
  /-- what is in panic, and the urgent input -/
  | panic
  /-- the peak of the RTP wait -/
  | rtpPeak
  /-- where the return of credits stands -/
  | creditRound
  /-- the PHY of each sub-channel -/
  | phy
  /-- the stored PHY program -/
  | lifeline
  /-- the PHY program of boot -/
  | bootPoint
  /-- the gear change that waits or runs, and the gear policy -/
  | gearChange
  /-- which PHY programs run on old values -/
  | shadow
  /-- the error counters of the devices and their marks -/
  | faultUnits
  /-- the log of the last errors -/
  | errorLog
  /-- the patrol scrub -/
  | scrub
  /-- the row repair and the repair list -/
  | repair
  /-- the spare ranks -/
  | sparing
  /-- the debug operation -/
  | debug
  /-- what scrubbing fetches from the peer -/
  | scrubFetch
  /-- the requests that wait for egress -/
  | egressQueue
  /-- the requests in flight on egress, and their peak -/
  | egressSlots
  /-- whether this controller is the primary -/
  | pairRole
  /-- the state of the pair, its cause and its times -/
  | pairState
  /-- the epoch of the pair -/
  | epoch
  /-- what the peer has said of its epoch and protocol -/
  | peerKnown
  /-- the heartbeats of the peer -/
  | heartbeats
  /-- the bits of the dirty regions, their copy and their messages -/
  | dirty
  /-- the walk of the resilver -/
  | resilver
  /-- the role change that runs -/
  | roleChange
  /-- the stored record of the pair -/
  | pairRecord
  /-- whether a request to the pair runs -/
  | pairRequest
  /-- the locked lines of the pair -/
  | lineLocks
  /-- the stored messages -/
  | inbox
  /-- the sequence of the messages sent -/
  | sequence
  /-- the round of the census and its results -/
  | census
  /-- the snapshot that software reads -/
  | snapshot
  /-- the messages that wait for their answer -/
  | outbox
  /-- the applied image -/
  | image
  /-- the fetch of an image and the staged words -/
  | fetch
  /-- the reload -/
  | reload
  /-- the broadcast of a reload -/
  | broadcast
  /-- the Gliog instances and the order of their turns -/
  | instances
  /-- the window of a saved instance -/
  | stateWindow
  /-- the rule set in force and the swap that waits -/
  | ruleSets
  /-- whether a mailbox command runs -/
  | mailbox
  /-- the wide values of the CRC sets in force -/
  | crcSets
  /-- the power states of the ranks and what they owe -/
  | ranksPower
  /-- the wake that runs, the writes that wait for it and when DORMANT began -/
  | wake
  /-- the throttle controller -/
  | throttle
  /-- the temperatures and the critical mark -/
  | temperature
  /-- the Bind-Off -/
  | bindOff
  /-- the event records not yet taken, and their sequence -/
  | records
  /-- the chain of event records and the one that is read -/
  | chain
  /-- what limits the rate of records -/
  | limits
  /-- the expiry counts of the timers -/
  | expiries
  /-- the pending protected write -/
  | protectedWrite
  /-- the ports: credits, beats, flags -/
  | ports
  /-- the requests that are not yet retired -/
  | requests
  /-- the number of the next request -/
  | numbers
  /-- the schedulers and what the DRAM buses carry -/
  | scheduler
  /-- the alert and the replay of each channel -/
  | alert
  /-- the commands that wait -/
  | queue
  /-- the stored registers of a group -/
  | regs (group : Nat)
  deriving DecidableEq, Repr

/-- The piece is the same in both states. -/
def same (p : Piece) (s t : State) : Prop :=
  match p with
  | .clock => t.glb.now = s.glb.now ∧ t.glb.cc = s.glb.cc
  | .control => t.glb.ctl = s.glb.ctl
  | .halt => t.glb.haltCause = s.glb.haltCause
  | .castOnStep => t.glb.step = s.glb.step
  | .gear => t.glb.gear = s.glb.gear
  | .straps => t.glb.ctlId = s.glb.ctlId ∧ t.glb.chanEn = s.glb.chanEn ∧ t.glb.imgBase = s.glb.imgBase
  | .powerFail => t.glb.pfN = s.glb.pfN
  | .coreClock => t.glb.coreRun = s.glb.coreRun
  | .supply => t.glb.vddqOk = s.glb.vddqOk
  | .pll => t.glb.pllTries = s.glb.pllTries
  | .fuses => t.glb.fuses = s.glb.fuses
  | .ackLine => t.glb.ackGap = s.glb.ackGap
  | .channels => t.glb.ch = s.glb.ch
  | .slots => t.glb.slot = s.glb.slot
  | .training => t.glb.train = s.glb.train
  | .regions => t.glb.init = s.glb.init ∧ t.glb.initCopy = s.glb.initCopy ∧ t.glb.initWait = s.glb.initWait ∧ t.glb.onDemand = s.glb.onDemand ∧ t.glb.zero = s.glb.zero
  | .service => t.glb.served = s.glb.served ∧ t.glb.restart = s.glb.restart
  | .pauseInput => t.qz.req = s.qz.req ∧ t.qz.hold = s.qz.hold ∧ t.qz.deep = s.qz.deep
  | .pause => t.qz.ph = s.qz.ph ∧ t.qz.ack = s.qz.ack ∧ t.qz.paused = s.qz.paused
  | .refresh => t.ref.units = s.ref.units
  | .refreshRate => t.ref.doubled = s.ref.doubled ∧ t.ref.mr4 = s.ref.mr4
  | .rowCounters => t.ref.groups = s.ref.groups ∧ t.ref.cache = s.ref.cache ∧ t.ref.clock = s.ref.clock ∧ t.ref.posted = s.ref.posted ∧ t.ref.fetching = s.ref.fetching ∧ t.ref.due = s.ref.due ∧ t.ref.rcHeld = s.ref.rcHeld
  | .backoff => t.ref.abo = s.ref.abo ∧ t.ref.aboLate = s.ref.aboLate
  | .rolling => t.ref.raa = s.ref.raa
  | .partitions => t.qos.parts = s.qos.parts
  | .virtualTime => t.qos.vt = s.qos.vt
  | .buckets => t.qos.tb = s.qos.tb
  | .wheel => t.qos.wheel = s.qos.wheel ∧ t.qos.tick = s.qos.tick
  | .partitionTable => t.qos.staging = s.qos.staging ∧ t.qos.pendingQpt = s.qos.pendingQpt ∧ t.qos.pendingMore = s.qos.pendingMore
  | .panic => t.qos.panic = s.qos.panic ∧ t.qos.urgent = s.qos.urgent
  | .rtpPeak => t.qos.peakRtp = s.qos.peakRtp
  | .creditRound => t.qos.lastCrdRd = s.qos.lastCrdRd ∧ t.qos.lastCrdWr = s.qos.lastCrdWr
  | .phy => t.phy.sc = s.phy.sc
  | .lifeline => t.phy.lifeline = s.phy.lifeline ∧ t.phy.llChanged = s.phy.llChanged ∧ t.phy.llBuf = s.phy.llBuf
  | .bootPoint => t.phy.boot = s.phy.boot
  | .gearChange => t.phy.gearWait = s.phy.gearWait ∧ t.phy.gearPending = s.phy.gearPending ∧ t.phy.gearTo = s.phy.gearTo ∧ t.phy.policyRun = s.phy.policyRun
  | .shadow => t.phy.shadow = s.phy.shadow
  | .faultUnits => t.ras.units = s.ras.units
  | .errorLog => t.ras.log = s.ras.log
  | .scrub => t.ras.scrub = s.ras.scrub
  | .repair => t.ras.ppr = s.ras.ppr ∧ t.ras.pprWait = s.ras.pprWait ∧ t.ras.rpl = s.ras.rpl
  | .sparing => t.ras.spare = s.ras.spare ∧ t.ras.reached = s.ras.reached
  | .debug => t.ras.dbg = s.ras.dbg
  | .scrubFetch => t.ras.fetch = s.ras.fetch
  | .egressQueue => t.egp.waiting = s.egp.waiting
  | .egressSlots => t.egp.slots = s.egp.slots ∧ t.egp.peak = s.egp.peak
  | .pairRole => t.mir.primary = s.mir.primary
  | .pairState => t.mir.pair = s.mir.pair ∧ t.mir.cause = s.mir.cause ∧ t.mir.hold5 = s.mir.hold5 ∧ t.mir.hold6 = s.mir.hold6 ∧ t.mir.degradedAt = s.mir.degradedAt ∧ t.mir.joinLate = s.mir.joinLate
  | .epoch => t.mir.epoch = s.mir.epoch
  | .peerKnown => t.mir.peerEpoch = s.mir.peerEpoch ∧ t.mir.proto = s.mir.proto
  | .heartbeats => t.mir.alive = s.mir.alive ∧ t.mir.missedBeats = s.mir.missedBeats ∧ t.mir.exchange = s.mir.exchange
  | .dirty => t.mir.dirty = s.mir.dirty ∧ t.mir.dirtyCopy = s.mir.dirtyCopy ∧ t.mir.recordMsgs = s.mir.recordMsgs
  | .resilver => t.mir.walk = s.mir.walk ∧ t.mir.walkOk = s.mir.walkOk
  | .roleChange => t.mir.role = s.mir.role ∧ t.mir.unconf = s.mir.unconf
  | .pairRecord => t.mir.record = s.mir.record ∧ t.mir.retained = s.mir.retained
  | .pairRequest => t.mir.ctlBusy = s.mir.ctlBusy
  | .lineLocks => t.mir.locks = s.mir.locks
  | .inbox => t.dom.inbox = s.dom.inbox
  | .sequence => t.dom.seqOut = s.dom.seqOut
  | .census => t.dom.round = s.dom.round ∧ t.dom.res = s.dom.res ∧ t.dom.startedAt = s.dom.startedAt ∧ t.dom.lowInitAt = s.dom.lowInitAt ∧ t.dom.told = s.dom.told
  | .snapshot => t.dom.snap = s.dom.snap ∧ t.dom.snapHeld = s.dom.snapHeld
  | .outbox => t.dom.out = s.dom.out
  | .image => t.img.words = s.img.words ∧ t.img.applied = s.img.applied
  | .fetch => t.img.staging = s.img.staging ∧ t.img.fetch = s.img.fetch
  | .reload => t.img.rl = s.img.rl
  | .broadcast => t.img.bcastId = s.img.bcastId ∧ t.img.bcastBack = s.img.bcastBack ∧ t.img.bcastTo = s.img.bcastTo ∧ t.img.bcastPh = s.img.bcastPh ∧ t.img.appliedBy = s.img.appliedBy
  | .instances => t.glg.inst = s.glg.inst ∧ t.glg.turn = s.glg.turn
  | .stateWindow => t.glg.window = s.glg.window
  | .ruleSets => t.glg.activeSet = s.glg.activeSet ∧ t.glg.swapPending = s.glg.swapPending
  | .mailbox => t.glg.mboxBusy = s.glg.mboxBusy
  | .crcSets => t.glg.wide = s.glg.wide
  | .ranksPower => t.pwr.sc = s.pwr.sc ∧ t.pwr.due = s.pwr.due
  | .wake => t.pwr.waking = s.pwr.waking ∧ t.pwr.deferred = s.pwr.deferred ∧ t.pwr.dormantAt = s.pwr.dormantAt
  | .throttle => t.pwr.integ = s.pwr.integ ∧ t.pwr.u = s.pwr.u
  | .temperature => t.pwr.critical = s.pwr.critical ∧ t.pwr.tMax = s.pwr.tMax
  | .bindOff => t.pwr.bo = s.pwr.bo
  | .records => t.evt.buf = s.evt.buf ∧ t.evt.nextSeq = s.evt.nextSeq
  | .chain => t.evt.chain = s.evt.chain ∧ t.evt.pend = s.evt.pend
  | .limits => t.evt.lim = s.evt.lim
  | .expiries => t.evt.expiries = s.evt.expiries
  | .protectedWrite => t.pp = s.pp
  | .ports => t.ports = s.ports
  | .requests => t.reqs = s.reqs
  | .numbers => t.nextId = s.nextId
  | .scheduler => t.sched = s.sched
  | .alert => t.alert = s.alert
  | .queue => t.pending = s.pending
  | .regs k => ∀ off, regGroup off = k → regGet t off = regGet s off

/-- The registers of the groups. -/
abbrev regsOf (l : List Nat) : List Piece := l.map .regs

/-- The pieces that a command may change. What the controller drives outwards for one command (`out`) and the
counter of free values (`free`) are the model's own fields and belong to no piece. -/
def mayChange (c : Instr) : List Piece :=
  match c with
  | .aonRstAssert =>
    [.clock, .control, .halt, .castOnStep, .gear, .straps, .powerFail, .coreClock, .supply, .pll, .fuses,
      .ackLine, .channels, .slots, .training, .regions, .service, .pauseInput, .pause, .refresh, .refreshRate,
      .rowCounters, .backoff, .rolling, .partitions, .virtualTime, .buckets, .wheel, .partitionTable, .panic,
      .rtpPeak, .creditRound, .phy, .lifeline, .bootPoint, .gearChange, .shadow, .faultUnits, .errorLog,
      .scrub, .repair, .sparing, .debug, .scrubFetch, .egressQueue, .egressSlots, .pairRole, .pairState,
      .epoch, .peerKnown, .heartbeats, .dirty, .resilver, .roleChange, .pairRecord, .pairRequest, .lineLocks,
      .inbox, .sequence, .census, .snapshot, .outbox, .image, .fetch, .reload, .broadcast, .instances,
      .stateWindow, .ruleSets, .mailbox, .crcSets, .ranksPower, .wake, .throttle, .temperature, .bindOff,
      .records, .chain, .limits, .expiries, .protectedWrite, .ports, .requests, .numbers, .scheduler, .alert]
      ++ regsOf [0, 1, 2, 3, 4, 5, 6, 7, 8, 9, 10, 11, 12, 13, 14, 15, 16, 17, 18, 19]
  | .aonRstRelease _ _ _ _ =>
    [.control, .castOnStep, .straps, .powerFail, .supply, .channels, .partitions, .panic, .rtpPeak,
      .gearChange, .requests, .scheduler] ++ regsOf [0, 6, 15]
  | .aonStartDone => [.castOnStep, .powerFail, .fetch]
  | .imgWordAck _ _ =>
    [.control, .halt, .castOnStep, .ackLine, .channels, .partitions, .egressQueue, .sequence, .fetch, .reload,
      .broadcast, .records] ++ regsOf [0, 1, 3]
  | .imgWordTimeout =>
    [.control, .halt, .channels, .partitions, .egressQueue, .sequence, .fetch, .reload, .broadcast, .records,
      .limits, .expiries] ++ regsOf [0, 1, 3]
  | .imgVerifyDone => [.control, .halt, .castOnStep, .fuses, .channels, .partitions] ++ regsOf [0, 3]
  | .fuseWordAck _ =>
    [.control, .halt, .castOnStep, .pll, .fuses, .ackLine, .channels, .partitions] ++ regsOf [0]
  | .fuseWordTimeout => [.control, .halt, .channels, .partitions, .records, .limits, .expiries] ++ regsOf [0, 1]
  | .pllLock =>
    [.castOnStep, .gear, .coreClock, .pll, .channels, .regions, .partitions, .partitionTable, .panic,
      .rtpPeak, .gearChange, .egressQueue, .sequence, .image, .fetch, .reload, .broadcast, .crcSets, .records,
      .requests, .scheduler]
      ++ regsOf [0, 1, 2, 3, 4, 5, 6, 7, 8, 9, 10, 11, 12, 13, 14, 15, 16, 17, 18, 19]
  | .pllLockTimeout =>
    [.control, .halt, .pll, .channels, .partitions, .panic, .rtpPeak, .gearChange, .wake, .records, .limits,
      .expiries, .requests, .scheduler] ++ regsOf [0, 1, 6, 15]
  | .phyZqDone _ => [.control, .halt, .castOnStep, .channels, .slots, .partitions, .throttle] ++ regsOf [0]
  | .phyZqTimeout => [.control, .halt, .channels, .partitions, .records, .limits, .expiries] ++ regsOf [0, 1]
  | .i3cTransactionDone _ _ _ => [.slots]
  | .i3cTransactionTimeout _ _ _ => [.slots, .records, .limits, .expiries] ++ regsOf [1]
  | .sidebandDone =>
    [.control, .halt, .castOnStep, .channels, .regions, .refresh, .rowCounters, .backoff, .rolling,
      .partitions, .repair, .sparing, .dirty, .records, .scheduler] ++ regsOf [0, 1, 19]
  | .dimmInitDone _ _ =>
    [.control, .halt, .castOnStep, .gear, .channels, .training, .regions, .refresh, .rowCounters, .rolling,
      .partitions, .phy, .repair, .ranksPower, .records, .scheduler] ++ regsOf [0, 1, 9, 10, 12, 14, 19]
  | .dimmInitTimeout _ =>
    [.control, .halt, .castOnStep, .gear, .channels, .training, .regions, .refresh, .rowCounters, .rolling,
      .partitions, .phy, .records, .limits, .expiries, .scheduler] ++ regsOf [0, 1, 9, 10, 12]
  | .trainingStepDone _ _ _ =>
    [.control, .halt, .castOnStep, .gear, .channels, .training, .regions, .refresh, .rowCounters, .rolling,
      .partitions, .phy, .lifeline, .bootPoint, .gearChange, .shadow, .faultUnits, .scrub, .repair, .sparing,
      .dirty, .pairRecord, .records, .scheduler] ++ regsOf [0, 1, 9, 10, 11, 12, 14, 15]
  | .trainingStepTimeout _ _ =>
    [.control, .halt, .castOnStep, .gear, .channels, .training, .regions, .refresh, .rowCounters, .rolling,
      .partitions, .phy, .lifeline, .bootPoint, .gearChange, .shadow, .faultUnits, .scrub, .repair, .sparing,
      .dirty, .pairRecord, .records, .limits, .expiries, .scheduler] ++ regsOf [0, 1, 9, 10, 11, 12, 14, 15]
  | .carveOutDone => [.castOnStep]
  | .carveOutWatchdog _ =>
    [.control, .halt, .channels, .partitions, .records, .limits, .expiries] ++ regsOf [0, 1]
  | .serviceEntry =>
    [.control, .service, .pause, .partitions, .panic, .rtpPeak, .gearChange, .pairRole, .pairState, .epoch,
      .heartbeats, .roleChange, .pairRecord, .pairRequest, .lineLocks, .fetch, .reload, .instances, .ruleSets,
      .ports, .requests, .scheduler] ++ regsOf [0, 5, 6, 10, 15, 16]
  | .regionZeroed _ => [.regions, .scheduler] ++ regsOf [0]
  | .registerWrite _ =>
    [.pll, .regions, .partitions, .partitionTable, .panic, .rtpPeak, .phy, .lifeline, .gearChange,
      .faultUnits, .scrub, .repair, .sparing, .debug, .egressQueue, .pairRole, .pairState, .epoch, .heartbeats,
      .dirty, .roleChange, .pairRequest, .lineLocks, .sequence, .outbox, .fetch, .reload, .broadcast,
      .instances, .stateWindow, .ruleSets, .mailbox, .crcSets, .wake, .records, .chain, .protectedWrite,
      .ports, .requests, .scheduler]
      ++ regsOf [0, 1, 2, 3, 4, 5, 6, 7, 8, 9, 10, 11, 12, 13, 14, 15, 16, 17, 18, 19]
  | .sqWrite _ =>
    [.pll, .regions, .partitions, .partitionTable, .panic, .rtpPeak, .phy, .lifeline, .gearChange,
      .faultUnits, .scrub, .repair, .sparing, .debug, .egressQueue, .pairRole, .pairState, .epoch, .heartbeats,
      .dirty, .roleChange, .pairRequest, .lineLocks, .sequence, .outbox, .fetch, .reload, .broadcast,
      .instances, .stateWindow, .ruleSets, .mailbox, .crcSets, .wake, .records, .chain, .protectedWrite,
      .ports, .requests, .scheduler]
      ++ regsOf [0, 1, 2, 3, 4, 5, 6, 7, 8, 9, 10, 11, 12, 13, 14, 15, 16, 17, 18, 19]
  | .ppWrite _ =>
    [.pll, .regions, .partitions, .partitionTable, .panic, .rtpPeak, .phy, .lifeline, .gearChange,
      .faultUnits, .scrub, .repair, .sparing, .debug, .egressQueue, .pairRole, .pairState, .epoch, .heartbeats,
      .dirty, .roleChange, .pairRequest, .lineLocks, .sequence, .outbox, .fetch, .reload, .broadcast,
      .instances, .stateWindow, .ruleSets, .mailbox, .crcSets, .wake, .records, .chain, .protectedWrite,
      .ports, .requests, .scheduler]
      ++ regsOf [0, 1, 2, 3, 4, 5, 6, 7, 8, 9, 10, 11, 12, 13, 14, 15, 16, 17, 18, 19]
  | .ppConfirm _ =>
    [.pll, .regions, .partitions, .partitionTable, .panic, .rtpPeak, .phy, .lifeline, .gearChange,
      .faultUnits, .scrub, .repair, .sparing, .debug, .egressQueue, .pairRole, .pairState, .epoch, .heartbeats,
      .dirty, .roleChange, .pairRequest, .lineLocks, .sequence, .outbox, .fetch, .reload, .broadcast,
      .instances, .stateWindow, .ruleSets, .mailbox, .crcSets, .wake, .records, .chain, .protectedWrite,
      .ports, .requests, .scheduler]
      ++ regsOf [0, 1, 2, 3, 4, 5, 6, 7, 8, 9, 10, 11, 12, 13, 14, 15, 16, 17, 18, 19]
  | .ppWindowExpiry => [.records, .protectedWrite] ++ regsOf [1]
  | .glbLockSet _ _ => [.pll, .wake, .records, .protectedWrite] ++ regsOf [1, 19]
  | .indexWrite _ =>
    [.pll, .regions, .partitions, .partitionTable, .panic, .rtpPeak, .phy, .lifeline, .gearChange,
      .faultUnits, .scrub, .repair, .sparing, .debug, .egressQueue, .pairRole, .pairState, .epoch, .heartbeats,
      .dirty, .roleChange, .pairRequest, .lineLocks, .sequence, .outbox, .fetch, .reload, .broadcast,
      .instances, .stateWindow, .ruleSets, .mailbox, .crcSets, .wake, .records, .chain, .protectedWrite,
      .ports, .requests, .scheduler]
      ++ regsOf [0, 1, 2, 3, 4, 5, 6, 7, 8, 9, 10, 11, 12, 13, 14, 15, 16, 17, 18, 19]
  | .evtDataRead _ _ => [.chain] ++ regsOf [1]
  | .evtFlush _ _ => [.chain] ++ regsOf [1]
  | .domSnapDataRead _ => [.snapshot]
  | .qptDataAccess _ => [.pll, .partitionTable, .wake] ++ regsOf [19]
  | .qptRdSelWrite _ _ => [.pll, .wake] ++ regsOf [19]
  | .qptCommit _ _ => [.pll, .partitionTable, .wake, .records, .protectedWrite] ++ regsOf [1, 8, 19]
  | .phyLlSelWrite _ _ => [.pll, .lifeline, .wake] ++ regsOf [19]
  | .phyLlDataRead _ => regsOf [19]
  | .rasRplDataRead _ => regsOf [19]
  | .mapProbe _ _ => [.pll, .wake] ++ regsOf [13, 19]
  | .read _ _ =>
    [.regions, .partitions, .panic, .rtpPeak, .gearChange, .records, .ports, .requests, .numbers, .scheduler]
      ++ regsOf [1, 5, 6, 7, 15]
  | .writeFull _ _ =>
    [.regions, .partitions, .panic, .rtpPeak, .gearChange, .records, .ports, .requests, .numbers, .scheduler]
      ++ regsOf [1, 5, 6, 7, 15]
  | .writePartial _ _ =>
    [.regions, .partitions, .panic, .rtpPeak, .gearChange, .records, .ports, .requests, .numbers, .scheduler]
      ++ regsOf [1, 5, 6, 7, 15]
  | .writePoison _ _ =>
    [.regions, .partitions, .panic, .rtpPeak, .gearChange, .records, .ports, .requests, .numbers, .scheduler]
      ++ regsOf [1, 5, 6, 7, 15]
  | .barrier _ _ =>
    [.regions, .partitions, .panic, .rtpPeak, .gearChange, .records, .ports, .requests, .numbers, .scheduler]
      ++ regsOf [1, 5, 6, 7, 15]
  | .peerMirrorWrite _ _ =>
    [.regions, .partitions, .panic, .rtpPeak, .gearChange, .records, .ports, .requests, .numbers, .scheduler]
      ++ regsOf [1, 5, 6, 7, 15]
  | .peerMirrorRead _ _ =>
    [.regions, .partitions, .panic, .rtpPeak, .gearChange, .records, .ports, .requests, .numbers, .scheduler]
      ++ regsOf [1, 5, 6, 7, 15]
  | .peerMessage _ _ =>
    [.regions, .partitions, .panic, .rtpPeak, .gearChange, .records, .ports, .requests, .numbers, .scheduler]
      ++ regsOf [1, 5, 6, 7, 15]
  | .reservedOpcode _ _ _ =>
    [.regions, .partitions, .panic, .rtpPeak, .gearChange, .records, .ports, .requests, .numbers, .scheduler]
      ++ regsOf [1, 5, 6, 7, 15]
  | .writeDataBeat _ _ _ =>
    [.regions, .partitions, .panic, .rtpPeak, .gearChange, .inbox, .ports, .requests, .scheduler]
      ++ regsOf [4, 6, 15]
  | .creditReturn _ => [.creditRound, .ports]
  | .portTransactionTimeout _ _ =>
    [.partitions, .panic, .rtpPeak, .gearChange, .records, .limits, .expiries, .ports, .requests, .scheduler]
      ++ regsOf [1, 6, 15]
  | .rtpUrgentChange _ => [.partitions, .panic, .rtpPeak, .gearChange, .requests, .scheduler] ++ regsOf [6, 15]
  | .egpRequestIssue _ =>
    [.regions, .scrubFetch, .egressQueue, .egressSlots, .pairState, .dirty, .resilver, .roleChange,
      .lineLocks, .sequence, .outbox, .instances, .records, .limits, .ports, .requests, .scheduler]
      ++ regsOf [0, 1, 2, 4, 5, 6, 9, 14, 16]
  | .egpResponse _ _ _ _ _ _ =>
    [.regions, .partitions, .panic, .rtpPeak, .gearChange, .scrubFetch, .egressQueue, .egressSlots, .pairRole,
      .pairState, .epoch, .heartbeats, .dirty, .resilver, .roleChange, .pairRequest, .lineLocks, .sequence,
      .outbox, .instances, .records, .limits, .ports, .requests, .scheduler]
      ++ regsOf [0, 1, 4, 5, 6, 9, 14, 15, 16]
  | .egpSlotTimeout _ =>
    [.regions, .scrubFetch, .egressQueue, .egressSlots, .pairState, .dirty, .resilver, .roleChange,
      .lineLocks, .sequence, .outbox, .instances, .records, .limits, .expiries, .ports, .requests, .scheduler]
      ++ regsOf [0, 1, 4, 5, 6, 9, 14, 16]
  | .qzReqRise _ _ => [.pauseInput, .pause]
  | .pauseTakeEffect => [.control, .pause, .partitions, .ports, .scheduler] ++ regsOf [0, 10]
  | .deepPauseSrDone =>
    [.channels, .pause, .rowCounters, .rolling, .ranksPower, .scheduler] ++ regsOf [9, 10, 12]
  | .qzHoldExpiry =>
    [.control, .pause, .partitions, .panic, .rtpPeak, .gearChange, .fetch, .reload, .ports, .requests,
      .scheduler] ++ regsOf [0, 6, 10, 15]
  | .qzReqFall =>
    [.control, .pauseInput, .pause, .partitions, .panic, .rtpPeak, .gearChange, .fetch, .reload, .ports,
      .requests, .scheduler] ++ regsOf [0, 6, 10, 15]
  | .deepPauseExitDone =>
    [.control, .channels, .pause, .refresh, .rowCounters, .rolling, .partitions, .panic, .rtpPeak,
      .gearChange, .fetch, .reload, .ranksPower, .ports, .requests, .scheduler]
      ++ regsOf [0, 6, 9, 10, 12, 15]
  | .drainBarrierComplete => [.pause, .ports]
  | .ingressSelect _ =>
    [.regions, .partitions, .virtualTime, .buckets, .panic, .rtpPeak, .gearChange, .egressQueue, .dirty,
      .roleChange, .sequence, .records, .limits, .ports, .requests, .scheduler]
      ++ regsOf [0, 1, 2, 5, 6, 7, 9, 14, 15]
  | .mntArbitrate _ =>
    [.regions, .partitions, .buckets, .phy, .lifeline, .gearChange, .shadow, .scrub, .repair, .egressQueue,
      .pairState, .dirty, .resilver, .lineLocks, .sequence, .instances, .records, .limits, .ports, .requests,
      .scheduler] ++ regsOf [0, 1, 5, 6, 10, 14, 15, 16]
  | .schedulerIssue _ =>
    [.channels, .regions, .refresh, .rowCounters, .backoff, .rolling, .partitions, .buckets, .phy, .lifeline,
      .gearChange, .shadow, .sparing, .egressQueue, .dirty, .lineLocks, .ranksPower, .bindOff, .records,
      .limits, .expiries, .ports, .requests, .scheduler, .alert] ++ regsOf [0, 1, 6, 9, 10, 12, 15]
  | .readDecode _ _ =>
    [.regions, .phy, .scrub, .repair, .egressQueue, .dirty, .instances, .records, .limits, .ports, .requests,
      .scheduler] ++ regsOf [0, 1, 5, 6, 14, 16]
  | .mergeReadDecode _ _ =>
    [.regions, .phy, .scrub, .egressQueue, .dirty, .roleChange, .sequence, .records, .limits, .ports,
      .requests, .scheduler] ++ regsOf [0, 1, 5, 6, 9, 14]
  | .writeBurstDone _ => [.ports, .requests, .scheduler]
  | .heldReadRelease _ =>
    [.scrub, .egressQueue, .records, .limits, .ports, .requests, .scheduler] ++ regsOf [1, 6, 14]
  | .alertRecognised _ =>
    [.regions, .refresh, .repair, .sparing, .debug, .scrubFetch, .egressQueue, .dirty, .roleChange, .sequence,
      .records, .limits, .expiries, .ports, .requests, .scheduler, .alert] ++ regsOf [0, 1, 5, 6, 14, 17]
  | .alertRelease _ _ =>
    [.backoff, .partitions, .dirty, .lineLocks, .bindOff, .records, .limits, .expiries, .scheduler, .alert]
      ++ regsOf [1, 9, 10, 12]
  | .replayAttemptEnd _ => [.lineLocks, .records, .limits, .scheduler] ++ regsOf [1, 9, 14]
  | .alertHeldLowTimeout _ =>
    [.dirty, .bindOff, .records, .limits, .expiries, .scheduler, .alert] ++ regsOf [1, 9]
  | .channelRecoveryDone _ =>
    [.regions, .refresh, .rowCounters, .rolling, .phy, .repair, .sparing, .debug, .scrubFetch, .egressQueue,
      .dirty, .roleChange, .lineLocks, .sequence, .records, .limits, .expiries, .ports, .requests, .scheduler,
      .alert] ++ regsOf [0, 1, 5, 6, 9, 12, 14, 17]
  | .channelRecoveryTimeout _ =>
    [.regions, .refresh, .repair, .sparing, .debug, .scrubFetch, .egressQueue, .dirty, .roleChange, .sequence,
      .records, .limits, .expiries, .ports, .requests, .scheduler, .alert] ++ regsOf [0, 1, 5, 6, 14, 17]
  | .progressWatchdogExpiry _ =>
    [.rowCounters, .rolling, .dirty, .bindOff, .records, .limits, .expiries, .scheduler, .alert]
      ++ regsOf [1, 9, 12]
  | .refreshSlot _ _ =>
    [.refresh, .refreshRate, .rowCounters, .rolling, .partitions, .ranksPower, .expiries, .scheduler]
      ++ regsOf [9, 10, 12]
  | .refreshPostpone _ _ => [.refresh] ++ regsOf [12]
  | .mr4Poll _ _ => [.refreshRate, .ranksPower, .temperature, .records, .scheduler] ++ regsOf [1, 2, 7]
  | .backoffRfmDeadline _ => [.backoff, .records, .limits, .expiries] ++ regsOf [1]
  | .epochAdvance _ _ => [.refresh, .rowCounters, .scheduler]
  | .ledgerFetchDone _ _ => [.rowCounters, .phy, .scrub, .records, .limits, .scheduler] ++ regsOf [1, 12, 14]
  | .ledgerFetchTimeout _ => [.rowCounters, .records, .limits, .expiries, .scheduler] ++ regsOf [1, 12]
  | .refillTick =>
    [.partitions, .buckets, .wheel, .partitionTable, .records, .limits, .requests] ++ regsOf [1, 2, 7, 8]
  | .qosGuaranteeMiss _ => [.partitions, .records, .limits] ++ regsOf [1, 7]
  | .wheelSlot => [.partitions, .wheel]
  | .scoutPointDone _ _ _ => [.phy, .records, .limits] ++ regsOf [1, 15]
  | .scoutBackoffEnd _ _ => [.phy]
  | .roleExchange _ _ => [.phy, .lifeline, .records, .limits] ++ regsOf [1, 15]
  | .forcedSwapWindow _ => [.phy, .lifeline, .gearChange, .shadow, .scheduler] ++ regsOf [15]
  | .swatchPeriodExpiry _ => [.phy]
  | .swatchReq _ _ => [.pll, .phy, .wake, .records, .protectedWrite] ++ regsOf [1]
  | .swatchRunStart _ => [.phy, .scheduler] ++ regsOf [15]
  | .swatchRunEnd _ _ => [.phy, .lifeline, .records, .limits, .scheduler] ++ regsOf [1, 15]
  | .swatchHoldTimeout _ => [.phy, .records, .limits, .expiries, .scheduler] ++ regsOf [1, 15]
  | .runtimeTrainingTimeout _ => [.phy, .records, .limits, .expiries, .scheduler] ++ regsOf [1, 15]
  | .oscPeriodExpiry _ _ => [.phy, .ranksPower, .scheduler]
  | .lifelineSave _ => [.lifeline, .scheduler]
  | .gearReq _ _ => [.pll, .gearChange, .wake, .records, .protectedWrite] ++ regsOf [1, 15, 19]
  | .gearChangeEnter =>
    [.control, .rowCounters, .rolling, .partitions, .phy, .gearChange, .ranksPower, .scheduler]
      ++ regsOf [0, 9, 10, 12, 15]
  | .gearChangeDone _ =>
    [.control, .gear, .channels, .pause, .refresh, .rowCounters, .rolling, .partitions, .panic, .rtpPeak,
      .phy, .gearChange, .shadow, .fetch, .reload, .ranksPower, .ports, .requests, .scheduler]
      ++ regsOf [0, 6, 9, 10, 11, 12, 15]
  | .gearPolicyWindow _ => [.gearChange, .scheduler] ++ regsOf [15]
  | .thermalPoll => [.slots, .throttle, .temperature, .records, .limits] ++ regsOf [1, 2, 7]
  | .pmicPoll => [.slots]
  | .powerDownEntry _ => [.rowCounters, .rolling, .ranksPower, .scheduler] ++ regsOf [2, 9, 10, 12]
  | .selfRefreshEntry _ => [.channels, .rowCounters, .rolling, .ranksPower, .scheduler] ++ regsOf [2, 9, 10, 12]
  | .selfRefreshWake _ =>
    [.channels, .refresh, .rowCounters, .rolling, .ranksPower, .scheduler] ++ regsOf [9, 10, 12]
  | .dormantEntry => [.control, .coreClock, .partitions, .wake] ++ regsOf [0, 2]
  | .dormantWake _ =>
    [.pll, .regions, .partitions, .partitionTable, .panic, .rtpPeak, .phy, .lifeline, .gearChange,
      .faultUnits, .scrub, .repair, .sparing, .debug, .egressQueue, .pairRole, .pairState, .epoch, .heartbeats,
      .dirty, .roleChange, .pairRequest, .lineLocks, .sequence, .outbox, .fetch, .reload, .broadcast,
      .instances, .stateWindow, .ruleSets, .mailbox, .crcSets, .wake, .records, .chain, .protectedWrite,
      .ports, .requests, .scheduler]
      ++ regsOf [0, 1, 2, 3, 4, 5, 6, 7, 8, 9, 10, 11, 12, 13, 14, 15, 16, 17, 18, 19]
  | .dormantTimerExpiry => [.pll, .wake]
  | .wakeComplete =>
    [.control, .coreClock, .pll, .channels, .regions, .pause, .refresh, .rowCounters, .rolling, .partitions,
      .partitionTable, .panic, .rtpPeak, .phy, .lifeline, .gearChange, .faultUnits, .scrub, .repair, .sparing,
      .debug, .egressQueue, .pairRole, .pairState, .epoch, .heartbeats, .dirty, .roleChange, .pairRequest,
      .lineLocks, .sequence, .outbox, .fetch, .reload, .broadcast, .instances, .stateWindow, .ruleSets,
      .mailbox, .crcSets, .ranksPower, .wake, .records, .chain, .protectedWrite, .ports, .requests, .scheduler]
      ++ regsOf [0, 1, 2, 3, 4, 5, 6, 7, 8, 9, 10, 11, 12, 13, 14, 15, 16, 17, 18, 19]
  | .pfNFall =>
    [.control, .powerFail, .channels, .regions, .pause, .refresh, .rowCounters, .backoff, .rolling,
      .partitions, .panic, .rtpPeak, .phy, .gearChange, .repair, .sparing, .scrubFetch, .egressQueue, .dirty,
      .fetch, .reload, .instances, .mailbox, .ranksPower, .wake, .bindOff, .records, .ports, .requests,
      .scheduler, .alert] ++ regsOf [0, 1, 3, 5, 6, 9, 10, 12, 14, 15]
  | .bindOffComplete => [.control, .coreClock, .channels, .partitions, .records] ++ regsOf [0, 1]
  | .scrubReadDecode _ _ =>
    [.phy, .faultUnits, .errorLog, .scrub, .repair, .sparing, .scrubFetch, .egressQueue, .records, .limits,
      .scheduler] ++ regsOf [1, 14]
  | .scrubDeadlineMiss _ => [.scrub, .records] ++ regsOf [1, 14]
  | .scrubCfgCommit _ _ => [.pll, .scrub, .wake, .records, .protectedWrite, .scheduler] ++ regsOf [1, 19]
  | .errorLeak => [.faultUnits]
  | .deviceMarked _ _ _ => [.faultUnits, .repair, .sparing, .records, .scheduler] ++ regsOf [1, 14]
  | .pprStart _ _ => [.repair, .records, .scheduler] ++ regsOf [1, 14]
  | .pprModeEnter => [.rowCounters, .rolling, .repair, .scheduler] ++ regsOf [9, 12]
  | .pprDone _ => [.repair, .records, .scheduler] ++ regsOf [1, 14]
  | .pprTimeout => [.repair, .records, .limits, .expiries] ++ regsOf [1]
  | .sparingStart _ =>
    [.refresh, .rowCounters, .rolling, .sparing, .records, .scheduler] ++ regsOf [1, 9, 12, 14]
  | .sparingComplete _ =>
    [.refresh, .rowCounters, .rolling, .faultUnits, .repair, .sparing, .records, .scheduler]
      ++ regsOf [1, 9, 12, 14]
  | .softRepairReq _ _ => [.pll, .repair, .wake, .records, .protectedWrite] ++ regsOf [1, 14, 19]
  | .sparingReq _ _ => [.pll, .sparing, .wake, .records, .protectedWrite] ++ regsOf [1, 14, 19]
  | .clearCounters _ _ => [.pll, .faultUnits, .wake, .records, .protectedWrite] ++ regsOf [1, 14, 19]
  | .dbgReadLine _ _ => [.pll, .debug, .wake, .records, .protectedWrite, .scheduler] ++ regsOf [1, 17, 19]
  | .dbgMrr _ _ => [.pll, .debug, .wake, .records, .protectedWrite, .scheduler] ++ regsOf [1, 17, 19]
  | .dbgOpDone _ => [.phy, .scrub, .debug, .scheduler] ++ regsOf [14, 17]
  | .heartbeatSend => [.egressQueue, .heartbeats, .sequence]
  | .heartbeatLoss =>
    [.regions, .egressQueue, .pairState, .heartbeats, .dirty, .roleChange, .lineLocks, .instances, .records,
      .limits, .expiries, .ports, .requests, .scheduler] ++ regsOf [0, 1, 5, 6]
  | .helloSend => [.egressQueue, .sequence]
  | .joinTimeout =>
    [.regions, .egressQueue, .pairRole, .pairState, .epoch, .heartbeats, .dirty, .roleChange, .pairRequest,
      .lineLocks, .sequence, .instances, .records, .limits, .expiries, .ports, .requests, .scheduler]
      ++ regsOf [0, 1, 5, 6]
  | .censusToken => [.egressQueue, .inbox, .census, .snapshot, .outbox, .records] ++ regsOf [1, 4]
  | .censusResult => [.egressQueue, .inbox, .census, .snapshot, .outbox, .records] ++ regsOf [1, 4]
  | .heartbeat =>
    [.regions, .egressQueue, .pairState, .peerKnown, .heartbeats, .dirty, .roleChange, .lineLocks, .inbox,
      .sequence, .instances, .records, .ports, .requests, .scheduler] ++ regsOf [0, 1, 4, 5, 6]
  | .reloadRequest =>
    [.egressQueue, .inbox, .sequence, .fetch, .reload, .broadcast, .instances, .ruleSets, .records]
      ++ regsOf [1, 3, 16]
  | .reloadAck => [.inbox, .broadcast] ++ regsOf [3]
  | .staleReply =>
    [.regions, .partitions, .panic, .rtpPeak, .gearChange, .egressQueue, .pairRole, .pairState, .epoch,
      .peerKnown, .heartbeats, .dirty, .roleChange, .pairRequest, .lineLocks, .inbox, .sequence, .instances,
      .records, .ports, .requests, .scheduler] ++ regsOf [0, 1, 4, 5, 6, 15]
  | .roleChange =>
    [.regions, .partitions, .panic, .rtpPeak, .gearChange, .egressQueue, .pairRole, .pairState, .epoch,
      .peerKnown, .heartbeats, .dirty, .roleChange, .pairRequest, .lineLocks, .inbox, .sequence, .instances,
      .records, .ports, .requests, .scheduler] ++ regsOf [0, 1, 4, 5, 6, 15]
  | .hello =>
    [.regions, .egressQueue, .pairRole, .pairState, .epoch, .peerKnown, .heartbeats, .dirty, .resilver,
      .roleChange, .pairRequest, .lineLocks, .inbox, .sequence, .instances, .records, .ports, .requests,
      .scheduler] ++ regsOf [0, 1, 5, 6]
  | .resilverStart => [.egressQueue, .pairState, .peerKnown, .inbox, .sequence] ++ regsOf [4]
  | .resilverDone => [.egressQueue, .pairState, .peerKnown, .inbox, .sequence] ++ regsOf [4, 5]
  | .poisonLine =>
    [.regions, .partitions, .panic, .rtpPeak, .gearChange, .egressQueue, .peerKnown, .inbox, .sequence,
      .ports, .requests, .scheduler] ++ regsOf [4, 6, 7, 15]
  | .resilverLine _ _ =>
    [.phy, .scrub, .egressQueue, .resilver, .lineLocks, .sequence, .records, .limits, .scheduler]
      ++ regsOf [1, 14]
  | .roleChangeInitiate =>
    [.regions, .egressQueue, .dirty, .roleChange, .pairRequest, .sequence, .ports, .requests, .scheduler]
      ++ regsOf [0, 5, 6]
  | .roleChangeConfirmTimeout =>
    [.regions, .partitions, .panic, .rtpPeak, .gearChange, .egressQueue, .pairRole, .pairState, .epoch,
      .heartbeats, .dirty, .roleChange, .pairRequest, .lineLocks, .instances, .records, .limits, .expiries,
      .ports, .requests, .scheduler] ++ regsOf [0, 1, 5, 6, 15]
  | .mirRotate _ _ => [.pll, .roleChange, .pairRequest, .wake, .records, .protectedWrite] ++ regsOf [1, 5, 19]
  | .mirBreak _ _ =>
    [.pll, .regions, .egressQueue, .pairState, .dirty, .roleChange, .pairRequest, .lineLocks, .instances,
      .wake, .records, .protectedWrite, .ports, .requests, .scheduler] ++ regsOf [0, 1, 5, 6, 19]
  | .mirRejoin _ _ => [.pll, .pairState, .pairRequest, .wake, .records, .protectedWrite] ++ regsOf [1, 5, 19]
  | .mirTakeover _ _ =>
    [.pll, .regions, .egressQueue, .pairRole, .pairState, .epoch, .heartbeats, .dirty, .roleChange,
      .pairRequest, .lineLocks, .sequence, .instances, .wake, .records, .protectedWrite, .ports, .requests,
      .scheduler] ++ regsOf [0, 1, 5, 6, 19]
  | .censusPeriod => [.egressQueue, .census, .snapshot, .outbox, .records] ++ regsOf [1, 4]
  | .chiozResend _ => [.egressQueue]
  | .censusHopTimeout _ =>
    [.egressQueue, .census, .snapshot, .outbox, .records, .limits, .expiries] ++ regsOf [1, 4]
  | .imgReload _ _ =>
    [.pll, .egressQueue, .sequence, .fetch, .reload, .broadcast, .wake, .records, .protectedWrite]
      ++ regsOf [1, 3, 19]
  | .reloadFetchDone =>
    [.egressQueue, .sequence, .fetch, .reload, .broadcast, .instances, .crcSets, .records]
      ++ regsOf [0, 1, 2, 3, 4, 5, 6, 7, 8, 9, 10, 11, 12, 13, 14, 15, 16, 17, 18, 19]
  | .reloadQuiescePoint =>
    [.control, .castOnStep, .coreClock, .pll, .channels, .regions, .service, .refresh, .rowCounters, .rolling,
      .partitions, .partitionTable, .panic, .rtpPeak, .phy, .gearChange, .shadow, .scrub, .sparing,
      .egressQueue, .sequence, .image, .fetch, .reload, .broadcast, .crcSets, .ranksPower, .records, .requests,
      .scheduler] ++ regsOf [0, 1, 2, 3, 4, 5, 6, 7, 8, 9, 10, 11, 12, 13, 14, 15, 16, 17, 18, 19]
  | .imgBcastReload _ _ =>
    [.pll, .egressQueue, .sequence, .outbox, .fetch, .reload, .broadcast, .instances, .ruleSets, .wake,
      .records, .protectedWrite] ++ regsOf [1, 3, 16, 19]
  | .imgBcastWithdraw _ _ =>
    [.pll, .egressQueue, .sequence, .outbox, .fetch, .reload, .broadcast, .instances, .ruleSets, .wake,
      .records, .protectedWrite] ++ regsOf [1, 3, 16, 19]
  | .reloadBcastResend _ => [.egressQueue, .outbox, .broadcast, .records, .limits, .expiries] ++ regsOf [1, 3]
  | .glgIDoorbell _ _ _ => [.pll, .instances, .wake] ++ regsOf [16, 18]
  | .glgIDescDataAccess _ _ => [.pll, .instances, .wake] ++ regsOf [18]
  | .glgICplDataRead _ _ => [.instances] ++ regsOf [16, 18]
  | .glgStateDataAccess _ => [.pll, .stateWindow, .wake] ++ regsOf [19]
  | .glgIAbort _ _ _ => [.pll, .egressQueue, .instances, .wake, .records] ++ regsOf [1, 16, 18]
  | .glgIFlush _ _ _ => [.pll, .egressQueue, .instances, .wake, .records] ++ regsOf [1, 16, 18]
  | .jobStart _ => [.egressQueue, .instances, .records] ++ regsOf [1, 16]
  | .granuleDone _ _ => [.regions, .egressQueue, .instances, .records] ++ regsOf [1, 16]
  | .jobEnd _ => [.egressQueue, .instances, .ruleSets, .records] ++ regsOf [1, 16, 18]
  | .granuleTimeout _ => [.egressQueue, .instances, .records, .limits, .expiries, .scheduler] ++ regsOf [1, 16]
  | .freezeTakeEffect _ => [.egressQueue, .instances, .ruleSets, .mailbox, .records] ++ regsOf [1, 16, 18]
  | .mboxAssign _ _ =>
    [.pll, .egressQueue, .instances, .ruleSets, .mailbox, .wake, .records, .protectedWrite, .scheduler]
      ++ regsOf [1, 16, 18, 19]
  | .mboxUnassign _ _ =>
    [.pll, .egressQueue, .instances, .ruleSets, .mailbox, .wake, .records, .protectedWrite, .scheduler]
      ++ regsOf [1, 16, 18, 19]
  | .mboxAbort _ _ =>
    [.pll, .egressQueue, .instances, .mailbox, .wake, .records, .protectedWrite] ++ regsOf [1, 16, 18, 19]
  | .mboxFreeze _ _ => [.pll, .instances, .mailbox, .wake, .records, .protectedWrite] ++ regsOf [1, 16, 19]
  | .mboxThaw _ _ =>
    [.pll, .instances, .ruleSets, .mailbox, .wake, .records, .protectedWrite] ++ regsOf [1, 16, 19]
  | .mboxSave _ _ => [.pll, .stateWindow, .mailbox, .wake, .records, .protectedWrite] ++ regsOf [1, 16, 19]
  | .mboxRestore _ _ => [.pll, .instances, .mailbox, .wake, .records, .protectedWrite] ++ regsOf [1, 16, 19]
  | .mboxNotify _ _ => [.pll, .mailbox, .wake, .records, .protectedWrite] ++ regsOf [1, 16, 18, 19]
  | .glgPuSwap _ _ => [.pll, .ruleSets, .wake, .records, .protectedWrite] ++ regsOf [1, 16, 19]
  | .pvRearmPrecise _ _ => [.pll, .wake] ++ regsOf [16]
  | .pvRearmImprecise _ _ => [.pll, .wake] ++ regsOf [16]
  | .glgProbe _ _ => [.pll, .wake] ++ regsOf [16, 19]
  | .evtChainTake _ => [.records, .chain] ++ regsOf [1]
  | .evtIrqDelayExpiry => [.chain]
  | .vddqInvalid => [.supply, .channels]

end Sys2Proof.Machine
end

