-- ==== Sys2Proof/Machine/Views.lean ====
section
/-! DEFINITION. What a register read returns: the registers that show other state are formed here; the
rest are stored. A read has no effect but through a data port, which has a row of its own (R34, R39, R53). -/

namespace Sys2Proof.Machine

/-- GLB registers (02, 05). -/
def viewGlb (s : State) (off : Nat) : Option Word :=
  match off with
  | 0x0008 => some (s.glb.ctlId.setWidth 32)
  | 0x000C => some (pack [(if s.glb.ctl = .halted then s.glb.haltCause.toNat else 0, 16), (s.glb.step.toNat, 8), (s.glb.gear.val, 4), (s.glb.ctl.code, 0)])
  | 0x0018 => some (BitVec.ofNat 32 s.glb.now)
  | 0x001C => some (BitVec.ofNat 32 (s.glb.now / 2 ^ 32))
  | 0x0028 => some (pack [(b2n s.pp.isSome, 31), ((s.pp.map PpPend.off).getD 0, 0)])
  | 0x0044 => some (BitVec.ofNat 32 (1048576 - popMap s.glb.init))
  | _ => none

/-- EVT registers (16). -/
def viewEvt (s : State) (off : Nat) : Option Word :=
  let c := s.evt.chain
  let head := c.head?
  match off with
  | 0x2004 => some (pack [((c.map fun r => r.words.length).sum, 16), (c.length, 8), ((head.map fun r => r.words.length).getD 0, 0)])
  | 0x2014 => some (pack [(s.evt.nextSeq.toNat, 16), ((head.map fun r => r.seq.toNat).getD 0, 0)])
  | 0x2024 => some (kget 0 s.evt.expiries (regFld s 0x2020 4 0))
  | _ => none

def powerCode : ScPower → Nat
  | .active => 0 | .powerDown => 1 | .selfRefresh => 2

/-- The sensor of the selected DIMM. -/
def selSlot (s : State) : Slot := s.glb.slot.get (scN (2 * b2n (regBit s 0x3030 1) + b2n (regBit s 0x3030 0)))

/-- PWR registers (15). -/
def viewPwr (s : State) (off : Nat) : Option Word :=
  let p := selSlot s
  let t (i : Fin 3) : Nat := (p.sensors.get i).temp.toNat
  let v (i : Fin 3) : Nat := b2n (p.sensors.get i).valid
  match off with
  | 0x3024 => some (pack ([(b2n (s.glb.ctl = .dormant), 31), (b2n s.pwr.waking, 30)]
      ++ (fins 4).map fun x => (powerCode (s.pwr.sc.get x), 2 * x.val)))
  | 0x3028 => some (pack [(b2n s.pwr.critical, 31), (b2n (s.glb.slot.toList.any fun p => p.failsafe), 30),
      (s.pwr.u, 16), (s.pwr.tMax.toNat, 0)])
  | 0x302C => some (BitVec.ofInt 32 s.pwr.integ)
  | 0x3034 => some (pack [(t 0, 16), (t 1, 0)])
  | 0x3038 => some (pack [(t 2, 0)])
  | 0x303C => some (pack [(b2n p.failsafe, 31), (v 0, 30), (v 1, 29), (v 2, 28), (b2n p.pmicValid, 27), (p.pmic.toNat, 0)])
  | _ =>
    if 0x3040 ≤ off ∧ off < 0x3050 then
      let x := scN ((off - 0x3040) / 4)
      some (pack [(sat 0xFFFF (drainEst s x [] []), 16), (sat 0xFFFF (drainCap s s.glb.gear), 0)])
    else none

def pairCode : PairState → Nat
  | .disabled => 0 | .joining => 1 | .healthy => 2 | .degraded => 3 | .resilvering => 4

/-- IMG_RL_STATE. -/
def rlCode : RlState → Nat
  | .idle => 0 | .fetching => 1 | .waitService | .verified | .waitPoint => 2 | .restarting => 3

/-- IMG, DOM and MIR registers (12, 13). -/
def viewDom (s : State) (off : Nat) : Option Word :=
  let r := s.dom.res
  let t := r.map fun r => tokenOf r.words
  match off with
  | 0x4028 => some (regGet s 0x4028 ||| pack [(rlCode s.img.rl.st, 28)])
  | 0x403C => some (pack [(b2n (s.dom.out.any fun d => d.tries.isSome), 31), (s.img.bcastId.toNat, 16), (s.img.bcastTo.length, 0)])
  | 0x5010 => some (match r, t with
      | some r, some t => pack [(r.st.val, 30), (b2n t.incomplete, 29), (1, 28), (t.seen, 11), (t.skipped, 0)]
      | _, _ => 0)
  | 0x5014 => some (match r, t with
      | some r, some t => pack [(r.round.toNat, 16), (t.init, 0)]
      | _, _ => 0)
  | 0x5018 => some ((t.map fun t => pack [(t.hi, 16), (t.lo, 0)]).getD 0)
  | 0x501C => some ((t.map fun t => pack [(sat 255 t.invMm, 8), (sat 255 t.fullMm, 0)]).getD 0)
  | 0x5020 => some (BitVec.ofNat 32 ((r.map CensusRes.time).getD 0))
  | 0x5024 => some (BitVec.ofNat 32 ((r.map CensusRes.time).getD 0 / 2 ^ 32))
  | 0x5028 => some (pack [(b2n !s.dom.snap.isEmpty, 31), (s.dom.snap.length, 0)])
  | 0x6008 => some (pack [(b2n s.mir.primary, 31), (pairCode s.mir.pair, 28), (s.mir.cause.toNat, 24), (s.mir.proto.toNat, 20),
      (b2n s.mir.alive, 19), (b2n s.mir.retained, 18), (s.mir.epoch.toNat, 8), (s.mir.peerEpoch.toNat, 0)])
  | 0x600C => some (BitVec.ofNat 32 (popMap s.mir.dirty))
  | _ => if 0x4040 ≤ off ∧ off < 0x4054 then some (BitVec.ofNat 32 (bcastCount s (finOr 4 ((off - 0x4040) / 4)))) else none

/-- PRT and QOS registers (04, 09). -/
def viewPort (s : State) (off : Nat) : Option Word :=
  if 0x8000 ≤ off ∧ off < 0x8140 then
    let p := s.ports.get (finOr 4 ((off - 0x8000) / 0x40))
    if off % 0x40 = 4 then some (pack [(p.wrHeld, 16), (p.rdHeld, 0)])
    else if off % 0x40 = 8 then some (pack [(p.wrIn, 16), (p.rdIn, 0)])
    else none
  else if 0x9020 ≤ off ∧ off < 0x9030 then
    let x := scN ((off - 0x9020) / 4)
    some (pack [(b2n (decide (s.qos.tb.get x < 0)), 31), (resRd s x, 16), (resWr s x, 0)])
  else
    match off with
    | 0x8144 => some (pack [(s.qos.peakRtp, 16), (b2n s.qos.panic, 15), (rtpCount s, 0)])
    | 0x8200 => some (pack [(s.egp.peak, 16), (liveSlots s, 0)])
    | 0x9008 => some (BitVec.ofNat 32 s.qos.tick)
    | 0x900C => some (BitVec.ofNat 32 (s.qos.tick / 2 ^ 32))
    | 0x9030 => some (pack [(rtpCount s, 16), (ingressCount s, 0)])
    | _ => none

/-- The units of a sub-channel. -/
def refUnits (s : State) (x : Sc) : List RefUnit := (List.range (nUnits s)).map (refUnit s x)

/-- A debt as REF_UNIT shows it. The gate of a unit limits nothing that is held off the bus (an alert that stays
low), so a debt may pass the field: fields that a value can pass show the nearest value they hold.
(DESIGN CHOICE, log 61) -/
def debtShown (d : Int) : Nat := twos 5 (max (-16) (min 15 d))

/-- SCH, MNT and REF registers (07, 08). -/
def viewSched (s : State) (off : Nat) : Option Word :=
  if 0xC000 ≤ off ∧ off < 0xD000 ∧ off % 0x400 = 0xC then
    let q := s.sched.get (scN ((off - 0xC000) / 0x400))
    some (pack [(b2n q.writeMode, 31), (b2n q.fullDrain, 30), (b2n (decide (q.replay ≠ .none)), 29), (q.wq.length, 16), (q.rq.length, 0)])
  else if 0xD040 ≤ off ∧ off < 0xD050 then
    let x := scN ((off - 0xD040) / 4)
    let q := s.sched.get x
    some (pack ([(b2n q.holder.isSome, 31), (b2n (emergency s x), 30), ((q.holder.map Fin.val).getD 0, 27),
      (q.maskVec.toNat, 8)] ++ (fins 7).map fun i => (b2n (requesting s x i), 16 + i.val)))
  else if 0xD050 ≤ off ∧ off < 0xD060 then some (BitVec.ofNat 32 (sat 0xFFFF (s.sched.get (scN ((off - 0xD050) / 4))).burst))
  else if 0x10010 ≤ off ∧ off < 0x10020 then
    let x := scN ((off - 0x10010) / 4)
    let us := refUnits s x
    some (pack [(b2n (s.ref.doubled.get (chOf x)), 31), (b2n (us.any fun u => u.emergency), 30),
      (sat 15 (us.foldl (fun (m : Int) (u : RefUnit) => max m u.debt) 0).toNat, 20), (nUnits s, 8)])
  else
    match off with
    | 0x10024 =>
      let u := refUnit s (scN (regFld s 0x10020 7 6)) (regFld s 0x10020 5 0)
      some (pack [(u.epoch.toNat, 30), (debtShown u.debt, 25), (u.passCount, 0)])
    | 0x10034 => some (pack [(s.ref.cache.countP fun e => e.2.dirty, 16), (s.ref.cache.length, 0)])
    | _ => none

def spareCode : SpareState → Nat
  | .none => 0 | .available => 1 | .copying => 2 | .inService => 3

/-- RAS registers (11). -/
def viewRas (s : State) (off : Nat) : Option Word :=
  let x := scN (regFld s 0x14090 7 6)
  let u := rasUnit s x (regFld s 0x14090 5 0)
  let cnt (i : Nat) : Nat := (u.cnt.toList.getD i 0).toNat
  if 0x14040 ≤ off ∧ off < 0x14048 then
    let c := chN ((off - 0x14040) / 4)
    let a := s.alert.get c
    let p := s.ras.spare.get c
    some (pack [(if a.oos then 2 else b2n a.recovering, 30), (spareCode p.st, 28), (p.cs.toNat, 26), (p.replaced.toNat, 24),
      (p.frontier[0] / 2 ^ 18 + p.frontier[1] / 2 ^ 18, 0)])
  else if 0x14050 ≤ off ∧ off < 0x14090 ∧ off % 0x10 = 4 then
    some (BitVec.ofNat 32 ((s.ras.scrub.get (scN ((off - 0x14050) / 0x10))).done / 2 ^ 18))
  else if 0x14050 ≤ off ∧ off < 0x14090 ∧ off % 0x10 = 8 then
    some (BitVec.ofNat 32 (scrubRegions s (scN ((off - 0x14050) / 0x10))))
  else
    match off with
    | 0x14094 => some (pack [(b2n u.mark.isSome, 31), ((u.mark.map Fin.val).getD 0, 27), (u.ue.toNat, 16)])
    | 0x14098 => some (pack [(cnt 3, 24), (cnt 2, 16), (cnt 1, 8), (cnt 0, 0)])
    | 0x1409C => some (pack [(cnt 7, 24), (cnt 6, 16), (cnt 5, 8), (cnt 4, 0)])
    | 0x140A0 => some (pack [(cnt 9, 8), (cnt 8, 0)])
    | 0x140B8 => some (BitVec.ofNat 32 s.ras.rpl.length)
    | _ => none

/-- PHY_SEQ_Sn of a sub-channel: a swatch run without the grant is stalled (R313). (DEDUCED, log 21) -/
def seqCode (s : State) (x : Sc) : Nat :=
  match (s.phy.sc.get x).seq with
  | .idle => 0
  | .training => 1
  | .swatch => if swatchStalled s x then 4 else 2
  | .osc => 3
  | .walk => 5

/-- PHY_LANE_SCOUT_PHASE: a scout whose codes are on their way to its next point is moving. -/
def scoutCode (s : State) (x : Sc) (i : Nat) (a : Lane) : Nat :=
  if laneFrozen s x i then 6
  else if a.active && !a.standing then 4
  else match a.phase with
    | .idle => 0 | .left => 1 | .right => 2 | .up | .down => 3 | .confirming => 5

/-- Registers of the selected lane. -/
def viewLane (s : State) (off : Nat) : Option Word :=
  let x := scN (regFld s 0x20080 17 16)
  let i := regFld s 0x20080 13 8
  let g (f : Lane → Word) : Option Word := some (if h : i < 40 then f (laneAt s x ⟨i, h⟩) else 0)
  match off with
  | 0x20084 => g fun a => pack [(a.tx.toNat, 16), (a.liveCode.toNat, 0)]
  | 0x20088 => g fun a => pack [((if a.liveB then a.vrefA else a.vrefB).toNat, 16), (a.liveVref.toNat, 0)]
  | 0x2008C => g fun a => pack [(b2n a.liveB, 31), (scoutCode s x i a, 28), (a.scoutCode.toNat, 0)]
  | 0x20090 => g fun a => pack [(sat 0xFFFF a.width, 16), (sat 0xFFFF a.height, 0)]
  | 0x20094 => g fun _ => pack [((bootOf s x i).1.toNat, 16), ((bootOf s x i).2.toNat, 0)]
  | 0x20098 => g fun a => a.errs
  | _ => none

/-- Registers of the selected strobe group. -/
def viewGroup (s : State) (off : Nat) : Option Word :=
  let x := scN (regFld s 0x20080 17 16)
  let i := regFld s 0x20080 3 0
  let g (f : Group → Word) : Option Word := some (if h : i < 10 then f (strobeAt s x ⟨i, h⟩) else 0)
  match off with
  | 0x200C0 => g fun a => pack [(a.txs.toNat, 16), (a.gate.toNat, 0)]
  | 0x200C4 => g fun a => pack [(a.wrAlign.toNat, 4), (a.rdAlign.toNat, 0)]
  | 0x200C8 => g fun a => a.promotions
  | 0x200CC => g fun a => a.rejects
  | 0x200D0 => g fun a => a.settled
  | 0x200D4 => g fun a => pack [(a.rejectRun.toNat, 16), (a.reason.toNat, 0)]
  | 0x200D8 => g fun a => BitVec.ofNat 32 a.lastPromo
  | 0x200DC => g fun a => BitVec.ofNat 32 (a.lastPromo / 2 ^ 32)
  | _ => none

/-- PHY registers (10). -/
def viewPhy (s : State) (off : Nat) : Option Word :=
  if 0x20080 < off ∧ off < 0x200C0 then viewLane s off
  else if 0x200C0 ≤ off ∧ off < 0x20100 then viewGroup s off
  else if 0x20100 ≤ off ∧ off < 0x20140 ∧ off % 0x10 = 0 then some ((s.phy.sc.get (scN ((off - 0x20100) / 0x10))).caPhase.setWidth 32)
  else if off = 0x20030 then some (pack [(b2n (gearBusy s), 31), (regFld s 0x20030 30 0, 0)])
  else if off = 0x20038 then
    some (pack ([(b2n (s.phy.shadow ≠ 0), 31), (b2n (s.phy.shadow ≠ 0 && abortOnReload (image s)), 30)]
      ++ (fins 4).map fun x => (seqCode s x, 4 * x.val)))
  else none

/-- GLG registers and the pages of the instances (14). -/
def viewGlg (s : State) (off : Nat) : Option Word :=
  if off = 0x30038 then some (pack [(b2n s.glg.swapPending, 31), (b2n s.glg.activeSet, 30), (oldJobs s, 0)])
  else if 0x31000 ≤ off ∧ off < 0x32000 ∨ 0x100000 ≤ off then
    let i := pageInst off
    let a := s.glg.inst.get i
    match off % 0x1000 with
    | 0x00 => some (pack [(a.epoch.toNat, 24), (b2n a.enabled, 23), (b2n (isMgr i), 22), (s.glb.ctlId.toNat, 10), (i.val, 0)])
    | 0x10 => some (pack [(a.dbNext.toNat, 28), (a.queue.length, 25), (a.cpl.length, 22), (b2n a.job.isSome, 21), (b2n a.frozen, 20),
        (a.refuse.toNat, 16), ((a.job.map fun j => j.d.jobId).getD 0, 0)])
    | 0x1C => some (BitVec.ofNat 32 (6 * a.cpl.length - a.cplPos))
    | _ => none
  else none

/-- A register that shows other state. -/
def viewOf (s : State) (off : Nat) : Option Word :=
  if off < 0x2000 then viewGlb s off
  else if off < 0x3000 then viewEvt s off
  else if off < 0x4000 then viewPwr s off
  else if off < 0x8000 then viewDom s off
  else if off < 0xC000 then viewPort s off
  else if off < 0x12000 then viewSched s off
  else if off < 0x20000 then viewRas s off
  else if off < 0x30000 then viewPhy s off
  else viewGlg s off

/-- The value of a register that is no data port: 0 for a write-only register and where no register lies
(R39, R53). Until the image is applied, reads outside GLB and EVT return reset values (R138). A restart-class
reload applies its image at step 0x05 a second time; between its entry of that step and PLL lock the registers
keep showing the values of the image that was applied before. (DESIGN CHOICE, log 55) -/
def regRead (s : State) (off : Nat) : Word :=
  match rowOf off with
  | none => 0
  | some r =>
    match r.kind with
    | .wo | .ppc | .port => 0
    | _ =>
      if !s.img.applied && decide (0x3000 ≤ off) then r.reset
      else if off = 0x20020 then pack ((fins 4).map fun x => (b2n (s.phy.sc.get x).swReq, x.val))
      else (viewOf s off).getD (regGet s off)

/-- The answer to a read on the register port (R33 to R36, R39, R53): none while the port accepts nothing, DENIED
with data 0 in the register window without rg_priv, else OK with the value of the register; at an alias it is
that of the base register. A read of a data port at its own address has a row of the table of its own. -/
def readAnswer (a : RegAcc) (s : State) : Option Out :=
  if !portReady s then none
  else if !a.allowed then some (.reg 1 0)
  else if a.alias_ = 0 ∧ (rowOf a.off).any (fun r => r.kind = .port) then none
  else some (.reg 0 (regRead s a.off))

end Sys2Proof.Machine
end

