-- ==== Sys2Proof/Safety.lean ====
section
/-! DEFINITION. Safe runs: no step of the block ends in a fault or a refusal; and what it means that a
command completes. -/

namespace Sys2Proof

/-- A step from the state answers a next state. -/
def stepsOn (s : Machine.State) : Prop := ∃ t, Machine.step s = .next t

/-- n steps from the state all answer a next state. -/
def safeFor (n : Nat) (s : Machine.State) : Prop := ∃ t, Host.Core.run core n s = .next t

/-- The command completes in s: it answers a next state, and that state is as `p` says. -/
def completes (c : Instr) (s : Machine.State) (p : Machine.State → Prop) : Prop :=
  ∃ t, Machine.exec c s = .next t ∧ p t

end Sys2Proof
end

