-- ==== Sys2Proof/Certificates/Slice0/Obligations.lean ====
section
/-! DEFINITION. The statements for the provers: what each command does, what it leaves alone, and what
the whole machine keeps. -/

open Sys2Proof Sys2Proof.Machine

namespace Sys2Proof

/-- The timer's expiry is counted under its code (R518). -/
abbrev countsExpiry (code : Nat) (s t : State) : Prop :=
  kget 0 t.evt.expiries code = BitVec.ofNat 32 (min 0xFFFFFFFF ((kget 0 s.evt.expiries code).toNat + 1))

/-- The write on the register port is accepted, allowed, needs no wake and has an effect (02). -/
abbrev portOpen (s : State) (a : RegAcc) : Prop :=
  portReady s = true ∧ a.allowed = true ∧ s.glb.ctl ≠ .dormant ∧ inert s a = false

/-- A confirmed write at the protected register `off` commits the value v: it is pending in its window, and
the controller has reached SERVICE and is neither DORMANT nor HELD (02, R43). -/
abbrev confirms (s : State) (off : Nat) (v : Word) : Prop :=
  portReady s = true ∧ s.glb.served = true ∧ s.glb.ctl ≠ .dormant ∧ s.glb.ctl ≠ .held
    ∧ (s.pp.any fun p => decide (p.off = off) && decide (p.val = v) && !ppLate s p) = true

/-- The raise buffer of t is that of s with the record raised, the first of its command (R503, R504, R506). -/
abbrev records (ty : Nat) (sev : Fin 8) (src : Nat) (payload : List Word) (s t : State) : Prop :=
  t.evt.buf = (raise ty sev src payload (begin_ s)).evt.buf

/-- A PROTECT_FAULT was recorded: its reason, the offset and the value that the table of R45 names (R46). -/
abbrev faultRecorded (reason off : Nat) (v : Word) (s t : State) : Prop :=
  records 0x1E 0 0 [pack [(reason, 28), (off, 0)], v] s t

/-- A request of the class is taken: the port samples it, it has a credit, hold allows it, its tag is free
and the controller answers requests (R97, R101, R102, R111). -/
abbrev portTakes (s : State) (p : PortId) (wr : Bool) (tag : BitVec 10) : Prop :=
  sampled s = true ∧ hasCredit s p wr = true ∧ holdForbids (portCycle p s) p = false ∧ outstanding s p tag = none
    ∧ s.glb.ctl ≠ .halted

/-- Every request has a number of its own, below the next one. -/
abbrev idsFresh (s : State) : Prop := (s.reqs.map Req.id).Nodup ∧ ∀ r ∈ s.reqs, r.id < s.nextId

/-- The request has entered the table under the next number, on line l, in the given phase, unanswered. -/
abbrev entered (s t : State) (p : PortId) (op : Op) (h : ReqHdr) (l : Lla) (ph : Phase) : Prop :=
  t.nextId = s.nextId + 1 ∧ ∃ r ∈ t.reqs, r.id = s.nextId ∧ r.port = p ∧ r.op = op ∧ r.addr = h.addr ∧ r.tag = h.tag
    ∧ r.gen = h.gen ∧ r.lla = l ∧ r.phase = ph ∧ r.answered = false
/-- The oldest stored message that the test picks is g, and it comes from the peer of the pair (R439). -/
abbrev hears (s : State) (f : Vector Word 8 → Bool) (g : Msg) : Prop :=
  s.dom.inbox.find? (fun m => f m.words) = some g ∧ fromPeer s g.words = true
/-- EGP is asked, after what waits, for the message of the type to dst: the sequence is the count of messages sent, and the
payload follows the two header words (R406, R438). -/
abbrev sends (ty : Nat) (dst : BitVec 10) (epoch : Nat) (pay : List Word) (why : EgpFor) (s t : State) : Prop :=
  t.egp.waiting = s.egp.waiting
    ++ [msgReq s dst (msgWords ty (protoNow s) s.glb.ctlId.toNat dst.toNat s.dom.seqOut.toNat epoch pay) why]
/-- A mailbox command v names instance i at its owner epoch, and none is in progress (R471). -/
abbrev mboxFor (s : State) (v : Word) (i : InstId) : Prop :=
  s.glg.mboxBusy = false ∧ i.val = fld v 6 0 ∧ fld v 23 16 = (instOf s i).epoch.toNat

/-- One cycle of aclk passes: the time base and the core clock advance, an acknowledge of a word is over, every port
samples hold, and the delay codes move on. -/
abbrev cyclePasses (s : State) : State :=
  forAll (fins 4) codesGoOn { s with
    out := []
    raised := 0
    glb := { s.glb with
      now := s.glb.now + 1
      cc := if s.glb.coreRun then s.glb.cc + 2 * rateOf s s.glb.gear else s.glb.cc
      ackGap := false }
    ports := s.ports.map fun p => { p with held := holdNow s, seen := none } }

end Sys2Proof

/-- AON_RST_ASSERT puts the controller in RESET with time 0, every register at its reset value, no request, no pending write and no event, keeping the levels of pf_n and of VDDQ and the retention latches (that the levels of inputs outlive the assertion is the model's choice, log 35). AON_RST_RELEASE takes the straps, enters CAST_ON at step 1 and keeps a latch only of an enabled channel. AON_START_DONE starts the image fetch at the strapped base. (R61, R66, R67, R131, R132) -/
def Obligations.ResetAndStraps : Prop :=
  (∀ (s : State),
    completes .aonRstAssert s fun t =>
      t.glb.ctl = .reset
      ∧ t.glb.now = 0
      ∧ t.regs = State.reset.regs
      ∧ t.pp = none
      ∧ t.reqs = []
      ∧ t.evt = State.reset.evt
      ∧ t.pending = s.pending
      ∧ t.glb.pfN = s.glb.pfN
      ∧ t.glb.vddqOk = s.glb.vddqOk
      ∧ (∀ c : Ch, (t.glb.ch.get c).latch = (s.glb.ch.get c).latch))
  ∧ (∀ (s : State) (id : BitVec 10) (en : BitVec 2) (base : BitVec 6) (pf : Bool),
    s.glb.ctl = .reset →
    completes (.aonRstRelease id en base pf) s fun t =>
      t.glb.ctl = .castOn
      ∧ t.glb.step = 1
      ∧ t.glb.ctlId = id
      ∧ t.glb.chanEn = en
      ∧ t.glb.imgBase = base
      ∧ t.glb.pfN = pf
      ∧ t.glb.now = s.glb.now
      ∧ regBit t 0x10 1 = true
      ∧ (∀ c : Ch, (t.glb.ch.get c).latch = ((s.glb.ch.get c).latch && en.getLsbD c.val)))
  ∧ ∀ (s : State),
    atStep s 1 = true →
    completes .aonStartDone s fun t =>
      t.glb.step = 2
      ∧ t.glb.pfN = true
      ∧ t.img.staging = []
      ∧ t.img.fetch = some ⟨false, s.glb.imgBase, none⟩

/-- While a fetch has words left a word is requested at the base address plus the words staged, but for the cycle after an acknowledge. Each word acknowledged is appended to the staged words, with img_req low until the next tick. The sixteenth word completes the header: its length, if in range, is the length of the fetch, else Cast-On halts with cause 0x03. At Cast-On the last word ends the fetch and leads to step 3; before that the step stays. A read error halts with cause 0x01, the word timer with cause 0x02, and each refuses a reload with reason 2 at IMG_RELOAD_STATE; an expiry is counted. (R67, R69, R132, R133, R134, R429, R430, R518) -/
def Obligations.ImageWords : Prop :=
  (∀ (s : State) (f : Fetch),
    s.img.fetch = some f →
    imgReq s = (!fetchedAll s && !s.glb.ackGap)
      ∧ imgAddr s = BitVec.ofNat 22 (f.base.toNat * 2 ^ 16 + s.img.staging.length))
  ∧ (∀ (s : State) (f : Fetch) (w : Word) (n : Nat),
    s.img.fetch = some f →
    imgReq s = true →
    f.len = some n →
    s.img.staging.length ≠ 15 →
    completes (.imgWordAck w false) s fun t =>
      t.img.staging = s.img.staging ++ [w]
      ∧ imgReq t = false
      ∧ (if f.reload = false ∧ n / 4 ≤ s.img.staging.length + 1 then t.glb.step = 3 ∧ t.img.fetch = none
      else t.glb.step = s.glb.step ∧ t.img.fetch = some f)
      ∧ t.glb.ctl = s.glb.ctl)
  ∧ (∀ (s : State) (f : Fetch) (w : Word),
    s.img.fetch = some f →
    imgReq s = true →
    f.len = none →
    s.img.staging.length < 15 →
    completes (.imgWordAck w false) s fun t =>
      t.img.staging = s.img.staging ++ [w]
      ∧ t.img.fetch = some f
      ∧ t.glb.step = s.glb.step
      ∧ imgReq t = false)
  ∧ (∀ (s : State) (f : Fetch) (w : Word),
    s.img.fetch = some f →
    imgReq s = true →
    f.reload = false →
    s.img.staging.length = 15 →
    s.glb.ctl = .castOn →
    completes (.imgWordAck w false) s fun t =>
      t.img.staging = s.img.staging ++ [w]
      ∧ (if lengthOk (hdrLength (s.img.staging ++ [w])) = true
      then t.glb.ctl = .castOn ∧ (if hdrLength (s.img.staging ++ [w]) / 4 ≤ 16 then t.img.fetch = none
        ∧ t.glb.step = 3
      else t.img.fetch = some { f with len := some (hdrLength (s.img.staging ++ [w])) } ∧ t.glb.step = s.glb.step)
      else t.img.fetch = none ∧ t.glb.ctl = .halted ∧ t.glb.haltCause = 0x03))
  ∧ (∀ (s : State) (f : Fetch) (w : Word),
    s.img.fetch = some f →
    imgReq s = true →
    f.reload = false →
    s.glb.ctl = .castOn →
    completes (.imgWordAck w true) s fun t =>
      t.glb.ctl = .halted
      ∧ t.glb.haltCause = 0x01
      ∧ t.img.fetch = none)
  ∧ (∀ (s : State) (f : Fetch),
    s.img.fetch = some f →
    imgReq s = true →
    f.reload = false →
    s.glb.ctl = .castOn →
    completes .imgWordTimeout s fun t =>
      t.glb.ctl = .halted
      ∧ t.glb.haltCause = 0x02
      ∧ t.img.fetch = none
      ∧ countsExpiry 0x0D s t)
  ∧ (∀ (s : State) (f : Fetch),
    s.img.fetch = some f →
    imgReq s = true →
    f.reload = true →
    completes .imgWordTimeout s fun t =>
      t.img.fetch = none
      ∧ t.glb.ctl = s.glb.ctl
      ∧ countsExpiry 0x0D s t
      ∧ regGet t 0x4028 = pack [(4, 24), (2, 16), (s.img.rl.id.toNat, 8)])
  ∧ ∀ (s : State) (f : Fetch) (w : Word),
    s.img.fetch = some f →
    imgReq s = true →
    f.reload = true →
    completes (.imgWordAck w true) s fun t =>
      t.img.fetch = none
      ∧ t.glb.ctl = s.glb.ctl
      ∧ regGet t 0x4028 = pack [(4, 24), (2, 16), (s.img.rl.id.toNat, 8)]

/-- While step 4 has words left, fuse_rd asks for the word at the next address, but for the cycle after an acknowledge. IMG_VERIFY_DONE goes on to step 4 with an empty fuse list if every check of the staged image passes, else it halts with cause 0x03. A fuse word is appended; the 640th word ends the step, with step 5 if the map is correct and HALTED with cause 0x05 if not. The fuse timer halts with cause 0x04 and counts its expiry. (R67, R135, R136, R293, R429, R518) -/
def Obligations.VerifyAndFuses : Prop :=
  (∀ (s : State),
    atStep s 3 = true →
    completes .imgVerifyDone s fun t =>
      (if verify s.img.staging s.glb.ctlId.toNat = none then t.glb.ctl = .castOn ∧ t.glb.step = 4 ∧ t.glb.fuses = []
      else t.glb.ctl = .halted ∧ t.glb.haltCause = 0x03))
  ∧ (∀ (s : State) (w : Word),
    fuseRd s = true →
    completes (.fuseWordAck w) s fun t =>
      t.glb.fuses = s.glb.fuses ++ [w]
      ∧ fuseRd t = false
      ∧ (if s.glb.fuses.length + 1 < 0x280 then t.glb.ctl = .castOn ∧ t.glb.step = 4
      else if fusesOk (s.glb.fuses ++ [w]) then t.glb.ctl = .castOn ∧ t.glb.step = 5
      else t.glb.ctl = .halted ∧ t.glb.haltCause = 0x05)
      ∧ (t.glb.ctl = s.glb.ctl ∨ t.glb.ctl = .halted))
  ∧ (∀ (s : State),
    fuseRd s = (atStep s 4 && decide (s.glb.fuses.length < 0x280) && !s.glb.ackGap)
      ∧ fuseAddr s = BitVec.ofNat 10 s.glb.fuses.length)
  ∧ ∀ (s : State),
    fuseRd s = true →
    completes .fuseWordTimeout s fun t =>
      t.glb.ctl = .halted
      ∧ t.glb.haltCause = 0x04
      ∧ countsExpiry 0x0E s t

/-- PLL_LOCK starts the core clock at the boot gear of the staged image, whose words become those of the applied image, takes into the sequence the channels that the strap enables and the profile of this controller has, and leads to step 6. A lock timeout is counted and retried twice, the third halts with cause 0x06. PHY_ZQ_DONE leads to step 7, a code at an end of its range or the timer halts with cause 0x07. (R137, R138, R139, R140, R163, R518) -/
def Obligations.ClocksAndPads : Prop :=
  (∀ (s : State),
    atStep s 5 = true →
    completes .pllLock s fun t =>
      t.glb.ctl = .castOn
      ∧ t.glb.step = 6
      ∧ t.glb.coreRun = true
      ∧ t.glb.gear = gearN (bootGear s.img.staging)
      ∧ t.img.applied = true
      ∧ t.img.words = s.img.staging
      ∧ (∀ c : Ch, (t.glb.ch.get c).inSeq
      = (s.glb.chanEn.getLsbD c.val && (profileOf s.img.staging s.glb.ctlId.toNat).channels.testBit c.val)))
  ∧ (∀ (s : State),
    atStep s 5 = true →
    completes .pllLockTimeout s fun t =>
      countsExpiry 0x0F s t
      ∧ (if s.glb.pllTries < 2 then t.glb.ctl = .castOn ∧ t.glb.step = 5 ∧ t.glb.pllTries = s.glb.pllTries + 1
      else t.glb.ctl = .halted ∧ t.glb.haltCause = 0x06))
  ∧ (∀ (s : State) (atEnd : Bool),
    atStep s 6 = true →
    completes (.phyZqDone atEnd) s fun t =>
      (if atEnd then t.glb.ctl = .halted ∧ t.glb.haltCause = 0x07 else t.glb.ctl = .castOn ∧ t.glb.step = 7))
  ∧ ∀ (s : State),
    atStep s 6 = true →
    completes .phyZqTimeout s fun t =>
      t.glb.ctl = .halted
      ∧ t.glb.haltCause = 0x07
      ∧ countsExpiry 0x10 s t

/-- I3C_TRANSACTION_DONE keeps the reading of a sensor (one that SIDEBAND finds, or a later one of a sensor found), what the SPD bytes say at SIDEBAND (in the layout of log 68), and a PMIC reading, with no failure counted. I3C_TRANSACTION_TIMEOUT counts the expiry of code 0x11; the first two failures of a transaction are counted and retried, the third gives the device up: the SPD absent, the PMIC without reading, the sensor's reading invalid and, at SIDEBAND, the sensor absent. (R141, R142, R143, R488, R489, R490, R518) -/
def Obligations.SidebandResults : Prop :=
  (∀ (s : State) (c : Ch) (k : Fin 2) (x : SensorId) (v : BitVec 16),
    busOwned s c = true →
    (atStep s 7 = true ∨ ((slotAt s c k).sensors.get (sensorIx x)).found = true) →
    completes (.i3cTransactionDone c k (.temp x v)) s fun t =>
      (slotAt t c k).sensors.get (sensorIx x) = ⟨true, v, true, true⟩
      ∧ (slotAt t c k).tries.get (sensorIx x) = 0)
  ∧ (∀ (s : State) (c : Ch) (k : Fin 2) (b : List Byte),
    busOwned s c = true →
    atStep s 7 = true →
    completes (.i3cTransactionDone c k (.spd b)) s fun t =>
      (slotAt t c k).spd = some (spdInfo b)
      ∧ (slotAt t c k).spdTries = 0)
  ∧ (∀ (s : State) (c : Ch) (k : Fin 2) (v : BitVec 16),
    busOwned s c = true →
    completes (.i3cTransactionDone c k (.pmic v)) s fun t =>
      (slotAt t c k).pmicNew = some v
      ∧ (slotAt t c k).pmicTries = 0)
  ∧ (∀ (s : State) (c : Ch) (k : Fin 2),
    busOwned s c = true →
    completes (.i3cTransactionTimeout c k .spd) s fun t =>
      countsExpiry 0x11 s t
      ∧ (if (slotAt s c k).spdTries < 2
      then (slotAt t c k).spdTries = (slotAt s c k).spdTries + 1 ∧ (slotAt t c k).spd = (slotAt s c k).spd
      else (slotAt t c k).spdTries = 0 ∧ (slotAt t c k).spd = none))
  ∧ (∀ (s : State) (c : Ch) (k : Fin 2),
    busOwned s c = true →
    completes (.i3cTransactionTimeout c k .pmic) s fun t =>
      countsExpiry 0x11 s t
      ∧ (if (slotAt s c k).pmicTries < 2
      then (slotAt t c k).pmicTries = (slotAt s c k).pmicTries + 1 ∧ (slotAt t c k).pmicNew = (slotAt s c k).pmicNew
      else (slotAt t c k).pmicTries = 0 ∧ (slotAt t c k).pmicNew = none))
  ∧ ∀ (s : State) (c : Ch) (k : Fin 2) (x : SensorId),
    busOwned s c = true →
    completes (.i3cTransactionTimeout c k (.sensor x)) s fun t =>
      countsExpiry 0x11 s t
      ∧ (if (slotAt s c k).tries.get (sensorIx x) < 2
      then (slotAt t c k).tries.get (sensorIx x) = (slotAt s c k).tries.get (sensorIx x) + 1
      ∧ (slotAt t c k).sensors = (slotAt s c k).sensors
      else (slotAt t c k).tries.get (sensorIx x) = 0 ∧ ((slotAt t c k).sensors.get (sensorIx x)).valid = false
      ∧ ((slotAt t c k).sensors.get (sensorIx x)).found
      = (((slotAt s c k).sensors.get (sensorIx x)).found && !atStep s 7))

/-- SIDEBAND_DONE with no difference from the image leads to step 8 with pads on and the path of each live channel chosen by its retention latch; a difference under policy STRICT halts with cause 0x09. DIMM_INIT_DONE of a channel whose features are present marks it initialised, out of reset and out of self-refresh, with its latch clear, and leads to step 9 once every live channel is initialised; a missing feature under STRICT halts with cause 0x09. DIMM_INIT_TIMEOUT is counted and excludes the channel; the controller halts if no live channel is left. (R143, R144, R145, R147, R148, R518, R530) -/
def Obligations.PopulationAndInit : Prop :=
  (∀ (s : State),
    atStep s 7 = true →
    (∀ c : Ch, mismatch s c = false) →
    (∃ c : Ch, chLive s c = true) →
    completes .sidebandDone s fun t =>
      t.glb.ctl = .castOn
      ∧ t.glb.step = 8
      ∧ (∀ c : Ch, chLive s c = true → (t.glb.ch.get c).retPath = ((s.glb.ch.get c).latch && !noDimm s c)
        ∧ (t.glb.ch.get c).padsOn = true))
  ∧ (∀ (s : State),
    atStep s 7 = true →
    (∃ c : Ch, mismatch s c = true) →
    strictPop s = true →
    completes .sidebandDone s fun t =>
      t.glb.ctl = .halted
      ∧ t.glb.haltCause = 0x09)
  ∧ (∀ (s : State) (c : Ch) (r : InitReport),
    atStep s 8 = true →
    chLive s c = true →
    (s.glb.ch.get c).initDone = false →
    featuresOk r.features = true →
    completes (.dimmInitDone c r) s fun t =>
      (t.glb.ch.get c).initDone = true
      ∧ (t.glb.ch.get c).latch = false
      ∧ (t.glb.ch.get c).inSr = false
      ∧ (t.glb.ch.get c).released = true
      ∧ t.glb.ctl = .castOn
      ∧ (t.glb.step = if ∃ d : Ch, d ≠ c ∧ chLive s d = true ∧ (s.glb.ch.get d).initDone = false then 8 else 9))
  ∧ (∀ (s : State) (c : Ch) (r : InitReport),
    atStep s 8 = true →
    chLive s c = true →
    (s.glb.ch.get c).initDone = false →
    featuresOk r.features = false →
    strictPop s = true →
    completes (.dimmInitDone c r) s fun t =>
      t.glb.ctl = .halted
      ∧ t.glb.haltCause = 0x09)
  ∧ ∀ (s : State) (c : Ch),
    atStep s 8 = true →
    chLive s c = true →
    (s.glb.ch.get c).initDone = false →
    completes (.dimmInitTimeout c) s fun t =>
      countsExpiry 0x0A s t
      ∧ (t.glb.ch.get c).excluded = true
      ∧ (t.glb.ctl = if ∃ d : Ch, d ≠ c ∧ chLive s d = true then .castOn else .halted)

/-- TRAINING_STEP_DONE of RCD_OUT, or of a SAVE that is not the last step, goes on to the next step with no failure counted and leaves the codes and the Lifelines alone. CA_ALIGN of a chip select that shows one passing phase, the first of its gear, takes that phase. A READ_CENTRE eye narrower than PHY_MIN_WIDTH fails the step. A failing step of a chip select restored from a Lifeline starts its full training; else the first two failures, and the first two timeouts, are counted and the step is repeated. A result of another step than the one that runs has no effect. (R132, R150, R151, R155, R294, R319, R320, R518) -/
def Obligations.TrainingSteps : Prop :=
  (∀ (s : State) (x : Sc) (ret : Option RetentionRead),
    atStep s 9 = true →
    chLive s (chOf x) = true →
    (trainOf s x).left ≠ [] →
    stepCode s x = 9 →
    (trainOf s x).step + 1 < (trainSteps s s.glb.gear (trainOf s x).ll).length →
    completes (.trainingStepDone x .done ret) s fun t =>
      trainOf t x = { trainOf s x with step := (trainOf s x).step + 1, lr := 0, tries := 0 }
      ∧ t.phy = s.phy
      ∧ t.ras = s.ras)
  ∧ (∀ (s : State) (x : Sc) (ws : List Byte) (ret : Option RetentionRead),
    atStep s 9 = true →
    chLive s (chOf x) = true →
    (trainOf s x).left ≠ [] →
    stepCode s x = 2 →
    (trainOf s x).step + 1 < (trainSteps s s.glb.gear (trainOf s x).ll).length →
    completes (.trainingStepDone x (.rcdOut ws) ret) s fun t =>
      trainOf t x = { trainOf s x with step := (trainOf s x).step + 1, lr := 0, tries := 0 }
      ∧ t.phy.sc = s.phy.sc
      ∧ t.phy.lifeline = s.phy.lifeline)
  ∧ (∀ (s : State) (x : Sc) (e : TrainEyes) (k : BitVec 3) (ret : Option RetentionRead),
    atStep s 9 = true →
    chLive s (chOf x) = true →
    (trainOf s x).left ≠ [] →
    stepCode s x = 1 →
    (trainOf s x).ll = .full →
    (trainOf s x).eyes = [] →
    e.caPhases = [k] →
    (trainOf s x).step + 1 < (trainSteps s s.glb.gear .full).length →
    completes (.trainingStepDone x (.eyes e) ret) s fun t =>
      (t.phy.sc.get x).caPhase = k
      ∧ (t.phy.sc.get x).lanes = (s.phy.sc.get x).lanes
      ∧ (trainOf t x).step = (trainOf s x).step + 1
      ∧ (trainOf t x).tries = 0)
  ∧ (∀ (s : State) (x : Sc) (e : TrainEyes) (ret : Option RetentionRead),
    atStep s 9 = true →
    chLive s (chOf x) = true →
    (trainOf s x).left ≠ [] →
    stepCode s x = 4 →
    (trainOf s x).ll = .full →
    (trainOf s x).eyes = [] →
    (∃ p ∈ e.rx, p.hi - p.lo < trainWidth s) →
    (trainOf s x).tries < 2 →
    completes (.trainingStepDone x (.eyes e) ret) s fun t =>
      trainOf t x = { trainOf s x with tries := (trainOf s x).tries + 1 }
      ∧ t.phy = s.phy)
  ∧ (∀ (s : State) (x : Sc) (ret : Option RetentionRead),
    atStep s 9 = true →
    chLive s (chOf x) = true →
    (trainOf s x).left ≠ [] →
    (trainOf s x).ll ≠ .full →
    completes (.trainingStepDone x .fail ret) s fun t =>
      trainOf t x = { trainOf s x with ll := .full, mustFull := true, step := 0, lr := 0, tries := 0, eyes := (trainOf s x).eyes0 })
  ∧ (∀ (s : State) (x : Sc) (ret : Option RetentionRead),
    atStep s 9 = true →
    chLive s (chOf x) = true →
    (trainOf s x).left ≠ [] →
    (trainOf s x).ll = .full →
    (trainOf s x).tries < 2 →
    completes (.trainingStepDone x .fail ret) s fun t =>
      trainOf t x = { trainOf s x with tries := (trainOf s x).tries + 1 })
  ∧ (∀ (s : State) (x : Sc) (r : TrainResult) (ret : Option RetentionRead),
    stepFits (stepCode s x) r = false →
    completes (.trainingStepDone x r ret) s fun t =>
      t = begin_ s)
  ∧ ∀ (s : State) (x : Sc) (ret : Option RetentionRead),
    atStep s 9 = true →
    chLive s (chOf x) = true →
    (trainOf s x).left ≠ [] →
    (trainOf s x).tries < 2 →
    completes (.trainingStepTimeout x ret) s fun t =>
      countsExpiry 0x12 s t
      ∧ trainOf t x = { trainOf s x with tries := (trainOf s x).tries + 1 }

/-- CARVE_OUT_DONE leads to step 0x0B once neither the training nor the ledger requester of a live channel has a carve-out line left to write and no write burst is in progress; before that it changes nothing. CARVE_OUT_WATCHDOG counts its expiry and halts with cause 0x0C. SERVICE_ENTRY, when early service is on or no region is left uninitialised, enters SERVICE; a pause that waited since Cast-On takes effect there instead: QUIESCED, acknowledged, or with a deep one still waiting for self-refresh, with hold high on every port; a drain barrier that waited is taken in SERVICE, and has ended if every request is answered. Else SERVICE_ENTRY changes no Cast-On state and no register. (R77, R80, R157, R159, R162, R170, R518) -/
def Obligations.CarveOutAndService : Prop :=
  (∀ (s : State),
    atStep s 0x0A = true →
    (∀ x ∈ liveScs s, ∀ m ∈ ((s.sched.get x).maint.get 2) ++ ((s.sched.get x).maint.get 3), m.carves = false) →
    (∀ x ∈ liveScs s, ∀ w ∈ (s.sched.get x).lines, w.done = true) →
    completes .carveOutDone s fun t =>
      t.glb.ctl = .castOn
      ∧ t.glb.step = 0x0B
      ∧ t.glb.init = s.glb.init
      ∧ t.out = [])
  ∧ (∀ (s : State) (x : Sc) (m : MntCmd),
    atStep s 0x0A = true →
    x ∈ liveScs s →
    m ∈ ((s.sched.get x).maint.get 2) ++ ((s.sched.get x).maint.get 3) →
    m.carves = true →
    completes .carveOutDone s fun t =>
      t = begin_ s)
  ∧ (∀ (s : State) (x : Sc),
    atStep s 0x0A = true →
    completes (.carveOutWatchdog x) s fun t =>
      t.glb.ctl = .halted
      ∧ t.glb.haltCause = 0x0C
      ∧ countsExpiry 0x0B s t)
  ∧ (∀ (s : State),
    atStep s 0x0B = true →
    (earlyService (image s) = true ∨ initLeft s = 0) →
    s.qz.ph ≠ .deferred →
    completes .serviceEntry s fun t =>
      t.glb.ctl = .service
      ∧ t.glb.served = true
      ∧ t.glb.restart = false)
  ∧ (∀ (s : State),
    atStep s 0x0B = true →
    (earlyService (image s) = true ∨ initLeft s = 0) →
    s.qz.ph = .deferred →
    s.qz.hold ≠ 0 →
    completes .serviceEntry s fun t =>
      t.glb.ctl = .quiesced
      ∧ t.glb.served = true
      ∧ t.glb.restart = false
      ∧ (∀ p : PortId, (t.ports.get p).held = true)
      ∧ (if s.qz.deep then t.qz = { s.qz with ph := .waitSr } else t.qz = { s.qz with ph := .paused, ack := true, paused := true }))
  ∧ (∀ (s : State),
    atStep s 0x0B = true →
    (earlyService (image s) = true ∨ initLeft s = 0) →
    s.qz.ph = .deferred →
    s.qz.hold = 0 →
    completes .serviceEntry s fun t =>
      t.glb.ctl = .service
      ∧ t.glb.served = true
      ∧ t.glb.restart = false
      ∧ (if allAnswered s then t.qz = { s.qz with ph := .ended, ack := true } else t.qz = { s.qz with ph := .barrier }))
  ∧ ∀ (s : State),
    atStep s 0x0B = true →
    earlyService (image s) = false →
    initLeft s ≠ 0 →
    completes .serviceEntry s fun t =>
      t.glb = s.glb
      ∧ t.regs = s.regs
      ∧ t.out = []

/-- REGISTER_WRITE and INDEX_WRITE: a write to a plain register that starts nothing else stores w, v OR w, v AND NOT w or v XOR w by its alias in the field bits, leaves reserved bits and every other register, and is answered OK. An alias write to a register of another type, and a write where no register lies, change nothing and are answered OK; an access that is not allowed is answered DENIED and changes nothing; in RESET no access is accepted. A half of a WD value is stored the same way at its own address. The answer to a read (readAnswer, which reads have no row of the table) is OK with the value of the register, at an alias that of its base register, with 0 where no register lies, DENIED with 0 when it is not allowed, and not at all in RESET. (R33, R34, R35, R36, R37, R38, R39, R48, R53) -/
def Obligations.RegisterWriteRules : Prop :=
  (∀ (s : State) (a : RegAcc) (r : RegRow),
    portOpen s a →
    rowOf a.off = some r →
    r.kind = .rw →
    puLocked s a.off = false →
    a.off ∉ [0x20000, 0x20040, 0x12044, 0x30200, 0xA004, 0x8140] →
    completes (.registerWrite a) s fun t =>
      t.regs = kset s.regs a.off ((regGet s a.off &&& ~~~r.mask) |||
      ((if a.alias_ = 1 then regGet s a.off ||| a.data else if a.alias_ = 2 then regGet s a.off &&& ~~~a.data
      else if a.alias_ = 3 then regGet s a.off ^^^ a.data else a.data) &&& r.mask))
      ∧ t.out = [.reg 0 0]
      ∧ t.glb = s.glb
      ∧ t.evt = s.evt)
  ∧ (∀ (s : State) (a : RegAcc) (r : RegRow),
    portOpen s a →
    rowOf a.off = some r →
    r.kind = .rw →
    a.off ∈ [0xA000, 0x140B0, 0x20044, 0x30020] →
    completes (.indexWrite a) s fun t =>
      t.regs = kset s.regs a.off ((regGet s a.off &&& ~~~r.mask) |||
      ((if a.alias_ = 1 then regGet s a.off ||| a.data else if a.alias_ = 2 then regGet s a.off &&& ~~~a.data
      else if a.alias_ = 3 then regGet s a.off ^^^ a.data else a.data) &&& r.mask))
      ∧ t.out = [.reg 0 0]
      ∧ t.qos = s.qos)
  ∧ (∀ (s : State) (a : RegAcc),
    portReady s = true →
    a.allowed = false →
    completes (.registerWrite a) s fun t =>
      t = { s with out := [.reg 1 0], raised := 0 })
  ∧ (∀ (s : State) (a : RegAcc) (r : RegRow),
    portOpen s a →
    rowOf a.off = some r →
    r.kind ≠ .rw →
    a.alias_ ≠ 0 →
    completes (.registerWrite a) s fun t =>
      t = { s with out := [.reg 0 0], raised := 0 })
  ∧ (∀ (s : State) (a : RegAcc),
    portOpen s a →
    rowOf a.off = none →
    completes (.registerWrite a) s fun t =>
      t = { s with out := [.reg 0 0], raised := 0 })
  ∧ (∀ (s : State) (a : RegAcc),
    s.glb.ctl = .reset →
    completes (.registerWrite a) s fun t =>
      t = { s with out := [], raised := 0 })
  ∧ (∀ (s : State) (a : RegAcc) (r : RegRow),
    portOpen s a →
    rowOf a.off = some r →
    r.kind = .wd →
    a.alias_ = 0 →
    a.off ≠ 0x12044 →
    completes (.registerWrite a) s fun t =>
      t.regs = kset s.regs a.off ((regGet s a.off &&& ~~~r.mask) ||| (a.data &&& r.mask))
      ∧ t.out = [.reg 0 0]
      ∧ t.glb = s.glb
      ∧ t.evt = s.evt)
  ∧ (∀ (s : State) (a : RegAcc),
    portReady s = true →
    (a.allowed = false → readAnswer a s = some (.reg 1 0))
      ∧ (a.allowed = true → rowOf a.off = none → readAnswer a s = some (.reg 0 0))
      ∧ (a.allowed = true → a.alias_ ≠ 0 → readAnswer a s = some (.reg 0 (regRead s a.off)))
      ∧ (a.allowed = true → a.alias_ = 0 → (∀ r, rowOf a.off = some r → r.kind ≠ .port) → readAnswer a s = some (.reg 0 (regRead s a.off))))
  ∧ ∀ (s : State) (a : RegAcc),
    s.glb.ctl = .reset →
    readAnswer a s = none

/-- SQ_WRITE: a write of w to an SQ register clears the status bits written as 1 if w[31:24] is the register's sequence, and leaves its other bits, its sequence and every other register; otherwise nothing changes. Either way the write is answered OK. (R41) -/
def Obligations.SqWriteClearsOnMatch : Prop :=
  (∀ (s : State) (a : RegAcc) (r : RegRow),
    portOpen s a →
    rowOf a.off = some r →
    r.kind = .sq →
    a.alias_ = 0 →
    a.data >>> 24 = regGet s a.off >>> 24 →
    completes (.sqWrite a) s fun t =>
      (∀ n < 24, bitOf (regGet t a.off) n = (bitOf (regGet s a.off) n && !bitOf a.data n))
      ∧ regGet t a.off >>> 24 = regGet s a.off >>> 24
      ∧ { t with regs := s.regs } = { s with out := [.reg 0 0], raised := 0 }
      ∧ t.regs = kset s.regs a.off (regGet t a.off))
  ∧ ∀ (s : State) (a : RegAcc) (r : RegRow),
    portOpen s a →
    rowOf a.off = some r →
    r.kind = .sq →
    a.alias_ = 0 →
    a.data >>> 24 ≠ regGet s a.off >>> 24 →
    completes (.sqWrite a) s fun t =>
      t = { s with out := [.reg 0 0], raised := 0 }

/-- PP_WRITE of an unlocked block holds the value pending with its time, in cc while the core clock runs and else in ac (log 49), and changes no register; of a locked block it records reason 4; over a pending value of another register it records reason 5 and becomes the pending one. PP_CONFIRM with the complement writes the field bits of the register and ends the pair; a companion write with nothing pending records reason 3, at another register's companion reason 6, with another value reason 2, and PP_WINDOW_EXPIRY reason 1, the value being discarded. GLB_LOCK_SET sets the bits written as 1 and no other. (R43, R45, R46, R55) -/
def Obligations.ProtectedPairRules : Prop :=
  (∀ (s : State) (a : RegAcc),
    portOpen s a →
    a.isPp = true →
    a.alias_ = 0 →
    regBit s 0x20 (blockOf a.off) = false →
    s.pp = none →
    completes (.ppWrite a) s fun t =>
      t.pp = some ⟨a.off, a.data, if s.glb.coreRun then s.glb.cc else s.glb.now, s.glb.coreRun⟩
      ∧ t.regs = s.regs
      ∧ t.evt = s.evt
      ∧ t.out = [.reg 0 0])
  ∧ (∀ (s : State) (a : RegAcc),
    portOpen s a →
    a.isPp = true →
    a.alias_ = 0 →
    regBit s 0x20 (blockOf a.off) = true →
    s.pp = none →
    completes (.ppWrite a) s fun t =>
      t.pp = none
      ∧ faultRecorded 4 a.off a.data s t
      ∧ t.out = [.reg 0 0])
  ∧ (∀ (s : State) (a : RegAcc) (p : PpPend),
    portOpen s a →
    a.isPp = true →
    a.alias_ = 0 →
    regBit s 0x20 (blockOf a.off) = false →
    s.pp = some p →
    ppLate s p = false →
    p.off ≠ a.off →
    completes (.ppWrite a) s fun t =>
      t.pp = some ⟨a.off, a.data, if s.glb.coreRun then s.glb.cc else s.glb.now, s.glb.coreRun⟩
      ∧ faultRecorded 5 p.off p.val s t)
  ∧ (∀ (s : State) (p : PpPend),
    s.pp = some p →
    completes .ppWindowExpiry s fun t =>
      t.pp = none
      ∧ faultRecorded 1 p.off p.val s t)
  ∧ (∀ (s : State) (a : RegAcc) (r : RegRow),
    portOpen s a →
    rowOf a.off = some r →
    r.kind = .ppc →
    a.alias_ = 0 →
    s.pp = none →
    completes (.ppConfirm a) s fun t =>
      t.pp = none
      ∧ faultRecorded 3 (a.off - 4) a.data s t
      ∧ t.out = [.reg 0 0])
  ∧ (∀ (s : State) (a : RegAcc) (r : RegRow) (p : PpPend),
    portOpen s a →
    rowOf a.off = some r →
    r.kind = .ppc →
    a.alias_ = 0 →
    s.pp = some p →
    ppLate s p = false →
    p.off + 4 ≠ a.off →
    completes (.ppConfirm a) s fun t =>
      t.pp = none
      ∧ faultRecorded 6 p.off a.data s t
      ∧ t.out = [.reg 0 0])
  ∧ (∀ (s : State) (a : RegAcc) (r : RegRow) (p : PpPend),
    portOpen s a →
    rowOf a.off = some r →
    r.kind = .ppc →
    a.alias_ = 0 →
    s.pp = some p →
    ppLate s p = false →
    p.off + 4 = a.off →
    a.data ≠ ~~~p.val →
    completes (.ppConfirm a) s fun t =>
      t.pp = none
      ∧ faultRecorded 2 p.off p.val s t
      ∧ t.out = [.reg 0 0])
  ∧ (∀ (s : State) (a : RegAcc) (p : PpPend),
    portOpen s a →
    a.alias_ = 0 →
    s.pp = some p →
    ppLate s p = false →
    p.off + 4 = a.off →
    p.off ∈ [0x3018, 0x9000, 0x10004, 0x14004] →
    a.data = ~~~p.val →
    completes (.ppConfirm a) s fun t =>
      t.pp = none
      ∧ t.regs = kset s.regs p.off (p.val &&& maskOf p.off)
      ∧ t.evt = s.evt
      ∧ t.out = [.reg 0 0])
  ∧ ∀ (s : State) (v : Word) (p : PpPend),
    portReady s = true →
    s.pp = some p →
    p.off = 0x20 →
    ppLate s p = false →
    v = ~~~p.val →
    completes (.glbLockSet true v) s fun t =>
      t.pp = none
      ∧ t.regs = kset s.regs 0x20 (regGet s 0x20 ||| (p.val &&& 0x0003FFFF))
      ∧ t.out = [.reg 0 0]

/-- PHY_LL_SEL_WRITE takes the snapshot of the record that it names and index 0. With the image applied (logs 10 and 48), PHY_LL_DATA_READ and RAS_RPL_DATA_READ answer the word at the index and advance it while it is in range, else answer 0; before, PHY_LL_DATA_READ answers 0 and changes nothing. QPT_RD_SEL_WRITE selects an entry at index 0, QPT_DATA_ACCESS reads a word of the entry or writes the field bits of the staged word (log 11), and advances the index. MAP_PROBE answers outcome, window and 64-bit address, and GLG_PROBE the digest of the probe data, each in the step of its write (log 47). (R48, R51, R138, R184, R328, R363, R464) -/
def Obligations.IndexedPortsAndProbe : Prop :=
  (∀ (s : State) (w : Word),
    portOpen s (winAcc true 0x20040 w) →
    completes (.phyLlSelWrite true w) s fun t =>
      t.phy.llBuf = kget [] s.phy.lifeline (llKey (chN (fld w 2 2)) (gearN (fld w 1 0)))
      ∧ regGet t 0x20040 = w &&& 7
      ∧ regGet t 0x20044 = 0
      ∧ t.out = [.reg 0 0])
  ∧ (∀ (s : State),
    portReady s = true →
    s.img.applied = true →
    completes (.phyLlDataRead true) s fun t =>
      (if regFld s 0x20044 8 0 < 272
      then t.out = [.reg 0 (s.phy.llBuf.getD (regFld s 0x20044 8 0) 0)]
        ∧ regFld t 0x20044 8 0 = regFld s 0x20044 8 0 + 1
      else t = { s with out := [.reg 0 0], raised := 0 }))
  ∧ (∀ (s : State),
    portReady s = true →
    s.img.applied = false →
    completes (.phyLlDataRead true) s fun t =>
      t = { s with out := [.reg 0 0], raised := 0 })
  ∧ (∀ (s : State),
    portReady s = true →
    s.img.applied = true →
    completes (.rasRplDataRead true) s fun t =>
      (if regFld s 0x140B0 9 0 < 512
      then t.out = [.reg 0 (if regFld s 0x140B0 9 0 % 2 = 0 then (s.ras.rpl.getD (regFld s 0x140B0 9 0 / 2) (0, 0)).1
      else (s.ras.rpl.getD (regFld s 0x140B0 9 0 / 2) (0, 0)).2)]
      ∧ regFld t 0x140B0 9 0 = regFld s 0x140B0 9 0 + 1
      else t = { s with out := [.reg 0 0], raised := 0 }))
  ∧ (∀ (s : State) (w : Word),
    portOpen s (winAcc true 0xA004 w) →
    completes (.qptRdSelWrite true w) s fun t =>
      regGet t 0xA004 = (regGet s 0xA004 &&& 0xFFFFF000) ||| (w &&& 0xFFF)
      ∧ regGet t 0xA000 = 0
      ∧ t.out = [.reg 0 0])
  ∧ (∀ (s : State) (w : Word),
    portOpen s (winAcc true 0xA008 w) →
    completes (.qptDataAccess ⟨true, some w⟩) s fun t =>
      t.out = [.reg 0 0]
      ∧ (if regFld s 0xA000 4 0 < 16
      then regFld t 0xA000 4 0 = regFld s 0xA000 4 0 + 1
      ∧ t.qos = { s.qos with staging := s.qos.staging.setIfInBounds (regFld s 0xA000 4 0) (w &&& qptMask (regFld s 0xA000 4 0)) }
      else t.qos = s.qos ∧ t.regs = s.regs))
  ∧ (∀ (s : State),
    portReady s = true →
    s.img.applied = true →
    completes (.qptDataAccess ⟨true, none⟩) s fun t =>
      (if regFld s 0xA000 4 0 < 16
      then regFld t 0xA000 4 0 = regFld s 0xA000 4 0 + 1
      ∧ t.out = [.reg 0 (qptWord s (regFld s 0xA004 11 0) (regFld s 0xA000 4 0))]
      else t = { s with out := [.reg 0 0], raised := 0 }))
  ∧ (∀ (s : State) (w : Word) (u : State),
    portOpen s (winAcc true 0x12044 w) →
    u = regSet 0x12044 ((regGet s 0x12044 &&& 0x7F000000) ||| (w &&& 0x80FFFFFF)) s →
    completes (.mapProbe true w) s fun t =>
      t.regs = (regSet 0x12050 (pack [(1, 31),
        ((probeOf u ((regGet u 0x12040).toNat + 2 ^ 32 * fld w 23 0) (bitOf w 31)).2.1, 16),
      ((probeOf u ((regGet u 0x12040).toNat + 2 ^ 32 * fld w 23 0) (bitOf w 31)).1, 0)])
      (regSet64 0x12048 (probeOf u ((regGet u 0x12040).toNat + 2 ^ 32 * fld w 23 0) (bitOf w 31)).2.2 u)).regs
      ∧ t.out = [.reg 0 0])
  ∧ ∀ (s : State) (w : Word) (c : CrcSet),
    portOpen s (winAcc true 0x30200 w) →
    c = crcSetOf s (fld w 18 16) →
    completes (.glgProbe true w) s fun t =>
      t.out = [.reg 0 0]
      ∧ bitOf (regGet t 0x30200) 31 = true
      ∧ (if c.width = 0 then bitOf (regGet t 0x30200) 30 = true ∧ regGet64 t 0x30218 = 0
      else bitOf (regGet t 0x30200) 30 = false ∧ regGet64 t 0x30218
      = crc c.param (((List.range 4).flatMap fun k => wordBytes (regGet s (0x30204 + 4 * k))).take (min 16 (fld w 4 0))) % 2 ^ 64)

/-- EVT_DATA_READ with no record answers 0 with OK and consumes nothing; with sound parity it answers the next word, POISON_DATA if it carries a poison tag, and consumes it; a mismatch found on the way answers POISON_DATA, is counted and sets EVT_PARITY_SEEN (that bits turn over by an operand is the model's choice, log 56). EVT_FLUSH with bit 0 discards every record and counts them. EVT_CHAIN_TAKE moves the oldest record of the raise buffer into a chain with room. EVT_IRQ_DELAY_EXPIRY lets the head record have waited for the delay, whatever the clock says (log 5). DOM_SNAP_DATA_READ answers and consumes the next word of the snapshot, 0 when it is empty. (R49, R50, R506, R510, R511, R513, R514, R447) -/
def Obligations.EventPort : Prop :=
  (∀ (s : State) (u : BitVec 33),
    portReady s = true →
    s.evt.chain = [] →
    completes (.evtDataRead true u) s fun t =>
      t = { s with out := [.reg 0 0], raised := 0 })
  ∧ (∀ (s : State) (r : ChainRec) (w : Stage) (ws : List Stage) (rest : List ChainRec),
    portReady s = true →
    s.evt.chain = r :: rest →
    r.words = w :: ws →
    w.fails = false →
    completes (.evtDataRead true 0) s fun t =>
      t.out = [.reg (if w.bad then 2 else 0) w.word]
      ∧ (t.evt.chain = if ws = [] then rest else { r with words := ws, begun := true } :: rest)
      ∧ t.regs = s.regs
      ∧ t.evt.buf = s.evt.buf)
  ∧ (∀ (s : State) (u : BitVec 33) (r : ChainRec) (w : Stage) (ws : List Stage) (rest : List ChainRec),
    portReady s = true →
    s.evt.chain = r :: rest →
    r.words = w :: ws →
    w.bad = false →
    (w.upset u).fails = true →
    completes (.evtDataRead true u) s fun t =>
      t.out = [.reg 2 (w.upset u).word]
      ∧ (t.evt.chain = if ws = [] then rest else { r with words := ws, begun := true } :: rest)
      ∧ regGet t 0x2050 = BitVec.ofNat 32 (min 0xFFFFFFFF ((regGet s 0x2050).toNat + 1))
      ∧ bitOf (regGet t 0x2010) 2 = true)
  ∧ (∀ (s : State) (v : Word),
    portReady s = true →
    bitOf v 0 = true →
    completes (.evtFlush true v) s fun t =>
      t.evt.chain = []
      ∧ regGet t 0x204C = BitVec.ofNat 32 (min 0xFFFFFFFF ((regGet s 0x204C).toNat + s.evt.chain.length))
      ∧ t.out = [.reg 0 0])
  ∧ (∀ (s : State) (r : Rec) (rest : List Rec),
    s.evt.pend = none →
    s.evt.buf = r :: rest →
    r.drops = none →
    r.words.length + 4 ≤ chainFree s →
    (∀ c ∈ s.evt.chain, ∀ w ∈ c.words, w.fails = false) →
    completes (.evtChainTake []) s fun t =>
      t.evt.buf = rest
      ∧ t.evt.chain = s.evt.chain ++ [⟨r.words.map Stage.of, r.sev, BitVec.ofNat 16 (fld (r.words.headD 0) 15 0), false, false, s.glb.now, 0⟩]
      ∧ bitOf (regGet t 0x2010) 0 = true)
  ∧ (∀ (s : State) (r : ChainRec) (rest : List ChainRec),
    s.evt.chain = r :: rest →
    regFld s 0x2000 15 0 ≠ 0 →
    completes .evtIrqDelayExpiry s fun t =>
      t.evt = { s.evt with chain := { r with waited := max r.waited (regFld s 0x2000 15 0) } :: rest }
      ∧ irqDelayed t = true
      ∧ t.regs = s.regs)
  ∧ ∀ (s : State),
    portReady s = true →
    s.img.applied = true →
    completes (.domSnapDataRead true) s fun t =>
      t.out = [.reg 0 (s.dom.snap.headD 0)]
      ∧ (t.dom.snap = if s.dom.snap.length = 1
        ∧ s.dom.snapHeld.isSome then (s.dom.snapHeld.map snapWords).getD [] else s.dom.snap.drop 1)

/-- READ of a line that is not answered with zeros at once (R15, R167), WRITE_FULL, WRITE_PARTIAL and WRITE_POISON to a line that an unmirrored window of this controller owns, of a rank in service, taken by the port: the request enters the table under the next number with its line address, waiting for its beat if its opcode has one and else in the ingress stage; one credit of its class is spent and one more request is in flight; a beat is expected where the opcode has one. No response is given. (R13, R92, R97, R100, R101, R111, R114, R171) -/
def Obligations.RequestsEnterTheTable : Prop :=
  (∀ (s : State) (p : PortId) (h : ReqHdr) (n d : Nat),
    portTakes s p false h.tag →
    fwd s h.addr = .owned n false d →
    rankLive s (llaOf s d) = true →
    readsZero s (llaOf s d) = false →
    completes (.read p h) s fun t =>
      entered s t p .read h (llaOf s d) .ingress
      ∧ (t.ports.get p).rdHeld = (s.ports.get p).rdHeld - 1
      ∧ (t.ports.get p).rdIn = (s.ports.get p).rdIn + 1
      ∧ t.out = [])
  ∧ (∀ (s : State) (p : PortId) (h : ReqHdr) (n d : Nat),
    portTakes s p true h.tag →
    fwd s h.addr = .owned n false d →
    rankLive s (llaOf s d) = true →
    completes (.writeFull p h) s fun t =>
      entered s t p .writeFull h (llaOf s d) .waitBeat
      ∧ (t.ports.get p).wrHeld = (s.ports.get p).wrHeld - 1
      ∧ (t.ports.get p).wrIn = (s.ports.get p).wrIn + 1
      ∧ (t.ports.get p).beats = (s.ports.get p).beats ++ [.req s.nextId]
      ∧ t.out = [])
  ∧ (∀ (s : State) (p : PortId) (h : ReqHdr) (n d : Nat),
    portTakes s p true h.tag →
    fwd s h.addr = .owned n false d →
    rankLive s (llaOf s d) = true →
    completes (.writePartial p h) s fun t =>
      entered s t p .writePartial h (llaOf s d) .waitBeat
      ∧ (t.ports.get p).wrHeld = (s.ports.get p).wrHeld - 1
      ∧ (t.ports.get p).wrIn = (s.ports.get p).wrIn + 1
      ∧ (t.ports.get p).beats = (s.ports.get p).beats ++ [.req s.nextId]
      ∧ t.out = [])
  ∧ ∀ (s : State) (p : PortId) (h : ReqHdr) (n d : Nat),
    portTakes s p true h.tag →
    fwd s h.addr = .owned n false d →
    rankLive s (llaOf s d) = true →
    completes (.writePoison p h) s fun t =>
      entered s t p .writePoison h (llaOf s d) .ingress
      ∧ (t.ports.get p).wrHeld = (s.ports.get p).wrHeld - 1
      ∧ (t.ports.get p).wrIn = (s.ports.get p).wrIn + 1
      ∧ (t.ports.get p).beats = (s.ports.get p).beats
      ∧ t.out = []

/-- A READ of a line that this controller does not own is answered NOT_OWNED and leaves nothing in the table; one of an uninitialised region without an outstanding write is answered OK with zeros; in HALTED an accepted READ is answered FAILED. A request with a tag in use, without a credit, with a reserved opcode (also a peer opcode on RTP), or in a cycle after one in which hold was high is answered FAILED, enters nothing and sets its bit of PRT_STATUS (that of two refusals, but for the missing credit, the hold comes first, then the opcode, is the model's choice, log 52; which requests are of one cycle is that of log 66). (R12, R15, R96, R97, R101, R111, R112, R164, R171, R538) -/
def Obligations.RequestsAnsweredAtOnce : Prop :=
  (∀ (s : State) (p : PortId) (h : ReqHdr),
    idsFresh s →
    portTakes s p false h.tag →
    (match fwd s h.addr with | .owned .. => false | _ => true) = true →
    completes (.read p h) s fun t =>
      .rsp p h.tag h.gen .notOwned 0 0 0 false 0 ∈ t.out
      ∧ (∀ r ∈ t.reqs, r.id ≠ s.nextId)
      ∧ regGet t (0x8018 + 0x40 * p.val) = BitVec.ofNat 32 (min 0xFFFFFFFF ((regGet s (0x8018 + 0x40 * p.val)).toNat + 1)))
  ∧ (∀ (s : State) (p : PortId) (h : ReqHdr) (n d : Nat),
    idsFresh s →
    portTakes s p false h.tag →
    fwd s h.addr = .owned n false d →
    rankLive s (llaOf s d) = true →
    readsZero s (llaOf s d) = true →
    completes (.read p h) s fun t =>
      .rsp p h.tag h.gen .ok 0 0 0 false 0 ∈ t.out
      ∧ (∀ r ∈ t.reqs, r.id ≠ s.nextId))
  ∧ (∀ (s : State) (p : PortId) (h : ReqHdr),
    idsFresh s →
    s.glb.ctl = .halted →
    hasCredit s p false = true →
    outstanding s p h.tag = none →
    completes (.read p h) s fun t =>
      .rsp p h.tag h.gen .failed 0 0 0 false 0 ∈ t.out
      ∧ (∀ r ∈ t.reqs, r.id ≠ s.nextId))
  ∧ (∀ (s : State) (p : PortId) (h : ReqHdr) (old : Req),
    sampled s = true →
    hasCredit s p true = true →
    holdForbids (portCycle p s) p = false →
    outstanding s p h.tag = some old →
    completes (.writePoison p h) s fun t =>
      t.out = [.rsp p h.tag h.gen .failed 0 0 0 false 0]
      ∧ t.reqs = s.reqs
      ∧ bitOf (regGet t (0x800C + 0x40 * p.val)) 0 = true
      ∧ (t.ports.get p).wrHeld = (s.ports.get p).wrHeld - 1)
  ∧ (∀ (s : State) (p : PortId) (h : ReqHdr),
    sampled s = true →
    hasCredit s p false = false →
    completes (.read p h) s fun t =>
      t.out = [.rsp p h.tag h.gen .failed 0 0 0 false 0]
      ∧ t.reqs = s.reqs
      ∧ (t.ports.get p).rdHeld = (s.ports.get p).rdHeld
      ∧ (t.ports.get p).rdIn = (s.ports.get p).rdIn
      ∧ (t.ports.get p).beats = (s.ports.get p).beats
      ∧ bitOf (regGet t (0x800C + 0x40 * p.val)) 1 = true)
  ∧ (∀ (s : State) (p : PortId) (h : ReqHdr),
    sampled s = true →
    hasCredit s p true = true →
    holdForbids (portCycle p s) p = true →
    completes (.writeFull p h) s fun t =>
      t.out = [.rsp p h.tag h.gen .failed 0 0 0 false 0]
      ∧ t.reqs = s.reqs
      ∧ (t.ports.get p).wrHeld = (s.ports.get p).wrHeld - 1
      ∧ (t.ports.get p).beats = (s.ports.get p).beats ++ [.discard]
      ∧ bitOf (regGet t (0x800C + 0x40 * p.val)) 5 = true)
  ∧ ∀ (s : State) (p : PortId) (op : BitVec 4) (h : PeerHdr),
    sampled s = true →
    holdForbids (portCycle p s) p = false →
    (if opOfCode op.toNat = none then hasCredit s p false = true
      else p = 4 ∧ 8 ≤ op.toNat ∧ hasCredit s p (((opOfCode op.toNat).map Op.isWrite).getD false) = true) →
    completes (.reservedOpcode p op h) s fun t =>
      t.out = [.rsp p h.hdr.tag h.hdr.gen .failed 0 h.src h.xid false (pairEpoch s (opOfCode op.toNat) h.hdr.addr)]
      ∧ t.reqs = s.reqs
      ∧ bitOf (regGet t (0x800C + 0x40 * p.val)) 2 = true

/-- A BARRIER is answered OK once every request accepted earlier on its port is answered, and waits in the table while one is not. WRITE_DATA_BEAT gives its data and mask to the oldest request of the port that waits for one, which is then in the ingress stage, or drops the beat of a refused request and of one that has been answered. CREDIT_RETURN returns one credit to the port next in order that may get one (one a command: log 13). PORT_TRANSACTION_TIMEOUT counts its expiry and answers the request FAILED. RTP_URGENT_CHANGE takes the level. (R106, R107, R118, R12, R98, R99, R119, R124, R518) -/
def Obligations.BarriersAndBeats : Prop :=
  (∀ (s : State) (p : PortId) (h : ReqHdr),
    idsFresh s →
    portTakes s p false h.tag →
    (∀ r ∈ s.reqs, r.port = p → r.answered = true) →
    completes (.barrier p h) s fun t =>
      .rsp p h.tag h.gen .ok 0 0 0 false 0 ∈ t.out
      ∧ (∀ r ∈ t.reqs, r.id ≠ s.nextId))
  ∧ (∀ (s : State) (p : PortId) (h : ReqHdr) (q : Req),
    idsFresh s →
    portTakes s p false h.tag →
    q ∈ s.reqs →
    q.port = p →
    q.answered = false →
    q.phase ≠ .barrier →
    completes (.barrier p h) s fun t =>
      t.nextId = s.nextId + 1
      ∧ (∃ r ∈ t.reqs, r.id = s.nextId ∧ r.phase = .barrier ∧ r.answered = false))
  ∧ (∀ (s : State) (p : PortId) (data : Line) (mask : BitVec 64) (id : Nat) (rest : List BeatDest) (r : Req),
    sampled s = true →
    (s.ports.get p).beats = .req id :: rest →
    findReq s id = some r →
    r.answered = false →
    r.phase = .waitBeat →
    r.op ≠ .peerMessage →
    completes (.writeDataBeat p data mask) s fun t =>
      (t.ports.get p).beats = rest
      ∧ (∃ q ∈ t.reqs, q.id = id ∧ q.data = data ∧ q.mask = mask ∧ q.beat = true ∧ q.phase = .ingress)
      ∧ t.out = [])
  ∧ (∀ (s : State) (p : PortId) (data : Line) (mask : BitVec 64) (rest : List BeatDest),
    sampled s = true →
    (s.ports.get p).beats = .discard :: rest →
    completes (.writeDataBeat p data mask) s fun t =>
      t = { updPort p (fun q => { q with beats := rest }) s with out := [], raised := 0 })
  ∧ (∀ (s : State) (p : PortId) (data : Line) (mask : BitVec 64) (id : Nat) (rest : List BeatDest),
    sampled s = true →
    (s.ports.get p).beats = .req id :: rest →
    (findReq s id).all Req.answered = true →
    completes (.writeDataBeat p data mask) s fun t =>
      t = { updPort p (fun q => { q with beats := rest }) s with out := [], raised := 0 })
  ∧ (∀ (s : State) (p : PortId) (wr : Bool),
    creditsFlow s = true →
    (creditOrder (if wr then s.qos.lastCrdWr else s.qos.lastCrdRd)).find? (creditDue s wr) = some p →
    completes (.creditReturn wr) s fun t =>
      t.out = [.credit p wr]
      ∧ (t.ports.get p).wrHeld = (s.ports.get p).wrHeld + (if wr then 1 else 0)
      ∧ (t.ports.get p).rdHeld = (s.ports.get p).rdHeld + (if wr then 0 else 1)
      ∧ t.reqs = s.reqs
      ∧ t.regs = s.regs)
  ∧ (∀ (s : State) (p : PortId) (tag : BitVec 10) (r : Req),
    idsFresh s →
    s.glb.ctl ≠ .held →
    outstanding s p tag = some r →
    completes (.portTransactionTimeout p tag) s fun t =>
      countsExpiry 0x0C s t
      ∧ .rsp p tag r.gen .failed 0 r.src r.xid false (peerEpochFor s r) ∈ t.out
      ∧ (∀ q ∈ t.reqs, q.id = r.id → q.answered = true)
      ∧ bitOf (regGet t (0x800C + 0x40 * p.val)) 3 = true)
  ∧ ∀ (s : State) (level : Bool),
    completes (.rtpUrgentChange level) s fun t =>
      t.qos.urgent = level
      ∧ t.reqs.map Req.id = s.reqs.map Req.id
      ∧ t.out = []

/-- PEER_MIRROR_WRITE at a secondary and PEER_MIRROR_READ, from the peer, with the current role epoch, outside JOINING, to a mirrored line of a live rank, enter the table; with another epoch they are answered FAILED with the stale flag and the current epoch, and the beat that the write still expects belongs to no request of the table. PEER_MESSAGE to this controller's message address waits for its beat, whose message, if sound, is kept for the receiver and answered OK; one to another address is answered NOT_OWNED. (R90, R95, R120, R121, R381, R382, R438, R536) -/
def Obligations.PeerRequests : Prop :=
  (∀ (s : State) (p : Fin 4) (h : PeerHdr) (n d : Nat),
    portTakes s p.castSucc true h.hdr.tag →
    fwd s h.hdr.addr = .owned n true d →
    mirEn s = true →
    h.src = peerId s →
    s.mir.hold5 = false →
    h.epoch = s.mir.epoch →
    s.mir.pair ≠ .joining →
    s.mir.primary = false →
    rankLive s (llaOf s d) = true →
    completes (.peerMirrorWrite p h) s fun t =>
      entered s t p.castSucc .peerWrite h.hdr (llaOf s d) .waitBeat
      ∧ (t.ports.get p.castSucc).beats = (s.ports.get p.castSucc).beats ++ [.req s.nextId]
      ∧ t.out = [])
  ∧ (∀ (s : State) (p : Fin 4) (h : PeerHdr) (n d : Nat),
    portTakes s p.castSucc false h.hdr.tag →
    fwd s h.hdr.addr = .owned n true d →
    mirEn s = true →
    h.src = peerId s →
    s.mir.hold5 = false →
    h.epoch = s.mir.epoch →
    s.mir.pair ≠ .joining →
    rankLive s (llaOf s d) = true →
    readsZero s (llaOf s d) = false →
    completes (.peerMirrorRead p h) s fun t =>
      entered s t p.castSucc .peerRead h.hdr (llaOf s d) .ingress
      ∧ t.out = [])
  ∧ (∀ (s : State) (p : Fin 4) (h : PeerHdr) (n d : Nat),
    idsFresh s →
    portTakes s p.castSucc false h.hdr.tag →
    fwd s h.hdr.addr = .owned n true d →
    mirEn s = true →
    h.src = peerId s →
    h.epoch ≠ s.mir.epoch →
    completes (.peerMirrorRead p h) s fun t =>
      .rsp p.castSucc h.hdr.tag h.hdr.gen .failed 0 h.src h.xid true s.mir.epoch ∈ t.out
      ∧ regGet t 0x6054 = BitVec.ofNat 32 (min 0xFFFFFFFF ((regGet s 0x6054).toNat + 1))
      ∧ (∀ r ∈ t.reqs, r.id ≠ s.nextId))
  ∧ (∀ (s : State) (p : Fin 4) (h : PeerHdr) (n d : Nat),
    idsFresh s →
    portTakes s p.castSucc true h.hdr.tag →
    fwd s h.hdr.addr = .owned n true d →
    mirEn s = true →
    h.src = peerId s →
    h.epoch ≠ s.mir.epoch →
    completes (.peerMirrorWrite p h) s fun t =>
      .rsp p.castSucc h.hdr.tag h.hdr.gen .failed 0 h.src h.xid true s.mir.epoch ∈ t.out
      ∧ regGet t 0x6054 = BitVec.ofNat 32 (min 0xFFFFFFFF ((regGet s 0x6054).toNat + 1))
      ∧ (∀ r ∈ t.reqs, r.id ≠ s.nextId)
      ∧ (t.ports.get p.castSucc).beats = (s.ports.get p.castSucc).beats ++ [.req s.nextId])
  ∧ (∀ (s : State) (p : Fin 4) (h : PeerHdr),
    portTakes s p.castSucc true h.hdr.tag →
    h.hdr.addr = msgAddr s s.glb.ctlId.toNat →
    completes (.peerMessage p h) s fun t =>
      entered s t p.castSucc .peerMessage h.hdr 0 .waitBeat
      ∧ (t.ports.get p.castSucc).beats = (s.ports.get p.castSucc).beats ++ [.req s.nextId]
      ∧ t.out = [])
  ∧ (∀ (s : State) (p : Fin 4) (h : PeerHdr),
    idsFresh s →
    portTakes s p.castSucc true h.hdr.tag →
    h.hdr.addr ≠ msgAddr s s.glb.ctlId.toNat →
    completes (.peerMessage p h) s fun t =>
      .rsp p.castSucc h.hdr.tag h.hdr.gen .notOwned 0 h.src h.xid false 0 ∈ t.out
      ∧ (∀ r ∈ t.reqs, r.id ≠ s.nextId))
  ∧ ∀ (s : State) (p : PortId) (data : Line) (mask : BitVec 64) (id : Nat) (rest : List BeatDest) (r : Req),
    idsFresh s →
    sampled s = true →
    (s.ports.get p).beats = .req id :: rest →
    findReq s id = some r →
    r.answered = false →
    r.phase = .waitBeat →
    r.op = .peerMessage →
    msgOk s (lineMsg data) = true →
    isPoisonLine (lineMsg data) = false →
    completes (.writeDataBeat p data mask) s fun t =>
      t.dom.inbox = s.dom.inbox ++ [⟨lineMsg data, none⟩]
      ∧ .rsp r.port r.tag r.gen .ok 0 r.src r.xid false 0 ∈ t.out

/-- EGP_REQUEST_ISSUE, when no read of the peer waits whose region has become dirty, puts the first waiting request that may issue, as it travels, in the free slot with the slot's token, and presents it (the slot is an operand: log 34). EGP_RESPONSE to a live slot with its token retires the slot, whose generation advances; a remote read that is answered OK or CORRECTED is answered so with its data. Another response is stale: counted, flagged, the slots as before. EGP_SLOT_TIMEOUT retires the live slot, counts it and its expiry by the kind of the operation. (R24, R125, R127, R128, R129, R130, R394, R518) -/
def Obligations.EgressRules : Prop :=
  (∀ (s : State) (n : BitVec 8) (r : EgpReq) (rest : List EgpReq),
    egpOn s = true →
    (slotOf s n.toNat).live = none →
    s.egp.waiting.all (fun q => !staleRead s q) = true →
    egpNext s [] s.egp.waiting = some (r, rest) →
    completes (.egpRequestIssue n) s fun t =>
      t.out = [.egp (tokenFor n.toNat (slotOf s n.toNat).gen) (egpFinal s r)]
      ∧ t.egp.waiting = rest
      ∧ slotOf t n.toNat = ⟨(slotOf s n.toNat).gen, some (egpFinal s r, s.glb.now)⟩
      ∧ t.reqs.map (fun q => { q with drainHeld := false }) = s.reqs.map (fun q => { q with drainHeld := false }))
  ∧ (∀ (s : State) (tok : BitVec 16) (st : BitVec 3) (stale : Bool) (e : BitVec 8) (src : BitVec 10) (data : Line) (r : EgpReq) (at_ : Nat),
    egpOn s = true →
    (slotOf s (tok.toNat / 16)).live = some (r, at_) →
    tok = tokenFor (tok.toNat / 16) (slotOf s (tok.toNat / 16)).gen →
    completes (.egpResponse tok st stale e src data) s fun t =>
      slotOf t (tok.toNat / 16) = ⟨(slotOf s (tok.toNat / 16)).gen + 1, none⟩
      ∧ regGet t 0x8208 = regGet s 0x8208)
  ∧ (∀ (s : State) (tok : BitVec 16) (st : BitVec 3) (u : Status) (e : BitVec 8) (src : BitVec 10) (data : Line) (r : EgpReq) (at_ : Nat) (id : Nat) (q : Req),
    egpOn s = true →
    (slotOf s (tok.toNat / 16)).live = some (r, at_) →
    tok = tokenFor (tok.toNat / 16) (slotOf s (tok.toNat / 16)).gen →
    r.why = .remoteRead id →
    findReq s id = some q →
    q.answered = false →
    statusOf st = some u →
    (u = .ok ∨ u = .corrected) →
    completes (.egpResponse tok st false e src data) s fun t =>
      .rsp q.port q.tag q.gen u data q.src q.xid false (peerEpochFor s q) ∈ t.out)
  ∧ (∀ (s : State) (tok : BitVec 16) (st : BitVec 3) (stale : Bool) (e : BitVec 8) (src : BitVec 10) (data : Line),
    egpOn s = true →
    ((slotOf s (tok.toNat / 16)).live = none ∨ tok ≠ tokenFor (tok.toNat / 16) (slotOf s (tok.toNat / 16)).gen) →
    completes (.egpResponse tok st stale e src data) s fun t =>
      t.egp = s.egp
      ∧ t.reqs = s.reqs
      ∧ regGet t 0x8208 = BitVec.ofNat 32 (min 0xFFFFFFFF ((regGet s 0x8208).toNat + 1))
      ∧ bitOf (regGet t 0x8210) 0 = true)
  ∧ ∀ (s : State) (n : BitVec 8) (r : EgpReq) (at_ : Nat),
    egpOn s = true →
    (slotOf s n.toNat).live = some (r, at_) →
    completes (.egpSlotTimeout n) s fun t =>
      slotOf t n.toNat = ⟨(slotOf s n.toNat).gen + 1, none⟩
      ∧ regGet t 0x820C = BitVec.ofNat 32 (min 0xFFFFFFFF ((regGet s 0x820C).toNat + 1))
      ∧ bitOf (regGet t 0x8210) 1 = true
      ∧ countsExpiry (if r.op.isPeer then 0x16 else 0x15) s t

/-- QZ_REQ_RISE samples qz_hold and qz_deep: in SERVICE it begins a drain barrier (hold 0) or seeks the boundary of a pause, in CAST_ON and GEAR_CHANGE it waits, in DORMANT and HALTED it is acknowledged at once; in QUIESCED and HELD only the level is noted (the model's choice, log 50). PAUSE_TAKE_EFFECT, with every earlier write in a queue or answered and host bursts complete, enters QUIESCED: acknowledged and paused, or waiting for self-refresh if deep. DEEP_PAUSE_SR_DONE leaves every live sub-channel in self-refresh and paused. DRAIN_BARRIER_COMPLETE acknowledges the drain once every accepted request is answered; the cycle of each port in which hold was high ends there. (R73, R74, R75, R76, R77, R80) -/
def Obligations.PauseBegins : Prop :=
  (∀ (s : State) (hold : BitVec 16) (deep : Bool),
    s.qz.req = false →
    s.qz.ack = false →
    s.glb.ctl = .service →
    completes (.qzReqRise hold deep) s fun t =>
      t.qz = ⟨true, hold, deep, if hold = 0 then .barrier else .boundary, false, false⟩
      ∧ t.glb.ctl = .service
      ∧ t.ports = s.ports
      ∧ t.out = [])
  ∧ (∀ (s : State) (hold : BitVec 16) (deep : Bool),
    s.qz.req = false →
    s.qz.ack = false →
    (s.glb.ctl = .castOn ∨ s.glb.ctl = .gearChange) →
    completes (.qzReqRise hold deep) s fun t =>
      t = { s with qz := ⟨true, hold, deep, .deferred, false, false⟩, out := [], raised := 0 })
  ∧ (∀ (s : State) (hold : BitVec 16) (deep : Bool),
    s.qz.req = false →
    s.qz.ack = false →
    (s.glb.ctl = .dormant ∨ s.glb.ctl = .halted) →
    completes (.qzReqRise hold deep) s fun t =>
      t = { s with qz := ⟨true, hold, deep, if hold = 0 then .ended else .paused, true, decide (hold ≠ 0)⟩, out := [], raised := 0 })
  ∧ (∀ (s : State) (hold : BitVec 16) (deep : Bool),
    s.qz.req = false →
    s.qz.ack = false →
    (s.glb.ctl = .quiesced ∨ s.glb.ctl = .held) →
    completes (.qzReqRise hold deep) s fun t =>
      t = { s with qz := { s.qz with req := true }, out := [], raised := 0 })
  ∧ (∀ (s : State),
    s.glb.ctl = .service →
    s.qz.ph = .boundary →
    s.reqs.any Req.outside = false →
    (liveScs s).all (hostBusDone s) = true →
    completes .pauseTakeEffect s fun t =>
      t.glb.ctl = .quiesced
      ∧ (∀ p : PortId, (t.ports.get p).held = true)
      ∧ (if s.qz.deep then t.qz = { s.qz with ph := .waitSr }
        ∧ ∀ x ∈ liveScs s, ∀ m : Fin 7, (t.sched.get x).maskVec.getLsbD m.val = true
      else t.qz = { s.qz with ph := .paused, ack := true, paused := true }))
  ∧ (∀ (s : State),
    s.glb.ctl = .quiesced →
    s.qz.ph = .waitSr →
    (liveScs s).all (busDone s) = true →
    repairMode s = false →
    completes .deepPauseSrDone s fun t =>
      t.qz = { s.qz with ph := .paused, ack := true, paused := true }
      ∧ t.glb.ctl = .quiesced
      ∧ (∀ x ∈ liveScs s, t.pwr.sc.get x = .selfRefresh))
  ∧ ∀ (s : State),
    s.glb.ctl = .service →
    s.qz.ph = .barrier →
    allAnswered s = true →
    completes .drainBarrierComplete s fun t =>
      t = { cycleEnds true s with qz := { s.qz with ph := .ended, ack := true }, out := [], raised := 0 }

/-- QZ_HOLD_EXPIRY (with a hold other than 0xFFFF) and QZ_REQ_FALL end a pause in QUIESCED: a shallow one returns to SERVICE with qz_paused low, and qz_ack falls once qz_req is low; a deep one starts the exit from self-refresh, and DEEP_PAUSE_EXIT_DONE returns to SERVICE with every live sub-channel out of self-refresh. Elsewhere QZ_REQ_FALL ends a pause in the state that stands. QZ_REQ_FALL after a pause or drain has ended lowers qz_ack, and one before it has taken effect, or while a deep one is entered or left, is only noted. (R76, R78) -/
def Obligations.PauseEnds : Prop :=
  (∀ (s : State),
    s.qz.hold ≠ 0xFFFF →
    s.qz.ph = .paused →
    s.glb.ctl = .quiesced →
    s.qz.deep = false →
    completes .qzHoldExpiry s fun t =>
      t.glb.ctl = .service
      ∧ t.qz = { s.qz with paused := false, ph := if s.qz.req then .ended else .idle, ack := s.qz.req && s.qz.ack })
  ∧ (∀ (s : State),
    s.qz.hold ≠ 0xFFFF →
    s.qz.ph = .paused →
    s.glb.ctl = .quiesced →
    s.qz.deep = true →
    completes .qzHoldExpiry s fun t =>
      t = { s with qz := { s.qz with ph := .exiting }, out := [], raised := 0 })
  ∧ (∀ (s : State),
    s.qz.req = true →
    s.qz.ph = .paused →
    s.glb.ctl = .quiesced →
    s.qz.deep = false →
    completes .qzReqFall s fun t =>
      t.glb.ctl = .service
      ∧ t.qz = { s.qz with req := false, paused := false, ph := .idle, ack := false })
  ∧ (∀ (s : State),
    s.qz.req = true →
    s.qz.ph = .paused →
    s.glb.ctl = .quiesced →
    s.qz.deep = true →
    completes .qzReqFall s fun t =>
      t = { s with qz := { s.qz with req := false, ph := .exiting }, out := [], raised := 0 })
  ∧ (∀ (s : State),
    s.qz.req = true →
    s.qz.ph = .paused →
    s.glb.ctl ≠ .quiesced →
    completes .qzReqFall s fun t =>
      t = { s with qz := { s.qz with req := false, paused := false, ph := .idle, ack := false }, out := [], raised := 0 })
  ∧ (∀ (s : State),
    s.qz.req = true →
    s.qz.ph ≠ .paused →
    s.qz.ph ≠ .ended →
    completes .qzReqFall s fun t =>
      t = { s with qz := { s.qz with req := false }, out := [], raised := 0 })
  ∧ (∀ (s : State),
    s.qz.req = true →
    s.qz.ph = .ended →
    completes .qzReqFall s fun t =>
      t = { s with qz := { s.qz with req := false, ph := .idle, ack := false }, out := [], raised := 0 })
  ∧ ∀ (s : State),
    s.glb.ctl = .quiesced →
    s.qz.ph = .exiting →
    completes .deepPauseExitDone s fun t =>
      t.glb.ctl = .service
      ∧ t.qz.paused = false
      ∧ (t.qz.ph = if s.qz.req then .ended else .idle)
      ∧ (∀ x ∈ liveScs s, t.pwr.sc.get x ≠ .selfRefresh)

/-- INGRESS_SELECT takes the best eligible head of the sub-channel: a READ with no queued or recent write of its line enters the read queue, a full write enters the write queue and, outside a mirrored window, is answered OK; the throttle bucket is debited. With no eligible head nothing leaves. MNT_ARBITRATE with a free input grants it to the first requester in rank order that has a request, or leaves it free. REGION_ZEROED takes a completely written region off the queue and marks it initialised, or has it wait for its bitmap-copy line. (R16, R185, R188, R189, R216, R217, R263, R273, R275, R276, R282, R160) -/
def Obligations.SelectionAndArbitration : Prop :=
  (∀ (s u : State) (x : Sc) (r : Req),
    u = countDrainHolds x s →
    bestReq u ((heads u x).filter (eligible u)) = some r →
    scOf r.lla = x →
    r.op = .read →
    rankLive u r.lla = true →
    youngest (u.sched.get x) r.lla = none →
    lineRecord (u.sched.get x) r.lla = none →
    completes (.ingressSelect x) s fun t =>
      (∃ e ∈ (t.sched.get x).rq, e.id = r.id ∧ e.lla = r.lla ∧ e.part = r.part ∧ e.issued = false)
      ∧ (∀ q ∈ t.reqs, q.id = r.id → q.phase = .readQ)
      ∧ t.qos.tb.get x = s.qos.tb.get x - 64)
  ∧ (∀ (s u : State) (x : Sc) (r : Req),
    idsFresh s →
    u = countDrainHolds x s →
    bestReq u ((heads u x).filter (eligible u)) = some r →
    scOf r.lla = x →
    r.op = .writeFull →
    r.mirrored = false →
    r.answered = false →
    rankLive u r.lla = true →
    completes (.ingressSelect x) s fun t =>
      (∃ e ∈ (t.sched.get x).wq, e.id = r.id ∧ e.lla = r.lla ∧ e.data = r.data ∧ e.poison = false ∧ e.merge = .full
        ∧ e.issued = false)
      ∧ .rsp r.port r.tag r.gen .ok 0 r.src r.xid false (peerEpochFor s r) ∈ t.out
      ∧ t.qos.tb.get x = s.qos.tb.get x - 64)
  ∧ (∀ (s u : State) (x : Sc),
    u = countDrainHolds x s →
    (heads u x).filter (eligible u) = [] →
    completes (.ingressSelect x) s fun t =>
      t = { u with out := [], raised := 0 })
  ∧ (∀ (s u : State) (x : Sc) (h : Fin 7),
    (s.glb.ctl = .castOn ∨ s.glb.ctl = .service ∨ s.glb.ctl = .quiesced ∨ s.glb.ctl = .gearChange ∨ s.glb.ctl = .bindOff) →
    u = mntOffers x (phyGo x (pprGo x { s with out := [], raised := 0 })) →
    (u.sched.get x).holder = none →
    requesting u x h = true →
    (∀ k < h, requesting u x k = false) →
    completes (.mntArbitrate x) s fun t =>
      (t.sched.get x).holder = some h
      ∧ (t.sched.get x).burst = 0
      ∧ regGet t (rMnt x h 0) = BitVec.ofNat 32 (min 0xFFFFFFFF ((regGet u (rMnt x h 0)).toNat + 1)))
  ∧ (∀ (s u : State) (x : Sc),
    (s.glb.ctl = .castOn ∨ s.glb.ctl = .service ∨ s.glb.ctl = .quiesced ∨ s.glb.ctl = .gearChange ∨ s.glb.ctl = .bindOff) →
    u = mntOffers x (phyGo x (pprGo x { s with out := [], raised := 0 })) →
    (u.sched.get x).holder = none →
    (∀ k : Fin 7, requesting u x k = false) →
    completes (.mntArbitrate x) s fun t =>
      (t.sched.get x).holder = none)
  ∧ ∀ (s : State) (r : BitVec 20),
    s.glb.ctl = .service →
    s.glb.init.getLsbD r.toNat = false →
    2 ^ 18 ≤ zeroDone s (scN (r.toNat / 2 ^ 18)) r.toNat →
    (s.sched.get (scN (r.toNat / 2 ^ 18))).maint.toList.any (fun l => l.any (MntCmd.zeroes r.toNat)) = false →
    (s.sched.get (scN (r.toNat / 2 ^ 18))).lines = [] →
    completes (.regionZeroed r) s fun t =>
      (t.glb.init.getLsbD r.toNat = true ∨ r.toNat ∈ t.glb.initWait)
      ∧ r.toNat ∉ t.glb.onDemand.get (scN (r.toNat / 2 ^ 18))

/-- REFILL_TICK with no change pending and no red head adds CIR and PIR to every partition's tokens up to CBS and PBS and 32 T to every throttle bucket up to 32,768, and counts the tick; it applies a pending partition change. WHEEL_SLOT counts the slot and refills every enabled shaper by its effective rate up to its burst. QOS_GUARANTEE_MISS counts the miss of a partition that is due, sets its status bit and ends it. QPT_COMMIT makes a valid staged entry pending and shows code 1. (R267, R268, R271, R272, R282, R284, R285, R286, R287, R288) -/
def Obligations.TicksOfTheScheduler : Prop :=
  (∀ (s : State),
    s.glb.coreRun = true →
    s.qos.pendingQpt = none →
    s.qos.pendingMore = [] →
    s.reqs.all (fun r => decide (r.colour ≠ some .red)) = true →
    completes .refillTick s fun t =>
      t.qos.tick = s.qos.tick + 1
      ∧ (∀ x : Sc, t.qos.tb.get x = min (s.qos.tb.get x + (32 * regFld s 0x9010 26 16 : Nat)) 32768)
      ∧ (t.qos.parts.map (fun e => (e.1, e.2.tc, e.2.tp)) = s.qos.parts.map fun e =>
      (e.1, min (e.2.tc + cfgCir e.2.cfg) (cfgCbs e.2.cfg * 2 ^ 12), min (e.2.tp + cfgPir e.2.cfg) (cfgPbs e.2.cfg * 2 ^ 12))))
  ∧ (∀ (s : State) (l : BitVec 12) (w : Vector Word 8),
    s.glb.coreRun = true →
    s.qos.pendingQpt = some (l, w) →
    s.qos.pendingMore = [] →
    completes .refillTick s fun t =>
      t.qos.pendingQpt = none
      ∧ (partOf t l.toNat).cfg = w)
  ∧ (∀ (s : State),
    s.glb.coreRun = true →
    completes .wheelSlot s fun t =>
      t.qos.wheel = s.qos.wheel + 1
      ∧ (t.qos.parts.map (fun e => (e.1, e.2.ts)) = s.qos.parts.map fun e =>
      (e.1, if e.2.shapeEn then min (e.2.ts + rateEff s e.2) (cfgBurst e.2.cfg * 2 ^ 18 : Nat) else e.2.ts))
      ∧ t.reqs = s.reqs)
  ∧ (∀ (s : State) (l : BitVec 12),
    (partOf s l.toNat).missDue = true →
    completes (.qosGuaranteeMiss l) s fun t =>
      (partOf t l.toNat).missDue = false
      ∧ (partOf t l.toNat).misses = BitVec.ofNat 32 (min 0xFFFFFFFF ((partOf s l.toNat).misses.toNat + 1))
      ∧ regGet t 0x9050 = BitVec.ofNat 32 (min 0xFFFFFFFF ((regGet s 0x9050).toNat + 1))
      ∧ bitOf (regGet t 0x9034) 0 = true)
  ∧ (∀ (s : State) (v : Word),
    confirms s 0xA010 v →
    bitOf v 31 = true →
    s.qos.pendingQpt = none →
    s.qos.pendingMore = [] →
    partCode (fld v 11 0) s.qos.staging = 0 →
    sharesOk (qptWith s (fld v 11 0) s.qos.staging) = true →
    completes (.qptCommit true (~~~v)) s fun t =>
      t.qos.pendingQpt = some (BitVec.ofNat 12 (fld v 11 0), s.qos.staging)
      ∧ regFld t 0xA018 30 28 = 1
      ∧ t.pp = none
      ∧ t.out = [.reg 0 0])
  ∧ ∀ (s : State) (v : Word),
    confirms s 0xA010 v →
    bitOf v 31 = true →
    s.qos.pendingQpt = none →
    s.qos.pendingMore = [] →
    partCode (fld v 11 0) s.qos.staging ≠ 0 →
    completes (.qptCommit true (~~~v)) s fun t =>
      t.qos = s.qos
      ∧ regFld t 0xA018 30 28 = partCode (fld v 11 0) s.qos.staging

/-- SCHEDULER_ISSUE (one core cycle of one sub-channel: log 14) of a sub-channel whose bus is on, outside a recovery and BIND_OFF, moves its ck to the later of the next cc and the core clock, and every command that it puts on the bus is for that sub-channel, with a ck within the four ck of the cc (a precharge of a chip select that is being copied may fall later); with the bus off and no power-down to leave, only the delay codes of the PHY and the cycles of the ports move on. In BIND_OFF it puts a sub-channel that has drained to self-refresh. (R196, R197, R207, R482) -/
def Obligations.SchedulerIssueRules : Prop :=
  (∀ (s : State) (x : Sc),
    busOn s x = true →
    s.glb.ctl ≠ .bindOff →
    (s.alert.get (chOf x)).recovering = false →
    completes (.schedulerIssue x) s fun t =>
      (t.sched.get x).ck = max ((s.sched.get x).ck + 4) (4 * s.glb.cc)
      ∧ (∀ o ∈ t.out, (match o with
      | .cmd y ck c => y = x ∧ max ((s.sched.get x).ck + 4) (4 * s.glb.cc) ≤ ck
      ∧ (ck < max ((s.sched.get x).ck + 4) (4 * s.glb.cc) + 4 ∨ c.kind = .pre)
      | _ => True)))
  ∧ (∀ (s : State) (x : Sc),
    busOn s x = false →
    s.pwr.sc.get x ≠ .powerDown →
    s.glb.ctl ≠ .bindOff →
    (s.alert.get (chOf x)).recovering = false →
    completes (.schedulerIssue x) s fun t =>
      t = codesGoOn x (if s.glb.coreRun then portCycles (begin_ s) else begin_ s))
  ∧ ∀ (s : State) (x : Sc),
    s.glb.ctl = .bindOff →
    (s.alert.get (chOf x)).recovering = false →
    x ∈ boScs s →
    boAsleep s x = false →
    boDone s x = true →
    completes (.schedulerIssue x) s fun t =>
      t.pwr.sc.get x = .selfRefresh
      ∧ (∀ m : Fin 7, (t.sched.get x).maskVec.getLsbD m.val = true)
      ∧ t.reqs = s.reqs

/-- READ_DECODE, where the oldest awaited read is one of the host, answers its request by the decoder's outcome and releases the entry; an uncorrectable or mislocated line is held unanswered. MERGE_READ_DECODE gives the write entry the merged line, or a poison line if the base was lost, when the peer has no part in it. HELD_READ_RELEASE answers the oldest held read POISON, or asks the peer for it where the pair can recover it. WRITE_BURST_DONE marks the oldest burst done, releases its queue entry and takes an answered write whose peer outcome is not awaited out of the table; another is noted as written. (R12, R188, R191, R209, R341, R343, R389, R393) -/
def Obligations.ReadsAndBursts : Prop :=
  (∀ (s : State) (x : Sc) (rx : Capture) (g : RdTag) (id : Nat) (d : Decoded) (r : Req),
    (s.sched.get x).pipe.find? (fun r => r.origin.isRead) = some g →
    g.origin = .host id →
    d = g.decode s rx →
    s.glb.ctl ≠ .held →
    d.outcome.lost = false →
    findReq s id = some r →
    r.answered = false →
    completes (.readDecode x rx) s fun t =>
      .rsp r.port r.tag r.gen d.outcome.status d.data r.src r.xid false (peerEpochFor s r) ∈ t.out
      ∧ (∀ e ∈ (t.sched.get x).rq, e.id ≠ id)
      ∧ g ∉ (t.sched.get x).pipe)
  ∧ (∀ (s : State) (x : Sc) (rx : Capture) (g : RdTag) (id : Nat) (d : Decoded),
    (s.sched.get x).pipe.find? (fun r => r.origin.isRead) = some g →
    g.origin = .host id →
    d = g.decode s rx →
    d.outcome.lost = true →
    completes (.readDecode x rx) s fun t =>
      (t.sched.get x).heldRds = (s.sched.get x).heldRds ++ [⟨id, g.lla, g.ck, d⟩]
      ∧ g ∉ (t.sched.get x).pipe
      ∧ t.reqs = s.reqs
      ∧ t.out = [])
  ∧ (∀ (s : State) (x : Sc) (rx : Capture) (g : RdTag) (id : Nat) (d : Decoded) (e : WrEnt) (r : Req),
    (s.sched.get x).pipe.find? (fun r => r.origin.isMerge) = some g →
    g.origin = .merge id →
    d = g.decode s rx →
    findReq s id = some r →
    recovers s r = false →
    (s.sched.get x).wq.find? (fun e => decide (e.id = id)) = some e →
    (s.sched.get x).wq.all (fun f => decide (f.merge ≠ .onOlder id)) = true →
    completes (.mergeReadDecode x rx) s fun t =>
      (∃ f ∈ (t.sched.get x).wq, f.id = id ∧ f.merge = .full
        ∧ f.poison = (d.outcome.lost || decide (d.outcome = .poison))
      ∧ f.data = if d.outcome.lost || decide (d.outcome = .poison) then 0 else mergeLine d.data e.data e.mask)
      ∧ g ∉ (t.sched.get x).pipe)
  ∧ (∀ (s : State) (x : Sc) (h : HeldRd) (rest : List HeldRd) (r : Req),
    (s.sched.get x).heldRds = h :: rest →
    (s.sched.get x).replay = .none →
    s.glb.ctl ≠ .held →
    findReq s h.id = some r →
    r.answered = false →
    recovers s r = false →
    completes (.heldReadRelease x) s fun t =>
      (t.sched.get x).heldRds = rest
      ∧ .rsp r.port r.tag r.gen h.dec.outcome.status h.dec.data r.src r.xid false (peerEpochFor s r) ∈ t.out
      ∧ (∀ e ∈ (t.sched.get x).rq, e.id ≠ h.id))
  ∧ (∀ (s : State) (x : Sc) (h : HeldRd) (rest : List HeldRd) (r : Req),
    (s.sched.get x).heldRds = h :: rest →
    (s.sched.get x).replay = .none →
    s.glb.ctl ≠ .held →
    findReq s h.id = some r →
    r.answered = false →
    recovers s r = true →
    completes (.heldReadRelease x) s fun t =>
      (t.sched.get x).heldRds = rest
      ∧ t.egp.waiting = s.egp.waiting ++ [peerOp s .mirrorRead r.addr 0 (.recovery x h.id h.dec)]
      ∧ (∀ q ∈ t.reqs, q.id = h.id → q.phase = .peer ∧ q.answered = false)
      ∧ t.out = [])
  ∧ (∀ (s : State) (x : Sc) (w : WrTag) (id : Nat) (r : Req),
    idsFresh s →
    (s.sched.get x).lines.find? (fun w => !w.done) = some w →
    w.src = .entry id →
    findReq s id = some r →
    r.answered = true →
    r.peerOpen = false →
    completes (.writeBurstDone x) s fun t =>
      (t.sched.get x).lines = (s.sched.get x).lines.map (fun v => if v = w then { v with done := true } else v)
      ∧ (t.sched.get x).wq = (s.sched.get x).wq.filter (fun e => decide (e.id ≠ id))
      ∧ (∀ q ∈ t.reqs, q.id ≠ id))
  ∧ (∀ (s : State) (x : Sc) (w : WrTag) (id : Nat) (r : Req),
    (s.sched.get x).lines.find? (fun w => !w.done) = some w →
    w.src = .entry id →
    findReq s id = some r →
    (r.answered = false ∨ r.peerOpen = true) →
    r.written = false →
    completes (.writeBurstDone x) s fun t =>
      (t.sched.get x).wq = (s.sched.get x).wq.filter (fun e => decide (e.id ≠ id))
      ∧ findReq t id = some { r with written := true }
      ∧ (t.ports.get r.port).wrIn = (s.ports.get r.port).wrIn - 1
      ∧ t.out = [])
  ∧ ∀ (s : State) (x : Sc) (w : WrTag),
    (s.sched.get x).lines.find? (fun w => !w.done) = some w →
    (w.src = .copy ∨ w.src = .maint) →
    completes (.writeBurstDone x) s fun t =>
      t = updSched x (fun q => { q with lines := q.lines.map fun v => if v = w then { v with done := true } else v }) { s with out := [], raised := 0 }

/-- ALERT_RECOGNISED on a watched channel freezes both sub-channels: held reads and data not wholly captured are lost and will be read again; during a recovery it takes the channel out of service once every rank sleeps, and has no effect before (log 16). ALERT_RELEASE classifies the alert by its width and starts an attempt on an affected sub-channel; after the third attempt it counts its expiry and begins a recovery; after a back-off the channel, or the sequence that the alert interrupted, goes on. REPLAY_ATTEMPT_END resumes the channel and flags it. ALERT_HELD_LOW_TIMEOUT begins a recovery; CHANNEL_RECOVERY_DONE with a phase of CA_ALIGN for each sub-channel resumes service, and without takes the channel out of service; CHANNEL_RECOVERY_TIMEOUT takes the channel out of service. PROGRESS_WATCHDOG_EXPIRY closes every row, or a second time within 1 ms begins a recovery. (R208, R209, R210, R211, R212, R213, R214, R370, R371, R372, R517, R518) -/
def Obligations.AlertsAndReplay : Prop :=
  (∀ (s : State) (c : Ch),
    alertWatched s c = true →
    (s.alert.get c).low = false →
    (s.alert.get c).recovering = false →
    completes (.alertRecognised c) s fun t =>
      (t.alert.get c).low = true
      ∧ (t.alert.get c).again = inAttempt s c
      ∧ (∀ x ∈ [scA c, scB c], (match (t.sched.get x).replay with | .frozen _ => true | _ => false) = true
        ∧ (t.sched.get x).pipe = (s.sched.get x).pipe.filter (wholly s x)
      ∧ (t.sched.get x).heldRds = []
      ∧ (t.sched.get x).lost = (s.sched.get x).lost ++ (s.sched.get x).heldRds.map (fun h => ⟨.host h.id, h.lla, h.ck⟩)
      ++ (s.sched.get x).pipe.filter (fun r => !wholly s x r)))
  ∧ (∀ (s : State) (c : Ch),
    alertWatched s c = true →
    (s.alert.get c).low = false →
    (s.alert.get c).recovering = true →
    (s.alert.get c).slept = true →
    completes (.alertRecognised c) s fun t =>
      (t.alert.get c).oos = true
      ∧ (t.alert.get c).recovering = false
      ∧ bitOf (regGet t 0x14030) (16 + c.val) = true)
  ∧ (∀ (s : State) (c : Ch),
    (s.alert.get c).recovering = true →
    (s.alert.get c).slept = false →
    completes (.alertRecognised c) s fun t =>
      t = begin_ s)
  ∧ (∀ (s : State) (c : Ch) (w : BitVec 16),
    s.glb.ctl ≠ .bindOff →
    (s.alert.get c).low = true →
    (s.alert.get c).again = true →
    3 ≤ (s.alert.get c).attempts →
    alertClass s w.toNat ≠ 3 →
    completes (.alertRelease c w) s fun t =>
      (t.alert.get c).recovering = true
      ∧ (t.alert.get c).low = false
      ∧ countsExpiry 0x01 s t
      ∧ (∀ x ∈ [scA c, scB c], (t.sched.get x).replay = .failed))
  ∧ (∀ (s : State) (c : Ch) (w : BitVec 16),
    (s.alert.get c).low = true →
    (s.alert.get c).again = false →
    alertClass s w.toNat ≠ 3 →
    affects s (alertClass s w.toNat) (scA c) = true →
    completes (.alertRelease c w) s fun t =>
      (t.alert.get c).low = false
      ∧ (t.alert.get c).cls = alertClass s w.toNat
      ∧ (t.alert.get c).attempts = 1
      ∧ (t.alert.get c).affected.getLsbD 0 = true
      ∧ (t.sched.get (scA c)).replay.runs = true
      ∧ (t.sched.get (scA c)).attempts = 1)
  ∧ (∀ (s : State) (c : Ch) (w : BitVec 16),
    (s.alert.get c).low = true →
    (s.alert.get c).again = false →
    alertClass s w.toNat ≠ 3 →
    affects s (alertClass s w.toNat) (scA c) = false →
    affects s (alertClass s w.toNat) (scB c) = false →
    completes (.alertRelease c w) s fun t =>
      (t.alert.get c).low = false
      ∧ (t.alert.get c).attempts = 0
      ∧ (∀ x ∈ [scA c, scB c], (t.sched.get x).replay = .none ∧ (t.sched.get x).lost = []))
  ∧ (∀ (s : State) (c : Ch) (w : BitVec 16),
    (s.alert.get c).low = true →
    (s.alert.get c).again = false →
    alertClass s w.toNat = 3 →
    interrupted s c = false →
    completes (.alertRelease c w) s fun t =>
      (t.alert.get c).low = false
      ∧ (∀ x ∈ [scA c, scB c], (t.sched.get x).replay = .none ∧ (t.sched.get x).lost = []))
  ∧ (∀ (s : State) (c : Ch) (w : BitVec 16),
    (s.alert.get c).low = true →
    alertClass s w.toNat = 3 →
    interrupted s c = true →
    completes (.alertRelease c w) s fun t =>
      (t.alert.get c).low = false
      ∧ (∀ x ∈ [scA c, scB c], (t.sched.get x).replay = match (s.sched.get x).replay with
      | .frozen (some l) => .running l
      | r => r))
  ∧ (∀ (s : State) (c : Ch),
    (s.alert.get c).low = false →
    (∀ x ∈ [scA c, scB c], (s.sched.get x).replay.over = true) →
    ((s.sched.get (scA c)).replay.runs = true ∨ (s.sched.get (scB c)).replay.runs = true) →
    completes (.replayAttemptEnd c) s fun t =>
      bitOf (regGet t 0x14030) (12 + c.val) = true
      ∧ (∀ x ∈ [scA c, scB c], (t.sched.get x).replay = .none ∧ (t.sched.get x).lost = []
      ∧ (t.sched.get x).replayEnd = if (s.sched.get x).replay.runs then (s.sched.get x).ck else (s.sched.get x).replayEnd))
  ∧ (∀ (s : State) (c : Ch),
    (s.alert.get c).low = true →
    s.glb.ctl ≠ .bindOff →
    completes (.alertHeldLowTimeout c) s fun t =>
      countsExpiry 0x02 s t
      ∧ (t.alert.get c).recovering = true
      ∧ (t.alert.get c).low = false
      ∧ (∀ x ∈ [scA c, scB c], (t.sched.get x).replay = .failed))
  ∧ (∀ (s : State) (c : Ch) (caA caB : BitVec 3),
    (s.alert.get c).recovering = true →
    completes (.channelRecoveryDone ⟨c, some caA, some caB⟩) s fun t =>
      (t.phy.sc.get (scA c)).caPhase = caA
      ∧ (t.phy.sc.get (scB c)).caPhase = caB
      ∧ (t.alert.get c).recovering = false
      ∧ (t.alert.get c).attempts = 0
      ∧ bitOf (regGet t 0x14030) (14 + c.val) = true
      ∧ (∀ x ∈ [scA c, scB c], (t.sched.get x).replay = .none ∧ (t.sched.get x).lost = []))
  ∧ (∀ (s : State) (c : Ch) (pa pb : Option (BitVec 3)),
    (s.alert.get c).recovering = true →
    (pa = none ∨ pb = none) →
    completes (.channelRecoveryDone ⟨c, pa, pb⟩) s fun t =>
      (t.alert.get c).oos = true
      ∧ (t.alert.get c).recovering = false
      ∧ bitOf (regGet t 0x14030) (16 + c.val) = true
      ∧ (if (s.alert.get c).byWdog then countsExpiry 0x09 s t else t.evt.expiries = s.evt.expiries))
  ∧ (∀ (s : State) (c : Ch),
    (s.alert.get c).recovering = true →
    completes (.channelRecoveryTimeout c) s fun t =>
      countsExpiry 0x09 s t
      ∧ (t.alert.get c).oos = true
      ∧ (t.alert.get c).recovering = false
      ∧ bitOf (regGet t 0x14030) (16 + c.val) = true
      ∧ (∀ x ∈ [scA c, scB c], (t.sched.get x).rq = [] ∧ (t.sched.get x).wq = []))
  ∧ ∀ (s : State) (x : Sc),
    busOn s x = true →
    (s.sched.get x).replay ≠ .failed →
    hasWork s x = true →
    completes (.progressWatchdogExpiry x) s fun t =>
      countsExpiry 0x08 s t
      ∧ (t.sched.get x).wdogLast = some s.glb.now
      ∧ (if (s.sched.get x).wdogLast.any (fun a => decide (s.glb.now ≤ a + 25000))
      then (t.alert.get (chOf x)).recovering = decide (s.glb.ctl ≠ .bindOff)
      else (t.sched.get x).rows = [] ∧ (t.sched.get x).hist = [] ∧ t.alert = s.alert)

/-- REFRESH_SLOT (a slot that is not sent is not made up: log 17) of a unit whose slots count, outside power-down, adds 1 to its debt, sets its next slot one period on, closes its gate at a positive debt, takes the decision on doubled refresh, and leaves it in the emergency state exactly when the debt reaches L_post. REFRESH_POSTPONE opens a closed gate and keeps the debt. BACKOFF_RFM_DEADLINE passes the deadline of the oldest request whose deadline was still to come: host ACTs are held while an RFM is owed, and the expiry is counted if none of that request has been issued. MR4_POLL keeps the highest field that it reads and asks for a read of mode register 4 of every unit in service, and a field above 2× is critical; in self-refresh it is only noted as due (logs 40 and 46). EPOCH_ADVANCE of a unit with N_pass sets since its last advance advances its epoch, takes the present configuration and drops its cached lines. (R231, R233, R235, R236, R238, R239, R240, R242, R251, R252, R253, R518) -/
def Obligations.RefreshCalendar : Prop :=
  (∀ (s : State) (x : Sc) (u : Fin 64),
    slotsCount s x u.val = true →
    s.pwr.sc.get x ≠ .powerDown →
    completes (.refreshSlot x u) s fun t =>
      (refUnit t x u.val).debt = (refUnit s x u.val).debt + 1
      ∧ (refUnit t x u.val).next = (refUnit s x u.val).next + slotPeriod t (chOf x)
      ∧ (refUnit t x u.val).gate = (if 1 ≤ (refUnit s x u.val).debt + 1 then some (refUnit s x u.val).next else (refUnit s x u.val).gate)
      ∧ (refUnit t x u.val).emergency = decide ((lPost s : Int) ≤ (refUnit s x u.val).debt + 1)
      ∧ t.ref.doubled.get (chOf x) = doubledNext s (chOf x))
  ∧ (∀ (s : State) (x : Sc) (u : Fin 64),
    (refUnit s x u.val).gate ≠ none →
    (refUnit s x u.val).emergency = false →
    completes (.refreshPostpone x u) s fun t =>
      refUnit t x u.val = { refUnit s x u.val with gate := none }
      ∧ regGet t (0x10104 + 0x40 * x.val) = BitVec.ofNat 32 (min 0xFFFFFFFF ((regGet s (0x10104 + 0x40 * x.val)).toNat + 1)))
  ∧ (∀ (s : State) (c : Ch) (r : AboReq),
    (s.ref.abo.get c).find? (fun r => !r.passed) = some r →
    completes (.backoffRfmDeadline c) s fun t =>
      t.ref.abo.get c = aboPass (s.ref.abo.get c)
      ∧ t.ref.aboLate.get c = (s.ref.aboLate.get c || decide (0 < aboOwed t c))
      ∧ (if r.begun then t.evt = s.evt else countsExpiry 0x03 s t))
  ∧ (∀ (s : State) (c : Ch) (r : Mr4Poll),
    chLive s c = true →
    s.glb.coreRun = true →
    s.pwr.sc.get (scA c) ≠ .selfRefresh →
    s.pwr.sc.get (scB c) ≠ .selfRefresh →
    completes (.mr4Poll c r) s fun t =>
      t.ref = { s.ref with mr4 := vset s.ref.mr4 c (mr4Top r.slot0 r.slot1) }
      ∧ (∀ u ∈ (List.range (nUnits s)).filter (fun u => csLive s c (u / nLr s)), ∀ x ∈ [scA c, scB c], ((t.sched.get x).maint.get 0).any (fun m =>
      decide (m.op = .mode .mrr (BitVec.ofNat 2 (u / nLr s)) (BitVec.ofNat 4 (u % nLr s)) (.get (.addr 4)))) = true)
      ∧ (r.slot0 = .above2 ∨ r.slot1 = .above2 → t.pwr.critical = true))
  ∧ (∀ (s : State) (c : Ch) (r : Mr4Poll),
    chLive s c = true →
    s.glb.coreRun = true →
    (s.pwr.sc.get (scA c) = .selfRefresh ∨ s.pwr.sc.get (scB c) = .selfRefresh) →
    completes (.mr4Poll c r) s fun t =>
      t.ref = s.ref
      ∧ (∀ x ∈ [scA c, scB c], s.pwr.sc.get x = .selfRefresh → t.pwr.due.getLsbD x.val = true)
      ∧ t.out = [])
  ∧ ∀ (s : State) (x : Sc) (u : Fin 64),
    calendar s x u.val = true →
    nPass s ≤ (refUnit s x u.val).passCount →
    completes (.epochAdvance x u) s fun t =>
      refUnit t x u.val = { refUnit s x u.val with
      epoch := (refUnit s x u.val).epoch + 1, passCount := (refUnit s x u.val).passCount - nPass s, rc := regGet s 0x10004 }
      ∧ (∀ p ∈ t.ref.posted, p.1 / 2 ^ 18 ≠ unitKey x u.val)
      ∧ t.ref.cache = s.ref.cache.filter (fun e => decide (e.1 / 2 ^ 18 ≠ unitKey x u.val))

/-- LEDGER_FETCH_DONE of an awaited line with a usable decode and no posted increments puts its 32 counters in the cache, clean, valid at the unit's epoch, and the fetch ends. LEDGER_FETCH_TIMEOUT counts its expiry and the failed fetch, and ends the fetch. (R246, R248, R249, R517, R518) -/
def Obligations.LedgerFetches : Prop :=
  (∀ (s : State) (x : Sc) (rx : Capture) (g : RdTag) (k : Nat) (d : Decoded),
    (s.sched.get x).pipe.find? (fun r => r.origin.isLedger) = some g →
    g.origin = .ledger k →
    d = g.decode s rx →
    (d.outcome = .clean ∨ d.outcome = .corrected) →
    s.ref.fetching.any (fun e => decide (e.1 = k)) = true →
    s.ref.posted.all (fun p => decide (p.1 ≠ k)) = true →
    completes (.ledgerFetchDone x rx) s fun t =>
      (cacheLine t k).map RcLine.vals = some (lineCounters d.data)
      ∧ (cacheLine t k).map RcLine.dirty = some false
      ∧ (∀ e ∈ t.ref.fetching, e.1 ≠ k)
      ∧ g ∉ (t.sched.get x).pipe)
  ∧ ∀ (s : State) (x : Sc) (k : Nat),
    s.ref.fetching.find? (fun e => decide (e.2 = x)) = some (k, x) →
    completes (.ledgerFetchTimeout x) s fun t =>
      countsExpiry 0x13 s t
      ∧ regGet t 0x10050 = BitVec.ofNat 32 (min 0xFFFFFFFF ((regGet s 0x10050).toNat + 1))
      ∧ bitOf (regGet t 0x10030) 7 = true
      ∧ (∀ e ∈ t.ref.fetching, e.1 ≠ k)

/-- SCOUT_POINT_DONE, with the bursts of the point compared, moves a lane whose left walk passes within its span one step further left and leaves its live codes; at a confirmation without disagreements it makes the group a candidate for its exchange, with some it rejects the group with reason 6 and backs off. SCOUT_BACKOFF_END starts a new sweep after its bursts. ROLE_EXCHANGE, in a swap window, makes the scouting sampler of each lane live, counts the promotion with its time and starts a new sweep. FORCED_SWAP_WINDOW, when the code change of a line has waited 2 µs, counts the window and has the next column command make it. (The edges of a sweep's judgement: log 20.) (R297, R299, R300, R302, R304, R305, R306, R307, R309) -/
def Obligations.ScoutsAndExchange : Prop :=
  (∀ (s : State) (x : Sc) (c : Ch) (b : Bool) (g : GroupId) (i : Fin 40),
    scAt c b = x →
    scoutState s x = true →
    scoutsOn s x = true →
    groupFrozen s x g = false →
    (strobeAt s x g).exchange = false →
    (strobeAt s x g).backoff = false →
    (strobeAt s x g).confirming = false →
    comparing (s.phy.sc.get x) g = true →
    pointBursts (strobeAt s x g).cfg ≤ (strobeAt s x g).compared →
    i ∈ grpLanes g →
    (laneAt s x i).phase = .left →
    (laneAt s x i).dis < edgeErr (strobeAt s x g).cfg →
    ((laneAt s x i).liveCode.toNat : Int) - (laneAt s x i).c ≤ sweepSpan (strobeAt s x g).cfg →
    completes (.scoutPointDone c b g) s fun t =>
      laneAt t x i = { laneAt s x i with c := (laneAt s x i).c - sweepStep (strobeAt s x g).cfg, dis := 0 }
      ∧ strobeAt t x g = { strobeAt s x g with compared := 0 }
      ∧ t.out = [])
  ∧ (∀ (s : State) (x : Sc) (c : Ch) (b : Bool) (g : GroupId),
    scAt c b = x →
    scoutState s x = true →
    scoutsOn s x = true →
    groupFrozen s x g = false →
    (strobeAt s x g).exchange = false →
    (strobeAt s x g).backoff = false →
    (strobeAt s x g).confirming = true →
    groupIdle s x g = false →
    comparing (s.phy.sc.get x) g = true →
    (∀ i ∈ grpLanes g, (laneAt s x i).dis = 0) →
    16 * fld ((strobeAt s x g).cfg)[1] 7 0 ≤ (strobeAt s x g).compared →
    completes (.scoutPointDone c b g) s fun t =>
      strobeAt t x g = { strobeAt s x g with confirming := false, exchange := true }
      ∧ (t.phy.sc.get x).lanes = (s.phy.sc.get x).lanes)
  ∧ (∀ (s : State) (x : Sc) (c : Ch) (b : Bool) (g : GroupId),
    scAt c b = x →
    scoutState s x = true →
    scoutsOn s x = true →
    groupFrozen s x g = false →
    (strobeAt s x g).exchange = false →
    (strobeAt s x g).backoff = false →
    (strobeAt s x g).confirming = true →
    groupIdle s x g = false →
    comparing (s.phy.sc.get x) g = true →
    (∃ i ∈ grpLanes g, 0 < (laneAt s x i).dis) →
    completes (.scoutPointDone c b g) s fun t =>
      (strobeAt t x g).backoff = true
      ∧ (strobeAt t x g).confirming = false
      ∧ (strobeAt t x g).reason = 6
      ∧ (strobeAt t x g).rejects = BitVec.ofNat 32 (min 0xFFFFFFFF ((strobeAt s x g).rejects.toNat + 1))
      ∧ (strobeAt t x g).rejectRun = BitVec.ofNat 16 (min 0xFFFF ((strobeAt s x g).rejectRun.toNat + 1))
      ∧ bitOf (regGet t 0x20034) (4 + x.val) = true)
  ∧ (∀ (s : State) (x : Sc) (g : GroupId) (i : Fin 40),
    scoutState s x = true →
    scoutsOn s x = true →
    groupFrozen s x g = false →
    (strobeAt s x g).backoff = true →
    2 ^ fld ((strobeAt s x g).cfg)[3] 15 12 ≤ (strobeAt s x g).compared →
    i ∈ grpLanes g →
    completes (.scoutBackoffEnd x g) s fun t =>
      (strobeAt t x g).backoff = false
      ∧ (strobeAt t x g).cfg = scoutWords s
      ∧ (laneAt t x i).phase = .left
      ∧ (laneAt t x i).c = (laneAt s x i).liveCode.toNat
      ∧ (laneAt t x i).liveCode = (laneAt s x i).liveCode)
  ∧ (∀ (s : State) (x : Sc) (g : GroupId) (i : Fin 40),
    scoutState s x = true →
    scoutsOn s x = true →
    groupFrozen s x g = false →
    (strobeAt s x g).exchange = true →
    swapWindow s x (ckNow s x) < ckNow s x + 4 →
    i ∈ grpLanes g →
    completes (.roleExchange x g) s fun t =>
      (laneAt t x i).liveB = !(laneAt s x i).liveB
      ∧ (laneAt t x i).liveCode = (laneAt s x i).scoutCode
      ∧ (laneAt t x i).scoutCode = (laneAt s x i).liveCode
      ∧ (strobeAt t x g).exchange = false
      ∧ (strobeAt t x g).promotions = BitVec.ofNat 32 (min 0xFFFFFFFF ((strobeAt s x g).promotions.toNat + 1))
      ∧ (strobeAt t x g).lastPromo = s.glb.now
      ∧ (strobeAt t x g).lastSwap = swapWindow s x (ckNow s x)
      ∧ bitOf (regGet t 0x20034) x.val = true)
  ∧ (∀ (s u : State) (x : Sc),
    u = codesGoOn x { s with out := [], raised := 0 } →
    (u.phy.sc.get x).waitCk.any (fun t => decide (t + 400 * rateOf u u.glb.gear ≤ ckNow u x)) = true →
    linesMove u x = true →
    (u.sched.get x).forceWindow = false →
    completes (.forcedSwapWindow x) s fun t =>
      t = bump (0x20108 + 0x10 * x.val) (updSched x (fun q => { q with forceWindow := true }) u))
  ∧ ∀ (s u : State) (x : Sc),
    u = codesGoOn x { s with out := [], raised := 0 } →
    (u.phy.sc.get x).waitCk = none →
    completes (.forcedSwapWindow x) s fun t =>
      t = u

/-- SWATCH_PERIOD_EXPIRY asks for a run, SWATCH_REQ confirms requests for the sub-channels written as 1, SWATCH_RUN_START begins one under the grant with write hold, counts it, keeps the settings that it starts with and sends the codes to the first offset (how a run goes on: log 21). READ_DECODE of a swatch read notes the lanes that differ from the codeword. SWATCH_RUN_END of a run whose sweeps are done takes the new N_ref values, flags it and has the codes settle; SWATCH_HOLD_TIMEOUT and RUNTIME_TRAINING_TIMEOUT count their expiries and send the codes back. OSC_PERIOD_EXPIRY asks for the oscillator commands; once they are done, MNT_ARBITRATE sends the transmit codes of each device on by its drift within the limit (log 22). LIFELINE_SAVE queues the 17 lines of a changed record at the training requester. (R310, R312, R313, R314, R315, R316, R317, R322, R324, R326, R518) -/
def Obligations.SwatchRunsAndOscillators : Prop :=
  (∀ (s : State) (x : Sc),
    chLive s (chOf x) = true →
    completes (.swatchPeriodExpiry x) s fun t =>
      t = { updPhySc x (fun p => { p with swWanted := true }) s with out := [], raised := 0 })
  ∧ (∀ (s : State) (v : Word),
    confirms s 0x20020 v →
    completes (.swatchReq true (~~~v)) s fun t =>
      (∀ x : Sc, (t.phy.sc.get x).swReq = ((s.phy.sc.get x).swReq || v.getLsbD x.val))
      ∧ t.pp = none
      ∧ t.out = [.reg 0 0])
  ∧ (∀ (s : State) (x : Sc) (i : Fin 40),
    trainAsks s x = true →
    (s.phy.sc.get x).seq = .idle →
    (s.sched.get x).holder = some 2 →
    completes (.swatchRunStart x) s fun t =>
      (t.phy.sc.get x).seq = .swatch
      ∧ (t.phy.sc.get x).run = some ⟨.shift, 0, 0, [], [], [], swCfg s, scoutWords s⟩
      ∧ (t.phy.sc.get x).swReq = false
      ∧ (t.phy.sc.get x).swWanted = false
      ∧ (laneAt t x i).tx = (laneAt s x i).tx
      ∧ (laneAt t x i).txTo = codePlus (llTx s x i.val) (swOffset (swSpan (swCfg s)) (swStep (swCfg s)) 0)
      ∧ (t.sched.get x).writeHold = true
      ∧ regGet t (0x20104 + 0x10 * x.val) = BitVec.ofNat 32 (min 0xFFFFFFFF ((regGet s (0x20104 + 0x10 * x.val)).toNat + 1)))
  ∧ (∀ (s : State) (x : Sc) (rx : Capture) (g : RdTag) (k : Nat) (r : SwRun),
    (s.sched.get x).pipe.find? (fun r => r.origin.isRead) = some g →
    g.origin = .swatch k →
    (s.phy.sc.get x).run = some r →
    completes (.readDecode x rx) s fun t =>
      (t.phy.sc.get x).run = some { r with
      waits := r.waits - 1,
      bad := r.bad ++ (badLanes (g.burst s rx) (encodeLine g.lla (swatchLine k) false)).map (fun i => 40 * (unpackLla g.lla).cs + i) }
      ∧ g ∉ (t.sched.get x).pipe
      ∧ t.reqs = s.reqs
      ∧ t.out = [])
  ∧ (∀ (s : State) (x : Sc) (counts : List Nat) (r : SwRun) (i : Fin 40),
    (s.phy.sc.get x).run = some r →
    r.stage = .judge →
    (s.phy.sc.get x).seq = .swatch →
    swatchState s x = true →
    (s.sched.get x).holder = some 2 →
    completes (.swatchRunEnd x counts) s fun t =>
      (t.phy.sc.get x).run = some { r with stage := .settle }
      ∧ (t.phy.sc.get x).nref = counts
      ∧ (t.phy.sc.get x).seq = .swatch
      ∧ (laneAt t x i).tx = (laneAt s x i).tx
      ∧ bitOf (regGet t 0x20034) (8 + x.val) = true)
  ∧ (∀ (s : State) (x : Sc) (i : Fin 40),
    (s.phy.sc.get x).seq = .swatch →
    completes (.swatchHoldTimeout x) s fun t =>
      countsExpiry 0x06 s t
      ∧ (t.phy.sc.get x).seq = .walk
      ∧ (t.phy.sc.get x).run = none
      ∧ (laneAt t x i).txTo = codePlus (llTx s x i.val) 0
      ∧ (t.sched.get x).writeHold = (s.sched.get x).writeHold
      ∧ bitOf (regGet t 0x20034) (12 + x.val) = true)
  ∧ (∀ (s : State) (x : Sc) (i : Fin 40),
    (s.phy.sc.get x).seq = .swatch →
    completes (.runtimeTrainingTimeout x) s fun t =>
      countsExpiry 0x07 s t
      ∧ (t.phy.sc.get x).seq = .walk
      ∧ (t.phy.sc.get x).run = none
      ∧ (laneAt t x i).txTo = codePlus (llTx s x i.val) 0
      ∧ bitOf (regGet t 0x20034) (12 + x.val) = true)
  ∧ (∀ (s : State) (x : Sc) (counts : List Nat),
    regBit s 0x20000 (4 + x.val) = true →
    scoutState s x = true →
    swatchState s x = true →
    (s.phy.sc.get x).seq = .idle →
    completes (.oscPeriodExpiry x counts) s fun t =>
      t.phy.sc.get x = { s.phy.sc.get x with seq := .osc, osc := some counts }
      ∧ ((t.sched.get x).maint.get 2).length = ((s.sched.get x).maint.get 2).length + 3 * (swCs s x).length)
  ∧ (∀ (s : State) (x : Sc) (counts : List Nat) (i : Fin 40),
    s.glb.ctl = .service →
    s.ras.ppr = none →
    (s.phy.sc.get x).seq = .osc →
    (s.phy.sc.get x).osc = some counts →
    ((s.sched.get x).maint.get 2).any MntCmd.oscs = false →
    laneDev s i.val < devCount (isX8 s) →
    completes (.mntArbitrate x) s fun t =>
      (t.phy.sc.get x).osc = none
      ∧ (laneAt t x i).txTo = (match oscDelta s x counts (laneDev s i.val) with
      | some m => if m.natAbs ≤ regFld s 0x20018 15 8 then codePlus (laneAt s x i).txTo m else (laneAt s x i).txTo
      | none => (laneAt s x i).txTo))
  ∧ ∀ (s : State) (c : Ch),
    swatchState s (scA c) = true →
    s.phy.llChanged.get (llKey c s.glb.gear) = true →
    completes (.lifelineSave c) s fun t =>
      t.phy.llChanged.get (llKey c s.glb.gear) = false
      ∧ ((t.sched.get (scA c)).maint.get 2).length = ((s.sched.get (scA c)).maint.get 2).length + 17

/-- GEAR_REQ of a defined, available gear other than the active one, in SERVICE outside a swatch run, becomes the pending change, else it is refused with its code; during a run it waits. Either way it takes the place of a request that has not started (log 23). GEAR_CHANGE_ENTER, with the drain estimate met and no repair or recovery, enters GEAR_CHANGE with full drain. GEAR_CHANGE_DONE after the drain makes the target the active gear and returns to SERVICE, or to QUIESCED where a pause waits for it, or changes back to the old gear and marks the target unavailable with code 5 (the code shown is that of a request that waited, if one did). GEAR_POLICY_WINDOW counts one window in which data took less than PWR_GEAR_LOW percent of the ck, asks for the low gear at the second, and begins the next window. (R329, R330, R331, R332, R333, R487) -/
def Obligations.GearChanges : Prop :=
  (∀ (s : State) (v : Word) (g : Gear),
    confirms s 0x20028 v →
    s.glb.ctl = .service →
    swatchRuns s = false →
    bitOf v 31 = true →
    g.val = fld v 1 0 →
    gearRefusal s g = none →
    completes (.gearReq true (~~~v)) s fun t =>
      t.phy.gearPending = some g
      ∧ t.phy.gearWait = none
      ∧ t.pp = none
      ∧ t.out = [.reg 0 0])
  ∧ (∀ (s : State) (v : Word) (g : Gear) (k : Nat),
    confirms s 0x20028 v →
    s.glb.ctl = .service →
    swatchRuns s = false →
    bitOf v 31 = true →
    g.val = fld v 1 0 →
    gearRefusal s g = some k →
    completes (.gearReq true (~~~v)) s fun t =>
      t.phy.gearPending = none
      ∧ t.phy.gearWait = none
      ∧ regFld t 0x20030 30 28 = k
      ∧ k ≤ 3)
  ∧ (∀ (s : State) (v : Word) (g : Gear),
    confirms s 0x20028 v →
    s.glb.ctl = .service →
    swatchRuns s = true →
    bitOf v 31 = true →
    g.val = fld v 1 0 →
    completes (.gearReq true (~~~v)) s fun t =>
      t.phy.gearPending = none
      ∧ t.phy.gearWait = some g
      ∧ t.pp = none)
  ∧ (∀ (s : State) (g : Gear),
    s.phy.gearPending = some g →
    s.glb.ctl = .service →
    s.qz.ph ≠ .boundary →
    repairing s = false →
    gearDrained s = true →
    completes .gearChangeEnter s fun t =>
      t.glb.ctl = .gearChange
      ∧ t.phy.gearPending = none
      ∧ t.phy.gearTo = some (g, s.glb.now)
      ∧ (∀ x ∈ liveScs s, s.pwr.sc.get x ≠ .selfRefresh → (t.sched.get x).fullDrain = true))
  ∧ (∀ (s : State) (g : Gear) (since : Nat) (ok : Bool),
    s.phy.gearTo = some (g, since) →
    s.glb.ctl = .gearChange →
    drained s = true →
    s.qz.ph ≠ .deferred →
    completes (.gearChangeDone ok) s fun t =>
      t.glb.ctl = .service
      ∧ t.glb.gear = (if ok then g else s.glb.gear)
      ∧ t.phy.gearTo = none
      ∧ bitOf (regGet t 0x20034) 21 = true
      ∧ (ok = false → bitOf (regGet t (0xE000 + 0x200 * g.val)) 30 = true)
      ∧ (s.phy.gearWait = none → regFld t 0x20030 30 28 = (if ok then 0 else 5)))
  ∧ (∀ (s : State) (g : Gear) (since : Nat) (ok : Bool),
    s.phy.gearTo = some (g, since) →
    s.glb.ctl = .gearChange →
    drained s = true →
    s.qz.ph = .deferred →
    s.qz.hold ≠ 0 →
    completes (.gearChangeDone ok) s fun t =>
      t.glb.ctl = .quiesced
      ∧ t.glb.gear = (if ok then g else s.glb.gear)
      ∧ t.phy.gearTo = none
      ∧ (if s.qz.deep then t.qz = { s.qz with ph := .waitSr } else t.qz = { s.qz with ph := .paused, ack := true, paused := true }))
  ∧ (∀ (s : State),
    policyOn s = true →
    s.glb.ctl = .service →
    s.glb.gear = policyHigh s →
    100 * windowData s < regFld s 0x300C 23 16 * windowAll s →
    s.phy.policyRun = 0 →
    completes (.gearPolicyWindow ()) s fun t =>
      t = windowBegins { s with phy := { s.phy with policyRun := 1 }, out := [], raised := 0 })
  ∧ ∀ (s : State),
    policyOn s = true →
    s.glb.ctl = .service →
    swatchRuns s = false →
    s.glb.gear = policyHigh s →
    100 * windowData s < regFld s 0x300C 23 16 * windowAll s →
    1 ≤ s.phy.policyRun →
    gearRefusal s (policyLow s) = none →
    completes (.gearPolicyWindow ()) s fun t =>
      t.phy.gearPending = some (policyLow s)
      ∧ t.phy.gearWait = none
      ∧ t.regs = s.regs

/-- POWER_DOWN_ENTRY of an idle sub-channel in SERVICE with power-down enabled enters power-down with its requesters masked and counts it; SELF_REFRESH_ENTRY of a quiet one enters self-refresh and counts it; SELF_REFRESH_WAKE leaves it where a wake condition of R483 holds, and else has no effect (log 45). DORMANT_ENTRY under its conditions enters DORMANT, stops the core clock, counts and flags it. DORMANT_WAKE by a port and DORMANT_TIMER_EXPIRY with a nonzero limit start a wake. WAKE_COMPLETE runs the core clock, leaves self-refresh and enters SERVICE, or QUIESCED where a pause was acknowledged in DORMANT, whose depth decides about self-refresh (log 24). (R28, R65, R219, R482, R483, R484, R485, R486) -/
def Obligations.PowerDownAndDormant : Prop :=
  (∀ (s : State) (x : Sc),
    s.glb.ctl = .service →
    chLive s (chOf x) = true →
    s.pwr.sc.get x = .active →
    regBit s 0x3000 31 = true →
    busDone s x = true →
    (s.sched.get x).rq.all RdEnt.issued = true →
    (s.sched.get x).wq.all WrEnt.issued = true →
    (s.sched.get x).copy = [] →
    (s.sched.get x).maint.toList.all List.isEmpty = true →
    trainAsks s x = false →
    completes (.powerDownEntry x) s fun t =>
      t.pwr.sc.get x = .powerDown
      ∧ (t.sched.get x).maskVec = BitVec.allOnes 7
      ∧ (t.sched.get x).holder = none
      ∧ regGet t 0x3060 = BitVec.ofNat 32 (min 0xFFFFFFFF ((regGet s 0x3060).toNat + 1)))
  ∧ (∀ (s : State) (x : Sc),
    s.glb.ctl = .service →
    chLive s (chOf x) = true →
    s.pwr.sc.get x ≠ .selfRefresh →
    regBit s 0x3000 30 = true →
    scQuiet s x = true →
    mntAsks s x = false →
    scrubBehind s x = false →
    s.ras.fetch.all (fun f => decide (f.1 ≠ x)) = true →
    (s.ras.spare.get (chOf x)).st ≠ .copying →
    s.ras.ppr = none →
    completes (.selfRefreshEntry x) s fun t =>
      t.pwr.sc.get x = .selfRefresh
      ∧ (t.sched.get x).maskVec = BitVec.allOnes 7
      ∧ regGet t 0x3064 = BitVec.ofNat 32 (min 0xFFFFFFFF ((regGet s 0x3064).toNat + 1)))
  ∧ (∀ (s : State) (x : Sc),
    s.glb.ctl = .service →
    chLive s (chOf x) = true →
    s.pwr.sc.get x = .selfRefresh →
    srWakes s x = true →
    completes (.selfRefreshWake x) s fun t =>
      t.pwr.sc.get x = .active
      ∧ (t.sched.get x).maskVec = 0
      ∧ (t.glb.ch.get (chOf x)).inSr = false
      ∧ (t.glb.ch.get (chOf x)).latch = false)
  ∧ (∀ (s : State) (x : Sc),
    srWakes s x = false →
    completes (.selfRefreshWake x) s fun t =>
      t = begin_ s)
  ∧ (∀ (s : State),
    mayDoze s = true →
    completes .dormantEntry s fun t =>
      t.glb.ctl = .dormant
      ∧ t.glb.coreRun = false
      ∧ regGet t 0x3068 = BitVec.ofNat 32 (min 0xFFFFFFFF ((regGet s 0x3068).toNat + 1))
      ∧ bitOf (regGet t 0x3050) 1 = true
      ∧ t.pwr.dormantAt = s.glb.now
      ∧ t.out = [])
  ∧ (∀ (s : State) (p : PortId),
    s.glb.ctl = .dormant →
    s.pwr.waking = false →
    completes (.dormantWake (.port p)) s fun t =>
      t.pwr = { s.pwr with waking := true }
      ∧ t.glb = { s.glb with pllTries := 0 }
      ∧ t.out = [])
  ∧ (∀ (s : State) (a : RegAcc),
    s.glb.ctl = .dormant →
    portReady s = true →
    a.allowed = true →
    a.wakes = true →
    completes (.dormantWake (.regWrite a)) s fun t =>
      t.pwr.waking = true
      ∧ t.pwr.deferred = s.pwr.deferred ++ [a]
      ∧ t.regs = s.regs
      ∧ t.out = [])
  ∧ (∀ (s : State),
    s.glb.ctl = .dormant →
    s.pwr.waking = false →
    regFld s 0x3004 15 0 ≠ 0 →
    completes .dormantTimerExpiry s fun t =>
      t.pwr = { s.pwr with waking := true }
      ∧ t.glb = { s.glb with pllTries := 0 }
      ∧ t.out = [])
  ∧ (∀ (s : State),
    s.glb.ctl = .dormant →
    s.pwr.waking = true →
    s.pwr.deferred = [] →
    s.qz.ph = .idle →
    completes .wakeComplete s fun t =>
      t.glb.ctl = .service
      ∧ t.glb.coreRun = true
      ∧ t.pwr.waking = false
      ∧ (∀ x ∈ liveScs s, t.pwr.sc.get x ≠ .selfRefresh)
      ∧ regGet t 0x306C = BitVec.ofNat 32 (min 0xFFFFFFFF ((regGet s 0x306C).toNat + 1)))
  ∧ ∀ (s : State),
    s.glb.ctl = .dormant →
    s.pwr.waking = true →
    s.pwr.deferred = [] →
    s.qz.ph = .paused →
    completes .wakeComplete s fun t =>
      t.glb.ctl = .quiesced
      ∧ t.glb.coreRun = true
      ∧ t.pwr.waking = false
      ∧ (if s.qz.deep then t.pwr.sc = s.pwr.sc else ∀ x ∈ liveScs s, t.pwr.sc.get x ≠ .selfRefresh)
      ∧ t.qz = s.qz

/-- THERMAL_POLL with a valid reading shows the hottest as t_max, becomes critical at or above PWR_T_CRIT and leaves it below PWR_T_CRIT less the hysteresis with no critical MR4 reading, updates the integral and u by the law of R491 (u is the floor while critical), and delivers u as QOS_T_NEXT; without a reading the integral, u and the throttle stay. PMIC_POLL takes each new reading as valid and marks the others invalid (log 46). (R488, R489, R490, R491, R492, R493, R539) -/
def Obligations.ThermalLoop : Prop :=
  (∀ (s u : State) (r : Reading) (l : List Reading) (h : Reading),
    (fins 2).any (busOwned s) = true →
    u = forAll ((fins 2).filter (busOwned s)) (fun c s => forAll (fins 2) (pollSlot c) s) s →
    readings u = r :: l →
    h = hottest r l →
    completes .thermalPoll s fun t =>
      t.pwr.tMax = BitVec.ofInt 16 h.t
      ∧ t.pwr.critical = (decide ((16 * regFld s 0x3010 23 16 : Int) ≤ h.t) || (s.pwr.critical &&
      !(decide (h.t < 16 * (regFld s 0x3010 23 16 : Int) - 16 * regFld s 0x3010 15 12) && mr4Calm s)))
      ∧ t.pwr.integ = (thermalLaw (regFld s 0x3018 31 16) (regFld s 0x3018 15 0) (regFld s 0x3010 31 24) (tFloor s) s.pwr.integ h.t).1
      ∧ t.pwr.u = (if t.pwr.critical then tFloor s else
      (thermalLaw (regFld s 0x3018 31 16) (regFld s 0x3018 15 0) (regFld s 0x3010 31 24) (tFloor s) s.pwr.integ h.t).2)
      ∧ regFld t 0x9010 26 16 = t.pwr.u)
  ∧ (∀ (s u : State),
    (fins 2).any (busOwned s) = true →
    u = forAll ((fins 2).filter (busOwned s)) (fun c s => forAll (fins 2) (pollSlot c) s) s →
    readings u = [] →
    completes .thermalPoll s fun t =>
      t.pwr.integ = s.pwr.integ
      ∧ t.pwr.u = s.pwr.u
      ∧ t.pwr.critical = s.pwr.critical
      ∧ regGet t 0x9010 = regGet s 0x9010)
  ∧ ∀ (s : State) (i : Fin 4),
    completes .pmicPoll s fun t =>
      t.glb.slot.get i = (match (s.glb.slot.get i).pmicNew with
      | some v => { s.glb.slot.get i with pmic := v, pmicValid := true, pmicNew := none }
      | none => { s.glb.slot.get i with pmicValid := false })
      ∧ t.regs = s.regs

/-- PF_N_FALL in a serving state enters BIND_OFF, remembers the state left, ends a pause and a gear change, drops the maintenance work and every refresh owed, and aborts a swatch run; in RESET, HELD and BIND_OFF only the level is taken. In HALTED and DORMANT it enters BIND_OFF with the power states as they are. BIND_OFF_COMPLETE once every sub-channel that Bind-Off must bring there is in self-refresh enters HELD with the core clock stopped and, unless HALTED was left, the latch of every channel in self-refresh set, and records BIND_OFF with the four words of R502. VDDQ_INVALID clears every latch. (R26, R65, R70, R71, R75, R87, R219, R494, R498, R502) -/
def Obligations.BindOffRules : Prop :=
  (∀ (s : State),
    (s.glb.ctl = .service ∨ s.glb.ctl = .quiesced ∨ s.glb.ctl = .gearChange ∨ s.glb.ctl = .castOn) →
    completes .pfNFall s fun t =>
      t.glb.ctl = .bindOff
      ∧ t.glb.pfN = false
      ∧ t.pwr.bo.map BindOff.from_ = some s.glb.ctl
      ∧ t.qz = { s.qz with ph := .idle, ack := false, paused := false }
      ∧ t.phy.gearPending = none ∧ t.phy.gearTo = none
      ∧ (∀ x : Sc, (t.sched.get x).locks = []
        ∧ ((s.phy.sc.get x).seq ≠ .swatch → (t.sched.get x).maint = Vector.replicate 7 []))
      ∧ (∀ x : Sc, (s.phy.sc.get x).seq = .swatch → (t.phy.sc.get x).seq = .walk)
      ∧ t.ref.due = [] ∧ t.ref.abo = Vector.replicate 2 [])
  ∧ (∀ (s : State),
    (s.glb.ctl = .reset ∨ s.glb.ctl = .held ∨ s.glb.ctl = .bindOff) →
    completes .pfNFall s fun t =>
      t = { s with glb := { s.glb with pfN := false }, out := [], raised := 0 })
  ∧ (∀ (s : State),
    (s.glb.ctl = .halted ∨ s.glb.ctl = .dormant) →
    completes .pfNFall s fun t =>
      t.glb.ctl = .bindOff
      ∧ t.glb.pfN = false
      ∧ t.pwr.bo.map BindOff.from_ = some s.glb.ctl
      ∧ t.qz = { s.qz with ph := .idle, ack := false, paused := false }
      ∧ t.pwr.sc = s.pwr.sc)
  ∧ (∀ (s : State) (b : BindOff),
    s.pwr.bo = some b →
    s.glb.ctl = .bindOff →
    (boScs s).all (boAsleep s) = true →
    completes .bindOffComplete s fun t =>
      t.glb.ctl = .held
      ∧ t.glb.coreRun = false
      ∧ t.pwr.sc = s.pwr.sc
      ∧ records 0x1C (if b.lost = 0 then 0 else 2) 7
      [pack [(b.from_.code, 28), (b.gear.val, 26), (b2n (t.glb.ch.get 1).latch, 25), (b2n (t.glb.ch.get 0).latch, 24),
        (b2n b.replayRan, 23),
      (b2n b.deepExit, 22), (b2n b.recStopped, 21), (b2n (decide (b.lost ≠ 0)), 20)], BitVec.ofNat 32 (boTime b s),
      pack [(sat 0xFFFF b.drained, 16), (sat 0xFFFF b.copied, 0)],
      pack [(sat 0xFFFF b.lost, 16), (sat 0xFFFF (s.reqs.countP fun r => !r.answered), 0)]] s t
      ∧ (b.from_ ≠ .halted → ∀ c : Ch, (t.glb.ch.get c).inSr = true → (t.glb.ch.get c).latch = true))
  ∧ ∀ (s : State),
    completes .vddqInvalid s fun t =>
      t = { s with out := [], raised := 0, glb := { s.glb with vddqOk := false, ch := s.glb.ch.map fun h => { h with latch := false, inSr := false, released := false } } }

/-- SCRUB_READ_DECODE of a clean patrol or out-of-turn read releases its line lock and writes nothing; a corrected line is counted and written back as corrected; a lost line is written back as poison, or asked of the healthy peer if it is mirrored. SCRUB_DEADLINE_MISS of a pass that is not done at its deadline notes and flags it and records what is left; before the deadline it has no effect (log 5). SCRUB_CFG_COMMIT with RAS_SCRUB_EN clear abandons every pass. ERROR_LEAK lowers every device counter that is not 0 by one. DEVICE_MARKED of a first triggered device of a x4 unit marks it, flags it and enters it in the repair list; else it asks for sparing or does nothing to either. (R339, R347, R348, R349, R350, R354, R357, R378) -/
def Obligations.ScrubAndErrorAccounting : Prop :=
  (∀ (s : State) (x : Sc) (rx : Capture) (g : RdTag),
    (s.sched.get x).pipe.find? (fun r => r.origin.isScrub) = some g →
    (g.origin = .patrol ∨ g.origin = .oot) →
    (g.decode s rx).outcome = .clean →
    completes (.scrubReadDecode x rx) s fun t =>
      g ∉ (t.sched.get x).pipe
      ∧ (t.sched.get x).locks = (s.sched.get x).locks.filter (fun l => decide (l ≠ g.lla))
      ∧ (t.sched.get x).maint = (s.sched.get x).maint
      ∧ t.evt.buf = s.evt.buf)
  ∧ (∀ (s : State) (x : Sc) (rx : Capture) (g : RdTag) (d : Decoded),
    (s.sched.get x).pipe.find? (fun r => r.origin.isScrub) = some g →
    (g.origin = .patrol ∨ g.origin = .oot) →
    d = g.decode s rx →
    d.outcome = .corrected →
    completes (.scrubReadDecode x rx) s fun t =>
      g ∉ (t.sched.get x).pipe
      ∧ (t.sched.get x).maint.get 6 = (s.sched.get x).maint.get 6 ++ [⟨.lineWrite g.lla d.data false true, none, false, [], none⟩]
      ∧ regGet t (rRas x 4) = BitVec.ofNat 32 (min 0xFFFFFFFF ((regGet s (rRas x 4)).toNat + 1)))
  ∧ (∀ (s : State) (x : Sc) (rx : Capture) (g : RdTag) (d : Decoded),
    (s.sched.get x).pipe.find? (fun r => r.origin.isScrub) = some g →
    (g.origin = .patrol ∨ g.origin = .oot) →
    d = g.decode s rx →
    d.outcome.lost = true →
    (lineMirrored s g.lla && lineHealthy s g.lla) = false →
    completes (.scrubReadDecode x rx) s fun t =>
      g ∉ (t.sched.get x).pipe
      ∧ (t.sched.get x).maint.get 6 = (s.sched.get x).maint.get 6 ++ [⟨.lineWrite g.lla 0 true true, none, false, [], none⟩]
      ∧ bitOf (regGet t 0x14030) (4 + x.val) = true)
  ∧ (∀ (s : State) (x : Sc) (rx : Capture) (g : RdTag) (d : Decoded),
    (s.sched.get x).pipe.find? (fun r => r.origin.isScrub) = some g →
    d = g.decode s rx →
    d.outcome.lost = true →
    lineMirrored s g.lla = true →
    lineHealthy s g.lla = true →
    completes (.scrubReadDecode x rx) s fun t =>
      g ∉ (t.sched.get x).pipe
      ∧ (t.sched.get x).maint = (s.sched.get x).maint
      ∧ (∃ f ∈ t.ras.fetch, f.1 = x ∧ f.2.1 = g.lla)
      ∧ t.egp.waiting = s.egp.waiting ++ [peerOp s .mirrorRead (sysAddr s g.lla) 0 (.scrubFetch x g.lla)])
  ∧ (∀ (s : State) (x : Sc),
    (s.ras.scrub.get x).active = true →
    (s.ras.scrub.get x).missed = false →
    (s.ras.scrub.get x).t0 + scrubPeriod (s.ras.scrub.get x).periodH ≤ s.glb.now →
    completes (.scrubDeadlineMiss x) s fun t =>
      t.ras.scrub.get x = { s.ras.scrub.get x with missed := true }
      ∧ bitOf (regGet t 0x14030) x.val = true
      ∧ records 0x1D 0 4 [pack [(x.val, 30)], regGet s (0x14050 + 0x10 * x.val), pack [(scrubRegions s x - (s.ras.scrub.get x).done / 2 ^ 18, 0)]] s t)
  ∧ (∀ (s : State) (x : Sc),
    s.glb.now < (s.ras.scrub.get x).t0 + scrubPeriod (s.ras.scrub.get x).periodH →
    completes (.scrubDeadlineMiss x) s fun t =>
      t = begin_ s)
  ∧ (∀ (s : State) (v : Word),
    confirms s 0x1400C v →
    bitOf v 31 = false →
    completes (.scrubCfgCommit true (~~~v)) s fun t =>
      (∀ x : Sc, (t.ras.scrub.get x).active = false ∧ ((t.sched.get x).maint.get 6).any MntCmd.patrols = false)
      ∧ bitOf (regGet t 0x1400C) 31 = false
      ∧ t.pp = none
      ∧ t.out = [.reg 0 0])
  ∧ (∀ (s : State),
    completes .errorLeak s fun t =>
      (∀ (x : Sc) (u : Nat) (d : Fin 10), ((rasUnit t x u).cnt.get d).toNat = ((rasUnit s x u).cnt.get d).toNat - 1)
      ∧ (∀ (x : Sc) (u : Nat), (rasUnit t x u).mark = (rasUnit s x u).mark ∧ (rasUnit t x u).ue = (rasUnit s x u).ue)
      ∧ t.regs = s.regs)
  ∧ (∀ (s : State) (x : Sc) (u : Fin 64) (d : Fin 10),
    s.ras.reached.contains (x, u.val, d) = true →
    isX8 s = false →
    (rasUnit s x u.val).mark = none →
    s.ras.rpl.length < 256 →
    completes (.deviceMarked x u d) s fun t =>
      rasUnit t x u.val = { rasUnit s x u.val with mark := some d }
      ∧ t.ras.reached = s.ras.reached.filter (fun e => decide (e ≠ (x, u.val, d)))
      ∧ bitOf (regGet t 0x14030) (20 + x.val) = true
      ∧ t.ras.rpl = s.ras.rpl ++ [(rplWord0 1 0 x (markReq s x u.val d).cs.toNat (markReq s x u.val d).lr d.val 0 0 0, pack [((markReq s x u.val d).count, 24)])])
  ∧ ∀ (s : State) (x : Sc) (u : Fin 64) (d : Fin 10),
    s.ras.reached.contains (x, u.val, d) = true →
    (!isX8 s && decide ((rasUnit s x u.val).mark = none)) = false →
    completes (.deviceMarked x u d) s fun t =>
      t.ras.units = s.ras.units
      ∧ t.ras.rpl = s.ras.rpl
      ∧ t.ras.reached = s.ras.reached.filter (fun e => decide (e ≠ (x, u.val, d)))
      ∧ (t.ras.spare.get (chOf x)).waiting = (s.ras.spare.get (chOf x)).waiting ++ (if spareMay s (chOf x) then [markReq s x u.val d] else [])

/-- PPR_START takes the oldest waiting repair, one of its sub-channel: with the list full or no resource it ends with its flag; else the resource register is read and the repair waits for the writes of its row. When none of the row's lines is held, MNT_ARBITRATE asks for a read of each, and READ_DECODE saves it (log 28). PPR_MODE_ENTER enters repair mode once every line is saved and every rank of the chip select owes no refresh, and waits else. PPR_TIMEOUT in repair mode counts its expiry and goes on to the write-back; PPR_DONE, after the lines were written back and read, ends the repair with its flag and enters a repaired row in the repair list. SPARING_START starts a copy from its first line, or only takes the trigger away. SPARING_COMPLETE of a copy that has reached every line puts the spare in service, flagged and entered in the list; of another it does nothing. (R359, R360, R363, R365, R366, R367, R368, R518) -/
def Obligations.RowRepairAndSparing : Prop :=
  (∀ (s : State) (res : Bool) (x : Sc) (l : Lla) (dev count : Nat) (by_ : Bool) (rest : List (Sc × Lla × Nat × Nat × Bool)),
    s.ras.pprWait = (x, l, dev, count, by_) :: rest →
    s.ras.ppr = none →
    replayFree s x = true →
    (s.alert.get (chOf x)).recovering = false →
    (256 ≤ s.ras.rpl.length ∨ res = false) →
    completes (.pprStart x res) s fun t =>
      t.ras.ppr = none
      ∧ t.ras.pprWait = rest
      ∧ t.ras.rpl = s.ras.rpl
      ∧ bitOf (regGet t 0x14030) (8 + x.val) = true)
  ∧ (∀ (s : State) (x : Sc) (l : Lla) (dev count : Nat) (by_ : Bool) (rest : List (Sc × Lla × Nat × Nat × Bool)),
    s.ras.pprWait = (x, l, dev, count, by_) :: rest →
    s.ras.ppr = none →
    replayFree s x = true →
    (s.alert.get (chOf x)).recovering = false →
    s.ras.rpl.length < 256 →
    completes (.pprStart x true) s fun t =>
      t.ras.pprWait = rest
      ∧ t.ras.ppr = some ⟨x, l, dev, count, .quiet, 0, [], by_, false⟩
      ∧ (∃ m ∈ (t.sched.get x).maint.get 2, m.op = .mode .mrr (BitVec.ofNat 2 (unpackLla l).cs) (BitVec.ofNat 4 (unpackLla l).lr) (.get .pprLeft))
      ∧ t.out = [])
  ∧ (∀ (s : State) (x : Sc) (p : Ppr),
    (s.glb.ctl = .service ∨ s.glb.ctl = .quiesced) →
    s.ras.ppr = some p →
    p.sc = x →
    p.step = .quiet →
    replayFree s x = true →
    (rowLines s p.lla).any (lineBusy (s.sched.get x)) = false →
    readsZero s p.lla = false →
    (s.phy.sc.get x).run = none →
    (s.phy.sc.get x).seq = .idle →
    completes (.mntArbitrate x) s fun t =>
      t.ras.ppr = some { p with step := .waiting }
      ∧ (rowLines s p.lla).all (fun k => ((t.sched.get x).maint.get 2).any fun m => decide (m.op = .lineRead (.repair false) k)) = true)
  ∧ (∀ (s : State) (x : Sc) (rx : Capture) (g : RdTag) (p : Ppr) (d : Decoded),
    (s.sched.get x).pipe.find? (fun r => r.origin.isRead) = some g →
    g.origin = .repair false →
    s.ras.ppr = some p →
    p.sc = x →
    p.step = .waiting →
    d = g.decode s rx →
    completes (.readDecode x rx) s fun t =>
      t.ras.ppr = some { p with buf := p.buf ++ [(g.lla, d.data, d.outcome.lost || decide (d.outcome = .poison))] }
      ∧ g ∉ (t.sched.get x).pipe
      ∧ t.reqs = s.reqs
      ∧ t.out = [])
  ∧ (∀ (s : State) (p : Ppr),
    s.ras.ppr = some p →
    p.step = .waiting →
    (rowLines s p.lla).length ≤ p.buf.length →
    replayFree s p.sc = true →
    (List.range (nLr s)).all (fun lr => decide ((refUnit s p.sc (unitNo s (unpackLla p.lla).cs lr)).debt ≤ 0)) = true →
    completes .pprModeEnter s fun t =>
      t.ras.ppr = some { p with step := .mode }
      ∧ ((t.sched.get p.sc).maint.get 2).any MntCmd.repairs = true)
  ∧ (∀ (s : State) (p : Ppr),
    s.ras.ppr = some p →
    (List.range (nLr s)).all (fun lr => decide ((refUnit s p.sc (unitNo s (unpackLla p.lla).cs lr)).debt ≤ 0)) = false →
    completes .pprModeEnter s fun t =>
      t = { s with out := [], raised := 0 })
  ∧ (∀ (s : State) (p : Ppr),
    s.ras.ppr = some p →
    p.step = .mode →
    completes .pprTimeout s fun t =>
      t.ras.ppr = some { p with step := .writeBack, outcome := 2 }
      ∧ countsExpiry 0x05 s t)
  ∧ (∀ (s : State) (p : Ppr),
    s.ras.ppr = some p →
    p.step = .verify →
    repairOpen s p.sc = false →
    s.ras.rpl.length < 256 →
    completes (.pprDone p.sc) s fun t =>
      t.ras.ppr = none
      ∧ bitOf (regGet t 0x14030) (8 + p.sc.val) = true
      ∧ t.ras.rpl = s.ras.rpl ++ (if p.outcome = 0 ∨ p.outcome = 3 then
      [(rplWord0 0 0 p.sc (unpackLla p.lla).cs (unpackLla p.lla).lr p.dev (unpackLla p.lla).bg (unpackLla p.lla).bank 0,
      pack [(p.count, 24), (dramRow s (unpackLla p.lla), 0)])] else []))
  ∧ (∀ (s : State) (c : Ch) (r : SpareReq) (rest : List SpareReq),
    (s.ras.spare.get c).waiting = r :: rest →
    (s.alert.get c).recovering = false →
    (s.ras.spare.get (chN (1 - c.val))).st ≠ .copying →
    chLive s c = true →
    spareMay s c = true →
    completes (.sparingStart c) s fun t =>
      (t.ras.spare.get c).st = .copying
      ∧ (t.ras.spare.get c).replaced = r.cs
      ∧ (t.ras.spare.get c).cs = (s.ras.spare.get c).cs
      ∧ (t.ras.spare.get c).active = some r
      ∧ (t.ras.spare.get c).waiting = rest
      ∧ (∀ i : Fin 2, (t.ras.spare.get c).frontier.get i = 0))
  ∧ (∀ (s : State) (c : Ch) (r : SpareReq) (rest : List SpareReq),
    (s.ras.spare.get c).waiting = r :: rest →
    (s.alert.get c).recovering = false →
    (s.ras.spare.get (chN (1 - c.val))).st ≠ .copying →
    chLive s c = true →
    spareMay s c = false →
    completes (.sparingStart c) s fun t =>
      t.ras.spare.get c = { s.ras.spare.get c with waiting := rest }
      ∧ t.sched = s.sched)
  ∧ (∀ (s : State) (c : Ch) (r : SpareReq),
    (s.ras.spare.get c).st = .copying →
    (s.ras.spare.get c).active = some r →
    copyDone s (s.ras.spare.get c) = true →
    s.ras.rpl.length < 256 →
    completes (.sparingComplete c) s fun t =>
      t.ras.spare.get c = { s.ras.spare.get c with st := .inService, active := none }
      ∧ bitOf (regGet t 0x14030) (18 + c.val) = true
      ∧ t.ras.rpl = s.ras.rpl ++ [(rplWord0 2 0 (scA c) (s.ras.spare.get c).replaced.toNat 0 0 0 0 (s.ras.spare.get c).cs.toNat, pack [(r.count, 24)])])
  ∧ ∀ (s : State) (c : Ch),
    copyDone s (s.ras.spare.get c) = false →
    completes (.sparingComplete c) s fun t =>
      t = { s with out := [], raised := 0 }

/-- (These are log 28 where the manual orders no codes, and log 29 for the record of a sparing request.) With no request in progress, a confirmed SOFT_REPAIR_REQ of a usable line with repairs enabled enters the repair and shows busy, with repairs disabled it shows code 3; a SPARING_REQ of a chip select in service enters the trigger if sparing may start; CLEAR_COUNTERS clears the counters and the UE count of the selected unit. While one is in progress each shows code 1 and changes nothing else but the request register. With none in progress, DBG_READ_LINE of a usable line that does not read as zero at once, and DBG_MRR of a rank in service, begin a debug operation and its work at the memory-debug requester. DBG_OP_DONE shows the decoder's outcome with the words of the line, or the register's values, and ends it. (R43, R227, R356, R365) -/
def Obligations.RasRequestsAndDebug : Prop :=
  (∀ (s : State) (v : Word),
    confirms s 0x14020 v →
    fld v 31 28 = 1 →
    reqBusy s = false →
    regBit s 0x14000 4 = true →
    lineUsable s (reqLla s) = true →
    fld v 27 24 < devCount (isX8 s) →
    completes (.softRepairReq true (~~~v)) s fun t =>
      t.ras.pprWait = s.ras.pprWait ++ [(scOf (reqLla s), reqLla s, fld v 27 24, 0, true)]
      ∧ regGet t 0x14034 = 0x80000000
      ∧ t.pp = none
      ∧ t.out = [.reg 0 0])
  ∧ (∀ (s : State) (v : Word),
    confirms s 0x14020 v →
    fld v 31 28 = 1 →
    reqBusy s = false →
    regBit s 0x14000 4 = false →
    completes (.softRepairReq true (~~~v)) s fun t =>
      t.ras = s.ras
      ∧ regFld t 0x14034 30 28 = 3
      ∧ t.out = [.reg 0 0])
  ∧ (∀ (s : State) (v : Word),
    confirms s 0x14020 v →
    fld v 31 28 = 2 →
    reqBusy s = false →
    csLive s (chN (fld v 23 23)) (fld v 22 21) = true →
    fld v 22 21 < nCs s →
    spareMay s (chN (fld v 23 23)) = true →
    completes (.sparingReq true (~~~v)) s fun t =>
      (t.ras.spare.get (chN (fld v 23 23))).waiting = (s.ras.spare.get (chN (fld v 23 23))).waiting
      ++ [⟨2, BitVec.ofNat 2 (fld v 22 21), scA (chN (fld v 23 23)), 0, 0xF, 0⟩]
      ∧ regGet t 0x14034 = 0x80000000
      ∧ t.pp = none
      ∧ t.out = [.reg 0 0])
  ∧ (∀ (s : State) (v : Word) (x : Sc) (u : Nat),
    confirms s 0x14020 v →
    fld v 31 28 = 3 →
    reqBusy s = false →
    x = scN (regFld s 0x14090 7 6) →
    u = regFld s 0x14090 5 0 →
    u < nUnits s →
    csLive s (chOf x) (u / max 1 (nLr s)) = true →
    completes (.clearCounters true (~~~v)) s fun t =>
      rasUnit t x u = ⟨Vector.replicate 10 0, 0, (rasUnit s x u).mark⟩
      ∧ regGet t 0x14034 = 0
      ∧ t.pp = none
      ∧ t.out = [.reg 0 0])
  ∧ (∀ (s : State) (v : Word),
    confirms s 0x14020 v →
    fld v 31 28 = 1 →
    reqBusy s = true →
    completes (.softRepairReq true (~~~v)) s fun t =>
      t.regs = kset (kset s.regs 0x14020 (v &&& maskOf 0x14020)) 0x14034 0x90000000
      ∧ { t with regs := s.regs } = { s with pp := none, out := [.reg 0 0], raised := 0 })
  ∧ (∀ (s : State) (v : Word),
    confirms s 0x14020 v →
    fld v 31 28 = 2 →
    reqBusy s = true →
    completes (.sparingReq true (~~~v)) s fun t =>
      t.regs = kset (kset s.regs 0x14020 (v &&& maskOf 0x14020)) 0x14034 0x90000000
      ∧ { t with regs := s.regs } = { s with pp := none, out := [.reg 0 0], raised := 0 })
  ∧ (∀ (s : State) (v : Word),
    confirms s 0x14020 v →
    fld v 31 28 = 3 →
    reqBusy s = true →
    completes (.clearCounters true (~~~v)) s fun t =>
      t.regs = kset (kset s.regs 0x14020 (v &&& maskOf 0x14020)) 0x14034 0x90000000
      ∧ { t with regs := s.regs } = { s with pp := none, out := [.reg 0 0], raised := 0 })
  ∧ (∀ (s : State) (v : Word) (l : Lla),
    confirms s 0x38000 v →
    fld v 31 28 = 1 →
    s.ras.dbg = none →
    l = BitVec.ofNat 38 (regGet64 s 0x38008) →
    lineUsable s l = true →
    readsZero s l = false →
    completes (.dbgReadLine true (~~~v)) s fun t =>
      t.ras.dbg = some ⟨v, l⟩
      ∧ (t.sched.get (scOf l)).maint.get 1 = (s.sched.get (scOf l)).maint.get 1 ++ [⟨.lineRead .debug l, none, false, [], none⟩]
      ∧ regGet t 0x38010 = 0x80000000
      ∧ t.out = [.reg 0 0])
  ∧ (∀ (s : State) (v : Word),
    confirms s 0x38000 v →
    fld v 31 28 = 2 →
    s.ras.dbg = none →
    csLive s (chOf (scN (fld v 25 24))) (fld v 23 22) = true →
    fld v 23 22 < nCs s →
    fld v 21 18 < nLr s →
    completes (.dbgMrr true (~~~v)) s fun t =>
      (∃ d, t.ras.dbg = some d ∧ d.op = v)
      ∧ (t.sched.get (scN (fld v 25 24))).maint.get 1 = (s.sched.get (scN (fld v 25 24))).maint.get 1
      ++ [⟨.mode .mrr (BitVec.ofNat 2 (fld v 23 22)) (BitVec.ofNat 4 (fld v 21 18)) (.get (.addr (BitVec.ofNat 8 (fld v 7 0)))), none, false, [], none⟩]
      ∧ regGet t 0x38010 = 0x80000000
      ∧ t.out = [.reg 0 0])
  ∧ (∀ (s : State) (d : Dbg) (g : RdTag) (rx : Capture),
    s.ras.dbg = some d →
    (s.sched.get d.sc).pipe.find? (fun r => r.origin.isDebug) = some g →
    completes (.dbgOpDone (.line rx)) s fun t =>
      t.ras.dbg = none
      ∧ g ∉ (t.sched.get d.sc).pipe
      ∧ regGet t 0x38010 = pack [(1, 30), ((g.decode s rx).outcome.dbgCode, 27)]
      ∧ (∀ n : Fin 16, regGet t (0x38040 + 4 * n.val) = lineWord ((correctedAt s g.lla (g.burst s rx)).getD (rawLine (g.burst s rx))) n.val))
  ∧ ∀ (s : State) (d : Dbg) (vals : List Byte),
    s.ras.dbg = some d →
    fld d.op 31 28 = 2 →
    mrrIssued s d.sc = true →
    isX8 s = false →
    completes (.dbgOpDone (.mrr vals)) s fun t =>
      t.ras.dbg = none
      ∧ regGet t 0x38010 = 0x40000000
      ∧ (∀ n : Fin 10, regGet t (0x38040 + 4 * n.val) = (vals.getD n.val 0).setWidth 32)

/-- HEARTBEAT_SEND sends HEARTBEAT with its words of R440; HEARTBEAT_LOSS degrades the pair with cause 4 and counts its expiry, and in DEGRADED raises nothing. A HEARTBEAT whose fingerprints match shows the peer alive; one of whose fingerprints differs degrades the pair with cause 5; an older one is answered STALE_REPLY, which names type, epoch and sequence of the message and the current epoch. STALE_REPLY with a later epoch makes this controller a secondary at it. HELLO_SEND in JOINING sends HELLO. JOIN_TIMEOUT counts its expiry and stays in JOINING, or takes over at the next epoch. The first matching HELLO in JOINING decides the roles by the table, a further one of the exchange is answered; in DEGRADED, once the conditions hold, it starts the resilver with START and the dirty count. (What counts as a missed heartbeat, which STALE_REPLY is older, and that one exchange decides: log 31.) (R384, R385, R396, R397, R400, R406, R408, R409, R440, R518) -/
def Obligations.HeartbeatsAndJoining : Prop :=
  (∀ (s : State),
    s.mir.pair ≠ .disabled →
    completes .heartbeatSend s fun t =>
      sends tyHeartbeat (peerId s) s.mir.epoch.toNat [BitVec.ofNat 32 (ownInv s), BitVec.ofNat 32 (ownInv s / 2 ^ 32), BitVec.ofNat 32 (ownPair s),
      BitVec.ofNat 32 (ownPair s / 2 ^ 32), pack [(regFld s 0x4000 31 16, 16), (b2n s.mir.primary, 3),
        (s.mir.pair.code, 0)]] (.message (peerId s)) s t
      ∧ t.dom.seqOut = s.dom.seqOut + 1
      ∧ t.mir.pair = s.mir.pair
      ∧ (t.mir.missedBeats = if s.mir.alive = true ∨ s.mir.pair ≠ .joining then min 3 (s.mir.missedBeats + 1) else s.mir.missedBeats))
  ∧ (∀ (s : State),
    (s.mir.pair = .healthy ∨ s.mir.pair = .resilvering) →
    completes .heartbeatLoss s fun t =>
      t.mir.pair = .degraded
      ∧ t.mir.cause = 4
      ∧ t.mir.alive = false
      ∧ t.mir.missedBeats = 3
      ∧ bitOf (regGet t 0x602C) 1 = true
      ∧ countsExpiry 0x17 s t)
  ∧ (∀ (s : State),
    s.mir.pair = .degraded →
    completes .heartbeatLoss s fun t =>
      t.mir.pair = .degraded
      ∧ t.mir.alive = false
      ∧ t.evt.buf = s.evt.buf
      ∧ countsExpiry 0x17 s t)
  ∧ (∀ (s : State),
    (s.mir.pair = .disabled ∨ (s.mir.pair = .joining ∧ s.mir.alive = false)) →
    completes .heartbeatLoss s fun t =>
      t = { s with out := [], raised := 0 })
  ∧ (∀ (s : State) (g : Msg),
    hears s (isTy tyHeartbeat) g →
    olderMsg s g.words = false →
    (g.words)[2].toNat + 2 ^ 32 * (g.words)[3].toNat = ownInv s →
    (g.words)[4].toNat + 2 ^ 32 * (g.words)[5].toNat = ownPair s →
    completes .heartbeat s fun t =>
      t.mir.alive = true
      ∧ t.mir.missedBeats = 0
      ∧ t.mir.hold5 = false
      ∧ t.mir.pair = s.mir.pair
      ∧ t.dom.inbox = s.dom.inbox.erase g
      ∧ t.egp = s.egp)
  ∧ (∀ (s : State) (g : Msg),
    hears s (isTy tyHeartbeat) g →
    olderMsg s g.words = false →
    ((g.words)[2].toNat + 2 ^ 32 * (g.words)[3].toNat ≠ ownInv s ∨ (g.words)[4].toNat + 2 ^ 32 * (g.words)[5].toNat ≠ ownPair s) →
    completes .heartbeat s fun t =>
      t.mir.hold5 = true
      ∧ t.mir.cause = 5
      ∧ t.mir.pair = .degraded
      ∧ t.mir.alive = true
      ∧ bitOf (regGet t 0x602C) 4 = true)
  ∧ (∀ (s : State) (g : Msg),
    hears s (isTy tyHeartbeat) g →
    olderMsg s g.words = true →
    s.mir.unconf = none →
    completes .heartbeat s fun t =>
      regGet t 0x5054 = BitVec.ofNat 32 (min 0xFFFFFFFF ((regGet s 0x5054).toNat + 1))
      ∧ t.mir.pair = s.mir.pair
      ∧ t.mir.epoch = s.mir.epoch
      ∧ t.mir.alive = true
      ∧ sends tyStale (peerId s) s.mir.epoch.toNat [pack [(msgTy g.words, 24), (msgEpoch g.words, 16),
        (s.mir.epoch.toNat, 8)], pack [(msgSeq g.words, 16)]]
      (.message (peerId s)) s t)
  ∧ (∀ (s : State) (g : Msg),
    hears s (isTy tyStale) g →
    olderMsg s g.words = false →
    laterEpoch (BitVec.ofNat 8 (fld (g.words)[2] 15 8)) s.mir.epoch = true →
    completes .staleReply s fun t =>
      t.mir.epoch = BitVec.ofNat 8 (fld (g.words)[2] 15 8)
      ∧ t.mir.primary = false
      ∧ t.mir.pair = .degraded
      ∧ t.mir.cause = 8
      ∧ t.mir.role = none
      ∧ bitOf (regGet t 0x602C) 3 = true)
  ∧ (∀ (s : State),
    (s.mir.pair = .joining ∨ (s.mir.pair = .degraded ∧ s.mir.primary = false)) →
    completes .helloSend s fun t =>
      sends tyResilver (peerId s) 0 (pack [(1, 24), ((helloSelf s).1.toNat, 16), (b2n (helloSelf s).2.1, 15),
        (b2n s.mir.retained, 14),
      (b2n (helloSelf s).2.2, 13), (b2n (mirroredInit s), 12)] :: words64 (ownPair s)) (.message (peerId s)) s t
      ∧ t.mir = s.mir
      ∧ t.dom.seqOut = s.dom.seqOut + 1)
  ∧ (∀ (s : State),
    s.mir.pair = .joining →
    regBit s 0x6000 29 = false →
    completes .joinTimeout s fun t =>
      t.mir = { s.mir with joinLate := true }
      ∧ countsExpiry 0x19 s t)
  ∧ (∀ (s : State),
    s.mir.pair = .joining →
    regBit s 0x6000 29 = true →
    (if s.mir.retained then s.mir.record.any Prod.snd else regBit s 0x6000 30) = true →
    completes .joinTimeout s fun t =>
      t.mir.primary = true
      ∧ t.mir.epoch = s.mir.epoch + 1
      ∧ t.mir.pair = .degraded
      ∧ t.mir.cause = 9
      ∧ countsExpiry 0x19 s t)
  ∧ (∀ (s : State) (g : Msg),
    hears s (isSub 1) g →
    s.mir.hold5 = false →
    (g.words)[3].toNat + 2 ^ 32 * (g.words)[4].toNat = ownPair s →
    s.mir.pair = .joining →
    s.mir.exchange = none →
    completes .hello s fun t =>
      t.mir.primary = (joinTable (sideSelf s) (sidePeer g.words) (regBit s 0x6000 30)).1
      ∧ t.mir.epoch = (joinTable (sideSelf s) (sidePeer g.words) (regBit s 0x6000 30)).2.1
      ∧ t.mir.pair = .degraded
      ∧ t.mir.cause = 7
      ∧ t.dom.inbox = s.dom.inbox.erase g)
  ∧ (∀ (s : State) (g : Msg),
    hears s (isSub 1) g →
    s.mir.hold5 = false →
    (g.words)[3].toNat + 2 ^ 32 * (g.words)[4].toNat = ownPair s →
    (sidePeer g.words).joining = true →
    s.mir.exchange ≠ none →
    completes .hello s fun t =>
      sends tyResilver (peerId s) 0 (helloPay s) (.message (peerId s)) s t
      ∧ t.mir.primary = s.mir.primary
      ∧ t.mir.epoch = s.mir.epoch
      ∧ t.mir.pair = s.mir.pair
      ∧ t.mir.dirty = s.mir.dirty)
  ∧ ∀ (s : State) (g : Msg),
    hears s (isSub 1) g →
    s.mir.hold5 = false →
    (g.words)[3].toNat + 2 ^ 32 * (g.words)[4].toNat = ownPair s →
    (sidePeer g.words).joining = false →
    mayResilver s (sidePeer g.words) (bitOf (g.words)[2] 12) = true →
    s.mir.dirty ≠ 0 →
    completes .hello s fun t =>
      t.mir.pair = .resilvering
      ∧ t.mir.dirty = s.mir.dirty
      ∧ t.mir.primary = true
      ∧ sends tyResilver (peerId s) s.mir.epoch.toNat [0x02000000, pack [(dirtyCount s, 0)]] (.message (peerId s)) s t

/-- ROLE_CHANGE_INITIATE sends the request of a change at the next epoch while HEALTHY with no mirrored request left, at EGP or behind the write of the pair record, and gives the change up outside HEALTHY; the confirmation, or ROLE_CHANGE_CONFIRM_TIMEOUT, makes the old primary a secondary at the next epoch. A ROLE_CHANGE request at a later epoch makes this controller primary at it (whatever its role: log 31). RESILVER_START and RESILVER_DONE move a secondary to RESILVERING and HEALTHY. POISON_LINE of a mirrored line becomes an answered write of that line in the ingress stage, which INGRESS_SELECT enters in the write queue as poison; one that is rejected is answered OK and dropped. RESILVER_LINE forwards a readable line, or says with POISON_LINE that it is poisoned, and moves on; a lost one stays. (R390, R391, R392, R400, R401, R402, R404, R405, R406, R518) -/
def Obligations.RoleChangesAndResilver : Prop :=
  (∀ (s : State) (r : RoleChg),
    s.mir.role = some r →
    r.sent = false →
    s.mir.pair = .healthy →
    s.reqs.any (fun q => q.mirrored && !q.op.isPeer && !q.inIngress && (!q.answered || q.peerOpen)) = false →
    completes .roleChangeInitiate s fun t =>
      t.egp.waiting ++ t.mir.recordMsgs = s.egp.waiting ++ s.mir.recordMsgs
      ++ [msgReq s (peerId s) (msgWords tyRole (protoNow s) s.glb.ctlId.toNat (peerId s).toNat s.dom.seqOut.toNat s.mir.epoch.toNat
      [pack [(r.reason, 24), ((s.mir.epoch + 1).toNat, 16),
        ((peerId s).toNat, 0)], pack [(if r.reason = 0 then r.scope.toNat else 0, 0)]]) (.message (peerId s))]
      ∧ t.mir.role = some { r with sent := true }
      ∧ t.mir.pair = .healthy
      ∧ t.mir.epoch = s.mir.epoch
      ∧ t.mir.primary = s.mir.primary)
  ∧ (∀ (s : State) (r : RoleChg),
    s.mir.role = some r →
    r.sent = false →
    s.mir.pair ≠ .healthy →
    completes .roleChangeInitiate s fun t =>
      t.mir.role = none
      ∧ t.mir.pair = s.mir.pair
      ∧ t.mir.epoch = s.mir.epoch
      ∧ t.egp = s.egp)
  ∧ (∀ (s : State) (r : RoleChg),
    s.mir.role = some r →
    r.sent = true →
    s.mir.pair ≠ .disabled →
    completes .roleChangeConfirmTimeout s fun t =>
      t.mir.primary = false
      ∧ t.mir.epoch = s.mir.epoch + 1
      ∧ t.mir.role = none
      ∧ t.mir.unconf = some r
      ∧ t.mir.pair = .degraded
      ∧ t.mir.cause = 9
      ∧ bitOf (regGet t 0x602C) 3 = true
      ∧ countsExpiry 0x1B s t)
  ∧ (∀ (s : State) (g : Msg) (r : RoleChg),
    hears s (isTy tyRole) g →
    olderMsg s g.words = false →
    bitOf (g.words)[2] 15 = true →
    s.mir.role = some r →
    r.sent = true →
    BitVec.ofNat 8 (fld (g.words)[2] 23 16) = s.mir.epoch + 1 →
    completes .roleChange s fun t =>
      t.mir.primary = false
      ∧ t.mir.epoch = s.mir.epoch + 1
      ∧ t.mir.role = none
      ∧ t.mir.pair = .degraded
      ∧ t.mir.cause = 9)
  ∧ (∀ (s : State) (g : Msg) (e : BitVec 8),
    hears s (isTy tyRole) g →
    olderMsg s g.words = false →
    bitOf (g.words)[2] 15 = false →
    fld (g.words)[2] 9 0 = s.glb.ctlId.toNat →
    e = BitVec.ofNat 8 (fld (g.words)[2] 23 16) →
    laterEpoch e s.mir.epoch = true →
    completes .roleChange s fun t =>
      t.mir.primary = true
      ∧ t.mir.epoch = e
      ∧ t.mir.pair = .degraded
      ∧ t.mir.cause = 9
      ∧ bitOf (regGet t 0x602C) 3 = true)
  ∧ (∀ (s : State) (g : Msg),
    hears s (isSub 2) g →
    olderMsg s g.words = false →
    s.mir.pair = .degraded →
    s.mir.primary = false →
    completes .resilverStart s fun t =>
      t.mir.pair = .resilvering
      ∧ t.mir.dirty = s.mir.dirty
      ∧ t.dom.inbox = s.dom.inbox.erase g
      ∧ t.egp = s.egp)
  ∧ (∀ (s : State) (g : Msg),
    hears s (isSub 3) g →
    olderMsg s g.words = false →
    s.mir.pair = .resilvering →
    s.mir.primary = false →
    completes .resilverDone s fun t =>
      t.mir.pair = .healthy
      ∧ bitOf (regGet t 0x602C) 2 = true
      ∧ t.dom.inbox = s.dom.inbox.erase g
      ∧ t.egp = s.egp)
  ∧ (∀ (s : State) (g : Msg) (id : Nat) (r : Req) (d : Nat) (n : Nat),
    hears s (isSub 4) g →
    s.glb.ctl ≠ .held →
    g.reqId = some id →
    findReq s id = some r →
    r.answered = false →
    r.written = false →
    r.op.isWrite = true →
    s.mir.hold5 = false →
    olderMsg s g.words = false →
    s.mir.primary = false →
    s.mir.pair ≠ .joining →
    fwd s (poisonAddr g.words) = .owned n true d →
    completes .poisonLine s fun t =>
      (∃ q ∈ t.reqs, q.id = id ∧ q.addr = poisonAddr g.words ∧ q.lla = llaOf s d ∧ q.answered = true
        ∧ q.op = .peerMessage ∧ q.phase = .ingress)
      ∧ .rsp r.port r.tag r.gen .ok 0 r.src r.xid false (peerEpochFor s r) ∈ t.out)
  ∧ (∀ (s u : State) (x : Sc) (r : Req),
    idsFresh s →
    u = countDrainHolds x s →
    bestReq u ((heads u x).filter (eligible u)) = some r →
    scOf r.lla = x →
    r.op = .peerMessage →
    r.answered = true →
    r.peerOpen = false →
    rankLive u r.lla = true →
    completes (.ingressSelect x) s fun t =>
      (∃ e ∈ (t.sched.get x).wq, e.id = r.id ∧ e.lla = r.lla ∧ e.poison = true ∧ e.merge = .full ∧ e.issued = false))
  ∧ (∀ (s : State) (g : Msg) (id : Nat) (r : Req),
    hears s (isSub 4) g →
    s.glb.ctl ≠ .held →
    g.reqId = some id →
    findReq s id = some r →
    r.answered = false →
    (s.mir.hold5 = true ∨ olderMsg s g.words = true ∨ s.mir.primary = true ∨ s.mir.pair = .joining) →
    completes .poisonLine s fun t =>
      (∀ q ∈ t.reqs, q.id ≠ id)
      ∧ .rsp r.port r.tag r.gen .ok 0 r.src r.xid false (peerEpochFor s r) ∈ t.out)
  ∧ (∀ (s : State) (x : Sc) (rx : Capture) (g : RdTag) (d : Decoded),
    (s.sched.get x).pipe.find? (fun r => r.origin.isResilver) = some g →
    d = g.decode s rx →
    s.mir.pair = .resilvering →
    (d.outcome = .clean ∨ d.outcome = .corrected) →
    completes (.resilverLine x rx) s fun t =>
      t.egp.waiting = s.egp.waiting ++ [peerOp s .mirrorWrite (sysAddr s g.lla) d.data (.resilver x g.lla)]
      ∧ t.mir = { s.mir with walk := vset s.mir.walk x (s.mir.walk.get x + 1) }
      ∧ g ∉ (t.sched.get x).pipe)
  ∧ (∀ (s : State) (x : Sc) (rx : Capture) (g : RdTag) (d : Decoded),
    (s.sched.get x).pipe.find? (fun r => r.origin.isResilver) = some g →
    d = g.decode s rx →
    s.mir.pair = .resilvering →
    d.outcome.lost = true →
    completes (.resilverLine x rx) s fun t =>
      t.egp = s.egp
      ∧ t.mir = { s.mir with locks := s.mir.locks.filter (fun l => decide (l ≠ g.lla)) }
      ∧ g ∉ (t.sched.get x).pipe)
  ∧ ∀ (s : State) (x : Sc) (rx : Capture) (g : RdTag),
    (s.sched.get x).pipe.find? (fun r => r.origin.isResilver) = some g →
    s.mir.pair = .resilvering →
    (g.decode s rx).outcome = .poison →
    completes (.resilverLine x rx) s fun t =>
      sends tyResilver (peerId s) s.mir.epoch.toNat [0x04000000, BitVec.ofNat 32 (sysAddr s g.lla).toNat, pack [((sysAddr s g.lla).toNat / 2 ^ 32, 0)]]
      (.resilver x g.lla) s t
      ∧ t.mir.walk = vset s.mir.walk x (s.mir.walk.get x + 1)
      ∧ g ∉ (t.sched.get x).pipe

/-- A confirmed MIR_ROTATE at the primary of a HEALTHY pair with no role change under way begins one and shows busy; MIR_BREAK degrades the pair with cause 6, which holds until MIR_REJOIN clears it; MIR_TAKEOVER of a secondary whose peer has been silent for three periods makes it primary at the next epoch (log 31). With the pair DISABLED each of the four shows code 4, and while an operation is in progress code 1, and neither changes the pair. A rotate at a secondary shows code 2. (R384, R390, R397, R403, R405, R412) -/
def Obligations.MirrorOperations : Prop :=
  (∀ (s : State) (v : Word),
    confirms s 0x6020 v →
    fld v 31 28 = 1 →
    s.mir.ctlBusy = false →
    s.mir.primary = true →
    s.mir.pair = .healthy →
    s.mir.role = none →
    completes (.mirRotate true (~~~v)) s fun t =>
      t.mir = { s.mir with role := some ⟨1, 0, false, 0⟩, ctlBusy := true }
      ∧ regGet t 0x6028 = 0x80000000
      ∧ t.pp = none
      ∧ t.out = [.reg 0 0])
  ∧ (∀ (s : State) (v : Word),
    confirms s 0x6020 v →
    fld v 31 28 = 1 →
    s.mir.ctlBusy = false →
    s.mir.pair ≠ .disabled →
    s.mir.primary = false →
    completes (.mirRotate true (~~~v)) s fun t =>
      t.mir = s.mir
      ∧ regGet t 0x6028 = 0x20000000)
  ∧ (∀ (s : State) (v : Word),
    confirms s 0x6020 v →
    fld v 31 28 = 2 →
    s.mir.ctlBusy = false →
    s.mir.pair ≠ .disabled →
    completes (.mirBreak true (~~~v)) s fun t =>
      t.mir.pair = .degraded
      ∧ t.mir.cause = 6
      ∧ t.mir.hold6 = true
      ∧ regGet t 0x6028 = 0
      ∧ t.pp = none)
  ∧ (∀ (s : State) (v : Word),
    confirms s 0x6020 v →
    fld v 31 28 = 3 →
    s.mir.ctlBusy = false →
    s.mir.pair ≠ .disabled →
    completes (.mirRejoin true (~~~v)) s fun t =>
      t.mir = { s.mir with hold6 := false }
      ∧ regGet t 0x6028 = 0
      ∧ t.pp = none
      ∧ t.out = [.reg 0 0])
  ∧ (∀ (s : State) (v : Word),
    confirms s 0x6020 v →
    fld v 31 28 = 4 →
    s.mir.ctlBusy = false →
    s.mir.primary = false →
    ((s.mir.pair = .joining ∧ s.mir.joinLate = true) ∨ (s.mir.pair = .degraded ∧ beatsLost s = true)) →
    completes (.mirTakeover true (~~~v)) s fun t =>
      t.mir.primary = true
      ∧ t.mir.epoch = s.mir.epoch + 1
      ∧ t.mir.pair = .degraded
      ∧ t.mir.cause = 9
      ∧ regGet t 0x6028 = 0
      ∧ t.pp = none)
  ∧ (∀ (s : State) (v : Word),
    confirms s 0x6020 v →
    fld v 31 28 = 1 →
    s.mir.pair = .disabled →
    completes (.mirRotate true (~~~v)) s fun t =>
      t.mir = { s.mir with ctlBusy := false }
      ∧ regGet t 0x6028 = 0x40000000
      ∧ t.pp = none)
  ∧ (∀ (s : State) (v : Word),
    confirms s 0x6020 v →
    fld v 31 28 = 1 →
    s.mir.ctlBusy = true →
    s.mir.pair ≠ .disabled →
    completes (.mirRotate true (~~~v)) s fun t =>
      t.mir = s.mir
      ∧ regGet t 0x6028 = 0x90000000
      ∧ t.pp = none)
  ∧ (∀ (s : State) (v : Word),
    confirms s 0x6020 v →
    fld v 31 28 = 2 →
    s.mir.pair = .disabled →
    completes (.mirBreak true (~~~v)) s fun t =>
      t.mir = { s.mir with ctlBusy := false }
      ∧ regGet t 0x6028 = 0x40000000
      ∧ t.pp = none)
  ∧ (∀ (s : State) (v : Word),
    confirms s 0x6020 v →
    fld v 31 28 = 2 →
    s.mir.ctlBusy = true →
    s.mir.pair ≠ .disabled →
    completes (.mirBreak true (~~~v)) s fun t =>
      t.mir = s.mir
      ∧ regGet t 0x6028 = 0x90000000
      ∧ t.pp = none)
  ∧ (∀ (s : State) (v : Word),
    confirms s 0x6020 v →
    fld v 31 28 = 3 →
    s.mir.pair = .disabled →
    completes (.mirRejoin true (~~~v)) s fun t =>
      t.mir = { s.mir with ctlBusy := false }
      ∧ regGet t 0x6028 = 0x40000000
      ∧ t.pp = none)
  ∧ (∀ (s : State) (v : Word),
    confirms s 0x6020 v →
    fld v 31 28 = 3 →
    s.mir.ctlBusy = true →
    s.mir.pair ≠ .disabled →
    completes (.mirRejoin true (~~~v)) s fun t =>
      t.mir = s.mir
      ∧ regGet t 0x6028 = 0x90000000
      ∧ t.pp = none)
  ∧ (∀ (s : State) (v : Word),
    confirms s 0x6020 v →
    fld v 31 28 = 4 →
    s.mir.pair = .disabled →
    completes (.mirTakeover true (~~~v)) s fun t =>
      t.mir = { s.mir with ctlBusy := false }
      ∧ regGet t 0x6028 = 0x40000000
      ∧ t.pp = none)
  ∧ ∀ (s : State) (v : Word),
    confirms s 0x6020 v →
    fld v 31 28 = 4 →
    s.mir.ctlBusy = true →
    s.mir.pair ≠ .disabled →
    completes (.mirTakeover true (~~~v)) s fun t =>
      t.mir = s.mir
      ∧ regGet t 0x6028 = 0x90000000
      ∧ t.pp = none

/-- CENSUS_PERIOD at the member of rank 0, or at one that has seen no lower initiator in time, starts a round: it is counted, and a token naming this controller goes to the first successor; a member that need not start does nothing. CENSUS_TOKEN is folded in and passed on, or dropped and counted in the middle of an own round. CENSUS_RESULT of a new round is stored with its state and time; one that is held changes nothing. CHIOZ_RESEND sends an unanswered delivery again; CENSUS_HOP_TIMEOUT ends it, counts the hop and its expiry, and a token goes to the next successor with the member skipped. (R438, R439, R441, R442, R443, R444, R446, R518) -/
def Obligations.CensusRounds : Prop :=
  (∀ (s : State) (d : Delivery),
    censusOn s = true →
    (ownRank s = 0 ∨ withinPeriods s (2 + min (ownRank s) 8) s.dom.lowInitAt = false) →
    1 < domN s →
    d = ⟨BitVec.ofNat 10 (succId s 0), tokenMsg s tyToken (succId s 0) (s.dom.round + 1).toNat
      ⟨(ownTags s).1, (ownTags s).2, ownStep s, ownStep s, 0, 0, s.glb.ctlId.toNat, 1, 0, false⟩, none, 0, false⟩ →
    completes .censusPeriod s fun t =>
      t.dom.round = s.dom.round + 1
      ∧ t.dom.startedAt = some s.glb.now
      ∧ t.dom.out = s.dom.out ++ [d]
      ∧ t.egp.waiting = s.egp.waiting ++ [msgReq s d.dst d.words (.message d.dst)]
      ∧ regGet t 0x5040 = BitVec.ofNat 32 (min 0xFFFFFFFF ((regGet s 0x5040).toNat + 1)))
  ∧ (∀ (s : State),
    censusOn s = true →
    ownRank s ≠ 0 →
    withinPeriods s (2 + min (ownRank s) 8) s.dom.lowInitAt = true →
    completes .censusPeriod s fun t =>
      t = { s with out := [], raised := 0 })
  ∧ (∀ (s : State) (g : Msg) (k : Token),
    s.dom.inbox.find? (fun m => isTy tyToken m.words) = some g →
    k = foldIn s (tokenOf (payOf g.words)) →
    ((tokenOf (payOf g.words)).init ≤ s.glb.ctlId.toNat ∨ withinPeriods s 2 s.dom.startedAt = false) →
    k.seen + k.skipped < domN s →
    completes .censusToken s fun t =>
      (∃ d, t.dom.out = s.dom.out ++ [d] ∧ d.dst = BitVec.ofNat 10 (succId s 0) ∧ d.result = false
        ∧ d.words = tokenMsg s tyToken (succId s 0) (msgSeq g.words) k)
      ∧ t.dom.inbox = s.dom.inbox.erase g
      ∧ t.dom.res = s.dom.res
      ∧ regGet t 0x504C = regGet s 0x504C)
  ∧ (∀ (s : State) (g : Msg),
    s.dom.inbox.find? (fun m => isTy tyToken m.words) = some g →
    s.glb.ctlId.toNat < (tokenOf (payOf g.words)).init →
    withinPeriods s 2 s.dom.startedAt = true →
    completes .censusToken s fun t =>
      t.dom = { s.dom with inbox := s.dom.inbox.erase g }
      ∧ t.egp = s.egp
      ∧ regGet t 0x504C = BitVec.ofNat 32 (min 0xFFFFFFFF ((regGet s 0x504C).toNat + 1)))
  ∧ (∀ (s : State) (g : Msg) (k : Token),
    s.dom.inbox.find? (fun m => isTy tyResult m.words) = some g →
    k = tokenOf (payOf g.words) →
    s.dom.res.any (fun r => decide (r.round.toNat = msgSeq g.words ∧ (tokenOf r.words).init = k.init)) = false →
    completes .censusResult s fun t =>
      t.dom.res = some { words := k.pay, round := BitVec.ofNat 16 (msgSeq g.words), st := k.state, time := s.glb.now }
      ∧ t.dom.inbox = s.dom.inbox.erase g)
  ∧ (∀ (s : State) (g : Msg),
    s.dom.inbox.find? (fun m => isTy tyResult m.words) = some g →
    s.dom.res.any (fun r => decide (r.round.toNat = msgSeq g.words
      ∧ (tokenOf r.words).init = (tokenOf (payOf g.words)).init)) = true →
    completes .censusResult s fun t =>
      t = { s with out := [], raised := 0, dom := { s.dom with inbox := s.dom.inbox.erase g } })
  ∧ (∀ (s : State) (dst : BitVec 10) (d : Delivery),
    s.dom.out.find? (fun d => d.dst = dst && d.tries.isNone) = some d →
    completes (.chiozResend dst) s fun t =>
      t = { s with out := [], raised := 0, egp := { s.egp with waiting := s.egp.waiting ++ [msgReq s d.dst d.words (.message d.dst)] } })
  ∧ ∀ (s : State) (dst : BitVec 10) (d : Delivery) (k : Token),
    s.dom.out.find? (fun d => d.dst = dst && d.tries.isNone) = some d →
    d.result = false →
    d.succ < 3 →
    k = tokenOf (payOf d.words) →
    k.seen + (k.skipped + 1) < domN s →
    completes (.censusHopTimeout dst) s fun t =>
      (∃ e, t.dom.out = s.dom.out.filter (fun a => decide (a ≠ d)) ++ [e] ∧ e.succ = d.succ + 1
        ∧ e.dst = BitVec.ofNat 10 (succId s (d.succ + 1)) ∧ e.result = false
      ∧ e.words = tokenMsg s tyToken (succId s (d.succ + 1)) (msgSeq d.words) { k with skipped := k.skipped + 1 })
      ∧ bitOf (regGet t 0x5030) 3 = true
      ∧ regGet t 0x5048 = BitVec.ofNat 32 (min 0xFFFFFFFF ((regGet s 0x5048).toNat + 1))
      ∧ countsExpiry 0x18 s t

/-- IMG_RELOAD and RELOAD_REQUEST with no reload in progress begin a fetch in SERVICE, outside it they wait; with one in progress they are refused with reason 1. A WITHDRAW ends the broadcast reload that it names with outcome 5, brings back one that has been applied, and changes no other. RELOAD_FETCH_DONE refuses an image that does not verify or that the plan refuses, ends a reload that changes nothing, and else waits for the quiesce point. RELOAD_QUIESCE_POINT puts the staged image in force, or for a restart drains and then enters Cast-On at step 5. IMG_BCAST_RELOAD sends every member of the range RELOAD with ID, base and, if asked, the fingerprint of the staged image; IMG_BCAST_WITHDRAW sends the targets WITHDRAW with the ID (logs 25 and 26). RELOAD_ACK of the broadcast's ID notes its target's phase; another changes nothing. RELOAD_BCAST_RESEND repeats a message while tries are left, then gives the target up. (R430, R431, R432, R434, R436, R437, R446, R518) -/
def Obligations.ReloadsAndBroadcasts : Prop :=
  (∀ (s : State) (v : Word),
    confirms s 0x4020 v →
    bitOf v 31 = true →
    s.img.rl.st = .idle →
    s.glb.ctl = .service →
    completes (.imgReload true (~~~v)) s fun t =>
      t.img.rl = { Reload.reset with base := BitVec.ofNat 6 (fld v 5 0), st := .fetching }
      ∧ t.img.fetch = some ⟨true, BitVec.ofNat 6 (fld v 5 0), none⟩
      ∧ t.img.staging = []
      ∧ t.img.words = s.img.words
      ∧ t.pp = none
      ∧ t.out = [.reg 0 0])
  ∧ (∀ (s : State) (v : Word),
    confirms s 0x4020 v →
    bitOf v 31 = true →
    s.img.rl.st = .idle →
    s.glb.ctl ≠ .service →
    completes (.imgReload true (~~~v)) s fun t =>
      t.img = { s.img with rl := { Reload.reset with base := BitVec.ofNat 6 (fld v 5 0), st := .waitService } }
      ∧ t.pp = none
      ∧ t.out = [.reg 0 0])
  ∧ (∀ (s : State) (v : Word),
    confirms s 0x4020 v →
    bitOf v 31 = true →
    s.img.rl.st ≠ .idle →
    completes (.imgReload true (~~~v)) s fun t =>
      t.img = s.img
      ∧ regFld t 0x4028 27 24 = 4
      ∧ regFld t 0x4028 23 16 = 1
      ∧ bitOf (regGet t 0x4060) 1 = true)
  ∧ (∀ (s : State) (g : Msg),
    s.dom.inbox.find? (fun m => isTy tyReloadReq m.words) = some g →
    fld (g.words)[2] 31 24 = 1 →
    s.img.rl.st = .idle →
    s.glb.ctl = .service →
    completes .reloadRequest s fun t =>
      t.img.rl.st = .fetching
      ∧ t.img.rl.base = BitVec.ofNat 6 (fld (g.words)[2] 5 0)
      ∧ t.img.rl.id = BitVec.ofNat 8 (fld (g.words)[2] 23 16)
      ∧ t.img.rl.bcast = true
      ∧ t.img.rl.initiator = BitVec.ofNat 10 (msgSrc g.words)
      ∧ bitOf (regGet t 0x4060) 2 = true
      ∧ t.dom.inbox = s.dom.inbox.erase g)
  ∧ (∀ (s : State) (g : Msg),
    s.dom.inbox.find? (fun m => isTy tyReloadReq m.words) = some g →
    fld (g.words)[2] 31 24 = 1 →
    s.img.rl.st = .idle →
    s.glb.ctl ≠ .service →
    completes .reloadRequest s fun t =>
      t.img.rl.st = .waitService
      ∧ t.img.rl.base = BitVec.ofNat 6 (fld (g.words)[2] 5 0)
      ∧ t.img.rl.id = BitVec.ofNat 8 (fld (g.words)[2] 23 16)
      ∧ t.img.rl.initiator = BitVec.ofNat 10 (msgSrc g.words)
      ∧ t.img.fetch = s.img.fetch
      ∧ t.dom.inbox = s.dom.inbox.erase g)
  ∧ (∀ (s : State) (g : Msg),
    s.dom.inbox.find? (fun m => isTy tyReloadReq m.words) = some g →
    fld (g.words)[2] 31 24 = 1 →
    s.img.rl.st ≠ .idle →
    BitVec.ofNat 10 (msgSrc g.words) ≠ s.glb.ctlId →
    completes .reloadRequest s fun t =>
      t.img = s.img
      ∧ regFld t 0x4028 27 24 = 4
      ∧ regFld t 0x4028 23 16 = 1
      ∧ regFld t 0x4028 15 8 = fld (g.words)[2] 23 16
      ∧ bitOf (regGet t 0x4060) 1 = true
      ∧ t.dom.inbox = s.dom.inbox.erase g)
  ∧ (∀ (s : State) (g : Msg),
    s.dom.inbox.find? (fun m => isTy tyReloadReq m.words) = some g →
    fld (g.words)[2] 31 24 = 2 →
    s.img.rl.st ≠ .idle →
    s.img.rl.bcast = true →
    s.img.rl.withdrawing = false →
    s.img.rl.id = BitVec.ofNat 8 (fld (g.words)[2] 23 16) →
    s.img.rl.initiator = BitVec.ofNat 10 (msgSrc g.words) →
    completes .reloadRequest s fun t =>
      t.img.rl.st = .idle
      ∧ t.img.words = s.img.words
      ∧ t.img.fetch.all (fun f => !f.reload) = true
      ∧ regFld t 0x4028 27 24 = 5)
  ∧ (∀ (s : State) (g : Msg),
    s.dom.inbox.find? (fun m => isTy tyReloadReq m.words) = some g →
    fld (g.words)[2] 31 24 = 2 →
    s.img.rl.st = .idle →
    kfind s.img.appliedBy (msgSrc g.words % 1024) = some (BitVec.ofNat 8 (fld (g.words)[2] 23 16)) →
    s.glb.ctl = .service →
    completes .reloadRequest s fun t =>
      t.img.rl.st = .fetching
      ∧ t.img.rl.withdrawing = true
      ∧ t.img.rl.base = s.glb.imgBase
      ∧ t.img.words = s.img.words)
  ∧ (∀ (s : State) (g : Msg),
    s.dom.inbox.find? (fun m => isTy tyReloadReq m.words) = some g →
    fld (g.words)[2] 31 24 = 2 →
    s.img.rl.st = .idle →
    kfind s.img.appliedBy (msgSrc g.words % 1024) ≠ some (BitVec.ofNat 8 (fld (g.words)[2] 23 16)) →
    BitVec.ofNat 10 (msgSrc g.words) ≠ s.glb.ctlId →
    completes .reloadRequest s fun t =>
      t.img = s.img
      ∧ t.dom.inbox = s.dom.inbox.erase g)
  ∧ (∀ (s : State) (j : State),
    s.img.rl.st = .fetching →
    s.img.rl.bcast = false →
    s.img.rl.withdrawing = false →
    fetchedAll s = true →
    s.glb.ctl = .service →
    j = countIgnored s.img.staging (updImg (fun i => { i with fetch := none }) (showVerify none s)) →
    completes .reloadFetchDone s fun t =>
      t.img.words = s.img.words
      ∧ t.img.fetch = none
      ∧ (if verify s.img.staging s.glb.ctlId.toNat ≠ none then t.img.rl = Reload.reset ∧ regFld t 0x4028 27 24 = 4
        ∧ regFld t 0x4028 23 16 = 3
      else match planReload s.img.staging j with
      | .refuse n => t.img.rl = Reload.reset ∧ regFld t 0x4028 27 24 = 4 ∧ regFld t 0x4028 23 16 = n % 256
      | .nothing => t.img.rl = Reload.reset ∧ regFld t 0x4028 27 24 = 3
      | .restart => t.img.rl = { s.img.rl with st := .waitPoint, restart := true }
      | .live => t.img.rl = { s.img.rl with st := .waitPoint, restart := false }))
  ∧ (∀ (s : State),
    s.img.rl.st = .waitPoint →
    s.img.rl.restart = false →
    s.glb.ctl = .service →
    s.qz.ph ≠ .boundary →
    allAnswered s = true →
    completes .reloadQuiescePoint s fun t =>
      t.img.words = s.img.staging
      ∧ t.img.rl = Reload.reset
      ∧ regFld t 0x4028 27 24 = (if s.img.rl.withdrawing then 5 else 1)
      ∧ bitOf (regGet t 0x4060) 0 = true
      ∧ t.reqs.map Req.id = s.reqs.map Req.id)
  ∧ (∀ (s : State),
    s.img.rl.st = .waitPoint →
    s.img.rl.restart = true →
    s.glb.ctl = .service →
    s.qz.ph ≠ .boundary →
    allAnswered s = true →
    glgStill s = true →
    completes .reloadQuiescePoint s fun t =>
      t.img = { s.img with rl := { s.img.rl with st := .restarting } }
      ∧ t.glb = s.glb
      ∧ (∀ x : Sc, chLive s (chOf x) = true → s.pwr.sc.get x ≠ .selfRefresh → (t.sched.get x).fullDrain = true))
  ∧ (∀ (s : State),
    s.img.rl.st = .restarting →
    s.glb.ctl = .service →
    s.qz.ph ≠ .boundary →
    drained s = true →
    repairing s = false →
    completes .reloadQuiescePoint s fun t =>
      t.glb.ctl = .castOn
      ∧ t.glb.step = 5
      ∧ t.glb.served = false
      ∧ t.glb.restart = true
      ∧ (∀ c : Ch, chLive s c = true → (t.glb.ch.get c).latch = true))
  ∧ (∀ (s : State) (v : Word) (ts : List (BitVec 10)) (e : Nat),
    confirms s 0x4034 v →
    fld v 31 30 = 1 →
    e = (if bitOf v 29 then hdrFullFp s.img.staging else 0) →
    ts = ((members (image s)).filter (fun i => decide (regFld s 0x4030 9 0 ≤ i
      ∧ i ≤ regFld s 0x4030 25 16))).map (BitVec.ofNat 10) →
    completes (.imgBcastReload true (~~~v)) s fun t =>
      t.img.bcastId = s.img.bcastId + 1
      ∧ t.img.bcastTo = ts
      ∧ t.img.bcastBack = false
      ∧ (∀ u ∈ ts, u ≠ s.glb.ctlId → ∃ d ∈ t.dom.out, d.dst = u ∧ d.tries = some 2 ∧ msgTy d.words = tyReloadReq
        ∧ msgReq s u d.words (.message u) ∈ t.egp.waiting
      ∧ d.words[2] = pack [(1, 24), ((s.img.bcastId + 1).toNat, 16), (fld v 5 0, 0)] ∧ d.words[3] = BitVec.ofNat 32 e
        ∧ d.words[4] = BitVec.ofNat 32 (e / 2 ^ 32))
      ∧ t.pp = none)
  ∧ (∀ (s : State) (v : Word),
    confirms s 0x4034 v →
    fld v 31 30 = 2 →
    completes (.imgBcastWithdraw true (~~~v)) s fun t =>
      t.img.bcastId = s.img.bcastId
      ∧ t.img.bcastTo = s.img.bcastTo
      ∧ t.img.bcastBack = true
      ∧ (∀ u ∈ s.img.bcastTo, u ≠ s.glb.ctlId → ∃ d ∈ t.dom.out, d.dst = u ∧ d.tries = some 2
        ∧ msgTy d.words = tyReloadReq ∧ msgReq s u d.words (.message u) ∈ t.egp.waiting
      ∧ d.words[2] = pack [(2, 24), (s.img.bcastId.toNat, 16)])
      ∧ t.pp = none)
  ∧ (∀ (s : State) (g : Msg) (u : BitVec 10) (ph : Fin 5),
    s.dom.inbox.find? (fun m => isTy tyReloadAck m.words) = some g →
    BitVec.ofNat 8 (fld (g.words)[2] 23 16) = s.img.bcastId →
    u = BitVec.ofNat 10 (msgSrc g.words) →
    s.img.bcastTo.contains u = true →
    fld (g.words)[2] 31 24 = (if ph.val < 3 then ph.val + 1 else 4) →
    ph ≠ 3 →
    completes .reloadAck s fun t =>
      t.img.bcastPh = s.img.bcastPh.filter (fun p => decide (p.1 ≠ u)) ++ [(u, ph)]
      ∧ t.img.bcastTo = s.img.bcastTo
      ∧ t.dom.inbox = s.dom.inbox.erase g)
  ∧ (∀ (s : State) (g : Msg),
    s.dom.inbox.find? (fun m => isTy tyReloadAck m.words) = some g →
    BitVec.ofNat 8 (fld (g.words)[2] 23 16) ≠ s.img.bcastId →
    completes .reloadAck s fun t =>
      t = { s with out := [], raised := 0, dom := { s.dom with inbox := s.dom.inbox.erase g } })
  ∧ (∀ (s : State) (dst : BitVec 10) (d : Delivery) (n : Nat),
    s.dom.out.find? (fun d => d.dst = dst && d.tries.isSome) = some d →
    d.tries = some (n + 1) →
    completes (.reloadBcastResend dst) s fun t =>
      t.dom.out = s.dom.out.filter (fun a => decide (a ≠ d)) ++ [{ d with tries := some n }]
      ∧ t.egp.waiting = s.egp.waiting ++ [msgReq s dst d.words (.message dst)]
      ∧ t.img = s.img
      ∧ t.regs = s.regs)
  ∧ ∀ (s : State) (dst : BitVec 10) (d : Delivery),
    s.dom.out.find? (fun d => d.dst = dst && d.tries.isSome) = some d →
    d.tries = some 0 →
    s.img.bcastTo.contains dst = true →
    completes (.reloadBcastResend dst) s fun t =>
      t.dom.out = s.dom.out.filter (fun a => decide (a ≠ d))
      ∧ t.img.bcastPh = s.img.bcastPh.filter (fun p => decide (p.1 ≠ dst)) ++ [(dst, 3)]
      ∧ t.egp = s.egp
      ∧ countsExpiry 0x1A s t

/-- GLG_I_DOORBELL that passes its checks queues the staged descriptor under the owner epoch, clears the staging words and the index and advances the expected sequence; a refused one is counted, flagged with its reason, and queues nothing. GLG_I_DESC_DATA and GLG_STATE_DATA move the word at their index and advance it. GLG_I_CPL_DATA answers the next word of the oldest record, the sixth frees it. GLG_I_ABORT ends the active job, with ABORTED unless it has another reason; GLG_I_FLUSH leaves only dead descriptors in the queue, each of which was queued or chained or has its record. (That the records of dead descriptors wait for room is log 42's choice.) (R451, R465, R466, R468, R469, R470, R473, R51) -/
def Obligations.GliogSubmission : Prop :=
  (∀ (s : State) (i : InstId) (priv : Bool) (v : Word),
    portOpen s (pageAcc i priv 0x0C v) →
    doorbellReason s i v = 0 →
    completes (.glgIDoorbell i priv v) s fun t =>
      instOf t i = { instOf s i with queue := (instOf s i).queue ++ [⟨(instOf s i).staged, (instOf s i).epoch, false⟩], staged := Vector.replicate 16 0, dbNext := (instOf s i).dbNext + 1 }
      ∧ regGet t (rPage i 4) = 0
      ∧ t.out = [.reg 0 0])
  ∧ (∀ (s : State) (i : InstId) (priv : Bool) (v : Word),
    portOpen s (pageAcc i priv 0x0C v) →
    doorbellReason s i v ≠ 0 →
    completes (.glgIDoorbell i priv v) s fun t =>
      instOf t i = { instOf s i with refuse := BitVec.ofNat 4 (doorbellReason s i v) }
      ∧ bitOf (regGet t (rPage i 0x14)) 2 = true
      ∧ regGet t 0x30078 = BitVec.ofNat 32 (min 0xFFFFFFFF ((regGet s 0x30078).toNat + 1))
      ∧ t.out = [.reg 0 0])
  ∧ (∀ (s : State) (i : InstId) (priv : Bool) (w : Word) (k : Nat),
    portOpen s (pageAcc i priv 0x08 w) →
    k = regFld s (rPage i 4) 4 0 →
    k < 16 →
    completes (.glgIDescDataAccess i ⟨priv, some w⟩) s fun t =>
      instOf t i = { instOf s i with staged := (instOf s i).staged.setIfInBounds k w }
      ∧ regGet t (rPage i 4) = BitVec.ofNat 32 (k + 1)
      ∧ t.out = [.reg 0 0])
  ∧ (∀ (s : State) (i : InstId) (priv : Bool) (k : Nat),
    portReady s = true →
    s.img.applied = true →
    (!isMgr i || priv) = true →
    k = regFld s (rPage i 4) 4 0 →
    k < 16 →
    completes (.glgIDescDataAccess i ⟨priv, none⟩) s fun t =>
      t.glg = s.glg
      ∧ regGet t (rPage i 4) = BitVec.ofNat 32 (k + 1)
      ∧ t.out = [.reg 0 ((instOf s i).staged.toList.getD k 0)])
  ∧ (∀ (s : State) (i : InstId) (priv : Bool) (r : Vector Word 6) (rest : List (Vector Word 6)),
    portReady s = true →
    s.img.applied = true →
    (!isMgr i || priv) = true →
    (instOf s i).cpl = r :: rest →
    completes (.glgICplDataRead i priv) s fun t =>
      t.out = [.reg 0 (r.toList.getD (instOf s i).cplPos 0)]
      ∧ (if 5 ≤ (instOf s i).cplPos then (instOf t i).cplPos = 0 ∧ rest <+: (instOf t i).cpl
      else instOf t i = { instOf s i with cplPos := (instOf s i).cplPos + 1 }))
  ∧ (∀ (s : State) (i : InstId) (priv : Bool),
    portReady s = true →
    s.img.applied = true →
    (!isMgr i || priv) = true →
    (instOf s i).cpl = [] →
    completes (.glgICplDataRead i priv) s fun t =>
      t.out = [.reg 0 0]
      ∧ t.glg = s.glg
      ∧ t.regs = s.regs)
  ∧ (∀ (s : State) (k : Nat),
    portReady s = true →
    s.img.applied = true →
    k = regFld s 0x30020 7 0 →
    k < 128 →
    completes (.glgStateDataAccess ⟨true, none⟩) s fun t =>
      t.glg = s.glg
      ∧ regGet t 0x30020 = BitVec.ofNat 32 (k + 1)
      ∧ t.out = [.reg 0 (s.glg.window.toList.getD k 0)])
  ∧ (∀ (s : State) (w : Word) (k : Nat),
    portOpen s (winAcc true 0x30024 w) →
    k = regFld s 0x30020 7 0 →
    k < 128 →
    completes (.glgStateDataAccess ⟨true, some w⟩) s fun t =>
      t.glg = { s.glg with window := s.glg.window.setIfInBounds k w }
      ∧ regGet t 0x30020 = BitVec.ofNat 32 (k + 1)
      ∧ t.out = [.reg 0 0])
  ∧ (∀ (s : State) (i : InstId) (priv : Bool) (v : Word) (j : Job),
    portOpen s (pageAcc i priv 0x28 v) →
    bitOf v 0 = true →
    bitOf v 1 = false →
    (instOf s i).job = some j →
    j.ended = false →
    completes (.glgIAbort i priv v) s fun t =>
      (∃ k, (instOf t i).job = some k ∧ k.d = j.d ∧ k.cursor = j.cursor ∧ k.slots = j.slots ∧ k.verify = none
        ∧ k.ended = j.slots.isEmpty ∧ (j.stop = none → k.stop = some 2))
      ∧ (instOf t i).queue = (instOf s i).queue
      ∧ t.out = [.reg 0 0])
  ∧ ∀ (s : State) (i : InstId) (priv : Bool) (v : Word),
    portOpen s (pageAcc i priv 0x28 v) →
    bitOf v 0 = false →
    bitOf v 1 = true →
    completes (.glgIFlush i priv v) s fun t =>
      (instOf t i).job = (instOf s i).job
      ∧ (instOf t i).chained = none
      ∧ (∀ d ∈ (instOf t i).queue, d.dead = true)
      ∧ (instOf t i).queue.length + (instOf t i).cpl.length = (instOf s i).chained.toList.length + (instOf s i).queue.length + (instOf s i).cpl.length

/-- JOB_START takes the chained descriptor, or the head of the queue, makes it the active job at its first granule and counts it; a descriptor that fails its checks stops with the check's status. GRANULE_DONE of a granule that another controller processes counts it as skipped; of a denied one it stops the job with the violation counted; of one whose lines are all done and written it counts it as processed, but for VERIFY, which reads its entry first. A FILL line taken up is offered to requester 5 with the pattern and the job's partition; READ_DECODE of a DIGEST or VERIFY line keeps what a clean line holds. JOB_END of a settled job writes its completion record and frees the instance. GRANULE_TIMEOUT stops the job, counts its expiry and withdraws the reads that are not issued; the lines that were issued complete before the job ends. FREEZE_TAKE_EFFECT at a settled boundary freezes the instance. (The order of the checks of a granule and what a chain fetch waits for are the model's, logs 41 and 42.) (R451, R453, R457, R458, R466, R467, R468, R469, R472, R477, R480, R518) -/
def Obligations.GliogJobs : Prop :=
  (∀ (s : State) (i : InstId) (d : Desc),
    glgRuns s = true →
    glgHeld s = false →
    (instOf s i).enabled = true →
    (instOf s i).frozen = false →
    (instOf s i).freezeReq = false →
    (instOf s i).job = none →
    (instOf s i).cpl.length < 4 →
    ((instOf s i).chained = some d ∨ ((instOf s i).chained = none ∧ (instOf s i).queue.head? = some d
      ∧ d.dead = false)) →
    completes (.jobStart i) s fun t =>
      (∃ j, (instOf t i).job = some j ∧ j.d = d ∧ j.cursor = 0 ∧ j.processed = 0 ∧ j.skipped = 0 ∧ j.first = none
        ∧ j.stop = d.check s (isMgr i) ∧ j.ruleSet = s.glg.activeSet)
      ∧ (instOf t i).chained = none
      ∧ (instOf t i).queue = (if (instOf s i).chained = none then (instOf s i).queue.tail else (instOf s i).queue)
      ∧ regGet t 0x30060 = BitVec.ofNat 32 (min 0xFFFFFFFF ((regGet s 0x30060).toNat + 1)))
  ∧ (∀ (s : State) (i : InstId) (j : Job),
    glgRuns s = true →
    (instOf s i).frozen = false →
    (instOf s i).freezeReq = false →
    (instOf s i).job = some j →
    j.verify = none →
    j.ended = false →
    j.slots = [] →
    granuleStart s i j = .skip →
    completes (.granuleDone i j.cursor) s fun t =>
      (∃ k, (instOf t i).job = some k ∧ k.d = j.d ∧ k.cursor = j.cursor + 1 ∧ k.skipped = j.skipped + 1
        ∧ k.processed = j.processed ∧ k.first = j.first)
      ∧ t.sched = s.sched)
  ∧ (∀ (s : State) (i : InstId) (j : Job) (k : Nat) (nm : Bool) (a : Nat),
    glgRuns s = true →
    (instOf s i).frozen = false →
    (instOf s i).freezeReq = false →
    (instOf s i).job = some j →
    j.verify = none →
    j.ended = false →
    j.slots = [] →
    granuleStart s i j = .denied k nm a →
    completes (.granuleDone i j.cursor) s fun t =>
      (∃ m, (instOf t i).job = some m ∧ m.d = j.d ∧ m.cursor = j.cursor ∧ m.ended = true ∧ m.stop = some 5)
      ∧ regGet t 0x30070 = BitVec.ofNat 32 (min 0xFFFFFFFF ((regGet s 0x30070).toNat + 1))
      ∧ t.sched = s.sched)
  ∧ (∀ (s : State) (i : InstId) (j : Job) (l : List GRead),
    glgRuns s = true →
    (instOf s i).frozen = false →
    (instOf s i).job = some j →
    j.verify = none →
    j.ended = false →
    gotAll j = some l →
    (s.sched.toList.all fun q => !(q.maint.get 5).any (MntCmd.writesIn s (j.d.granLine j.cursor) (j.d.granLine j.cursor + 2 ^ j.d.gran))) = true →
    j.d.op ≠ 4 →
    completes (.granuleDone i j.cursor) s fun t =>
      (∃ k, (instOf t i).job = some k ∧ k.d = j.d ∧ k.slots = [] ∧ k.cursor = j.cursor + 1
        ∧ k.processed = j.processed + 1 ∧ k.skipped = j.skipped)
      ∧ t.out = [])
  ∧ (∀ (s : State) (x : Sc) (i : InstId) (j : Job) (g : GLine) (k : Nat),
    glgNext s x i = some (j, g, k) →
    j.d.op = 2 →
    rankLive s g.lla = true →
    g.mir = false →
    ⟨.lineWrite g.lla j.d.pattern false false, none, false, [], some (jobLabel s i j)⟩ ∈ ((takeLine i k j g s).sched.get x).maint.get 5
      ∧ (∃ m, (instOf (takeLine i k j g s) i).job = some m ∧ m.slots = j.slots ++ [.got ⟨0, 0, false⟩]
        ∧ m.cursor = j.cursor))
  ∧ (∀ (s : State) (x : Sc) (rx : Capture) (v : RdTag) (i : InstId) (k : Nat) (b : Bool) (j : Job) (g : GLine),
    (s.sched.get x).pipe.find? (fun r => r.origin.isRead) = some v →
    v.origin = .gliog i k b →
    (instOf s i).job = some j →
    j.slots[k]? = some .read →
    granuleLine s j k = some g →
    (j.d.op = 3 ∨ j.d.op = 4) →
    (v.decode s rx).outcome = .clean →
    completes (.readDecode x rx) s fun t =>
      (∃ m, (instOf t i).job = some m ∧ m.slots = j.slots.set k (.got ⟨(v.decode s rx).data, 0, false⟩)
        ∧ m.cursor = j.cursor)
      ∧ regGet t 0x30068 = BitVec.ofNat 32 (min 0xFFFFFFFF ((regGet s 0x30068).toNat + 1))
      ∧ v ∉ (t.sched.get x).pipe
      ∧ t.reqs = s.reqs
      ∧ t.out = [])
  ∧ (∀ (s : State) (i : InstId) (j : Job),
    (instOf s i).job = some j →
    j.ended = true →
    j.wantsChain = false →
    egpBusy s i = false →
    dataSettled s j.d = true →
    (instOf s i).cpl.length < 4 →
    completes (.jobEnd i) s fun t =>
      (instOf t i).job = none
      ∧ (instOf t i).cpl = (instOf s i).cpl ++ [#v[pack [(j.status.val, 28), (j.d.op, 24), (j.d.epoch.toNat, 16),
        (j.d.jobId, 0)], (j.d.w)[13],
      BitVec.ofNat 32 j.processed, BitVec.ofNat 32 j.skipped, BitVec.ofNat 32 (if 2 ≤ j.status.val then j.cursor else j.first.getD 0xFFFFFFFF),
      pack [(min 0xFFFF j.badLines, 16), (min 0xFFFF j.diffs, 0)]]]
      ∧ bitOf (regGet t (rPage i 0x14)) 0 = true
      ∧ regGet t 0x30064 = BitVec.ofNat 32 (min 0xFFFFFFFF ((regGet s 0x30064).toNat + 1)))
  ∧ (∀ (s : State) (i : InstId) (j : Job),
    glgRuns s = true →
    (instOf s i).frozen = false →
    (instOf s i).job = some j →
    j.ended = false →
    j.givenUp = false →
    j.stop = none →
    (j.over = false ∨ j.slots ≠ []) →
    j.verify = none →
    granuleLines s j ≠ [] →
    (granuleLines s j).all (fun g => !(chLive s (chOf (scOf g.lla)) && masked s (scOf g.lla) 5) && !(rankLive s g.lla && readWaits s g.lla)) = true →
    granuleWaits s j (granuleLines s j) = [] →
    completes (.granuleTimeout i) s fun t =>
      (∃ k, (instOf t i).job = some k ∧ k.d = j.d ∧ k.cursor = j.cursor ∧ k.stop = some 7 ∧ k.ended = !k.givenUp
        ∧ (k.givenUp = false → k.slots = []) ∧ (j.slots = [] → k.ended = true))
      ∧ (∀ x : Sc, (t.sched.get x).pipe = (s.sched.get x).pipe)
      ∧ (∀ x : Sc, ∀ m ∈ (t.sched.get x).maint.get 5, ∀ n b f, m.op ≠ .lineRead (.gliog i n b) f)
      ∧ bitOf (regGet t 0x30000) 1 = true
      ∧ countsExpiry 0x14 s t)
  ∧ ∀ (s : State) (i : InstId),
    (instOf s i).freezeReq = true →
    (instOf s i).frozen = false →
    egpBusy s i = false →
    (instOf s i).chained = none →
    (match (instOf s i).job with | none => true | some j => !j.over && j.verify.isNone && j.slots.isEmpty && j.resBuf.isNone && j.stBuf.isNone && dataSettled s j.d) = true →
    completes (.freezeTakeEffect i) s fun t =>
      instOf t i = { instOf s i with frozen := true, freezeReq := false, frozenAt := BitVec.ofNat 32 s.glb.now }
      ∧ bitOf (regGet t (rPage i 0x14)) 3 = true

/-- A mailbox command for an instance of the current epoch, none being in progress, runs: ASSIGN and UNASSIGN start the instance anew under the next epoch; ABORT stops its job and flushes its queue; FREEZE asks for the freeze and is busy; THAW ends it; SAVE of a frozen instance puts its blob in the state window; RESTORE of a sound blob to an idle frozen instance is taken; NOTIFY shows the argument and flags it. A command of another epoch, whichever it is, shows code 2, is counted, and touches no instance. (What an assigned instance keeps and when a restart-class reload freezes it again are the model's, logs 42 and 43.) GLG_PU_SWAP with no swap pending activates the other set. GLG_PV_REARM clears the valid bits that it names. (R43, R471, R472, R473, R474, R478, R479) -/
def Obligations.GliogManager : Prop :=
  (∀ (s : State) (v : Word) (i : InstId),
    confirms s 0x30010 v →
    fld v 31 28 = 1 →
    mboxFor s v i →
    isMgr i = false →
    completes (.mboxAssign true (~~~v)) s fun t =>
      instOf t i = { Inst.reset true with epoch := (instOf s i).epoch + 1, label := (regGet s 0x30008).setWidth 12, refuse := (instOf s i).refuse, freezeReq := glgHeld s, rlHold := glgHeld s }
      ∧ regGet t 0x30018 = pack [(((instOf s i).epoch + 1).toNat, 16), (i.val, 0)]
      ∧ bitOf (regGet t 0x30000) 0 = true
      ∧ t.out = [.reg 0 0])
  ∧ (∀ (s : State) (v : Word) (i : InstId),
    confirms s 0x30010 v →
    fld v 31 28 = 2 →
    mboxFor s v i →
    isMgr i = false →
    completes (.mboxUnassign true (~~~v)) s fun t =>
      instOf t i = { Inst.reset false with epoch := (instOf s i).epoch + 1, label := (regGet s 0x30008).setWidth 12, refuse := (instOf s i).refuse }
      ∧ regGet t 0x30018 = pack [(((instOf s i).epoch + 1).toNat, 16), (i.val, 0)]
      ∧ bitOf (regGet t 0x30000) 0 = true
      ∧ t.out = [.reg 0 0])
  ∧ (∀ (s : State) (v : Word) (i : InstId),
    confirms s 0x30010 v →
    fld v 31 28 = 3 →
    mboxFor s v i →
    completes (.mboxAbort true (~~~v)) s fun t =>
      (∀ j, (instOf s i).job = some j → j.ended = false → ∃ k, (instOf t i).job = some k ∧ k.d = j.d
        ∧ k.ended = j.slots.isEmpty ∧ (j.stop = none → k.stop = some 2))
      ∧ (instOf t i).chained = none
      ∧ (∀ d ∈ (instOf t i).queue, d.dead = true)
      ∧ (instOf t i).epoch = (instOf s i).epoch
      ∧ bitOf (regGet t 0x30000) 0 = true
      ∧ t.out = [.reg 0 0])
  ∧ (∀ (s : State) (v : Word) (i : InstId),
    confirms s 0x30010 v →
    fld v 31 28 = 4 →
    mboxFor s v i →
    (instOf s i).enabled = true →
    (instOf s i).frozen = false →
    completes (.mboxFreeze true (~~~v)) s fun t =>
      instOf t i = { instOf s i with freezeReq := true, rlHold := false }
      ∧ t.glg.mboxBusy = true
      ∧ bitOf (regGet t 0x30018) 31 = true
      ∧ t.out = [.reg 0 0])
  ∧ (∀ (s : State) (v : Word) (i : InstId),
    confirms s 0x30010 v →
    fld v 31 28 = 5 →
    mboxFor s v i →
    completes (.mboxThaw true (~~~v)) s fun t =>
      instOf t i = (if glgHeld s
        ∧ (instOf s i).enabled = true then { (instOf s i).thawed s.glg.activeSet with freezeReq := true, rlHold := true } else (instOf s i).thawed s.glg.activeSet)
      ∧ ((instOf s i).thawed s.glg.activeSet).frozen = false ∧ ((instOf s i).thawed s.glg.activeSet).freezeReq = false
      ∧ (((instOf s i).thawed s.glg.activeSet).job = (instOf s i).job.map fun j => { j with ruleSet := s.glg.activeSet })
      ∧ regFld t 0x30018 31 28 = 0
      ∧ bitOf (regGet t 0x30000) 0 = true
      ∧ t.out = [.reg 0 0])
  ∧ (∀ (s : State) (v : Word) (i : InstId),
    confirms s 0x30010 v →
    fld v 31 28 = 6 →
    mboxFor s v i →
    (instOf s i).frozen = true →
    completes (.mboxSave true (~~~v)) s fun t =>
      (∀ n : Fin 128, t.glg.window.get n = (blobOf s i).getD n.val 0)
      ∧ t.glg.inst = s.glg.inst
      ∧ regGet t 0x30020 = 0
      ∧ bitOf (regGet t 0x30000) 0 = true
      ∧ t.out = [.reg 0 0])
  ∧ (∀ (s : State) (v : Word) (i : InstId),
    confirms s 0x30010 v →
    fld v 31 28 = 7 →
    mboxFor s v i →
    (instOf s i).enabled = true →
    (instOf s i).frozen = true →
    (instOf s i).job = none →
    (instOf s i).queue = [] →
    (instOf s i).cpl = [] →
    blobOk s.glg.window.toList = true →
    completes (.mboxRestore true (~~~v)) s fun t =>
      (instOf t i).job.isSome = bitOf (s.glg.window.toList.getD 2 0) 0
      ∧ (instOf t i).queue.length = min 4 (fld (s.glg.window.toList.getD 2 0) 18 16)
      ∧ (instOf t i).cpl.length = min 4 (fld (s.glg.window.toList.getD 2 0) 22 20)
      ∧ (instOf t i).frozen = true
      ∧ regFld t 0x30018 31 28 = 0
      ∧ t.out = [.reg 0 0])
  ∧ (∀ (s : State) (v : Word) (i : InstId),
    confirms s 0x30010 v →
    fld v 31 28 = 8 →
    mboxFor s v i →
    completes (.mboxNotify true (~~~v)) s fun t =>
      t.glg = s.glg
      ∧ regGet t (rPage i 0x24) = regGet s 0x30008 &&& 0xFFFF
      ∧ bitOf (regGet t (rPage i 0x14)) 4 = true
      ∧ bitOf (regGet t 0x30000) 0 = true
      ∧ t.out = [.reg 0 0])
  ∧ (∀ (s : State) (v : Word) (i : InstId) (c : Instr),
    confirms s 0x30010 v →
    (fld v 31 28, c) ∈ [(1, Instr.mboxAssign true (~~~v)), (2, .mboxUnassign true (~~~v)), (3, .mboxAbort true (~~~v)),
      (4, .mboxFreeze true (~~~v)), (5, .mboxThaw true (~~~v)), (6, .mboxSave true (~~~v)),
      (7, .mboxRestore true (~~~v)), (8, .mboxNotify true (~~~v))] →
    s.glg.mboxBusy = false →
    i.val = fld v 6 0 →
    fld v 23 16 ≠ (instOf s i).epoch.toNat →
    completes c s fun t =>
      t.glg = s.glg
      ∧ regFld t 0x30018 30 28 = 2
      ∧ bitOf (regGet t 0x30000) 5 = true
      ∧ regGet t 0x30074 = BitVec.ofNat 32 (min 0xFFFFFFFF ((regGet s 0x30074).toNat + 1)))
  ∧ (∀ (s : State) (v : Word),
    confirms s 0x30030 v →
    bitOf v 0 = true →
    s.glg.swapPending = false →
    completes (.glgPuSwap true (~~~v)) s fun t =>
      t.glg.activeSet = !s.glg.activeSet
      ∧ t.glg.swapPending = decide (oldJobs t ≠ 0)
      ∧ t.glg.inst = s.glg.inst
      ∧ t.out = [.reg 0 0])
  ∧ (∀ (s : State) (v : Word),
    portOpen s (winAcc true 0x30050 v) →
    bitOf v 0 = true →
    completes (.pvRearmPrecise true v) s fun t =>
      bitOf (regGet t 0x30040) 31 = false
      ∧ regFld t 0x30040 30 0 = regFld s 0x30040 30 0
      ∧ t.out = [.reg 0 0])
  ∧ ∀ (s : State) (v : Word),
    portOpen s (winAcc true 0x30050 v) →
    bitOf v 1 = true →
    completes (.pvRearmImprecise true v) s fun t =>
      bitOf (regGet t 0x3004C) 31 = false
      ∧ regFld t 0x3004C 30 0 = regFld s 0x3004C 30 0
      ∧ t.out = [.reg 0 0]

/-- With c at the front of the queue a step is exec of c on the state with the queue's rest, for every command and state. With an empty queue outside RESET one aclk cycle passes: the time base advances by 1, the core clock by its cycles if it runs, every port samples hold, an acknowledge of an image or fuse word is over, and the delay codes move on. With qz_req low at that edge, a drain or pause that has ended lets qz_ack fall and nothing else changes; a deep pause that is in force begins its exit; another ends: qz_ack falls, and SERVICE follows QUIESCED. In RESET nothing advances (the idle step is the model's choice, logs 1 and 66). (R34, R54, R67, R76, R78, R102, R296) -/
def Obligations.StepRunsTheFrontCommand : Prop :=
  (∀ (s : State) (c : Instr) (rest : List Instr),
    s.pending = c :: rest →
    step s = exec c { s with pending := rest })
  ∧ (∀ (s : State),
    s.pending = [] →
    s.glb.ctl ≠ .reset →
    (s.qz.req = true ∨ (s.qz.ph ≠ .paused ∧ s.qz.ph ≠ .ended)) →
    step s = .next (cyclePasses s))
  ∧ (∀ (s : State),
    s.pending = [] →
    s.glb.ctl ≠ .reset →
    s.qz.req = false →
    s.qz.ph = .ended →
    step s = .next { cyclePasses s with qz := { s.qz with ph := .idle, ack := false } })
  ∧ (∀ (s : State),
    s.pending = [] →
    s.glb.ctl = .quiesced →
    s.qz.req = false →
    s.qz.ph = .paused →
    s.qz.deep = true →
    step s = .next { cyclePasses s with qz := { s.qz with ph := .exiting } })
  ∧ (∀ (s : State),
    s.pending = [] →
    s.glb.ctl ≠ .reset →
    s.qz.req = false →
    s.qz.ph = .paused →
    (s.glb.ctl = .quiesced → s.qz.deep = false) →
    (∃ t, step s = .next t ∧ t.qz.ph = .idle ∧ t.qz.ack = false ∧ t.qz.paused = false ∧ t.glb.now = s.glb.now + 1
      ∧ t.glb.ctl = if s.glb.ctl = .quiesced then .service else s.glb.ctl))
  ∧ ∀ (s : State),
    s.pending = [] →
    s.glb.ctl = .reset →
    step s = .next { s with out := [], raised := 0 }

/-- After reset the controller is in RESET at time 0, no register access is accepted, no write is pending, no request is in the table, no port holds a credit, no event record and no message waits, no command waits, and every register reads its reset value. The retention latches are clear (a power-up without latches is the model's choice, log 2). (R35, R43, R63, R97, R440, R506) -/
def Obligations.ResetState : Prop :=
  State.reset.glb.ctl = .reset
      ∧ State.reset.glb.now = 0
      ∧ portReady State.reset = false
      ∧ State.reset.pp = none
      ∧ State.reset.reqs = []
      ∧ (∀ p : PortId, (State.reset.ports.get p).rdHeld = 0 ∧ (State.reset.ports.get p).wrHeld = 0)
      ∧ State.reset.evt.buf = []
      ∧ State.reset.evt.chain = []
      ∧ State.reset.dom.inbox = []
      ∧ State.reset.pending = []
      ∧ (∀ off, regGet State.reset off = regReset off)
      ∧ regGet State.reset 0x6004 = 0x27100064
      ∧ (∀ c : Ch, (State.reset.glb.ch.get c).latch = false)

/-- A write through an alias to a register of any type other than RW leaves the whole state, the event records among it, and is answered OK, whichever row of the table names the write. (R38) -/
def Obligations.AliasWriteElsewhere : Prop :=
  ∀ (s : State) (a : RegAcc) (r : RegRow) (c : Instr),
    portReady s = true →
    a.allowed = true →
    s.glb.ctl ≠ .dormant →
    rowOf a.off = some r →
    r.kind ≠ .rw →
    a.alias_ ≠ 0 →
    c ∈ [Instr.registerWrite a, .sqWrite a, .ppWrite a, .indexWrite a] →
    completes c s fun t =>
      t = { s with out := [.reg 0 0], raised := 0 }
      ∧ t.evt = s.evt

/-- EVT_DATA, GLG_I_CPL_DATA and DOM_SNAP_DATA: a read with a word available returns that word and consumes it, so that what remains is the rest of the words; a read of an empty port returns 0, consumes nothing and is answered OK. A word of EVT_DATA that carries a poison tag, or whose parity is wrong as it is read, is answered with POISON_DATA. (R49) -/
def Obligations.QueueDataPorts : Prop :=
  (∀ (s : State) (u : BitVec 33) (r : ChainRec) (w : Stage) (ws : List Stage) (rest : List ChainRec),
    portReady s = true →
    s.evt.chain = r :: rest →
    r.words = w :: ws →
    completes (.evtDataRead true u) s fun t =>
      t.out = [.reg (if w.bad ∨ (w.upset u).fails then 2 else 0) (w.upset u).word]
      ∧ t.evt.chain.flatMap (·.words) = ws ++ rest.flatMap (·.words))
  ∧ (∀ (s : State) (u : BitVec 33),
    portReady s = true →
    s.evt.chain = [] →
    completes (.evtDataRead true u) s fun t =>
      t = { s with out := [.reg 0 0], raised := 0 })
  ∧ (∀ (s : State) (w : Word) (ws : List Word),
    portReady s = true →
    s.img.applied = true →
    s.dom.snap = w :: ws →
    completes (.domSnapDataRead true) s fun t =>
      t.out = [.reg 0 w]
      ∧ (t.dom.snap = if ws = [] then (s.dom.snapHeld.map snapWords).getD [] else ws)
      ∧ (t.dom.snapHeld = if ws = [] then none else s.dom.snapHeld))
  ∧ (∀ (s : State),
    portReady s = true →
    s.img.applied = true →
    s.dom.snap = [] →
    completes (.domSnapDataRead true) s fun t =>
      t = { s with out := [.reg 0 0], raised := 0 })
  ∧ (∀ (s : State) (i : InstId) (priv : Bool) (r : Vector Word 6) (rest : List (Vector Word 6)),
    portReady s = true →
    s.img.applied = true →
    (!isMgr i || priv) = true →
    (instOf s i).cpl = r :: rest →
    completes (.glgICplDataRead i priv) s fun t =>
      t.out = [.reg 0 (r.toList.getD (instOf s i).cplPos 0)]
      ∧ (if 5 ≤ (instOf s i).cplPos then (instOf t i).cplPos = 0 ∧ rest <+: (instOf t i).cpl
      else instOf t i = { instOf s i with cplPos := (instOf s i).cplPos + 1 }))
  ∧ ∀ (s : State) (i : InstId) (priv : Bool),
    portReady s = true →
    s.img.applied = true →
    (!isMgr i || priv) = true →
    (instOf s i).cpl = [] →
    completes (.glgICplDataRead i priv) s fun t =>
      t = { s with out := [.reg 0 0], raised := 0 }

/-- Raising a record of type ty, severity, source and payload: below the severity of EVT_CFG it is counted as filtered and takes no sequence; otherwise it takes the next sequence, is counted, and enters the raise buffer with the header word, the two halves of the time base and the payload, unless 16 records wait there, when its drop is noted on the newest of them and counted. A record of a lower source than the newest one of the same command goes before it and takes its sequence (that one command is one cc is the model's choice, log 56). EVT_CRIT is set by a severity of 3 or more in every case. (R503, R504, R505, R506, R515) -/
def Obligations.RecordsAreRaised : Prop :=
  (∀ (s : State) (ty : Nat) (sev : Fin 8) (src : Nat) (payload : List Word),
    sev.val < fld (regGet s 0x2000) 29 27 →
    (raise ty sev src payload s).evt = s.evt
      ∧ regGet (raise ty sev src payload s) 0x2048 = BitVec.ofNat 32 (min 0xFFFFFFFF ((regGet s 0x2048).toNat + 1))
      ∧ regGet (raise ty sev src payload s) 0x2040 = regGet s 0x2040
      ∧ (3 ≤ sev.val → bitOf (regGet (raise ty sev src payload s) 0x2010) 4 = true))
  ∧ (∀ (s : State) (ty : Nat) (sev : Fin 8) (src : Nat) (payload : List Word),
    fld (regGet s 0x2000) 29 27 ≤ sev.val →
    s.evt.buf.length < 16 →
    s.raised = 0 →
    ty < 64 →
    src < 8 →
    payload.length ≤ 13 →
    (raise ty sev src payload s).evt = { s.evt with
      nextSeq := s.evt.nextSeq + 1,
      buf := s.evt.buf ++ [⟨BitVec.ofNat 32 (ty * 2 ^ 26 + (payload.length + 2) * 2 ^ 22 + sev.val * 2 ^ 19 + src * 2 ^ 16
      + s.evt.nextSeq.toNat) :: BitVec.ofNat 32 s.glb.now :: BitVec.ofNat 32 (s.glb.now / 2 ^ 32) :: payload, sev, none⟩] }
      ∧ regGet (raise ty sev src payload s) 0x2040 = BitVec.ofNat 32 (min 0xFFFFFFFF ((regGet s 0x2040).toNat + 1))
      ∧ regGet (raise ty sev src payload s) 0x2048 = regGet s 0x2048
      ∧ (raise ty sev src payload s).raised = 1
      ∧ (3 ≤ sev.val → bitOf (regGet (raise ty sev src payload s) 0x2010) 4 = true))
  ∧ (∀ (s : State) (ty : Nat) (sev : Fin 8) (src : Nat) (payload : List Word),
    fld (regGet s 0x2000) 29 27 ≤ sev.val →
    s.evt.buf.length = 16 →
    s.raised = 0 →
    (raise ty sev src payload s).evt.buf.length = 16
      ∧ (raise ty sev src payload s).evt.buf.map (·.words) = s.evt.buf.map (·.words)
      ∧ ((raise ty sev src payload s).evt.buf.getLast?.any fun r => r.drops.isSome) = true
      ∧ (raise ty sev src payload s).evt.nextSeq = s.evt.nextSeq + 1
      ∧ regGet (raise ty sev src payload s) 0x2044 = BitVec.ofNat 32 (min 0xFFFFFFFF ((regGet s 0x2044).toNat + 1))
      ∧ (3 ≤ sev.val → bitOf (regGet (raise ty sev src payload s) 0x2010) 4 = true))
  ∧ ∀ (s : State) (old mine : List Rec) (r : Rec) (ty : Nat) (sev : Fin 8) (src : Nat) (payload : List Word),
    fld (regGet s 0x2000) 29 27 ≤ sev.val →
    s.evt.buf = old ++ mine ++ [r] →
    s.evt.buf.length < 16 →
    s.raised = mine.length + 1 →
    (∀ q ∈ mine, fld (q.words.headD 0) 18 16 ≤ src) →
    src < fld (r.words.headD 0) 18 16 →
    (∃ n r', (raise ty sev src payload s).evt.buf = old ++ mine ++ [n, r']
      ∧ fld (n.words.headD 0) 15 0 = (s.evt.nextSeq - 1).toNat ∧ n.sev = sev
      ∧ r'.words.drop 1 = r.words.drop 1 ∧ fld (r'.words.headD 0) 31 16 = fld (r.words.headD 0) 31 16
      ∧ fld (r'.words.headD 0) 15 0 = (fld (r.words.headD 0) 15 0 + 1) % 65536)
      ∧ (raise ty sev src payload s).evt.nextSeq = s.evt.nextSeq + 1
      ∧ (raise ty sev src payload s).raised = mine.length + 2

/-- For every command and state: each of the pieces time base, controller state, halt cause, Cast-On step, gear, straps, pf_n, core clock, VDDQ, PLL attempts, fuses, acknowledge, channels, slots, training, initialised regions, service marks, pause input and pause, rank power states, wake, throttle, temperatures and Bind-Off is the same after the command, unless mayChange lists it for that command. (R34, R54, R61, R71, R76, R137, R482, R486, R491, R494) -/
def Obligations.FrameOfControlAndPower : Prop :=
  ∀ (c : Instr) (s : State) (p : Piece),
    p ∈ [Piece.clock, .control, .halt, .castOnStep, .gear, .straps, .powerFail, .coreClock, .supply, .pll, .fuses, .ackLine,
      .channels, .slots, .training, .regions, .service, .pauseInput, .pause, .ranksPower, .wake, .throttle,
      .temperature, .bindOff] →
    p ∉ mayChange c →
    completes c s fun t =>
      same p s t

/-- For every command and state: each of the pieces ports, requests and their numbers, partitions, virtual times, buckets, wheel, partition table, panic, RTP peak, credit round, egress queue and egress slots is the same after the command, unless mayChange lists it for that command. (R33, R111, R124, R125, R260, R263, R271, R275, R286) -/
def Obligations.FrameOfPortsAndQos : Prop :=
  ∀ (c : Instr) (s : State) (p : Piece),
    p ∈ [Piece.ports, .requests, .numbers, .partitions, .virtualTime, .buckets, .wheel, .partitionTable, .panic, .rtpPeak,
      .creditRound, .egressQueue, .egressSlots] →
    p ∉ mayChange c →
    completes c s fun t =>
      same p s t

/-- For every command and state: each of the pieces scheduler, alert, refresh, refresh rate, row counters, back-off, rolling counts, PHY, Lifeline, boot program, gear change, shadow, fault units, error log, scrub, repair, sparing, debug operation and scrub fetch is the same after the command, unless mayChange lists it for that command. (R188, R196, R208, R231, R246, R297, R313, R330, R347, R356, R360, R365) -/
def Obligations.FrameOfDram : Prop :=
  ∀ (c : Instr) (s : State) (p : Piece),
    p ∈ [Piece.scheduler, .alert, .refresh, .refreshRate, .rowCounters, .backoff, .rolling, .phy, .lifeline, .bootPoint,
      .gearChange, .shadow, .faultUnits, .errorLog, .scrub, .repair, .sparing, .debug, .scrubFetch] →
    p ∉ mayChange c →
    completes c s fun t =>
      same p s t

/-- For every command and state: each of the pieces of the pair, of the domain, of the image and of Gliog (role, state, epoch, peer, heartbeats, dirty regions, resilver, role change, record, request, line locks; inbox, sequence, census, snapshot, outbox; image, fetch, reload, broadcast; instances, state window, rule sets, mailbox, CRC sets) is the same after the command, unless mayChange lists it for that command. (R384, R396, R400, R408, R430, R438, R441, R446, R451, R471, R479) -/
def Obligations.FrameOfPairDomainGliog : Prop :=
  ∀ (c : Instr) (s : State) (p : Piece),
    p ∈ [Piece.pairRole, .pairState, .epoch, .peerKnown, .heartbeats, .dirty, .resilver, .roleChange, .pairRecord,
      .pairRequest, .lineLocks, .inbox, .sequence, .census, .snapshot, .outbox, .image, .fetch, .reload, .broadcast,
      .instances, .stateWindow, .ruleSets, .mailbox, .crcSets] →
    p ∉ mayChange c →
    completes c s fun t =>
      same p s t

/-- For every command and state: the event records, the chain, the rate limits, the expiry counts and the pending protected write are the same after the command unless mayChange lists them for it; so is every register of every group of registers that mayChange does not list. No command changes the queue of the commands that wait. (R34, R39, R43, R503, R506, R514, R518) -/
def Obligations.FrameOfRecordsAndRegisters : Prop :=
  (∀ (c : Instr) (s : State) (p : Piece),
    p ∈ [Piece.records, .chain, .limits, .expiries, .protectedWrite, .queue] →
    p ∉ mayChange c →
    completes c s fun t =>
      same p s t)
  ∧ (∀ (c : Instr) (s : State) (off : Nat),
    Piece.regs (regGroup off) ∉ mayChange c →
    completes c s fun t =>
      regGet t off = regGet s off)
  ∧ ∀ (c : Instr) (s : State),
    completes c s fun t =>
      t.pending = s.pending

/-- REGISTER_WRITE, SQ_WRITE, PP_WRITE and INDEX_WRITE at any address: a write to a read-only register, to one that the image sets, or where no register lies changes no piece but a wake it may start; one to an SQ register, or to a plain or wide register that starts nothing, changes at most that one register (and the wide value it is a half of); one to a protected register changes no register outside EVT and no piece but the pending write, the event records and the wake. (R37, R38, R41, R43, R45, R51, R53) -/
def Obligations.RegisterWriteFrame : Prop :=
  (∀ (s : State) (a : RegAcc) (c : Instr),
    c ∈ [Instr.registerWrite a, .sqWrite a, .ppWrite a, .indexWrite a] →
    (rowOf a.off).all (fun r => r.kind ∈ [RegKind.ro, .cfg, .live]) = true →
    completes c s fun t =>
      (∀ p ∉ [Piece.pll, .wake], same p s t))
  ∧ (∀ (s : State) (a : RegAcc) (c : Instr),
    c ∈ [Instr.registerWrite a, .sqWrite a, .ppWrite a, .indexWrite a] →
    (rowOf a.off).any (fun r => r.kind ∈ [RegKind.rw, .wd, .sq]) = true →
    a.off ∉ [0x20000, 0x20040, 0x12044, 0x30200, 0xA004, 0x8140] →
    completes c s fun t =>
      (∀ p ∉ [Piece.pll, .wake, .crcSets, .regs (regGroup a.off)], same p s t)
      ∧ (∀ off, off ≠ a.off → regGet t off = regGet s off))
  ∧ ∀ (s : State) (a : RegAcc) (c : Instr),
    c ∈ [Instr.registerWrite a, .sqWrite a, .ppWrite a, .indexWrite a] →
    a.isPp = true →
    completes c s fun t =>
      (∀ p ∉ [Piece.pll, .wake, .protectedWrite, .records, .regs 1], same p s t)

/-- Every step keeps: the unread words of the event chain fit its 128 stages. No command, from no state, overfills the chain. (R506, R507, R510) -/
def Obligations.ChainFitsItsStages : Prop :=
  ∀ (s t : State),
    chainUsed s.evt.chain ≤ 128 →
    step s = .next t →
    chainUsed t.evt.chain ≤ 128

/-- Every step keeps: the numbers of the requests in the table are distinct and below the next number. (The numbers are the model's own; the statements that speak of one request by its number have this as a premise.) (R13, R111, R114) -/
def Obligations.RequestNumbersStayFresh : Prop :=
  ∀ (s t : State),
    idsFresh s →
    step s = .next t →
    idsFresh t

/-- The commands that may end Cast-On in HALTED (R170). -/
def Sys2Proof.mayHalt : Instr → Bool
  | .imgWordAck _ _ | .imgWordTimeout | .imgVerifyDone | .fuseWordAck _ | .fuseWordTimeout | .pllLockTimeout
  | .phyZqDone _ | .phyZqTimeout | .sidebandDone | .dimmInitDone _ _ | .dimmInitTimeout _ | .trainingStepDone _ _ _
  | .trainingStepTimeout _ _ | .carveOutWatchdog _ => true
  | _ => false

/-- The controller may go from one state to another by this command (`none`: a cycle without one). -/
def Sys2Proof.ctlEdge (a b : Ctl) (c : Option Instr) : Bool :=
  match c with
  | some .aonRstAssert => b = .reset
  | some (.aonRstRelease _ _ _ _) => a = .reset && b = .castOn
  | some .serviceEntry => a = .castOn && (b = .service || b = .quiesced)
  | some .pauseTakeEffect => a = .service && b = .quiesced
  | some .qzHoldExpiry | some .qzReqFall | some .deepPauseExitDone | none => a = .quiesced && b = .service
  | some .gearChangeEnter => a = .service && b = .gearChange
  | some (.gearChangeDone _) => a = .gearChange && (b = .service || b = .quiesced)
  | some .dormantEntry => a = .service && b = .dormant
  | some .wakeComplete => a = .dormant && (b = .service || b = .quiesced)
  | some .reloadQuiescePoint => a = .service && b = .castOn
  | some .pfNFall => a ≠ .reset && a ≠ .held && b = .bindOff
  | some .bindOffComplete => a = .bindOff && b = .held
  | some c => (a = .castOn || (a = .dormant && c = .pllLockTimeout)) && b = .halted && mayHalt c
/-- At reset the event chain fits its stages and the request numbers are fresh. (R13, R111, R506, R507) -/
def Obligations.InvariantsAtReset : Prop :=
  chainUsed State.reset.evt.chain ≤ 128
      ∧ idsFresh State.reset

/-- Every step from every state leaves the controller state, or follows one of its arrows by the command that the rules name for it: reset and its release, the halts of Cast-On, service entry, pauses and their ends, gear changes, DORMANT and its wake, the restart of a reload, a power fail from any state but RESET and HELD, and HELD after Bind-Off. HALTED and HELD are left only by reset, HALTED also by a power fail, and BIND_OFF only to HELD. (R26, R63, R71, R75, R76, R80, R162, R170, R331, R434, R484, R486) -/
def Obligations.ControllerStates : Prop :=
  (∀ (s t : State),
    step s = .next t →
    (t.glb.ctl = s.glb.ctl ∨ ctlEdge s.glb.ctl t.glb.ctl s.pending.head? = true))
  ∧ ∀ (s t : State),
    step s = .next t →
    s.glb.ctl ∈ [Ctl.bindOff, .held] →
    s.pending.head? ≠ some .aonRstAssert →
    (t.glb.ctl = s.glb.ctl ∨ (s.glb.ctl = .bindOff ∧ t.glb.ctl = .held))

/-- No command but the assertion of reset changes the time base; the assertion sets it to 0; a cycle of aclk without a command advances it by 1 outside RESET. (That a command takes no aclk cycle of its own is the model's choice, log 1.) (R54) -/
def Obligations.TimeBase : Prop :=
  ∀ (s t : State),
    step s = .next t →
    (t.glb.now = match s.pending with
      | [] => if s.glb.ctl = .reset then s.glb.now else s.glb.now + 1
      | .aonRstAssert :: _ => 0
      | _ :: _ => s.glb.now)
end

