-- ==== Sys2Proof/Laws/Maps.lean ====
section
/-! SUPPORT. Reading a sparse map or a vector after a write, and the order of its keys. -/

namespace Sys2Proof.Machine

@[simp] theorem kfind_kset_same {α : Type} (m : KMap α) (i : Nat) (x : α) : kfind (kset m i x) i = some x := by
  induction m with
  | nil => simp [kset, kfind]
  | cons e m ih =>
    obtain ⟨k, v⟩ := e
    simp only [kset]
    split
    · simp [kfind]
    · split
      · simp [kfind]
      · rename_i h1 h2
        simp [kfind, ih, Ne.symm h2]

theorem kfind_kset_other {α : Type} (m : KMap α) {i j : Nat} (x : α) (h : j ≠ i) : kfind (kset m i x) j = kfind m j := by
  induction m with
  | nil => simp [kset, kfind, Ne.symm h]
  | cons e m ih =>
    obtain ⟨k, v⟩ := e
    simp only [kset]
    split
    · simp [kfind, Ne.symm h]
    · split
      · rename_i h1 h2
        subst h2
        simp [kfind, Ne.symm h]
      · simp [kfind, ih]

/-- What a kwf list's tail and first key satisfy. -/
theorem kwf_cons {α : Type} (a : Nat) (v : α) (m : KMap α) :
    kwf ((a, v) :: m) = true ↔ (∀ e ∈ m.head?, a < e.1) ∧ kwf m = true := by
  cases m with
  | nil => simp [kwf]
  | cons e m => obtain ⟨b, y⟩ := e; simp [kwf]

theorem kset_head {α : Type} (m : KMap α) (i : Nat) (x : α) (a : Nat) (hm : ∀ e ∈ m.head?, a < e.1) (hi : a < i) :
    ∀ e ∈ (kset m i x).head?, a < e.1 := by
  cases m with
  | nil => simpa [kset] using hi
  | cons e m =>
    obtain ⟨k, v⟩ := e
    simp only [kset]
    split
    · simpa using hi
    · split <;> simp_all

/-- A write keeps the keys strictly rising. -/
theorem kwf_kset {α : Type} (m : KMap α) (i : Nat) (x : α) (h : kwf m = true) : kwf (kset m i x) = true := by
  induction m with
  | nil => simp [kset, kwf]
  | cons e m ih =>
    obtain ⟨k, v⟩ := e
    obtain ⟨h1, h2⟩ := (kwf_cons k v m).mp h
    simp only [kset]
    split
    · rename_i hk; exact (kwf_cons i x _).mpr ⟨by simpa using hk, h⟩
    · split
      · rename_i hk; subst hk; exact (kwf_cons i x m).mpr ⟨h1, h2⟩
      · exact (kwf_cons k v _).mpr ⟨kset_head m i x k h1 (by omega), ih h2⟩

@[simp] theorem vget_vset_same {α : Type} {n : Nat} (v : Vector α n) (i : Fin n) (x : α) : (vset v i x).get i = x := by
  simp [vset, Vector.get_eq_getElem]

theorem vget_vset_other {α : Type} {n : Nat} (v : Vector α n) {i j : Fin n} (x : α) (h : j ≠ i) :
    (vset v i x).get j = v.get j := by
  have : i.val ≠ j.val := fun e => h (Fin.ext e.symm)
  simp [vset, Vector.get_eq_getElem, Vector.getElem_set, this]

@[simp] theorem vget_vmod_same {α : Type} {n : Nat} (v : Vector α n) (i : Fin n) (f : α → α) : (vmod v i f).get i = f (v.get i) := by
  simp [vmod]

theorem vget_vmod_other {α : Type} {n : Nat} (v : Vector α n) {i j : Fin n} (f : α → α) (h : j ≠ i) :
    (vmod v i f).get j = v.get j := by
  simp [vmod, vget_vset_other _ _ h]

end Sys2Proof.Machine
end

