-- ==== Sys2Proof/Laws/State.lean ====
section
/-! SUPPORT. What each update of State changes and leaves alone: one lemma per update, true by rfl. -/

namespace Sys2Proof.Machine

@[simp] theorem updGlb_fields (f : Glb → Glb) (s : State) :
    (updGlb f s).regs = s.regs ∧ (updGlb f s).pp = s.pp ∧ (updGlb f s).qz = s.qz ∧ (updGlb f s).ports = s.ports ∧
    (updGlb f s).reqs = s.reqs ∧ (updGlb f s).nextId = s.nextId ∧ (updGlb f s).sched = s.sched ∧
    (updGlb f s).alert = s.alert ∧ (updGlb f s).ref = s.ref ∧ (updGlb f s).qos = s.qos ∧ (updGlb f s).phy = s.phy ∧
    (updGlb f s).ras = s.ras ∧ (updGlb f s).egp = s.egp ∧ (updGlb f s).mir = s.mir ∧ (updGlb f s).dom = s.dom ∧
    (updGlb f s).img = s.img ∧ (updGlb f s).glg = s.glg ∧ (updGlb f s).pwr = s.pwr ∧ (updGlb f s).evt = s.evt ∧
    (updGlb f s).out = s.out ∧ (updGlb f s).raised = s.raised ∧ (updGlb f s).free = s.free ∧
    (updGlb f s).pending = s.pending ∧ (updGlb f s).glb = f s.glb := by
  refine ⟨?_, ?_, ?_, ?_, ?_, ?_, ?_, ?_, ?_, ?_, ?_, ?_, ?_, ?_, ?_, ?_, ?_, ?_, ?_, ?_, ?_, ?_, ?_, ?_⟩ <;> rfl

@[simp] theorem updCh_fields (c : Ch) (f : Chan → Chan) (s : State) :
    (updCh c f s).regs = s.regs ∧ (updCh c f s).pp = s.pp ∧ (updCh c f s).qz = s.qz ∧ (updCh c f s).ports = s.ports ∧
    (updCh c f s).reqs = s.reqs ∧ (updCh c f s).nextId = s.nextId ∧ (updCh c f s).sched = s.sched ∧
    (updCh c f s).alert = s.alert ∧ (updCh c f s).ref = s.ref ∧ (updCh c f s).qos = s.qos ∧
    (updCh c f s).phy = s.phy ∧ (updCh c f s).ras = s.ras ∧ (updCh c f s).egp = s.egp ∧ (updCh c f s).mir = s.mir ∧
    (updCh c f s).dom = s.dom ∧ (updCh c f s).img = s.img ∧ (updCh c f s).glg = s.glg ∧ (updCh c f s).pwr = s.pwr ∧
    (updCh c f s).evt = s.evt ∧ (updCh c f s).out = s.out ∧ (updCh c f s).raised = s.raised ∧
    (updCh c f s).free = s.free ∧ (updCh c f s).pending = s.pending ∧
    (updCh c f s).glb = { s.glb with ch := vmod s.glb.ch c f } := by
  refine ⟨?_, ?_, ?_, ?_, ?_, ?_, ?_, ?_, ?_, ?_, ?_, ?_, ?_, ?_, ?_, ?_, ?_, ?_, ?_, ?_, ?_, ?_, ?_, ?_⟩ <;> rfl

@[simp] theorem updPort_fields (p : PortId) (f : Port → Port) (s : State) :
    (updPort p f s).glb = s.glb ∧ (updPort p f s).regs = s.regs ∧ (updPort p f s).pp = s.pp ∧
    (updPort p f s).qz = s.qz ∧ (updPort p f s).reqs = s.reqs ∧ (updPort p f s).nextId = s.nextId ∧
    (updPort p f s).sched = s.sched ∧ (updPort p f s).alert = s.alert ∧ (updPort p f s).ref = s.ref ∧
    (updPort p f s).qos = s.qos ∧ (updPort p f s).phy = s.phy ∧ (updPort p f s).ras = s.ras ∧
    (updPort p f s).egp = s.egp ∧ (updPort p f s).mir = s.mir ∧ (updPort p f s).dom = s.dom ∧
    (updPort p f s).img = s.img ∧ (updPort p f s).glg = s.glg ∧ (updPort p f s).pwr = s.pwr ∧
    (updPort p f s).evt = s.evt ∧ (updPort p f s).out = s.out ∧ (updPort p f s).raised = s.raised ∧
    (updPort p f s).free = s.free ∧ (updPort p f s).pending = s.pending ∧ (updPort p f s).ports = vmod s.ports p f := by
  refine ⟨?_, ?_, ?_, ?_, ?_, ?_, ?_, ?_, ?_, ?_, ?_, ?_, ?_, ?_, ?_, ?_, ?_, ?_, ?_, ?_, ?_, ?_, ?_, ?_⟩ <;> rfl

@[simp] theorem updSched_fields (x : Sc) (f : Sched → Sched) (s : State) :
    (updSched x f s).glb = s.glb ∧ (updSched x f s).regs = s.regs ∧ (updSched x f s).pp = s.pp ∧
    (updSched x f s).qz = s.qz ∧ (updSched x f s).ports = s.ports ∧ (updSched x f s).reqs = s.reqs ∧
    (updSched x f s).nextId = s.nextId ∧ (updSched x f s).alert = s.alert ∧ (updSched x f s).ref = s.ref ∧
    (updSched x f s).qos = s.qos ∧ (updSched x f s).phy = s.phy ∧ (updSched x f s).ras = s.ras ∧
    (updSched x f s).egp = s.egp ∧ (updSched x f s).mir = s.mir ∧ (updSched x f s).dom = s.dom ∧
    (updSched x f s).img = s.img ∧ (updSched x f s).glg = s.glg ∧ (updSched x f s).pwr = s.pwr ∧
    (updSched x f s).evt = s.evt ∧ (updSched x f s).out = s.out ∧ (updSched x f s).raised = s.raised ∧
    (updSched x f s).free = s.free ∧ (updSched x f s).pending = s.pending ∧ (updSched x f s).sched = vmod s.sched x f := by
  refine ⟨?_, ?_, ?_, ?_, ?_, ?_, ?_, ?_, ?_, ?_, ?_, ?_, ?_, ?_, ?_, ?_, ?_, ?_, ?_, ?_, ?_, ?_, ?_, ?_⟩ <;> rfl

@[simp] theorem updAlert_fields (c : Ch) (f : Alert → Alert) (s : State) :
    (updAlert c f s).glb = s.glb ∧ (updAlert c f s).regs = s.regs ∧ (updAlert c f s).pp = s.pp ∧
    (updAlert c f s).qz = s.qz ∧ (updAlert c f s).ports = s.ports ∧ (updAlert c f s).reqs = s.reqs ∧
    (updAlert c f s).nextId = s.nextId ∧ (updAlert c f s).sched = s.sched ∧ (updAlert c f s).ref = s.ref ∧
    (updAlert c f s).qos = s.qos ∧ (updAlert c f s).phy = s.phy ∧ (updAlert c f s).ras = s.ras ∧
    (updAlert c f s).egp = s.egp ∧ (updAlert c f s).mir = s.mir ∧ (updAlert c f s).dom = s.dom ∧
    (updAlert c f s).img = s.img ∧ (updAlert c f s).glg = s.glg ∧ (updAlert c f s).pwr = s.pwr ∧
    (updAlert c f s).evt = s.evt ∧ (updAlert c f s).out = s.out ∧ (updAlert c f s).raised = s.raised ∧
    (updAlert c f s).free = s.free ∧ (updAlert c f s).pending = s.pending ∧ (updAlert c f s).alert = vmod s.alert c f := by
  refine ⟨?_, ?_, ?_, ?_, ?_, ?_, ?_, ?_, ?_, ?_, ?_, ?_, ?_, ?_, ?_, ?_, ?_, ?_, ?_, ?_, ?_, ?_, ?_, ?_⟩ <;> rfl

@[simp] theorem updPhySc_fields (x : Sc) (f : PhySc → PhySc) (s : State) :
    (updPhySc x f s).glb = s.glb ∧ (updPhySc x f s).regs = s.regs ∧ (updPhySc x f s).pp = s.pp ∧
    (updPhySc x f s).qz = s.qz ∧ (updPhySc x f s).ports = s.ports ∧ (updPhySc x f s).reqs = s.reqs ∧
    (updPhySc x f s).nextId = s.nextId ∧ (updPhySc x f s).sched = s.sched ∧ (updPhySc x f s).alert = s.alert ∧
    (updPhySc x f s).ref = s.ref ∧ (updPhySc x f s).qos = s.qos ∧ (updPhySc x f s).ras = s.ras ∧
    (updPhySc x f s).egp = s.egp ∧ (updPhySc x f s).mir = s.mir ∧ (updPhySc x f s).dom = s.dom ∧
    (updPhySc x f s).img = s.img ∧ (updPhySc x f s).glg = s.glg ∧ (updPhySc x f s).pwr = s.pwr ∧
    (updPhySc x f s).evt = s.evt ∧ (updPhySc x f s).out = s.out ∧ (updPhySc x f s).raised = s.raised ∧
    (updPhySc x f s).free = s.free ∧ (updPhySc x f s).pending = s.pending ∧
    (updPhySc x f s).phy = { s.phy with sc := vmod s.phy.sc x f } := by
  refine ⟨?_, ?_, ?_, ?_, ?_, ?_, ?_, ?_, ?_, ?_, ?_, ?_, ?_, ?_, ?_, ?_, ?_, ?_, ?_, ?_, ?_, ?_, ?_, ?_⟩ <;> rfl

@[simp] theorem updRef_fields (f : Ref → Ref) (s : State) :
    (updRef f s).glb = s.glb ∧ (updRef f s).regs = s.regs ∧ (updRef f s).pp = s.pp ∧ (updRef f s).qz = s.qz ∧
    (updRef f s).ports = s.ports ∧ (updRef f s).reqs = s.reqs ∧ (updRef f s).nextId = s.nextId ∧
    (updRef f s).sched = s.sched ∧ (updRef f s).alert = s.alert ∧ (updRef f s).qos = s.qos ∧
    (updRef f s).phy = s.phy ∧ (updRef f s).ras = s.ras ∧ (updRef f s).egp = s.egp ∧ (updRef f s).mir = s.mir ∧
    (updRef f s).dom = s.dom ∧ (updRef f s).img = s.img ∧ (updRef f s).glg = s.glg ∧ (updRef f s).pwr = s.pwr ∧
    (updRef f s).evt = s.evt ∧ (updRef f s).out = s.out ∧ (updRef f s).raised = s.raised ∧
    (updRef f s).free = s.free ∧ (updRef f s).pending = s.pending ∧ (updRef f s).ref = f s.ref := by
  refine ⟨?_, ?_, ?_, ?_, ?_, ?_, ?_, ?_, ?_, ?_, ?_, ?_, ?_, ?_, ?_, ?_, ?_, ?_, ?_, ?_, ?_, ?_, ?_, ?_⟩ <;> rfl

@[simp] theorem updRas_fields (f : Ras → Ras) (s : State) :
    (updRas f s).glb = s.glb ∧ (updRas f s).regs = s.regs ∧ (updRas f s).pp = s.pp ∧ (updRas f s).qz = s.qz ∧
    (updRas f s).ports = s.ports ∧ (updRas f s).reqs = s.reqs ∧ (updRas f s).nextId = s.nextId ∧
    (updRas f s).sched = s.sched ∧ (updRas f s).alert = s.alert ∧ (updRas f s).ref = s.ref ∧
    (updRas f s).qos = s.qos ∧ (updRas f s).phy = s.phy ∧ (updRas f s).egp = s.egp ∧ (updRas f s).mir = s.mir ∧
    (updRas f s).dom = s.dom ∧ (updRas f s).img = s.img ∧ (updRas f s).glg = s.glg ∧ (updRas f s).pwr = s.pwr ∧
    (updRas f s).evt = s.evt ∧ (updRas f s).out = s.out ∧ (updRas f s).raised = s.raised ∧
    (updRas f s).free = s.free ∧ (updRas f s).pending = s.pending ∧ (updRas f s).ras = f s.ras := by
  refine ⟨?_, ?_, ?_, ?_, ?_, ?_, ?_, ?_, ?_, ?_, ?_, ?_, ?_, ?_, ?_, ?_, ?_, ?_, ?_, ?_, ?_, ?_, ?_, ?_⟩ <;> rfl

@[simp] theorem updMir_fields (f : Mir → Mir) (s : State) :
    (updMir f s).glb = s.glb ∧ (updMir f s).regs = s.regs ∧ (updMir f s).pp = s.pp ∧ (updMir f s).qz = s.qz ∧
    (updMir f s).ports = s.ports ∧ (updMir f s).reqs = s.reqs ∧ (updMir f s).nextId = s.nextId ∧
    (updMir f s).sched = s.sched ∧ (updMir f s).alert = s.alert ∧ (updMir f s).ref = s.ref ∧
    (updMir f s).qos = s.qos ∧ (updMir f s).phy = s.phy ∧ (updMir f s).ras = s.ras ∧ (updMir f s).egp = s.egp ∧
    (updMir f s).dom = s.dom ∧ (updMir f s).img = s.img ∧ (updMir f s).glg = s.glg ∧ (updMir f s).pwr = s.pwr ∧
    (updMir f s).evt = s.evt ∧ (updMir f s).out = s.out ∧ (updMir f s).raised = s.raised ∧
    (updMir f s).free = s.free ∧ (updMir f s).pending = s.pending ∧ (updMir f s).mir = f s.mir := by
  refine ⟨?_, ?_, ?_, ?_, ?_, ?_, ?_, ?_, ?_, ?_, ?_, ?_, ?_, ?_, ?_, ?_, ?_, ?_, ?_, ?_, ?_, ?_, ?_, ?_⟩ <;> rfl

@[simp] theorem updDom_fields (f : Dom → Dom) (s : State) :
    (updDom f s).glb = s.glb ∧ (updDom f s).regs = s.regs ∧ (updDom f s).pp = s.pp ∧ (updDom f s).qz = s.qz ∧
    (updDom f s).ports = s.ports ∧ (updDom f s).reqs = s.reqs ∧ (updDom f s).nextId = s.nextId ∧
    (updDom f s).sched = s.sched ∧ (updDom f s).alert = s.alert ∧ (updDom f s).ref = s.ref ∧
    (updDom f s).qos = s.qos ∧ (updDom f s).phy = s.phy ∧ (updDom f s).ras = s.ras ∧ (updDom f s).egp = s.egp ∧
    (updDom f s).mir = s.mir ∧ (updDom f s).img = s.img ∧ (updDom f s).glg = s.glg ∧ (updDom f s).pwr = s.pwr ∧
    (updDom f s).evt = s.evt ∧ (updDom f s).out = s.out ∧ (updDom f s).raised = s.raised ∧
    (updDom f s).free = s.free ∧ (updDom f s).pending = s.pending ∧ (updDom f s).dom = f s.dom := by
  refine ⟨?_, ?_, ?_, ?_, ?_, ?_, ?_, ?_, ?_, ?_, ?_, ?_, ?_, ?_, ?_, ?_, ?_, ?_, ?_, ?_, ?_, ?_, ?_, ?_⟩ <;> rfl

@[simp] theorem updImg_fields (f : Img → Img) (s : State) :
    (updImg f s).glb = s.glb ∧ (updImg f s).regs = s.regs ∧ (updImg f s).pp = s.pp ∧ (updImg f s).qz = s.qz ∧
    (updImg f s).ports = s.ports ∧ (updImg f s).reqs = s.reqs ∧ (updImg f s).nextId = s.nextId ∧
    (updImg f s).sched = s.sched ∧ (updImg f s).alert = s.alert ∧ (updImg f s).ref = s.ref ∧
    (updImg f s).qos = s.qos ∧ (updImg f s).phy = s.phy ∧ (updImg f s).ras = s.ras ∧ (updImg f s).egp = s.egp ∧
    (updImg f s).mir = s.mir ∧ (updImg f s).dom = s.dom ∧ (updImg f s).glg = s.glg ∧ (updImg f s).pwr = s.pwr ∧
    (updImg f s).evt = s.evt ∧ (updImg f s).out = s.out ∧ (updImg f s).raised = s.raised ∧
    (updImg f s).free = s.free ∧ (updImg f s).pending = s.pending ∧ (updImg f s).img = f s.img := by
  refine ⟨?_, ?_, ?_, ?_, ?_, ?_, ?_, ?_, ?_, ?_, ?_, ?_, ?_, ?_, ?_, ?_, ?_, ?_, ?_, ?_, ?_, ?_, ?_, ?_⟩ <;> rfl

@[simp] theorem updQos_fields (f : Qos → Qos) (s : State) :
    (updQos f s).glb = s.glb ∧ (updQos f s).regs = s.regs ∧ (updQos f s).pp = s.pp ∧ (updQos f s).qz = s.qz ∧
    (updQos f s).ports = s.ports ∧ (updQos f s).reqs = s.reqs ∧ (updQos f s).nextId = s.nextId ∧
    (updQos f s).sched = s.sched ∧ (updQos f s).alert = s.alert ∧ (updQos f s).ref = s.ref ∧
    (updQos f s).phy = s.phy ∧ (updQos f s).ras = s.ras ∧ (updQos f s).egp = s.egp ∧ (updQos f s).mir = s.mir ∧
    (updQos f s).dom = s.dom ∧ (updQos f s).img = s.img ∧ (updQos f s).glg = s.glg ∧ (updQos f s).pwr = s.pwr ∧
    (updQos f s).evt = s.evt ∧ (updQos f s).out = s.out ∧ (updQos f s).raised = s.raised ∧
    (updQos f s).free = s.free ∧ (updQos f s).pending = s.pending ∧ (updQos f s).qos = f s.qos := by
  refine ⟨?_, ?_, ?_, ?_, ?_, ?_, ?_, ?_, ?_, ?_, ?_, ?_, ?_, ?_, ?_, ?_, ?_, ?_, ?_, ?_, ?_, ?_, ?_, ?_⟩ <;> rfl

@[simp] theorem updPwr_fields (f : Pwr → Pwr) (s : State) :
    (updPwr f s).glb = s.glb ∧ (updPwr f s).regs = s.regs ∧ (updPwr f s).pp = s.pp ∧ (updPwr f s).qz = s.qz ∧
    (updPwr f s).ports = s.ports ∧ (updPwr f s).reqs = s.reqs ∧ (updPwr f s).nextId = s.nextId ∧
    (updPwr f s).sched = s.sched ∧ (updPwr f s).alert = s.alert ∧ (updPwr f s).ref = s.ref ∧
    (updPwr f s).qos = s.qos ∧ (updPwr f s).phy = s.phy ∧ (updPwr f s).ras = s.ras ∧ (updPwr f s).egp = s.egp ∧
    (updPwr f s).mir = s.mir ∧ (updPwr f s).dom = s.dom ∧ (updPwr f s).img = s.img ∧ (updPwr f s).glg = s.glg ∧
    (updPwr f s).evt = s.evt ∧ (updPwr f s).out = s.out ∧ (updPwr f s).raised = s.raised ∧
    (updPwr f s).free = s.free ∧ (updPwr f s).pending = s.pending ∧ (updPwr f s).pwr = f s.pwr := by
  refine ⟨?_, ?_, ?_, ?_, ?_, ?_, ?_, ?_, ?_, ?_, ?_, ?_, ?_, ?_, ?_, ?_, ?_, ?_, ?_, ?_, ?_, ?_, ?_, ?_⟩ <;> rfl

@[simp] theorem updQz_fields (f : Qz → Qz) (s : State) :
    (updQz f s).glb = s.glb ∧ (updQz f s).regs = s.regs ∧ (updQz f s).pp = s.pp ∧ (updQz f s).ports = s.ports ∧
    (updQz f s).reqs = s.reqs ∧ (updQz f s).nextId = s.nextId ∧ (updQz f s).sched = s.sched ∧
    (updQz f s).alert = s.alert ∧ (updQz f s).ref = s.ref ∧ (updQz f s).qos = s.qos ∧ (updQz f s).phy = s.phy ∧
    (updQz f s).ras = s.ras ∧ (updQz f s).egp = s.egp ∧ (updQz f s).mir = s.mir ∧ (updQz f s).dom = s.dom ∧
    (updQz f s).img = s.img ∧ (updQz f s).glg = s.glg ∧ (updQz f s).pwr = s.pwr ∧ (updQz f s).evt = s.evt ∧
    (updQz f s).out = s.out ∧ (updQz f s).raised = s.raised ∧ (updQz f s).free = s.free ∧
    (updQz f s).pending = s.pending ∧ (updQz f s).qz = f s.qz := by
  refine ⟨?_, ?_, ?_, ?_, ?_, ?_, ?_, ?_, ?_, ?_, ?_, ?_, ?_, ?_, ?_, ?_, ?_, ?_, ?_, ?_, ?_, ?_, ?_, ?_⟩ <;> rfl

@[simp] theorem updEvt_fields (f : Evt → Evt) (s : State) :
    (updEvt f s).glb = s.glb ∧ (updEvt f s).regs = s.regs ∧ (updEvt f s).pp = s.pp ∧ (updEvt f s).qz = s.qz ∧
    (updEvt f s).ports = s.ports ∧ (updEvt f s).reqs = s.reqs ∧ (updEvt f s).nextId = s.nextId ∧
    (updEvt f s).sched = s.sched ∧ (updEvt f s).alert = s.alert ∧ (updEvt f s).ref = s.ref ∧
    (updEvt f s).qos = s.qos ∧ (updEvt f s).phy = s.phy ∧ (updEvt f s).ras = s.ras ∧ (updEvt f s).egp = s.egp ∧
    (updEvt f s).mir = s.mir ∧ (updEvt f s).dom = s.dom ∧ (updEvt f s).img = s.img ∧ (updEvt f s).glg = s.glg ∧
    (updEvt f s).pwr = s.pwr ∧ (updEvt f s).out = s.out ∧ (updEvt f s).raised = s.raised ∧
    (updEvt f s).free = s.free ∧ (updEvt f s).pending = s.pending ∧ (updEvt f s).evt = f s.evt := by
  refine ⟨?_, ?_, ?_, ?_, ?_, ?_, ?_, ?_, ?_, ?_, ?_, ?_, ?_, ?_, ?_, ?_, ?_, ?_, ?_, ?_, ?_, ?_, ?_, ?_⟩ <;> rfl

@[simp] theorem updGlg_fields (f : Glg → Glg) (s : State) :
    (updGlg f s).glb = s.glb ∧ (updGlg f s).regs = s.regs ∧ (updGlg f s).pp = s.pp ∧ (updGlg f s).qz = s.qz ∧
    (updGlg f s).ports = s.ports ∧ (updGlg f s).reqs = s.reqs ∧ (updGlg f s).nextId = s.nextId ∧
    (updGlg f s).sched = s.sched ∧ (updGlg f s).alert = s.alert ∧ (updGlg f s).ref = s.ref ∧
    (updGlg f s).qos = s.qos ∧ (updGlg f s).phy = s.phy ∧ (updGlg f s).ras = s.ras ∧ (updGlg f s).egp = s.egp ∧
    (updGlg f s).mir = s.mir ∧ (updGlg f s).dom = s.dom ∧ (updGlg f s).img = s.img ∧ (updGlg f s).pwr = s.pwr ∧
    (updGlg f s).evt = s.evt ∧ (updGlg f s).out = s.out ∧ (updGlg f s).raised = s.raised ∧
    (updGlg f s).free = s.free ∧ (updGlg f s).pending = s.pending ∧ (updGlg f s).glg = f s.glg := by
  refine ⟨?_, ?_, ?_, ?_, ?_, ?_, ?_, ?_, ?_, ?_, ?_, ?_, ?_, ?_, ?_, ?_, ?_, ?_, ?_, ?_, ?_, ?_, ?_, ?_⟩ <;> rfl

@[simp] theorem updInst_fields (i : InstId) (f : Inst → Inst) (s : State) :
    (updInst i f s).glb = s.glb ∧ (updInst i f s).regs = s.regs ∧ (updInst i f s).pp = s.pp ∧
    (updInst i f s).qz = s.qz ∧ (updInst i f s).ports = s.ports ∧ (updInst i f s).reqs = s.reqs ∧
    (updInst i f s).nextId = s.nextId ∧ (updInst i f s).sched = s.sched ∧ (updInst i f s).alert = s.alert ∧
    (updInst i f s).ref = s.ref ∧ (updInst i f s).qos = s.qos ∧ (updInst i f s).phy = s.phy ∧
    (updInst i f s).ras = s.ras ∧ (updInst i f s).egp = s.egp ∧ (updInst i f s).mir = s.mir ∧
    (updInst i f s).dom = s.dom ∧ (updInst i f s).img = s.img ∧ (updInst i f s).pwr = s.pwr ∧
    (updInst i f s).evt = s.evt ∧ (updInst i f s).out = s.out ∧ (updInst i f s).raised = s.raised ∧
    (updInst i f s).free = s.free ∧ (updInst i f s).pending = s.pending ∧
    (updInst i f s).glg = { s.glg with inst := vmod s.glg.inst i f } := by
  refine ⟨?_, ?_, ?_, ?_, ?_, ?_, ?_, ?_, ?_, ?_, ?_, ?_, ?_, ?_, ?_, ?_, ?_, ?_, ?_, ?_, ?_, ?_, ?_, ?_⟩ <;> rfl

@[simp] theorem updReq_fields (id : Nat) (f : Req → Req) (s : State) :
    (updReq id f s).glb = s.glb ∧ (updReq id f s).regs = s.regs ∧ (updReq id f s).pp = s.pp ∧
    (updReq id f s).qz = s.qz ∧ (updReq id f s).ports = s.ports ∧ (updReq id f s).nextId = s.nextId ∧
    (updReq id f s).sched = s.sched ∧ (updReq id f s).alert = s.alert ∧ (updReq id f s).ref = s.ref ∧
    (updReq id f s).qos = s.qos ∧ (updReq id f s).phy = s.phy ∧ (updReq id f s).ras = s.ras ∧
    (updReq id f s).egp = s.egp ∧ (updReq id f s).mir = s.mir ∧ (updReq id f s).dom = s.dom ∧
    (updReq id f s).img = s.img ∧ (updReq id f s).glg = s.glg ∧ (updReq id f s).pwr = s.pwr ∧
    (updReq id f s).evt = s.evt ∧ (updReq id f s).out = s.out ∧ (updReq id f s).raised = s.raised ∧
    (updReq id f s).free = s.free ∧ (updReq id f s).pending = s.pending := by
  refine ⟨?_, ?_, ?_, ?_, ?_, ?_, ?_, ?_, ?_, ?_, ?_, ?_, ?_, ?_, ?_, ?_, ?_, ?_, ?_, ?_, ?_, ?_, ?_⟩ <;> rfl

@[simp] theorem regSet_fields (o : Nat) (w : Word) (s : State) :
    (regSet o w s).glb = s.glb ∧ (regSet o w s).pp = s.pp ∧ (regSet o w s).qz = s.qz ∧
    (regSet o w s).ports = s.ports ∧ (regSet o w s).reqs = s.reqs ∧ (regSet o w s).nextId = s.nextId ∧
    (regSet o w s).sched = s.sched ∧ (regSet o w s).alert = s.alert ∧ (regSet o w s).ref = s.ref ∧
    (regSet o w s).qos = s.qos ∧ (regSet o w s).phy = s.phy ∧ (regSet o w s).ras = s.ras ∧
    (regSet o w s).egp = s.egp ∧ (regSet o w s).mir = s.mir ∧ (regSet o w s).dom = s.dom ∧
    (regSet o w s).img = s.img ∧ (regSet o w s).glg = s.glg ∧ (regSet o w s).pwr = s.pwr ∧
    (regSet o w s).evt = s.evt ∧ (regSet o w s).out = s.out ∧ (regSet o w s).raised = s.raised ∧
    (regSet o w s).free = s.free ∧ (regSet o w s).pending = s.pending ∧ (regSet o w s).regs = kset s.regs o w := by
  refine ⟨?_, ?_, ?_, ?_, ?_, ?_, ?_, ?_, ?_, ?_, ?_, ?_, ?_, ?_, ?_, ?_, ?_, ?_, ?_, ?_, ?_, ?_, ?_, ?_⟩ <;> rfl

@[simp] theorem regPut_fields (o hi lo v : Nat) (s : State) :
    (regPut o hi lo v s).glb = s.glb ∧ (regPut o hi lo v s).pp = s.pp ∧ (regPut o hi lo v s).qz = s.qz ∧
    (regPut o hi lo v s).ports = s.ports ∧ (regPut o hi lo v s).reqs = s.reqs ∧
    (regPut o hi lo v s).nextId = s.nextId ∧ (regPut o hi lo v s).sched = s.sched ∧
    (regPut o hi lo v s).alert = s.alert ∧ (regPut o hi lo v s).ref = s.ref ∧ (regPut o hi lo v s).qos = s.qos ∧
    (regPut o hi lo v s).phy = s.phy ∧ (regPut o hi lo v s).ras = s.ras ∧ (regPut o hi lo v s).egp = s.egp ∧
    (regPut o hi lo v s).mir = s.mir ∧ (regPut o hi lo v s).dom = s.dom ∧ (regPut o hi lo v s).img = s.img ∧
    (regPut o hi lo v s).glg = s.glg ∧ (regPut o hi lo v s).pwr = s.pwr ∧ (regPut o hi lo v s).evt = s.evt ∧
    (regPut o hi lo v s).out = s.out ∧ (regPut o hi lo v s).raised = s.raised ∧ (regPut o hi lo v s).free = s.free ∧
    (regPut o hi lo v s).pending = s.pending := by
  refine ⟨?_, ?_, ?_, ?_, ?_, ?_, ?_, ?_, ?_, ?_, ?_, ?_, ?_, ?_, ?_, ?_, ?_, ?_, ?_, ?_, ?_, ?_, ?_⟩ <;> rfl

@[simp] theorem regSet64_fields (o v : Nat) (s : State) :
    (regSet64 o v s).glb = s.glb ∧ (regSet64 o v s).pp = s.pp ∧ (regSet64 o v s).qz = s.qz ∧
    (regSet64 o v s).ports = s.ports ∧ (regSet64 o v s).reqs = s.reqs ∧ (regSet64 o v s).nextId = s.nextId ∧
    (regSet64 o v s).sched = s.sched ∧ (regSet64 o v s).alert = s.alert ∧ (regSet64 o v s).ref = s.ref ∧
    (regSet64 o v s).qos = s.qos ∧ (regSet64 o v s).phy = s.phy ∧ (regSet64 o v s).ras = s.ras ∧
    (regSet64 o v s).egp = s.egp ∧ (regSet64 o v s).mir = s.mir ∧ (regSet64 o v s).dom = s.dom ∧
    (regSet64 o v s).img = s.img ∧ (regSet64 o v s).glg = s.glg ∧ (regSet64 o v s).pwr = s.pwr ∧
    (regSet64 o v s).evt = s.evt ∧ (regSet64 o v s).out = s.out ∧ (regSet64 o v s).raised = s.raised ∧
    (regSet64 o v s).free = s.free ∧ (regSet64 o v s).pending = s.pending := by
  refine ⟨?_, ?_, ?_, ?_, ?_, ?_, ?_, ?_, ?_, ?_, ?_, ?_, ?_, ?_, ?_, ?_, ?_, ?_, ?_, ?_, ?_, ?_, ?_⟩ <;> rfl

@[simp] theorem bumpBy_fields (n o : Nat) (s : State) :
    (bumpBy n o s).glb = s.glb ∧ (bumpBy n o s).pp = s.pp ∧ (bumpBy n o s).qz = s.qz ∧
    (bumpBy n o s).ports = s.ports ∧ (bumpBy n o s).reqs = s.reqs ∧ (bumpBy n o s).nextId = s.nextId ∧
    (bumpBy n o s).sched = s.sched ∧ (bumpBy n o s).alert = s.alert ∧ (bumpBy n o s).ref = s.ref ∧
    (bumpBy n o s).qos = s.qos ∧ (bumpBy n o s).phy = s.phy ∧ (bumpBy n o s).ras = s.ras ∧
    (bumpBy n o s).egp = s.egp ∧ (bumpBy n o s).mir = s.mir ∧ (bumpBy n o s).dom = s.dom ∧
    (bumpBy n o s).img = s.img ∧ (bumpBy n o s).glg = s.glg ∧ (bumpBy n o s).pwr = s.pwr ∧
    (bumpBy n o s).evt = s.evt ∧ (bumpBy n o s).out = s.out ∧ (bumpBy n o s).raised = s.raised ∧
    (bumpBy n o s).free = s.free ∧ (bumpBy n o s).pending = s.pending := by
  refine ⟨?_, ?_, ?_, ?_, ?_, ?_, ?_, ?_, ?_, ?_, ?_, ?_, ?_, ?_, ?_, ?_, ?_, ?_, ?_, ?_, ?_, ?_, ?_⟩ <;> rfl

@[simp] theorem bump_fields (o : Nat) (s : State) :
    (bump o s).glb = s.glb ∧ (bump o s).pp = s.pp ∧ (bump o s).qz = s.qz ∧ (bump o s).ports = s.ports ∧
    (bump o s).reqs = s.reqs ∧ (bump o s).nextId = s.nextId ∧ (bump o s).sched = s.sched ∧
    (bump o s).alert = s.alert ∧ (bump o s).ref = s.ref ∧ (bump o s).qos = s.qos ∧ (bump o s).phy = s.phy ∧
    (bump o s).ras = s.ras ∧ (bump o s).egp = s.egp ∧ (bump o s).mir = s.mir ∧ (bump o s).dom = s.dom ∧
    (bump o s).img = s.img ∧ (bump o s).glg = s.glg ∧ (bump o s).pwr = s.pwr ∧ (bump o s).evt = s.evt ∧
    (bump o s).out = s.out ∧ (bump o s).raised = s.raised ∧ (bump o s).free = s.free ∧ (bump o s).pending = s.pending := by
  refine ⟨?_, ?_, ?_, ?_, ?_, ?_, ?_, ?_, ?_, ?_, ?_, ?_, ?_, ?_, ?_, ?_, ?_, ?_, ?_, ?_, ?_, ?_, ?_⟩ <;> rfl

@[simp] theorem sqSet_fields (o : Nat) (b : Word) (s : State) :
    (sqSet o b s).glb = s.glb ∧ (sqSet o b s).pp = s.pp ∧ (sqSet o b s).qz = s.qz ∧ (sqSet o b s).ports = s.ports ∧
    (sqSet o b s).reqs = s.reqs ∧ (sqSet o b s).nextId = s.nextId ∧ (sqSet o b s).sched = s.sched ∧
    (sqSet o b s).alert = s.alert ∧ (sqSet o b s).ref = s.ref ∧ (sqSet o b s).qos = s.qos ∧
    (sqSet o b s).phy = s.phy ∧ (sqSet o b s).ras = s.ras ∧ (sqSet o b s).egp = s.egp ∧ (sqSet o b s).mir = s.mir ∧
    (sqSet o b s).dom = s.dom ∧ (sqSet o b s).img = s.img ∧ (sqSet o b s).glg = s.glg ∧ (sqSet o b s).pwr = s.pwr ∧
    (sqSet o b s).evt = s.evt ∧ (sqSet o b s).out = s.out ∧ (sqSet o b s).raised = s.raised ∧
    (sqSet o b s).free = s.free ∧ (sqSet o b s).pending = s.pending := by
  refine ⟨?_, ?_, ?_, ?_, ?_, ?_, ?_, ?_, ?_, ?_, ?_, ?_, ?_, ?_, ?_, ?_, ?_, ?_, ?_, ?_, ?_, ?_, ?_⟩ <;> rfl

@[simp] theorem emit_fields (o : Out) (s : State) :
    (emit o s).glb = s.glb ∧ (emit o s).regs = s.regs ∧ (emit o s).pp = s.pp ∧ (emit o s).qz = s.qz ∧
    (emit o s).ports = s.ports ∧ (emit o s).reqs = s.reqs ∧ (emit o s).nextId = s.nextId ∧
    (emit o s).sched = s.sched ∧ (emit o s).alert = s.alert ∧ (emit o s).ref = s.ref ∧ (emit o s).qos = s.qos ∧
    (emit o s).phy = s.phy ∧ (emit o s).ras = s.ras ∧ (emit o s).egp = s.egp ∧ (emit o s).mir = s.mir ∧
    (emit o s).dom = s.dom ∧ (emit o s).img = s.img ∧ (emit o s).glg = s.glg ∧ (emit o s).pwr = s.pwr ∧
    (emit o s).evt = s.evt ∧ (emit o s).raised = s.raised ∧ (emit o s).free = s.free ∧
    (emit o s).pending = s.pending ∧ (emit o s).out = s.out ++ [o] := by
  refine ⟨?_, ?_, ?_, ?_, ?_, ?_, ?_, ?_, ?_, ?_, ?_, ?_, ?_, ?_, ?_, ?_, ?_, ?_, ?_, ?_, ?_, ?_, ?_, ?_⟩ <;> rfl

@[simp] theorem begin_fields (s : State) :
    (begin_ s).glb = s.glb ∧ (begin_ s).regs = s.regs ∧ (begin_ s).pp = s.pp ∧ (begin_ s).qz = s.qz ∧
    (begin_ s).ports = s.ports ∧ (begin_ s).reqs = s.reqs ∧ (begin_ s).nextId = s.nextId ∧
    (begin_ s).sched = s.sched ∧ (begin_ s).alert = s.alert ∧ (begin_ s).ref = s.ref ∧ (begin_ s).qos = s.qos ∧
    (begin_ s).phy = s.phy ∧ (begin_ s).ras = s.ras ∧ (begin_ s).egp = s.egp ∧ (begin_ s).mir = s.mir ∧
    (begin_ s).dom = s.dom ∧ (begin_ s).img = s.img ∧ (begin_ s).glg = s.glg ∧ (begin_ s).pwr = s.pwr ∧
    (begin_ s).evt = s.evt ∧ (begin_ s).free = s.free ∧ (begin_ s).pending = s.pending ∧ (begin_ s).out = [] ∧
    (begin_ s).raised = 0 := by
  refine ⟨?_, ?_, ?_, ?_, ?_, ?_, ?_, ?_, ?_, ?_, ?_, ?_, ?_, ?_, ?_, ?_, ?_, ?_, ?_, ?_, ?_, ?_, ?_, ?_⟩ <;> rfl

@[simp] theorem respOk_fields (d : Word) (s : State) :
    (respOk d s).glb = s.glb ∧ (respOk d s).regs = s.regs ∧ (respOk d s).pp = s.pp ∧ (respOk d s).qz = s.qz ∧
    (respOk d s).ports = s.ports ∧ (respOk d s).reqs = s.reqs ∧ (respOk d s).nextId = s.nextId ∧
    (respOk d s).sched = s.sched ∧ (respOk d s).alert = s.alert ∧ (respOk d s).ref = s.ref ∧
    (respOk d s).qos = s.qos ∧ (respOk d s).phy = s.phy ∧ (respOk d s).ras = s.ras ∧ (respOk d s).egp = s.egp ∧
    (respOk d s).mir = s.mir ∧ (respOk d s).dom = s.dom ∧ (respOk d s).img = s.img ∧ (respOk d s).glg = s.glg ∧
    (respOk d s).pwr = s.pwr ∧ (respOk d s).evt = s.evt ∧ (respOk d s).raised = s.raised ∧
    (respOk d s).free = s.free ∧ (respOk d s).pending = s.pending := by
  refine ⟨?_, ?_, ?_, ?_, ?_, ?_, ?_, ?_, ?_, ?_, ?_, ?_, ?_, ?_, ?_, ?_, ?_, ?_, ?_, ?_, ?_, ?_, ?_⟩ <;> rfl

@[simp] theorem cycleEnds_fields (level : Bool) (s : State) :
    (cycleEnds level s).glb = s.glb ∧ (cycleEnds level s).regs = s.regs ∧ (cycleEnds level s).pp = s.pp ∧
    (cycleEnds level s).qz = s.qz ∧ (cycleEnds level s).reqs = s.reqs ∧ (cycleEnds level s).nextId = s.nextId ∧
    (cycleEnds level s).sched = s.sched ∧ (cycleEnds level s).alert = s.alert ∧ (cycleEnds level s).ref = s.ref ∧
    (cycleEnds level s).qos = s.qos ∧ (cycleEnds level s).phy = s.phy ∧ (cycleEnds level s).ras = s.ras ∧
    (cycleEnds level s).egp = s.egp ∧ (cycleEnds level s).mir = s.mir ∧ (cycleEnds level s).dom = s.dom ∧
    (cycleEnds level s).img = s.img ∧ (cycleEnds level s).glg = s.glg ∧ (cycleEnds level s).pwr = s.pwr ∧
    (cycleEnds level s).evt = s.evt ∧ (cycleEnds level s).out = s.out ∧ (cycleEnds level s).raised = s.raised ∧
    (cycleEnds level s).free = s.free ∧ (cycleEnds level s).pending = s.pending ∧
    (cycleEnds level s).ports = s.ports.map fun q => { q with held := level, seen := none } := by
  refine ⟨?_, ?_, ?_, ?_, ?_, ?_, ?_, ?_, ?_, ?_, ?_, ?_, ?_, ?_, ?_, ?_, ?_, ?_, ?_, ?_, ?_, ?_, ?_, ?_⟩ <;> rfl

@[simp] theorem nextFree_fields (s : State) :
    (nextFree s).glb = s.glb ∧ (nextFree s).regs = s.regs ∧ (nextFree s).pp = s.pp ∧ (nextFree s).qz = s.qz ∧
    (nextFree s).ports = s.ports ∧ (nextFree s).reqs = s.reqs ∧ (nextFree s).nextId = s.nextId ∧
    (nextFree s).sched = s.sched ∧ (nextFree s).alert = s.alert ∧ (nextFree s).ref = s.ref ∧
    (nextFree s).qos = s.qos ∧ (nextFree s).phy = s.phy ∧ (nextFree s).ras = s.ras ∧ (nextFree s).egp = s.egp ∧
    (nextFree s).mir = s.mir ∧ (nextFree s).dom = s.dom ∧ (nextFree s).img = s.img ∧ (nextFree s).glg = s.glg ∧
    (nextFree s).pwr = s.pwr ∧ (nextFree s).evt = s.evt ∧ (nextFree s).out = s.out ∧ (nextFree s).raised = s.raised ∧
    (nextFree s).pending = s.pending ∧ (nextFree s).free = s.free + 1 := by
  refine ⟨?_, ?_, ?_, ?_, ?_, ?_, ?_, ?_, ?_, ?_, ?_, ?_, ?_, ?_, ?_, ?_, ?_, ?_, ?_, ?_, ?_, ?_, ?_, ?_⟩ <;> rfl

@[simp] theorem egpAsk_fields (r : EgpReq) (s : State) :
    (egpAsk r s).glb = s.glb ∧ (egpAsk r s).regs = s.regs ∧ (egpAsk r s).pp = s.pp ∧ (egpAsk r s).qz = s.qz ∧
    (egpAsk r s).ports = s.ports ∧ (egpAsk r s).reqs = s.reqs ∧ (egpAsk r s).nextId = s.nextId ∧
    (egpAsk r s).sched = s.sched ∧ (egpAsk r s).alert = s.alert ∧ (egpAsk r s).ref = s.ref ∧
    (egpAsk r s).qos = s.qos ∧ (egpAsk r s).phy = s.phy ∧ (egpAsk r s).ras = s.ras ∧ (egpAsk r s).mir = s.mir ∧
    (egpAsk r s).dom = s.dom ∧ (egpAsk r s).img = s.img ∧ (egpAsk r s).glg = s.glg ∧ (egpAsk r s).pwr = s.pwr ∧
    (egpAsk r s).evt = s.evt ∧ (egpAsk r s).out = s.out ∧ (egpAsk r s).raised = s.raised ∧
    (egpAsk r s).free = s.free ∧ (egpAsk r s).pending = s.pending := by
  refine ⟨?_, ?_, ?_, ?_, ?_, ?_, ?_, ?_, ?_, ?_, ?_, ?_, ?_, ?_, ?_, ?_, ?_, ?_, ?_, ?_, ?_, ?_, ?_⟩ <;> rfl

@[simp] theorem egpAskFirst_fields (r : EgpReq) (s : State) :
    (egpAskFirst r s).glb = s.glb ∧ (egpAskFirst r s).regs = s.regs ∧ (egpAskFirst r s).pp = s.pp ∧
    (egpAskFirst r s).qz = s.qz ∧ (egpAskFirst r s).ports = s.ports ∧ (egpAskFirst r s).reqs = s.reqs ∧
    (egpAskFirst r s).nextId = s.nextId ∧ (egpAskFirst r s).sched = s.sched ∧ (egpAskFirst r s).alert = s.alert ∧
    (egpAskFirst r s).ref = s.ref ∧ (egpAskFirst r s).qos = s.qos ∧ (egpAskFirst r s).phy = s.phy ∧
    (egpAskFirst r s).ras = s.ras ∧ (egpAskFirst r s).mir = s.mir ∧ (egpAskFirst r s).dom = s.dom ∧
    (egpAskFirst r s).img = s.img ∧ (egpAskFirst r s).glg = s.glg ∧ (egpAskFirst r s).pwr = s.pwr ∧
    (egpAskFirst r s).evt = s.evt ∧ (egpAskFirst r s).out = s.out ∧ (egpAskFirst r s).raised = s.raised ∧
    (egpAskFirst r s).free = s.free ∧ (egpAskFirst r s).pending = s.pending := by
  refine ⟨?_, ?_, ?_, ?_, ?_, ?_, ?_, ?_, ?_, ?_, ?_, ?_, ?_, ?_, ?_, ?_, ?_, ?_, ?_, ?_, ?_, ?_, ?_⟩ <;> rfl

/-- Reading a word that was just stored. -/
@[simp] theorem regGet_regSet_same (s : State) (o : Nat) (w : Word) : regGet (regSet o w s) o = w := by
  simp [regGet, kfind_kset_same]

/-- Storing a word leaves every other register alone. -/
theorem regGet_regSet_other (s : State) {o p : Nat} (w : Word) (h : p ≠ o) : regGet (regSet o w s) p = regGet s p := by
  simp [regGet, kfind_kset_other _ _ h]

/-- Only the register store matters to a stored register. -/
theorem regGet_congr {s t : State} (h : t.regs = s.regs) (o : Nat) : regGet t o = regGet s o := by
  simp [regGet, h]

end Sys2Proof.Machine
end

