-- ==== Sys2Proof/Laws/Frame.lean ====
section
/-! SUPPORT. Which parts of State an operation keeps. The parts are numbered; a number hid whose bit is 1 hides
its part, and an operation keeps every part that its own number does not hide: one lemma for each operation,
named after it. -/

namespace Sys2Proof.Machine

/-- hid hides the part whose bit is p. -/
def hides (hid p : Nat) : Bool := decide (hid / p % 2 = 1)

@[simp] theorem hides_eq (hid p : Nat) : hides hid p = decide (hid / p % 2 = 1) := (rfl)

/-- A part, unless it is hidden. -/
def hide {α : Type} (b : Bool) (a : α) : Option α := if b then none else some a

@[simp] theorem hide_true {α : Type} (a : α) : hide true a = none := (rfl)
@[simp] theorem hide_inj {α : Type} (b : Bool) (x y : α) : hide b x = hide b y ↔ b = true ∨ x = y := by
  cases b <;> simp [hide]

/-- What hid leaves of a Glb: parts 0 to 24. -/
def Glb.seen (hid : Nat) (a : Glb) :=
  (hide (hides hid 0x1) a.ctl, hide (hides hid 0x2) a.haltCause, hide (hides hid 0x4) a.step,
   hide (hides hid 0x8) a.gear, hide (hides hid 0x10) a.ctlId, hide (hides hid 0x20) a.chanEn,
   hide (hides hid 0x40) a.imgBase, hide (hides hid 0x80) a.pfN, hide (hides hid 0x100) a.now,
   hide (hides hid 0x200) a.cc, hide (hides hid 0x400) a.coreRun, hide (hides hid 0x800) a.vddqOk,
   hide (hides hid 0x1000) a.pllTries, hide (hides hid 0x2000) a.ackGap, hide (hides hid 0x4000) a.fuses,
   hide (hides hid 0x8000) a.ch, hide (hides hid 0x10000) a.slot, hide (hides hid 0x20000) a.train,
   hide (hides hid 0x40000) a.init, hide (hides hid 0x80000) a.initCopy, hide (hides hid 0x100000) a.initWait,
   hide (hides hid 0x200000) a.onDemand, hide (hides hid 0x400000) a.zero, hide (hides hid 0x800000) a.served,
   hide (hides hid 0x1000000) a.restart)

/-- What hid leaves of a Qz: parts 25 to 30. -/
def Qz.seen (hid : Nat) (a : Qz) :=
  (hide (hides hid 0x2000000) a.req, hide (hides hid 0x4000000) a.hold, hide (hides hid 0x8000000) a.deep,
   hide (hides hid 0x10000000) a.ph, hide (hides hid 0x20000000) a.ack, hide (hides hid 0x40000000) a.paused)

/-- What hid leaves of a Ref: parts 31 to 43. -/
def Ref.seen (hid : Nat) (a : Ref) :=
  (hide (hides hid 0x80000000) a.units, hide (hides hid 0x100000000) a.doubled,
   hide (hides hid 0x200000000) a.mr4, hide (hides hid 0x400000000) a.groups,
   hide (hides hid 0x800000000) a.cache, hide (hides hid 0x1000000000) a.clock,
   hide (hides hid 0x2000000000) a.posted, hide (hides hid 0x4000000000) a.fetching,
   hide (hides hid 0x8000000000) a.due, hide (hides hid 0x10000000000) a.abo,
   hide (hides hid 0x20000000000) a.aboLate, hide (hides hid 0x40000000000) a.raa,
   hide (hides hid 0x80000000000) a.rcHeld)

/-- What hid leaves of a Qos: parts 44 to 56. -/
def Qos.seen (hid : Nat) (a : Qos) :=
  (hide (hides hid 0x100000000000) a.parts, hide (hides hid 0x200000000000) a.vt,
   hide (hides hid 0x400000000000) a.tb, hide (hides hid 0x800000000000) a.wheel,
   hide (hides hid 0x1000000000000) a.tick, hide (hides hid 0x2000000000000) a.staging,
   hide (hides hid 0x4000000000000) a.pendingQpt, hide (hides hid 0x8000000000000) a.pendingMore,
   hide (hides hid 0x10000000000000) a.panic, hide (hides hid 0x20000000000000) a.urgent,
   hide (hides hid 0x40000000000000) a.peakRtp, hide (hides hid 0x80000000000000) a.lastCrdRd,
   hide (hides hid 0x100000000000000) a.lastCrdWr)

/-- What hid leaves of a Phy: parts 57 to 66. -/
def Phy.seen (hid : Nat) (a : Phy) :=
  (hide (hides hid 0x200000000000000) a.sc, hide (hides hid 0x400000000000000) a.lifeline,
   hide (hides hid 0x800000000000000) a.llChanged, hide (hides hid 0x1000000000000000) a.llBuf,
   hide (hides hid 0x2000000000000000) a.boot, hide (hides hid 0x4000000000000000) a.gearWait,
   hide (hides hid 0x8000000000000000) a.gearPending, hide (hides hid 0x10000000000000000) a.gearTo,
   hide (hides hid 0x20000000000000000) a.shadow, hide (hides hid 0x40000000000000000) a.policyRun)

/-- What hid leaves of a Ras: parts 67 to 76. -/
def Ras.seen (hid : Nat) (a : Ras) :=
  (hide (hides hid 0x80000000000000000) a.units, hide (hides hid 0x100000000000000000) a.log,
   hide (hides hid 0x200000000000000000) a.scrub, hide (hides hid 0x400000000000000000) a.ppr,
   hide (hides hid 0x800000000000000000) a.pprWait, hide (hides hid 0x1000000000000000000) a.rpl,
   hide (hides hid 0x2000000000000000000) a.spare, hide (hides hid 0x4000000000000000000) a.dbg,
   hide (hides hid 0x8000000000000000000) a.fetch, hide (hides hid 0x10000000000000000000) a.reached)

/-- What hid leaves of a Egp: parts 77 to 79. -/
def Egp.seen (hid : Nat) (a : Egp) :=
  (hide (hides hid 0x20000000000000000000) a.waiting, hide (hides hid 0x40000000000000000000) a.slots,
   hide (hides hid 0x80000000000000000000) a.peak)

/-- What hid leaves of a Mir: parts 80 to 103. -/
def Mir.seen (hid : Nat) (a : Mir) :=
  (hide (hides hid 0x100000000000000000000) a.primary, hide (hides hid 0x200000000000000000000) a.pair,
   hide (hides hid 0x400000000000000000000) a.cause, hide (hides hid 0x800000000000000000000) a.hold5,
   hide (hides hid 0x1000000000000000000000) a.hold6, hide (hides hid 0x2000000000000000000000) a.epoch,
   hide (hides hid 0x4000000000000000000000) a.peerEpoch, hide (hides hid 0x8000000000000000000000) a.proto,
   hide (hides hid 0x10000000000000000000000) a.alive, hide (hides hid 0x20000000000000000000000) a.missedBeats,
   hide (hides hid 0x40000000000000000000000) a.exchange, hide (hides hid 0x80000000000000000000000) a.retained,
   hide (hides hid 0x100000000000000000000000) a.degradedAt,
   hide (hides hid 0x200000000000000000000000) a.joinLate, hide (hides hid 0x400000000000000000000000) a.dirty,
   hide (hides hid 0x800000000000000000000000) a.dirtyCopy,
   hide (hides hid 0x1000000000000000000000000) a.recordMsgs, hide (hides hid 0x2000000000000000000000000) a.walk,
   hide (hides hid 0x4000000000000000000000000) a.walkOk, hide (hides hid 0x8000000000000000000000000) a.role,
   hide (hides hid 0x10000000000000000000000000) a.unconf, hide (hides hid 0x20000000000000000000000000) a.record,
   hide (hides hid 0x40000000000000000000000000) a.ctlBusy, hide (hides hid 0x80000000000000000000000000) a.locks)

/-- What hid leaves of a Dom: parts 104 to 113. -/
def Dom.seen (hid : Nat) (a : Dom) :=
  (hide (hides hid 0x100000000000000000000000000) a.inbox,
   hide (hides hid 0x200000000000000000000000000) a.seqOut,
   hide (hides hid 0x400000000000000000000000000) a.round, hide (hides hid 0x800000000000000000000000000) a.res,
   hide (hides hid 0x1000000000000000000000000000) a.snap,
   hide (hides hid 0x2000000000000000000000000000) a.snapHeld,
   hide (hides hid 0x4000000000000000000000000000) a.startedAt,
   hide (hides hid 0x8000000000000000000000000000) a.lowInitAt,
   hide (hides hid 0x10000000000000000000000000000) a.told, hide (hides hid 0x20000000000000000000000000000) a.out)

/-- What hid leaves of a Img: parts 114 to 123. -/
def Img.seen (hid : Nat) (a : Img) :=
  (hide (hides hid 0x40000000000000000000000000000) a.words,
   hide (hides hid 0x80000000000000000000000000000) a.staging,
   hide (hides hid 0x100000000000000000000000000000) a.fetch,
   hide (hides hid 0x200000000000000000000000000000) a.applied,
   hide (hides hid 0x400000000000000000000000000000) a.rl,
   hide (hides hid 0x800000000000000000000000000000) a.bcastId,
   hide (hides hid 0x1000000000000000000000000000000) a.bcastBack,
   hide (hides hid 0x2000000000000000000000000000000) a.bcastTo,
   hide (hides hid 0x4000000000000000000000000000000) a.bcastPh,
   hide (hides hid 0x8000000000000000000000000000000) a.appliedBy)

/-- What hid leaves of a Glg: parts 124 to 130. -/
def Glg.seen (hid : Nat) (a : Glg) :=
  (hide (hides hid 0x10000000000000000000000000000000) a.inst,
   hide (hides hid 0x20000000000000000000000000000000) a.window,
   hide (hides hid 0x40000000000000000000000000000000) a.activeSet,
   hide (hides hid 0x80000000000000000000000000000000) a.swapPending,
   hide (hides hid 0x100000000000000000000000000000000) a.mboxBusy,
   hide (hides hid 0x200000000000000000000000000000000) a.wide,
   hide (hides hid 0x400000000000000000000000000000000) a.turn)

/-- What hid leaves of a Pwr: parts 131 to 140. -/
def Pwr.seen (hid : Nat) (a : Pwr) :=
  (hide (hides hid 0x800000000000000000000000000000000) a.sc,
   hide (hides hid 0x1000000000000000000000000000000000) a.due,
   hide (hides hid 0x2000000000000000000000000000000000) a.waking,
   hide (hides hid 0x4000000000000000000000000000000000) a.deferred,
   hide (hides hid 0x8000000000000000000000000000000000) a.integ,
   hide (hides hid 0x10000000000000000000000000000000000) a.u,
   hide (hides hid 0x20000000000000000000000000000000000) a.critical,
   hide (hides hid 0x40000000000000000000000000000000000) a.tMax,
   hide (hides hid 0x80000000000000000000000000000000000) a.dormantAt,
   hide (hides hid 0x100000000000000000000000000000000000) a.bo)

/-- What hid leaves of a Evt: parts 141 to 146. -/
def Evt.seen (hid : Nat) (a : Evt) :=
  (hide (hides hid 0x200000000000000000000000000000000000) a.buf,
   hide (hides hid 0x400000000000000000000000000000000000) a.chain,
   hide (hides hid 0x800000000000000000000000000000000000) a.pend,
   hide (hides hid 0x1000000000000000000000000000000000000) a.nextSeq,
   hide (hides hid 0x2000000000000000000000000000000000000) a.lim,
   hide (hides hid 0x4000000000000000000000000000000000000) a.expiries)

/-- What hid leaves of the registers: group k is part 147 + k. -/
def regsSeen (hid : Nat) (m : KMap Word) : KMap Word := m.filter fun e => !hides hid (2 ^ (147 + regGroup e.1))

/-- What hid leaves of State. -/
def State.seen (hid : Nat) (s : State) :=
  (s.glb.seen hid, s.qz.seen hid, s.ref.seen hid, s.qos.seen hid, s.phy.seen hid, s.ras.seen hid, s.egp.seen hid,
   s.mir.seen hid, s.dom.seen hid, s.img.seen hid, s.glg.seen hid, s.pwr.seen hid, s.evt.seen hid,
   regsSeen hid s.regs, hide (hides hid 0x800000000000000000000000000000000000000000) s.pp,
   hide (hides hid 0x1000000000000000000000000000000000000000000) s.ports,
   hide (hides hid 0x2000000000000000000000000000000000000000000) s.reqs,
   hide (hides hid 0x4000000000000000000000000000000000000000000) s.nextId,
   hide (hides hid 0x8000000000000000000000000000000000000000000) s.sched,
   hide (hides hid 0x10000000000000000000000000000000000000000000) s.alert,
   hide (hides hid 0x20000000000000000000000000000000000000000000) s.out,
   hide (hides hid 0x40000000000000000000000000000000000000000000) s.raised,
   hide (hides hid 0x80000000000000000000000000000000000000000000) s.free,
   hide (hides hid 0x100000000000000000000000000000000000000000000) s.pending)

theorem sub_hides {m hid : Nat} (k : Nat) (h : m &&& hid = m) : hides m (2 ^ k) = true → hides hid (2 ^ k) = true := by
  have e : ∀ n, hides n (2 ^ k) = n.testBit k := fun n => by rw [Nat.testBit_eq_decide_div_mod_eq]; rfl
  rw [e, e]
  intro hm
  rw [← h, Nat.testBit_and] at hm
  simp_all

theorem sub_trans {a m hid : Nat} (h : a &&& m = a) (h' : m &&& hid = m) : a &&& hid = a := by
  rw [← h, Nat.land_assoc, h']

theorem Glb.seen_mono {m hid : Nat} {a b : Glb} (h : m &&& hid = m) (e : a.seen m = b.seen m) : a.seen hid = b.seen hid := by
  simp only [Glb.seen, Prod.mk.injEq, hide_inj] at e ⊢
  obtain ⟨e0, e1, e2, e3, e4, e5, e6, e7, e8, e9, e10, e11, e12, e13, e14, e15, e16, e17, e18, e19, e20, e21, e22, e23,
    e24⟩ := e
  exact ⟨e0.imp_left (sub_hides 0 h), e1.imp_left (sub_hides 1 h), e2.imp_left (sub_hides 2 h),
    e3.imp_left (sub_hides 3 h), e4.imp_left (sub_hides 4 h), e5.imp_left (sub_hides 5 h),
    e6.imp_left (sub_hides 6 h), e7.imp_left (sub_hides 7 h), e8.imp_left (sub_hides 8 h),
    e9.imp_left (sub_hides 9 h), e10.imp_left (sub_hides 10 h), e11.imp_left (sub_hides 11 h),
    e12.imp_left (sub_hides 12 h), e13.imp_left (sub_hides 13 h), e14.imp_left (sub_hides 14 h),
    e15.imp_left (sub_hides 15 h), e16.imp_left (sub_hides 16 h), e17.imp_left (sub_hides 17 h),
    e18.imp_left (sub_hides 18 h), e19.imp_left (sub_hides 19 h), e20.imp_left (sub_hides 20 h),
    e21.imp_left (sub_hides 21 h), e22.imp_left (sub_hides 22 h), e23.imp_left (sub_hides 23 h),
    e24.imp_left (sub_hides 24 h)⟩

theorem Qz.seen_mono {m hid : Nat} {a b : Qz} (h : m &&& hid = m) (e : a.seen m = b.seen m) : a.seen hid = b.seen hid := by
  simp only [Qz.seen, Prod.mk.injEq, hide_inj] at e ⊢
  obtain ⟨e0, e1, e2, e3, e4, e5⟩ := e
  exact ⟨e0.imp_left (sub_hides 25 h), e1.imp_left (sub_hides 26 h), e2.imp_left (sub_hides 27 h),
    e3.imp_left (sub_hides 28 h), e4.imp_left (sub_hides 29 h), e5.imp_left (sub_hides 30 h)⟩

theorem Ref.seen_mono {m hid : Nat} {a b : Ref} (h : m &&& hid = m) (e : a.seen m = b.seen m) : a.seen hid = b.seen hid := by
  simp only [Ref.seen, Prod.mk.injEq, hide_inj] at e ⊢
  obtain ⟨e0, e1, e2, e3, e4, e5, e6, e7, e8, e9, e10, e11, e12⟩ := e
  exact ⟨e0.imp_left (sub_hides 31 h), e1.imp_left (sub_hides 32 h), e2.imp_left (sub_hides 33 h),
    e3.imp_left (sub_hides 34 h), e4.imp_left (sub_hides 35 h), e5.imp_left (sub_hides 36 h),
    e6.imp_left (sub_hides 37 h), e7.imp_left (sub_hides 38 h), e8.imp_left (sub_hides 39 h),
    e9.imp_left (sub_hides 40 h), e10.imp_left (sub_hides 41 h), e11.imp_left (sub_hides 42 h),
    e12.imp_left (sub_hides 43 h)⟩

theorem Qos.seen_mono {m hid : Nat} {a b : Qos} (h : m &&& hid = m) (e : a.seen m = b.seen m) : a.seen hid = b.seen hid := by
  simp only [Qos.seen, Prod.mk.injEq, hide_inj] at e ⊢
  obtain ⟨e0, e1, e2, e3, e4, e5, e6, e7, e8, e9, e10, e11, e12⟩ := e
  exact ⟨e0.imp_left (sub_hides 44 h), e1.imp_left (sub_hides 45 h), e2.imp_left (sub_hides 46 h),
    e3.imp_left (sub_hides 47 h), e4.imp_left (sub_hides 48 h), e5.imp_left (sub_hides 49 h),
    e6.imp_left (sub_hides 50 h), e7.imp_left (sub_hides 51 h), e8.imp_left (sub_hides 52 h),
    e9.imp_left (sub_hides 53 h), e10.imp_left (sub_hides 54 h), e11.imp_left (sub_hides 55 h),
    e12.imp_left (sub_hides 56 h)⟩

theorem Phy.seen_mono {m hid : Nat} {a b : Phy} (h : m &&& hid = m) (e : a.seen m = b.seen m) : a.seen hid = b.seen hid := by
  simp only [Phy.seen, Prod.mk.injEq, hide_inj] at e ⊢
  obtain ⟨e0, e1, e2, e3, e4, e5, e6, e7, e8, e9⟩ := e
  exact ⟨e0.imp_left (sub_hides 57 h), e1.imp_left (sub_hides 58 h), e2.imp_left (sub_hides 59 h),
    e3.imp_left (sub_hides 60 h), e4.imp_left (sub_hides 61 h), e5.imp_left (sub_hides 62 h),
    e6.imp_left (sub_hides 63 h), e7.imp_left (sub_hides 64 h), e8.imp_left (sub_hides 65 h),
    e9.imp_left (sub_hides 66 h)⟩

theorem Ras.seen_mono {m hid : Nat} {a b : Ras} (h : m &&& hid = m) (e : a.seen m = b.seen m) : a.seen hid = b.seen hid := by
  simp only [Ras.seen, Prod.mk.injEq, hide_inj] at e ⊢
  obtain ⟨e0, e1, e2, e3, e4, e5, e6, e7, e8, e9⟩ := e
  exact ⟨e0.imp_left (sub_hides 67 h), e1.imp_left (sub_hides 68 h), e2.imp_left (sub_hides 69 h),
    e3.imp_left (sub_hides 70 h), e4.imp_left (sub_hides 71 h), e5.imp_left (sub_hides 72 h),
    e6.imp_left (sub_hides 73 h), e7.imp_left (sub_hides 74 h), e8.imp_left (sub_hides 75 h),
    e9.imp_left (sub_hides 76 h)⟩

theorem Egp.seen_mono {m hid : Nat} {a b : Egp} (h : m &&& hid = m) (e : a.seen m = b.seen m) : a.seen hid = b.seen hid := by
  simp only [Egp.seen, Prod.mk.injEq, hide_inj] at e ⊢
  obtain ⟨e0, e1, e2⟩ := e
  exact ⟨e0.imp_left (sub_hides 77 h), e1.imp_left (sub_hides 78 h), e2.imp_left (sub_hides 79 h)⟩

theorem Mir.seen_mono {m hid : Nat} {a b : Mir} (h : m &&& hid = m) (e : a.seen m = b.seen m) : a.seen hid = b.seen hid := by
  simp only [Mir.seen, Prod.mk.injEq, hide_inj] at e ⊢
  obtain ⟨e0, e1, e2, e3, e4, e5, e6, e7, e8, e9, e10, e11, e12, e13, e14, e15, e16, e17, e18, e19, e20, e21, e22, e23⟩ := e
  exact ⟨e0.imp_left (sub_hides 80 h), e1.imp_left (sub_hides 81 h), e2.imp_left (sub_hides 82 h),
    e3.imp_left (sub_hides 83 h), e4.imp_left (sub_hides 84 h), e5.imp_left (sub_hides 85 h),
    e6.imp_left (sub_hides 86 h), e7.imp_left (sub_hides 87 h), e8.imp_left (sub_hides 88 h),
    e9.imp_left (sub_hides 89 h), e10.imp_left (sub_hides 90 h), e11.imp_left (sub_hides 91 h),
    e12.imp_left (sub_hides 92 h), e13.imp_left (sub_hides 93 h), e14.imp_left (sub_hides 94 h),
    e15.imp_left (sub_hides 95 h), e16.imp_left (sub_hides 96 h), e17.imp_left (sub_hides 97 h),
    e18.imp_left (sub_hides 98 h), e19.imp_left (sub_hides 99 h), e20.imp_left (sub_hides 100 h),
    e21.imp_left (sub_hides 101 h), e22.imp_left (sub_hides 102 h), e23.imp_left (sub_hides 103 h)⟩

theorem Dom.seen_mono {m hid : Nat} {a b : Dom} (h : m &&& hid = m) (e : a.seen m = b.seen m) : a.seen hid = b.seen hid := by
  simp only [Dom.seen, Prod.mk.injEq, hide_inj] at e ⊢
  obtain ⟨e0, e1, e2, e3, e4, e5, e6, e7, e8, e9⟩ := e
  exact ⟨e0.imp_left (sub_hides 104 h), e1.imp_left (sub_hides 105 h), e2.imp_left (sub_hides 106 h),
    e3.imp_left (sub_hides 107 h), e4.imp_left (sub_hides 108 h), e5.imp_left (sub_hides 109 h),
    e6.imp_left (sub_hides 110 h), e7.imp_left (sub_hides 111 h), e8.imp_left (sub_hides 112 h),
    e9.imp_left (sub_hides 113 h)⟩

theorem Img.seen_mono {m hid : Nat} {a b : Img} (h : m &&& hid = m) (e : a.seen m = b.seen m) : a.seen hid = b.seen hid := by
  simp only [Img.seen, Prod.mk.injEq, hide_inj] at e ⊢
  obtain ⟨e0, e1, e2, e3, e4, e5, e6, e7, e8, e9⟩ := e
  exact ⟨e0.imp_left (sub_hides 114 h), e1.imp_left (sub_hides 115 h), e2.imp_left (sub_hides 116 h),
    e3.imp_left (sub_hides 117 h), e4.imp_left (sub_hides 118 h), e5.imp_left (sub_hides 119 h),
    e6.imp_left (sub_hides 120 h), e7.imp_left (sub_hides 121 h), e8.imp_left (sub_hides 122 h),
    e9.imp_left (sub_hides 123 h)⟩

theorem Glg.seen_mono {m hid : Nat} {a b : Glg} (h : m &&& hid = m) (e : a.seen m = b.seen m) : a.seen hid = b.seen hid := by
  simp only [Glg.seen, Prod.mk.injEq, hide_inj] at e ⊢
  obtain ⟨e0, e1, e2, e3, e4, e5, e6⟩ := e
  exact ⟨e0.imp_left (sub_hides 124 h), e1.imp_left (sub_hides 125 h), e2.imp_left (sub_hides 126 h),
    e3.imp_left (sub_hides 127 h), e4.imp_left (sub_hides 128 h), e5.imp_left (sub_hides 129 h),
    e6.imp_left (sub_hides 130 h)⟩

theorem Pwr.seen_mono {m hid : Nat} {a b : Pwr} (h : m &&& hid = m) (e : a.seen m = b.seen m) : a.seen hid = b.seen hid := by
  simp only [Pwr.seen, Prod.mk.injEq, hide_inj] at e ⊢
  obtain ⟨e0, e1, e2, e3, e4, e5, e6, e7, e8, e9⟩ := e
  exact ⟨e0.imp_left (sub_hides 131 h), e1.imp_left (sub_hides 132 h), e2.imp_left (sub_hides 133 h),
    e3.imp_left (sub_hides 134 h), e4.imp_left (sub_hides 135 h), e5.imp_left (sub_hides 136 h),
    e6.imp_left (sub_hides 137 h), e7.imp_left (sub_hides 138 h), e8.imp_left (sub_hides 139 h),
    e9.imp_left (sub_hides 140 h)⟩

theorem Evt.seen_mono {m hid : Nat} {a b : Evt} (h : m &&& hid = m) (e : a.seen m = b.seen m) : a.seen hid = b.seen hid := by
  simp only [Evt.seen, Prod.mk.injEq, hide_inj] at e ⊢
  obtain ⟨e0, e1, e2, e3, e4, e5⟩ := e
  exact ⟨e0.imp_left (sub_hides 141 h), e1.imp_left (sub_hides 142 h), e2.imp_left (sub_hides 143 h),
    e3.imp_left (sub_hides 144 h), e4.imp_left (sub_hides 145 h), e5.imp_left (sub_hides 146 h)⟩

theorem regsSeen_mono {m hid : Nat} {a b : KMap Word} (h : m &&& hid = m) (e : regsSeen m a = regsSeen m b) :
    regsSeen hid a = regsSeen hid b := by
  have key : ∀ x, regsSeen hid x = (regsSeen m x).filter fun e => !hides hid (2 ^ (147 + regGroup e.1)) := by
    intro x
    unfold regsSeen
    rw [List.filter_filter]
    congr 1
    funext e
    by_cases hm : hides m (2 ^ (147 + regGroup e.1)) = true
    · have hh := sub_hides _ h hm
      rw [hm, hh]; rfl
    · rw [Bool.not_eq_true] at hm
      rw [hm]; simp
  rw [key, key, e]

theorem ite_lt {c : Prop} [Decidable c] {a b n : Nat} (ha : a < n) (hb : b < n) : (if c then a else b) < n := by
  split <;> assumption

theorem regGroup_lt (off : Nat) : regGroup off < 20 := by
  have hb : blockOf off < 20 := by
    unfold blockOf
    repeat' first | apply ite_lt | decide
  unfold regGroup
  repeat' first | exact hb | decide | split

/-- Every group is hidden where all groups are. -/
theorem regs_all_hidden {hid : Nat} (hw : 0x7ffff8000000000000000000000000000000000000 &&& hid = 0x7ffff8000000000000000000000000000000000000) (off : Nat) :
    hid / 2 ^ (147 + regGroup off) % 2 = 1 := by
  have hm : ∀ k < 20, hides 0x7ffff8000000000000000000000000000000000000 (2 ^ (147 + k)) = true := by decide
  simpa using sub_hides _ hw (hm _ (regGroup_lt off))

/-- Writing a hidden register is not seen. -/
theorem regsSeen_kset {hid : Nat} (m : KMap Word) (off : Nat) (w : Word) (h : hides hid (2 ^ (147 + regGroup off)) = true) :
    regsSeen hid (kset m off w) = regsSeen hid m := by
  unfold regsSeen
  induction m with
  | nil => rw [kset, List.filter_cons, List.filter_nil]; simp only [h]; rfl
  | cons e m ih =>
    obtain ⟨k, v⟩ := e
    rw [kset]
    split
    · rw [List.filter_cons]; simp only [h]; rfl
    · split
      · rename_i h1 h2
        subst h2
        rw [List.filter_cons, List.filter_cons]; simp only [h]; rfl
      · rw [List.filter_cons, List.filter_cons, ih]

/-- A register of a group that is not hidden reads the same. -/
theorem regGet_of_regsSeen {hid : Nat} {s t : State} (e : regsSeen hid t.regs = regsSeen hid s.regs) (off : Nat)
    (h : hides hid (2 ^ (147 + regGroup off)) = false) : regGet t off = regGet s off := by
  have key : ∀ m : KMap Word, kfind (regsSeen hid m) off = kfind m off := by
    intro m
    unfold regsSeen
    induction m with
    | nil => rfl
    | cons e m ih =>
      obtain ⟨k, v⟩ := e
      rw [List.filter_cons]
      split
      · simp only [kfind]; rw [ih]
      · rename_i hk
        have hne : k ≠ off := by
          intro hko; subst hko; simp only [h] at hk; exact hk rfl
        rw [ih]; simp only [kfind]; rw [if_neg hne]
  unfold regGet
  rw [← key t.regs, ← key s.regs, e]

/-- What is kept where less is hidden is kept where more is. -/
theorem seen_mono {m hid : Nat} {s t : State} (h : m &&& hid = m) (e : t.seen m = s.seen m) : t.seen hid = s.seen hid := by
  simp only [State.seen, Prod.mk.injEq, hide_inj] at e ⊢
  obtain ⟨e0, e1, e2, e3, e4, e5, e6, e7, e8, e9, e10, e11, e12, e13, e14, e15, e16, e17, e18, e19, e20, e21, e22, e23⟩ := e
  exact ⟨Glb.seen_mono h e0, Qz.seen_mono h e1, Ref.seen_mono h e2, Qos.seen_mono h e3, Phy.seen_mono h e4,
    Ras.seen_mono h e5, Egp.seen_mono h e6, Mir.seen_mono h e7, Dom.seen_mono h e8, Img.seen_mono h e9,
    Glg.seen_mono h e10, Pwr.seen_mono h e11, Evt.seen_mono h e12, regsSeen_mono h e13,
    e14.imp_left (sub_hides 167 h), e15.imp_left (sub_hides 168 h), e16.imp_left (sub_hides 169 h),
    e17.imp_left (sub_hides 170 h), e18.imp_left (sub_hides 171 h), e19.imp_left (sub_hides 172 h),
    e20.imp_left (sub_hides 173 h), e21.imp_left (sub_hides 174 h), e22.imp_left (sub_hides 175 h),
    e23.imp_left (sub_hides 176 h)⟩

@[simp] theorem mk_glb_keeps {hid : Nat} (s : State) (x : Glb) (h : x.seen hid = s.glb.seen hid) :
    (State.mk x s.regs s.pp s.qz s.ports s.reqs s.nextId s.sched s.alert s.ref s.qos s.phy s.ras s.egp s.mir s.dom s.img s.glg s.pwr s.evt s.out s.raised s.free s.pending).seen hid =
    s.seen hid := by
  simp [State.seen, h]

@[simp] theorem mk_regs_keeps {hid : Nat} (s : State) (x : KMap Word) (h : regsSeen hid x = regsSeen hid s.regs) :
    (State.mk s.glb x s.pp s.qz s.ports s.reqs s.nextId s.sched s.alert s.ref s.qos s.phy s.ras s.egp s.mir s.dom s.img s.glg s.pwr s.evt s.out s.raised s.free s.pending).seen hid =
    s.seen hid := by
  simp [State.seen, h]

@[simp] theorem mk_pp_keeps {hid : Nat} (hw : hides hid 0x800000000000000000000000000000000000000000 = true) (s : State) (x : Option PpPend) :
    (State.mk s.glb s.regs x s.qz s.ports s.reqs s.nextId s.sched s.alert s.ref s.qos s.phy s.ras s.egp s.mir s.dom s.img s.glg s.pwr s.evt s.out s.raised s.free s.pending).seen hid =
    s.seen hid := by
  simp only [hides_eq] at hw; simp [State.seen, hw]

@[simp] theorem mk_qz_keeps {hid : Nat} (s : State) (x : Qz) (h : x.seen hid = s.qz.seen hid) :
    (State.mk s.glb s.regs s.pp x s.ports s.reqs s.nextId s.sched s.alert s.ref s.qos s.phy s.ras s.egp s.mir s.dom s.img s.glg s.pwr s.evt s.out s.raised s.free s.pending).seen hid =
    s.seen hid := by
  simp [State.seen, h]

@[simp] theorem mk_ports_keeps {hid : Nat} (hw : hides hid 0x1000000000000000000000000000000000000000000 = true) (s : State) (x : Vector Port 5) :
    (State.mk s.glb s.regs s.pp s.qz x s.reqs s.nextId s.sched s.alert s.ref s.qos s.phy s.ras s.egp s.mir s.dom s.img s.glg s.pwr s.evt s.out s.raised s.free s.pending).seen hid =
    s.seen hid := by
  simp only [hides_eq] at hw; simp [State.seen, hw]

@[simp] theorem mk_reqs_keeps {hid : Nat} (hw : hides hid 0x2000000000000000000000000000000000000000000 = true) (s : State) (x : List Req) :
    (State.mk s.glb s.regs s.pp s.qz s.ports x s.nextId s.sched s.alert s.ref s.qos s.phy s.ras s.egp s.mir s.dom s.img s.glg s.pwr s.evt s.out s.raised s.free s.pending).seen hid =
    s.seen hid := by
  simp only [hides_eq] at hw; simp [State.seen, hw]

@[simp] theorem mk_nextId_keeps {hid : Nat} (hw : hides hid 0x4000000000000000000000000000000000000000000 = true) (s : State) (x : Nat) :
    (State.mk s.glb s.regs s.pp s.qz s.ports s.reqs x s.sched s.alert s.ref s.qos s.phy s.ras s.egp s.mir s.dom s.img s.glg s.pwr s.evt s.out s.raised s.free s.pending).seen hid =
    s.seen hid := by
  simp only [hides_eq] at hw; simp [State.seen, hw]

@[simp] theorem mk_sched_keeps {hid : Nat} (hw : hides hid 0x8000000000000000000000000000000000000000000 = true) (s : State) (x : Vector Sched 4) :
    (State.mk s.glb s.regs s.pp s.qz s.ports s.reqs s.nextId x s.alert s.ref s.qos s.phy s.ras s.egp s.mir s.dom s.img s.glg s.pwr s.evt s.out s.raised s.free s.pending).seen hid =
    s.seen hid := by
  simp only [hides_eq] at hw; simp [State.seen, hw]

@[simp] theorem mk_alert_keeps {hid : Nat} (hw : hides hid 0x10000000000000000000000000000000000000000000 = true) (s : State) (x : Vector Alert 2) :
    (State.mk s.glb s.regs s.pp s.qz s.ports s.reqs s.nextId s.sched x s.ref s.qos s.phy s.ras s.egp s.mir s.dom s.img s.glg s.pwr s.evt s.out s.raised s.free s.pending).seen hid =
    s.seen hid := by
  simp only [hides_eq] at hw; simp [State.seen, hw]

@[simp] theorem mk_ref_keeps {hid : Nat} (s : State) (x : Ref) (h : x.seen hid = s.ref.seen hid) :
    (State.mk s.glb s.regs s.pp s.qz s.ports s.reqs s.nextId s.sched s.alert x s.qos s.phy s.ras s.egp s.mir s.dom s.img s.glg s.pwr s.evt s.out s.raised s.free s.pending).seen hid =
    s.seen hid := by
  simp [State.seen, h]

@[simp] theorem mk_qos_keeps {hid : Nat} (s : State) (x : Qos) (h : x.seen hid = s.qos.seen hid) :
    (State.mk s.glb s.regs s.pp s.qz s.ports s.reqs s.nextId s.sched s.alert s.ref x s.phy s.ras s.egp s.mir s.dom s.img s.glg s.pwr s.evt s.out s.raised s.free s.pending).seen hid =
    s.seen hid := by
  simp [State.seen, h]

@[simp] theorem mk_phy_keeps {hid : Nat} (s : State) (x : Phy) (h : x.seen hid = s.phy.seen hid) :
    (State.mk s.glb s.regs s.pp s.qz s.ports s.reqs s.nextId s.sched s.alert s.ref s.qos x s.ras s.egp s.mir s.dom s.img s.glg s.pwr s.evt s.out s.raised s.free s.pending).seen hid =
    s.seen hid := by
  simp [State.seen, h]

@[simp] theorem mk_ras_keeps {hid : Nat} (s : State) (x : Ras) (h : x.seen hid = s.ras.seen hid) :
    (State.mk s.glb s.regs s.pp s.qz s.ports s.reqs s.nextId s.sched s.alert s.ref s.qos s.phy x s.egp s.mir s.dom s.img s.glg s.pwr s.evt s.out s.raised s.free s.pending).seen hid =
    s.seen hid := by
  simp [State.seen, h]

@[simp] theorem mk_egp_keeps {hid : Nat} (s : State) (x : Egp) (h : x.seen hid = s.egp.seen hid) :
    (State.mk s.glb s.regs s.pp s.qz s.ports s.reqs s.nextId s.sched s.alert s.ref s.qos s.phy s.ras x s.mir s.dom s.img s.glg s.pwr s.evt s.out s.raised s.free s.pending).seen hid =
    s.seen hid := by
  simp [State.seen, h]

@[simp] theorem mk_mir_keeps {hid : Nat} (s : State) (x : Mir) (h : x.seen hid = s.mir.seen hid) :
    (State.mk s.glb s.regs s.pp s.qz s.ports s.reqs s.nextId s.sched s.alert s.ref s.qos s.phy s.ras s.egp x s.dom s.img s.glg s.pwr s.evt s.out s.raised s.free s.pending).seen hid =
    s.seen hid := by
  simp [State.seen, h]

@[simp] theorem mk_dom_keeps {hid : Nat} (s : State) (x : Dom) (h : x.seen hid = s.dom.seen hid) :
    (State.mk s.glb s.regs s.pp s.qz s.ports s.reqs s.nextId s.sched s.alert s.ref s.qos s.phy s.ras s.egp s.mir x s.img s.glg s.pwr s.evt s.out s.raised s.free s.pending).seen hid =
    s.seen hid := by
  simp [State.seen, h]

@[simp] theorem mk_img_keeps {hid : Nat} (s : State) (x : Img) (h : x.seen hid = s.img.seen hid) :
    (State.mk s.glb s.regs s.pp s.qz s.ports s.reqs s.nextId s.sched s.alert s.ref s.qos s.phy s.ras s.egp s.mir s.dom x s.glg s.pwr s.evt s.out s.raised s.free s.pending).seen hid =
    s.seen hid := by
  simp [State.seen, h]

@[simp] theorem mk_glg_keeps {hid : Nat} (s : State) (x : Glg) (h : x.seen hid = s.glg.seen hid) :
    (State.mk s.glb s.regs s.pp s.qz s.ports s.reqs s.nextId s.sched s.alert s.ref s.qos s.phy s.ras s.egp s.mir s.dom s.img x s.pwr s.evt s.out s.raised s.free s.pending).seen hid =
    s.seen hid := by
  simp [State.seen, h]

@[simp] theorem mk_pwr_keeps {hid : Nat} (s : State) (x : Pwr) (h : x.seen hid = s.pwr.seen hid) :
    (State.mk s.glb s.regs s.pp s.qz s.ports s.reqs s.nextId s.sched s.alert s.ref s.qos s.phy s.ras s.egp s.mir s.dom s.img s.glg x s.evt s.out s.raised s.free s.pending).seen hid =
    s.seen hid := by
  simp [State.seen, h]

@[simp] theorem mk_evt_keeps {hid : Nat} (s : State) (x : Evt) (h : x.seen hid = s.evt.seen hid) :
    (State.mk s.glb s.regs s.pp s.qz s.ports s.reqs s.nextId s.sched s.alert s.ref s.qos s.phy s.ras s.egp s.mir s.dom s.img s.glg s.pwr x s.out s.raised s.free s.pending).seen hid =
    s.seen hid := by
  simp [State.seen, h]

@[simp] theorem mk_out_keeps {hid : Nat} (hw : hides hid 0x20000000000000000000000000000000000000000000 = true) (s : State) (x : List Out) :
    (State.mk s.glb s.regs s.pp s.qz s.ports s.reqs s.nextId s.sched s.alert s.ref s.qos s.phy s.ras s.egp s.mir s.dom s.img s.glg s.pwr s.evt x s.raised s.free s.pending).seen hid =
    s.seen hid := by
  simp only [hides_eq] at hw; simp [State.seen, hw]

@[simp] theorem mk_raised_keeps {hid : Nat} (hw : hides hid 0x40000000000000000000000000000000000000000000 = true) (s : State) (x : Nat) :
    (State.mk s.glb s.regs s.pp s.qz s.ports s.reqs s.nextId s.sched s.alert s.ref s.qos s.phy s.ras s.egp s.mir s.dom s.img s.glg s.pwr s.evt s.out x s.free s.pending).seen hid =
    s.seen hid := by
  simp only [hides_eq] at hw; simp [State.seen, hw]

@[simp] theorem mk_free_keeps {hid : Nat} (hw : hides hid 0x80000000000000000000000000000000000000000000 = true) (s : State) (x : Nat) :
    (State.mk s.glb s.regs s.pp s.qz s.ports s.reqs s.nextId s.sched s.alert s.ref s.qos s.phy s.ras s.egp s.mir s.dom s.img s.glg s.pwr s.evt s.out s.raised x s.pending).seen hid =
    s.seen hid := by
  simp only [hides_eq] at hw; simp [State.seen, hw]

@[simp] theorem mk_pending_keeps {hid : Nat} (hw : hides hid 0x100000000000000000000000000000000000000000000 = true) (s : State) (x : List Instr) :
    (State.mk s.glb s.regs s.pp s.qz s.ports s.reqs s.nextId s.sched s.alert s.ref s.qos s.phy s.ras s.egp s.mir s.dom s.img s.glg s.pwr s.evt s.out s.raised s.free x).seen hid =
    s.seen hid := by
  simp only [hides_eq] at hw; simp [State.seen, hw]

@[simp] theorem Glb.mk_seen {hid : Nat} (a : Glb)
    (ctl_ : Ctl) (haltCause_ : Byte) (step_ : Byte) (gear_ : Gear) (ctlId_ : BitVec 10) (chanEn_ : BitVec 2)
    (imgBase_ : BitVec 6) (pfN_ : Bool) (now_ : Nat) (cc_ : Nat) (coreRun_ : Bool) (vddqOk_ : Bool)
    (pllTries_ : Nat) (ackGap_ : Bool) (fuses_ : List Word) (ch_ : Vector Chan 2) (slot_ : Vector Slot 4)
    (train_ : Vector Train 4) (init_ : BitVec 1048576) (initCopy_ : BitVec 1048576) (initWait_ : List Nat)
    (onDemand_ : Vector (List Nat) 4) (zero_ : Vector (KMap Nat) 4) (served_ : Bool) (restart_ : Bool) :
    (Glb.mk ctl_ haltCause_ step_ gear_ ctlId_ chanEn_ imgBase_ pfN_ now_ cc_ coreRun_ vddqOk_ pllTries_
      ackGap_ fuses_ ch_ slot_ train_ init_ initCopy_ initWait_ onDemand_ zero_ served_ restart_).seen hid = a.seen hid ↔
      (ctl_ = a.ctl ∨ hides hid 0x1 = true) ∧ (haltCause_ = a.haltCause ∨ hides hid 0x2 = true) ∧
      (step_ = a.step ∨ hides hid 0x4 = true) ∧ (gear_ = a.gear ∨ hides hid 0x8 = true) ∧
      (ctlId_ = a.ctlId ∨ hides hid 0x10 = true) ∧ (chanEn_ = a.chanEn ∨ hides hid 0x20 = true) ∧
      (imgBase_ = a.imgBase ∨ hides hid 0x40 = true) ∧ (pfN_ = a.pfN ∨ hides hid 0x80 = true) ∧
      (now_ = a.now ∨ hides hid 0x100 = true) ∧ (cc_ = a.cc ∨ hides hid 0x200 = true) ∧
      (coreRun_ = a.coreRun ∨ hides hid 0x400 = true) ∧ (vddqOk_ = a.vddqOk ∨ hides hid 0x800 = true) ∧
      (pllTries_ = a.pllTries ∨ hides hid 0x1000 = true) ∧ (ackGap_ = a.ackGap ∨ hides hid 0x2000 = true) ∧
      (fuses_ = a.fuses ∨ hides hid 0x4000 = true) ∧ (ch_ = a.ch ∨ hides hid 0x8000 = true) ∧
      (slot_ = a.slot ∨ hides hid 0x10000 = true) ∧ (train_ = a.train ∨ hides hid 0x20000 = true) ∧
      (init_ = a.init ∨ hides hid 0x40000 = true) ∧ (initCopy_ = a.initCopy ∨ hides hid 0x80000 = true) ∧
      (initWait_ = a.initWait ∨ hides hid 0x100000 = true) ∧ (onDemand_ = a.onDemand ∨ hides hid 0x200000 = true) ∧
      (zero_ = a.zero ∨ hides hid 0x400000 = true) ∧ (served_ = a.served ∨ hides hid 0x800000 = true) ∧
      (restart_ = a.restart ∨ hides hid 0x1000000 = true) := by
  simp only [Glb.seen, Prod.mk.injEq, hide_inj, Or.comm]

@[simp] theorem Qz.mk_seen {hid : Nat} (a : Qz)
    (req_ : Bool) (hold_ : BitVec 16) (deep_ : Bool) (ph_ : QzPhase) (ack_ : Bool) (paused_ : Bool) :
    (Qz.mk req_ hold_ deep_ ph_ ack_ paused_).seen hid = a.seen hid ↔
      (req_ = a.req ∨ hides hid 0x2000000 = true) ∧ (hold_ = a.hold ∨ hides hid 0x4000000 = true) ∧
      (deep_ = a.deep ∨ hides hid 0x8000000 = true) ∧ (ph_ = a.ph ∨ hides hid 0x10000000 = true) ∧
      (ack_ = a.ack ∨ hides hid 0x20000000 = true) ∧ (paused_ = a.paused ∨ hides hid 0x40000000 = true) := by
  simp only [Qz.seen, Prod.mk.injEq, hide_inj, Or.comm]

@[simp] theorem Ref.mk_seen {hid : Nat} (a : Ref)
    (units_ : KMap RefUnit) (doubled_ : Vector Bool 2) (mr4_ : Vector Mr4Rate 2) (groups_ : KMap RcGroup)
    (cache_ : KMap RcLine) (clock_ : Nat) (posted_ : List (Nat × Fin 32 × Bool)) (fetching_ : List (Nat × Sc))
    (due_ : List DueRow) (abo_ : Vector (List AboReq) 2) (aboLate_ : Vector Bool 2) (raa_ : KMap Nat)
    (rcHeld_ : List Nat) :
    (Ref.mk units_ doubled_ mr4_ groups_ cache_ clock_ posted_ fetching_ due_ abo_ aboLate_ raa_ rcHeld_).seen hid = a.seen hid ↔
      (units_ = a.units ∨ hides hid 0x80000000 = true) ∧ (doubled_ = a.doubled ∨ hides hid 0x100000000 = true) ∧
      (mr4_ = a.mr4 ∨ hides hid 0x200000000 = true) ∧ (groups_ = a.groups ∨ hides hid 0x400000000 = true) ∧
      (cache_ = a.cache ∨ hides hid 0x800000000 = true) ∧ (clock_ = a.clock ∨ hides hid 0x1000000000 = true) ∧
      (posted_ = a.posted ∨ hides hid 0x2000000000 = true) ∧
      (fetching_ = a.fetching ∨ hides hid 0x4000000000 = true) ∧ (due_ = a.due ∨ hides hid 0x8000000000 = true) ∧
      (abo_ = a.abo ∨ hides hid 0x10000000000 = true) ∧ (aboLate_ = a.aboLate ∨ hides hid 0x20000000000 = true) ∧
      (raa_ = a.raa ∨ hides hid 0x40000000000 = true) ∧ (rcHeld_ = a.rcHeld ∨ hides hid 0x80000000000 = true) := by
  simp only [Ref.seen, Prod.mk.injEq, hide_inj, Or.comm]

@[simp] theorem Qos.mk_seen {hid : Nat} (a : Qos)
    (parts_ : KMap Part) (vt_ : Vector (Vector Word 5) 4) (tb_ : Vector Int 4) (wheel_ : Nat) (tick_ : Nat)
    (staging_ : Vector Word 8) (pendingQpt_ : Option (BitVec 12 × Vector Word 8))
    (pendingMore_ : List (BitVec 12 × Vector Word 8)) (panic_ : Bool) (urgent_ : Bool) (peakRtp_ : Nat)
    (lastCrdRd_ : Fin 5) (lastCrdWr_ : Fin 5) :
    (Qos.mk parts_ vt_ tb_ wheel_ tick_ staging_ pendingQpt_ pendingMore_ panic_ urgent_ peakRtp_ lastCrdRd_
      lastCrdWr_).seen hid = a.seen hid ↔
      (parts_ = a.parts ∨ hides hid 0x100000000000 = true) ∧ (vt_ = a.vt ∨ hides hid 0x200000000000 = true) ∧
      (tb_ = a.tb ∨ hides hid 0x400000000000 = true) ∧ (wheel_ = a.wheel ∨ hides hid 0x800000000000 = true) ∧
      (tick_ = a.tick ∨ hides hid 0x1000000000000 = true) ∧
      (staging_ = a.staging ∨ hides hid 0x2000000000000 = true) ∧
      (pendingQpt_ = a.pendingQpt ∨ hides hid 0x4000000000000 = true) ∧
      (pendingMore_ = a.pendingMore ∨ hides hid 0x8000000000000 = true) ∧
      (panic_ = a.panic ∨ hides hid 0x10000000000000 = true) ∧
      (urgent_ = a.urgent ∨ hides hid 0x20000000000000 = true) ∧
      (peakRtp_ = a.peakRtp ∨ hides hid 0x40000000000000 = true) ∧
      (lastCrdRd_ = a.lastCrdRd ∨ hides hid 0x80000000000000 = true) ∧
      (lastCrdWr_ = a.lastCrdWr ∨ hides hid 0x100000000000000 = true) := by
  simp only [Qos.seen, Prod.mk.injEq, hide_inj, Or.comm]

@[simp] theorem Phy.mk_seen {hid : Nat} (a : Phy)
    (sc_ : Vector PhySc 4) (lifeline_ : KMap (List Word)) (llChanged_ : Vector Bool 8) (llBuf_ : List Word)
    (boot_ : KMap (Code × Code)) (gearWait_ : Option Gear) (gearPending_ : Option Gear)
    (gearTo_ : Option (Gear × Nat)) (shadow_ : BitVec 4) (policyRun_ : Nat) :
    (Phy.mk sc_ lifeline_ llChanged_ llBuf_ boot_ gearWait_ gearPending_ gearTo_ shadow_ policyRun_).seen hid = a.seen hid ↔
      (sc_ = a.sc ∨ hides hid 0x200000000000000 = true) ∧
      (lifeline_ = a.lifeline ∨ hides hid 0x400000000000000 = true) ∧
      (llChanged_ = a.llChanged ∨ hides hid 0x800000000000000 = true) ∧
      (llBuf_ = a.llBuf ∨ hides hid 0x1000000000000000 = true) ∧
      (boot_ = a.boot ∨ hides hid 0x2000000000000000 = true) ∧
      (gearWait_ = a.gearWait ∨ hides hid 0x4000000000000000 = true) ∧
      (gearPending_ = a.gearPending ∨ hides hid 0x8000000000000000 = true) ∧
      (gearTo_ = a.gearTo ∨ hides hid 0x10000000000000000 = true) ∧
      (shadow_ = a.shadow ∨ hides hid 0x20000000000000000 = true) ∧
      (policyRun_ = a.policyRun ∨ hides hid 0x40000000000000000 = true) := by
  simp only [Phy.seen, Prod.mk.injEq, hide_inj, Or.comm]

@[simp] theorem Ras.mk_seen {hid : Nat} (a : Ras)
    (units_ : KMap RasUnit) (log_ : Vector (List RowLog) 4) (scrub_ : Vector Scrub 4) (ppr_ : Option Ppr)
    (pprWait_ : List (Sc × Lla × Nat × Nat × Bool)) (rpl_ : List (Word × Word)) (spare_ : Vector Spare 2)
    (dbg_ : Option Dbg) (fetch_ : List (Sc × Lla × Decoded × Nat × Nat)) (reached_ : List (Sc × Nat × Fin 10)) :
    (Ras.mk units_ log_ scrub_ ppr_ pprWait_ rpl_ spare_ dbg_ fetch_ reached_).seen hid = a.seen hid ↔
      (units_ = a.units ∨ hides hid 0x80000000000000000 = true) ∧
      (log_ = a.log ∨ hides hid 0x100000000000000000 = true) ∧
      (scrub_ = a.scrub ∨ hides hid 0x200000000000000000 = true) ∧
      (ppr_ = a.ppr ∨ hides hid 0x400000000000000000 = true) ∧
      (pprWait_ = a.pprWait ∨ hides hid 0x800000000000000000 = true) ∧
      (rpl_ = a.rpl ∨ hides hid 0x1000000000000000000 = true) ∧
      (spare_ = a.spare ∨ hides hid 0x2000000000000000000 = true) ∧
      (dbg_ = a.dbg ∨ hides hid 0x4000000000000000000 = true) ∧
      (fetch_ = a.fetch ∨ hides hid 0x8000000000000000000 = true) ∧
      (reached_ = a.reached ∨ hides hid 0x10000000000000000000 = true) := by
  simp only [Ras.seen, Prod.mk.injEq, hide_inj, Or.comm]

@[simp] theorem Egp.mk_seen {hid : Nat} (a : Egp)
    (waiting_ : List EgpReq) (slots_ : KMap EgpSlot) (peak_ : Nat) :
    (Egp.mk waiting_ slots_ peak_).seen hid = a.seen hid ↔
      (waiting_ = a.waiting ∨ hides hid 0x20000000000000000000 = true) ∧
      (slots_ = a.slots ∨ hides hid 0x40000000000000000000 = true) ∧
      (peak_ = a.peak ∨ hides hid 0x80000000000000000000 = true) := by
  simp only [Egp.seen, Prod.mk.injEq, hide_inj, Or.comm]

@[simp] theorem Mir.mk_seen {hid : Nat} (a : Mir)
    (primary_ : Bool) (pair_ : PairState) (cause_ : BitVec 4) (hold5_ : Bool) (hold6_ : Bool) (epoch_ : BitVec 8)
    (peerEpoch_ : BitVec 8) (proto_ : BitVec 4) (alive_ : Bool) (missedBeats_ : Nat)
    (exchange_ : Option (BitVec 8 × Bool × Bool)) (retained_ : Bool) (degradedAt_ : Nat) (joinLate_ : Bool)
    (dirty_ : BitVec 1048576) (dirtyCopy_ : List Nat) (recordMsgs_ : List EgpReq) (walk_ : Vector Nat 4)
    (walkOk_ : Vector Nat 4) (role_ : Option RoleChg) (unconf_ : Option RoleChg)
    (record_ : Option (BitVec 8 × Bool)) (ctlBusy_ : Bool) (locks_ : List Lla) :
    (Mir.mk primary_ pair_ cause_ hold5_ hold6_ epoch_ peerEpoch_ proto_ alive_ missedBeats_ exchange_
      retained_ degradedAt_ joinLate_ dirty_ dirtyCopy_ recordMsgs_ walk_ walkOk_ role_ unconf_ record_
      ctlBusy_ locks_).seen hid = a.seen hid ↔
      (primary_ = a.primary ∨ hides hid 0x100000000000000000000 = true) ∧
      (pair_ = a.pair ∨ hides hid 0x200000000000000000000 = true) ∧
      (cause_ = a.cause ∨ hides hid 0x400000000000000000000 = true) ∧
      (hold5_ = a.hold5 ∨ hides hid 0x800000000000000000000 = true) ∧
      (hold6_ = a.hold6 ∨ hides hid 0x1000000000000000000000 = true) ∧
      (epoch_ = a.epoch ∨ hides hid 0x2000000000000000000000 = true) ∧
      (peerEpoch_ = a.peerEpoch ∨ hides hid 0x4000000000000000000000 = true) ∧
      (proto_ = a.proto ∨ hides hid 0x8000000000000000000000 = true) ∧
      (alive_ = a.alive ∨ hides hid 0x10000000000000000000000 = true) ∧
      (missedBeats_ = a.missedBeats ∨ hides hid 0x20000000000000000000000 = true) ∧
      (exchange_ = a.exchange ∨ hides hid 0x40000000000000000000000 = true) ∧
      (retained_ = a.retained ∨ hides hid 0x80000000000000000000000 = true) ∧
      (degradedAt_ = a.degradedAt ∨ hides hid 0x100000000000000000000000 = true) ∧
      (joinLate_ = a.joinLate ∨ hides hid 0x200000000000000000000000 = true) ∧
      (dirty_ = a.dirty ∨ hides hid 0x400000000000000000000000 = true) ∧
      (dirtyCopy_ = a.dirtyCopy ∨ hides hid 0x800000000000000000000000 = true) ∧
      (recordMsgs_ = a.recordMsgs ∨ hides hid 0x1000000000000000000000000 = true) ∧
      (walk_ = a.walk ∨ hides hid 0x2000000000000000000000000 = true) ∧
      (walkOk_ = a.walkOk ∨ hides hid 0x4000000000000000000000000 = true) ∧
      (role_ = a.role ∨ hides hid 0x8000000000000000000000000 = true) ∧
      (unconf_ = a.unconf ∨ hides hid 0x10000000000000000000000000 = true) ∧
      (record_ = a.record ∨ hides hid 0x20000000000000000000000000 = true) ∧
      (ctlBusy_ = a.ctlBusy ∨ hides hid 0x40000000000000000000000000 = true) ∧
      (locks_ = a.locks ∨ hides hid 0x80000000000000000000000000 = true) := by
  simp only [Mir.seen, Prod.mk.injEq, hide_inj, Or.comm]

@[simp] theorem Dom.mk_seen {hid : Nat} (a : Dom)
    (inbox_ : List Msg) (seqOut_ : BitVec 16) (round_ : BitVec 16) (res_ : Option CensusRes) (snap_ : List Word)
    (snapHeld_ : Option CensusRes) (startedAt_ : Option Nat) (lowInitAt_ : Option Nat) (told_ : KMap Nat)
    (out_ : List Delivery) :
    (Dom.mk inbox_ seqOut_ round_ res_ snap_ snapHeld_ startedAt_ lowInitAt_ told_ out_).seen hid = a.seen hid ↔
      (inbox_ = a.inbox ∨ hides hid 0x100000000000000000000000000 = true) ∧
      (seqOut_ = a.seqOut ∨ hides hid 0x200000000000000000000000000 = true) ∧
      (round_ = a.round ∨ hides hid 0x400000000000000000000000000 = true) ∧
      (res_ = a.res ∨ hides hid 0x800000000000000000000000000 = true) ∧
      (snap_ = a.snap ∨ hides hid 0x1000000000000000000000000000 = true) ∧
      (snapHeld_ = a.snapHeld ∨ hides hid 0x2000000000000000000000000000 = true) ∧
      (startedAt_ = a.startedAt ∨ hides hid 0x4000000000000000000000000000 = true) ∧
      (lowInitAt_ = a.lowInitAt ∨ hides hid 0x8000000000000000000000000000 = true) ∧
      (told_ = a.told ∨ hides hid 0x10000000000000000000000000000 = true) ∧
      (out_ = a.out ∨ hides hid 0x20000000000000000000000000000 = true) := by
  simp only [Dom.seen, Prod.mk.injEq, hide_inj, Or.comm]

@[simp] theorem Img.mk_seen {hid : Nat} (a : Img)
    (words_ : List Word) (staging_ : List Word) (fetch_ : Option Fetch) (applied_ : Bool) (rl_ : Reload)
    (bcastId_ : Byte) (bcastBack_ : Bool) (bcastTo_ : List (BitVec 10)) (bcastPh_ : List (BitVec 10 × Fin 5))
    (appliedBy_ : KMap Byte) :
    (Img.mk words_ staging_ fetch_ applied_ rl_ bcastId_ bcastBack_ bcastTo_ bcastPh_ appliedBy_).seen hid = a.seen hid ↔
      (words_ = a.words ∨ hides hid 0x40000000000000000000000000000 = true) ∧
      (staging_ = a.staging ∨ hides hid 0x80000000000000000000000000000 = true) ∧
      (fetch_ = a.fetch ∨ hides hid 0x100000000000000000000000000000 = true) ∧
      (applied_ = a.applied ∨ hides hid 0x200000000000000000000000000000 = true) ∧
      (rl_ = a.rl ∨ hides hid 0x400000000000000000000000000000 = true) ∧
      (bcastId_ = a.bcastId ∨ hides hid 0x800000000000000000000000000000 = true) ∧
      (bcastBack_ = a.bcastBack ∨ hides hid 0x1000000000000000000000000000000 = true) ∧
      (bcastTo_ = a.bcastTo ∨ hides hid 0x2000000000000000000000000000000 = true) ∧
      (bcastPh_ = a.bcastPh ∨ hides hid 0x4000000000000000000000000000000 = true) ∧
      (appliedBy_ = a.appliedBy ∨ hides hid 0x8000000000000000000000000000000 = true) := by
  simp only [Img.seen, Prod.mk.injEq, hide_inj, Or.comm]

@[simp] theorem Glg.mk_seen {hid : Nat} (a : Glg)
    (inst_ : Vector Inst 65) (window_ : Vector Word 128) (activeSet_ : Bool) (swapPending_ : Bool)
    (mboxBusy_ : Bool) (wide_ : KMap (BitVec 64)) (turn_ : Vector InstId 4) :
    (Glg.mk inst_ window_ activeSet_ swapPending_ mboxBusy_ wide_ turn_).seen hid = a.seen hid ↔
      (inst_ = a.inst ∨ hides hid 0x10000000000000000000000000000000 = true) ∧
      (window_ = a.window ∨ hides hid 0x20000000000000000000000000000000 = true) ∧
      (activeSet_ = a.activeSet ∨ hides hid 0x40000000000000000000000000000000 = true) ∧
      (swapPending_ = a.swapPending ∨ hides hid 0x80000000000000000000000000000000 = true) ∧
      (mboxBusy_ = a.mboxBusy ∨ hides hid 0x100000000000000000000000000000000 = true) ∧
      (wide_ = a.wide ∨ hides hid 0x200000000000000000000000000000000 = true) ∧
      (turn_ = a.turn ∨ hides hid 0x400000000000000000000000000000000 = true) := by
  simp only [Glg.seen, Prod.mk.injEq, hide_inj, Or.comm]

@[simp] theorem Pwr.mk_seen {hid : Nat} (a : Pwr)
    (sc_ : Vector ScPower 4) (due_ : BitVec 4) (waking_ : Bool) (deferred_ : List RegAcc) (integ_ : Int) (u_ : Nat)
    (critical_ : Bool) (tMax_ : BitVec 16) (dormantAt_ : Nat) (bo_ : Option BindOff) :
    (Pwr.mk sc_ due_ waking_ deferred_ integ_ u_ critical_ tMax_ dormantAt_ bo_).seen hid = a.seen hid ↔
      (sc_ = a.sc ∨ hides hid 0x800000000000000000000000000000000 = true) ∧
      (due_ = a.due ∨ hides hid 0x1000000000000000000000000000000000 = true) ∧
      (waking_ = a.waking ∨ hides hid 0x2000000000000000000000000000000000 = true) ∧
      (deferred_ = a.deferred ∨ hides hid 0x4000000000000000000000000000000000 = true) ∧
      (integ_ = a.integ ∨ hides hid 0x8000000000000000000000000000000000 = true) ∧
      (u_ = a.u ∨ hides hid 0x10000000000000000000000000000000000 = true) ∧
      (critical_ = a.critical ∨ hides hid 0x20000000000000000000000000000000000 = true) ∧
      (tMax_ = a.tMax ∨ hides hid 0x40000000000000000000000000000000000 = true) ∧
      (dormantAt_ = a.dormantAt ∨ hides hid 0x80000000000000000000000000000000000 = true) ∧
      (bo_ = a.bo ∨ hides hid 0x100000000000000000000000000000000000 = true) := by
  simp only [Pwr.seen, Prod.mk.injEq, hide_inj, Or.comm]

@[simp] theorem Evt.mk_seen {hid : Nat} (a : Evt)
    (buf_ : List Rec) (chain_ : List ChainRec) (pend_ : Option Gap) (nextSeq_ : BitVec 16)
    (lim_ : KMap (Option Nat × Nat)) (expiries_ : KMap Word) :
    (Evt.mk buf_ chain_ pend_ nextSeq_ lim_ expiries_).seen hid = a.seen hid ↔
      (buf_ = a.buf ∨ hides hid 0x200000000000000000000000000000000000 = true) ∧
      (chain_ = a.chain ∨ hides hid 0x400000000000000000000000000000000000 = true) ∧
      (pend_ = a.pend ∨ hides hid 0x800000000000000000000000000000000000 = true) ∧
      (nextSeq_ = a.nextSeq ∨ hides hid 0x1000000000000000000000000000000000000 = true) ∧
      (lim_ = a.lim ∨ hides hid 0x2000000000000000000000000000000000000 = true) ∧
      (expiries_ = a.expiries ∨ hides hid 0x4000000000000000000000000000000000000 = true) := by
  simp only [Evt.seen, Prod.mk.injEq, hide_inj, Or.comm]

@[simp] theorem updPort_keeps {hid : Nat} (hw : 0x1000000000000000000000000000000000000000000 &&& hid = 0x1000000000000000000000000000000000000000000) (p : PortId) (f : Port → Port) (s : State) :
    (updPort p f s).seen hid = s.seen hid := seen_mono hw (by simp [State.seen, updPort])
@[simp] theorem updSched_keeps {hid : Nat} (hw : 0x8000000000000000000000000000000000000000000 &&& hid = 0x8000000000000000000000000000000000000000000) (x : Sc) (f : Sched → Sched) (s : State) :
    (updSched x f s).seen hid = s.seen hid := seen_mono hw (by simp [State.seen, updSched])
@[simp] theorem updAlert_keeps {hid : Nat} (hw : 0x10000000000000000000000000000000000000000000 &&& hid = 0x10000000000000000000000000000000000000000000) (c : Ch) (f : Alert → Alert) (s : State) :
    (updAlert c f s).seen hid = s.seen hid := seen_mono hw (by simp [State.seen, updAlert])
@[simp] theorem updReq_keeps {hid : Nat} (hw : 0x2000000000000000000000000000000000000000000 &&& hid = 0x2000000000000000000000000000000000000000000) (id : Nat) (f : Req → Req) (s : State) :
    (updReq id f s).seen hid = s.seen hid := seen_mono hw (by simp [State.seen, updReq])
@[simp] theorem emit_keeps {hid : Nat} (hw : 0x20000000000000000000000000000000000000000000 &&& hid = 0x20000000000000000000000000000000000000000000) (o : Out) (s : State) :
    (emit o s).seen hid = s.seen hid := seen_mono hw (by simp [State.seen, emit])
@[simp] theorem begin__keeps {hid : Nat} (hw : 0x60000000000000000000000000000000000000000000 &&& hid = 0x60000000000000000000000000000000000000000000)  (s : State) :
    (begin_  s).seen hid = s.seen hid := seen_mono hw (by simp [State.seen, begin_])
@[simp] theorem updPhySc_keeps {hid : Nat} (hw : 0x200000000000000 &&& hid = 0x200000000000000) (x : Sc) (f : PhySc → PhySc) (s : State) :
    (updPhySc x f s).seen hid = s.seen hid := seen_mono hw (by simp [updPhySc])
@[simp] theorem updInst_keeps {hid : Nat} (hw : 0x10000000000000000000000000000000 &&& hid = 0x10000000000000000000000000000000) (i : InstId) (f : Inst → Inst) (s : State) :
    (updInst i f s).seen hid = s.seen hid := seen_mono hw (by simp [updInst])
@[simp] theorem updCh_keeps {hid : Nat} (hw : 0x8000 &&& hid = 0x8000) (c : Ch) (f : Chan → Chan) (s : State) :
    (updCh c f s).seen hid = s.seen hid := seen_mono hw (by simp [updCh])
@[simp] theorem updGlb_keeps {hid : Nat} (f : Glb → Glb) (s : State) (h : (f s.glb).seen hid = s.glb.seen hid) :
    (updGlb f s).seen hid = s.seen hid := by
  simp [State.seen, updGlb, h]
@[simp] theorem updEvt_keeps {hid : Nat} (f : Evt → Evt) (s : State) (h : (f s.evt).seen hid = s.evt.seen hid) :
    (updEvt f s).seen hid = s.seen hid := by
  simp [State.seen, updEvt, h]
@[simp] theorem updRef_keeps {hid : Nat} (f : Ref → Ref) (s : State) (h : (f s.ref).seen hid = s.ref.seen hid) :
    (updRef f s).seen hid = s.seen hid := by
  simp [State.seen, updRef, h]
@[simp] theorem updRas_keeps {hid : Nat} (f : Ras → Ras) (s : State) (h : (f s.ras).seen hid = s.ras.seen hid) :
    (updRas f s).seen hid = s.seen hid := by
  simp [State.seen, updRas, h]
@[simp] theorem updMir_keeps {hid : Nat} (f : Mir → Mir) (s : State) (h : (f s.mir).seen hid = s.mir.seen hid) :
    (updMir f s).seen hid = s.seen hid := by
  simp [State.seen, updMir, h]
@[simp] theorem updDom_keeps {hid : Nat} (f : Dom → Dom) (s : State) (h : (f s.dom).seen hid = s.dom.seen hid) :
    (updDom f s).seen hid = s.seen hid := by
  simp [State.seen, updDom, h]
@[simp] theorem updImg_keeps {hid : Nat} (f : Img → Img) (s : State) (h : (f s.img).seen hid = s.img.seen hid) :
    (updImg f s).seen hid = s.seen hid := by
  simp [State.seen, updImg, h]
@[simp] theorem updQos_keeps {hid : Nat} (f : Qos → Qos) (s : State) (h : (f s.qos).seen hid = s.qos.seen hid) :
    (updQos f s).seen hid = s.seen hid := by
  simp [State.seen, updQos, h]
@[simp] theorem updPwr_keeps {hid : Nat} (f : Pwr → Pwr) (s : State) (h : (f s.pwr).seen hid = s.pwr.seen hid) :
    (updPwr f s).seen hid = s.seen hid := by
  simp [State.seen, updPwr, h]
@[simp] theorem updQz_keeps {hid : Nat} (f : Qz → Qz) (s : State) (h : (f s.qz).seen hid = s.qz.seen hid) :
    (updQz f s).seen hid = s.seen hid := by
  simp [State.seen, updQz, h]
@[simp] theorem updGlg_keeps {hid : Nat} (f : Glg → Glg) (s : State) (h : (f s.glg).seen hid = s.glg.seen hid) :
    (updGlg f s).seen hid = s.seen hid := by
  simp [State.seen, updGlg, h]

@[simp] theorem seen_ite {hid : Nat} (c : Prop) [Decidable c] (a b : State) :
    (if c then a else b).seen hid = if c then a.seen hid else b.seen hid := by split <;> rfl

@[simp] theorem onlyIf_keeps {hid : Nat} (c : Bool) (f : State → State) (s : State) (h : (f s).seen hid = s.seen hid) :
    (onlyIf c f s).seen hid = s.seen hid := by
  unfold onlyIf; split <;> simp [h]

@[simp] theorem forAll_keeps {hid : Nat} {α : Type} (l : List α) (f : α → State → State) (s : State)
    (h : ∀ a s, (f a s).seen hid = s.seen hid) : (forAll l f s).seen hid = s.seen hid := by
  unfold forAll
  induction l generalizing s with
  | nil => rfl
  | cons a l ih => rw [List.foldl_cons, ih, h]

@[simp] theorem foldl_keeps {hid : Nat} {α : Type} (l : List α) (f : State → α → State) (s : State)
    (h : ∀ s a, (f s a).seen hid = s.seen hid) : (l.foldl f s).seen hid = s.seen hid := by
  induction l generalizing s with
  | nil => rfl
  | cons a l ih => rw [List.foldl_cons, ih, h]

theorem foldl_snd_keeps {hid : Nat} {α β : Type} (l : List α) (f : β × State → α → β × State) (p : β × State)
    (h : ∀ p a, (f p a).2.seen hid = p.2.seen hid) : (l.foldl f p).2.seen hid = p.2.seen hid := by
  induction l generalizing p with
  | nil => rfl
  | cons a l ih => rw [List.foldl_cons, ih, h]

@[simp] theorem limited_keeps {hid : Nat} (hw : 0x2000000000000000000000000000000000000 &&& hid = 0x2000000000000000000000000000000000000) (key period : Nat) (f : Nat → State → State) (s : State)
    (h : ∀ n s, (f n s).seen hid = s.seen hid) : (limited key period f s).seen hid = s.seen hid := by
  have hb : hides hid 0x2000000000000000000000000000000000000 = true := sub_hides 145 hw (by decide)
  simp only [hides_eq] at hb
  unfold limited
  split
  dsimp only
  split <;> simp [h, hb]

end Sys2Proof.Machine
end

