-- ==== Sys2Proof/Laws/Groups.lean ====
section
/-! SUPPORT. The groups of the registers that the operations write. -/

namespace Sys2Proof.Machine

set_option Elab.async false

@[simp] theorem regGroup_10 : regGroup 0x10 = 0 := by decide +kernel
@[simp] theorem regGroup_40 : regGroup 0x40 = 0 := by decide +kernel
@[simp] theorem regGroup_48 : regGroup 0x48 = 0 := by decide +kernel
@[simp] theorem regGroup_4C : regGroup 0x4c = 0 := by decide +kernel
@[simp] theorem regGroup_50 : regGroup 0x50 = 0 := by decide +kernel
@[simp] theorem regGroup_54 : regGroup 0x54 = 0 := by decide +kernel
@[simp] theorem regGroup_2010 : regGroup 0x2010 = 1 := by decide +kernel
@[simp] theorem regGroup_2040 : regGroup 0x2040 = 1 := by decide +kernel
@[simp] theorem regGroup_2044 : regGroup 0x2044 = 1 := by decide +kernel
@[simp] theorem regGroup_2048 : regGroup 0x2048 = 1 := by decide +kernel
@[simp] theorem regGroup_204C : regGroup 0x204c = 1 := by decide +kernel
@[simp] theorem regGroup_2050 : regGroup 0x2050 = 1 := by decide +kernel
@[simp] theorem regGroup_2054 : regGroup 0x2054 = 1 := by decide +kernel
@[simp] theorem regGroup_3050 : regGroup 0x3050 = 2 := by decide +kernel
@[simp] theorem regGroup_3060 : regGroup 0x3060 = 2 := by decide +kernel
@[simp] theorem regGroup_3064 : regGroup 0x3064 = 2 := by decide +kernel
@[simp] theorem regGroup_3068 : regGroup 0x3068 = 2 := by decide +kernel
@[simp] theorem regGroup_306C : regGroup 0x306c = 2 := by decide +kernel
@[simp] theorem regGroup_3070 : regGroup 0x3070 = 2 := by decide +kernel
@[simp] theorem regGroup_3074 : regGroup 0x3074 = 2 := by decide +kernel
@[simp] theorem regGroup_3078 : regGroup 0x3078 = 2 := by decide +kernel
@[simp] theorem regGroup_4008 : regGroup 0x4008 = 3 := by decide +kernel
@[simp] theorem regGroup_400C : regGroup 0x400c = 3 := by decide +kernel
@[simp] theorem regGroup_4010 : regGroup 0x4010 = 3 := by decide +kernel
@[simp] theorem regGroup_4014 : regGroup 0x4014 = 3 := by decide +kernel
@[simp] theorem regGroup_4018 : regGroup 0x4018 = 3 := by decide +kernel
@[simp] theorem regGroup_401C : regGroup 0x401c = 3 := by decide +kernel
@[simp] theorem regGroup_4028 : regGroup 0x4028 = 3 := by decide +kernel
@[simp] theorem regGroup_4054 : regGroup 0x4054 = 3 := by decide +kernel
@[simp] theorem regGroup_4060 : regGroup 0x4060 = 3 := by decide +kernel
@[simp] theorem regGroup_5030 : regGroup 0x5030 = 4 := by decide +kernel
@[simp] theorem regGroup_5040 : regGroup 0x5040 = 4 := by decide +kernel
@[simp] theorem regGroup_5044 : regGroup 0x5044 = 4 := by decide +kernel
@[simp] theorem regGroup_5048 : regGroup 0x5048 = 4 := by decide +kernel
@[simp] theorem regGroup_504C : regGroup 0x504c = 4 := by decide +kernel
@[simp] theorem regGroup_5050 : regGroup 0x5050 = 4 := by decide +kernel
@[simp] theorem regGroup_5054 : regGroup 0x5054 = 4 := by decide +kernel
@[simp] theorem regGroup_5058 : regGroup 0x5058 = 4 := by decide +kernel
@[simp] theorem regGroup_6000 : regGroup 0x6000 = 19 := by decide +kernel
@[simp] theorem regGroup_6010 : regGroup 0x6010 = 5 := by decide +kernel
@[simp] theorem regGroup_6018 : regGroup 0x6018 = 5 := by decide +kernel
@[simp] theorem regGroup_601C : regGroup 0x601c = 5 := by decide +kernel
@[simp] theorem regGroup_6028 : regGroup 0x6028 = 5 := by decide +kernel
@[simp] theorem regGroup_602C : regGroup 0x602c = 5 := by decide +kernel
@[simp] theorem regGroup_6040 : regGroup 0x6040 = 5 := by decide +kernel
@[simp] theorem regGroup_6044 : regGroup 0x6044 = 5 := by decide +kernel
@[simp] theorem regGroup_6048 : regGroup 0x6048 = 5 := by decide +kernel
@[simp] theorem regGroup_604C : regGroup 0x604c = 5 := by decide +kernel
@[simp] theorem regGroup_6050 : regGroup 0x6050 = 5 := by decide +kernel
@[simp] theorem regGroup_6054 : regGroup 0x6054 = 5 := by decide +kernel
@[simp] theorem regGroup_6058 : regGroup 0x6058 = 5 := by decide +kernel
@[simp] theorem regGroup_605C : regGroup 0x605c = 5 := by decide +kernel
@[simp] theorem regGroup_810C : regGroup 0x810c = 6 := by decide +kernel
@[simp] theorem regGroup_8180 : regGroup 0x8180 = 6 := by decide +kernel
@[simp] theorem regGroup_8184 : regGroup 0x8184 = 6 := by decide +kernel
@[simp] theorem regGroup_8208 : regGroup 0x8208 = 6 := by decide +kernel
@[simp] theorem regGroup_820C : regGroup 0x820c = 6 := by decide +kernel
@[simp] theorem regGroup_8210 : regGroup 0x8210 = 6 := by decide +kernel
@[simp] theorem regGroup_9010 : regGroup 0x9010 = 7 := by decide +kernel
@[simp] theorem regGroup_9034 : regGroup 0x9034 = 7 := by decide +kernel
@[simp] theorem regGroup_9040 : regGroup 0x9040 = 7 := by decide +kernel
@[simp] theorem regGroup_9044 : regGroup 0x9044 = 7 := by decide +kernel
@[simp] theorem regGroup_9048 : regGroup 0x9048 = 7 := by decide +kernel
@[simp] theorem regGroup_904C : regGroup 0x904c = 7 := by decide +kernel
@[simp] theorem regGroup_9050 : regGroup 0x9050 = 7 := by decide +kernel
@[simp] theorem regGroup_A000 : regGroup 0xa000 = 19 := by decide +kernel
@[simp] theorem regGroup_A018 : regGroup 0xa018 = 8 := by decide +kernel
@[simp] theorem regGroup_D070 : regGroup 0xd070 = 10 := by decide +kernel
@[simp] theorem regGroup_10000 : regGroup 0x10000 = 19 := by decide +kernel
@[simp] theorem regGroup_1000C : regGroup 0x1000c = 12 := by decide +kernel
@[simp] theorem regGroup_10030 : regGroup 0x10030 = 12 := by decide +kernel
@[simp] theorem regGroup_10040 : regGroup 0x10040 = 12 := by decide +kernel
@[simp] theorem regGroup_10044 : regGroup 0x10044 = 12 := by decide +kernel
@[simp] theorem regGroup_10048 : regGroup 0x10048 = 12 := by decide +kernel
@[simp] theorem regGroup_1004C : regGroup 0x1004c = 12 := by decide +kernel
@[simp] theorem regGroup_10050 : regGroup 0x10050 = 12 := by decide +kernel
@[simp] theorem regGroup_10054 : regGroup 0x10054 = 12 := by decide +kernel
@[simp] theorem regGroup_12000 : regGroup 0x12000 = 13 := by decide +kernel
@[simp] theorem regGroup_12008 : regGroup 0x12008 = 13 := by decide +kernel
@[simp] theorem regGroup_1200C : regGroup 0x1200c = 13 := by decide +kernel
@[simp] theorem regGroup_12048 : regGroup 0x12048 = 13 := by decide +kernel
@[simp] theorem regGroup_1204C : regGroup 0x1204c = 13 := by decide +kernel
@[simp] theorem regGroup_12050 : regGroup 0x12050 = 13 := by decide +kernel
@[simp] theorem regGroup_14000 : regGroup 0x14000 = 19 := by decide +kernel
@[simp] theorem regGroup_14030 : regGroup 0x14030 = 14 := by decide +kernel
@[simp] theorem regGroup_14034 : regGroup 0x14034 = 14 := by decide +kernel
@[simp] theorem regGroup_140B0 : regGroup 0x140b0 = 19 := by decide +kernel
@[simp] theorem regGroup_20030 : regGroup 0x20030 = 15 := by decide +kernel
@[simp] theorem regGroup_20034 : regGroup 0x20034 = 15 := by decide +kernel
@[simp] theorem regGroup_20040 : regGroup 0x20040 = 19 := by decide +kernel
@[simp] theorem regGroup_20044 : regGroup 0x20044 = 19 := by decide +kernel
@[simp] theorem regGroup_30000 : regGroup 0x30000 = 16 := by decide +kernel
@[simp] theorem regGroup_30018 : regGroup 0x30018 = 16 := by decide +kernel
@[simp] theorem regGroup_30020 : regGroup 0x30020 = 19 := by decide +kernel
@[simp] theorem regGroup_30040 : regGroup 0x30040 = 16 := by decide +kernel
@[simp] theorem regGroup_30044 : regGroup 0x30044 = 16 := by decide +kernel
@[simp] theorem regGroup_30048 : regGroup 0x30048 = 16 := by decide +kernel
@[simp] theorem regGroup_3004C : regGroup 0x3004c = 16 := by decide +kernel
@[simp] theorem regGroup_30060 : regGroup 0x30060 = 16 := by decide +kernel
@[simp] theorem regGroup_30064 : regGroup 0x30064 = 16 := by decide +kernel
@[simp] theorem regGroup_30068 : regGroup 0x30068 = 16 := by decide +kernel
@[simp] theorem regGroup_3006C : regGroup 0x3006c = 16 := by decide +kernel
@[simp] theorem regGroup_30070 : regGroup 0x30070 = 16 := by decide +kernel
@[simp] theorem regGroup_30074 : regGroup 0x30074 = 16 := by decide +kernel
@[simp] theorem regGroup_30078 : regGroup 0x30078 = 16 := by decide +kernel
@[simp] theorem regGroup_30200 : regGroup 0x30200 = 19 := by decide +kernel
@[simp] theorem regGroup_30218 : regGroup 0x30218 = 16 := by decide +kernel
@[simp] theorem regGroup_3021C : regGroup 0x3021c = 16 := by decide +kernel
@[simp] theorem regGroup_38010 : regGroup 0x38010 = 17 := by decide +kernel
@[simp] theorem regGroup_rGearStatus : regGroup rGearStatus = 15 := by decide +kernel
@[simp] theorem regGroup_rPhyStatus : regGroup rPhyStatus = 15 := by decide +kernel
@[simp] theorem regGroup_rImgStatus : regGroup rImgStatus = 3 := by decide +kernel
@[simp] theorem regGroup_rReload : regGroup rReload = 3 := by decide +kernel
@[simp] theorem regGroup_rStateChange : regGroup rStateChange = 0 := by decide +kernel
@[simp] theorem regGroup_rCastOn : regGroup rCastOn = 0 := by decide +kernel
@[simp] theorem regGroup_rEvtStatus : regGroup rEvtStatus = 1 := by decide +kernel
@[simp] theorem regGroup_rEvtRaised : regGroup rEvtRaised = 1 := by decide +kernel
@[simp] theorem regGroup_rEvtDropped : regGroup rEvtDropped = 1 := by decide +kernel
@[simp] theorem regGroup_rEvtFiltered : regGroup rEvtFiltered = 1 := by decide +kernel
@[simp] theorem regGroup_rEvtFlushed : regGroup rEvtFlushed = 1 := by decide +kernel
@[simp] theorem regGroup_rEvtParity : regGroup rEvtParity = 1 := by decide +kernel
@[simp] theorem regGroup_rEvtTimeouts : regGroup rEvtTimeouts = 1 := by decide +kernel
@[simp] theorem regGroup_rPwrStatus : regGroup rPwrStatus = 2 := by decide +kernel
@[simp] theorem regGroup_rRasStatus : regGroup rRasStatus = 14 := by decide +kernel
@[simp] theorem regGroup_rReqResult : regGroup rReqResult = 14 := by decide +kernel
@[simp] theorem regGroup_rDbgStatus : regGroup rDbgStatus = 17 := by decide +kernel
@[simp] theorem regGroup_rEgpStatus : regGroup rEgpStatus = 6 := by decide +kernel
@[simp] theorem regGroup_rPage_4 (i : InstId) : regGroup (rPage i 4) = 18 := by revert i; decide +kernel
@[simp] theorem regGroup_rPage_20 (i : InstId) : regGroup (rPage i 20) = 18 := by revert i; decide +kernel
@[simp] theorem regGroup_rPage_36 (i : InstId) : regGroup (rPage i 36) = 18 := by revert i; decide +kernel
@[simp] theorem regGroup_rSch_0 (x : Sc) : regGroup (rSch x 0) = 9 := by revert x; decide +kernel
@[simp] theorem regGroup_rSch_1 (x : Sc) : regGroup (rSch x 1) = 9 := by revert x; decide +kernel
@[simp] theorem regGroup_rSch_2 (x : Sc) : regGroup (rSch x 2) = 9 := by revert x; decide +kernel
@[simp] theorem regGroup_rSch_3 (x : Sc) : regGroup (rSch x 3) = 9 := by revert x; decide +kernel
@[simp] theorem regGroup_rSch_4 (x : Sc) : regGroup (rSch x 4) = 9 := by revert x; decide +kernel
@[simp] theorem regGroup_rSch_5 (x : Sc) : regGroup (rSch x 5) = 9 := by revert x; decide +kernel
@[simp] theorem regGroup_rSch_6 (x : Sc) : regGroup (rSch x 6) = 9 := by revert x; decide +kernel
@[simp] theorem regGroup_rSch_7 (x : Sc) : regGroup (rSch x 7) = 9 := by revert x; decide +kernel
@[simp] theorem regGroup_rSch_8 (x : Sc) : regGroup (rSch x 8) = 9 := by revert x; decide +kernel
@[simp] theorem regGroup_rSch_9 (x : Sc) : regGroup (rSch x 9) = 9 := by revert x; decide +kernel
@[simp] theorem regGroup_rSchStatus (x : Sc) : regGroup (rSchStatus x) = 9 := by revert x; decide +kernel
@[simp] theorem regGroup_rSchPeak (x : Sc) : regGroup (rSchPeak x) = 9 := by revert x; decide +kernel
@[simp] theorem regGroup_rPrtStatus (p : PortId) : regGroup (rPrtStatus p) = 6 := by revert p; decide +kernel
@[simp] theorem regGroup_rPrtReqs (p : PortId) : regGroup (rPrtReqs p) = 6 := by revert p; decide +kernel
@[simp] theorem regGroup_rPrtFails (p : PortId) : regGroup (rPrtFails p) = 6 := by revert p; decide +kernel
@[simp] theorem regGroup_rPrtNotOwned (p : PortId) : regGroup (rPrtNotOwned p) = 6 := by revert p; decide +kernel
@[simp] theorem regGroup_rRef_0 (x : Sc) : regGroup (rRef x 0) = 12 := by revert x; decide +kernel
@[simp] theorem regGroup_rRef_1 (x : Sc) : regGroup (rRef x 1) = 12 := by revert x; decide +kernel
@[simp] theorem regGroup_rRef_2 (x : Sc) : regGroup (rRef x 2) = 12 := by revert x; decide +kernel
@[simp] theorem regGroup_rRef_3 (x : Sc) : regGroup (rRef x 3) = 12 := by revert x; decide +kernel
@[simp] theorem regGroup_rRef_4 (x : Sc) : regGroup (rRef x 4) = 12 := by revert x; decide +kernel
@[simp] theorem regGroup_rRef_6 (x : Sc) : regGroup (rRef x 6) = 12 := by revert x; decide +kernel
@[simp] theorem regGroup_rRef_7 (x : Sc) : regGroup (rRef x 7) = 12 := by revert x; decide +kernel
@[simp] theorem regGroup_rMnt_0 (x : Sc) (q : Fin 7) : regGroup (rMnt x q 0) = 10 := by revert x q; decide +kernel
@[simp] theorem regGroup_rMnt_1 (x : Sc) (q : Fin 7) : regGroup (rMnt x q 1) = 10 := by revert x q; decide +kernel
@[simp] theorem regGroup_rMnt_2 (x : Sc) (q : Fin 7) : regGroup (rMnt x q 2) = 10 := by revert x q; decide +kernel
@[simp] theorem regGroup_rRas_0 (x : Sc) : regGroup (rRas x 0) = 14 := by revert x; decide +kernel
@[simp] theorem regGroup_rRas_1 (x : Sc) : regGroup (rRas x 1) = 14 := by revert x; decide +kernel
@[simp] theorem regGroup_rRas_2 (x : Sc) : regGroup (rRas x 2) = 14 := by revert x; decide +kernel
@[simp] theorem regGroup_rRas_3 (x : Sc) : regGroup (rRas x 3) = 14 := by revert x; decide +kernel
@[simp] theorem regGroup_rRas_4 (x : Sc) : regGroup (rRas x 4) = 14 := by revert x; decide +kernel
@[simp] theorem regGroup_rRas_5 (x : Sc) : regGroup (rRas x 5) = 14 := by revert x; decide +kernel
@[simp] theorem regGroup_rRas_6 (x : Sc) : regGroup (rRas x 6) = 14 := by revert x; decide +kernel
@[simp] theorem regGroup_rRas_7 (x : Sc) : regGroup (rRas x 7) = 14 := by revert x; decide +kernel
@[simp] theorem regGroup_rRas_9 (x : Sc) : regGroup (rRas x 9) = 14 := by revert x; decide +kernel
@[simp] theorem regGroup_rRas_replays (x : Sc) (c : Prop) [Decidable c] : regGroup (rRas x (if c then 8 else 7)) = 14 := by
  split
  · revert x; decide +kernel
  · revert x; decide +kernel
@[simp] theorem regGroup_scrubs (x : Sc) : regGroup (0x14050 + 0x10 * x.val) = 14 := by revert x; decide +kernel
@[simp] theorem regGroup_forced (x : Sc) : regGroup (0x20108 + 0x10 * x.val) = 15 := by revert x; decide +kernel
@[simp] theorem regGroup_swatch (x : Sc) : regGroup (0x20104 + 0x10 * x.val) = 15 := by revert x; decide +kernel
@[simp] theorem regGroup_preempt (x : Sc) : regGroup (0xd060 + 4 * x.val) = 10 := by revert x; decide +kernel
@[simp] theorem regGroup_gear (x : Gear) : regGroup (0xe000 + 0x200 * x.val) = 11 := by revert x; decide +kernel
@[simp] theorem regGroup_window (x : Sc) : regGroup (0xc014 + 0x400 * x.val) = 9 := by revert x; decide +kernel
@[simp] theorem regGroup_mitig (x : Sc) : regGroup (0x10114 + 0x40 * x.val) = 12 := by revert x; decide +kernel
theorem regGroup_dbgData : ∀ n ∈ List.range 16, regGroup (0x38040 + 4 * n) = 17 := by decide +kernel

end Sys2Proof.Machine
end

