-- ==== Sys2Proof/Laws/FrameOps.lean ====
section
/-! SUPPORT. The parts of State that the operations of Regs, Ops, AddrMap, Code, Chioz, GearReq, QosOps, MirOps, RasOps, SchedOps, PhyOps keep. -/

namespace Sys2Proof.Machine

@[simp] theorem regSet_keeps {hid : Nat} (off : Nat) (w : Word) (s : State) (hw : hid / 2 ^
    (147 + regGroup off) % 2 = 1) :
    (regSet off w s).seen hid = s.seen hid := by
  unfold regSet
  exact mk_regs_keeps _ _ (regsSeen_kset _ _ _ (by simpa using hw))

@[simp] theorem regPut_keeps {hid : Nat} (off hi lo v : Nat) (s : State) (hw : hid / 2 ^ (147 + regGroup off) % 2 = 1) :
    (regPut off hi lo v s).seen hid = s.seen hid := by
  unfold regPut
  simp [hw]

@[simp] theorem bumpBy_keeps {hid : Nat} (n off : Nat) (s : State) (hw : hid / 2 ^ (147 + regGroup off) % 2 = 1) :
    (bumpBy n off s).seen hid = s.seen hid := by
  unfold bumpBy
  simp [hw]

@[simp] theorem bump_keeps {hid : Nat} (off : Nat) (s : State) (hw : hid / 2 ^ (147 + regGroup off) % 2 = 1) :
    (bump off s).seen hid = s.seen hid := by
  unfold bump
  simp [hw]

@[simp] theorem sqSet_keeps {hid : Nat} (off : Nat) (bits : Word) (s : State) (hw : hid / 2 ^
    (147 + regGroup off) % 2 = 1) :
    (sqSet off bits s).seen hid = s.seen hid := by
  unfold sqSet
  simp [hw]

@[simp] theorem sqClear_keeps {hid : Nat} (off : Nat) (w : Word) (s : State) (hw : hid / 2 ^
    (147 + regGroup off) % 2 = 1) :
    (sqClear off w s).seen hid = s.seen hid := by
  unfold sqClear
  dsimp only
  split <;> simp [hw]

@[simp] theorem regSet64_keeps {hid : Nat} (off v : Nat) (s : State) (hw : hid / 2 ^ (147 + regGroup off) % 2 = 1)
    (h4 : hid / 2 ^ (147 + regGroup (off + 4)) % 2 = 1) :
    (regSet64 off v s).seen hid = s.seen hid := by
  unfold regSet64
  simp [hw, h4]

@[simp] theorem bufferRec_keeps {hid : Nat}
    (hw : 0x40000011200000000000000000000000000000000000 &&& hid = 0x40000011200000000000000000000000000000000000) (ws : BitVec 16 → List Word) (src : Nat) (sev : Fin 8) (s : State) :
    (bufferRec ws src sev s).seen hid = s.seen hid := by
  refine seen_mono hw ?_
  unfold bufferRec
  dsimp only
  split
  · simp [State.seen, Evt.seen]
  · rw [bump_keeps _ _ (by simp)]
    simp [State.seen, Evt.seen]

@[simp] theorem raise_keeps {hid : Nat}
    (hw : 0x40000011200000000000000000000000000000000000 &&& hid = 0x40000011200000000000000000000000000000000000) (ty : Nat) (sev : Fin 8) (src : Nat) (payload : List Word) (s : State) :
    (raise ty sev src payload s).seen hid = s.seen hid := by
  refine seen_mono hw ?_
  unfold raise
  simp

@[simp] theorem expired_keeps {hid : Nat}
    (hw : 0x4000000000000000000000000000000000000 &&& hid = 0x4000000000000000000000000000000000000) (code : Nat) (s : State) :
    (expired code s).seen hid = s.seen hid := by
  refine seen_mono hw ?_
  unfold expired
  simp

@[simp] theorem expiredMore_keeps {hid : Nat}
    (hw : 0x6000000000000000000000000000000000000 &&& hid = 0x6000000000000000000000000000000000000) (code : Nat) (s : State) :
    (expiredMore code s).seen hid = s.seen hid := by
  refine seen_mono hw ?_
  unfold expiredMore
  simp

@[simp] theorem timeoutBy_keeps {hid : Nat}
    (hw : 0x40000017200000000000000000000000000000000000 &&& hid = 0x40000017200000000000000000000000000000000000) (always : Bool) (code : Nat) (sev : Fin 8) (src : Nat) (esc : Bool) (subject : Nat) (detail : Nat) (s : State) :
    (timeoutBy always code sev src esc subject detail s).seen hid = s.seen hid := by
  refine seen_mono hw ?_
  unfold timeoutBy
  simp

@[simp] theorem timeout_keeps {hid : Nat}
    (hw : 0x40000017200000000000000000000000000000000000 &&& hid = 0x40000017200000000000000000000000000000000000) (code : Nat) (sev : Fin 8) (src : Nat) (esc : Bool) (subject : Nat) (detail : Nat) (s : State) :
    (timeout code sev src esc subject detail s).seen hid = s.seen hid := by
  refine seen_mono hw ?_
  unfold timeout
  simp

@[simp] theorem missAll_keeps {hid : Nat} (hw : 0x100000000000 &&& hid = 0x100000000000) (bit : Nat) (s : State) :
    (missAll bit s).seen hid = s.seen hid := by
  refine seen_mono hw ?_
  unfold missAll
  simp

@[simp] theorem enter_keeps {hid : Nat}
    (hw : 0x8000000000000000000000000100000000001 &&& hid = 0x8000000000000000000000000100000000001) (c : Ctl) (s : State) :
    (enter c s).seen hid = s.seen hid := by
  refine seen_mono hw ?_
  unfold enter
  simp

@[simp] theorem halt_keeps {hid : Nat}
    (hw : 0x8000000000000000000000000100000008003 &&& hid = 0x8000000000000000000000000100000008003) (cause : Byte) (s : State) :
    (halt cause s).seen hid = s.seen hid := by
  refine seen_mono hw ?_
  unfold halt
  simp

@[simp] theorem toStep_keeps {hid : Nat} (hw : 0x4 &&& hid = 0x4) (n : Byte) (s : State) :
    (toStep n s).seen hid = s.seen hid := by
  refine seen_mono hw ?_
  unfold toStep
  simp

@[simp] theorem nextFree_keeps {hid : Nat}
    (hw : 0x80000000000000000000000000000000000000000000 &&& hid = 0x80000000000000000000000000000000000000000000) (s : State) :
    (nextFree s).seen hid = s.seen hid := by
  refine seen_mono hw ?_
  unfold nextFree
  simp

@[simp] theorem respond_keeps {hid : Nat}
    (hw : 0x20000200000000000000000000000000000000000000 &&& hid = 0x20000200000000000000000000000000000000000000) (p : PortId) (tag : BitVec 10) (gen : BitVec 2) (st : Status) (data : Line) (src : BitVec 10) (xid : BitVec 16) (stale : Bool) (epoch : BitVec 8) (s : State) :
    (respond p tag gen st data src xid stale epoch s).seen hid = s.seen hid := by
  refine seen_mono hw ?_
  unfold respond
  (repeat' split) <;> simp

@[simp] theorem cycleEnds_keeps {hid : Nat}
    (hw : 0x1000000000000000000000000000000000000000000 &&& hid = 0x1000000000000000000000000000000000000000000) (level : Bool) (s : State) :
    (cycleEnds level s).seen hid = s.seen hid := by
  refine seen_mono hw ?_
  unfold cycleEnds
  simp

@[simp] theorem portCycles_keeps {hid : Nat}
    (hw : 0x1000000000000000000000000000000000000000000 &&& hid = 0x1000000000000000000000000000000000000000000) (s : State) :
    (portCycles s).seen hid = s.seen hid := by
  refine seen_mono hw ?_
  unfold portCycles
  simp

@[simp] theorem dropInflight_keeps {hid : Nat}
    (hw : 0x1000000000000000000000000000000000000000000 &&& hid = 0x1000000000000000000000000000000000000000000) (p : PortId) (wr : Bool) (s : State) :
    (dropInflight p wr s).seen hid = s.seen hid := by
  refine seen_mono hw ?_
  unfold dropInflight
  simp

@[simp] theorem finish_keeps {hid : Nat}
    (hw : 0x3000000000000000000000000000000000000000000 &&& hid = 0x3000000000000000000000000000000000000000000) (id : Nat) (s : State) :
    (finish id s).seen hid = s.seen hid := by
  refine seen_mono hw ?_
  unfold finish
  (repeat' split) <;> simp

@[simp] theorem writtenToDram_keeps {hid : Nat}
    (hw : 0x3000000000000000000000000000000000000000000 &&& hid = 0x3000000000000000000000000000000000000000000) (id : Nat) (s : State) :
    (writtenToDram id s).seen hid = s.seen hid := by
  refine seen_mono hw ?_
  unfold writtenToDram
  (repeat' split) <;> simp

@[simp] theorem answer1_keeps {hid : Nat}
    (hw : 0x23000200000000000000000000000000000000000000 &&& hid = 0x23000200000000000000000000000000000000000000) (id : Nat) (st : Status) (data : Line) (stale : Bool) (epoch : BitVec 8) (s : State) :
    (answer1 id st data stale epoch s).seen hid = s.seen hid := by
  refine seen_mono hw ?_
  unfold answer1
  (repeat' split) <;> simp

@[simp] theorem barriers_keeps {hid : Nat}
    (hw : 0x23000200000000000000000000000000000000000000 &&& hid = 0x23000200000000000000000000000000000000000000) (s : State) :
    (barriers s).seen hid = s.seen hid := by
  refine seen_mono hw ?_
  unfold barriers
  simp

@[simp] theorem answerX_keeps {hid : Nat}
    (hw : 0x23000200000000000000000000000000000000000000 &&& hid = 0x23000200000000000000000000000000000000000000) (id : Nat) (st : Status) (data : Line) (stale : Bool) (epoch : BitVec 8) (s : State) :
    (answerX id st data stale epoch s).seen hid = s.seen hid := by
  refine seen_mono hw ?_
  unfold answerX
  simp

@[simp] theorem answer_keeps {hid : Nat}
    (hw : 0x23000200000000000000000000000000000000000000 &&& hid = 0x23000200000000000000000000000000000000000000) (id : Nat) (st : Status) (data : Line) (s : State) :
    (answer id st data s).seen hid = s.seen hid := by
  refine seen_mono hw ?_
  unfold answer
  (repeat' split) <;> simp

@[simp] theorem failReq_keeps {hid : Nat}
    (hw : 0x23000200000000000000000000000000000000000000 &&& hid = 0x23000200000000000000000000000000000000000000) (id : Nat) (s : State) :
    (failReq id s).seen hid = s.seen hid := by
  refine seen_mono hw ?_
  unfold failReq
  simp

@[simp] theorem respOk_keeps {hid : Nat}
    (hw : 0x20000000000000000000000000000000000000000000 &&& hid = 0x20000000000000000000000000000000000000000000) (d : Word) (s : State) :
    (respOk d s).seen hid = s.seen hid := by
  refine seen_mono hw ?_
  unfold respOk
  simp

@[simp] theorem onPort_keeps {hid : Nat}
    (hw : 0x20000000000000000000000000000000000000000000 &&& hid = 0x20000000000000000000000000000000000000000000) (priv : Bool) (f : State → State) (s : State)
    (h : (f s).seen hid = s.seen hid) : (onPort priv f s).seen hid = s.seen hid := by
  unfold onPort
  (repeat' split) <;> simp [h, hw]

@[simp] theorem imagePort_keeps {hid : Nat}
    (hw : 0x20000000000000000000000000000000000000000000 &&& hid = 0x20000000000000000000000000000000000000000000) (f : State → State) (s : State)
    (h : (f s).seen hid = s.seen hid) : (imagePort f s).seen hid = s.seen hid := by
  unfold imagePort
  split <;> simp [h, hw]

@[simp] theorem dropDeferred_keeps {hid : Nat}
    (hw : 0x20000000006000000000000000000000000000000000 &&& hid = 0x20000000006000000000000000000000000000000000) (s : State) :
    (dropDeferred s).seen hid = s.seen hid := by
  refine seen_mono hw ?_
  unfold dropDeferred
  simp

@[simp] theorem egpAsk_keeps {hid : Nat} (hw : 0x20000000000000000000 &&& hid = 0x20000000000000000000) (r : EgpReq)
    (s : State) :
    (egpAsk r s).seen hid = s.seen hid := by
  refine seen_mono hw ?_
  unfold egpAsk
  simp

@[simp] theorem egpAskFirst_keeps {hid : Nat} (hw : 0x20000000000000000000 &&& hid = 0x20000000000000000000)
    (r : EgpReq) (s : State) :
    (egpAskFirst r s).seen hid = s.seen hid := by
  refine seen_mono hw ?_
  unfold egpAskFirst
  simp

@[simp] theorem dueAsleep_keeps {hid : Nat}
    (hw : 0x1000000000000000000000000000000000 &&& hid = 0x1000000000000000000000000000000000) (x : Sc) (s : State) :
    (dueAsleep x s).seen hid = s.seen hid := by
  refine seen_mono hw ?_
  unfold dueAsleep
  simp

@[simp] theorem wideSync_keeps {hid : Nat}
    (hw : 0x200000000000000000000000000000000 &&& hid = 0x200000000000000000000000000000000) (off : Nat) (s : State) :
    (wideSync off s).seen hid = s.seen hid := by
  refine seen_mono hw ?_
  unfold wideSync
  simp

@[simp] theorem sendMsg_keeps {hid : Nat}
    (hw : 0x200000020000000000000000000 &&& hid = 0x200000020000000000000000000) (ty : Nat) (dst : BitVec 10) (epoch : Nat) (pay : List Word) (why : EgpFor) (s : State) :
    (sendMsg ty dst epoch pay why s).seen hid = s.seen hid := by
  refine seen_mono hw ?_
  unfold sendMsg
  try simp
  (repeat' (first | split | (refine (forAll_keeps _ _ _ (fun a s => ?_)).trans ?_) | dsimp only)) <;> (first | rfl | (simp; done) | (simp_all; done))

@[simp] theorem sendPeer_keeps {hid : Nat}
    (hw : 0x200000020000000000000000000 &&& hid = 0x200000020000000000000000000) (ty : Nat) (pay : List Word) (why : EgpFor) (s : State) :
    (sendPeer ty pay why s).seen hid = s.seen hid := by
  refine seen_mono hw ?_
  unfold sendPeer
  simp

@[simp] theorem gearTake_keeps {hid : Nat}
    (hw : 0x4000000000000000000000000C000000000000000 &&& hid = 0x4000000000000000000000000C000000000000000) (s : State) :
    (gearTake s).seen hid = s.seen hid := by
  refine seen_mono hw ?_
  unfold gearTake
  simp
  (repeat' split) <;> (first | (simp; done) | (simp_all; done))

@[simp] theorem gearAsk_keeps {hid : Nat}
    (hw : 0x4000000000000000000000000C000000000000000 &&& hid = 0x4000000000000000000000000C000000000000000) (g : Gear) (s : State) :
    (gearAsk g s).seen hid = s.seen hid := by
  refine seen_mono hw ?_
  unfold gearAsk
  simp

@[simp] theorem actGearReq_keeps {hid : Nat}
    (hw : 0x4000000000000000000000000C000000000000000 &&& hid = 0x4000000000000000000000000C000000000000000) (v : Word) (s : State) :
    (actGearReq v s).seen hid = s.seen hid := by
  refine seen_mono hw ?_
  unfold actGearReq
  simp

@[simp] theorem policyPanic_keeps {hid : Nat}
    (hw : 0x4000000000000000000000000C000000000000000 &&& hid = 0x4000000000000000000000000C000000000000000) (s : State) :
    (policyPanic s).seen hid = s.seen hid := by
  refine seen_mono hw ?_
  unfold policyPanic
  simp

@[simp] theorem setPart_keeps {hid : Nat} (hw : 0x100000000000 &&& hid = 0x100000000000) (label : Nat) (p : Part)
    (s : State) :
    (setPart label p s).seen hid = s.seen hid := by
  refine seen_mono hw ?_
  unfold setPart
  simp

@[simp] theorem updPart_keeps {hid : Nat} (hw : 0x100000000000 &&& hid = 0x100000000000) (label : Nat)
    (f : Part → Part) (s : State) :
    (updPart label f s).seen hid = s.seen hid := by
  refine seen_mono hw ?_
  unfold updPart
  first
    | (simp; done)
    | (((repeat' split) <;> (first | (simp; done) | (simp_all; done))); done)
    | (simp; (repeat' split) <;> (first | (simp; done) | (simp_all; done)))
    | (simp [State.seen, Glb.seen, Qz.seen, Ref.seen, Qos.seen, Phy.seen, Ras.seen, Egp.seen, Mir.seen, Dom.seen, Img.seen, Glg.seen, Pwr.seen, Evt.seen]; done)

@[simp] theorem shaperDebit_keeps {hid : Nat} (hw : 0x100000000000 &&& hid = 0x100000000000) (label : Nat) (s : State) :
    (shaperDebit label s).seen hid = s.seen hid := by
  refine seen_mono hw ?_
  unfold shaperDebit
  simp

@[simp] theorem tbDebit_keeps {hid : Nat} (hw : 0x400000000000 &&& hid = 0x400000000000) (x : Sc) (s : State) :
    (tbDebit x s).seen hid = s.seen hid := by
  refine seen_mono hw ?_
  unfold tbDebit
  simp

@[simp] theorem enterTier_keeps {hid : Nat}
    (hw : 0x2000000000000000000000000000000100000000000 &&& hid = 0x2000000000000000000000000000000100000000000) (r : Req) (t : Option (Fin 5)) (s : State) :
    (enterTier r t s).seen hid = s.seen hid := by
  refine seen_mono hw ?_
  unfold enterTier
  (repeat' split) <;> simp

@[simp] theorem colourHead_keeps {hid : Nat}
    (hw : 0x2000000000000000000000000000000100000000000 &&& hid = 0x2000000000000000000000000000000100000000000) (r : Req) (s : State) :
    (colourHead r s).seen hid = s.seen hid := by
  refine seen_mono hw ?_
  unfold colourHead
  simp

@[simp] theorem dropTags_keeps {hid : Nat} (hw : 0x100000000000 &&& hid = 0x100000000000) (s : State) :
    (dropTags s).seen hid = s.seen hid := by
  refine seen_mono hw ?_
  unfold dropTags
  simp

@[simp] theorem colourHeads_keeps {hid : Nat}
    (hw : 0x2000000000000000000000000000000100000000000 &&& hid = 0x2000000000000000000000000000000100000000000) (s : State) :
    (colourHeads s).seen hid = s.seen hid := by
  refine seen_mono hw ?_
  unfold colourHeads
  simp

@[simp] theorem urgeRtp_keeps {hid : Nat}
    (hw : 0x8000000000000000000000000000000000000000000 &&& hid = 0x8000000000000000000000000000000000000000000) (s : State) :
    (urgeRtp s).seen hid = s.seen hid := by
  refine seen_mono hw ?_
  unfold urgeRtp
  simp

@[simp] theorem panicUpdate_keeps {hid : Nat}
    (hw : 0xA04020000000000000000000000C050100000000000 &&& hid = 0xA04020000000000000000000000C050100000000000) (s : State) :
    (panicUpdate s).seen hid = s.seen hid := by
  refine seen_mono hw ?_
  unfold panicUpdate
  simp

@[simp] theorem ingressLeft_keeps {hid : Nat}
    (hw : 0xA04020000000000000000000000C050100000000000 &&& hid = 0xA04020000000000000000000000C050100000000000) (s : State) :
    (ingressLeft s).seen hid = s.seen hid := by
  refine seen_mono hw ?_
  unfold ingressLeft
  simp

@[simp] theorem demand_keeps {hid : Nat} (hw : 0x200000 &&& hid = 0x200000) (l : Lla) (s : State) :
    (demand l s).seen hid = s.seen hid := by
  refine seen_mono hw ?_
  unfold demand
  simp

@[simp] theorem glgCharge_keeps {hid : Nat} (hw : 0x500000000000 &&& hid = 0x500000000000) (label : Nat) (x : Sc)
    (s : State) :
    (glgCharge label x s).seen hid = s.seen hid := by
  refine seen_mono hw ?_
  unfold glgCharge
  simp

@[simp] theorem missNote_keeps {hid : Nat} (hw : 0x100000000000 &&& hid = 0x100000000000) (bit : Nat)
    (pick : Nat → Part → Bool) (s : State) :
    (missNote bit pick s).seen hid = s.seen hid := by
  refine seen_mono hw ?_
  unfold missNote
  first
    | (simp; done)
    | (((repeat' split) <;> (first | (simp; done) | (simp_all; done))); done)
    | (simp; (repeat' split) <;> (first | (simp; done) | (simp_all; done)))
    | (simp [State.seen, Glb.seen, Qz.seen, Ref.seen, Qos.seen, Phy.seen, Ras.seen, Egp.seen, Mir.seen, Dom.seen, Img.seen, Glg.seen, Pwr.seen, Evt.seen]; done)

@[simp] theorem missQueued_keeps {hid : Nat} (hw : 0x100000000000 &&& hid = 0x100000000000) (r : Req) (s : State) :
    (missQueued r s).seen hid = s.seen hid := by
  refine seen_mono hw ?_
  unfold missQueued
  simp

@[simp] theorem missEmergency_keeps {hid : Nat} (hw : 0x100000000000 &&& hid = 0x100000000000) (x : Sc) (s : State) :
    (missEmergency x s).seen hid = s.seen hid := by
  refine seen_mono hw ?_
  unfold missEmergency
  simp

@[simp] theorem chargePart_keeps {hid : Nat}
    (hw : 0x2000400000000000000000000000000000000000000 &&& hid = 0x2000400000000000000000000000000000000000000) (q : Req) (s : State) :
    (chargePart q s).seen hid = s.seen hid := by
  refine seen_mono hw ?_
  unfold chargePart
  simp

@[simp] theorem copyPut_keeps {hid : Nat}
    (hw : 0x8000000000000000000000000000000000000000000 &&& hid = 0x8000000000000000000000000000000000000000000) (c : Ch) (l : Lla) (d : Line) (s : State) :
    (copyPut c l d s).seen hid = s.seen hid := by
  refine seen_mono hw ?_
  unfold copyPut
  simp

@[simp] theorem initDone_keeps {hid : Nat}
    (hw : 0x8000000000000000000000000000000000000 &&& hid = 0x8000000000000000000000000000000000000) (s : State) :
    (initDone s).seen hid = s.seen hid := by
  refine seen_mono hw ?_
  unfold initDone
  simp

@[simp] theorem pumpInit_keeps {hid : Nat}
    (hw : 0x80000080000000000000000000000000000001C0000 &&& hid = 0x80000080000000000000000000000000000001C0000) (r : Nat) (s : State) :
    (pumpInit r s).seen hid = s.seen hid := by
  refine seen_mono hw ?_
  unfold pumpInit
  simp

@[simp] theorem pumpDirty_keeps {hid : Nat}
    (hw : 0x8000000000000000000800000000000000000000000 &&& hid = 0x8000000000000000000800000000000000000000000) (k : Nat) (s : State) :
    (pumpDirty k s).seen hid = s.seen hid := by
  refine seen_mono hw ?_
  unfold pumpDirty
  simp

@[simp] theorem answerSettled_keeps {hid : Nat}
    (hw : 0x23000200000000000000000000000000000000000000 &&& hid = 0x23000200000000000000000000000000000000000000) (id : Nat) (s : State) :
    (answerSettled id s).seen hid = s.seen hid := by
  refine seen_mono hw ?_
  unfold answerSettled
  simp

@[simp] theorem dirtyRelease_keeps {hid : Nat}
    (hw : 0x23000200000000000000000000000000000000000000 &&& hid = 0x23000200000000000000000000000000000000000000) (s : State) :
    (dirtyRelease s).seen hid = s.seen hid := by
  refine seen_mono hw ?_
  unfold dirtyRelease
  simp

@[simp] theorem recordRelease_keeps {hid : Nat}
    (hw : 0x1000020000000000000000000 &&& hid = 0x1000020000000000000000000) (s : State) :
    (recordRelease s).seen hid = s.seen hid := by
  refine seen_mono hw ?_
  unfold recordRelease
  (repeat' split) <;> simp [State.seen, Glb.seen, Qz.seen, Ref.seen, Qos.seen, Phy.seen, Ras.seen, Egp.seen, Mir.seen, Dom.seen, Img.seen, Glg.seen, Pwr.seen, Evt.seen]

@[simp] theorem pumpCopy_keeps {hid : Nat}
    (hw : 0x2B0002080000000000018000200000000000001C0000 &&& hid = 0x2B0002080000000000018000200000000000001C0000) (s : State) :
    (pumpCopy s).seen hid = s.seen hid := by
  refine seen_mono hw ?_
  unfold pumpCopy
  simp

@[simp] theorem copyWrite_keeps {hid : Nat}
    (hw : 0x2B0002080000000000018000200000000000001C0000 &&& hid = 0x2B0002080000000000018000200000000000001C0000) (k : Nat) (s : State) :
    (copyWrite k s).seen hid = s.seen hid := by
  refine seen_mono hw ?_
  unfold copyWrite
  simp

@[simp] theorem setDirty_keeps {hid : Nat}
    (hw : 0x2B000308000000000001C000200000000000001C0000 &&& hid = 0x2B000308000000000001C000200000000000001C0000) (r : Nat) (s : State) :
    (setDirty r s).seen hid = s.seen hid := by
  refine seen_mono hw ?_
  unfold setDirty
  simp

@[simp] theorem writeRecords_keeps {hid : Nat}
    (hw : 0x2B0002080000000000018000200000000000001C0000 &&& hid = 0x2B0002080000000000018000200000000000001C0000) (s : State) :
    (writeRecords s).seen hid = s.seen hid := by
  refine seen_mono hw ?_
  unfold writeRecords
  simp

@[simp] theorem mirRecord_keeps {hid : Nat}
    (hw : 0x40000011200000000000000000000000000000000000 &&& hid = 0x40000011200000000000000000000000000000000000) (ty : Nat) (sev : Fin 8) (kind : Nat) (prev : Nat) (tok : Nat) (s : State) :
    (mirRecord ty sev kind prev tok s).seen hid = s.seen hid := by
  refine seen_mono hw ?_
  unfold mirRecord
  simp

@[simp] theorem roleRecord_keeps {hid : Nat}
    (hw : 0x40000111200000000000000000000000000000000000 &&& hid = 0x40000111200000000000000000000000000000000000) (reason : Nat) (prev : BitVec 8) (s : State) :
    (roleRecord reason prev s).seen hid = s.seen hid := by
  refine seen_mono hw ?_
  unfold roleRecord
  simp

@[simp] theorem reqRole_keeps {hid : Nat} (hw : 0x8000000000000000000000000 &&& hid = 0x8000000000000000000000000)
    (reason : Nat) (s : State) :
    (reqRole reason s).seen hid = s.seen hid := by
  refine seen_mono hw ?_
  unfold reqRole
  simp

@[simp] theorem settle_keeps {hid : Nat}
    (hw : 0x2B000308000000000009C000200000000000001C0000 &&& hid = 0x2B000308000000000009C000200000000000001C0000) (id : Nat) (s : State) :
    (settle id s).seen hid = s.seen hid := by
  refine seen_mono hw ?_
  unfold settle
  (repeat' split) <;> simp

@[simp] theorem settleLocal_keeps {hid : Nat}
    (hw : 0x2B000308000000000009C000200000000000001C0000 &&& hid = 0x2B000308000000000009C000200000000000001C0000) (id : Nat) (c : Commit) (s : State) :
    (settleLocal id c s).seen hid = s.seen hid := by
  refine seen_mono hw ?_
  unfold settleLocal
  simp

@[simp] theorem settlePeer_keeps {hid : Nat}
    (hw : 0x2B000308000000000009C000200000000000001C0000 &&& hid = 0x2B000308000000000009C000200000000000001C0000) (id : Nat) (c : Commit) (s : State) :
    (settlePeer id c s).seen hid = s.seen hid := by
  refine seen_mono hw ?_
  unfold settlePeer
  simp

@[simp] theorem glgFail_keeps {hid : Nat}
    (hw : 0x10000000000000000000000000000000 &&& hid = 0x10000000000000000000000000000000) (i : InstId) (e : Byte) (s : State) :
    (glgFail i e s).seen hid = s.seen hid := by
  refine seen_mono hw ?_
  unfold glgFail
  simp

@[simp] theorem glgUnmirrored_keeps {hid : Nat}
    (hw : 0x2B000308000010000001C000200000000000001C0000 &&& hid = 0x2B000308000010000001C000200000000000001C0000) (w : InstId × Byte × Lla) (s : State) :
    (glgUnmirrored w s).seen hid = s.seen hid := by
  refine seen_mono hw ?_
  unfold glgUnmirrored
  simp

@[simp] theorem settleOpen_keeps {hid : Nat}
    (hw : 0x2B000308000000000009C000200000000000001C0000 &&& hid = 0x2B000308000000000009C000200000000000001C0000) (s : State) :
    (settleOpen s).seen hid = s.seen hid := by
  refine seen_mono hw ?_
  unfold settleOpen
  simp

@[simp] theorem dropForwards_keeps {hid : Nat}
    (hw : 0x2B000308000010000009C000200000000000001C0000 &&& hid = 0x2B000308000010000009C000200000000000001C0000) (s : State) :
    (dropForwards s).seen hid = s.seen hid := by
  refine seen_mono hw ?_
  unfold dropForwards
  simp

@[simp] theorem degrade_keeps {hid : Nat}
    (hw : 0x6B000319200010000089D01E200000000000001C0000 &&& hid = 0x6B000319200010000089D01E200000000000001C0000) (cause : Nat) (tok : Nat) (s : State) :
    (degrade cause tok s).seen hid = s.seen hid := by
  refine seen_mono hw ?_
  unfold degrade
  simp

@[simp] theorem forward_keeps {hid : Nat}
    (hw : 0x2B000308000000000209C000200000000000001C0000 &&& hid = 0x2B000308000000000209C000200000000000001C0000) (id : Nat) (data : Line) (poison : Bool) (s : State) :
    (forward id data poison s).seen hid = s.seen hid := by
  refine seen_mono hw ?_
  unfold forward
  (repeat' split) <;> simp

@[simp] theorem heldNotOwned_keeps {hid : Nat}
    (hw : 0x2B04020000000000000000000000C050100000000000 &&& hid = 0x2B04020000000000000000000000C050100000000000) (s : State) :
    (heldNotOwned s).seen hid = s.seen hid := by
  refine seen_mono hw ?_
  unfold heldNotOwned
  simp

@[simp] theorem roleOff_keeps {hid : Nat}
    (hw : 0x100000000000048000000000000000000000000 &&& hid = 0x100000000000048000000000000000000000000) (s : State) :
    (roleOff s).seen hid = s.seen hid := by
  refine seen_mono hw ?_
  unfold roleOff
  (repeat' split) <;> simp

@[simp] theorem learnEpoch_keeps {hid : Nat}
    (hw : 0x6B0403192000100000C9D43F2000C0501000001C0000 &&& hid = 0x6B0403192000100000C9D43F2000C0501000001C0000) (e : BitVec 8) (s : State) :
    (learnEpoch e s).seen hid = s.seen hid := by
  refine seen_mono hw ?_
  unfold learnEpoch
  simp

@[simp] theorem setUnit_keeps {hid : Nat} (hw : 0x80000000000000000 &&& hid = 0x80000000000000000) (x : Sc)
    (u : Nat) (r : RasUnit) (s : State) :
    (setUnit x u r s).seen hid = s.seen hid := by
  refine seen_mono hw ?_
  unfold setUnit
  simp

@[simp] theorem rasRaise_keeps {hid : Nat}
    (hw : 0x40000013200000000000000000000000000000000000 &&& hid = 0x40000013200000000000000000000000000000000000) (ty : Nat) (sev : Fin 8) (lim : Bool) (l : Lla) (d : Decoded) (i : RasInfo) (s : State) :
    (rasRaise ty sev lim l d i s).seen hid = s.seen hid := by
  refine seen_mono hw ?_
  unfold rasRaise
  simp

@[simp] theorem readRecord_keeps {hid : Nat}
    (hw : 0x40000013200000000000000000000000000000000000 &&& hid = 0x40000013200000000000000000000000000000000000) (l : Lla) (d : Decoded) (i : RasInfo) (s : State) :
    (readRecord l d i s).seen hid = s.seen hid := by
  refine seen_mono hw ?_
  unfold readRecord
  (repeat' split) <;> simp

@[simp] theorem ueSeen_keeps {hid : Nat}
    (hw : 0x20000000000000000000000000000000000000000 &&& hid = 0x20000000000000000000000000000000000000000) (x : Sc) (o : Outcome5) (s : State) :
    (ueSeen x o s).seen hid = s.seen hid := by
  refine seen_mono hw ?_
  unfold ueSeen
  simp

@[simp] theorem countRead_keeps {hid : Nat}
    (hw : 0x20000000000000000000000000000000000000000 &&& hid = 0x20000000000000000000000000000000000000000) (x : Sc) (o : Outcome5) (s : State) :
    (countRead x o s).seen hid = s.seen hid := by
  refine seen_mono hw ?_
  unfold countRead
  (repeat' split) <;> simp

@[simp] theorem ootAdd_keeps {hid : Nat}
    (hw : 0x20000000000000000000000200000000000000000 &&& hid = 0x20000000000000000000000200000000000000000) (x : Sc) (l : Lla) (s : State) :
    (ootAdd x l s).seen hid = s.seen hid := by
  refine seen_mono hw ?_
  unfold ootAdd
  simp

@[simp] theorem ootRead_keeps {hid : Nat}
    (hw : 0x20000000000000000000000200000000000000000 &&& hid = 0x20000000000000000000000200000000000000000) (l : Lla) (o : Outcome5) (s : State) :
    (ootRead l o s).seen hid = s.seen hid := by
  refine seen_mono hw ?_
  unfold ootRead
  simp

@[simp] theorem rowLogHit_keeps {hid : Nat} (hw : 0x900000000000000000 &&& hid = 0x900000000000000000) (l : Lla)
    (dev : Nat) (s : State) :
    (rowLogHit l dev s).seen hid = s.seen hid := by
  refine seen_mono hw ?_
  unfold rowLogHit
  simp

@[simp] theorem spareAsk_keeps {hid : Nat} (hw : 0x2000000000000000000 &&& hid = 0x2000000000000000000) (c : Ch)
    (r : SpareReq) (s : State) :
    (spareAsk c r s).seen hid = s.seen hid := by
  refine seen_mono hw ?_
  unfold spareAsk
  simp

@[simp] theorem ueSpare_keeps {hid : Nat} (hw : 0x2000000000000000000 &&& hid = 0x2000000000000000000) (l : Lla)
    (before : RasUnit) (after : RasUnit) (s : State) :
    (ueSpare l before after s).seen hid = s.seen hid := by
  refine seen_mono hw ?_
  unfold ueSpare
  simp

@[simp] theorem reachMark_keeps {hid : Nat} (hw : 0x10000000000000000000 &&& hid = 0x10000000000000000000) (x : Sc)
    (u : Nat) (before : RasUnit) (after : RasUnit) (s : State) :
    (reachMark x u before after s).seen hid = s.seen hid := by
  refine seen_mono hw ?_
  unfold reachMark
  simp

@[simp] theorem account_keeps {hid : Nat} (hw : 0x12980000000000000000 &&& hid = 0x12980000000000000000) (l : Lla)
    (d : Decoded) (rx : Burst) (s : State) :
    (account l d rx s).seen hid = s.seen hid := by
  refine seen_mono hw ?_
  unfold account
  simp

@[simp] theorem countScrub_keeps {hid : Nat}
    (hw : 0x20000000000000000000000000000000000000000 &&& hid = 0x20000000000000000000000000000000000000000) (x : Sc) (o : Outcome5) (s : State) :
    (countScrub x o s).seen hid = s.seen hid := by
  refine seen_mono hw ?_
  unfold countScrub
  (repeat' split) <;> simp

@[simp] theorem setResult_keeps {hid : Nat}
    (hw : 0x20000000000000000000000000000000000000000 &&& hid = 0x20000000000000000000000000000000000000000) (busy : Bool) (code : Nat) (s : State) :
    (setResult busy code s).seen hid = s.seen hid := by
  refine seen_mono hw ?_
  unfold setResult
  simp

@[simp] theorem markedRecord_keeps {hid : Nat}
    (hw : 0x40000011200000000000000000000000000000000000 &&& hid = 0x40000011200000000000000000000000000000000000) (r : SpareReq) (action : Nat) (spare : Nat) (regions : Nat) (s : State) :
    (markedRecord r action spare regions s).seen hid = s.seen hid := by
  refine seen_mono hw ?_
  unfold markedRecord
  simp

@[simp] theorem abandonSparing_keeps {hid : Nat}
    (hw : 0x48020011200000000000000002000000000080000000 &&& hid = 0x48020011200000000000000002000000000080000000) (c : Ch) (s : State) :
    (abandonSparing c s).seen hid = s.seen hid := by
  refine seen_mono hw ?_
  unfold abandonSparing
  simp
  (repeat' split) <;> (first | (simp; done) | (simp_all; done))

@[simp] theorem dropRepairWork_keeps {hid : Nat}
    (hw : 0x8000000000000000000000000000000000000000000 &&& hid = 0x8000000000000000000000000000000000000000000) (p : Ppr) (keep : List Lla) (s : State) :
    (dropRepairWork p keep s).seen hid = s.seen hid := by
  refine seen_mono hw ?_
  unfold dropRepairWork
  simp

@[simp] theorem dropRepairs_keeps {hid : Nat}
    (hw : 0x8020000000000000000000000C00000000000000000 &&& hid = 0x8020000000000000000000000C00000000000000000) (c : Ch) (s : State) :
    (dropRepairs c s).seen hid = s.seen hid := by
  refine seen_mono hw ?_
  unfold dropRepairs
  simp
  (repeat' split) <;> (first | (simp; done) | (simp_all; done))

theorem forAll_keeps_mem {hid : Nat} {α : Type} (l : List α) (f : α → State → State) (s : State)
    (h : ∀ a ∈ l, ∀ s, (f a s).seen hid = s.seen hid) : (forAll l f s).seen hid = s.seen hid := by
  unfold forAll
  induction l generalizing s with
  | nil => rfl
  | cons a l ih =>
    rw [List.foldl_cons, ih _ fun b hb => h b (List.mem_cons_of_mem _ hb), h a List.mem_cons_self]

@[simp] theorem dbgEnd_keeps {hid : Nat}
    (hw : 0x100000000000000000000004000000000000000000 &&& hid = 0x100000000000000000000004000000000000000000) (outcome : Nat) (data : List Word) (s : State) :
    (dbgEnd outcome data s).seen hid = s.seen hid := by
  refine seen_mono hw ?_
  unfold dbgEnd
  dsimp only
  rw [regSet_keeps _ _ _ (by simp), updRas_keeps _ _ (by simp)]
  exact forAll_keeps_mem _ _ _ fun n hn s => regSet_keeps _ _ _ (by rw [regGroup_dbgData n hn]; decide)

@[simp] theorem rasLose_keeps {hid : Nat}
    (hw : 0x4812001120000000000000000EC00000000080000000 &&& hid = 0x4812001120000000000000000EC00000000080000000) (c : Ch) (s : State) :
    (rasLose c s).seen hid = s.seen hid := by
  refine seen_mono hw ?_
  unfold rasLose
  simp

@[simp] theorem schPeak_keeps {hid : Nat}
    (hw : 0x1000000000000000000000000000000000000000 &&& hid = 0x1000000000000000000000000000000000000000) (x : Sc) (s : State) :
    (schPeak x s).seen hid = s.seen hid := by
  refine seen_mono hw ?_
  unfold schPeak
  simp

@[simp] theorem answerForwarded_keeps {hid : Nat}
    (hw : 0x2B001200000000000000000000000000000000000000 &&& hid = 0x2B001200000000000000000000000000000000000000) (x : Sc) (id : Nat) (line : Line) (poison : Bool) (s : State) :
    (answerForwarded x id line poison s).seen hid = s.seen hid := by
  refine seen_mono hw ?_
  unfold answerForwarded
  simp

@[simp] theorem answerWaiting_keeps {hid : Nat}
    (hw : 0x2B001200000000000000000000000000000000000000 &&& hid = 0x2B001200000000000000000000000000000000000000) (x : Sc) (wr : Nat) (line : Line) (poison : Bool) (s : State) :
    (answerWaiting x wr line poison s).seen hid = s.seen hid := by
  refine seen_mono hw ?_
  unfold answerWaiting
  simp

@[simp] theorem markForwarded_keeps {hid : Nat}
    (hw : 0x8000000000000000000000000000000000000000000 &&& hid = 0x8000000000000000000000000000000000000000000) (x : Sc) (id : Nat) (s : State) :
    (markForwarded x id s).seen hid = s.seen hid := by
  refine seen_mono hw ?_
  unfold markForwarded
  simp

@[simp] theorem forwardEntry_keeps {hid : Nat}
    (hw : 0x2B000308000000000209C000200000000000001C0000 &&& hid = 0x2B000308000000000209C000200000000000001C0000) (x : Sc) (id : Nat) (line : Line) (poison : Bool) (s : State) :
    (forwardEntry x id line poison s).seen hid = s.seen hid := by
  refine seen_mono hw ?_
  unfold forwardEntry
  (repeat' split) <;> simp

@[simp] theorem supersede1_keeps {hid : Nat}
    (hw : 0x2B001308000000000009C000200000000000001C0000 &&& hid = 0x2B001308000000000009C000200000000000001C0000) (x : Sc) (keep : Nat) (e : WrEnt) (s : State) :
    (supersede1 x keep e s).seen hid = s.seen hid := by
  refine seen_mono hw ?_
  unfold supersede1
  simp
  (repeat' split) <;> (first | (simp; done) | (simp_all; done))

@[simp] theorem supersede_keeps {hid : Nat}
    (hw : 0x2B001308000000000009C000200000000000001C0000 &&& hid = 0x2B001308000000000009C000200000000000001C0000) (x : Sc) (l : Lla) (keep : Nat) (s : State) :
    (supersede x l keep s).seen hid = s.seen hid := by
  refine seen_mono hw ?_
  unfold supersede
  simp

@[simp] theorem writeAccepted_keeps {hid : Nat}
    (hw : 0x2B000308000000000009C000200000000000001C0000 &&& hid = 0x2B000308000000000009C000200000000000001C0000) (r : Req) (s : State) :
    (writeAccepted r s).seen hid = s.seen hid := by
  refine seen_mono hw ?_
  unfold writeAccepted
  simp

@[simp] theorem mergePoison_keeps {hid : Nat}
    (hw : 0x1000000000000000000000000000000000000000 &&& hid = 0x1000000000000000000000000000000000000000) (x : Sc) (s : State) :
    (mergePoison x s).seen hid = s.seen hid := by
  refine seen_mono hw ?_
  unfold mergePoison
  simp

@[simp] theorem queuedPoison_keeps {hid : Nat}
    (hw : 0x40020013200000000000000000000000000000000000 &&& hid = 0x40020013200000000000000000000000000000000000) (l : Lla) (r : Option Req) (s : State) :
    (queuedPoison l r s).seen hid = s.seen hid := by
  refine seen_mono hw ?_
  unfold queuedPoison
  simp

@[simp] theorem mergeDone_keeps {hid : Nat}
    (hw : 0x6B02131B200000000209C000200000000000001C0000 &&& hid = 0x6B02131B200000000209C000200000000000001C0000) (fuel : Nat) (x : Sc) (id : Nat) (base : Line) (poison : Bool) (s : State) :
    (mergeDone fuel x id base poison s).seen hid = s.seen hid := by
  refine seen_mono hw ?_
  clear hw
  induction fuel generalizing id base poison s with
  | zero => simp [mergeDone]
  | succ n ih =>
    unfold mergeDone
    first
      | (simp [ih]; done)
      | (simp; (repeat' split) <;> (first | (simp [ih]; done) | (simp_all; done)))

@[simp] theorem merged_keeps {hid : Nat}
    (hw : 0x6B02131B200000000209C000200000000000001C0000 &&& hid = 0x6B02131B200000000209C000200000000000001C0000) (x : Sc) (id : Nat) (base : Line) (poison : Bool) (s : State) :
    (merged x id base poison s).seen hid = s.seen hid := by
  refine seen_mono hw ?_
  unfold merged
  simp

@[simp] theorem writeEnter_keeps {hid : Nat}
    (hw : 0x6B02131B200000000209C000200000000000001C0000 &&& hid = 0x6B02131B200000000209C000200000000000001C0000) (urgent : Bool) (r : Req) (s : State) :
    (writeEnter urgent r s).seen hid = s.seen hid := by
  refine seen_mono hw ?_
  unfold writeEnter
  simp
  (repeat' split) <;> (first | (simp; done) | (simp_all; done))

@[simp] theorem readEnter_keeps {hid : Nat}
    (hw : 0x2B001200000000000000000000000000000000000000 &&& hid = 0x2B001200000000000000000000000000000000000000) (urgent : Bool) (r : Req) (s : State) :
    (readEnter urgent r s).seen hid = s.seen hid := by
  refine seen_mono hw ?_
  unfold readEnter
  simp
  (repeat' split) <;> (first | (simp; done) | (simp_all; done))

@[simp] theorem readDead_keeps {hid : Nat}
    (hw : 0x23000200000000000000000020000000000000000000 &&& hid = 0x23000200000000000000000020000000000000000000) (r : Req) (s : State) :
    (readDead r s).seen hid = s.seen hid := by
  refine seen_mono hw ?_
  unfold readDead
  simp

@[simp] theorem writeDead_keeps {hid : Nat}
    (hw : 0x2B000308000000000209C000200000000000001C0000 &&& hid = 0x2B000308000000000209C000200000000000001C0000) (r : Req) (s : State) :
    (writeDead r s).seen hid = s.seen hid := by
  refine seen_mono hw ?_
  unfold writeDead
  simp

@[simp] theorem leaveIngress_keeps {hid : Nat}
    (hw : 0x6B02131B200000000209C000200000000000001C0000 &&& hid = 0x6B02131B200000000209C000200000000000001C0000) (urgent : Bool) (r : Req) (s : State) :
    (leaveIngress urgent r s).seen hid = s.seen hid := by
  refine seen_mono hw ?_
  unfold leaveIngress
  simp

@[simp] theorem updLane_keeps {hid : Nat} (hw : 0x200000000000000 &&& hid = 0x200000000000000) (x : Sc) (i : Fin 40)
    (f : Lane → Lane) (s : State) :
    (updLane x i f s).seen hid = s.seen hid := by
  refine seen_mono hw ?_
  unfold updLane
  first
    | (simp; done)
    | (((repeat' split) <;> (first | (simp; done) | (simp_all; done))); done)
    | (simp; (repeat' split) <;> (first | (simp; done) | (simp_all; done)))
    | (simp [State.seen, Glb.seen, Qz.seen, Ref.seen, Qos.seen, Phy.seen, Ras.seen, Egp.seen, Mir.seen, Dom.seen, Img.seen, Glg.seen, Pwr.seen, Evt.seen]; done)

@[simp] theorem updGroup_keeps {hid : Nat} (hw : 0x200000000000000 &&& hid = 0x200000000000000) (x : Sc)
    (g : GroupId) (f : Group → Group) (s : State) :
    (updGroup x g f s).seen hid = s.seen hid := by
  refine seen_mono hw ?_
  unfold updGroup
  first
    | (simp; done)
    | (((repeat' split) <;> (first | (simp; done) | (simp_all; done))); done)
    | (simp; (repeat' split) <;> (first | (simp; done) | (simp_all; done)))
    | (simp [State.seen, Glb.seen, Qz.seen, Ref.seen, Qos.seen, Phy.seen, Ras.seen, Egp.seen, Mir.seen, Dom.seen, Img.seen, Glg.seen, Pwr.seen, Evt.seen]; done)

@[simp] theorem compareLanes_keeps {hid : Nat} (hw : 0x200000000000000 &&& hid = 0x200000000000000) (t : RdTag)
    (r : Capture) (d : Decoded) (s : State) :
    (compareLanes t r d s).seen hid = s.seen hid := by
  refine seen_mono hw ?_
  unfold compareLanes
  simp

@[simp] theorem readCounted_keeps {hid : Nat}
    (hw : 0x20000000000000000000000200000000000000000 &&& hid = 0x20000000000000000000000200000000000000000) (l : Lla) (d : Decoded) (s : State) :
    (readCounted l d s).seen hid = s.seen hid := by
  refine seen_mono hw ?_
  unfold readCounted
  simp

@[simp] theorem readSeen_keeps {hid : Nat}
    (hw : 0x20000000000000000000000200200000000000000 &&& hid = 0x20000000000000000000000200200000000000000) (t : RdTag) (r : Capture) (d : Decoded) (s : State) :
    (readSeen t r d s).seen hid = s.seen hid := by
  refine seen_mono hw ?_
  unfold readSeen
  simp

@[simp] theorem llPut_keeps {hid : Nat} (hw : 0xC00000000000000 &&& hid = 0xC00000000000000) (x : Sc) (l : List
    (Nat × Word)) (s : State) :
    (llPut x l s).seen hid = s.seen hid := by
  refine seen_mono hw ?_
  unfold llPut
  simp

@[simp] theorem llSetTx_keeps {hid : Nat} (hw : 0xC00000000000000 &&& hid = 0xC00000000000000) (x : Sc) (i : Nat)
    (c : Code) (s : State) :
    (llSetTx x i c s).seen hid = s.seen hid := by
  refine seen_mono hw ?_
  unfold llSetTx
  simp

@[simp] theorem llSetLive_keeps {hid : Nat} (hw : 0xC00000000000000 &&& hid = 0xC00000000000000) (x : Sc)
    (i : Fin 40) (s : State) :
    (llSetLive x i s).seen hid = s.seen hid := by
  refine seen_mono hw ?_
  unfold llSetLive
  simp

@[simp] theorem llSetGate_keeps {hid : Nat} (hw : 0xC00000000000000 &&& hid = 0xC00000000000000) (x : Sc) (g : Nat)
    (c : Code) (s : State) :
    (llSetGate x g c s).seen hid = s.seen hid := by
  refine seen_mono hw ?_
  unfold llSetGate
  simp

@[simp] theorem llSetDev_keeps {hid : Nat} (hw : 0xC00000000000000 &&& hid = 0xC00000000000000) (x : Sc)
    (l : List Word) (s : State) :
    (llSetDev x l s).seen hid = s.seen hid := by
  refine seen_mono hw ?_
  unfold llSetDev
  simp

@[simp] theorem seqEnd_keeps {hid : Nat}
    (hw : 0x804000000000000000000000002C200000000000000 &&& hid = 0x804000000000000000000000002C200000000000000) (x : Sc) (s : State) :
    (seqEnd x s).seen hid = s.seen hid := by
  refine seen_mono hw ?_
  unfold seqEnd
  try simp
  (repeat' (first | split | (refine (forAll_keeps _ _ _ (fun a s => ?_)).trans ?_) | dsimp only)) <;> (first | rfl | (simp; done) | (simp_all; done))

@[simp] theorem newPoint_keeps {hid : Nat} (hw : 0x200000000000000 &&& hid = 0x200000000000000) (x : Sc)
    (g : GroupId) (s : State) :
    (newPoint x g s).seen hid = s.seen hid := by
  refine seen_mono hw ?_
  unfold newPoint
  simp

@[simp] theorem startSweep_keeps {hid : Nat} (hw : 0x200000000000000 &&& hid = 0x200000000000000) (x : Sc)
    (g : GroupId) (s : State) :
    (startSweep x g s).seen hid = s.seen hid := by
  refine seen_mono hw ?_
  unfold startSweep
  simp

@[simp] theorem startIdle_keeps {hid : Nat} (hw : 0x200000000000000 &&& hid = 0x200000000000000) (x : Sc) (s : State) :
    (startIdle x s).seen hid = s.seen hid := by
  refine seen_mono hw ?_
  unfold startIdle
  simp

@[simp] theorem codesArrive_keeps {hid : Nat} (hw : 0xC00000000000000 &&& hid = 0xC00000000000000) (x : Sc)
    (before : PhySc) (s : State) :
    (codesArrive x before s).seen hid = s.seen hid := by
  refine seen_mono hw ?_
  unfold codesArrive
  dsimp only
  rw [onlyIf_keeps _ _ _ (forAll_keeps _ _ _ fun i s => ?_), forAll_keeps _ _ _ fun i s => ?_]
  all_goals (split <;> simp)

@[simp] theorem windowStep_keeps {hid : Nat} (hw : 0xE00000000000000 &&& hid = 0xE00000000000000) (x : Sc) (s : State) :
    (windowStep x s).seen hid = s.seen hid := by
  refine seen_mono hw ?_
  unfold windowStep
  simp

@[simp] theorem windowsTo_keeps {hid : Nat} (hw : 0xE00000000000000 &&& hid = 0xE00000000000000) (n : Nat) (x : Sc)
    (t : Nat) (s : State) :
    (windowsTo n x t s).seen hid = s.seen hid := by
  refine seen_mono hw ?_
  clear hw
  induction n generalizing s with
  | zero => rfl
  | succ n ih =>
    unfold windowsTo
    dsimp only
    (repeat' split) <;> simp [ih]

@[simp] theorem codesGoOn_keeps {hid : Nat}
    (hw : 0x804000000000000000000000002CE00000000000000 &&& hid = 0x804000000000000000000000002CE00000000000000) (x : Sc) (s : State) :
    (codesGoOn x s).seen hid = s.seen hid := by
  refine seen_mono hw ?_
  unfold codesGoOn
  dsimp only
  split
  · split <;> simp
  · simp

end Sys2Proof.Machine
end

