-- ==== Sys2Proof/Laws/FrameSched.lean ====
section
/-! SUPPORT. The parts of State that the operations of RowCounter, Timing, Sched, Issue, Arb, Refresh keep. -/

namespace Sys2Proof.Machine

@[simp] theorem setRefUnit_keeps {hid : Nat} (hw : 0x80000000 &&& hid = 0x80000000) (x : Sc) (u : Nat) (r : RefUnit)
    (s : State) :
    (setRefUnit x u r s).seen hid = s.seen hid := by
  refine seen_mono hw ?_
  unfold setRefUnit
  simp

@[simp] theorem setGroup_keeps {hid : Nat} (hw : 0x400000000 &&& hid = 0x400000000) (x : Sc) (u : Nat) (b : Nat)
    (row : Nat) (g : RcGroup) (s : State) :
    (setGroup x u b row g s).seen hid = s.seen hid := by
  refine seen_mono hw ?_
  unfold setGroup
  simp

@[simp] theorem setCache_keeps {hid : Nat} (hw : 0x1800000000 &&& hid = 0x1800000000) (k : Nat) (l : RcLine)
    (s : State) :
    (setCache k l s).seen hid = s.seen hid := by
  refine seen_mono hw ?_
  unfold setCache
  simp

@[simp] theorem mntAddFor_keeps {hid : Nat}
    (hw : 0x8000000000000000000000000000000000000000000 &&& hid = 0x8000000000000000000000000000000000000000000) (label : Option (BitVec 12)) (x : Sc) (q : Fin 7) (o : MntOp) (s : State) :
    (mntAddFor label x q o s).seen hid = s.seen hid := by
  refine seen_mono hw ?_
  unfold mntAddFor
  simp

@[simp] theorem mntAdd_keeps {hid : Nat}
    (hw : 0x8000000000000000000000000000000000000000000 &&& hid = 0x8000000000000000000000000000000000000000000) (x : Sc) (q : Fin 7) (o : MntOp) (s : State) :
    (mntAdd x q o s).seen hid = s.seen hid := by
  refine seen_mono hw ?_
  unfold mntAdd
  simp

@[simp] theorem mntFirst_keeps {hid : Nat}
    (hw : 0x8000000000000000000000000000000000000000000 &&& hid = 0x8000000000000000000000000000000000000000000) (x : Sc) (q : Fin 7) (o : MntOp) (s : State) :
    (mntFirst x q o s).seen hid = s.seen hid := by
  refine seen_mono hw ?_
  unfold mntFirst
  simp

@[simp] theorem cacheEvict_keeps {hid : Nat}
    (hw : 0x8008000000000000000000000000000000800000000 &&& hid = 0x8008000000000000000000000000000000800000000) (k : Nat) (s : State) :
    (cacheEvict k s).seen hid = s.seen hid := by
  refine seen_mono hw ?_
  unfold cacheEvict
  simp
  (repeat' split) <;> (first | (simp; done) | (simp_all; done))

@[simp] theorem ledgerFetch_keeps {hid : Nat}
    (hw : 0x8000000000000000000000000000000004000000000 &&& hid = 0x8000000000000000000000000000000004000000000) (k : Nat) (s : State) :
    (ledgerFetch k s).seen hid = s.seen hid := by
  refine seen_mono hw ?_
  unfold ledgerFetch
  simp

@[simp] theorem makeDue_keeps {hid : Nat} (hw : 0x8000000000 &&& hid = 0x8000000000) (x : Sc) (u : Nat) (b : Nat)
    (row : Nat) (kind : Fin 5) (value : Nat) (s : State) :
    (makeDue x u b row kind value s).seen hid = s.seen hid := by
  refine seen_mono hw ?_
  unfold makeDue
  simp

@[simp] theorem countCached_keeps {hid : Nat} (hw : 0x9800000000 &&& hid = 0x9800000000) (k : Nat) (i : Fin 32)
    (l : RcLine) (s : State) :
    (countCached k i l s).seen hid = s.seen hid := by
  refine seen_mono hw ?_
  unfold countCached
  simp

@[simp] theorem countRow_keeps {hid : Nat}
    (hw : 0x800800000000000000000000000000000F800000000 &&& hid = 0x800800000000000000000000000000000F800000000) (x : Sc) (u : Nat) (b : Nat) (row : Nat) (ledger : Bool) (s : State) :
    (countRow x u b row ledger s).seen hid = s.seen hid := by
  refine seen_mono hw ?_
  unfold countRow
  simp
  (repeat' split) <;> (first | (simp; done) | (simp_all; done))

@[simp] theorem promote_keeps {hid : Nat}
    (hw : 0x8008000000000000000000000000000002C00000000 &&& hid = 0x8008000000000000000000000000000002C00000000) (x : Sc) (u : Nat) (b : Nat) (row : Nat) (g : RcGroup) (s : State) :
    (promote x u b row g s).seen hid = s.seen hid := by
  refine seen_mono hw ?_
  unfold promote
  simp

@[simp] theorem raaOwe_keeps {hid : Nat}
    (hw : 0x8000000000000000000000000000000000000000000 &&& hid = 0x8000000000000000000000000000000000000000000) (x : Sc) (u : Nat) (b : Nat) (s : State) :
    (raaOwe x u b s).seen hid = s.seen hid := by
  refine seen_mono hw ?_
  unfold raaOwe
  simp

@[simp] theorem raaCount_keeps {hid : Nat}
    (hw : 0x8000000000000000000000000000000040000000000 &&& hid = 0x8000000000000000000000000000000040000000000) (x : Sc) (u : Nat) (b : Nat) (s : State) :
    (raaCount x u b s).seen hid = s.seen hid := by
  refine seen_mono hw ?_
  unfold raaCount
  simp

@[simp] theorem raaLower_keeps {hid : Nat}
    (hw : 0x8000000000000000000000000000000040000000000 &&& hid = 0x8000000000000000000000000000000040000000000) (x : Sc) (u : Nat) (bank : Nat → Bool) (s : State) :
    (raaLower x u bank s).seen hid = s.seen hid := by
  refine seen_mono hw ?_
  unfold raaLower
  first
    | (simp; done)
    | (((repeat' split) <;> (first | (simp; done) | (simp_all; done))); done)
    | (simp; (repeat' split) <;> (first | (simp; done) | (simp_all; done)))
    | (simp [State.seen, Glb.seen, Qz.seen, Ref.seen, Qos.seen, Phy.seen, Ras.seen, Egp.seen, Mir.seen, Dom.seen, Img.seen, Glg.seen, Pwr.seen, Evt.seen]; done)

@[simp] theorem actCounted_keeps {hid : Nat}
    (hw : 0x800800000000000000000000000000004FC00000000 &&& hid = 0x800800000000000000000000000000004FC00000000) (x : Sc) (c : Cmd) (ledger : Bool) (s : State) :
    (actCounted x c ledger s).seen hid = s.seen hid := by
  refine seen_mono hw ?_
  unfold actCounted
  simp
  (repeat' split) <;> (first | (simp; done) | (simp_all; done))

@[simp] theorem ledgerWritten_keeps {hid : Nat} (hw : 0x400000000 &&& hid = 0x400000000) (l : Lla) (s : State) :
    (ledgerWritten l s).seen hid = s.seen hid := by
  refine seen_mono hw ?_
  unfold ledgerWritten
  simp
  (repeat' split) <;> (first | (simp; done) | (simp_all; done))

@[simp] theorem noteHeld_keeps {hid : Nat}
    (hw : 0x8008000000000000000000000000000084000000000 &&& hid = 0x8008000000000000000000000000000084000000000) (x : Sc) (c : Cmd) (s : State) :
    (noteHeld x c s).seen hid = s.seen hid := by
  refine seen_mono hw ?_
  unfold noteHeld
  simp

@[simp] theorem mitigation_keeps {hid : Nat}
    (hw : 0x40000013200000000000000000000000000000000000 &&& hid = 0x40000013200000000000000000000000000000000000) (x : Sc) (kind : Fin 5) (value : Nat) (l : Option Lla) (s : State) :
    (mitigation x kind value l s).seen hid = s.seen hid := by
  refine seen_mono hw ?_
  unfold mitigation
  simp

@[simp] theorem zeroCounter_keeps {hid : Nat}
    (hw : 0x8000000000000000000000000000000007800000000 &&& hid = 0x8000000000000000000000000000000007800000000) (x : Sc) (u : Nat) (b : Nat) (row : Nat) (s : State) :
    (zeroCounter x u b row s).seen hid = s.seen hid := by
  refine seen_mono hw ?_
  unfold zeroCounter
  simp
  (repeat' split) <;> (first | (simp; done) | (simp_all; done))

@[simp] theorem mitigated_keeps {hid : Nat}
    (hw : 0x4800801320000000000000000000000000F800000000 &&& hid = 0x4800801320000000000000000000000000F800000000) (d : DueRow) (s : State) :
    (mitigated d s).seen hid = s.seen hid := by
  refine seen_mono hw ?_
  unfold mitigated
  simp

@[simp] theorem busWaits_keeps {hid : Nat}
    (hw : 0x8000000000000000000000000000000000000000000 &&& hid = 0x8000000000000000000000000000000000000000000) (c : Ch) (t : Nat) (s : State) :
    (busWaits c t s).seen hid = s.seen hid := by
  refine seen_mono hw ?_
  unfold busWaits
  simp

@[simp] theorem dckStop_keeps {hid : Nat}
    (hw : 0x8000000000000000000000000000000000000000000 &&& hid = 0x8000000000000000000000000000000000000000000) (c : Ch) (s : State) :
    (dckStop c s).seen hid = s.seen hid := by
  refine seen_mono hw ?_
  unfold dckStop
  (repeat' split) <;> simp

@[simp] theorem dckStart_keeps {hid : Nat}
    (hw : 0x8000000000000000000000000000000000000000000 &&& hid = 0x8000000000000000000000000000000000000000000) (c : Ch) (s : State) :
    (dckStart c s).seen hid = s.seen hid := by
  refine seen_mono hw ?_
  unfold dckStart
  simp

@[simp] theorem dckRestart_keeps {hid : Nat}
    (hw : 0x8000000000000000000000000000000000000000000 &&& hid = 0x8000000000000000000000000000000000000000000) (c : Ch) (s : State) :
    (dckRestart c s).seen hid = s.seen hid := by
  refine seen_mono hw ?_
  unfold dckRestart
  simp

@[simp] theorem ageAll_keeps {hid : Nat}
    (hw : 0x8001000000000000000000000000000000000000000 &&& hid = 0x8001000000000000000000000000000000000000000) (x : Sc) (now : Nat) (s : State) :
    (ageAll x now s).seen hid = s.seen hid := by
  refine seen_mono hw ?_
  unfold ageAll
  simp

@[simp] theorem modeUpdate_keeps {hid : Nat}
    (hw : 0x8001000000000000000000000000000000000000000 &&& hid = 0x8001000000000000000000000000000000000000000) (x : Sc) (s : State) :
    (modeUpdate x s).seen hid = s.seen hid := by
  refine seen_mono hw ?_
  unfold modeUpdate
  (repeat' split) <;> simp

@[simp] theorem countCmd_keeps {hid : Nat}
    (hw : 0x1000000000000000000000000000000000000000 &&& hid = 0x1000000000000000000000000000000000000000) (x : Sc) (c : Cmd) (hit : Bool) (s : State) :
    (countCmd x c hit s).seen hid = s.seen hid := by
  refine seen_mono hw ?_
  unfold countCmd
  (repeat' split) <;> simp

@[simp] theorem busPins_keeps {hid : Nat}
    (hw : 0x280090000000000000000000000000000CFC00000000 &&& hid = 0x280090000000000000000000000000000CFC00000000) (x : Sc) (t : Nat) (pins : List Cmd) (c : Cmd) (cap : Bool) (ledger : Bool) (s : State) :
    (busPins x t pins c cap ledger s).seen hid = s.seen hid := by
  refine seen_mono hw ?_
  unfold busPins
  simp

@[simp] theorem busCmd_keeps {hid : Nat}
    (hw : 0x280090000000000000000000000000000CFC00000000 &&& hid = 0x280090000000000000000000000000000CFC00000000) (x : Sc) (t : Nat) (c : Cmd) (cap : Bool) (ledger : Bool) (s : State) :
    (busCmd x t c cap ledger s).seen hid = s.seen hid := by
  refine seen_mono hw ?_
  unfold busCmd
  simp

@[simp] theorem twinPre_keeps {hid : Nat}
    (hw : 0x280090000000000000000000000000000CFC00000000 &&& hid = 0x280090000000000000000000000000000CFC00000000) (x : Sc) (t : Nat) (c : Cmd) (due : Bool) (s : State) :
    (twinPre x t c due s).seen hid = s.seen hid := by
  refine seen_mono hw ?_
  unfold twinPre
  simp

@[simp] theorem writeBurst_keeps {hid : Nat}
    (hw : 0x28000000000000000000000000000000000000000000 &&& hid = 0x28000000000000000000000000000000000000000000) (x : Sc) (t : Nat) (c : Cmd) (src : WrSrc) (l : Lla) (d : Line) (poison : Bool) (s : State) :
    (writeBurst x t c src l d poison s).seen hid = s.seen hid := by
  refine seen_mono hw ?_
  unfold writeBurst
  simp

@[simp] theorem judgeEmergency_keeps {hid : Nat}
    (hw : 0xA004000000000000000000000000100080000000 &&& hid = 0xA004000000000000000000000000100080000000) (x : Sc) (u : Nat) (s : State) :
    (judgeEmergency x u s).seen hid = s.seen hid := by
  refine seen_mono hw ?_
  unfold judgeEmergency
  simp

@[simp] theorem setIssued_keeps {hid : Nat}
    (hw : 0x800A004000000000000000000000000140080000000 &&& hid = 0x800A004000000000000000000000000140080000000) (x : Sc) (u : Nat) (s : State) :
    (setIssued x u s).seen hid = s.seen hid := by
  refine seen_mono hw ?_
  unfold setIssued
  simp

@[simp] theorem aboIssued_keeps {hid : Nat}
    (hw : 0x40008013200000000000000000000000030000000000 &&& hid = 0x40008013200000000000000000000000030000000000) (x : Sc) (s : State) :
    (aboIssued x s).seen hid = s.seen hid := by
  refine seen_mono hw ?_
  unfold aboIssued
  simp

@[simp] theorem updMaint_keeps {hid : Nat}
    (hw : 0x8000000000000000000000000000000000000000000 &&& hid = 0x8000000000000000000000000000000000000000000) (x : Sc) (h : Fin 7) (f : List MntCmd → List MntCmd) (s : State) :
    (updMaint x h f s).seen hid = s.seen hid := by
  refine seen_mono hw ?_
  unfold updMaint
  first
    | (simp; done)
    | (((repeat' split) <;> (first | (simp; done) | (simp_all; done))); done)
    | (simp; (repeat' split) <;> (first | (simp; done) | (simp_all; done)))
    | (simp [State.seen, Glb.seen, Qz.seen, Ref.seen, Qos.seen, Phy.seen, Ras.seen, Egp.seen, Mir.seen, Dom.seen, Img.seen, Glg.seen, Pwr.seen, Evt.seen]; done)

@[simp] theorem mntDone_keeps {hid : Nat}
    (hw : 0x8000000000000000000000000000000000000000000 &&& hid = 0x8000000000000000000000000000000000000000000) (x : Sc) (h : Fin 7) (s : State) :
    (mntDone x h s).seen hid = s.seen hid := by
  refine seen_mono hw ?_
  unfold mntDone
  simp

@[simp] theorem forgetRfm_keeps {hid : Nat}
    (hw : 0x8000000000000000000000000000000000000000000 &&& hid = 0x8000000000000000000000000000000000000000000) (x : Sc) (u : Nat) (s : State) :
    (forgetRfm x u s).seen hid = s.seen hid := by
  refine seen_mono hw ?_
  unfold forgetRfm
  simp

@[simp] theorem lockLine_keeps {hid : Nat}
    (hw : 0x8000000000000000000000000000000000000000000 &&& hid = 0x8000000000000000000000000000000000000000000) (x : Sc) (l : Lla) (s : State) :
    (lockLine x l s).seen hid = s.seen hid := by
  refine seen_mono hw ?_
  unfold lockLine
  simp

@[simp] theorem unlockLine_keeps {hid : Nat}
    (hw : 0x8000000000000000000000000000000000000000000 &&& hid = 0x8000000000000000000000000000000000000000000) (x : Sc) (l : Lla) (s : State) :
    (unlockLine x l s).seen hid = s.seen hid := by
  refine seen_mono hw ?_
  unfold unlockLine
  simp

@[simp] theorem pipeAdd_keeps {hid : Nat}
    (hw : 0x8000000000000000000000000000000000000000000 &&& hid = 0x8000000000000000000000000000000000000000000) (x : Sc) (o : Origin) (l : Lla) (t : Nat) (s : State) :
    (pipeAdd x o l t s).seen hid = s.seen hid := by
  refine seen_mono hw ?_
  unfold pipeAdd
  simp

@[simp] theorem lockFor_keeps {hid : Nat}
    (hw : 0x8000000000000000080000000000000000000000000 &&& hid = 0x8000000000000000080000000000000000000000000) (x : Sc) (o : Origin) (l : Lla) (s : State) :
    (lockFor x o l s).seen hid = s.seen hid := by
  refine seen_mono hw ?_
  unfold lockFor
  (repeat' split) <;> simp

@[simp] theorem copied_keeps {hid : Nat} (hw : 0x2000000000000000000 &&& hid = 0x2000000000000000000) (x : Sc)
    (s : State) :
    (copied x s).seen hid = s.seen hid := by
  refine seen_mono hw ?_
  unfold copied
  simp

@[simp] theorem filled_keeps {hid : Nat}
    (hw : 0x8000000000000000000000000000000000000000000 &&& hid = 0x8000000000000000000000000000000000000000000) (x : Sc) (h : Fin 7) (l : Lla) (n : Nat) (d : Line) (s : State) :
    (filled x h l n d s).seen hid = s.seen hid := by
  refine seen_mono hw ?_
  unfold filled
  simp

@[simp] theorem serveMaint_keeps {hid : Nat}
    (hw : 0x6800A01720000000008000000200000017FC80000000 &&& hid = 0x6800A01720000000008000000200000017FC80000000) (x : Sc) (t : Nat) (h : Fin 7) (c : Cmd) (s : State) :
    (serveMaint x t h c s).seen hid = s.seen hid := by
  refine seen_mono hw ?_
  unfold serveMaint
  simp
  (repeat' split) <;> (first | (simp; done) | (simp_all; done))

@[simp] theorem boCount_keeps {hid : Nat}
    (hw : 0x100000000000000000000000000000000000 &&& hid = 0x100000000000000000000000000000000000) (f : BindOff → BindOff) (s : State) :
    (boCount f s).seen hid = s.seen hid := by
  refine seen_mono hw ?_
  unfold boCount
  first
    | (simp; done)
    | (((repeat' split) <;> (first | (simp; done) | (simp_all; done))); done)
    | (simp; (repeat' split) <;> (first | (simp; done) | (simp_all; done)))
    | (simp [State.seen, Glb.seen, Qz.seen, Ref.seen, Qos.seen, Phy.seen, Ras.seen, Egp.seen, Mir.seen, Dom.seen, Img.seen, Glg.seen, Pwr.seen, Evt.seen]; done)

@[simp] theorem serveHost_keeps {hid : Nat}
    (hw : 0x2B0002081000000000018000200000000000001C0000 &&& hid = 0x2B0002081000000000018000200000000000001C0000) (x : Sc) (t : Nat) (c : Cand) (s : State) :
    (serveHost x t c s).seen hid = s.seen hid := by
  refine seen_mono hw ?_
  unfold serveHost
  simp
  (repeat' split) <;> (first | (simp; done) | (simp_all; done))

@[simp] theorem issue_keeps {hid : Nat}
    (hw : 0x6B00B21F3000000000818000220000001FFC801C0000 &&& hid = 0x6B00B21F3000000000818000220000001FFC801C0000) (x : Sc) (t0 : Nat) (c : Cand) (s : State) :
    (issue x t0 c s).seen hid = s.seen hid := by
  refine seen_mono hw ?_
  unfold issue
  (repeat' split) <;> simp

@[simp] theorem countGated_keeps {hid : Nat}
    (hw : 0x8008000000000000000000000000000000000000000 &&& hid = 0x8008000000000000000000000000000000000000000) (x : Sc) (t0 : Nat) (l : List Cand) (s : State) :
    (countGated x t0 l s).seen hid = s.seen hid := by
  refine seen_mono hw ?_
  unfold countGated
  simp

@[simp] theorem noteHolds_keeps {hid : Nat}
    (hw : 0x8008000000000000000000000000000084000000000 &&& hid = 0x8008000000000000000000000000000084000000000) (x : Sc) (s : State) :
    (noteHolds x s).seen hid = s.seen hid := by
  refine seen_mono hw ?_
  unfold noteHolds
  split
  · rfl
  · refine forAll_keeps _ _ _ fun w s => ?_
    split
    · split
      · exact noteHeld_keeps (by decide) x _ s
      · rfl
    · rfl

@[simp] theorem offerHead_keeps {hid : Nat}
    (hw : 0x8000000000000000000000000000000500000000000 &&& hid = 0x8000000000000000000000000000000500000000000) (x : Sc) (s : State) :
    (offerHead x s).seen hid = s.seen hid := by
  refine seen_mono hw ?_
  unfold offerHead
  (repeat' split) <;> simp

@[simp] theorem issueOne_keeps {hid : Nat}
    (hw : 0x6B00B21F3000000000818000220000001FFC801C0000 &&& hid = 0x6B00B21F3000000000818000220000001FFC801C0000) (x : Sc) (t0 : Nat) (s : State) :
    (issueOne x t0 s).seen hid = s.seen hid := by
  refine seen_mono hw ?_
  unfold issueOne
  (repeat' split) <;> simp

@[simp] theorem replayWrite_keeps {hid : Nat}
    (hw : 0x28000000000000000000000000000000000000000000 &&& hid = 0x28000000000000000000000000000000000000000000) (x : Sc) (t : Nat) (c : Cmd) (later : List Cmd) (s : State) :
    (replayWrite x t c later s).seen hid = s.seen hid := by
  refine seen_mono hw ?_
  unfold replayWrite
  simp
  (repeat' split) <;> (first | (simp; done) | (simp_all; done))

@[simp] theorem replayRead_keeps {hid : Nat}
    (hw : 0x8000000000000000000000000000000000000000000 &&& hid = 0x8000000000000000000000000000000000000000000) (x : Sc) (t : Nat) (c : Cmd) (s : State) :
    (replayRead x t c s).seen hid = s.seen hid := by
  refine seen_mono hw ?_
  unfold replayRead
  (repeat' split) <;> simp

@[simp] theorem replaySet_keeps {hid : Nat}
    (hw : 0x800A004000000000000000000000000140080000000 &&& hid = 0x800A004000000000000000000000000140080000000) (x : Sc) (c : Cmd) (s : State) :
    (replaySet x c s).seen hid = s.seen hid := by
  refine seen_mono hw ?_
  unfold replaySet
  simp

@[simp] theorem replayOne_keeps {hid : Nat}
    (hw : 0x2800B0040000000000000000000000001CFC80000000 &&& hid = 0x2800B0040000000000000000000000001CFC80000000) (x : Sc) (t0 : Nat) (s : State) :
    (replayOne x t0 s).seen hid = s.seen hid := by
  refine seen_mono hw ?_
  unfold replayOne
  simp
  (repeat' split) <;> (first | (simp; done) | (simp_all; done))

@[simp] theorem dropLines_keeps {hid : Nat}
    (hw : 0x8000000000000000000000000000000000000000000 &&& hid = 0x8000000000000000000000000000000000000000000) (x : Sc) (t0 : Nat) (s : State) :
    (dropLines x t0 s).seen hid = s.seen hid := by
  refine seen_mono hw ?_
  unfold dropLines
  simp

@[simp] theorem endWait_keeps {hid : Nat}
    (hw : 0x8002000000000000000000000000000000000000000 &&& hid = 0x8002000000000000000000000000000000000000000) (x : Sc) (q : Fin 7) (s : State) :
    (endWait x q s).seen hid = s.seen hid := by
  refine seen_mono hw ?_
  unfold endWait
  (repeat' split) <;> simp

@[simp] theorem setMask_keeps {hid : Nat}
    (hw : 0x8002000000000000000000000000000000000000000 &&& hid = 0x8002000000000000000000000000000000000000000) (x : Sc) (on : Bool) (s : State) :
    (setMask x on s).seen hid = s.seen hid := by
  refine seen_mono hw ?_
  unfold setMask
  rw [updSched_keeps (by decide)]
  exact onlyIf_keeps _ _ _ (forAll_keeps _ _ _ fun h s => endWait_keeps (by decide) _ _ s)

@[simp] theorem toRanks_keeps {hid : Nat}
    (hw : 0x280090000000000000000000000000000CFC00000000 &&& hid = 0x280090000000000000000000000000000CFC00000000) (x : Sc) (k : CmdKind) (lrs : Bool) (s : State) (arg : CmdArg) :
    (toRanks x k lrs s arg).seen hid = s.seen hid := by
  refine seen_mono hw ?_
  unfold toRanks
  try simp
  (repeat' (first | split | (refine (forAll_keeps _ _ _ (fun a s => ?_)).trans ?_) | dsimp only)) <;> (first | rfl | (simp; done) | (simp_all; done))

@[simp] theorem powerUp_keeps {hid : Nat}
    (hw : 0x2800B0000008000000000000000000000CFC00000000 &&& hid = 0x2800B0000008000000000000000000000CFC00000000) (x : Sc) (s : State) :
    (powerUp x s).seen hid = s.seen hid := by
  refine seen_mono hw ?_
  unfold powerUp
  simp

@[simp] theorem schedulerCc_keeps {hid : Nat}
    (hw : 0x6B04B21F30080000008180002202CE005FFC801C0000 &&& hid = 0x6B04B21F30080000008180002202CE005FFC801C0000) (x : Sc) (s : State) :
    (schedulerCc x s).seen hid = s.seen hid := by
  refine seen_mono hw ?_
  unfold schedulerCc
  simp
  (repeat' split) <;> (first | (simp; done) | (simp_all; done))

@[simp] theorem writeBurstDone_keeps {hid : Nat}
    (hw : 0xB000000000000000000000000000000000000000000 &&& hid = 0xB000000000000000000000000000000000000000000) (x : Sc) (s : State) :
    (writeBurstDone x s).seen hid = s.seen hid := by
  refine seen_mono hw ?_
  unfold writeBurstDone
  (repeat' split) <;> simp

@[simp] theorem startWait_keeps {hid : Nat}
    (hw : 0x8000000000000000000000000000000000000000000 &&& hid = 0x8000000000000000000000000000000000000000000) (x : Sc) (q : Fin 7) (s : State) :
    (startWait x q s).seen hid = s.seen hid := by
  refine seen_mono hw ?_
  unfold startWait
  simp

@[simp] theorem grant_keeps {hid : Nat}
    (hw : 0x8002000000000000000000000000000000000000000 &&& hid = 0x8002000000000000000000000000000000000000000) (x : Sc) (q : Fin 7) (s : State) :
    (grant x q s).seen hid = s.seen hid := by
  refine seen_mono hw ?_
  unfold grant
  simp

@[simp] theorem preempt_keeps {hid : Nat}
    (hw : 0x8002000000000000000000000000000000000000000 &&& hid = 0x8002000000000000000000000000000000000000000) (x : Sc) (s : State) :
    (preempt x s).seen hid = s.seen hid := by
  refine seen_mono hw ?_
  unfold preempt
  (repeat' split) <;> simp

@[simp] theorem waits_keeps {hid : Nat}
    (hw : 0x8002000000000000000000000000000000000000000 &&& hid = 0x8002000000000000000000000000000000000000000) (x : Sc) (s : State) :
    (waits x s).seen hid = s.seen hid := by
  refine seen_mono hw ?_
  unfold waits
  simp

@[simp] theorem arbitrate_keeps {hid : Nat}
    (hw : 0x8002000000000000000000000000000500000000000 &&& hid = 0x8002000000000000000000000000000500000000000) (x : Sc) (s : State) :
    (arbitrate x s).seen hid = s.seen hid := by
  refine seen_mono hw ?_
  unfold arbitrate
  simp
  (repeat' split) <;> (first | (simp; done) | (simp_all; done))

@[simp] theorem buildCalendar_keeps {hid : Nat}
    (hw : 0x8000000000000000000000000000000000080000000 &&& hid = 0x8000000000000000000000000000000000080000000) (x : Sc) (s : State) :
    (buildCalendar x s).seen hid = s.seen hid := by
  refine seen_mono hw ?_
  unfold buildCalendar
  simp

@[simp] theorem judgeDoubled_keeps {hid : Nat}
    (hw : 0x8000000000000000000000000000000100000000 &&& hid = 0x8000000000000000000000000000000100000000) (c : Ch) (s : State) :
    (judgeDoubled c s).seen hid = s.seen hid := by
  refine seen_mono hw ?_
  unfold judgeDoubled
  simp

@[simp] theorem refreshSlot_keeps {hid : Nat}
    (hw : 0x2800B0040008000000000000000000001CFD80000000 &&& hid = 0x2800B0040008000000000000000000001CFD80000000) (x : Sc) (u : Nat) (s : State) :
    (refreshSlot x u s).seen hid = s.seen hid := by
  refine seen_mono hw ?_
  unfold refreshSlot
  simp

@[simp] theorem refreshPostpone_keeps {hid : Nat}
    (hw : 0x8000000000000000000000000000000080000000 &&& hid = 0x8000000000000000000000000000000080000000) (x : Sc) (u : Nat) (s : State) :
    (refreshPostpone x u s).seen hid = s.seen hid := by
  refine seen_mono hw ?_
  unfold refreshPostpone
  simp

@[simp] theorem refOffers_keeps {hid : Nat}
    (hw : 0x8000000000000000000000000000000000000000000 &&& hid = 0x8000000000000000000000000000000000000000000) (x : Sc) (s : State) :
    (refOffers x s).seen hid = s.seen hid := by
  refine seen_mono hw ?_
  unfold refOffers
  simp

@[simp] theorem aboRequest_keeps {hid : Nat}
    (hw : 0x800A000000000000000000000000000110000000000 &&& hid = 0x800A000000000000000000000000000110000000000) (c : Ch) (s : State) :
    (aboRequest c s).seen hid = s.seen hid := by
  refine seen_mono hw ?_
  unfold aboRequest
  dsimp only
  refine (forAll_keeps _ _ _ fun x s => ?_).trans (by simp)
  rw [preempt_keeps (by decide), forAll_keeps _ _ _ fun _ s => forAll_keeps _ _ _ fun u s => mntAdd_keeps (by decide) _ _ _ s]
  simp

@[simp] theorem backoffDeadline_keeps {hid : Nat}
    (hw : 0x40000017200000000000000000000000030000000000 &&& hid = 0x40000017200000000000000000000000030000000000) (c : Ch) (s : State) :
    (backoffDeadline c s).seen hid = s.seen hid := by
  refine seen_mono hw ?_
  unfold backoffDeadline
  simp

@[simp] theorem dropLedger_keeps {hid : Nat}
    (hw : 0x8000000000000000000000000000000086800000000 &&& hid = 0x8000000000000000000000000000000086800000000) (x : Sc) (u : Nat) (s : State) :
    (dropLedger x u s).seen hid = s.seen hid := by
  refine seen_mono hw ?_
  unfold dropLedger
  simp

@[simp] theorem sweepGroups_keeps {hid : Nat} (hw : 0x400000000 &&& hid = 0x400000000) (x : Sc) (u : Nat) (s : State) :
    (sweepGroups x u s).seen hid = s.seen hid := by
  refine seen_mono hw ?_
  unfold sweepGroups
  simp

@[simp] theorem epochAdvance_keeps {hid : Nat}
    (hw : 0x8000000000000000000000000000000086C80000000 &&& hid = 0x8000000000000000000000000000000086C80000000) (x : Sc) (u : Nat) (s : State) :
    (epochAdvance x u s).seen hid = s.seen hid := by
  refine seen_mono hw ?_
  unfold epochAdvance
  simp

@[simp] theorem installLine_keeps {hid : Nat}
    (hw : 0x800800000000000000000000000000000F800000000 &&& hid = 0x800800000000000000000000000000000F800000000) (k : Nat) (vals : Vector (BitVec 16) 32) (dirty : Bool) (s : State) :
    (installLine k vals dirty s).seen hid = s.seen hid := by
  refine seen_mono hw ?_
  unfold installLine
  try simp
  (repeat' (first | split | (refine (forAll_keeps _ _ _ (fun a s => ?_)).trans ?_) | dsimp only)) <;> (first | rfl | (simp; done) | (simp_all; done))

@[simp] theorem failLine_keeps {hid : Nat}
    (hw : 0x800800000000000000000000000000000F800000000 &&& hid = 0x800800000000000000000000000000000F800000000) (k : Nat) (s : State) :
    (failLine k s).seen hid = s.seen hid := by
  refine seen_mono hw ?_
  unfold failLine
  simp

@[simp] theorem ledgerFetchDone_keeps {hid : Nat}
    (hw : 0x4802801320000000000000000020020000F800000000 &&& hid = 0x4802801320000000000000000020020000F800000000) (x : Sc) (rx : Capture) (s : State) :
    (ledgerFetchDone x rx s).seen hid = s.seen hid := by
  refine seen_mono hw ?_
  unfold ledgerFetchDone
  (repeat' split) <;> simp

@[simp] theorem ledgerFetchTimeout_keeps {hid : Nat}
    (hw : 0x4800801720000000000000000000000000F800000000 &&& hid = 0x4800801720000000000000000000000000F800000000) (x : Sc) (s : State) :
    (ledgerFetchTimeout x s).seen hid = s.seen hid := by
  refine seen_mono hw ?_
  unfold ledgerFetchTimeout
  (repeat' split) <;> simp

end Sys2Proof.Machine
end

