-- ==== Sys2Proof/Laws/FramePhy.lean ====
section
/-! SUPPORT. The parts of State that the operations of Image, Phy, ReadPath, Replay, Events keep. -/

namespace Sys2Proof.Machine

@[simp] theorem llWrite_keeps {hid : Nat} (hw : 0xC00000000000000 &&& hid = 0xC00000000000000) (c : Ch) (g : Gear)
    (s : State) :
    (llWrite c g s).seen hid = s.seen hid := by
  refine seen_mono hw ?_
  unfold llWrite
  simp

@[simp] theorem lifelineSave_keeps {hid : Nat}
    (hw : 0x8000000000000000000000000000800000000000000 &&& hid = 0x8000000000000000000000000000800000000000000) (c : Ch) (s : State) :
    (lifelineSave c s).seen hid = s.seen hid := by
  refine seen_mono hw ?_
  unfold lifelineSave
  simp

@[simp] theorem llSelect_keeps {hid : Nat}
    (hw : 0x400000000000000000000000001000000000000000 &&& hid = 0x400000000000000000000000001000000000000000) (w : Word) (s : State) :
    (llSelect w s).seen hid = s.seen hid := by
  refine seen_mono hw ?_
  unfold llSelect
  simp

@[simp] theorem llRead_keeps {hid : Nat}
    (hw : 0x20400000000000000000000000000000000000000000 &&& hid = 0x20400000000000000000000000000000000000000000) (s : State) :
    (llRead s).seen hid = s.seen hid := by
  refine seen_mono hw ?_
  unfold llRead
  simp

@[simp] theorem calib_keeps {hid : Nat}
    (hw : 0x2000000000000000000000000000000000000 &&& hid = 0x2000000000000000000000000000000000000) (key bit : Nat) (x : Sc) (f : Nat → State → State)
    (s : State) (h : ∀ n s, (f n s).seen hid = s.seen hid) : (calib key bit x f s).seen hid = s.seen hid := by
  unfold calib
  dsimp only
  split
  · exact limited_keeps hw _ _ _ _ h
  · exact seen_mono hw (by simp)

@[simp] theorem promoteRecord_keeps {hid : Nat}
    (hw : 0x40000013200000000000000000000000000000000000 &&& hid = 0x40000013200000000000000000000000000000000000) (x : Sc) (g : Nat) (kind : Nat) (move : Int) (vmove : Int) (width : Nat) (s : State) :
    (promoteRecord x g kind move vmove width s).seen hid = s.seen hid := by
  refine seen_mono hw ?_
  unfold promoteRecord
  simp

@[simp] theorem rejectRecord_keeps {hid : Nat}
    (hw : 0xC0000013200000000000000000000000000000000000 &&& hid = 0xC0000013200000000000000000000000000000000000) (x : Sc) (g : GroupId) (kind : Nat) (reason : Nat) (lane : Nat) (value : Option Int) (s : State) :
    (rejectRecord x g kind reason lane value s).seen hid = s.seen hid := by
  refine seen_mono hw ?_
  unfold rejectRecord
  simp

@[simp] theorem groupReject_keeps {hid : Nat}
    (hw : 0xC0040013200000000000000000000200000000000000 &&& hid = 0xC0040013200000000000000000000200000000000000) (x : Sc) (g : GroupId) (kind : Nat) (reason : Nat) (lane : Nat) (value : Option Int) (s : State) :
    (groupReject x g kind reason lane value s).seen hid = s.seen hid := by
  refine seen_mono hw ?_
  unfold groupReject
  simp

@[simp] theorem groupSettled_keeps {hid : Nat} (hw : 0x200000000000000 &&& hid = 0x200000000000000) (x : Sc)
    (g : GroupId) (s : State) :
    (groupSettled x g s).seen hid = s.seen hid := by
  refine seen_mono hw ?_
  unfold groupSettled
  simp

@[simp] theorem stopScouts_keeps {hid : Nat} (hw : 0x200000000000000 &&& hid = 0x200000000000000) (x : Sc)
    (g : GroupId) (s : State) :
    (stopScouts x g s).seen hid = s.seen hid := by
  refine seen_mono hw ?_
  unfold stopScouts
  simp

@[simp] theorem stopAll_keeps {hid : Nat} (hw : 0x200000000000000 &&& hid = 0x200000000000000) (x : Sc) (s : State) :
    (stopAll x s).seen hid = s.seen hid := by
  refine seen_mono hw ?_
  unfold stopAll
  simp

@[simp] theorem concludeSweep_keeps {hid : Nat}
    (hw : 0xC0040013200000000000000000000200000000000000 &&& hid = 0xC0040013200000000000000000000200000000000000) (x : Sc) (g : GroupId) (s : State) :
    (concludeSweep x g s).seen hid = s.seen hid := by
  refine seen_mono hw ?_
  unfold concludeSweep
  (repeat' split) <;> simp

@[simp] theorem confirmDone_keeps {hid : Nat}
    (hw : 0xC0040013200000000000000000000200000000000000 &&& hid = 0xC0040013200000000000000000000200000000000000) (x : Sc) (g : GroupId) (s : State) :
    (confirmDone x g s).seen hid = s.seen hid := by
  refine seen_mono hw ?_
  unfold confirmDone
  (repeat' split) <;> simp

@[simp] theorem scoutPointDone_keeps {hid : Nat}
    (hw : 0xC0040013200000000000000000000200000000000000 &&& hid = 0xC0040013200000000000000000000200000000000000) (x : Sc) (g : GroupId) (s : State) :
    (scoutPointDone x g s).seen hid = s.seen hid := by
  refine seen_mono hw ?_
  unfold scoutPointDone
  simp

@[simp] theorem scoutBackoffEnd_keeps {hid : Nat} (hw : 0x200000000000000 &&& hid = 0x200000000000000) (x : Sc)
    (g : GroupId) (s : State) :
    (scoutBackoffEnd x g s).seen hid = s.seen hid := by
  refine seen_mono hw ?_
  unfold scoutBackoffEnd
  simp

@[simp] theorem roleExchange_keeps {hid : Nat}
    (hw : 0x40040013200000000000000000000E00000000000000 &&& hid = 0x40040013200000000000000000000E00000000000000) (x : Sc) (g : GroupId) (s : State) :
    (roleExchange x g s).seen hid = s.seen hid := by
  refine seen_mono hw ?_
  unfold roleExchange
  simp

@[simp] theorem phyCtlWritten_keeps {hid : Nat} (hw : 0x200000000000000 &&& hid = 0x200000000000000) (s : State) :
    (phyCtlWritten s).seen hid = s.seen hid := by
  refine seen_mono hw ?_
  unfold phyCtlWritten
  try simp
  (repeat' (first | split | (refine (forAll_keeps _ _ _ (fun a s => ?_)).trans ?_) | dsimp only)) <;> (first | rfl | (simp; done) | (simp_all; done))

@[simp] theorem forcedSwapWindow_keeps {hid : Nat}
    (hw : 0x804000000000000000000000002CE00000000000000 &&& hid = 0x804000000000000000000000002CE00000000000000) (x : Sc) (s : State) :
    (forcedSwapWindow x s).seen hid = s.seen hid := by
  refine seen_mono hw ?_
  unfold forcedSwapWindow
  simp

@[simp] theorem txTarget_keeps {hid : Nat} (hw : 0x200000000000000 &&& hid = 0x200000000000000) (x : Sc)
    (f : Nat → Int) (s : State) :
    (txTarget x f s).seen hid = s.seen hid := by
  refine seen_mono hw ?_
  unfold txTarget
  first
    | (simp; done)
    | (((repeat' split) <;> (first | (simp; done) | (simp_all; done))); done)
    | (simp; (repeat' split) <;> (first | (simp; done) | (simp_all; done)))
    | (simp [State.seen, Glb.seen, Qz.seen, Ref.seen, Qos.seen, Phy.seen, Ras.seen, Egp.seen, Mir.seen, Dom.seen, Img.seen, Glg.seen, Pwr.seen, Evt.seen]; done)

@[simp] theorem updRun_keeps {hid : Nat} (hw : 0x200000000000000 &&& hid = 0x200000000000000) (x : Sc)
    (f : SwRun → SwRun) (s : State) :
    (updRun x f s).seen hid = s.seen hid := by
  refine seen_mono hw ?_
  unfold updRun
  first
    | (simp; done)
    | (((repeat' split) <;> (first | (simp; done) | (simp_all; done))); done)
    | (simp; (repeat' split) <;> (first | (simp; done) | (simp_all; done)))
    | (simp [State.seen, Glb.seen, Qz.seen, Ref.seen, Qos.seen, Phy.seen, Ras.seen, Egp.seen, Mir.seen, Dom.seen, Img.seen, Glg.seen, Pwr.seen, Evt.seen]; done)

@[simp] theorem swLines_keeps {hid : Nat}
    (hw : 0x8000000000000000000000000000000000000000000 &&& hid = 0x8000000000000000000000000000000000000000000) (x : Sc) (k : Nat) (s : State) :
    (swLines x k s).seen hid = s.seen hid := by
  refine seen_mono hw ?_
  unfold swLines
  simp

@[simp] theorem setVref_keeps {hid : Nat}
    (hw : 0x8000000000000000000000000000000000000000000 &&& hid = 0x8000000000000000000000000000000000000000000) (x : Sc) (c : Nat) (d : Fin 10) (v : Nat) (s : State) :
    (setVref x c d v s).seen hid = s.seen hid := by
  refine seen_mono hw ?_
  unfold setVref
  simp

@[simp] theorem allVrefs_keeps {hid : Nat}
    (hw : 0x8000000000000000000000000000000000000000000 &&& hid = 0x8000000000000000000000000000000000000000000) (x : Sc) (f : Nat → Nat → Nat) (s : State) :
    (allVrefs x f s).seen hid = s.seen hid := by
  refine seen_mono hw ?_
  unfold allVrefs
  exact forAll_keeps _ _ _ fun c s => forAll_keeps _ _ _ fun d s => by simp

@[simp] theorem swatchGo_keeps {hid : Nat}
    (hw : 0x8000000000000000000000000000200000000000000 &&& hid = 0x8000000000000000000000000000200000000000000) (x : Sc) (s : State) :
    (swatchGo x s).seen hid = s.seen hid := by
  refine seen_mono hw ?_
  unfold swatchGo
  simp
  (repeat' split) <;> (first | (simp; done) | (simp_all; done))

@[simp] theorem swatchRead_keeps {hid : Nat} (hw : 0x200000000000000 &&& hid = 0x200000000000000) (x : Sc)
    (t : RdTag) (k : Nat) (rx : Capture) (s : State) :
    (swatchRead x t k rx s).seen hid = s.seen hid := by
  refine seen_mono hw ?_
  unfold swatchRead
  simp

@[simp] theorem swatchPeriodExpiry_keeps {hid : Nat} (hw : 0x200000000000000 &&& hid = 0x200000000000000) (x : Sc)
    (s : State) :
    (swatchPeriodExpiry x s).seen hid = s.seen hid := by
  refine seen_mono hw ?_
  unfold swatchPeriodExpiry
  simp

@[simp] theorem actSwatchReq_keeps {hid : Nat} (hw : 0x200000000000000 &&& hid = 0x200000000000000) (v : Word)
    (s : State) :
    (actSwatchReq v s).seen hid = s.seen hid := by
  refine seen_mono hw ?_
  unfold actSwatchReq
  simp

@[simp] theorem swatchRunStart_keeps {hid : Nat}
    (hw : 0x8040000000000000000000000000200000000000000 &&& hid = 0x8040000000000000000000000000200000000000000) (x : Sc) (s : State) :
    (swatchRunStart x s).seen hid = s.seen hid := by
  refine seen_mono hw ?_
  unfold swatchRunStart
  simp

@[simp] theorem abortSwatch_keeps {hid : Nat}
    (hw : 0x8040000000000000000000000000200000000000000 &&& hid = 0x8040000000000000000000000000200000000000000) (x : Sc) (s : State) :
    (abortSwatch x s).seen hid = s.seen hid := by
  refine seen_mono hw ?_
  unfold abortSwatch
  simp

@[simp] theorem llArrived_keeps {hid : Nat} (hw : 0xC00000000000000 &&& hid = 0xC00000000000000) (x : Sc) (s : State) :
    (llArrived x s).seen hid = s.seen hid := by
  refine seen_mono hw ?_
  unfold llArrived
  simp

@[simp] theorem swatchGroup_keeps {hid : Nat}
    (hw : 0xC0040013200000000000000000000200000000000000 &&& hid = 0xC0040013200000000000000000000200000000000000) (x : Sc) (r : SwRun) (g : GroupId) (s : State) :
    (swatchGroup x r g s).2.seen hid = s.seen hid := by
  refine seen_mono hw ?_
  unfold swatchGroup
  (repeat' (first | split | dsimp only)) <;> simp

@[simp] theorem swatchJudge_keeps {hid : Nat}
    (hw : 0xC0040013200000000000000000000200000000000000 &&& hid = 0xC0040013200000000000000000000200000000000000) (x : Sc) (r : SwRun) (s : State) :
    (swatchJudge x r s).2.seen hid = s.seen hid := by
  unfold swatchJudge
  exact foldl_snd_keeps _ _ _ fun p g => swatchGroup_keeps hw x r g p.2

@[simp] theorem swatchRunEnd_keeps {hid : Nat}
    (hw : 0xC8040013200000000000000000000E00000000000000 &&& hid = 0xC8040013200000000000000000000E00000000000000) (x : Sc) (counts : List Nat) (s : State) :
    (swatchRunEnd x counts s).seen hid = s.seen hid := by
  refine seen_mono hw ?_
  unfold swatchRunEnd
  simp
  (repeat' split) <;> (first | (simp; done) | (simp_all; done))

@[simp] theorem swatchHoldTimeout_keeps {hid : Nat}
    (hw : 0x48040017200000000000000000000200000000000000 &&& hid = 0x48040017200000000000000000000200000000000000) (x : Sc) (s : State) :
    (swatchHoldTimeout x s).seen hid = s.seen hid := by
  refine seen_mono hw ?_
  unfold swatchHoldTimeout
  simp

@[simp] theorem runtimeTrainingTimeout_keeps {hid : Nat}
    (hw : 0x48040017200000000000000000000200000000000000 &&& hid = 0x48040017200000000000000000000200000000000000) (x : Sc) (s : State) :
    (runtimeTrainingTimeout x s).seen hid = s.seen hid := by
  refine seen_mono hw ?_
  unfold runtimeTrainingTimeout
  simp

@[simp] theorem shadowProgram_keeps {hid : Nat}
    (hw : 0x8040000000000000000000000020200000000000000 &&& hid = 0x8040000000000000000000000020200000000000000) (abort : Bool) (s : State) :
    (shadowProgram abort s).seen hid = s.seen hid := by
  refine seen_mono hw ?_
  unfold shadowProgram
  simp

@[simp] theorem oscAsks_keeps {hid : Nat}
    (hw : 0x40000000000000000000000000200000000000000 &&& hid = 0x40000000000000000000000000200000000000000) (x : Sc) (s : State) :
    (oscAsks x s).seen hid = s.seen hid := by
  refine seen_mono hw ?_
  unfold oscAsks
  simp

@[simp] theorem oscDevice_keeps {hid : Nat}
    (hw : 0x40000000000000000000000000200000000000000 &&& hid = 0x40000000000000000000000000200000000000000) (x : Sc) (counts : List Nat) (d : Fin 10) (s : State) :
    (oscDevice x counts d s).2.seen hid = s.seen hid := by
  refine seen_mono hw ?_
  unfold oscDevice
  (repeat' (first | split | dsimp only)) <;> simp

@[simp] theorem oscGo_keeps {hid : Nat}
    (hw : 0x40040013200000000000000000000200000000000000 &&& hid = 0x40040013200000000000000000000200000000000000) (x : Sc) (s : State) :
    (oscGo x s).seen hid = s.seen hid := by
  refine seen_mono hw ?_
  unfold oscGo
  split
  · rfl
  · rename_i counts _
    dsimp only
    split
    · rfl
    · generalize hs : updPhySc x (fun p => { p with osc := none }) s = s1
      have e : s1.seen 0x40040013200000000000000000000200000000000000 = s.seen 0x40040013200000000000000000000200000000000000 := by rw [← hs]; simp
      have h := foldl_snd_keeps (hid := 0x40040013200000000000000000000200000000000000) (swDevices s1)
        (fun (p : List Int × State) d => let r := oscDevice x counts d p.2; (p.1 ++ [r.1], r.2)) ([], s1)
        (fun p d => oscDevice_keeps (by decide) x counts d p.2)
      revert h
      generalize List.foldl _ _ _ = p
      intro h
      split
      · exact h.trans e
      · rw [promoteRecord_keeps (by decide), h, e]

@[simp] theorem oscPeriodExpiry_keeps {hid : Nat}
    (hw : 0x8000000001000000000000000000200000000000000 &&& hid = 0x8000000001000000000000000000200000000000000) (x : Sc) (counts : List Nat) (s : State) :
    (oscPeriodExpiry x counts s).seen hid = s.seen hid := by
  refine seen_mono hw ?_
  unfold oscPeriodExpiry
  simp

@[simp] theorem phyGo_keeps {hid : Nat}
    (hw : 0x4804001320000000000000000002CE00000000000000 &&& hid = 0x4804001320000000000000000002CE00000000000000) (x : Sc) (s : State) :
    (phyGo x s).seen hid = s.seen hid := by
  refine seen_mono hw ?_
  unfold phyGo
  simp

@[simp] theorem releaseRead_keeps {hid : Nat}
    (hw : 0x8000000000000000000000000000000000000000000 &&& hid = 0x8000000000000000000000000000000000000000000) (x : Sc) (id : Nat) (s : State) :
    (releaseRead x id s).seen hid = s.seen hid := by
  refine seen_mono hw ?_
  unfold releaseRead
  simp

@[simp] theorem settleRead_keeps {hid : Nat}
    (hw : 0x6B020213200000000000000000200000000000000000 &&& hid = 0x6B020213200000000000000000200000000000000000) (x : Sc) (id : Nat) (l : Lla) (d : Decoded) (s : State) :
    (settleRead x id l d s).seen hid = s.seen hid := by
  refine seen_mono hw ?_
  unfold settleRead
  simp
  (repeat' split) <;> (first | (simp; done) | (simp_all; done))

@[simp] theorem hostRead_keeps {hid : Nat}
    (hw : 0x6B020213200000000000000000200200000000000000 &&& hid = 0x6B020213200000000000000000200200000000000000) (x : Sc) (t : RdTag) (id : Nat) (rx : Capture) (s : State) :
    (hostRead x t id rx s).seen hid = s.seen hid := by
  refine seen_mono hw ?_
  unfold hostRead
  simp

@[simp] theorem mergeBase_keeps {hid : Nat}
    (hw : 0x6B02131B200000000209C000200000000000001C0000 &&& hid = 0x6B02131B200000000209C000200000000000001C0000) (x : Sc) (id : Nat) (l : Lla) (d : Decoded) (s : State) :
    (mergeBase x id l d s).seen hid = s.seen hid := by
  refine seen_mono hw ?_
  unfold mergeBase
  simp

theorem takeTag_keeps {hid : Nat} (hw : 0x8000000000000000000000000000000000000000000 &&& hid = 0x8000000000000000000000000000000000000000000) {x : Sc} {f : Origin → Bool} {s t : State}
    {r : RdTag} (h : takeTag x f s = some (r, t)) : t.seen hid = s.seen hid := by
  unfold takeTag at h
  split at h
  · cases h
  · simp only [Option.some.injEq, Prod.mk.injEq] at h
    rw [← h.2]; exact updSched_keeps hw _ _ _

@[simp] theorem mergeReadDecode_keeps {hid : Nat}
    (hw : 0x6B02131B200000000209C000202002000000001C0000 &&& hid = 0x6B02131B200000000209C000202002000000001C0000) (x : Sc) (rx : Capture) (s : State) :
    (mergeReadDecode x rx s).seen hid = s.seen hid := by
  refine seen_mono hw ?_
  unfold mergeReadDecode
  split
  · rfl
  · rename_i h
    rw [← takeTag_keeps (hid := 0x6B02131B200000000209C000202002000000001C0000) (by decide) h]
    (repeat' (first | split | dsimp only)) <;> simp

@[simp] theorem heldReadRelease_keeps {hid : Nat}
    (hw : 0x6B020213200000000000000020200000000000000000 &&& hid = 0x6B020213200000000000000020200000000000000000) (x : Sc) (s : State) :
    (heldReadRelease x s).seen hid = s.seen hid := by
  refine seen_mono hw ?_
  unfold heldReadRelease
  simp
  (repeat' split) <;> (first | (simp; done) | (simp_all; done))

@[simp] theorem freezeCh_keeps {hid : Nat}
    (hw : 0x8000000000000000000000000000000000000000000 &&& hid = 0x8000000000000000000000000000000000000000000) (c : Ch) (s : State) :
    (freezeCh c s).seen hid = s.seen hid := by
  refine seen_mono hw ?_
  unfold freezeCh
  simp

@[simp] theorem requeue_keeps {hid : Nat}
    (hw : 0x8000000000000000080000000000000000000000000 &&& hid = 0x8000000000000000080000000000000000000000000) (x : Sc) (r : RdTag) (s : State) :
    (requeue x r s).seen hid = s.seen hid := by
  refine seen_mono hw ?_
  unfold requeue
  (repeat' split) <;> simp

@[simp] theorem resume_keeps {hid : Nat}
    (hw : 0x8000000000000000080000000000000000000000000 &&& hid = 0x8000000000000000080000000000000000000000000) (c : Ch) (s : State) :
    (resume c s).seen hid = s.seen hid := by
  refine seen_mono hw ?_
  unfold resume
  try simp
  (repeat' (first | split | (refine (forAll_keeps _ _ _ (fun a s => ?_)).trans ?_) | dsimp only)) <;> (first | rfl | (simp; done) | (simp_all; done))

@[simp] theorem startAttempt_keeps {hid : Nat}
    (hw : 0x8001000000000000000000000000000000000000000 &&& hid = 0x8001000000000000000000000000000000000000000) (x : Sc) (n : Nat) (s : State) :
    (startAttempt x n s).seen hid = s.seen hid := by
  refine seen_mono hw ?_
  unfold startAttempt
  simp

@[simp] theorem replayRecord_keeps {hid : Nat}
    (hw : 0x40000013200000000000000000000000000000000000 &&& hid = 0x40000013200000000000000000000000000000000000) (c : Ch) (s : State) :
    (replayRecord c s).seen hid = s.seen hid := by
  refine seen_mono hw ?_
  unfold replayRecord
  simp

@[simp] theorem failRecord_keeps {hid : Nat}
    (hw : 0x40000011200000000000000000000000000000000000 &&& hid = 0x40000011200000000000000000000000000000000000) (c : Ch) (phase : Nat) (lost : Nat) (time : Nat) (sev : Fin 8) (s : State) :
    (failRecord c phase lost time sev s).seen hid = s.seen hid := by
  refine seen_mono hw ?_
  unfold failRecord
  simp

@[simp] theorem loseUnissued_keeps {hid : Nat}
    (hw : 0x8000000100000000000800000000000000000000000 &&& hid = 0x8000000100000000000800000000000000000000000) (c : Ch) (s : State) :
    (loseUnissued c s).seen hid = s.seen hid := by
  refine seen_mono hw ?_
  unfold loseUnissued
  simp

@[simp] theorem startRecovery_keeps {hid : Nat}
    (hw : 0x58000011300000000000800000000000000000000000 &&& hid = 0x58000011300000000000800000000000000000000000) (c : Ch) (failed : BitVec 2) (wdog : Bool) (s : State) :
    (startRecovery c failed wdog s).seen hid = s.seen hid := by
  refine seen_mono hw ?_
  unfold startRecovery
  simp

@[simp] theorem replayFail_keeps {hid : Nat}
    (hw : 0x58001011300000000000800000000000000000000000 &&& hid = 0x58001011300000000000800000000000000000000000) (c : Ch) (s : State) :
    (replayFail c s).seen hid = s.seen hid := by
  refine seen_mono hw ?_
  unfold replayFail
  simp

@[simp] theorem chInit_keeps {hid : Nat}
    (hw : 0x8000000000000000000000000000000740000 &&& hid = 0x8000000000000000000000000000000740000) (c : Ch) (s : State) :
    (chInit c s).seen hid = s.seen hid := by
  refine seen_mono hw ?_
  unfold chInit
  simp

@[simp] theorem strandSc_keeps {hid : Nat}
    (hw : 0x2B000308000000000209C000200000000000001C0000 &&& hid = 0x2B000308000000000209C000200000000000001C0000) (x : Sc) (s : State) :
    (strandSc x s).seen hid = s.seen hid := by
  refine seen_mono hw ?_
  unfold strandSc
  try simp
  (repeat' (first | split | (refine (forAll_keeps _ _ _ (fun a s => ?_)).trans ?_) | dsimp only)) <;> (first | rfl | (simp; done) | (simp_all; done))

@[simp] theorem loseChannel_keeps {hid : Nat}
    (hw : 0x7B120319200000000209C0002EC000000000807C0000 &&& hid = 0x7B120319200000000209C0002EC000000000807C0000) (c : Ch) (s : State) :
    (loseChannel c s).seen hid = s.seen hid := by
  refine seen_mono hw ?_
  unfold loseChannel
  simp

@[simp] theorem force_keeps {hid : Nat}
    (hw : 0x280090000000000000000000000000000CFC00000000 &&& hid = 0x280090000000000000000000000000000CFC00000000) (fuel : Nat) (x : Sc) (c : Cmd) (later : List Cmd) (s : State) :
    (force fuel x c later s).seen hid = s.seen hid := by
  refine seen_mono hw ?_
  clear hw
  induction fuel generalizing c s with
  | zero => simp [force]
  | succ n ih =>
    unfold force
    first
      | (simp [ih]; done)
      | (simp; (repeat' split) <;> (first | (simp [ih]; done) | (simp_all; done)))

@[simp] theorem sleepRanks_keeps {hid : Nat}
    (hw : 0x280090000000000000000000000000000CFC00000000 &&& hid = 0x280090000000000000000000000000000CFC00000000) (x : Sc) (s : State) :
    (sleepRanks x s).seen hid = s.seen hid := by
  refine seen_mono hw ?_
  unfold sleepRanks
  simp

@[simp] theorem recoverySleep_keeps {hid : Nat}
    (hw : 0x380090000000000000000000000000000CFC00000000 &&& hid = 0x380090000000000000000000000000000CFC00000000) (c : Ch) (s : State) :
    (recoverySleep c s).seen hid = s.seen hid := by
  refine seen_mono hw ?_
  unfold recoverySleep
  simp

@[simp] theorem recoveryAlign_keeps {hid : Nat}
    (hw : 0x280090000000000000000000000000000CFC00000000 &&& hid = 0x280090000000000000000000000000000CFC00000000) (x : Sc) (s : State) :
    (recoveryAlign x s).seen hid = s.seen hid := by
  refine seen_mono hw ?_
  unfold recoveryAlign
  simp

@[simp] theorem recoveryFails_keeps {hid : Nat}
    (hw : 0x7B12031F200000000209C0002EC000000000807C0000 &&& hid = 0x7B12031F200000000209C0002EC000000000807C0000) (c : Ch) (s : State) :
    (recoveryFails c s).seen hid = s.seen hid := by
  refine seen_mono hw ?_
  unfold recoveryFails
  simp

@[simp] theorem wakeRanks_keeps {hid : Nat}
    (hw : 0x280090000000000000000000000000000CFC80000000 &&& hid = 0x280090000000000000000000000000000CFC80000000) (x : Sc) (s : State) :
    (wakeRanks x s).seen hid = s.seen hid := by
  refine seen_mono hw ?_
  unfold wakeRanks
  simp

@[simp] theorem rewriteWindow_keeps {hid : Nat}
    (hw : 0x280090000000000000000000000000000CFC00000000 &&& hid = 0x280090000000000000000000000000000CFC00000000) (x : Sc) (s : State) :
    (rewriteWindow x s).seen hid = s.seen hid := by
  refine seen_mono hw ?_
  unfold rewriteWindow
  simp

@[simp] theorem recoveryDone_keeps {hid : Nat}
    (hw : 0x7B12931F200000000289C0002EC002000CFC807C0000 &&& hid = 0x7B12931F200000000289C0002EC002000CFC807C0000) (c : Ch) (pa pb : Option (BitVec 3)) (s : State) :
    (recoveryDone c pa pb s).seen hid = s.seen hid := by
  refine seen_mono hw ?_
  unfold recoveryDone
  have pre : ∀ s : State, (forAll [scA c, scB c] recoveryAlign (dckStop c (onlyIf (!(s.alert.get c).slept)
      (forAll [scA c, scB c] sleepRanks) s))).seen 0x7B12931F200000000289C0002EC002000CFC807C0000 = s.seen 0x7B12931F200000000289C0002EC002000CFC807C0000 := fun s => by
    rw [forAll_keeps _ _ _ fun x s => recoveryAlign_keeps (by decide) x s, dckStop_keeps (by decide)]
    exact onlyIf_keeps _ _ _ (forAll_keeps _ _ _ fun x s => sleepRanks_keeps (by decide) x s)
  dsimp only
  split
  · rfl
  · split
    · rw [updAlert_keeps (by decide), resume_keeps (by decide), sqSet_keeps _ _ _ (by simp), failRecord_keeps (by decide),
        freezeCh_keeps (by decide), forAll_keeps _ _ _ fun x s => rewriteWindow_keeps (by decide) x s]
      rw [forAll_keeps _ _ _ fun x s => toRanks_keeps (by decide) _ _ _ s _, forAll_keeps _ _ _ fun x s => wakeRanks_keeps (by decide) x s,
        updPhySc_keeps (by decide), updPhySc_keeps (by decide), dckStart_keeps (by decide), pre s]
    · rw [recoveryFails_keeps (by decide), pre s]

@[simp] theorem recoveryTimeout_keeps {hid : Nat}
    (hw : 0x7B12031F200000000209C0002EC000000000807C0000 &&& hid = 0x7B12031F200000000209C0002EC000000000807C0000) (c : Ch) (s : State) :
    (recoveryTimeout c s).seen hid = s.seen hid := by
  refine seen_mono hw ?_
  unfold recoveryTimeout
  simp

@[simp] theorem pprAlert_keeps {hid : Nat} (hw : 0x400000000000000000 &&& hid = 0x400000000000000000) (c : Ch)
    (s : State) :
    (pprAlert c s).seen hid = s.seen hid := by
  refine seen_mono hw ?_
  unfold pprAlert
  simp

@[simp] theorem alertRecognised_keeps {hid : Nat}
    (hw : 0x7B12031F200000000209C0002EC000000000807C0000 &&& hid = 0x7B12031F200000000209C0002EC000000000807C0000) (c : Ch) (s : State) :
    (alertRecognised c s).seen hid = s.seen hid := by
  refine seen_mono hw ?_
  unfold alertRecognised
  simp

@[simp] theorem startReplay_keeps {hid : Nat}
    (hw : 0x58001013300000000080000000000000000000000000 &&& hid = 0x58001013300000000080000000000000000000000000) (c : Ch) (cls : Fin 4) (w : Nat) (s : State) :
    (startReplay c cls w s).seen hid = s.seen hid := by
  refine seen_mono hw ?_
  unfold startReplay
  simp

@[simp] theorem alertRelease_keeps {hid : Nat}
    (hw : 0x5800B017300000000080800000000000110000000000 &&& hid = 0x5800B017300000000080800000000000110000000000) (c : Ch) (w : Nat) (s : State) :
    (alertRelease c w s).seen hid = s.seen hid := by
  refine seen_mono hw ?_
  unfold alertRelease
  simp

@[simp] theorem replayAttemptEnd_keeps {hid : Nat}
    (hw : 0x48021013200000000080000000000000000000000000 &&& hid = 0x48021013200000000080000000000000000000000000) (c : Ch) (s : State) :
    (replayAttemptEnd c s).seen hid = s.seen hid := by
  refine seen_mono hw ?_
  unfold replayAttemptEnd
  simp

@[simp] theorem alertHeldLow_keeps {hid : Nat}
    (hw : 0x58001017300000000000800000000000000000000000 &&& hid = 0x58001017300000000000800000000000000000000000) (c : Ch) (s : State) :
    (alertHeldLow c s).seen hid = s.seen hid := by
  refine seen_mono hw ?_
  unfold alertHeldLow
  simp

@[simp] theorem watchdog_keeps {hid : Nat}
    (hw : 0x780090173000000000008000000000000CFC00000000 &&& hid = 0x780090173000000000008000000000000CFC00000000) (x : Sc) (s : State) :
    (watchdog x s).seen hid = s.seen hid := by
  refine seen_mono hw ?_
  unfold watchdog
  simp

@[simp] theorem writeGap_keeps {hid : Nat}
    (hw : 0x10C00000000000000000000000000000000000 &&& hid = 0x10C00000000000000000000000000000000000) (g : Gap) (s : State) :
    (writeGap g s).seen hid = s.seen hid := by
  refine seen_mono hw ?_
  unfold writeGap
  simp

@[simp] theorem addDrops_keeps {hid : Nat}
    (hw : 0x10C00000000000000000000000000000000000 &&& hid = 0x10C00000000000000000000000000000000000) (g : Gap) (s : State) :
    (addDrops g s).seen hid = s.seen hid := by
  refine seen_mono hw ?_
  unfold addDrops
  split
  · split
    · simp
    · split <;> simp
  · simp

@[simp] theorem takeRec_keeps {hid : Nat}
    (hw : 0x10E00000000000000000000000000000000000 &&& hid = 0x10E00000000000000000000000000000000000) (r : Rec) (s : State) :
    (takeRec r s).seen hid = s.seen hid := by
  refine seen_mono hw ?_
  unfold takeRec
  dsimp only
  split
  · simp
  · split
    · split <;> simp
    · simp

@[simp] theorem parityErrors_keeps {hid : Nat}
    (hw : 0x10000000000000000000000000000000000000 &&& hid = 0x10000000000000000000000000000000000000) (n : Nat) (s : State) :
    (parityErrors n s).seen hid = s.seen hid := by
  refine seen_mono hw ?_
  unfold parityErrors
  simp

@[simp] theorem checkChain_keeps {hid : Nat}
    (hw : 0x10400000000000000000000000000000000000 &&& hid = 0x10400000000000000000000000000000000000) (s : State) :
    (checkChain s).seen hid = s.seen hid := by
  refine seen_mono hw ?_
  unfold checkChain
  simp

@[simp] theorem evtChainTake_keeps {hid : Nat}
    (hw : 0x10E00000000000000000000000000000000000 &&& hid = 0x10E00000000000000000000000000000000000) (upsets : List (Nat × BitVec 33)) (s : State) :
    (evtChainTake upsets s).seen hid = s.seen hid := by
  refine seen_mono hw ?_
  unfold evtChainTake
  dsimp only
  rw [checkChain_keeps (by decide)]
  (repeat' split) <;> simp

@[simp] theorem evtDataRead_keeps {hid : Nat}
    (hw : 0x20000010400000000000000000000000000000000000 &&& hid = 0x20000010400000000000000000000000000000000000) (upset : BitVec 33) (s : State) :
    (evtDataRead upset s).seen hid = s.seen hid := by
  refine seen_mono hw ?_
  unfold evtDataRead
  dsimp only
  split <;> simp

@[simp] theorem evtFlush_keeps {hid : Nat}
    (hw : 0x10400000000000000000000000000000000000 &&& hid = 0x10400000000000000000000000000000000000) (s : State) :
    (evtFlush s).seen hid = s.seen hid := by
  refine seen_mono hw ?_
  unfold evtFlush
  simp

@[simp] theorem evtIrqDelay_keeps {hid : Nat}
    (hw : 0x400000000000000000000000000000000000 &&& hid = 0x400000000000000000000000000000000000) (s : State) :
    (evtIrqDelay s).seen hid = s.seen hid := by
  refine seen_mono hw ?_
  unfold evtIrqDelay
  dsimp only
  simp only [updEvt]
  split <;> simp [State.seen, Evt.seen]

end Sys2Proof.Machine
end

