-- ==== Sys2Proof/Laws/FrameRas.lean ====
section
/-! SUPPORT. The parts of State that the operations of Ras, Mirror, Domain keep. -/

namespace Sys2Proof.Machine

@[simp] theorem rplCopy_keeps {hid : Nat}
    (hw : 0x8000000000000000000000000000000000000000000 &&& hid = 0x8000000000000000000000000000000000000000000) (c : Ch) (s : State) :
    (rplCopy c s).seen hid = s.seen hid := by
  refine seen_mono hw ?_
  unfold rplCopy
  simp

@[simp] theorem rplPut_keeps {hid : Nat} (hw : 0x1000000000000000000 &&& hid = 0x1000000000000000000)
    (e : Word × Word) (s : State) :
    (rplPut e s).seen hid = s.seen hid := by
  refine seen_mono hw ?_
  unfold rplPut
  simp

@[simp] theorem rplAdd_keeps {hid : Nat}
    (hw : 0x8000000000000000000000001000000000000000000 &&& hid = 0x8000000000000000000000001000000000000000000) (c : Ch) (e : Word × Word) (s : State) :
    (rplAdd c e s).seen hid = s.seen hid := by
  refine seen_mono hw ?_
  unfold rplAdd
  simp

@[simp] theorem updScrub_keeps {hid : Nat} (hw : 0x200000000000000000 &&& hid = 0x200000000000000000) (x : Sc)
    (f : Scrub → Scrub) (s : State) :
    (updScrub x f s).seen hid = s.seen hid := by
  refine seen_mono hw ?_
  unfold updScrub
  first
    | (simp; done)
    | (((repeat' split) <;> (first | (simp; done) | (simp_all; done))); done)
    | (simp; (repeat' split) <;> (first | (simp; done) | (simp_all; done)))
    | (simp [State.seen, Glb.seen, Qz.seen, Ref.seen, Qos.seen, Phy.seen, Ras.seen, Egp.seen, Mir.seen, Dom.seen, Img.seen, Glg.seen, Pwr.seen, Evt.seen]; done)

@[simp] theorem scrubStart_keeps {hid : Nat} (hw : 0x200000000000000000 &&& hid = 0x200000000000000000) (x : Sc)
    (t0 : Nat) (s : State) :
    (scrubStart x t0 s).seen hid = s.seen hid := by
  refine seen_mono hw ?_
  unfold scrubStart
  simp

@[simp] theorem scrubStep_keeps {hid : Nat}
    (hw : 0x20000000000000000000000200000000000000000 &&& hid = 0x20000000000000000000000200000000000000000) (x : Sc) (s : State) :
    (scrubStep x s).seen hid = s.seen hid := by
  refine seen_mono hw ?_
  unfold scrubStep
  simp

@[simp] theorem scrubOffer_keeps {hid : Nat}
    (hw : 0x8020000000000000000000000200000000000200000 &&& hid = 0x8020000000000000000000000200000000000200000) (x : Sc) (s : State) :
    (scrubOffer x s).seen hid = s.seen hid := by
  refine seen_mono hw ?_
  unfold scrubOffer
  simp
  (repeat' split) <;> (first | (simp; done) | (simp_all; done))

@[simp] theorem scrubDeadline_keeps {hid : Nat}
    (hw : 0x40020011200000000000000000200000000000000000 &&& hid = 0x40020011200000000000000000200000000000000000) (x : Sc) (s : State) :
    (scrubDeadline x s).seen hid = s.seen hid := by
  refine seen_mono hw ?_
  unfold scrubDeadline
  simp

@[simp] theorem actScrubCfg_keeps {hid : Nat}
    (hw : 0x8000000000000000000000000200000000000000000 &&& hid = 0x8000000000000000000000000200000000000000000) (old : Word) (s : State) :
    (actScrubCfg old s).seen hid = s.seen hid := by
  refine seen_mono hw ?_
  unfold actScrubCfg
  simp

@[simp] theorem scrubRecord_keeps {hid : Nat}
    (hw : 0x40000013200000000000000000000000000000000000 &&& hid = 0x40000013200000000000000000000000000000000000) (l : Lla) (d : Decoded) (dev : Nat) (origin : Nat) (repaired : Bool) (lost : Bool) (s : State) :
    (scrubRecord l d dev origin repaired lost s).seen hid = s.seen hid := by
  refine seen_mono hw ?_
  unfold scrubRecord
  (repeat' split) <;> simp

@[simp] theorem scrubBack_keeps {hid : Nat}
    (hw : 0x8000000000000000000000000000000000000000000 &&& hid = 0x8000000000000000000000000000000000000000000) (x : Sc) (l : Lla) (data : Line) (poison : Bool) (origin : Nat) (s : State) :
    (scrubBack x l data poison origin s).seen hid = s.seen hid := by
  refine seen_mono hw ?_
  unfold scrubBack
  simp

@[simp] theorem scrubKeep_keeps {hid : Nat}
    (hw : 0x8000000000000000000000000000000000000000000 &&& hid = 0x8000000000000000000000000000000000000000000) (x : Sc) (l : Lla) (data : Line) (poison : Bool) (origin : Nat) (s : State) :
    (scrubKeep x l data poison origin s).seen hid = s.seen hid := by
  refine seen_mono hw ?_
  unfold scrubKeep
  simp

@[simp] theorem scrubPoison_keeps {hid : Nat}
    (hw : 0x48000013200000000000000000000000000000000000 &&& hid = 0x48000013200000000000000000000000000000000000) (x : Sc) (l : Lla) (d : Decoded) (dev : Nat) (origin : Nat) (s : State) :
    (scrubPoison x l d dev origin s).seen hid = s.seen hid := by
  refine seen_mono hw ?_
  unfold scrubPoison
  simp

@[simp] theorem scrubFetched_keeps {hid : Nat}
    (hw : 0x48020013200000000000000008000000000000000000 &&& hid = 0x48020013200000000000000008000000000000000000) (x : Sc) (l : Lla) (st : Option Status) (data : Line) (s : State) :
    (scrubFetched x l st data s).seen hid = s.seen hid := by
  refine seen_mono hw ?_
  unfold scrubFetched
  (repeat' split) <;> simp

@[simp] theorem scrubDecode_keeps {hid : Nat}
    (hw : 0x4802001320000000000000003AB80200000000000000 &&& hid = 0x4802001320000000000000003AB80200000000000000) (x : Sc) (t : RdTag) (rx : Capture) (s : State) :
    (scrubDecode x t rx s).seen hid = s.seen hid := by
  refine seen_mono hw ?_
  unfold scrubDecode
  simp
  (repeat' split) <;> (first | (simp; done) | (simp_all; done))

@[simp] theorem scrubReadDecode_keeps {hid : Nat}
    (hw : 0x4802001320000000000000003AB80200000000000000 &&& hid = 0x4802001320000000000000003AB80200000000000000) (x : Sc) (rx : Capture) (s : State) :
    (scrubReadDecode x rx s).seen hid = s.seen hid := by
  refine seen_mono hw ?_
  unfold scrubReadDecode
  split
  · rfl
  · rename_i h
    rw [← takeTag_keeps (hid := 0x4802001320000000000000003AB80200000000000000) (by decide) h]
    (repeat' (first | split | dsimp only)) <;> simp

@[simp] theorem errorLeak_keeps {hid : Nat} (hw : 0x80000000000000000 &&& hid = 0x80000000000000000) (s : State) :
    (errorLeak s).seen hid = s.seen hid := by
  refine seen_mono hw ?_
  unfold errorLeak
  simp

@[simp] theorem deviceMarked_keeps {hid : Nat}
    (hw : 0x48020011200000000000000013080000000000000000 &&& hid = 0x48020011200000000000000013080000000000000000) (x : Sc) (u : Nat) (d : Fin 10) (s : State) :
    (deviceMarked x u d s).seen hid = s.seen hid := by
  refine seen_mono hw ?_
  unfold deviceMarked
  simp

@[simp] theorem spareRefuse_keeps {hid : Nat}
    (hw : 0x40020011200000000000000000000000000000000000 &&& hid = 0x40020011200000000000000000000000000000000000) (r : SpareReq) (spare : Nat) (s : State) :
    (spareRefuse r spare s).seen hid = s.seen hid := by
  refine seen_mono hw ?_
  unfold spareRefuse
  simp

@[simp] theorem shutCs_keeps {hid : Nat}
    (hw : 0x280090000000000000000000000000000CFC00000000 &&& hid = 0x280090000000000000000000000000000CFC00000000) (x : Sc) (cs : BitVec 2) (s : State) :
    (shutCs x cs s).seen hid = s.seen hid := by
  refine seen_mono hw ?_
  unfold shutCs
  simp

@[simp] theorem pinOne_keeps {hid : Nat}
    (hw : 0x280090000000000000000000000000000CFC00000000 &&& hid = 0x280090000000000000000000000000000CFC00000000) (x : Sc) (d : Cmd) (s : State) :
    (pinOne x d s).seen hid = s.seen hid := by
  refine seen_mono hw ?_
  unfold pinOne
  simp

@[simp] theorem rawCmd_keeps {hid : Nat}
    (hw : 0x280090000000000000000000000000000CFC00000000 &&& hid = 0x280090000000000000000000000000000CFC00000000) (x : Sc) (k : CmdKind) (cs : BitVec 2) (s : State) :
    (rawCmd x k cs s).seen hid = s.seen hid := by
  refine seen_mono hw ?_
  unfold rawCmd
  simp

@[simp] theorem openTwins_keeps {hid : Nat}
    (hw : 0x280090000000000000000000000000000CFC00000000 &&& hid = 0x280090000000000000000000000000000CFC00000000) (x : Sc) (cs : BitVec 2) (spare : BitVec 2) (s : State) :
    (openTwins x cs spare s).seen hid = s.seen hid := by
  refine seen_mono hw ?_
  unfold openTwins
  simp

@[simp] theorem spareCalendars_keeps {hid : Nat} (hw : 0x80000000 &&& hid = 0x80000000) (x : Sc) (r : SpareReq)
    (spare : Nat) (s : State) :
    (spareCalendars x r spare s).seen hid = s.seen hid := by
  refine seen_mono hw ?_
  unfold spareCalendars
  simp

@[simp] theorem sparingStart_keeps {hid : Nat}
    (hw : 0x680290112000000000000000020000000CFC80000000 &&& hid = 0x680290112000000000000000020000000CFC80000000) (c : Ch) (s : State) :
    (sparingStart c s).seen hid = s.seen hid := by
  refine seen_mono hw ?_
  unfold sparingStart
  simp
  (repeat' split) <;> (first | (simp; done) | (simp_all; done))

@[simp] theorem forceLine_keeps {hid : Nat}
    (hw : 0x280090000000000000000000000000000CFC00000000 &&& hid = 0x280090000000000000000000000000000CFC00000000) (x : Sc) (c : Cmd) (l : Lla) (d : Line) (poison : Bool) (s : State) :
    (forceLine x c l d poison s).seen hid = s.seen hid := by
  refine seen_mono hw ?_
  unfold forceLine
  simp

@[simp] theorem spareSwitch_keeps {hid : Nat}
    (hw : 0x8000000000000000000000010080000086C80000000 &&& hid = 0x8000000000000000000000010080000086C80000000) (x : Sc) (cs : Nat) (spare : Nat) (s : State) :
    (spareSwitch x cs spare s).seen hid = s.seen hid := by
  refine seen_mono hw ?_
  unfold spareSwitch
  simp

@[simp] theorem sparingComplete_keeps {hid : Nat}
    (hw : 0x680290112000000000000000130800000CFC80000000 &&& hid = 0x680290112000000000000000130800000CFC80000000) (c : Ch) (s : State) :
    (sparingComplete c s).seen hid = s.seen hid := by
  refine seen_mono hw ?_
  unfold sparingComplete
  simp
  (repeat' split) <;> (first | (simp; done) | (simp_all; done))

@[simp] theorem pprRecord_keeps {hid : Nat}
    (hw : 0x40000011200000000000000000000000000000000000 &&& hid = 0x40000011200000000000000000000000000000000000) (r : PprRow) (dev : Nat) (outcome : Nat) (hard : Bool) (l : Lla) (s : State) :
    (pprRecord r dev outcome hard l s).seen hid = s.seen hid := by
  refine seen_mono hw ?_
  unfold pprRecord
  simp

@[simp] theorem pprEnd_keeps {hid : Nat}
    (hw : 0x48020011200000000000000001400000000000000000 &&& hid = 0x48020011200000000000000001400000000000000000) (x : Sc) (l : Lla) (dev : Nat) (count : Nat) (outcome : Nat) (byReq : Bool) (s : State) :
    (pprEnd x l dev count outcome byReq s).seen hid = s.seen hid := by
  refine seen_mono hw ?_
  unfold pprEnd
  simp

@[simp] theorem pprStart_keeps {hid : Nat}
    (hw : 0x48020011200000000000000001C00000000000000000 &&& hid = 0x48020011200000000000000001C00000000000000000) (sc : Sc) (resourceLeft : Bool) (s : State) :
    (pprStart sc resourceLeft s).seen hid = s.seen hid := by
  refine seen_mono hw ?_
  unfold pprStart
  (repeat' split) <;> simp

@[simp] theorem repairRead_keeps {hid : Nat}
    (hw : 0x40020013200000000000000000600200000000000000 &&& hid = 0x40020013200000000000000000600200000000000000) (x : Sc) (t : RdTag) (rx : Capture) (s : State) :
    (repairRead x t rx s).seen hid = s.seen hid := by
  refine seen_mono hw ?_
  unfold repairRead
  simp
  (repeat' split) <;> (first | (simp; done) | (simp_all; done))

@[simp] theorem shutBank_keeps {hid : Nat}
    (hw : 0x280090000000000000000000000000000CFC00000000 &&& hid = 0x280090000000000000000000000000000CFC00000000) (x : Sc) (c : Cmd) (s : State) :
    (shutBank x c s).seen hid = s.seen hid := by
  refine seen_mono hw ?_
  unfold shutBank
  simp

@[simp] theorem pprMode_keeps {hid : Nat}
    (hw : 0x280090000000000000000000004000000CFC00000000 &&& hid = 0x280090000000000000000000004000000CFC00000000) (s : State) :
    (pprMode s).seen hid = s.seen hid := by
  refine seen_mono hw ?_
  unfold pprMode
  (repeat' split) <;> simp

@[simp] theorem pprTimeout_keeps {hid : Nat}
    (hw : 0x40000017200000000000000000400000000000000000 &&& hid = 0x40000017200000000000000000400000000000000000) (s : State) :
    (pprTimeout s).seen hid = s.seen hid := by
  refine seen_mono hw ?_
  unfold pprTimeout
  (repeat' split) <;> simp

@[simp] theorem pprSave_keeps {hid : Nat}
    (hw : 0x8000000000000000000000000400000000000000000 &&& hid = 0x8000000000000000000000000400000000000000000) (p : Ppr) (s : State) :
    (pprSave p s).seen hid = s.seen hid := by
  refine seen_mono hw ?_
  unfold pprSave
  simp

@[simp] theorem pprBack_keeps {hid : Nat}
    (hw : 0x8000000000000000000000000400000000000200000 &&& hid = 0x8000000000000000000000000400000000000200000) (p : Ppr) (s : State) :
    (pprBack p s).seen hid = s.seen hid := by
  refine seen_mono hw ?_
  unfold pprBack
  simp

@[simp] theorem pprGo_keeps {hid : Nat}
    (hw : 0x8000000000000000000000000400000000000200000 &&& hid = 0x8000000000000000000000000400000000000200000) (x : Sc) (s : State) :
    (pprGo x s).seen hid = s.seen hid := by
  refine seen_mono hw ?_
  unfold pprGo
  (repeat' split) <;> simp

@[simp] theorem pprDone_keeps {hid : Nat}
    (hw : 0x48020011200000000000000001400000000000000000 &&& hid = 0x48020011200000000000000001400000000000000000) (sc : Sc) (s : State) :
    (pprDone sc s).seen hid = s.seen hid := by
  refine seen_mono hw ?_
  unfold pprDone
  (repeat' split) <;> simp

@[simp] theorem actRepair_keeps {hid : Nat}
    (hw : 0x20000000000000000000000800000000000000000 &&& hid = 0x20000000000000000000000800000000000000000) (v : Word) (s : State) :
    (actRepair v s).seen hid = s.seen hid := by
  refine seen_mono hw ?_
  unfold actRepair
  simp

@[simp] theorem actSpare_keeps {hid : Nat}
    (hw : 0x40020011200000000000000002000000000000000000 &&& hid = 0x40020011200000000000000002000000000000000000) (v : Word) (s : State) :
    (actSpare v s).seen hid = s.seen hid := by
  refine seen_mono hw ?_
  unfold actSpare
  simp

@[simp] theorem actClear_keeps {hid : Nat}
    (hw : 0x20000000000000000000000080000000000000000 &&& hid = 0x20000000000000000000000080000000000000000) (s : State) :
    (actClear s).seen hid = s.seen hid := by
  refine seen_mono hw ?_
  unfold actClear
  simp

@[simp] theorem actRasReq_keeps {hid : Nat}
    (hw : 0x40020011200000000000000002880000000000000000 &&& hid = 0x40020011200000000000000002880000000000000000) (v : Word) (s : State) :
    (actRasReq v s).seen hid = s.seen hid := by
  refine seen_mono hw ?_
  unfold actRasReq
  (repeat' split) <;> simp

@[simp] theorem actDbg_keeps {hid : Nat}
    (hw : 0x8100000000000000000000004000000000000000000 &&& hid = 0x8100000000000000000000004000000000000000000) (v : Word) (s : State) :
    (actDbg v s).seen hid = s.seen hid := by
  refine seen_mono hw ?_
  unfold actDbg
  (repeat' split) <;> simp

@[simp] theorem dbgOpDone_keeps {hid : Nat}
    (hw : 0x8120000000000000000000004200200000000000000 &&& hid = 0x8120000000000000000000004200200000000000000) (r : DbgResult) (s : State) :
    (dbgOpDone r s).seen hid = s.seen hid := by
  refine seen_mono hw ?_
  unfold dbgOpDone
  split
  · rfl
  · split
    · split
      · rfl
      · rename_i h
        dsimp only
        rw [dbgEnd_keeps (by decide), readSeen_keeps (by decide), takeTag_keeps (by decide) h]
    · split
      · rw [dbgEnd_keeps (by decide)]
      · rfl

@[simp] theorem notePeer_keeps {hid : Nat} (hw : 0xC000000000000000000000 &&& hid = 0xC000000000000000000000)
    (m : Vector Word 8) (e : BitVec 8) (s : State) :
    (notePeer m e s).seen hid = s.seen hid := by
  refine seen_mono hw ?_
  unfold notePeer
  simp

@[simp] theorem staleReply_keeps {hid : Nat}
    (hw : 0x80000000000200000020000000000000000000 &&& hid = 0x80000000000200000020000000000000000000) (m : Vector Word 8) (s : State) :
    (staleReply m s).seen hid = s.seen hid := by
  refine seen_mono hw ?_
  unfold staleReply
  simp

@[simp] theorem mirrorMsg_keeps {hid : Nat}
    (hw : 0x8000000000020000C020000000000000000000 &&& hid = 0x8000000000020000C020000000000000000000) (m : Vector Word 8) (f : State → State)
    (s : State) (h : ∀ s, (f s).seen hid = s.seen hid) : (mirrorMsg m f s).seen hid = s.seen hid := by
  unfold mirrorMsg
  have h1 : ∀ e s, (notePeer m e s).seen hid = s.seen hid := fun e s => notePeer_keeps (sub_trans (by decide) hw) m e s
  have h2 : ∀ s, (staleReply m s).seen hid = s.seen hid := fun s => staleReply_keeps (sub_trans (by decide) hw) m s
  first
    | (simp [h, h1, h2]; done)
    | (simp; (repeat' split) <;> (first | (simp [h, h1, h2]; done) | (simp_all; done)))

@[simp] theorem divergentPeer_keeps {hid : Nat}
    (hw : 0x40000011200000000000000000000000000000000000 &&& hid = 0x40000011200000000000000000000000000000000000) (kind : Nat) (fp : Nat) (s : State) :
    (divergentPeer kind fp s).seen hid = s.seen hid := by
  refine seen_mono hw ?_
  unfold divergentPeer
  simp

@[simp] theorem diverge_keeps {hid : Nat}
    (hw : 0x6B000319200010000089D01E200000000000001C0000 &&& hid = 0x6B000319200010000089D01E200000000000001C0000) (kind : Nat) (fp : Nat) (s : State) :
    (diverge kind fp s).seen hid = s.seen hid := by
  refine seen_mono hw ?_
  unfold diverge
  simp

@[simp] theorem compareFps_keeps {hid : Nat}
    (hw : 0x6B000319200010000089D01E200000000000001C0000 &&& hid = 0x6B000319200010000089D01E200000000000001C0000) (inv : Option Nat) (pair : Nat) (s : State) :
    (compareFps inv pair s).seen hid = s.seen hid := by
  refine seen_mono hw ?_
  unfold compareFps
  (repeat' split) <;> simp

@[simp] theorem heartbeatSend_keeps {hid : Nat}
    (hw : 0x200030020000000000000000000 &&& hid = 0x200030020000000000000000000) (s : State) :
    (heartbeatSend s).seen hid = s.seen hid := by
  refine seen_mono hw ?_
  unfold heartbeatSend
  simp

@[simp] theorem heartbeatLoss_keeps {hid : Nat}
    (hw : 0x6B00031F200010000089D71E200000000000001C0000 &&& hid = 0x6B00031F200010000089D71E200000000000001C0000) (s : State) :
    (heartbeatLoss s).seen hid = s.seen hid := by
  refine seen_mono hw ?_
  unfold heartbeatLoss
  simp

@[simp] theorem sendRole_keeps {hid : Nat}
    (hw : 0x201000020000000000000000000 &&& hid = 0x201000020000000000000000000) (pay : List Word) (s : State) :
    (sendRole pay s).seen hid = s.seen hid := by
  refine seen_mono hw ?_
  unfold sendRole
  try simp
  (repeat' (first | split | (refine (forAll_keeps _ _ _ (fun a s => ?_)).trans ?_) | dsimp only)) <;> (first | rfl | (simp; done) | (simp_all; done))

@[simp] theorem sendRoleReq_keeps {hid : Nat}
    (hw : 0x201000020000000000000000000 &&& hid = 0x201000020000000000000000000) (r : RoleChg) (epoch : BitVec 8) (s : State) :
    (sendRoleReq r epoch s).seen hid = s.seen hid := by
  refine seen_mono hw ?_
  unfold sendRoleReq
  simp

@[simp] theorem dirtyAll_keeps {hid : Nat}
    (hw : 0x2B000308000000000001C000200000000000001C0000 &&& hid = 0x2B000308000000000001C000200000000000001C0000) (f : Nat → Bool) (s : State) :
    (dirtyAll f s).seen hid = s.seen hid := by
  refine seen_mono hw ?_
  unfold dirtyAll
  first
    | (simp; done)
    | (((repeat' split) <;> (first | (simp; done) | (simp_all; done))); done)
    | (simp; (repeat' split) <;> (first | (simp; done) | (simp_all; done)))
    | (simp [State.seen, Glb.seen, Qz.seen, Ref.seen, Qos.seen, Phy.seen, Ras.seen, Egp.seen, Mir.seen, Dom.seen, Img.seen, Glg.seen, Pwr.seen, Evt.seen]; done)

@[simp] theorem newRole_keeps {hid : Nat}
    (hw : 0x6B0003192000100000D9D43F200000000000001C0000 &&& hid = 0x6B0003192000100000D9D43F200000000000001C0000) (primary : Bool) (epoch : BitVec 8)
    (cause reason : Nat) (mark : State → State) (s : State) (h : ∀ s, (mark s).seen hid = s.seen hid) :
    (newRole primary epoch cause reason mark s).seen hid = s.seen hid := by
  unfold newRole
  dsimp only
  rw [roleRecord_keeps (sub_trans (by decide) hw), degrade_keeps (sub_trans (by decide) hw), h,
    writeRecords_keeps (sub_trans (by decide) hw)]
  exact seen_mono hw ((updMir_keeps _ _ (by simp)).trans (roleOff_keeps (by decide) _))

@[simp] theorem completeRole_keeps {hid : Nat}
    (hw : 0x6B0403192000100000C9D43F2000C0501000001C0000 &&& hid = 0x6B0403192000100000C9D43F2000C0501000001C0000) (r : RoleChg) (s : State) :
    (completeRole r s).seen hid = s.seen hid := by
  refine seen_mono hw ?_
  unfold completeRole
  simp

@[simp] theorem roleInitiate_keeps {hid : Nat}
    (hw : 0x2B0003080000000002498000200000000000001C0000 &&& hid = 0x2B0003080000000002498000200000000000001C0000) (s : State) :
    (roleInitiate s).seen hid = s.seen hid := by
  refine seen_mono hw ?_
  unfold roleInitiate
  (repeat' split) <;> simp

@[simp] theorem roleTimeout_keeps {hid : Nat}
    (hw : 0x6B04031F2000100000D9D43F2000C0501000001C0000 &&& hid = 0x6B04031F2000100000D9D43F2000C0501000001C0000) (s : State) :
    (roleTimeout s).seen hid = s.seen hid := by
  refine seen_mono hw ?_
  unfold roleTimeout
  (repeat' split) <;> simp

@[simp] theorem becomePrimary_keeps {hid : Nat}
    (hw : 0x6B0003192000100002D9D43F200000000000001C0000 &&& hid = 0x6B0003192000100002D9D43F200000000000001C0000) (reason : Nat) (e : BitVec 8) (scope : Byte) (s : State) :
    (becomePrimary reason e scope s).seen hid = s.seen hid := by
  refine seen_mono hw ?_
  unfold becomePrimary
  dsimp only
  split
  · simp
  · split
    · refine newRole_keeps (by decide) _ _ _ _ _ _ fun s => ?_
      simp
    · rfl

theorem takeMsg_keeps {hid : Nat} (hw : 0x100000000000000000000000000 &&& hid = 0x100000000000000000000000000) {f : Vector Word 8 → Bool} {s t : State} {m : Msg}
    (h : takeMsg f s = some (m, t)) : t.seen hid = s.seen hid := by
  unfold takeMsg at h
  split at h
  · cases h
  · simp only [Option.some.injEq, Prod.mk.injEq] at h
    rw [← h.2]; exact seen_mono hw (by simp)

@[simp] theorem roleChange_keeps {hid : Nat}
    (hw : 0x6B0403992000100003D9D4FF2000C0501000001C0000 &&& hid = 0x6B0403992000100003D9D4FF2000C0501000001C0000) (s : State) :
    (roleChange s).seen hid = s.seen hid := by
  refine seen_mono hw ?_
  unfold roleChange
  split
  · rfl
  · rename_i h
    rw [← takeMsg_keeps (hid := 0x6B0403992000100003D9D4FF2000C0501000001C0000) (by decide) h]
    refine mirrorMsg_keeps (by decide) _ _ _ fun s => ?_
    (repeat' (first | split | dsimp only)) <;> simp

@[simp] theorem staleReplyMsg_keeps {hid : Nat}
    (hw : 0x6B0403992000100003C9D4FF2000C0501000001C0000 &&& hid = 0x6B0403992000100003C9D4FF2000C0501000001C0000) (s : State) :
    (staleReplyMsg s).seen hid = s.seen hid := by
  refine seen_mono hw ?_
  unfold staleReplyMsg
  split
  · rfl
  · rename_i h
    rw [← takeMsg_keeps (hid := 0x6B0403992000100003C9D4FF2000C0501000001C0000) (by decide) h]
    (repeat' (first | split | dsimp only)) <;> simp

@[simp] theorem heartbeat_keeps {hid : Nat}
    (hw : 0x6B000399200010000389D7DE200000000000001C0000 &&& hid = 0x6B000399200010000389D7DE200000000000001C0000) (s : State) :
    (heartbeat s).seen hid = s.seen hid := by
  refine seen_mono hw ?_
  unfold heartbeat
  split
  · rfl
  · rename_i h
    rw [← takeMsg_keeps (hid := 0x6B000399200010000389D7DE200000000000001C0000) (by decide) h]
    (repeat' (first | split | dsimp only)) <;> simp

@[simp] theorem sendHello_keeps {hid : Nat}
    (hw : 0x200000020000000000000000000 &&& hid = 0x200000020000000000000000000) (s : State) :
    (sendHello s).seen hid = s.seen hid := by
  refine seen_mono hw ?_
  unfold sendHello
  simp

@[simp] theorem helloSend_keeps {hid : Nat}
    (hw : 0x200000020000000000000000000 &&& hid = 0x200000020000000000000000000) (s : State) :
    (helloSend s).seen hid = s.seen hid := by
  refine seen_mono hw ?_
  unfold helloSend
  simp

@[simp] theorem setDirtySet_keeps {hid : Nat}
    (hw : 0x2B000308000000000001C000200000000000001C0000 &&& hid = 0x2B000308000000000001C000200000000000001C0000) (d : DirtySet) (s : State) :
    (setDirtySet d s).seen hid = s.seen hid := by
  refine seen_mono hw ?_
  unfold setDirtySet
  (repeat' split) <;> simp

@[simp] theorem joinDecide_keeps {hid : Nat}
    (hw : 0x6B0003192000100000D9D43F200000000000001C0000 &&& hid = 0x6B0003192000100000D9D43F200000000000001C0000) (a : Side) (b : Side) (s : State) :
    (joinDecide a b s).seen hid = s.seen hid := by
  refine seen_mono hw ?_
  unfold joinDecide
  simp

@[simp] theorem resilverBegin_keeps {hid : Nat}
    (hw : 0x100000000000206000220000000000000000000 &&& hid = 0x100000000000206000220000000000000000000) (s : State) :
    (resilverBegin s).seen hid = s.seen hid := by
  refine seen_mono hw ?_
  unfold resilverBegin
  simp

@[simp] theorem resilverCheck_keeps {hid : Nat}
    (hw : 0x40000111200000000280000220000000000000000000 &&& hid = 0x40000111200000000280000220000000000000000000) (s : State) :
    (resilverCheck s).seen hid = s.seen hid := by
  refine seen_mono hw ?_
  unfold resilverCheck
  simp

@[simp] theorem hello_keeps {hid : Nat}
    (hw : 0x6B0003192000100003DFD4FF200000000000001C0000 &&& hid = 0x6B0003192000100003DFD4FF200000000000001C0000) (s : State) :
    (hello s).seen hid = s.seen hid := by
  refine seen_mono hw ?_
  unfold hello
  split
  · rfl
  · rename_i h
    rw [← takeMsg_keeps (hid := 0x6B0003192000100003DFD4FF200000000000001C0000) (by decide) h]
    (repeat' (first | split | dsimp only)) <;> simp

@[simp] theorem takeover_keeps {hid : Nat}
    (hw : 0x6B0003192000100002D9D43F200000000000001C0000 &&& hid = 0x6B0003192000100002D9D43F200000000000001C0000) (s : State) :
    (takeover s).seen hid = s.seen hid := by
  refine seen_mono hw ?_
  unfold takeover
  simp

@[simp] theorem joinTimeout_keeps {hid : Nat}
    (hw : 0x6B00031F2000100002D9F43F200000000000001C0000 &&& hid = 0x6B00031F2000100002D9F43F200000000000001C0000) (s : State) :
    (joinTimeout s).seen hid = s.seen hid := by
  refine seen_mono hw ?_
  unfold joinTimeout
  simp

@[simp] theorem joinStart_keeps {hid : Nat}
    (hw : 0x1000000000000D8272300000000000000000000 &&& hid = 0x1000000000000D8272300000000000000000000) (s : State) :
    (joinStart s).seen hid = s.seen hid := by
  refine seen_mono hw ?_
  unfold joinStart
  simp

@[simp] theorem resilverStart_keeps {hid : Nat}
    (hw : 0x8000000000030000C220000000000000000000 &&& hid = 0x8000000000030000C220000000000000000000) (s : State) :
    (resilverStart s).seen hid = s.seen hid := by
  refine seen_mono hw ?_
  unfold resilverStart
  split
  · rfl
  · rename_i h
    rw [← takeMsg_keeps (hid := 0x8000000000030000C220000000000000000000) (by decide) h]
    refine mirrorMsg_keeps (by decide) _ _ _ fun s => ?_
    (repeat' (first | split | dsimp only)) <;> simp

@[simp] theorem resilverDone_keeps {hid : Nat}
    (hw : 0x18000000000030000C220000000000000000000 &&& hid = 0x18000000000030000C220000000000000000000) (s : State) :
    (resilverDone s).seen hid = s.seen hid := by
  refine seen_mono hw ?_
  unfold resilverDone
  split
  · rfl
  · rename_i h
    rw [← takeMsg_keeps (hid := 0x18000000000030000C220000000000000000000) (by decide) h]
    refine mirrorMsg_keeps (by decide) _ _ _ fun s => ?_
    (repeat' (first | split | dsimp only)) <;> simp

@[simp] theorem poisonEnter_keeps {hid : Nat}
    (hw : 0x2B04060000000000000000000000C050100000200000 &&& hid = 0x2B04060000000000000000000000C050100000200000) (id : Nat) (a : LineAddr) (s : State) :
    (poisonEnter id a s).seen hid = s.seen hid := by
  refine seen_mono hw ?_
  unfold poisonEnter
  simp
  (repeat' split) <;> (first | (simp; done) | (simp_all; done))

@[simp] theorem poisonLine_keeps {hid : Nat}
    (hw : 0x2B04068000000000030000C02000C050100000200000 &&& hid = 0x2B04068000000000030000C02000C050100000200000) (s : State) :
    (poisonLine s).seen hid = s.seen hid := by
  refine seen_mono hw ?_
  unfold poisonLine
  split
  · rfl
  · rename_i h
    rw [← takeMsg_keeps (hid := 0x2B04068000000000030000C02000C050100000200000) (by decide) h]
    (repeat' (first | split | dsimp only)) <;> simp

@[simp] theorem walkAnswered_keeps {hid : Nat}
    (hw : 0x40000111200000000286400220000000000000000000 &&& hid = 0x40000111200000000286400220000000000000000000) (x : Sc) (s : State) :
    (walkAnswered x s).seen hid = s.seen hid := by
  refine seen_mono hw ?_
  unfold walkAnswered
  (repeat' split) <;> simp

@[simp] theorem walkStep_keeps {hid : Nat} (hw : 0x2000000000000000000000000 &&& hid = 0x2000000000000000000000000)
    (x : Sc) (s : State) :
    (walkStep x s).seen hid = s.seen hid := by
  refine seen_mono hw ?_
  unfold walkStep
  simp

@[simp] theorem resilverOffer_keeps {hid : Nat}
    (hw : 0x48000111200000000286400220000000000000000000 &&& hid = 0x48000111200000000286400220000000000000000000) (x : Sc) (s : State) :
    (resilverOffer x s).seen hid = s.seen hid := by
  refine seen_mono hw ?_
  unfold resilverOffer
  (repeat' split) <;> simp

@[simp] theorem resilverLine_keeps {hid : Nat}
    (hw : 0x48020013200000000282000020200200000000000000 &&& hid = 0x48020013200000000282000020200200000000000000) (x : Sc) (rx : Capture) (s : State) :
    (resilverLine x rx s).seen hid = s.seen hid := by
  refine seen_mono hw ?_
  unfold resilverLine
  split
  · rfl
  · rename_i h
    rw [← takeTag_keeps (hid := 0x48020013200000000282000020200200000000000000) (by decide) h]
    (repeat' (first | split | dsimp only)) <;> simp

@[simp] theorem setMirResult_keeps {hid : Nat}
    (hw : 0x100000000000040000000000000000000000000 &&& hid = 0x100000000000040000000000000000000000000) (busy : Bool) (code : Nat) (s : State) :
    (setMirResult busy code s).seen hid = s.seen hid := by
  refine seen_mono hw ?_
  unfold setMirResult
  simp

@[simp] theorem actMirCtl_keeps {hid : Nat}
    (hw : 0x6B0003192000100002D9D43F200000000000001C0000 &&& hid = 0x6B0003192000100002D9D43F200000000000001C0000) (v : Word) (s : State) :
    (actMirCtl v s).seen hid = s.seen hid := by
  refine seen_mono hw ?_
  unfold actMirCtl
  (repeat' split) <;> simp

@[simp] theorem deliver_keeps {hid : Nat}
    (hw : 0x20000000020000000000000000000 &&& hid = 0x20000000020000000000000000000) (result : Bool) (j : Nat) (round : Nat) (t : Token) (s : State) :
    (deliver result j round t s).seen hid = s.seen hid := by
  refine seen_mono hw ?_
  unfold deliver
  simp

@[simp] theorem sendResult_keeps {hid : Nat}
    (hw : 0x20000000020000000000000000000 &&& hid = 0x20000000020000000000000000000) (j : Nat) (round : Nat) (t : Token) (s : State) :
    (sendResult j round t s).seen hid = s.seen hid := by
  refine seen_mono hw ?_
  unfold sendResult
  (repeat' split) <;> simp

@[simp] theorem snapPut_keeps {hid : Nat}
    (hw : 0x80000000003000000000000000000000000000 &&& hid = 0x80000000003000000000000000000000000000) (r : CensusRes) (s : State) :
    (snapPut r s).seen hid = s.seen hid := by
  refine seen_mono hw ?_
  unfold snapPut
  simp

@[simp] theorem censusRecord_keeps {hid : Nat}
    (hw : 0x40000011200000000000000000000000000000000000 &&& hid = 0x40000011200000000000000000000000000000000000) (r : CensusRes) (s : State) :
    (censusRecord r s).seen hid = s.seen hid := by
  refine seen_mono hw ?_
  unfold censusRecord
  simp

@[simp] theorem storeResult_keeps {hid : Nat}
    (hw : 0x4000009120000000B800000000000000000000000000 &&& hid = 0x4000009120000000B800000000000000000000000000) (round : Nat) (t : Token) (s : State) :
    (storeResult round t s).seen hid = s.seen hid := by
  refine seen_mono hw ?_
  unfold storeResult
  simp

@[simp] theorem finishRound_keeps {hid : Nat}
    (hw : 0x4000009120000002B800000020000000000000000000 &&& hid = 0x4000009120000002B800000020000000000000000000) (round : Nat) (t : Token) (s : State) :
    (finishRound round t s).seen hid = s.seen hid := by
  refine seen_mono hw ?_
  unfold finishRound
  simp

@[simp] theorem passOn_keeps {hid : Nat}
    (hw : 0x4000009120000002B800000020000000000000000000 &&& hid = 0x4000009120000002B800000020000000000000000000) (j : Nat) (round : Nat) (t : Token) (s : State) :
    (passOn j round t s).seen hid = s.seen hid := by
  refine seen_mono hw ?_
  unfold passOn
  simp

@[simp] theorem startRound_keeps {hid : Nat}
    (hw : 0x4000009120000002FC00000020000000000000000000 &&& hid = 0x4000009120000002FC00000020000000000000000000) (s : State) :
    (startRound s).seen hid = s.seen hid := by
  refine seen_mono hw ?_
  unfold startRound
  simp

@[simp] theorem censusTick_keeps {hid : Nat}
    (hw : 0x4000009120000002FC00000020000000000000000000 &&& hid = 0x4000009120000002FC00000020000000000000000000) (s : State) :
    (censusTick s).seen hid = s.seen hid := by
  refine seen_mono hw ?_
  unfold censusTick
  simp

@[simp] theorem censusToken_keeps {hid : Nat}
    (hw : 0x4000009120000002B900000020000000000000000000 &&& hid = 0x4000009120000002B900000020000000000000000000) (s : State) :
    (censusToken s).seen hid = s.seen hid := by
  refine seen_mono hw ?_
  unfold censusToken
  split
  · rfl
  · rename_i h
    rw [← takeMsg_keeps (hid := 0x4000009120000002B900000020000000000000000000) (by decide) h]
    (repeat' (first | split | dsimp only)) <;> simp

@[simp] theorem censusResult_keeps {hid : Nat}
    (hw : 0x4000009120000002B900000020000000000000000000 &&& hid = 0x4000009120000002B900000020000000000000000000) (s : State) :
    (censusResult s).seen hid = s.seen hid := by
  refine seen_mono hw ?_
  unfold censusResult
  split
  · rfl
  · rename_i h
    rw [← takeMsg_keeps (hid := 0x4000009120000002B900000020000000000000000000) (by decide) h]
    (repeat' (first | split | dsimp only)) <;> simp

@[simp] theorem delivered_keeps {hid : Nat}
    (hw : 0x80000000020000000000000000000000000000 &&& hid = 0x80000000020000000000000000000000000000) (dst : BitVec 10) (data : Line) (s : State) :
    (delivered dst data s).seen hid = s.seen hid := by
  refine seen_mono hw ?_
  unfold delivered
  (repeat' split) <;> simp

@[simp] theorem chiozResend_keeps {hid : Nat} (hw : 0x20000000000000000000 &&& hid = 0x20000000000000000000)
    (dst : BitVec 10) (s : State) :
    (chiozResend dst s).seen hid = s.seen hid := by
  refine seen_mono hw ?_
  unfold chiozResend
  (repeat' split) <;> simp

@[simp] theorem hopTimeout_keeps {hid : Nat}
    (hw : 0x4000009720000003B800000020000000000000000000 &&& hid = 0x4000009720000003B800000020000000000000000000) (dst : BitVec 10) (s : State) :
    (hopTimeout dst s).seen hid = s.seen hid := by
  refine seen_mono hw ?_
  unfold hopTimeout
  (repeat' split) <;> simp

@[simp] theorem domSnapRead_keeps {hid : Nat}
    (hw : 0x20000000000000003000000000000000000000000000 &&& hid = 0x20000000000000003000000000000000000000000000) (s : State) :
    (domSnapRead s).seen hid = s.seen hid := by
  refine seen_mono hw ?_
  unfold domSnapRead
  simp
  (repeat' split) <;> (first | (simp; done) | (simp_all; done))

end Sys2Proof.Machine
end

