-- ==== Sys2Proof/Laws/FrameServ.lean ====
section
/-! SUPPORT. The parts of State that the operations of Verify, Ports, Qos, Service, Gear, Apply, Reload keep. -/

namespace Sys2Proof.Machine

@[simp] theorem showVerify_keeps {hid : Nat}
    (hw : 0x40000000000000000000000000000000000000 &&& hid = 0x40000000000000000000000000000000000000) (r : Option (Nat × Nat × Nat)) (s : State) :
    (showVerify r s).seen hid = s.seen hid := by
  refine seen_mono hw ?_
  unfold showVerify
  simp

@[simp] theorem countIgnored_keeps {hid : Nat}
    (hw : 0x40000000000000000000000000000000000000 &&& hid = 0x40000000000000000000000000000000000000) (m : Image) (s : State) :
    (countIgnored m s).seen hid = s.seen hid := by
  refine seen_mono hw ?_
  unfold countIgnored
  simp

@[simp] theorem portCycle_keeps {hid : Nat}
    (hw : 0x1000000000000000000000000000000000000000000 &&& hid = 0x1000000000000000000000000000000000000000000) (p : PortId) (s : State) :
    (portCycle p s).seen hid = s.seen hid := by
  refine seen_mono hw ?_
  unfold portCycle
  (repeat' split) <;> simp

@[simp] theorem presented_keeps {hid : Nat}
    (hw : 0x1000000000000000000000000000000000000000000 &&& hid = 0x1000000000000000000000000000000000000000000) (p : PortId) (s : State) :
    (presented p s).seen hid = s.seen hid := by
  refine seen_mono hw ?_
  unfold presented
  simp

@[simp] theorem spendCredit_keeps {hid : Nat}
    (hw : 0x1000000000000000000000000000000000000000000 &&& hid = 0x1000000000000000000000000000000000000000000) (p : PortId) (wr : Bool) (s : State) :
    (spendCredit p wr s).seen hid = s.seen hid := by
  refine seen_mono hw ?_
  unfold spendCredit
  simp

@[simp] theorem expectBeat_keeps {hid : Nat}
    (hw : 0x1000000000000000000000000000000000000000000 &&& hid = 0x1000000000000000000000000000000000000000000) (p : PortId) (d : BeatDest) (s : State) :
    (expectBeat p d s).seen hid = s.seen hid := by
  refine seen_mono hw ?_
  unfold expectBeat
  simp

@[simp] theorem refusePort_keeps {hid : Nat}
    (hw : 0x21000200000000000000000000000000000000000000 &&& hid = 0x21000200000000000000000000000000000000000000) (r : Present) (bit : Nat) (s : State) :
    (refusePort r bit s).seen hid = s.seen hid := by
  refine seen_mono hw ?_
  unfold refusePort
  simp

@[simp] theorem tagReuse_keeps {hid : Nat}
    (hw : 0x40000011200000000000000000000000000000000000 &&& hid = 0x40000011200000000000000000000000000000000000) (r : Present) (old : Req) (s : State) :
    (tagReuse r old s).seen hid = s.seen hid := by
  refine seen_mono hw ?_
  unfold tagReuse
  simp

@[simp] theorem addReq_keeps {hid : Nat}
    (hw : 0x7000200000000000000000000000000000000000000 &&& hid = 0x7000200000000000000000000000000000000000000) (q : Req) (s : State) :
    (addReq q s).seen hid = s.seen hid := by
  refine seen_mono hw ?_
  unfold addReq
  try simp
  (repeat' (first | split | (refine (forAll_keeps _ _ _ (fun a s => ?_)).trans ?_) | dsimp only)) <;> (first | rfl | (simp; done) | (simp_all; done))

@[simp] theorem endReq_keeps {hid : Nat}
    (hw : 0x23000200000000000000000000000000000000000000 &&& hid = 0x23000200000000000000000000000000000000000000) (id : Nat) (st : Status) (stale : Bool) (epoch : BitVec 8) (s : State) :
    (endReq id st stale epoch s).seen hid = s.seen hid := by
  refine seen_mono hw ?_
  unfold endReq
  simp

@[simp] theorem linked_keeps {hid : Nat}
    (hw : 0xA04020000000000000000000000C050100000200000 &&& hid = 0xA04020000000000000000000000C050100000200000) (q : Req) (s : State) :
    (linked q s).seen hid = s.seen hid := by
  refine seen_mono hw ?_
  unfold linked
  simp

@[simp] theorem toIngress_keeps {hid : Nat}
    (hw : 0x2B04060000000000000000000000C050100000200000 &&& hid = 0x2B04060000000000000000000000C050100000200000) (q : Req) (s : State) :
    (toIngress q s).seen hid = s.seen hid := by
  refine seen_mono hw ?_
  unfold toIngress
  simp

@[simp] theorem ownedHost_keeps {hid : Nat}
    (hw : 0x2B04060000000000000000000000C050100000200000 &&& hid = 0x2B04060000000000000000000000C050100000200000) (q : Req) (s : State) :
    (ownedHost q s).seen hid = s.seen hid := by
  refine seen_mono hw ?_
  unfold ownedHost
  simp

@[simp] theorem ownedPeer_keeps {hid : Nat}
    (hw : 0x2B04070000000000000000000000C050100000200000 &&& hid = 0x2B04070000000000000000000000C050100000200000) (q : Req) (window : Bool) (s : State) :
    (ownedPeer q window s).seen hid = s.seen hid := by
  refine seen_mono hw ?_
  unfold ownedPeer
  simp

@[simp] theorem mapReq_keeps {hid : Nat}
    (hw : 0x2B04070000000000000000000000C050100000200000 &&& hid = 0x2B04070000000000000000000000C050100000200000) (q : Req) (s : State) :
    (mapReq q s).seen hid = s.seen hid := by
  refine seen_mono hw ?_
  unfold mapReq
  (repeat' split) <;> simp

@[simp] theorem acceptReq_keeps {hid : Nat}
    (hw : 0x2F04070000000000000000000000C050100000200000 &&& hid = 0x2F04070000000000000000000000C050100000200000) (r : Present) (op : Op) (s : State) :
    (acceptReq r op s).seen hid = s.seen hid := by
  refine seen_mono hw ?_
  unfold acceptReq
  (repeat' split) <;> simp

@[simp] theorem takeRequest_keeps {hid : Nat}
    (hw : 0x6F04071120000000000000000000C050100000200000 &&& hid = 0x6F04071120000000000000000000C050100000200000) (r : Present) (s : State) :
    (takeRequest r s).seen hid = s.seen hid := by
  refine seen_mono hw ?_
  unfold takeRequest
  simp
  (repeat' split) <;> (first | (simp; done) | (simp_all; done))

@[simp] theorem present_keeps {hid : Nat}
    (hw : 0x6F04071120000000000000000000C050100000200000 &&& hid = 0x6F04071120000000000000000000C050100000200000) (r : Present) (s : State) :
    (present r s).seen hid = s.seen hid := by
  refine seen_mono hw ?_
  unfold present
  simp

@[simp] theorem reservedOpcode_keeps {hid : Nat}
    (hw : 0x6F04071120000000000000000000C050100000200000 &&& hid = 0x6F04071120000000000000000000C050100000200000) (p : PortId) (op : BitVec 4) (h : PeerHdr) (s : State) :
    (reservedOpcode p op h s).seen hid = s.seen hid := by
  refine seen_mono hw ?_
  unfold reservedOpcode
  simp

@[simp] theorem storeMsg_keeps {hid : Nat}
    (hw : 0x23000280000000000100000000000000000000000000 &&& hid = 0x23000280000000000100000000000000000000000000) (r : Req) (data : Line) (s : State) :
    (storeMsg r data s).seen hid = s.seen hid := by
  refine seen_mono hw ?_
  unfold storeMsg
  simp

@[simp] theorem takeBeat_keeps {hid : Nat}
    (hw : 0x2B04028000000000010000000000C050100000200000 &&& hid = 0x2B04028000000000010000000000C050100000200000) (id : Nat) (data : Line) (mask : BitVec 64) (s : State) :
    (takeBeat id data mask s).seen hid = s.seen hid := by
  refine seen_mono hw ?_
  unfold takeBeat
  (repeat' split) <;> simp

@[simp] theorem writeDataBeat_keeps {hid : Nat}
    (hw : 0x2B04028000000000010000000000C050100000200000 &&& hid = 0x2B04028000000000010000000000C050100000200000) (p : PortId) (data : Line) (mask : BitVec 64) (s : State) :
    (writeDataBeat p data mask s).seen hid = s.seen hid := by
  refine seen_mono hw ?_
  unfold writeDataBeat
  (repeat' split) <;> simp

@[simp] theorem creditReturn_keeps {hid : Nat}
    (hw : 0x21000000000000000000000000000180000000000000 &&& hid = 0x21000000000000000000000000000180000000000000) (wr : Bool) (s : State) :
    (creditReturn wr s).seen hid = s.seen hid := by
  refine seen_mono hw ?_
  unfold creditReturn
  (repeat' split) <;> simp

@[simp] theorem portTransactionTimeout_keeps {hid : Nat}
    (hw : 0x6B04021720000000000000000000C050100000000000 &&& hid = 0x6B04021720000000000000000000C050100000000000) (p : PortId) (tag : BitVec 10) (s : State) :
    (portTransactionTimeout p tag s).seen hid = s.seen hid := by
  refine seen_mono hw ?_
  unfold portTransactionTimeout
  (repeat' split) <;> simp

@[simp] theorem rtpUrgentChange_keeps {hid : Nat}
    (hw : 0xA04020000000000000000000000C070100000000000 &&& hid = 0xA04020000000000000000000000C070100000000000) (level : Bool) (s : State) :
    (rtpUrgentChange level s).seen hid = s.seen hid := by
  refine seen_mono hw ?_
  unfold rtpUrgentChange
  simp

@[simp] theorem countDrainHolds_keeps {hid : Nat}
    (hw : 0x2000020000000000000000000000000000000000000 &&& hid = 0x2000020000000000000000000000000000000000000) (x : Sc) (s : State) :
    (countDrainHolds x s).seen hid = s.seen hid := by
  refine seen_mono hw ?_
  unfold countDrainHolds
  simp

@[simp] theorem chargeSelect_keeps {hid : Nat} (hw : 0x500000000000 &&& hid = 0x500000000000) (r : Req) (s : State) :
    (chargeSelect r s).seen hid = s.seen hid := by
  refine seen_mono hw ?_
  unfold chargeSelect
  simp

@[simp] theorem noteSelect_keeps {hid : Nat} (hw : 0x100000000000 &&& hid = 0x100000000000) (x : Sc) (t : Nat)
    (borrow : Bool) (s : State) :
    (noteSelect x t borrow s).seen hid = s.seen hid := by
  refine seen_mono hw ?_
  unfold noteSelect
  simp

@[simp] theorem selectReq_keeps {hid : Nat}
    (hw : 0x6B06171B200000000209C0002000C0507000001C0000 &&& hid = 0x6B06171B200000000209C0002000C0507000001C0000) (x : Sc) (r : Req) (s : State) :
    (selectReq x r s).seen hid = s.seen hid := by
  refine seen_mono hw ?_
  unfold selectReq
  simp

@[simp] theorem ingressSelect_keeps {hid : Nat}
    (hw : 0x6B06173B200000000209C0002000C0507000001C0000 &&& hid = 0x6B06173B200000000209C0002000C0507000001C0000) (x : Sc) (s : State) :
    (ingressSelect x s).seen hid = s.seen hid := by
  refine seen_mono hw ?_
  unfold ingressSelect
  simp
  (repeat' split) <;> (first | (simp; done) | (simp_all; done))

@[simp] theorem placeHeads_keeps {hid : Nat}
    (hw : 0x2000000000000000000000000000000100000000000 &&& hid = 0x2000000000000000000000000000000100000000000) (label : Nat) (s : State) :
    (placeHeads label s).seen hid = s.seen hid := by
  refine seen_mono hw ?_
  unfold placeHeads
  try simp
  (repeat' (first | split | (refine (forAll_keeps _ _ _ (fun a s => ?_)).trans ?_) | dsimp only)) <;> (first | rfl | (simp; done) | (simp_all; done))

@[simp] theorem applyPart_keeps {hid : Nat}
    (hw : 0x2000000000000000000000000000000100000000000 &&& hid = 0x2000000000000000000000000000000100000000000) (label : Nat) (w : Vector Word 8) (s : State) :
    (applyPart label w s).seen hid = s.seen hid := by
  refine seen_mono hw ?_
  unfold applyPart
  simp

@[simp] theorem applyPending_keeps {hid : Nat}
    (hw : 0x200080000000000000000000000000C100000000000 &&& hid = 0x200080000000000000000000000000C100000000000) (s : State) :
    (applyPending s).seen hid = s.seen hid := by
  refine seen_mono hw ?_
  unfold applyPending
  simp

@[simp] theorem throttleRecord_keeps {hid : Nat}
    (hw : 0x40000013200000000000000000000000000000000000 &&& hid = 0x40000013200000000000000000000000000000000000) (kind : Nat) (t : Nat) (ch : Nat) (slot : Nat) (s : State) :
    (throttleRecord kind t ch slot s).seen hid = s.seen hid := by
  refine seen_mono hw ?_
  unfold throttleRecord
  simp

@[simp] theorem takeThrottle_keeps {hid : Nat}
    (hw : 0x40000433200000000000000000000000000000000000 &&& hid = 0x40000433200000000000000000000000000000000000) (s : State) :
    (takeThrottle s).seen hid = s.seen hid := by
  refine seen_mono hw ?_
  unfold takeThrottle
  simp

@[simp] theorem refillAll_keeps {hid : Nat} (hw : 0x500000000000 &&& hid = 0x500000000000) (s : State) :
    (refillAll s).seen hid = s.seen hid := by
  refine seen_mono hw ?_
  unfold refillAll
  simp

@[simp] theorem recolour_keeps {hid : Nat}
    (hw : 0x2000000000000000000000000000000100000000000 &&& hid = 0x2000000000000000000000000000000100000000000) (s : State) :
    (recolour s).seen hid = s.seen hid := by
  refine seen_mono hw ?_
  unfold recolour
  simp

@[simp] theorem refillTick_keeps {hid : Nat}
    (hw : 0x42000C3320000000000000000000000D500000000000 &&& hid = 0x42000C3320000000000000000000000D500000000000) (s : State) :
    (refillTick s).seen hid = s.seen hid := by
  refine seen_mono hw ?_
  unfold refillTick
  simp

@[simp] theorem guaranteeMiss_keeps {hid : Nat}
    (hw : 0x40000413200000000000000000000000100000000000 &&& hid = 0x40000413200000000000000000000000100000000000) (part : BitVec 12) (s : State) :
    (guaranteeMiss part s).seen hid = s.seen hid := by
  refine seen_mono hw ?_
  unfold guaranteeMiss
  simp

@[simp] theorem wheelSlot_keeps {hid : Nat} (hw : 0x900000000000 &&& hid = 0x900000000000) (s : State) :
    (wheelSlot s).seen hid = s.seen hid := by
  refine seen_mono hw ?_
  unfold wheelSlot
  simp

@[simp] theorem noteSr_keeps {hid : Nat} (hw : 0x8000 &&& hid = 0x8000) (c : Ch) (s : State) :
    (noteSr c s).seen hid = s.seen hid := by
  refine seen_mono hw ?_
  unfold noteSr
  simp

@[simp] theorem srEnter_keeps {hid : Nat}
    (hw : 0x2800B0000008000000000000000000000CFC00008000 &&& hid = 0x2800B0000008000000000000000000000CFC00008000) (x : Sc) (s : State) :
    (srEnter x s).seen hid = s.seen hid := by
  refine seen_mono hw ?_
  unfold srEnter
  simp

@[simp] theorem srExit_keeps {hid : Nat}
    (hw : 0x2800B0000018000000000000000000000CFC80008000 &&& hid = 0x2800B0000018000000000000000000000CFC80008000) (x : Sc) (s : State) :
    (srExit x s).seen hid = s.seen hid := by
  refine seen_mono hw ?_
  unfold srExit
  simp

@[simp] theorem srEnterAll_keeps {hid : Nat}
    (hw : 0x2800B0000008000000000000000000000CFC00008000 &&& hid = 0x2800B0000008000000000000000000000CFC00008000) (s : State) :
    (srEnterAll s).seen hid = s.seen hid := by
  refine seen_mono hw ?_
  unfold srEnterAll
  simp

@[simp] theorem srExitAll_keeps {hid : Nat}
    (hw : 0x2800B0000018000000000000000000000CFC80008000 &&& hid = 0x2800B0000018000000000000000000000CFC80008000) (s : State) :
    (srExitAll s).seen hid = s.seen hid := by
  refine seen_mono hw ?_
  unfold srExitAll
  simp

@[simp] theorem reloadPump_keeps {hid : Nat}
    (hw : 0x580000000000000000000000000000 &&& hid = 0x580000000000000000000000000000) (s : State) :
    (reloadPump s).seen hid = s.seen hid := by
  refine seen_mono hw ?_
  unfold reloadPump
  (repeat' split) <;> simp

@[simp] theorem servicePump_keeps {hid : Nat}
    (hw : 0x4000000000058000000000000C000000000000000 &&& hid = 0x4000000000058000000000000C000000000000000) (s : State) :
    (servicePump s).seen hid = s.seen hid := by
  refine seen_mono hw ?_
  unfold servicePump
  simp

@[simp] theorem barrierEnds_keeps {hid : Nat}
    (hw : 0x1000000000000000000000000000000000030000000 &&& hid = 0x1000000000000000000000000000000000030000000) (s : State) :
    (barrierEnds s).seen hid = s.seen hid := by
  refine seen_mono hw ?_
  unfold barrierEnds
  simp

@[simp] theorem pauseStarts_keeps {hid : Nat}
    (hw : 0x9002008000000000000000000000000100070000001 &&& hid = 0x9002008000000000000000000000000100070000001) (s : State) :
    (pauseStarts s).seen hid = s.seen hid := by
  refine seen_mono hw ?_
  unfold pauseStarts
  simp

@[simp] theorem enterService_keeps {hid : Nat}
    (hw : 0x8000000000000000000000000100000000001 &&& hid = 0x8000000000000000000000000100000000001) (s : State) :
    (enterService s).seen hid = s.seen hid := by
  refine seen_mono hw ?_
  unfold enterService
  simp

@[simp] theorem arriveService_keeps {hid : Nat}
    (hw : 0xB04220800000058000000000000C050100070000001 &&& hid = 0xB04220800000058000000000000C050100070000001) (s : State) :
    (arriveService s).seen hid = s.seen hid := by
  refine seen_mono hw ?_
  unfold arriveService
  simp

@[simp] theorem qzReqRise_keeps {hid : Nat} (hw : 0x7E000000 &&& hid = 0x7E000000) (hold : BitVec 16) (deep : Bool)
    (s : State) :
    (qzReqRise hold deep s).seen hid = s.seen hid := by
  refine seen_mono hw ?_
  unfold qzReqRise
  (repeat' split) <;> simp

@[simp] theorem pauseTakeEffect_keeps {hid : Nat}
    (hw : 0x9002008000000000000000000000000100070000001 &&& hid = 0x9002008000000000000000000000000100070000001) (s : State) :
    (pauseTakeEffect s).seen hid = s.seen hid := by
  refine seen_mono hw ?_
  unfold pauseTakeEffect
  simp

@[simp] theorem deepPauseSrDone_keeps {hid : Nat}
    (hw : 0x2800B0000008000000000000000000000CFC70008000 &&& hid = 0x2800B0000008000000000000000000000CFC70008000) (s : State) :
    (deepPauseSrDone s).seen hid = s.seen hid := by
  refine seen_mono hw ?_
  unfold deepPauseSrDone
  simp

@[simp] theorem ackFalls_keeps {hid : Nat} (hw : 0x30000000 &&& hid = 0x30000000) (s : State) :
    (ackFalls s).seen hid = s.seen hid := by
  refine seen_mono hw ?_
  unfold ackFalls
  simp

@[simp] theorem finishPause_keeps {hid : Nat}
    (hw : 0xB04220800000058000000000000C050100070000001 &&& hid = 0xB04220800000058000000000000C050100070000001) (s : State) :
    (finishPause s).seen hid = s.seen hid := by
  refine seen_mono hw ?_
  unfold finishPause
  simp

@[simp] theorem endPause_keeps {hid : Nat}
    (hw : 0xB04220800000058000000000000C050100070000001 &&& hid = 0xB04220800000058000000000000C050100070000001) (s : State) :
    (endPause s).seen hid = s.seen hid := by
  refine seen_mono hw ?_
  unfold endPause
  simp

@[simp] theorem qzHoldExpiry_keeps {hid : Nat}
    (hw : 0xB04220800000058000000000000C050100070000001 &&& hid = 0xB04220800000058000000000000C050100070000001) (s : State) :
    (qzHoldExpiry s).seen hid = s.seen hid := by
  refine seen_mono hw ?_
  unfold qzHoldExpiry
  simp

@[simp] theorem qzReqFall_keeps {hid : Nat}
    (hw : 0xB04220800000058000000000000C050100072000001 &&& hid = 0xB04220800000058000000000000C050100072000001) (s : State) :
    (qzReqFall s).seen hid = s.seen hid := by
  refine seen_mono hw ?_
  unfold qzReqFall
  simp

@[simp] theorem deepPauseExitDone_keeps {hid : Nat}
    (hw : 0x2B04B20800180058000000000000C0501CFCF0008001 &&& hid = 0x2B04B20800180058000000000000C0501CFCF0008001) (s : State) :
    (deepPauseExitDone s).seen hid = s.seen hid := by
  refine seen_mono hw ?_
  unfold deepPauseExitDone
  simp

@[simp] theorem drainBarrierComplete_keeps {hid : Nat}
    (hw : 0x1000000000000000000000000000000000030000000 &&& hid = 0x1000000000000000000000000000000000030000000) (s : State) :
    (drainBarrierComplete s).seen hid = s.seen hid := by
  refine seen_mono hw ?_
  unfold drainBarrierComplete
  simp

@[simp] theorem qzTick_keeps {hid : Nat}
    (hw : 0xB04220800000058000000000000C050100070000001 &&& hid = 0xB04220800000058000000000000C050100070000001) (s : State) :
    (qzTick s).seen hid = s.seen hid := by
  refine seen_mono hw ?_
  unfold qzTick
  simp

@[simp] theorem fullDrain_keeps {hid : Nat}
    (hw : 0x2804B0000008000000000000000002000CFC00000000 &&& hid = 0x2804B0000008000000000000000002000CFC00000000) (s : State) :
    (fullDrain s).seen hid = s.seen hid := by
  refine seen_mono hw ?_
  unfold fullDrain
  simp

@[simp] theorem gearChangeEnter_keeps {hid : Nat}
    (hw : 0x2804B0080008000000000000000182001CFC00000001 &&& hid = 0x2804B0080008000000000000000182001CFC00000001) (s : State) :
    (gearChangeEnter s).seen hid = s.seen hid := by
  refine seen_mono hw ?_
  unfold gearChangeEnter
  (repeat' split) <;> simp

@[simp] theorem loadGear_keeps {hid : Nat}
    (hw : 0x804000000000000000000000002C200000000000000 &&& hid = 0x804000000000000000000000002C200000000000000) (s : State) :
    (loadGear s).seen hid = s.seen hid := by
  refine seen_mono hw ?_
  unfold loadGear
  refine forAll_keeps _ _ _ fun x s => ?_
  dsimp only
  rw [updPhySc_keeps (by decide), updMaint_keeps (by decide), stopAll_keeps (by decide), onlyIf_keeps _ _ _ (seqEnd_keeps (by decide) _ _)]

@[simp] theorem gearSwitch_keeps {hid : Nat}
    (hw : 0x2804B00000180000000000000002C2000CFC80008008 &&& hid = 0x2804B00000180000000000000002C2000CFC80008008) (g : Gear) (s : State) :
    (gearSwitch g s).seen hid = s.seen hid := by
  refine seen_mono hw ?_
  unfold gearSwitch
  simp

@[simp] theorem readCheck_keeps {hid : Nat}
    (hw : 0x280090000000000000000000000000000CFC00000000 &&& hid = 0x280090000000000000000000000000000CFC00000000) (s : State) :
    (readCheck s).seen hid = s.seen hid := by
  refine seen_mono hw ?_
  unfold readCheck
  try simp
  (repeat' (first | split | (refine (forAll_keeps _ _ _ (fun a s => ?_)).trans ?_) | dsimp only)) <;> (first | rfl | (simp; done) | (simp_all; done))

@[simp] theorem gearUnavail_keeps {hid : Nat}
    (hw : 0x4008000000000000000000000000000000000000 &&& hid = 0x4008000000000000000000000000000000000000) (g : Gear) (s : State) :
    (gearUnavail g s).seen hid = s.seen hid := by
  refine seen_mono hw ?_
  unfold gearUnavail
  simp

@[simp] theorem gearChangeDone_keeps {hid : Nat}
    (hw : 0x2B04F20800180058000000000007C2501CFCF0008009 &&& hid = 0x2B04F20800180058000000000007C2501CFCF0008009) (readCheckOk : Bool) (s : State) :
    (gearChangeDone readCheckOk s).seen hid = s.seen hid := by
  refine seen_mono hw ?_
  unfold gearChangeDone
  (repeat' split) <;> simp

@[simp] theorem gearPowerFail_keeps {hid : Nat}
    (hw : 0x4000000000000000000000001C000000000000000 &&& hid = 0x4000000000000000000000001C000000000000000) (s : State) :
    (gearPowerFail s).seen hid = s.seen hid := by
  refine seen_mono hw ?_
  unfold gearPowerFail
  simp

@[simp] theorem windowBegins_keeps {hid : Nat}
    (hw : 0x8000000000000000000000000000000000000000000 &&& hid = 0x8000000000000000000000000000000000000000000) (s : State) :
    (windowBegins s).seen hid = s.seen hid := by
  refine seen_mono hw ?_
  unfold windowBegins
  simp

@[simp] theorem policyJudge_keeps {hid : Nat}
    (hw : 0x4000000000000000000000004C000000000000000 &&& hid = 0x4000000000000000000000004C000000000000000) (s : State) :
    (policyJudge s).seen hid = s.seen hid := by
  refine seen_mono hw ?_
  unfold policyJudge
  simp

@[simp] theorem gearPolicyWindow_keeps {hid : Nat}
    (hw : 0x804000000000000000000000004C000000000000000 &&& hid = 0x804000000000000000000000004C000000000000000) (s : State) :
    (gearPolicyWindow s).seen hid = s.seen hid := by
  refine seen_mono hw ?_
  unfold gearPolicyWindow
  simp

@[simp] theorem regFill_keeps {hid : Nat}
    (hw : 0x7FFFF8000000000000000000000000000000000000 &&& hid = 0x7FFFF8000000000000000000000000000000000000) (off : Nat) (ws : List Nat) (s : State) :
    (regFill off ws s).seen hid = s.seen hid := by
  refine seen_mono hw ?_
  unfold regFill
  exact forAll_keeps _ _ _ fun x s => regSet_keeps _ _ _ (regs_all_hidden (by decide) _)

@[simp] theorem applyImg_keeps {hid : Nat}
    (hw : 0x7FFFF8000000000000000000000000000000000000 &&& hid = 0x7FFFF8000000000000000000000000000000000000) (m : Image) (s : State) :
    (applyImg m s).seen hid = s.seen hid := by
  refine seen_mono hw ?_
  unfold applyImg
  simp

@[simp] theorem applyDom_keeps {hid : Nat}
    (hw : 0x7FFFF8000000000000000000000000000000000000 &&& hid = 0x7FFFF8000000000000000000000000000000000000) (m : Image) (own : Nat) (s : State) :
    (applyDom m own s).seen hid = s.seen hid := by
  refine seen_mono hw ?_
  unfold applyDom
  simp

@[simp] theorem applyMap_keeps {hid : Nat}
    (hw : 0x7FFFF8000000000000000000000000000000000000 &&& hid = 0x7FFFF8000000000000000000000000000000000000) (m : Image) (own : Nat) (s : State) :
    (applyMap m own s).seen hid = s.seen hid := by
  refine seen_mono hw ?_
  unfold applyMap
  dsimp only
  have h : ∀ off, 0x7FFFF8000000000000000000000000000000000000 / 2 ^ (147 + regGroup off) % 2 = 1 := regs_all_hidden (by decide)
  rw [forAll_keeps _ _ _ fun x s => ?_]
  · simp
  · simp only [regSet64_keeps, regSet_keeps, h]

@[simp] theorem applyMir_keeps {hid : Nat}
    (hw : 0x400100000000000000000000000000000000000000 &&& hid = 0x400100000000000000000000000000000000000000) (m : Image) (own : Nat) (s : State) :
    (applyMir m own s).seen hid = s.seen hid := by
  refine seen_mono hw ?_
  unfold applyMir
  (repeat' split) <;> simp

@[simp] theorem applyGear_keeps {hid : Nat}
    (hw : 0x7FFFF8000000000000000000000000000000000000 &&& hid = 0x7FFFF8000000000000000000000000000000000000) (m : Image) (g : Nat) (s : State) :
    (applyGear m g s).seen hid = s.seen hid := by
  refine seen_mono hw ?_
  unfold applyGear
  have h : ∀ off, 0x7FFFF8000000000000000000000000000000000000 / 2 ^ (147 + regGroup off) % 2 = 1 := regs_all_hidden (by decide)
  split
  · exact regFill_keeps (by decide) _ _ _
  · rw [regFill_keeps (by decide), regSet_keeps _ _ _ (h _)]

@[simp] theorem applyLoad_keeps {hid : Nat}
    (hw : 0x7FFFF8000200000000000000000000000000000000 &&& hid = 0x7FFFF8000200000000000000000000000000000000) (r : Nat × Word) (s : State) :
    (applyLoad r s).seen hid = s.seen hid := by
  refine seen_mono hw ?_
  unfold applyLoad
  dsimp only
  rw [wideSync_keeps (by decide), regSet_keeps _ _ _ (regs_all_hidden (by decide) _)]

@[simp] theorem applyLoads_keeps {hid : Nat}
    (hw : 0x7FFFF8000200000000000000000000000000000000 &&& hid = 0x7FFFF8000200000000000000000000000000000000) (old : Image) (m : Image) (own : Nat) (id : Nat) (s : State) :
    (applyLoads old m own id s).seen hid = s.seen hid := by
  refine seen_mono hw ?_
  unfold applyLoads
  simp

@[simp] theorem applyParts_keeps {hid : Nat} (hw : 0xC100000000000 &&& hid = 0xC100000000000) (m : Image) (s : State) :
    (applyParts m s).seen hid = s.seen hid := by
  refine seen_mono hw ?_
  unfold applyParts
  simp

@[simp] theorem coverUnheld_keeps {hid : Nat}
    (hw : 0x8000000000000000000000000000000340000 &&& hid = 0x8000000000000000000000000000000340000) (s : State) :
    (coverUnheld s).seen hid = s.seen hid := by
  refine seen_mono hw ?_
  unfold coverUnheld
  simp

@[simp] theorem applyImage_keeps {hid : Nat}
    (hw : 0x7FFFF800020024000000000000000C100000340000 &&& hid = 0x7FFFF800020024000000000000000C100000340000) (m : Image) (s : State) :
    (applyImage m s).seen hid = s.seen hid := by
  refine seen_mono hw ?_
  unfold applyImage
  simp

@[simp] theorem updRl_keeps {hid : Nat}
    (hw : 0x400000000000000000000000000000 &&& hid = 0x400000000000000000000000000000) (f : Reload → Reload) (s : State) :
    (updRl f s).seen hid = s.seen hid := by
  refine seen_mono hw ?_
  unfold updRl
  first
    | (simp; done)
    | (((repeat' split) <;> (first | (simp; done) | (simp_all; done))); done)
    | (simp; (repeat' split) <;> (first | (simp; done) | (simp_all; done)))
    | (simp [State.seen, Glb.seen, Qz.seen, Ref.seen, Qos.seen, Phy.seen, Ras.seen, Egp.seen, Mir.seen, Dom.seen, Img.seen, Glg.seen, Pwr.seen, Evt.seen]; done)

@[simp] theorem bcastPhase_keeps {hid : Nat}
    (hw : 0x40000004000000000000000000000000000000 &&& hid = 0x40000004000000000000000000000000000000) (t : BitVec 10) (ph : Fin 5) (s : State) :
    (bcastPhase t ph s).seen hid = s.seen hid := by
  refine seen_mono hw ?_
  unfold bcastPhase
  simp

@[simp] theorem glgStat_keeps {hid : Nat}
    (hw : 0x80000000000000000000000000000000000000000 &&& hid = 0x80000000000000000000000000000000000000000) (bits : Word) (s : State) :
    (glgStat bits s).seen hid = s.seen hid := by
  refine seen_mono hw ?_
  unfold glgStat
  simp

@[simp] theorem swapCheck_keeps {hid : Nat}
    (hw : 0x80000000080000000000000000000000000000000 &&& hid = 0x80000000080000000000000000000000000000000) (s : State) :
    (swapCheck s).seen hid = s.seen hid := by
  refine seen_mono hw ?_
  unfold swapCheck
  simp

@[simp] theorem glgHold_keeps {hid : Nat}
    (hw : 0x10000000000000000000000000000000 &&& hid = 0x10000000000000000000000000000000) (s : State) :
    (glgHold s).seen hid = s.seen hid := by
  refine seen_mono hw ?_
  unfold glgHold
  simp

@[simp] theorem glgRelease_keeps {hid : Nat}
    (hw : 0x80000000090000000000000000000000000000000 &&& hid = 0x80000000090000000000000000000000000000000) (all : Bool) (s : State) :
    (glgRelease all s).seen hid = s.seen hid := by
  refine seen_mono hw ?_
  unfold glgRelease
  simp

@[simp] theorem ackReload_keeps {hid : Nat}
    (hw : 0x40000004000200000020000000000000000000 &&& hid = 0x40000004000200000020000000000000000000) (r : Reload) (phase : Fin 5) (reason : Nat) (s : State) :
    (ackReload r phase reason s).seen hid = s.seen hid := by
  refine seen_mono hw ?_
  unfold ackReload
  simp

@[simp] theorem recordReload_keeps {hid : Nat}
    (hw : 0x40000011200000000000000000000000000000000000 &&& hid = 0x40000011200000000000000000000000000000000000) (r : Reload) (phase : Nat) (reason : Nat) (before : Word) (staged : Word) (s : State) :
    (recordReload r phase reason before staged s).seen hid = s.seen hid := by
  refine seen_mono hw ?_
  unfold recordReload
  simp

@[simp] theorem showReload_keeps {hid : Nat}
    (hw : 0x40000000000000000000000000000000000000 &&& hid = 0x40000000000000000000000000000000000000) (r : Reload) (outcome : Nat) (reason : Nat) (s : State) :
    (showReload r outcome reason s).seen hid = s.seen hid := by
  refine seen_mono hw ?_
  unfold showReload
  simp

@[simp] theorem endReload_keeps {hid : Nat}
    (hw : 0x500000000000000000000000000000 &&& hid = 0x500000000000000000000000000000) (s : State) :
    (endReload s).seen hid = s.seen hid := by
  refine seen_mono hw ?_
  unfold endReload
  simp

@[simp] theorem refuseReload_keeps {hid : Nat}
    (hw : 0x40000051200004000200000020000000000000000000 &&& hid = 0x40000051200004000200000020000000000000000000) (r : Reload) (reason : Nat) (staged : Word) (s : State) :
    (refuseReload r reason staged s).seen hid = s.seen hid := by
  refine seen_mono hw ?_
  unfold refuseReload
  simp

@[simp] theorem rejectReload_keeps {hid : Nat}
    (hw : 0x40000051200004500200000020000000000000000000 &&& hid = 0x40000051200004500200000020000000000000000000) (reason : Nat) (s : State) :
    (rejectReload reason s).seen hid = s.seen hid := by
  refine seen_mono hw ?_
  unfold rejectReload
  simp

@[simp] theorem startReload_keeps {hid : Nat}
    (hw : 0x40000051200004580200000020000000000000000000 &&& hid = 0x40000051200004580200000020000000000000000000) (r : Reload) (s : State) :
    (startReload r s).seen hid = s.seen hid := by
  refine seen_mono hw ?_
  unfold startReload
  simp

@[simp] theorem actReload_keeps {hid : Nat}
    (hw : 0x40000051200004580200000020000000000000000000 &&& hid = 0x40000051200004580200000020000000000000000000) (v : Word) (s : State) :
    (actReload v s).seen hid = s.seen hid := by
  refine seen_mono hw ?_
  unfold actReload
  simp

@[simp] theorem withdraw_keeps {hid : Nat}
    (hw : 0x40080051200094580200000020000000000000000000 &&& hid = 0x40080051200094580200000020000000000000000000) (id : Byte) (initiator : BitVec 10) (s : State) :
    (withdraw id initiator s).seen hid = s.seen hid := by
  refine seen_mono hw ?_
  unfold withdraw
  simp

@[simp] theorem reloadRequest_keeps {hid : Nat}
    (hw : 0x40080051200094580300000020000000000000000000 &&& hid = 0x40080051200094580300000020000000000000000000) (s : State) :
    (reloadRequest s).seen hid = s.seen hid := by
  refine seen_mono hw ?_
  unfold reloadRequest
  split
  · rfl
  · rename_i h
    rw [← takeMsg_keeps (hid := 0x40080051200094580300000020000000000000000000) (by decide) h]
    (repeat' (first | split | dsimp only)) <;> simp

@[simp] theorem writeRetention_keeps {hid : Nat}
    (hw : 0x8000000000000000000000000000000000000000000 &&& hid = 0x8000000000000000000000000000000000000000000) (s : State) :
    (writeRetention s).seen hid = s.seen hid := by
  refine seen_mono hw ?_
  unfold writeRetention
  simp

@[simp] theorem stageParts_keeps {hid : Nat}
    (hw : 0x80000000000000000000000000C000000000000 &&& hid = 0x80000000000000000000000000C000000000000) (m : Image) (s : State) :
    (stageParts m s).seen hid = s.seen hid := by
  refine seen_mono hw ?_
  unfold stageParts
  simp

@[simp] theorem loadEffects_keeps {hid : Nat}
    (hw : 0xA04020000000000000000000020C250100000000000 &&& hid = 0xA04020000000000000000000020C250100000000000) (scrub : Word) (s : State) :
    (loadEffects scrub s).seen hid = s.seen hid := by
  refine seen_mono hw ?_
  unfold loadEffects
  simp

@[simp] theorem liveSwitch_keeps {hid : Nat}
    (hw : 0xA7FFFF800020004000000000022C25C100000000000 &&& hid = 0xA7FFFF800020004000000000022C25C100000000000) (m : Image) (s : State) :
    (liveSwitch m s).seen hid = s.seen hid := by
  refine seen_mono hw ?_
  unfold liveSwitch
  simp

@[simp] theorem noteApplied_keeps {hid : Nat}
    (hw : 0x8000000000000000000000000000000 &&& hid = 0x8000000000000000000000000000000) (r : Reload) (s : State) :
    (noteApplied r s).seen hid = s.seen hid := by
  refine seen_mono hw ?_
  unfold noteApplied
  simp

@[simp] theorem appliedReload_keeps {hid : Nat}
    (hw : 0x4000005120000C500200000020000000000000000000 &&& hid = 0x4000005120000C500200000020000000000000000000) (outcome : Nat) (before : Word) (s : State) :
    (appliedReload outcome before s).seen hid = s.seen hid := by
  refine seen_mono hw ?_
  unfold appliedReload
  simp

@[simp] theorem acceptReload_keeps {hid : Nat}
    (hw : 0x40000051200014580200000020000000000000000000 &&& hid = 0x40000051200014580200000020000000000000000000) (restart : Bool) (s : State) :
    (acceptReload restart s).seen hid = s.seen hid := by
  refine seen_mono hw ?_
  unfold acceptReload
  simp

@[simp] theorem reloadFetchDone_keeps {hid : Nat}
    (hw : 0x407FFFF920021C580200000020000000000000000000 &&& hid = 0x407FFFF920021C580200000020000000000000000000) (s : State) :
    (reloadFetchDone s).seen hid = s.seen hid := by
  refine seen_mono hw ?_
  unfold reloadFetchDone
  split
  · rfl
  · dsimp only
    split
    · simp
    · split <;> simp

@[simp] theorem restartEnter_keeps {hid : Nat}
    (hw : 0x6802B0192008000000000000020002001CFC81C09405 &&& hid = 0x6802B0192008000000000000020002001CFC81C09405) (s : State) :
    (restartEnter s).seen hid = s.seen hid := by
  refine seen_mono hw ?_
  unfold restartEnter
  simp

@[simp] theorem reloadQuiescePoint_keeps {hid : Nat}
    (hw : 0x6A7FFFF9200A0C54020000002222C25C1CFC81C09405 &&& hid = 0x6A7FFFF9200A0C54020000002222C25C1CFC81C09405) (s : State) :
    (reloadQuiescePoint s).seen hid = s.seen hid := by
  refine seen_mono hw ?_
  unfold reloadQuiescePoint
  simp

@[simp] theorem reloadPowerFail_keeps {hid : Nat}
    (hw : 0x40000000500000000000000000000000000000 &&& hid = 0x40000000500000000000000000000000000000) (s : State) :
    (reloadPowerFail s).seen hid = s.seen hid := by
  refine seen_mono hw ?_
  unfold reloadPowerFail
  simp

@[simp] theorem bcastSend_keeps {hid : Nat}
    (hw : 0x20200000020000000000000000000 &&& hid = 0x20200000020000000000000000000) (dst : BitVec 10) (pay : List Word) (s : State) :
    (bcastSend dst pay s).seen hid = s.seen hid := by
  refine seen_mono hw ?_
  unfold bcastSend
  try simp
  (repeat' (first | split | (refine (forAll_keeps _ _ _ (fun a s => ?_)).trans ?_) | dsimp only)) <;> (first | rfl | (simp; done) | (simp_all; done))

@[simp] theorem bcastClear_keeps {hid : Nat}
    (hw : 0x20000000000000000000000000000 &&& hid = 0x20000000000000000000000000000) (s : State) :
    (bcastClear s).seen hid = s.seen hid := by
  refine seen_mono hw ?_
  unfold bcastClear
  simp

@[simp] theorem actBcast_keeps {hid : Nat}
    (hw : 0x40080051200097DA0200000020000000000000000000 &&& hid = 0x40080051200097DA0200000020000000000000000000) (v : Word) (s : State) :
    (actBcast v s).seen hid = s.seen hid := by
  refine seen_mono hw ?_
  unfold actBcast
  (repeat' split) <;> simp

@[simp] theorem bcastResend_keeps {hid : Nat}
    (hw : 0x40000057200004020000000020000000000000000000 &&& hid = 0x40000057200004020000000020000000000000000000) (dst : BitVec 10) (s : State) :
    (bcastResend dst s).seen hid = s.seen hid := by
  refine seen_mono hw ?_
  unfold bcastResend
  (repeat' split) <;> simp

@[simp] theorem reloadAck_keeps {hid : Nat}
    (hw : 0x40000004000100000000000000000000000000 &&& hid = 0x40000004000100000000000000000000000000) (s : State) :
    (reloadAck s).seen hid = s.seen hid := by
  refine seen_mono hw ?_
  unfold reloadAck
  split
  · rfl
  · rename_i h
    rw [← takeMsg_keeps (hid := 0x40000004000100000000000000000000000000) (by decide) h]
    (repeat' (first | split | dsimp only)) <;> simp

end Sys2Proof.Machine
end

