-- ==== Sys2Proof/Laws/FrameGlg.lean ====
section
/-! SUPPORT. The parts of State that the operations of Gliog, Egress, Mnt, ReadData, Power keep. -/

namespace Sys2Proof.Machine

@[simp] theorem pageStat_keeps {hid : Nat}
    (hw : 0x200000000000000000000000000000000000000000 &&& hid = 0x200000000000000000000000000000000000000000) (i : InstId) (bits : Word) (s : State) :
    (pageStat i bits s).seen hid = s.seen hid := by
  refine seen_mono hw ?_
  unfold pageStat
  simp

@[simp] theorem updJob_keeps {hid : Nat}
    (hw : 0x10000000000000000000000000000000 &&& hid = 0x10000000000000000000000000000000) (i : InstId) (f : Job → Job) (s : State) :
    (updJob i f s).seen hid = s.seen hid := by
  refine seen_mono hw ?_
  unfold updJob
  first
    | (simp; done)
    | (((repeat' split) <;> (first | (simp; done) | (simp_all; done))); done)
    | (simp; (repeat' split) <;> (first | (simp; done) | (simp_all; done)))
    | (simp [State.seen, Glb.seen, Qz.seen, Ref.seen, Qos.seen, Phy.seen, Ras.seen, Egp.seen, Mir.seen, Dom.seen, Img.seen, Glg.seen, Pwr.seen, Evt.seen]; done)

@[simp] theorem actProbe_keeps {hid : Nat}
    (hw : 0x480000000000000000000000000000000000000000 &&& hid = 0x480000000000000000000000000000000000000000) (v : Word) (s : State) :
    (actProbe v s).seen hid = s.seen hid := by
  refine seen_mono hw ?_
  unfold actProbe
  simp

@[simp] theorem violation_keeps {hid : Nat}
    (hw : 0x40080011200000000000000000000000000000000000 &&& hid = 0x40080011200000000000000000000000000000000000) (i : InstId) (j : Job) (kind : Nat) (noMatch : Bool) (a : Nat) (s : State) :
    (violation i j kind noMatch a s).seen hid = s.seen hid := by
  refine seen_mono hw ?_
  unfold violation
  simp

@[simp] theorem violationLate_keeps {hid : Nat}
    (hw : 0x40080011200000000000000000000000000000000000 &&& hid = 0x40080011200000000000000000000000000000000000) (i : InstId) (j : Job) (kind : Nat) (noMatch : Bool) (s : State) :
    (violationLate i j kind noMatch s).seen hid = s.seen hid := by
  refine seen_mono hw ?_
  unfold violationLate
  simp

@[simp] theorem actRearm_keeps {hid : Nat}
    (hw : 0x80000000000000000000000000000000000000000 &&& hid = 0x80000000000000000000000000000000000000000) (v : Word) (s : State) :
    (actRearm v s).seen hid = s.seen hid := by
  refine seen_mono hw ?_
  unfold actRearm
  simp

@[simp] theorem actSwap_keeps {hid : Nat}
    (hw : 0x800000000C0000000000000000000000000000000 &&& hid = 0x800000000C0000000000000000000000000000000) (v : Word) (s : State) :
    (actSwap v s).seen hid = s.seen hid := by
  refine seen_mono hw ?_
  unfold actSwap
  simp

@[simp] theorem stopJob_keeps {hid : Nat}
    (hw : 0x10000000000000000000000000000000 &&& hid = 0x10000000000000000000000000000000) (i : InstId) (c : Fin 16) (s : State) :
    (stopJob i c s).seen hid = s.seen hid := by
  refine seen_mono hw ?_
  unfold stopJob
  simp

@[simp] theorem setBuf_keeps {hid : Nat}
    (hw : 0x10000000000000000000000000000000 &&& hid = 0x10000000000000000000000000000000) (i : InstId) (kind : Nat) (b : Option (LineAddr × Line × BitVec 64)) (s : State) :
    (setBuf i kind b s).seen hid = s.seen hid := by
  refine seen_mono hw ?_
  unfold setBuf
  simp

@[simp] theorem flushBuf_keeps {hid : Nat}
    (hw : 0x40080011200010000000000020000000000000000000 &&& hid = 0x40080011200010000000000020000000000000000000) (i : InstId) (kind : Nat) (s : State) :
    (flushBuf i kind s).seen hid = s.seen hid := by
  refine seen_mono hw ?_
  unfold flushBuf
  simp
  (repeat' split) <;> (first | (simp; done) | (simp_all; done))

@[simp] theorem putBytes_keeps {hid : Nat}
    (hw : 0x40080011200010000000000020000000000000000000 &&& hid = 0x40080011200010000000000020000000000000000000) (i : InstId) (kind : Nat) (addr : Nat) (bs : List Byte) (s : State) :
    (putBytes i kind addr bs s).seen hid = s.seen hid := by
  refine seen_mono hw ?_
  unfold putBytes
  simp
  (repeat' split) <;> (first | (simp; done) | (simp_all; done))

@[simp] theorem chainPump_keeps {hid : Nat}
    (hw : 0x40080011200010000000000020000000000000000000 &&& hid = 0x40080011200010000000000020000000000000000000) (i : InstId) (s : State) :
    (chainPump i s).seen hid = s.seen hid := by
  refine seen_mono hw ?_
  unfold chainPump
  (repeat' split) <;> simp

@[simp] theorem closeJob_keeps {hid : Nat}
    (hw : 0x40080011200010000000000020000000000000000000 &&& hid = 0x40080011200010000000000020000000000000000000) (i : InstId) (s : State) :
    (closeJob i s).seen hid = s.seen hid := by
  refine seen_mono hw ?_
  unfold closeJob
  (repeat' split) <;> simp

@[simp] theorem putRecord_keeps {hid : Nat}
    (hw : 0x280000000010000000000000000000000000000000 &&& hid = 0x280000000010000000000000000000000000000000) (i : InstId) (d : Desc) (st : Fin 16) (ws : List Word) (s : State) :
    (putRecord i d st ws s).seen hid = s.seen hid := by
  refine seen_mono hw ?_
  unfold putRecord
  simp

@[simp] theorem flushDead_keeps {hid : Nat}
    (hw : 0x280000000010000000000000000000000000000000 &&& hid = 0x280000000010000000000000000000000000000000) (i : InstId) (s : State) :
    (flushDead i s).seen hid = s.seen hid := by
  refine seen_mono hw ?_
  unfold flushDead
  try simp
  (repeat' (first | split | (refine (forAll_keeps _ _ _ (fun a s => ?_)).trans ?_) | dsimp only)) <;> (first | rfl | (simp; done) | (simp_all; done))

@[simp] theorem killQueue_keeps {hid : Nat}
    (hw : 0x280000000010000000000000000000000000000000 &&& hid = 0x280000000010000000000000000000000000000000) (i : InstId) (s : State) :
    (killQueue i s).seen hid = s.seen hid := by
  refine seen_mono hw ?_
  unfold killQueue
  simp

@[simp] theorem beginJob_keeps {hid : Nat}
    (hw : 0x40080011200010000000000020000000000000000000 &&& hid = 0x40080011200010000000000020000000000000000000) (i : InstId) (d : Desc) (s : State) :
    (beginJob i d s).seen hid = s.seen hid := by
  refine seen_mono hw ?_
  unfold beginJob
  simp

@[simp] theorem jobStart_keeps {hid : Nat}
    (hw : 0x40080011200010000000000020000000000000000000 &&& hid = 0x40080011200010000000000020000000000000000000) (i : InstId) (s : State) :
    (jobStart i s).seen hid = s.seen hid := by
  refine seen_mono hw ?_
  unfold jobStart
  simp
  (repeat' split) <;> (first | (simp; done) | (simp_all; done))

@[simp] theorem finishJob_keeps {hid : Nat}
    (hw : 0x280000000090000000000000000000000000000000 &&& hid = 0x280000000090000000000000000000000000000000) (i : InstId) (j : Job) (s : State) :
    (finishJob i j s).seen hid = s.seen hid := by
  refine seen_mono hw ?_
  unfold finishJob
  simp

@[simp] theorem jobEnd_keeps {hid : Nat}
    (hw : 0x40280011200090000000000020000000000000000000 &&& hid = 0x40280011200090000000000020000000000000000000) (i : InstId) (s : State) :
    (jobEnd i s).seen hid = s.seen hid := by
  refine seen_mono hw ?_
  unfold jobEnd
  simp
  (repeat' split) <;> (first | (simp; done) | (simp_all; done))

@[simp] theorem recoveredRecord_keeps {hid : Nat}
    (hw : 0x40000013200000000000000000000000000000000000 &&& hid = 0x40000013200000000000000000000000000000000000) (l : Lla) (d : Decoded) (i : RasInfo) (s : State) :
    (recoveredRecord l d i s).seen hid = s.seen hid := by
  refine seen_mono hw ?_
  unfold recoveredRecord
  simp

@[simp] theorem putSlot_keeps {hid : Nat}
    (hw : 0x10000000000000000000000000000000 &&& hid = 0x10000000000000000000000000000000) (i : InstId) (k : Nat) (v : GSlot) (s : State) :
    (putSlot i k v s).seen hid = s.seen hid := by
  refine seen_mono hw ?_
  unfold putSlot
  simp

@[simp] theorem gotBits_keeps {hid : Nat}
    (hw : 0x10000000000000000000000000000000 &&& hid = 0x10000000000000000000000000000000) (i : InstId) (k : Nat) (bits : Nat) (s : State) :
    (gotBits i k bits s).seen hid = s.seen hid := by
  refine seen_mono hw ?_
  unfold gotBits
  simp

@[simp] theorem glgStore_keeps {hid : Nat}
    (hw : 0x8080000000000000000000000000000000000000000 &&& hid = 0x8080000000000000000000000000000000000000000) (label : BitVec 12) (l : Lla) (data : Line) (poison : Bool) (back : Bool) (s : State) :
    (glgStore label l data poison back s).seen hid = s.seen hid := by
  refine seen_mono hw ?_
  unfold glgStore
  simp

@[simp] theorem glgWrite_keeps {hid : Nat}
    (hw : 0x2B080308000010000001C000200000000000001C0000 &&& hid = 0x2B080308000010000001C000200000000000001C0000) (i : InstId) (label : BitVec 12) (g : GLine) (data : Line) (back : Bool) (s : State) :
    (glgWrite i label g data back s).seen hid = s.seen hid := by
  refine seen_mono hw ?_
  unfold glgWrite
  simp

@[simp] theorem glgAskPeer_keeps {hid : Nat}
    (hw : 0x10000000000020000000000000000000 &&& hid = 0x10000000000020000000000000000000) (i : InstId) (k : Nat) (g : GLine) (d : Option Decoded) (s : State) :
    (glgAskPeer i k g d s).seen hid = s.seen hid := by
  refine seen_mono hw ?_
  unfold glgAskPeer
  simp

@[simp] theorem scrubSlot_keeps {hid : Nat}
    (hw : 0x480A0013200010000000000000000000000000000000 &&& hid = 0x480A0013200010000000000000000000000000000000) (i : InstId) (k : Nat) (label : BitVec 12) (g : GLine) (d : Decoded) (peer : Option Line) (s : State) :
    (scrubSlot i k label g d peer s).seen hid = s.seen hid := by
  refine seen_mono hw ?_
  unfold scrubSlot
  (repeat' split) <;> simp

@[simp] theorem tookSlot_keeps {hid : Nat}
    (hw : 0x2B080308000010000001C000200000000000001C0000 &&& hid = 0x2B080308000010000001C000200000000000001C0000) (i : InstId) (k : Nat) (j : Job) (g : GLine) (r : GRead) (s : State) :
    (tookSlot i k j g r s).seen hid = s.seen hid := by
  refine seen_mono hw ?_
  unfold tookSlot
  simp

@[simp] theorem readSlot_keeps {hid : Nat}
    (hw : 0x40000113200000000000000000000000000000000000 &&& hid = 0x40000113200000000000000000000000000000000000) (s : State) (g : GLine) (d : Decoded) (peer : Option Line) : (readSlot s g d peer).2.seen hid = s.seen hid := by
  refine seen_mono hw ?_
  unfold readSlot
  (repeat' (first | split | dsimp only)) <;> simp

@[simp] theorem settleSlot_keeps {hid : Nat}
    (hw : 0x6B0A031B200010000001C000200000000000001C0000 &&& hid = 0x6B0A031B200010000001C000200000000000001C0000) (i : InstId) (k : Nat) (j : Job) (g : GLine) (d : Decoded) (peer : Option Line) (s : State) :
    (settleSlot i k j g d peer s).seen hid = s.seen hid := by
  refine seen_mono hw ?_
  unfold settleSlot
  simp

@[simp] theorem leaveGranule_keeps {hid : Nat}
    (hw : 0x40080011200010000000000020000000000000000000 &&& hid = 0x40080011200010000000000020000000000000000000) (i : InstId) (s : State) :
    (leaveGranule i s).seen hid = s.seen hid := by
  refine seen_mono hw ?_
  unfold leaveGranule
  (repeat' split) <;> simp

@[simp] theorem glgData_keeps {hid : Nat}
    (hw : 0x6B0A031B200010000001C000202002000000001C0000 &&& hid = 0x6B0A031B200010000001C000202002000000001C0000) (x : Sc) (t : RdTag) (i : InstId) (k : Nat) (rx : Capture) (s : State) :
    (glgData x t i k rx s).seen hid = s.seen hid := by
  refine seen_mono hw ?_
  unfold glgData
  (repeat' split) <;> simp

@[simp] theorem glgPeerDone_keeps {hid : Nat}
    (hw : 0x6B0A031B200010000001C000200000000000001C0000 &&& hid = 0x6B0A031B200010000001C000200000000000001C0000) (i : InstId) (e : Byte) (k : Nat) (st : Option Status) (data : Line) (s : State) :
    (glgPeerDone i e k st data s).seen hid = s.seen hid := by
  refine seen_mono hw ?_
  unfold glgPeerDone
  simp
  (repeat' split) <;> (first | (simp; done) | (simp_all; done))

@[simp] theorem takeDead_keeps {hid : Nat}
    (hw : 0x10000000000020000000000000000000 &&& hid = 0x10000000000020000000000000000000) (i : InstId) (k : Nat) (j : Job) (g : GLine) (s : State) :
    (takeDead i k j g s).seen hid = s.seen hid := by
  refine seen_mono hw ?_
  unfold takeDead
  simp

@[simp] theorem takeLine_keeps {hid : Nat}
    (hw : 0x2B080308000010000001C000200000000000001C0000 &&& hid = 0x2B080308000010000001C000200000000000001C0000) (i : InstId) (k : Nat) (j : Job) (g : GLine) (s : State) :
    (takeLine i k j g s).seen hid = s.seen hid := by
  refine seen_mono hw ?_
  unfold takeLine
  simp

@[simp] theorem granuleEnd_keeps {hid : Nat}
    (hw : 0x40080011200010000000000020000000000000000000 &&& hid = 0x40080011200010000000000020000000000000000000) (i : InstId) (bits : Nat) (s : State) :
    (granuleEnd i bits s).seen hid = s.seen hid := by
  refine seen_mono hw ?_
  unfold granuleEnd
  (repeat' split) <;> simp

@[simp] theorem granuleSkip_keeps {hid : Nat}
    (hw : 0x40080011200010000000000020000000000000000000 &&& hid = 0x40080011200010000000000020000000000000000000) (i : InstId) (s : State) :
    (granuleSkip i s).seen hid = s.seen hid := by
  refine seen_mono hw ?_
  unfold granuleSkip
  simp

@[simp] theorem zeroDemand_keeps {hid : Nat} (hw : 0x200000 &&& hid = 0x200000) (j : Job) (lines : List GLine)
    (s : State) :
    (zeroDemand j lines s).seen hid = s.seen hid := by
  refine seen_mono hw ?_
  unfold zeroDemand
  simp

@[simp] theorem digestOf_keeps {hid : Nat}
    (hw : 0x80000000000000000000000000000000000000000000 &&& hid = 0x80000000000000000000000000000000000000000000) (c : CrcSet) (sa : Nat) (l : List Line) (s : State) : (digestOf c sa l s).2.seen hid = s.seen hid := by
  refine seen_mono hw ?_
  unfold digestOf
  split <;> simp

@[simp] theorem granuleRun_keeps {hid : Nat}
    (hw : 0xC0080011200010000000000020000000000000200000 &&& hid = 0xC0080011200010000000000020000000000000200000) (i : InstId) (j : Job) (got : List GRead) (s : State) :
    (granuleRun i j got s).seen hid = s.seen hid := by
  refine seen_mono hw ?_
  unfold granuleRun
  simp
  (repeat' split) <;> (first | (simp; done) | (simp_all; done))

@[simp] theorem granuleAside_keeps {hid : Nat}
    (hw : 0x40080011200010000000000020000000000000200000 &&& hid = 0x40080011200010000000000020000000000000200000) (i : InstId) (j : Job) (s : State) :
    (granuleAside i j s).seen hid = s.seen hid := by
  refine seen_mono hw ?_
  unfold granuleAside
  (repeat' split) <;> simp

@[simp] theorem deadSlots_keeps {hid : Nat}
    (hw : 0x10000000000020000000000000000000 &&& hid = 0x10000000000020000000000000000000) (i : InstId) (s : State) :
    (deadSlots i s).seen hid = s.seen hid := by
  refine seen_mono hw ?_
  unfold deadSlots
  try simp
  (repeat' (first | split | (refine (forAll_keeps _ _ _ (fun a s => ?_)).trans ?_) | dsimp only)) <;> (first | rfl | (simp; done) | (simp_all; done))

@[simp] theorem granuleDone_keeps {hid : Nat}
    (hw : 0xC0080011200010000000000020000000000000200000 &&& hid = 0xC0080011200010000000000020000000000000200000) (i : InstId) (granule : Nat) (s : State) :
    (granuleDone i granule s).seen hid = s.seen hid := by
  refine seen_mono hw ?_
  unfold granuleDone
  simp
  (repeat' split) <;> (first | (simp; done) | (simp_all; done))

@[simp] theorem glgBusy_keeps {hid : Nat}
    (hw : 0x8000000000010000000000000000000000000000000 &&& hid = 0x8000000000010000000000000000000000000000000) (x : Sc) (s : State) :
    (glgBusy x s).seen hid = s.seen hid := by
  refine seen_mono hw ?_
  unfold glgBusy
  simp

@[simp] theorem glgPump_keeps {hid : Nat}
    (hw : 0x2B080308000410000001C000200000000000001C0000 &&& hid = 0x2B080308000410000001C000200000000000001C0000) (x : Sc) (s : State) :
    (glgPump x s).seen hid = s.seen hid := by
  refine seen_mono hw ?_
  unfold glgPump
  simp
  (repeat' split) <;> (first | (simp; done) | (simp_all; done))

@[simp] theorem dropReads_keeps {hid : Nat}
    (hw : 0x8000000000000000000000000000000000000000000 &&& hid = 0x8000000000000000000000000000000000000000000) (i : InstId) (s : State) :
    (dropReads i s).seen hid = s.seen hid := by
  refine seen_mono hw ?_
  unfold dropReads
  try simp
  (repeat' (first | split | (refine (forAll_keeps _ _ _ (fun a s => ?_)).trans ?_) | dsimp only)) <;> (first | rfl | (simp; done) | (simp_all; done))

@[simp] theorem dropGranule_keeps {hid : Nat}
    (hw : 0x8000000000010000000000020000000000000000000 &&& hid = 0x8000000000010000000000020000000000000000000) (i : InstId) (s : State) :
    (dropGranule i s).seen hid = s.seen hid := by
  refine seen_mono hw ?_
  unfold dropGranule
  (repeat' split) <;> simp

@[simp] theorem dropUnissued_keeps {hid : Nat}
    (hw : 0x8000000000010000000000020000000000000000000 &&& hid = 0x8000000000010000000000020000000000000000000) (i : InstId) (s : State) :
    (dropUnissued i s).seen hid = s.seen hid := by
  refine seen_mono hw ?_
  unfold dropUnissued
  simp

@[simp] theorem granuleTimeout_keeps {hid : Nat}
    (hw : 0x48080017200010000000000020000000000000000000 &&& hid = 0x48080017200010000000000020000000000000000000) (i : InstId) (s : State) :
    (granuleTimeout i s).seen hid = s.seen hid := by
  refine seen_mono hw ?_
  unfold granuleTimeout
  simp
  (repeat' split) <;> (first | (simp; done) | (simp_all; done))

@[simp] theorem glgReadDone_keeps {hid : Nat}
    (hw : 0x40080011200010000000000020000000000000000000 &&& hid = 0x40080011200010000000000020000000000000000000) (i : InstId) (e : Byte) (st : Option Status) (data : Line) (s : State) :
    (glgReadDone i e st data s).seen hid = s.seen hid := by
  refine seen_mono hw ?_
  unfold glgReadDone
  simp
  (repeat' split) <;> (first | (simp; done) | (simp_all; done))

@[simp] theorem glgWriteDone_keeps {hid : Nat}
    (hw : 0x40080011200010000000000020000000000000000000 &&& hid = 0x40080011200010000000000020000000000000000000) (i : InstId) (e : Byte) (st : Option Status) (s : State) :
    (glgWriteDone i e st s).seen hid = s.seen hid := by
  refine seen_mono hw ?_
  unfold glgWriteDone
  simp

@[simp] theorem glgChainDone_keeps {hid : Nat}
    (hw : 0x10000000000000000000000000000000 &&& hid = 0x10000000000000000000000000000000) (i : InstId) (e : Byte) (st : Option Status) (data : Line) (s : State) :
    (glgChainDone i e st data s).seen hid = s.seen hid := by
  refine seen_mono hw ?_
  unfold glgChainDone
  (repeat' split) <;> simp

@[simp] theorem glgMirrorDone_keeps {hid : Nat}
    (hw : 0x2B000308000010000009C000200000000000001C0000 &&& hid = 0x2B000308000010000009C000200000000000001C0000) (i : InstId) (e : Byte) (l : Lla) (st : Option Status) (s : State) :
    (glgMirrorDone i e l st s).seen hid = s.seen hid := by
  refine seen_mono hw ?_
  unfold glgMirrorDone
  (repeat' split) <;> simp

@[simp] theorem actDoorbell_keeps {hid : Nat}
    (hw : 0x280000000010000000000000000000000000000000 &&& hid = 0x280000000010000000000000000000000000000000) (i : InstId) (v : Word) (s : State) :
    (actDoorbell i v s).seen hid = s.seen hid := by
  refine seen_mono hw ?_
  unfold actDoorbell
  simp

@[simp] theorem abortJob_keeps {hid : Nat}
    (hw : 0x40080011200010000000000020000000000000000000 &&& hid = 0x40080011200010000000000020000000000000000000) (i : InstId) (s : State) :
    (abortJob i s).seen hid = s.seen hid := by
  refine seen_mono hw ?_
  unfold abortJob
  simp

@[simp] theorem actGlgCtl_keeps {hid : Nat}
    (hw : 0x40280011200010000000000020000000000000000000 &&& hid = 0x40280011200010000000000020000000000000000000) (i : InstId) (v : Word) (s : State) :
    (actGlgCtl i v s).seen hid = s.seen hid := by
  refine seen_mono hw ?_
  unfold actGlgCtl
  simp

@[simp] theorem mboxEnd_keeps {hid : Nat}
    (hw : 0x80000000100000000000000000000000000000000 &&& hid = 0x80000000100000000000000000000000000000000) (code : Nat) (i : InstId) (s : State) :
    (mboxEnd code i s).seen hid = s.seen hid := by
  refine seen_mono hw ?_
  unfold mboxEnd
  simp

@[simp] theorem setFrozen_keeps {hid : Nat}
    (hw : 0x280000000110000000000000000000000000000000 &&& hid = 0x280000000110000000000000000000000000000000) (i : InstId) (s : State) :
    (setFrozen i s).seen hid = s.seen hid := by
  refine seen_mono hw ?_
  unfold setFrozen
  simp

@[simp] theorem freezeTake_keeps {hid : Nat}
    (hw : 0x40280011200190000000000020000000000000000000 &&& hid = 0x40280011200190000000000020000000000000000000) (i : InstId) (s : State) :
    (freezeTake i s).seen hid = s.seen hid := by
  refine seen_mono hw ?_
  unfold freezeTake
  simp
  (repeat' split) <;> (first | (simp; done) | (simp_all; done))

@[simp] theorem restore_keeps {hid : Nat}
    (hw : 0x10000000000000000000000000000000 &&& hid = 0x10000000000000000000000000000000) (i : InstId) (w : List Word) (s : State) :
    (restore i w s).seen hid = s.seen hid := by
  refine seen_mono hw ?_
  unfold restore
  simp

@[simp] theorem assign_keeps {hid : Nat}
    (hw : 0x8280000000090000000000020000000000000000000 &&& hid = 0x8280000000090000000000020000000000000000000) (i : InstId) (label : BitVec 12) (on : Bool) (s : State) :
    (assign i label on s).seen hid = s.seen hid := by
  refine seen_mono hw ?_
  unfold assign
  simp

@[simp] theorem thaw_keeps {hid : Nat}
    (hw : 0x80000000090000000000000000000000000000000 &&& hid = 0x80000000090000000000000000000000000000000) (i : InstId) (s : State) :
    (thaw i s).seen hid = s.seen hid := by
  refine seen_mono hw ?_
  unfold thaw
  simp

@[simp] theorem holdAgain_keeps {hid : Nat}
    (hw : 0x10000000000000000000000000000000 &&& hid = 0x10000000000000000000000000000000) (i : InstId) (s : State) :
    (holdAgain i s).seen hid = s.seen hid := by
  refine seen_mono hw ?_
  unfold holdAgain
  simp

@[simp] theorem mboxRun_keeps {hid : Nat}
    (hw : 0x486800112001B0000000000020000000000000000000 &&& hid = 0x486800112001B0000000000020000000000000000000) (op : Nat) (i : InstId) (s : State) :
    (mboxRun op i s).seen hid = s.seen hid := by
  refine seen_mono hw ?_
  unfold mboxRun
  (repeat' split) <;> simp

@[simp] theorem actMbox_keeps {hid : Nat}
    (hw : 0x486800112001B0000000000020000000000000000000 &&& hid = 0x486800112001B0000000000020000000000000000000) (v : Word) (s : State) :
    (actMbox v s).seen hid = s.seen hid := by
  refine seen_mono hw ?_
  unfold actMbox
  (repeat' split) <;> simp

@[simp] theorem glgPowerFail_keeps {hid : Nat}
    (hw : 0x8000000000110000000000020000000000000000000 &&& hid = 0x8000000000110000000000020000000000000000000) (s : State) :
    (glgPowerFail s).seen hid = s.seen hid := by
  refine seen_mono hw ?_
  unfold glgPowerFail
  simp

@[simp] theorem setSlot_keeps {hid : Nat} (hw : 0x40000000000000000000 &&& hid = 0x40000000000000000000) (n : Nat)
    (x : EgpSlot) (s : State) :
    (setSlot n x s).seen hid = s.seen hid := by
  refine seen_mono hw ?_
  unfold setSlot
  simp

@[simp] theorem retire_keeps {hid : Nat} (hw : 0x40000000000000000000 &&& hid = 0x40000000000000000000) (n : Nat)
    (s : State) :
    (retire n s).seen hid = s.seen hid := by
  refine seen_mono hw ?_
  unfold retire
  simp

@[simp] theorem countForwardHolds_keeps {hid : Nat}
    (hw : 0x2000020000000000000000000000000000000000000 &&& hid = 0x2000020000000000000000000000000000000000000) (s : State) :
    (countForwardHolds s).seen hid = s.seen hid := by
  refine seen_mono hw ?_
  unfold countForwardHolds
  try simp
  (repeat' (first | split | (refine (forAll_keeps _ _ _ (fun a s => ?_)).trans ?_) | dsimp only)) <;> (first | rfl | (simp; done) | (simp_all; done))

@[simp] theorem egpIssued_keeps {hid : Nat}
    (hw : 0x100000000000088000000000000000000000000 &&& hid = 0x100000000000088000000000000000000000000) (tok : BitVec 16) (r : EgpReq) (s : State) :
    (egpIssued tok r s).seen hid = s.seen hid := by
  refine seen_mono hw ?_
  unfold egpIssued
  (repeat' split) <;> simp

@[simp] theorem peerRefused_keeps {hid : Nat}
    (hw : 0x6B0403192000100000C9D43F2000C0501000001C0000 &&& hid = 0x6B0403192000100000C9D43F2000C0501000001C0000) (st : Option Status) (stale : Bool) (epoch : BitVec 8) (tok : BitVec 16) (s : State) :
    (peerRefused st stale epoch tok s).seen hid = s.seen hid := by
  refine seen_mono hw ?_
  unfold peerRefused
  simp

@[simp] theorem recoveryAnswer_keeps {hid : Nat}
    (hw : 0x63000313200000000000000000000000000000000000 &&& hid = 0x63000313200000000000000000000000000000000000) (id : Nat) (d : Decoded) (st : Option Status) (data : Line) (s : State) :
    (recoveryAnswer id d st data s).seen hid = s.seen hid := by
  refine seen_mono hw ?_
  unfold recoveryAnswer
  (repeat' split) <;> simp

@[simp] theorem remoteDone_keeps {hid : Nat}
    (hw : 0x23000200000000000000000000000000000000000000 &&& hid = 0x23000200000000000000000000000000000000000000) (id : Nat) (st : Option Status) (data : Line) (s : State) :
    (remoteDone id st data s).seen hid = s.seen hid := by
  refine seen_mono hw ?_
  unfold remoteDone
  (repeat' split) <;> simp

@[simp] theorem mergeBaseDone_keeps {hid : Nat}
    (hw : 0x6B02131B200000000209C000200000000000001C0000 &&& hid = 0x6B02131B200000000209C000200000000000001C0000) (id : Nat) (dec : Option Decoded) (st : Option Status) (data : Line) (s : State) :
    (mergeBaseDone id dec st data s).seen hid = s.seen hid := by
  refine seen_mono hw ?_
  unfold mergeBaseDone
  (repeat' split) <;> simp

@[simp] theorem resilverAnswer_keeps {hid : Nat}
    (hw : 0x40000111200000000286400220000000000000000000 &&& hid = 0x40000111200000000286400220000000000000000000) (x : Sc) (st : Option Status) (s : State) :
    (resilverAnswer x st s).seen hid = s.seen hid := by
  refine seen_mono hw ?_
  unfold resilverAnswer
  simp

@[simp] theorem egpDone_keeps {hid : Nat}
    (hw : 0x6B0A139B20001002028FC002280000000000001C0000 &&& hid = 0x6B0A139B20001002028FC002280000000000001C0000) (r : EgpReq) (st : Option Status) (data : Line) (s : State) :
    (egpDone r st data s).seen hid = s.seen hid := by
  refine seen_mono hw ?_
  unfold egpDone
  (repeat' split) <;> simp

@[simp] theorem endStaleReads_keeps {hid : Nat}
    (hw : 0x6B0A139B20001002028FC002280000000000001C0000 &&& hid = 0x6B0A139B20001002028FC002280000000000001C0000) (s : State) :
    (endStaleReads s).seen hid = s.seen hid := by
  refine seen_mono hw ?_
  unfold endStaleReads
  simp

@[simp] theorem egpIssue_keeps {hid : Nat}
    (hw : 0x6B0A13BB20001002028FC002E80000000000001C0000 &&& hid = 0x6B0A13BB20001002028FC002E80000000000001C0000) (n : Nat) (s : State) :
    (egpIssue n s).seen hid = s.seen hid := by
  refine seen_mono hw ?_
  unfold egpIssue
  simp
  (repeat' split) <;> (first | (simp; done) | (simp_all; done))

@[simp] theorem egpStale_keeps {hid : Nat}
    (hw : 0x40000213200000000000000000000000000000000000 &&& hid = 0x40000213200000000000000000000000000000000000) (tok : BitVec 16) (st : BitVec 3) (src : BitVec 10) (s : State) :
    (egpStale tok st src s).seen hid = s.seen hid := by
  refine seen_mono hw ?_
  unfold egpStale
  simp

@[simp] theorem egpResponse_keeps {hid : Nat}
    (hw : 0x6B0E139B2000100202CFD43F6800C0501000001C0000 &&& hid = 0x6B0E139B2000100202CFD43F6800C0501000001C0000) (tok : BitVec 16) (status : BitVec 3) (stale : Bool) (epoch : BitVec 8) (src : BitVec 10) (data : Line)
    (s : State) :
    (egpResponse tok status stale epoch src data s).seen hid = s.seen hid := by
  refine seen_mono hw ?_
  unfold egpResponse
  split
  · rfl
  · dsimp only
    split
    · rw [egpStale_keeps (by decide)]
    · split
      · rw [egpStale_keeps (by decide)]
      · rw [onlyIf_keeps _ _ _ (peerRefused_keeps (by decide) _ _ _ _ _), egpDone_keeps (by decide), retire_keeps (by decide)]

@[simp] theorem egpTimeout_keeps {hid : Nat}
    (hw : 0x6B0A139F20001002028FD01E680000000000001C0000 &&& hid = 0x6B0A139F20001002028FD01E680000000000001C0000) (n : Nat) (s : State) :
    (egpTimeout n s).seen hid = s.seen hid := by
  refine seen_mono hw ?_
  unfold egpTimeout
  simp
  (repeat' split) <;> (first | (simp; done) | (simp_all; done))

@[simp] theorem zeroPromote_keeps {hid : Nat}
    (hw : 0x8000000000000000000000000000000000000000000 &&& hid = 0x8000000000000000000000000000000000000000000) (x : Sc) (r : Nat) (s : State) :
    (zeroPromote x r s).seen hid = s.seen hid := by
  refine seen_mono hw ?_
  unfold zeroPromote
  simp

@[simp] theorem zeroOffer_keeps {hid : Nat}
    (hw : 0x8000000000000000000000000000000000000400000 &&& hid = 0x8000000000000000000000000000000000000400000) (x : Sc) (q : Fin 7) (r : Nat) (s : State) :
    (zeroOffer x q r s).seen hid = s.seen hid := by
  refine seen_mono hw ?_
  unfold zeroOffer
  simp

@[simp] theorem zeroOffers_keeps {hid : Nat}
    (hw : 0x8000000000000000000000000000000000000400000 &&& hid = 0x8000000000000000000000000000000000000400000) (x : Sc) (s : State) :
    (zeroOffers x s).seen hid = s.seen hid := by
  refine seen_mono hw ?_
  unfold zeroOffers
  simp
  (repeat' split) <;> (first | (simp; done) | (simp_all; done))

@[simp] theorem scrubWithdraw_keeps {hid : Nat}
    (hw : 0x8020000000000000000000000200000000000000000 &&& hid = 0x8020000000000000000000000200000000000000000) (x : Sc) (s : State) :
    (scrubWithdraw x s).seen hid = s.seen hid := by
  refine seen_mono hw ?_
  unfold scrubWithdraw
  simp

@[simp] theorem mntOffers_keeps {hid : Nat}
    (hw : 0x6B0A0319200410000287C002202000000000007C0000 &&& hid = 0x6B0A0319200410000287C002202000000000007C0000) (x : Sc) (s : State) :
    (mntOffers x s).seen hid = s.seen hid := by
  refine seen_mono hw ?_
  unfold mntOffers
  (repeat' split) <;> simp

@[simp] theorem mntArbitrate_keeps {hid : Nat}
    (hw : 0x6B0E231B200410000287C0022062CE005000007C0000 &&& hid = 0x6B0E231B200410000287C0022062CE005000007C0000) (x : Sc) (s : State) :
    (mntArbitrate x s).seen hid = s.seen hid := by
  refine seen_mono hw ?_
  unfold mntArbitrate
  simp

@[simp] theorem regionDone_keeps {hid : Nat}
    (hw : 0x80000080000000000000000000000000000007C0000 &&& hid = 0x80000080000000000000000000000000000007C0000) (r : Nat) (s : State) :
    (regionDone r s).seen hid = s.seen hid := by
  refine seen_mono hw ?_
  unfold regionDone
  simp

@[simp] theorem regionZeroed_keeps {hid : Nat}
    (hw : 0x80000080000000000000000000000000000007C0000 &&& hid = 0x80000080000000000000000000000000000007C0000) (r : Nat) (s : State) :
    (regionZeroed r s).seen hid = s.seen hid := by
  refine seen_mono hw ?_
  unfold regionZeroed
  simp

@[simp] theorem readDecode_keeps {hid : Nat}
    (hw : 0x6B0A031B200010000001C000206002000000001C0000 &&& hid = 0x6B0A031B200010000001C000206002000000001C0000) (x : Sc) (rx : Capture) (s : State) :
    (readDecode x rx s).seen hid = s.seen hid := by
  refine seen_mono hw ?_
  unfold readDecode
  split
  · rfl
  · rename_i h
    rw [← takeTag_keeps (hid := 0x6B0A031B200010000001C000206002000000001C0000) (by decide) h]
    (repeat' (first | split | dsimp only)) <;> simp

@[simp] theorem powerDownEntry_keeps {hid : Nat}
    (hw : 0x2800B0200008000000000000000000000CFC00000000 &&& hid = 0x2800B0200008000000000000000000000CFC00000000) (x : Sc) (s : State) :
    (powerDownEntry x s).seen hid = s.seen hid := by
  refine seen_mono hw ?_
  unfold powerDownEntry
  simp

@[simp] theorem selfRefreshEntry_keeps {hid : Nat}
    (hw : 0x2800B0200008000000000000000000000CFC00008000 &&& hid = 0x2800B0200008000000000000000000000CFC00008000) (x : Sc) (s : State) :
    (selfRefreshEntry x s).seen hid = s.seen hid := by
  refine seen_mono hw ?_
  unfold selfRefreshEntry
  simp

@[simp] theorem selfRefreshWake_keeps {hid : Nat}
    (hw : 0x2800B0000018000000000000000000000CFC80008000 &&& hid = 0x2800B0000018000000000000000000000CFC80008000) (x : Sc) (s : State) :
    (selfRefreshWake x s).seen hid = s.seen hid := by
  refine seen_mono hw ?_
  unfold selfRefreshWake
  simp

@[simp] theorem dormantEntry_keeps {hid : Nat}
    (hw : 0x28080000000000000000000000100000000401 &&& hid = 0x28080000000000000000000000100000000401) (s : State) :
    (dormantEntry s).seen hid = s.seen hid := by
  refine seen_mono hw ?_
  unfold dormantEntry
  simp

@[simp] theorem startWake_keeps {hid : Nat}
    (hw : 0x2000000000000000000000000000001000 &&& hid = 0x2000000000000000000000000000001000) (s : State) :
    (startWake s).seen hid = s.seen hid := by
  refine seen_mono hw ?_
  unfold startWake
  simp

@[simp] theorem dormantTimer_keeps {hid : Nat}
    (hw : 0x2000000000000000000000000000001000 &&& hid = 0x2000000000000000000000000000001000) (s : State) :
    (dormantTimer s).seen hid = s.seen hid := by
  refine seen_mono hw ?_
  unfold dormantTimer
  simp

end Sys2Proof.Machine
end

