-- ==== Sys2Proof/Laws/FramePort.lean ====
section
/-! SUPPORT. The parts of State that the operations of RegPort, Wake, BindOff, Boot, Popul, Thermal, Train, Clock, Views, Flags keep. -/

namespace Sys2Proof.Machine

@[simp] theorem qptStatus_keeps {hid : Nat}
    (hw : 0x800000000000000000000000000000000000000 &&& hid = 0x800000000000000000000000000000000000000) (code : Nat) (label : Nat) (s : State) :
    (qptStatus code label s).seen hid = s.seen hid := by
  refine seen_mono hw ?_
  unfold qptStatus
  simp

@[simp] theorem qptData_keeps {hid : Nat}
    (hw : 0x400000000000000000000000000002000000000000 &&& hid = 0x400000000000000000000000000002000000000000) (w : Option Word) (s : State) : (qptData w s).2.seen hid = s.seen hid := by
  refine seen_mono hw ?_
  unfold qptData
  (repeat' (first | split | dsimp only)) <;> simp

@[simp] theorem stateData_keeps {hid : Nat}
    (hw : 0x400000000020000000000000000000000000000000 &&& hid = 0x400000000020000000000000000000000000000000) (w : Option Word) (s : State) : (stateData w s).2.seen hid = s.seen hid := by
  refine seen_mono hw ?_
  unfold stateData
  (repeat' (first | split | dsimp only)) <;> simp

@[simp] theorem descData_keeps {hid : Nat}
    (hw : 0x200000000010000000000000000000000000000000 &&& hid = 0x200000000010000000000000000000000000000000) (i : InstId) (w : Option Word) (s : State) : (descData i w s).2.seen hid = s.seen hid := by
  refine seen_mono hw ?_
  unfold descData
  (repeat' (first | split | dsimp only)) <;> simp

@[simp] theorem cplData_keeps {hid : Nat}
    (hw : 0x280000000010000000000000000000000000000000 &&& hid = 0x280000000010000000000000000000000000000000) (i : InstId) (s : State) : (cplData i s).2.seen hid = s.seen hid := by
  refine seen_mono hw ?_
  unfold cplData
  (repeat' (first | split | dsimp only)) <;> simp

@[simp] theorem rplData_keeps {hid : Nat}
    (hw : 0x400000000000000000000000000000000000000000 &&& hid = 0x400000000000000000000000000000000000000000) (s : State) : (rplData s).2.seen hid = s.seen hid := by
  refine seen_mono hw ?_
  unfold rplData
  (repeat' (first | split | dsimp only)) <;> simp

@[simp] theorem actQpt_keeps {hid : Nat}
    (hw : 0x800000000000000000000000004000000000000 &&& hid = 0x800000000000000000000000004000000000000) (v : Word) (s : State) :
    (actQpt v s).seen hid = s.seen hid := by
  refine seen_mono hw ?_
  unfold actQpt
  simp

@[simp] theorem actMapProbe_keeps {hid : Nat}
    (hw : 0x10000000000000000000000000000000000000000 &&& hid = 0x10000000000000000000000000000000000000000) (s : State) :
    (actMapProbe s).seen hid = s.seen hid := by
  refine seen_mono hw ?_
  unfold actMapProbe
  simp

@[simp] theorem portStore_keeps {hid : Nat}
    (hw : 0x600000000030000000000000000002000000000000 &&& hid = 0x600000000030000000000000000002000000000000) (off : Nat) (w : Word) (s : State) :
    (portStore off w s).seen hid = s.seen hid := by
  refine seen_mono hw ?_
  unfold portStore
  simp

@[simp] theorem woStore_keeps {hid : Nat}
    (hw : 0x40280011600010000000000020000000000000000000 &&& hid = 0x40280011600010000000000020000000000000000000) (off : Nat) (w : Word) (s : State) :
    (woStore off w s).seen hid = s.seen hid := by
  refine seen_mono hw ?_
  unfold woStore
  simp

@[simp] theorem afterStore_keeps {hid : Nat}
    (hw : 0xA4D020000020000000000000000D250100000000000 &&& hid = 0xA4D020000020000000000000000D250100000000000) (off : Nat) (s : State) :
    (afterStore off s).seen hid = s.seen hid := by
  refine seen_mono hw ?_
  unfold afterStore
  simp

@[simp] theorem rwStore_keeps {hid : Nat}
    (hw : 0xA7FFFF800020000000000000000D250100000000000 &&& hid = 0xA7FFFF800020000000000000000D250100000000000) (r : RegRow) (off al : Nat) (w : Word) (s : State) :
    (rwStore r off al w s).seen hid = s.seen hid := by
  refine seen_mono hw ?_
  unfold rwStore
  have h : ∀ off, 0xA7FFFF800020000000000000000D250100000000000 / 2 ^ (147 + regGroup off) % 2 = 1 := regs_all_hidden (by decide)
  split
  · rfl
  · dsimp only
    rw [afterStore_keeps (by decide), regSet_keeps _ _ _ (h _)]

@[simp] theorem protectFault_keeps {hid : Nat}
    (hw : 0x40000011200000000000000000000000000000000000 &&& hid = 0x40000011200000000000000000000000000000000000) (reason : Nat) (off : Nat) (v : Word) (s : State) :
    (protectFault reason off v s).seen hid = s.seen hid := by
  refine seen_mono hw ?_
  unfold protectFault
  simp

@[simp] theorem discardPp_keeps {hid : Nat}
    (hw : 0x40800011200000000000000000000000000000000000 &&& hid = 0x40800011200000000000000000000000000000000000) (reason : Nat) (p : PpPend) (v : Word) (s : State) :
    (discardPp reason p v s).seen hid = s.seen hid := by
  refine seen_mono hw ?_
  unfold discardPp
  simp

@[simp] theorem ppExpire_keeps {hid : Nat}
    (hw : 0x40800011200000000000000000000000000000000000 &&& hid = 0x40800011200000000000000000000000000000000000) (s : State) :
    (ppExpire s).seen hid = s.seen hid := by
  refine seen_mono hw ?_
  unfold ppExpire
  (repeat' split) <;> simp

@[simp] theorem ppStore_keeps {hid : Nat}
    (hw : 0x40800011200000000000000000000000000000000000 &&& hid = 0x40800011200000000000000000000000000000000000) (off : Nat) (v : Word) (s : State) :
    (ppStore off v s).seen hid = s.seen hid := by
  refine seen_mono hw ?_
  unfold ppStore
  simp
  (repeat' split) <;> (first | (simp; done) | (simp_all; done))

@[simp] theorem ppAction_keeps {hid : Nat}
    (hw : 0x6B7E0B592001F7DA02D9D43F26A8C0040000001C0000 &&& hid = 0x6B7E0B592001F7DA02D9D43F26A8C0040000001C0000) (off : Nat) (old : Word) (v : Word) (s : State) :
    (ppAction off old v s).seen hid = s.seen hid := by
  refine seen_mono hw ?_
  unfold ppAction
  simp

@[simp] theorem ppCommit_keeps {hid : Nat}
    (hw : 0x6B7FFFF92001F7DA02D9D43F26A8C2040000001C0000 &&& hid = 0x6B7FFFF92001F7DA02D9D43F26A8C2040000001C0000) (off : Nat) (v : Word) (s : State) :
    (ppCommit off v s).seen hid = s.seen hid := by
  refine seen_mono hw ?_
  unfold ppCommit
  have h : ∀ off, 0x6B7FFFF92001F7DA02D9D43F26A8C2040000001C0000 / 2 ^ (147 + regGroup off) % 2 = 1 := regs_all_hidden (by decide)
  dsimp only
  split
  · exact regSet_keeps _ _ _ (h _)
  · split
    · rfl
    · split
      · exact actSwatchReq_keeps (by decide) _ _
      · rw [ppAction_keeps (by decide), regSet_keeps _ _ _ (h _)]

@[simp] theorem ppAnswer_keeps {hid : Nat}
    (hw : 0x6BFFFFF92001F7DA02D9D43F26A8C2040000001C0000 &&& hid = 0x6BFFFFF92001F7DA02D9D43F26A8C2040000001C0000) (off : Nat) (v : Word) (s : State) :
    (ppAnswer off v s).seen hid = s.seen hid := by
  refine seen_mono hw ?_
  unfold ppAnswer
  simp
  (repeat' split) <;> (first | (simp; done) | (simp_all; done))

@[simp] theorem regWrite_keeps {hid : Nat}
    (hw : 0x6BFFFFF96003F7DA02D9D43F26A8D2561000001C0000 &&& hid = 0x6BFFFFF96003F7DA02D9D43F26A8D2561000001C0000) (off al : Nat) (w : Word) (s : State) :
    (regWrite off al w s).seen hid = s.seen hid := by
  refine seen_mono hw ?_
  unfold regWrite
  have h : ∀ off, 0x6BFFFFF96003F7DA02D9D43F26A8D2561000001C0000 / 2 ^ (147 + regGroup off) % 2 = 1 := regs_all_hidden (by decide)
  (repeat' split) <;> simp [h]

@[simp] theorem writeNow_keeps {hid : Nat}
    (hw : 0x6BFFFFF96003F7DA02D9D43F26A8D2561000001C0000 &&& hid = 0x6BFFFFF96003F7DA02D9D43F26A8D2561000001C0000) (a : RegAcc) (s : State) :
    (writeNow a s).seen hid = s.seen hid := by
  refine seen_mono hw ?_
  unfold writeNow
  simp

@[simp] theorem portWrite_keeps {hid : Nat}
    (hw : 0x6BFFFFF96063F7DA02D9D43F26A8D2561000001C1000 &&& hid = 0x6BFFFFF96063F7DA02D9D43F26A8D2561000001C1000) (a : RegAcc) (s : State) :
    (portWrite a s).seen hid = s.seen hid := by
  refine seen_mono hw ?_
  unfold portWrite
  simp

@[simp] theorem portRead_keeps {hid : Nat}
    (hw : 0x20000000000000000000000000000000000000000000 &&& hid = 0x20000000000000000000000000000000000000000000) (allowed : Bool) (f : State → Word × State)
    (s : State) (h : ∀ s, (f s).2.seen hid = s.seen hid) : (portRead allowed f s).seen hid = s.seen hid := by
  unfold portRead
  split
  · rfl
  · split
    · exact emit_keeps hw _ _
    · refine imagePort_keeps (sub_trans (by decide) hw) _ _ ?_
      rw [respOk_keeps (sub_trans (by decide) hw), h]

@[simp] theorem ppWindowExpiry_keeps {hid : Nat}
    (hw : 0x40800011200000000000000000000000000000000000 &&& hid = 0x40800011200000000000000000000000000000000000) (s : State) :
    (ppWindowExpiry s).seen hid = s.seen hid := by
  refine seen_mono hw ?_
  unfold ppWindowExpiry
  (repeat' split) <;> simp

@[simp] theorem confirmRow_keeps {hid : Nat}
    (hw : 0x6BFFFFF96063F7DA02D9D43F26A8D2561000001C1000 &&& hid = 0x6BFFFFF96063F7DA02D9D43F26A8D2561000001C1000) (off : Nat) (own : Word → Bool) (priv : Bool) (data : Word) (s : State) :
    (confirmRow off own priv data s).seen hid = s.seen hid := by
  refine seen_mono hw ?_
  unfold confirmRow
  split
  · rfl
  · exact portWrite_keeps (by decide) _ s

@[simp] theorem ppConfirm_keeps {hid : Nat}
    (hw : 0x6BFFFFF96063F7DA02D9D43F26A8D2561000001C1000 &&& hid = 0x6BFFFFF96063F7DA02D9D43F26A8D2561000001C1000) (a : RegAcc) (s : State) :
    (ppConfirm a s).seen hid = s.seen hid := by
  refine seen_mono hw ?_
  unfold ppConfirm
  simp

@[simp] theorem dormantWake_keeps {hid : Nat}
    (hw : 0x6BFFFFF96063F7DA02D9D43F26A8D2561000001C1000 &&& hid = 0x6BFFFFF96063F7DA02D9D43F26A8D2561000001C1000) (w : WakeSrc) (s : State) :
    (dormantWake w s).seen hid = s.seen hid := by
  refine seen_mono hw ?_
  unfold dormantWake
  (repeat' split) <;> simp

@[simp] theorem playDeferred_keeps {hid : Nat}
    (hw : 0x6BFFFFF96043F7DA02D9D43F26A8D2561000001C0000 &&& hid = 0x6BFFFFF96043F7DA02D9D43F26A8D2561000001C0000) (s : State) :
    (playDeferred s).seen hid = s.seen hid := by
  refine seen_mono hw ?_
  unfold playDeferred
  dsimp only
  rw [forAll_keeps _ _ _ fun a s => writeNow_keeps (by decide) a s]
  simp

@[simp] theorem wakeZq_keeps {hid : Nat}
    (hw : 0x280090000000000000000000000000000CFC00000000 &&& hid = 0x280090000000000000000000000000000CFC00000000) (s : State) :
    (wakeZq s).seen hid = s.seen hid := by
  refine seen_mono hw ?_
  unfold wakeZq
  exact onlyIf_keeps _ _ _ (forAll_keeps _ _ _ fun x s => by simp)

@[simp] theorem wakeComplete_keeps {hid : Nat}
    (hw : 0x6BFFFFF9607BF7DA02D9D43F26A8D2561CFCF01C9401 &&& hid = 0x6BFFFFF9607BF7DA02D9D43F26A8D2561CFCF01C9401) (s : State) :
    (wakeComplete s).seen hid = s.seen hid := by
  refine seen_mono hw ?_
  unfold wakeComplete
  simp

@[simp] theorem boDirty_keeps {hid : Nat}
    (hw : 0x2B000308000000000001C000200000000000001C0000 &&& hid = 0x2B000308000000000001C000200000000000001C0000) (s : State) :
    (boDirty s).seen hid = s.seen hid := by
  refine seen_mono hw ?_
  unfold boDirty
  simp

@[simp] theorem boRefresh_keeps {hid : Nat} (hw : 0xB8080000000 &&& hid = 0xB8080000000) (s : State) :
    (boRefresh s).seen hid = s.seen hid := by
  refine seen_mono hw ?_
  unfold boRefresh
  simp

@[simp] theorem boMaint_keeps {hid : Nat}
    (hw : 0x8000000000000000000000008000000000000000000 &&& hid = 0x8000000000000000000000008000000000000000000) (s : State) :
    (boMaint s).seen hid = s.seen hid := by
  refine seen_mono hw ?_
  unfold boMaint
  simp

@[simp] theorem boRas_keeps {hid : Nat}
    (hw : 0x58020011300800000000800002C00000000080008000 &&& hid = 0x58020011300800000000800002C00000000080008000) (s : State) :
    (boRas s).seen hid = s.seen hid := by
  refine seen_mono hw ?_
  unfold boRas
  try simp
  (repeat' (first | split | (refine (forAll_keeps _ _ _ (fun a s => ?_)).trans ?_) | dsimp only)) <;> (first | rfl | (simp; done) | (simp_all; done))

@[simp] theorem boWake_keeps {hid : Nat}
    (hw : 0x2800B0001018000000000000000000000CFC80008000 &&& hid = 0x2800B0001018000000000000000000000CFC80008000) (s : State) :
    (boWake s).seen hid = s.seen hid := by
  refine seen_mono hw ?_
  unfold boWake
  simp

@[simp] theorem pfNFall_keeps {hid : Nat}
    (hw : 0x7B06B359307910500001C0002AC1C2501FFCF01C8081 &&& hid = 0x7B06B359307910500001C0002AC1C2501FFCF01C8081) (s : State) :
    (pfNFall s).seen hid = s.seen hid := by
  refine seen_mono hw ?_
  unfold pfNFall
  simp
  (repeat' split) <;> (first | (simp; done) | (simp_all; done))

@[simp] theorem schedulerIssue_keeps {hid : Nat}
    (hw : 0x7B04B21F30080000008180002202CE005FFC801C8000 &&& hid = 0x7B04B21F30080000008180002202CE005FFC801C8000) (x : Sc) (s : State) :
    (schedulerIssue x s).seen hid = s.seen hid := by
  refine seen_mono hw ?_
  unfold schedulerIssue
  simp

@[simp] theorem boLatch_keeps {hid : Nat} (hw : 0x8000 &&& hid = 0x8000) (s : State) :
    (boLatch s).seen hid = s.seen hid := by
  refine seen_mono hw ?_
  unfold boLatch
  simp

@[simp] theorem boRecord_keeps {hid : Nat}
    (hw : 0x40000011200000000000000000000000000000000000 &&& hid = 0x40000011200000000000000000000000000000000000) (b : BindOff) (s : State) :
    (boRecord b s).seen hid = s.seen hid := by
  refine seen_mono hw ?_
  unfold boRecord
  simp

@[simp] theorem bindOffComplete_keeps {hid : Nat}
    (hw : 0x40000019200000000000000000000000100000008401 &&& hid = 0x40000019200000000000000000000000100000008401) (s : State) :
    (bindOffComplete s).seen hid = s.seen hid := by
  refine seen_mono hw ?_
  unfold bindOffComplete
  (repeat' split) <;> simp

@[simp] theorem vddqInvalid_keeps {hid : Nat} (hw : 0x8800 &&& hid = 0x8800) (s : State) :
    (vddqInvalid s).seen hid = s.seen hid := by
  refine seen_mono hw ?_
  unfold vddqInvalid
  simp

@[simp] theorem aonRstRelease_keeps {hid : Nat}
    (hw : 0xA04020800000000000000000000C0501000000088F5 &&& hid = 0xA04020800000000000000000000C0501000000088F5) (id : BitVec 10) (en : BitVec 2) (base : BitVec 6) (pfN : Bool) (s : State) :
    (aonRstRelease id en base pfN s).seen hid = s.seen hid := by
  refine seen_mono hw ?_
  unfold aonRstRelease
  simp

@[simp] theorem aonStartDone_keeps {hid : Nat}
    (hw : 0x180000000000000000000000000084 &&& hid = 0x180000000000000000000000000084) (s : State) :
    (aonStartDone s).seen hid = s.seen hid := by
  refine seen_mono hw ?_
  unfold aonStartDone
  simp

@[simp] theorem fetchFail_keeps {hid : Nat}
    (hw : 0x40000059200004500200000020000000100000008003 &&& hid = 0x40000059200004500200000020000000100000008003) (f : Fetch) (cause : Byte) (reason : Nat) (s : State) :
    (fetchFail f cause reason s).seen hid = s.seen hid := by
  refine seen_mono hw ?_
  unfold fetchFail
  simp

@[simp] theorem headerSeen_keeps {hid : Nat}
    (hw : 0x40000059200004500200000020000000100000008003 &&& hid = 0x40000059200004500200000020000000100000008003) (f : Fetch) (s : State) :
    (headerSeen f s).seen hid = s.seen hid := by
  refine seen_mono hw ?_
  unfold headerSeen
  simp

@[simp] theorem wordTaken_keeps {hid : Nat} (hw : 0x2000 &&& hid = 0x2000) (s : State) :
    (wordTaken s).seen hid = s.seen hid := by
  refine seen_mono hw ?_
  unfold wordTaken
  simp

@[simp] theorem imgWordAck_keeps {hid : Nat}
    (hw : 0x4000005920000458020000002000000010000000A007 &&& hid = 0x4000005920000458020000002000000010000000A007) (data : Word) (err : Bool) (s : State) :
    (imgWordAck data err s).seen hid = s.seen hid := by
  refine seen_mono hw ?_
  unfold imgWordAck
  (repeat' split) <;> simp

@[simp] theorem imgWordTimeout_keeps {hid : Nat}
    (hw : 0x4000005F200004500200000020000000100000008003 &&& hid = 0x4000005F200004500200000020000000100000008003) (s : State) :
    (imgWordTimeout s).seen hid = s.seen hid := by
  refine seen_mono hw ?_
  unfold imgWordTimeout
  (repeat' split) <;> simp

@[simp] theorem imgVerifyDone_keeps {hid : Nat}
    (hw : 0x4800000000000000000000000010000000C007 &&& hid = 0x4800000000000000000000000010000000C007) (s : State) :
    (imgVerifyDone s).seen hid = s.seen hid := by
  refine seen_mono hw ?_
  unfold imgVerifyDone
  simp

@[simp] theorem fuseWordAck_keeps {hid : Nat}
    (hw : 0x800000000000000000000000010000000F007 &&& hid = 0x800000000000000000000000010000000F007) (data : Word) (s : State) :
    (fuseWordAck data s).seen hid = s.seen hid := by
  refine seen_mono hw ?_
  unfold fuseWordAck
  simp

@[simp] theorem fuseWordTimeout_keeps {hid : Nat}
    (hw : 0x4000001F200000000000000000000000100000008003 &&& hid = 0x4000001F200000000000000000000000100000008003) (s : State) :
    (fuseWordTimeout s).seen hid = s.seen hid := by
  refine seen_mono hw ?_
  unfold fuseWordTimeout
  simp

@[simp] theorem enterSequence_keeps {hid : Nat} (hw : 0x8000 &&& hid = 0x8000) (m : Image) (s : State) :
    (enterSequence m s).seen hid = s.seen hid := by
  refine seen_mono hw ?_
  unfold enterSequence
  simp

@[simp] theorem pllLock_keeps {hid : Nat}
    (hw : 0x4A7FFFF920020C7C020000002000C05C10000034940C &&& hid = 0x4A7FFFF920020C7C020000002000C05C10000034940C) (s : State) :
    (pllLock s).seen hid = s.seen hid := by
  refine seen_mono hw ?_
  unfold pllLock
  simp

@[simp] theorem pllLockTimeout_keeps {hid : Nat}
    (hw : 0x6A04021F20600000000000000000C050100000009003 &&& hid = 0x6A04021F20600000000000000000C050100000009003) (s : State) :
    (pllLockTimeout s).seen hid = s.seen hid := by
  refine seen_mono hw ?_
  unfold pllLockTimeout
  simp

@[simp] theorem i3cRead_keeps {hid : Nat}
    (hw : 0x20000000000000000000000000000000000000000000 &&& hid = 0x20000000000000000000000000000000000000000000) (c : Ch) (k : Fin 2) (l : List I3cDev) (s : State) :
    (i3cRead c k l s).seen hid = s.seen hid := by
  refine seen_mono hw ?_
  unfold i3cRead
  exact onlyIf_keeps _ _ _ (forAll_keeps _ _ _ fun d s => emit_keeps (by decide) _ s)

@[simp] theorem i3cStart_keeps {hid : Nat}
    (hw : 0x20000000000000000000000000000000000000010000 &&& hid = 0x20000000000000000000000000000000000000010000) (s : State) :
    (i3cStart s).seen hid = s.seen hid := by
  refine seen_mono hw ?_
  unfold i3cStart
  try simp
  (repeat' (first | split | (refine (forAll_keeps _ _ _ (fun a s => ?_)).trans ?_) | dsimp only)) <;> (first | rfl | (simp; done) | (simp_all; done))

@[simp] theorem sidebandStart_keeps {hid : Nat}
    (hw : 0x20000000018000000000000000000000000000010004 &&& hid = 0x20000000018000000000000000000000000000010004) (s : State) :
    (sidebandStart s).seen hid = s.seen hid := by
  refine seen_mono hw ?_
  unfold sidebandStart
  simp

@[simp] theorem phyZqDone_keeps {hid : Nat}
    (hw : 0x20000008018000000000000000000000100000018007 &&& hid = 0x20000008018000000000000000000000100000018007) (atEnd : Bool) (s : State) :
    (phyZqDone atEnd s).seen hid = s.seen hid := by
  refine seen_mono hw ?_
  unfold phyZqDone
  simp

@[simp] theorem phyZqTimeout_keeps {hid : Nat}
    (hw : 0x4000001F200000000000000000000000100000008003 &&& hid = 0x4000001F200000000000000000000000100000008003) (s : State) :
    (phyZqTimeout s).seen hid = s.seen hid := by
  refine seen_mono hw ?_
  unfold phyZqTimeout
  simp

@[simp] theorem updSlot_keeps {hid : Nat} (hw : 0x10000 &&& hid = 0x10000) (c : Ch) (k : Fin 2) (f : Slot → Slot)
    (s : State) :
    (updSlot c k f s).seen hid = s.seen hid := by
  refine seen_mono hw ?_
  unfold updSlot
  first
    | (simp; done)
    | (((repeat' split) <;> (first | (simp; done) | (simp_all; done))); done)
    | (simp; (repeat' split) <;> (first | (simp; done) | (simp_all; done)))
    | (simp [State.seen, Glb.seen, Qz.seen, Ref.seen, Qos.seen, Phy.seen, Ras.seen, Egp.seen, Mir.seen, Dom.seen, Img.seen, Glg.seen, Pwr.seen, Evt.seen]; done)

@[simp] theorem i3cDone_keeps {hid : Nat} (hw : 0x10000 &&& hid = 0x10000) (c : Ch) (k : Fin 2) (r : I3cResult)
    (s : State) :
    (i3cDone c k r s).seen hid = s.seen hid := by
  refine seen_mono hw ?_
  unfold i3cDone
  (repeat' split) <;> simp

@[simp] theorem i3cTimeout_keeps {hid : Nat}
    (hw : 0x60000017200000000000000000000000000000010000 &&& hid = 0x60000017200000000000000000000000000000010000) (c : Ch) (k : Fin 2) (d : I3cDev) (s : State) :
    (i3cTimeout c k d s).seen hid = s.seen hid := by
  refine seen_mono hw ?_
  unfold i3cTimeout
  simp

@[simp] theorem exclude_keeps {hid : Nat}
    (hw : 0x8000000000000000000000000000000348000 &&& hid = 0x8000000000000000000000000000000348000) (c : Ch) (s : State) :
    (exclude c s).seen hid = s.seen hid := by
  refine seen_mono hw ?_
  unfold exclude
  simp

@[simp] theorem orHalt_keeps {hid : Nat}
    (hw : 0x8000000000000000000000000100000008003 &&& hid = 0x8000000000000000000000000100000008003) (s : State) :
    (orHalt s).seen hid = s.seen hid := by
  refine seen_mono hw ?_
  unfold orHalt
  simp

@[simp] theorem resetCounter_keeps {hid : Nat}
    (hw : 0x80000000000000000000000000000000FEC80000000 &&& hid = 0x80000000000000000000000000000000FEC80000000) (s : State) :
    (resetCounter s).seen hid = s.seen hid := by
  refine seen_mono hw ?_
  unfold resetCounter
  simp

@[simp] theorem loadedRecord_keeps {hid : Nat}
    (hw : 0x40000011200000000000000000000000000000000000 &&& hid = 0x40000011200000000000000000000000000000000000) (e : Word × Word) (s : State) :
    (loadedRecord e s).seen hid = s.seen hid := by
  refine seen_mono hw ?_
  unfold loadedRecord
  simp

@[simp] theorem takeSparing_keeps {hid : Nat}
    (hw : 0x40000011200000000000000002000000000000000000 &&& hid = 0x40000011200000000000000002000000000000000000) (c : Ch) (s : State) :
    (takeSparing c s).seen hid = s.seen hid := by
  refine seen_mono hw ?_
  unfold takeSparing
  simp
  (repeat' split) <;> (first | (simp; done) | (simp_all; done))

@[simp] theorem takeMarks_keeps {hid : Nat}
    (hw : 0x40000011200000000000000000080000000000000000 &&& hid = 0x40000011200000000000000000080000000000000000) (c : Ch) (s : State) :
    (takeMarks c s).seen hid = s.seen hid := by
  refine seen_mono hw ?_
  unfold takeMarks
  simp

@[simp] theorem mergeEntries_keeps {hid : Nat} (hw : 0x1000000000000000000 &&& hid = 0x1000000000000000000)
    (l : List (Word × Word)) (s : State) :
    (mergeEntries l s).seen hid = s.seen hid := by
  refine seen_mono hw ?_
  unfold mergeEntries
  simp

@[simp] theorem coldStart_keeps {hid : Nat}
    (hw : 0x400000112000000000004000030000000000000C0000 &&& hid = 0x400000112000000000004000030000000000000C0000) (c : Ch) (s : State) :
    (coldStart c s).seen hid = s.seen hid := by
  refine seen_mono hw ?_
  unfold coldStart
  simp

@[simp] theorem choosePath_keeps {hid : Nat}
    (hw : 0x400000112000000000004000030000000000000C8000 &&& hid = 0x400000112000000000004000030000000000000C8000) (c : Ch) (s : State) :
    (choosePath c s).seen hid = s.seen hid := by
  refine seen_mono hw ?_
  unfold choosePath
  simp

@[simp] theorem dimmInitStart_keeps {hid : Nat}
    (hw : 0x484000192000000000004000030000000FEC803C8004 &&& hid = 0x484000192000000000004000030000000FEC803C8004) (s : State) :
    (dimmInitStart s).seen hid = s.seen hid := by
  refine seen_mono hw ?_
  unfold dimmInitStart
  simp

@[simp] theorem noteEmpty_keeps {hid : Nat} (hw : 0x8000 &&& hid = 0x8000) (c : Ch) (s : State) :
    (noteEmpty c s).seen hid = s.seen hid := by
  refine seen_mono hw ?_
  unfold noteEmpty
  simp

@[simp] theorem sidebandDone_keeps {hid : Nat}
    (hw : 0x484000192000000000004000030000001FEC803C8007 &&& hid = 0x484000192000000000004000030000001FEC803C8007) (s : State) :
    (sidebandDone s).seen hid = s.seen hid := by
  refine seen_mono hw ?_
  unfold sidebandDone
  simp

@[simp] theorem dropInit_keeps {hid : Nat}
    (hw : 0x8000000000000000000000000000000348000 &&& hid = 0x8000000000000000000000000000000348000) (c : Ch) (s : State) :
    (dropInit c s).seen hid = s.seen hid := by
  refine seen_mono hw ?_
  unfold dropInit
  simp

@[simp] theorem chipCmd_keeps {hid : Nat}
    (hw : 0x280090000000000000000000000000000CFC00000000 &&& hid = 0x280090000000000000000000000000000CFC00000000) (x : Sc) (n : Nat) (k : CmdKind) (arg : CmdArg) (s : State) :
    (chipCmd x n k arg s).seen hid = s.seen hid := by
  refine seen_mono hw ?_
  unfold chipCmd
  simp

@[simp] theorem toChips_keeps {hid : Nat}
    (hw : 0x280090000000000000000000000000000CFC00000000 &&& hid = 0x280090000000000000000000000000000CFC00000000) (x : Sc) (k : CmdKind) (arg : CmdArg) (s : State) :
    (toChips x k arg s).seen hid = s.seen hid := by
  refine seen_mono hw ?_
  unfold toChips
  simp

@[simp] theorem initPut_keeps {hid : Nat}
    (hw : 0x280090000000000000000000000000000CFC00000000 &&& hid = 0x280090000000000000000000000000000CFC00000000) (c : Ch) (l : List (CmdKind × CmdArg)) (s : State) :
    (initPut c l s).seen hid = s.seen hid := by
  refine seen_mono hw ?_
  unfold initPut
  try simp
  (repeat' (first | split | (refine (forAll_keeps _ _ _ (fun a s => ?_)).trans ?_) | dsimp only)) <;> (first | rfl | (simp; done) | (simp_all; done))

@[simp] theorem initWake_keeps {hid : Nat}
    (hw : 0x280090000000000000000000000000000CFC00008000 &&& hid = 0x280090000000000000000000000000000CFC00008000) (c : Ch) (s : State) :
    (initWake c s).seen hid = s.seen hid := by
  refine seen_mono hw ?_
  unfold initWake
  simp

@[simp] theorem initAsleep_keeps {hid : Nat}
    (hw : 0x280090000000000000000000000000000CFC00000000 &&& hid = 0x280090000000000000000000000000000CFC00000000) (c : Ch) (s : State) :
    (initAsleep c s).seen hid = s.seen hid := by
  refine seen_mono hw ?_
  unfold initAsleep
  simp

@[simp] theorem restReplaced_keeps {hid : Nat}
    (hw : 0x280090000000000000000000000000000CFC00000000 &&& hid = 0x280090000000000000000000000000000CFC00000000) (c : Ch) (s : State) :
    (restReplaced c s).seen hid = s.seen hid := by
  refine seen_mono hw ?_
  unfold restReplaced
  exact onlyIf_keeps _ _ _ (forAll_keeps _ _ _ fun x s => by simp)

@[simp] theorem initCh_keeps {hid : Nat}
    (hw : 0x2800B0000008000000000000000000000CFC80008000 &&& hid = 0x2800B0000008000000000000000000000CFC80008000) (c : Ch) (differs : Bool) (s : State) :
    (initCh c differs s).seen hid = s.seen hid := by
  refine seen_mono hw ?_
  unfold initCh
  simp

@[simp] theorem noteHard_keeps {hid : Nat} (hw : 0x1000000000000000000 &&& hid = 0x1000000000000000000) (c : Ch)
    (done : List Bool) (s : State) :
    (noteHard c done s).seen hid = s.seen hid := by
  refine seen_mono hw ?_
  unfold noteHard
  simp

@[simp] theorem coldRecords_keeps {hid : Nat}
    (hw : 0x40020011200000000000000000000000000000000000 &&& hid = 0x40020011200000000000000000000000000000000000) (c : Ch) (done : List Bool) (s : State) :
    (coldRecords c done s).seen hid = s.seen hid := by
  refine seen_mono hw ?_
  unfold coldRecords
  simp

@[simp] theorem coldRepairs_keeps {hid : Nat}
    (hw : 0x280090000000000000000000000000000CFC00000000 &&& hid = 0x280090000000000000000000000000000CFC00000000) (c : Ch) (done : List Bool) (s : State) :
    (coldRepairs c done s).seen hid = s.seen hid := by
  refine seen_mono hw ?_
  unfold coldRepairs
  simp

@[simp] theorem initReport_keeps {hid : Nat}
    (hw : 0x6842B0112008000000000000010000000CFC80008000 &&& hid = 0x6842B0112008000000000000010000000CFC80008000) (c : Ch) (r : InitReport) (s : State) :
    (initReport c r s).seen hid = s.seen hid := by
  refine seen_mono hw ?_
  unfold initReport
  simp

@[simp] theorem deliverU_keeps {hid : Nat}
    (hw : 0x400000000000000000000000000000000000000 &&& hid = 0x400000000000000000000000000000000000000) (u : Nat) (s : State) :
    (deliverU u s).seen hid = s.seen hid := by
  refine seen_mono hw ?_
  unfold deliverU
  simp

@[simp] theorem criticalRecord_keeps {hid : Nat}
    (hw : 0x40000011200000000000000000000000000000000000 &&& hid = 0x40000011200000000000000000000000000000000000) (left : Bool) (r : Reading) (s : State) :
    (criticalRecord left r s).seen hid = s.seen hid := by
  refine seen_mono hw ?_
  unfold criticalRecord
  simp

@[simp] theorem becomeCritical_keeps {hid : Nat}
    (hw : 0x40000431220000000000000000000000000000000000 &&& hid = 0x40000431220000000000000000000000000000000000) (r : Reading) (s : State) :
    (becomeCritical r s).seen hid = s.seen hid := by
  refine seen_mono hw ?_
  unfold becomeCritical
  simp

@[simp] theorem mr4Reads_keeps {hid : Nat}
    (hw : 0x8000000000000000000000000000000000000000000 &&& hid = 0x8000000000000000000000000000000000000000000) (x : Sc) (s : State) :
    (mr4Reads x s).seen hid = s.seen hid := by
  refine seen_mono hw ?_
  unfold mr4Reads
  simp

@[simp] theorem mr4Poll_keeps {hid : Nat}
    (hw : 0x48000431221000000000000000000000000200000000 &&& hid = 0x48000431221000000000000000000000000200000000) (c : Ch) (r : Mr4Poll) (s : State) :
    (mr4Poll c r s).seen hid = s.seen hid := by
  refine seen_mono hw ?_
  unfold mr4Poll
  simp

@[simp] theorem pollSlot_keeps {hid : Nat}
    (hw : 0x40000033200000000000000000000000000000010000 &&& hid = 0x40000033200000000000000000000000000000010000) (c : Ch) (k : Fin 2) (s : State) :
    (pollSlot c k s).seen hid = s.seen hid := by
  refine seen_mono hw ?_
  unfold pollSlot
  simp

@[simp] theorem judgeCritical_keeps {hid : Nat}
    (hw : 0x40000431220000000000000000000000000000000000 &&& hid = 0x40000431220000000000000000000000000000000000) (r : Reading) (s : State) :
    (judgeCritical r s).seen hid = s.seen hid := by
  refine seen_mono hw ?_
  unfold judgeCritical
  simp

@[simp] theorem pollLaw_keeps {hid : Nat}
    (hw : 0x40000431278000000000000000000000000000000000 &&& hid = 0x40000431278000000000000000000000000000000000) (r : Reading) (s : State) :
    (pollLaw r s).seen hid = s.seen hid := by
  refine seen_mono hw ?_
  unfold pollLaw
  simp

@[simp] theorem readSlots_keeps {hid : Nat}
    (hw : 0x20000000000000000000000000000000000000000000 &&& hid = 0x20000000000000000000000000000000000000000000) (f : Slot → List I3cDev) (s : State) :
    (readSlots f s).seen hid = s.seen hid := by
  refine seen_mono hw ?_
  unfold readSlots
  exact forAll_keeps _ _ _ fun c s => forAll_keeps _ _ _ fun k s => i3cRead_keeps (by decide) _ _ _ s

@[simp] theorem thermalPoll_keeps {hid : Nat}
    (hw : 0xE0000433278000000000000000000000000000010000 &&& hid = 0xE0000433278000000000000000000000000000010000) (s : State) :
    (thermalPoll s).seen hid = s.seen hid := by
  refine seen_mono hw ?_
  unfold thermalPoll
  split
  · rfl
  · dsimp only
    generalize he : forAll ((fins 2).filter (busOwned s)) (fun c s => forAll (fins 2) (pollSlot c) s) s = t
    have h : t.seen 0xE0000433278000000000000000000000000000010000 = s.seen 0xE0000433278000000000000000000000000000010000 := by
      rw [← he]
      exact forAll_keeps _ _ _ fun c s => forAll_keeps _ _ _ fun k s => pollSlot_keeps (by decide) c k s
    rw [← h]
    split <;> simp

@[simp] theorem pmicPoll_keeps {hid : Nat}
    (hw : 0x20000000000000000000000000000000000000010000 &&& hid = 0x20000000000000000000000000000000000000010000) (s : State) :
    (pmicPoll s).seen hid = s.seen hid := by
  refine seen_mono hw ?_
  unfold pmicPoll
  simp

@[simp] theorem updTrain_keeps {hid : Nat} (hw : 0x20000 &&& hid = 0x20000) (x : Sc) (f : Train → Train) (s : State) :
    (updTrain x f s).seen hid = s.seen hid := by
  refine seen_mono hw ?_
  unfold updTrain
  first
    | (simp; done)
    | (((repeat' split) <;> (first | (simp; done) | (simp_all; done))); done)
    | (simp; (repeat' split) <;> (first | (simp; done) | (simp_all; done)))
    | (simp [State.seen, Glb.seen, Qz.seen, Ref.seen, Qos.seen, Phy.seen, Ras.seen, Egp.seen, Mir.seen, Dom.seen, Img.seen, Glg.seen, Pwr.seen, Evt.seen]; done)

@[simp] theorem setDevice_keeps {hid : Nat}
    (hw : 0x280090000000000000000000000000000CFC00000000 &&& hid = 0x280090000000000000000000000000000CFC00000000) (x : Sc) (n : Nat) (v : DevSet) (s : State) :
    (setDevice x n v s).seen hid = s.seen hid := by
  refine seen_mono hw ?_
  unfold setDevice
  simp

@[simp] theorem restoreDevs_keeps {hid : Nat}
    (hw : 0x280090000000000000000000000000000CFC00000000 &&& hid = 0x280090000000000000000000000000000CFC00000000) (x : Sc) (r : List Word) (s : State) :
    (restoreDevs x r s).seen hid = s.seen hid := by
  refine seen_mono hw ?_
  unfold restoreDevs
  try simp
  (repeat' (first | split | (refine (forAll_keeps _ _ _ (fun a s => ?_)).trans ?_) | dsimp only)) <;> (first | rfl | (simp; done) | (simp_all; done))

@[simp] theorem putDevs_keeps {hid : Nat} (hw : 0x20000 &&& hid = 0x20000) (x : Sc) (w : List Word) (s : State) :
    (putDevs x w s).seen hid = s.seen hid := by
  refine seen_mono hw ?_
  unfold putDevs
  simp

@[simp] theorem putDev_keeps {hid : Nat} (hw : 0x20000 &&& hid = 0x20000) (x : Sc) (n : Nat) (d : Nat) (hi : Nat)
    (lo : Nat) (v : Nat) (s : State) :
    (putDev x n d hi lo v s).seen hid = s.seen hid := by
  refine seen_mono hw ?_
  unfold putDev
  simp

@[simp] theorem underGrant_keeps {hid : Nat}
    (hw : 0x8002000000000000000000000000000000000000000 &&& hid = 0x8002000000000000000000000000000000000000000) (x : Sc) (f : State → State) (s : State)
    (h : ∀ s, (f s).seen hid = s.seen hid) : (underGrant x f s).seen hid = s.seen hid := by
  unfold underGrant
  rw [updSched_keeps (sub_trans (by decide) hw), h, grant_keeps (sub_trans (by decide) hw)]

@[simp] theorem trainWrite_keeps {hid : Nat}
    (hw : 0x280090000000000000000000000000000CFC00000000 &&& hid = 0x280090000000000000000000000000000CFC00000000) (x : Sc) (l : Lla) (d : Line) (s : State) :
    (trainWrite x l d s).seen hid = s.seen hid := by
  refine seen_mono hw ?_
  unfold trainWrite
  simp

@[simp] theorem trainLine_keeps {hid : Nat}
    (hw : 0x280090000000000000000000000000000CFC00000000 &&& hid = 0x280090000000000000000000000000000CFC00000000) (x : Sc) (n : Nat) (lr : Nat) (k : Nat) (s : State) :
    (trainLine x n lr k s).seen hid = s.seen hid := by
  refine seen_mono hw ?_
  unfold trainLine
  simp

@[simp] theorem centring_keeps {hid : Nat}
    (hw : 0x280090000000000000000000000000000CFC00000000 &&& hid = 0x280090000000000000000000000000000CFC00000000) (x : Sc) (n : Nat) (points : Nat) (s : State) :
    (centring x n points s).seen hid = s.seen hid := by
  refine seen_mono hw ?_
  unfold centring
  simp

@[simp] theorem llRestore_keeps {hid : Nat}
    (hw : 0x280090000000000000000000000002000CFC00020000 &&& hid = 0x280090000000000000000000000002000CFC00020000) (x : Sc) (r : List Word) (s : State) :
    (llRestore x r s).seen hid = s.seen hid := by
  refine seen_mono hw ?_
  unfold llRestore
  simp

@[simp] theorem gearStart_keeps {hid : Nat}
    (hw : 0x2800B0000000000000000000000002000CFC00020000 &&& hid = 0x2800B0000000000000000000000002000CFC00020000) (pos : Nat) (x : Sc) (s : State) :
    (gearStart pos x s).seen hid = s.seen hid := by
  refine seen_mono hw ?_
  unfold gearStart
  simp
  (repeat' split) <;> (first | (simp; done) | (simp_all; done))

@[simp] theorem toAwake_keeps {hid : Nat}
    (hw : 0x280090000000000000000000000000000CFC00000000 &&& hid = 0x280090000000000000000000000000000CFC00000000) (k : CmdKind) (arg : CmdArg) (s : State) :
    (toAwake k arg s).seen hid = s.seen hid := by
  refine seen_mono hw ?_
  unfold toAwake
  try simp
  (repeat' (first | split | (refine (forAll_keeps _ _ _ (fun a s => ?_)).trans ?_) | dsimp only)) <;> (first | rfl | (simp; done) | (simp_all; done))

@[simp] theorem gearMove_keeps {hid : Nat}
    (hw : 0x280090000000000000000000000000000CFC80000008 &&& hid = 0x280090000000000000000000000000000CFC80000008) (g : Gear) (s : State) :
    (gearMove g s).seen hid = s.seen hid := by
  refine seen_mono hw ?_
  unfold gearMove
  split
  · rfl
  · dsimp only
    rw [forAll_keeps _ _ _ fun x s => buildCalendar_keeps (by decide) x s, toAwake_keeps (by decide), toAwake_keeps (by decide),
      forAll_keeps _ _ _ fun x s => dckStart_keeps (by decide) x s, updGlb_keeps _ _ (by simp),
      forAll_keeps _ _ _ fun x s => dckStop_keeps (by decide) x s, toAwake_keeps (by decide)]
    exact forAll_keeps _ _ _ fun x s => forAll_keeps _ _ _ fun c s => force_keeps (by decide) _ _ _ _ s

@[simp] theorem gearTrain_keeps {hid : Nat}
    (hw : 0x2800B0000000000000000000000002000CFC80020008 &&& hid = 0x2800B0000000000000000000000002000CFC80020008) (pos : Nat) (s : State) :
    (gearTrain pos s).seen hid = s.seen hid := by
  refine seen_mono hw ?_
  unfold gearTrain
  (repeat' split) <;> simp

@[simp] theorem trainingStart_keeps {hid : Nat}
    (hw : 0x2800B0000000000000000000000002000CFC8002000C &&& hid = 0x2800B0000000000000000000000002000CFC8002000C) (s : State) :
    (trainingStart s).seen hid = s.seen hid := by
  refine seen_mono hw ?_
  unfold trainingStart
  simp

@[simp] theorem dimmInitDone_keeps {hid : Nat}
    (hw : 0x6842B0192008000000000000010002001CFC8036800F &&& hid = 0x6842B0192008000000000000010002001CFC8036800F) (c : Ch) (r : InitReport) (s : State) :
    (dimmInitDone c r s).seen hid = s.seen hid := by
  refine seen_mono hw ?_
  unfold dimmInitDone
  simp

@[simp] theorem dimmInitTimeout_keeps {hid : Nat}
    (hw : 0x6800B01F2000000000000000000002001CFC8036800F &&& hid = 0x6800B01F2000000000000000000002001CFC8036800F) (c : Ch) (s : State) :
    (dimmInitTimeout c s).seen hid = s.seen hid := by
  refine seen_mono hw ?_
  unfold dimmInitTimeout
  simp

@[simp] theorem eyesTake_keeps {hid : Nat} (hw : 0x200000000020000 &&& hid = 0x200000000020000) (x : Sc) (l : List
    (Nat × Int × Int)) (p : PhySc) (s : State) :
    (eyesTake x l p s).seen hid = s.seen hid := by
  refine seen_mono hw ?_
  unfold eyesTake
  simp

@[simp] theorem useCopy_keeps {hid : Nat}
    (hw : 0x280090000000000000000000000002000CFC00020000 &&& hid = 0x280090000000000000000000000002000CFC00020000) (x : Sc) (saved : List Capture) (s : State) :
    (useCopy x saved s).seen hid = s.seen hid := by
  refine seen_mono hw ?_
  unfold useCopy
  simp
  (repeat' split) <;> (first | (simp; done) | (simp_all; done))

@[simp] theorem writeCentreCmds_keeps {hid : Nat}
    (hw : 0x280090000000000000000000000000000CFC00000000 &&& hid = 0x280090000000000000000000000000000CFC00000000) (x : Sc) (n points vrefs : Nat) (s : State) :
    (writeCentreCmds x n points vrefs s).seen hid = s.seen hid := by
  refine seen_mono hw ?_
  unfold writeCentreCmds
  dsimp only
  rw [forAll_keeps _ _ _ fun v s => ?_, centring_keeps (by decide)]
  rw [trainLine_keeps (by decide), forAll_keeps _ _ _ fun d s => setDevice_keeps (by decide) _ _ _ s]

@[simp] theorem trainDfe_keeps {hid : Nat}
    (hw : 0x280090000000000000000000000000000CFC00020000 &&& hid = 0x280090000000000000000000000000000CFC00020000) (x : Sc) (k : Nat) (runs : List (List Capture)) (s : State) :
    (trainDfe x k runs s).seen hid = s.seen hid := by
  refine seen_mono hw ?_
  unfold trainDfe
  refine forAll_keeps _ _ _ fun tap s' => ?_
  dsimp only
  rw [forAll_keeps _ _ _ fun d s' => ?_, forAll_keeps _ _ _ fun v s' => ?_]
  · rw [centring_keeps (by decide), forAll_keeps _ _ _ fun d s' => setDevice_keeps (by decide) _ _ _ s']
  · rw [putDev_keeps (by decide), setDevice_keeps (by decide)]

@[simp] theorem gearKeep_keeps {hid : Nat} (hw : 0x2200000000000000 &&& hid = 0x2200000000000000) (x : Sc) (s : State) :
    (gearKeep x s).seen hid = s.seen hid := by
  refine seen_mono hw ?_
  unfold gearKeep
  simp

@[simp] theorem gearSave_keeps {hid : Nat}
    (hw : 0x2800B000000000000000000000000C000CFC00000000 &&& hid = 0x2800B000000000000000000000000C000CFC00000000) (c : Ch) (s : State) :
    (gearSave c s).seen hid = s.seen hid := by
  refine seen_mono hw ?_
  unfold gearSave
  split
  · dsimp only
    rw [underGrant_keeps (by decide) _ _ _ fun s => forAll_keeps _ _ _ fun e s => trainWrite_keeps (by decide) _ _ _ s, llWrite_keeps (by decide)]
  · rfl

@[simp] theorem carveFill_keeps {hid : Nat}
    (hw : 0x8000000000000000000000000000000000000000000 &&& hid = 0x8000000000000000000000000000000000000000000) (x : Sc) (q : Fin 7) (first : Lla) (n : Nat) (d : Line) (s : State) :
    (carveFill x q first n d s).seen hid = s.seen hid := by
  refine seen_mono hw ?_
  unfold carveFill
  simp

@[simp] theorem sysFill_keeps {hid : Nat}
    (hw : 0x8000000000000000000000000000000000000000000 &&& hid = 0x8000000000000000000000000000000000000000000) (c : Ch) (line : Nat) (n : Nat) (d : Line) (s : State) :
    (sysFill c line n d s).seen hid = s.seen hid := by
  refine seen_mono hw ?_
  unfold sysFill
  simp

@[simp] theorem mendCopy_keeps {hid : Nat}
    (hw : 0x8000000000000000000000000000000000000000000 &&& hid = 0x8000000000000000000000000000000000000000000) (c : Ch) (bitmap : List (Option Line)) (s : State) :
    (mendCopy c bitmap s).seen hid = s.seen hid := by
  refine seen_mono hw ?_
  unfold mendCopy
  simp

@[simp] theorem readsCounted_keeps {hid : Nat}
    (hw : 0x20000000000000000000000200000000000000000 &&& hid = 0x20000000000000000000000200000000000000000) (first : Lla) (rs : List Capture) (s : State) :
    (readsCounted first rs s).seen hid = s.seen hid := by
  refine seen_mono hw ?_
  unfold readsCounted
  simp

@[simp] theorem keepContents_keeps {hid : Nat}
    (hw : 0x880000080000000000204000000000000000003C8000 &&& hid = 0x880000080000000000204000000000000000003C8000) (c : Ch) (bitmap : List (Option Line)) (dirtyCopy : List (Option Line)) (s : State) :
    (keepContents c bitmap dirtyCopy s).seen hid = s.seen hid := by
  refine seen_mono hw ?_
  unfold keepContents
  simp

@[simp] theorem ledgerZero_keeps {hid : Nat}
    (hw : 0x8000000000000000000000000000000000000000000 &&& hid = 0x8000000000000000000000000000000000000000000) (c : Ch) (s : State) :
    (ledgerZero c s).seen hid = s.seen hid := by
  refine seen_mono hw ?_
  unfold ledgerZero
  try simp
  (repeat' (first | split | (refine (forAll_keeps _ _ _ (fun a s => ?_)).trans ?_) | dsimp only)) <;> (first | rfl | (simp; done) | (simp_all; done))

@[simp] theorem discardContents_keeps {hid : Nat}
    (hw : 0x80000080000000000004000000000000000003C0000 &&& hid = 0x80000080000000000004000000000000000003C0000) (c : Ch) (s : State) :
    (discardContents c s).seen hid = s.seen hid := by
  refine seen_mono hw ?_
  unfold discardContents
  simp

@[simp] theorem readRows_keeps {hid : Nat}
    (hw : 0x280090000000000000000000000000000CFC00000000 &&& hid = 0x280090000000000000000000000000000CFC00000000) (c : Ch) (first : Lla) (n : Nat) (s : State) :
    (readRows c first n s).seen hid = s.seen hid := by
  refine seen_mono hw ?_
  unfold readRows
  simp

@[simp] theorem readRpl_keeps {hid : Nat}
    (hw : 0x2800B0000000000000000000000000000CFC00000000 &&& hid = 0x2800B0000000000000000000000000000CFC00000000) (c : Ch) (s : State) :
    (readRpl c s).seen hid = s.seen hid := by
  refine seen_mono hw ?_
  unfold readRpl
  exact underGrant_keeps (by decide) _ _ _ fun s => forAll_keeps _ _ _ fun l s => readRows_keeps (by decide) _ _ _ s

@[simp] theorem readCopies_keeps {hid : Nat}
    (hw : 0x2800B0000000000000000000000000000CFC00000000 &&& hid = 0x2800B0000000000000000000000000000CFC00000000) (c : Ch) (s : State) :
    (readCopies c s).seen hid = s.seen hid := by
  refine seen_mono hw ?_
  unfold readCopies
  simp

@[simp] theorem takeRpl_keeps {hid : Nat}
    (hw : 0x680290112000000000000000032800000CFC00000000 &&& hid = 0x680290112000000000000000032800000CFC00000000) (c : Ch) (r : RetentionRead) (s : State) :
    (takeRpl c r s).seen hid = s.seen hid := by
  refine seen_mono hw ?_
  unfold takeRpl
  simp

@[simp] theorem takeContents_keeps {hid : Nat}
    (hw : 0x880200080000000000204000002000000000003C8000 &&& hid = 0x880200080000000000204000002000000000003C8000) (c : Ch) (r : RetentionRead) (s : State) :
    (takeContents c r s).seen hid = s.seen hid := by
  refine seen_mono hw ?_
  unfold takeContents
  simp

@[simp] theorem readBack_keeps {hid : Nat}
    (hw : 0xE802B0192000000000204000032800000CFC003C8000 &&& hid = 0xE802B0192000000000204000032800000CFC003C8000) (c : Ch) (ret : Option RetentionRead) (s : State) :
    (readBack c ret s).seen hid = s.seen hid := by
  refine seen_mono hw ?_
  unfold readBack
  (repeat' split) <;> simp

@[simp] theorem markGears_keeps {hid : Nat}
    (hw : 0x4008000000000000000000000000000000000000 &&& hid = 0x4008000000000000000000000000000000000000) (s : State) :
    (markGears s).seen hid = s.seen hid := by
  refine seen_mono hw ?_
  unfold markGears
  try simp
  (repeat' (first | split | (refine (forAll_keeps _ _ _ (fun a s => ?_)).trans ?_) | dsimp only)) <;> (first | rfl | (simp; done) | (simp_all; done))

@[simp] theorem markSpare_keeps {hid : Nat}
    (hw : 0x280090000000000000000000020000000CFC00000000 &&& hid = 0x280090000000000000000000020000000CFC00000000) (c : Ch) (s : State) :
    (markSpare c s).seen hid = s.seen hid := by
  refine seen_mono hw ?_
  unfold markSpare
  simp

@[simp] theorem swatchFill_keeps {hid : Nat}
    (hw : 0x8000000000000000000000000000000000000000000 &&& hid = 0x8000000000000000000000000000000000000000000) (c : Ch) (s : State) :
    (swatchFill c s).seen hid = s.seen hid := by
  refine seen_mono hw ?_
  unfold swatchFill
  try simp
  (repeat' (first | split | (refine (forAll_keeps _ _ _ (fun a s => ?_)).trans ?_) | dsimp only)) <;> (first | rfl | (simp; done) | (simp_all; done))

@[simp] theorem carveCold_keeps {hid : Nat}
    (hw : 0x8000000000000000000000000000000000000000000 &&& hid = 0x8000000000000000000000000000000000000000000) (c : Ch) (s : State) :
    (carveCold c s).seen hid = s.seen hid := by
  refine seen_mono hw ?_
  unfold carveCold
  simp

@[simp] theorem carveStart_keeps {hid : Nat}
    (hw : 0x8000008000000000000000000000000100000048007 &&& hid = 0x8000008000000000000000000000000100000048007) (s : State) :
    (carveStart s).seen hid = s.seen hid := by
  refine seen_mono hw ?_
  unfold carveStart
  dsimp only
  have pre : ∀ s : State, (initDone (updGlb (fun g => { g with init := g.init ||| carveBits s }) (toStep 0x0A s))).seen 0x8000008000000000000000000000000100000048007
      = s.seen 0x8000008000000000000000000000000100000048007 := fun s => by
    rw [initDone_keeps (by decide), updGlb_keeps _ _ (by simp), toStep_keeps (by decide)]
  split
  · rw [halt_keeps (by decide), pre]
  · rw [forAll_keeps _ _ _ fun c s => ?_, pre]
    rw [sysFill_keeps (by decide), onlyIf_keeps _ _ _ (carveCold_keeps (by decide) c s)]

@[simp] theorem trainingEnd_keeps {hid : Nat}
    (hw : 0x6804D0192000000000000000020ACA001CFC8004800F &&& hid = 0x6804D0192000000000000000020ACA001CFC8004800F) (s : State) :
    (trainingEnd s).seen hid = s.seen hid := by
  refine seen_mono hw ?_
  unfold trainingEnd
  simp

@[simp] theorem gearsGoOn_keeps {hid : Nat}
    (hw : 0xE806F0192000000000204000032ACA001CFC803E800F &&& hid = 0xE806F0192000000000204000032ACA001CFC803E800F) (ret : Option RetentionRead) (c : Ch) (s : State) :
    (gearsGoOn ret c s).seen hid = s.seen hid := by
  refine seen_mono hw ?_
  unfold gearsGoOn
  simp

@[simp] theorem csNext_keeps {hid : Nat}
    (hw : 0x2800B000000000000000000000002E000CFC00020000 &&& hid = 0x2800B000000000000000000000002E000CFC00020000) (x : Sc) (s : State) :
    (csNext x s).seen hid = s.seen hid := by
  refine seen_mono hw ?_
  unfold csNext
  simp

@[simp] theorem csPassed_keeps {hid : Nat}
    (hw : 0x2800B000000000000000000000002E000CFC00020000 &&& hid = 0x2800B000000000000000000000002E000CFC00020000) (x : Sc) (s : State) :
    (csPassed x s).seen hid = s.seen hid := by
  refine seen_mono hw ?_
  unfold csPassed
  simp

@[simp] theorem csDrop_keeps {hid : Nat}
    (hw : 0x2800B000000000000000000000002E000CFC00020000 &&& hid = 0x2800B000000000000000000000002E000CFC00020000) (k : Nat) (x : Sc) (s : State) :
    (csDrop k x s).seen hid = s.seen hid := by
  refine seen_mono hw ?_
  unfold csDrop
  simp

@[simp] theorem takeOffline_keeps {hid : Nat}
    (hw : 0x2800B008000000000000000000002E001CFC00368003 &&& hid = 0x2800B008000000000000000000002E001CFC00368003) (c : Ch) (k : Nat) (s : State) :
    (takeOffline c k s).seen hid = s.seen hid := by
  refine seen_mono hw ?_
  unfold takeOffline
  simp

@[simp] theorem csFailed_keeps {hid : Nat}
    (hw : 0x2800B008000000000000000000002E001CFC00368003 &&& hid = 0x2800B008000000000000000000002E001CFC00368003) (x : Sc) (k : Nat) (s : State) :
    (csFailed x k s).seen hid = s.seen hid := by
  refine seen_mono hw ?_
  unfold csFailed
  simp

@[simp] theorem stepAgain_keeps {hid : Nat}
    (hw : 0x2800B008000000000000000000002E001CFC00368003 &&& hid = 0x2800B008000000000000000000002E001CFC00368003) (x : Sc) (k : Nat) (s : State) :
    (stepAgain x k s).seen hid = s.seen hid := by
  refine seen_mono hw ?_
  unfold stepAgain
  simp

@[simp] theorem stepFailed_keeps {hid : Nat}
    (hw : 0x2800B008000000000000000000002E001CFC00368003 &&& hid = 0x2800B008000000000000000000002E001CFC00368003) (x : Sc) (k : Nat) (s : State) :
    (stepFailed x k s).seen hid = s.seen hid := by
  refine seen_mono hw ?_
  unfold stepFailed
  simp

@[simp] theorem stepPassed_keeps {hid : Nat}
    (hw : 0x2800B000000000000000000000002E000CFC00020000 &&& hid = 0x2800B000000000000000000000002E000CFC00020000) (x : Sc) (s : State) :
    (stepPassed x s).seen hid = s.seen hid := by
  refine seen_mono hw ?_
  unfold stepPassed
  simp

@[simp] theorem inTraining_keeps {hid : Nat}
    (hw : 0x280090000000000000000000000000000CFC00000000 &&& hid = 0x280090000000000000000000000000000CFC00000000) (x : Sc) (n : Nat) (m : TrainMode)
    (f : State → State) (s : State) (h : ∀ s, (f s).seen hid = s.seen hid) : (inTraining x n m f s).seen hid = s.seen hid := by
  unfold inTraining
  rw [setDevice_keeps (sub_trans (by decide) hw), h, setDevice_keeps (sub_trans (by decide) hw)]

@[simp] theorem setDevices_keeps {hid : Nat}
    (hw : 0x280090000000000000000000000000000CFC00000000 &&& hid = 0x280090000000000000000000000000000CFC00000000) (x : Sc) (n : Nat) (f : Fin 10 → Byte → DevSet) (l : List Byte) (s : State) :
    (setDevices x n f l s).seen hid = s.seen hid := by
  refine seen_mono hw ?_
  unfold setDevices
  exact forAll_keeps _ _ _ fun d s => setDevice_keeps (by decide) _ _ _ s

@[simp] theorem eyesCmds_keeps {hid : Nat}
    (hw : 0x280090000000000000000000000000000CFC00000000 &&& hid = 0x280090000000000000000000000000000CFC00000000) (x : Sc) (n : Nat) (code : Nat) (e : TrainEyes) (s : State) :
    (eyesCmds x n code e s).seen hid = s.seen hid := by
  refine seen_mono hw ?_
  unfold eyesCmds
  simp

@[simp] theorem stepCmds_keeps {hid : Nat}
    (hw : 0x280090000000000000000000000000000CFC00000000 &&& hid = 0x280090000000000000000000000000000CFC00000000) (x : Sc) (k : Nat) (r : TrainResult) (s : State) :
    (stepCmds x k r s).seen hid = s.seen hid := by
  refine seen_mono hw ?_
  unfold stepCmds
  (repeat' split) <;> simp

@[simp] theorem afterStep_keeps {hid : Nat}
    (hw : 0xE806F0192000000000204000032ACA001CFC803E800F &&& hid = 0xE806F0192000000000204000032ACA001CFC803E800F) (x : Sc) (ret : Option RetentionRead) (s : State) :
    (afterStep x ret s).seen hid = s.seen hid := by
  refine seen_mono hw ?_
  unfold afterStep
  simp

theorem caAlign_keeps {hid : Nat} (hw : 0x80000000000000000000000000000200000000020000 &&& hid = 0x80000000000000000000000000000200000000020000) {x : Sc} {e : TrainEyes} {s t : State}
    (h : caAlign x e s = some t) : t.seen hid = s.seen hid := by
  refine seen_mono hw ?_
  unfold caAlign at h
  dsimp only at h
  (repeat' split at h) <;>
    first
      | (simp at h; done)
      | (simp only [Option.some.injEq] at h; subst h; first | rfl | simp)
      | (simp only [Option.map_eq_some_iff] at h; obtain ⟨p, -, h⟩ := h; subst h; simp)

theorem readGate_keeps {hid : Nat} (hw : 0x200000000020000 &&& hid = 0x200000000020000) {x : Sc} {e : TrainEyes} {s t : State}
    (h : readGate x e s = some t) : t.seen hid = s.seen hid := by
  refine seen_mono hw ?_
  unfold readGate at h
  dsimp only at h
  (repeat' split at h) <;>
    first
      | (simp at h; done)
      | (simp only [Option.some.injEq] at h; subst h; first | rfl | simp)
      | (simp only [Option.map_eq_some_iff] at h; obtain ⟨p, -, h⟩ := h; subst h; simp)

theorem readCentre_keeps {hid : Nat} (hw : 0x280090000000000000000000000002000CFC00020000 &&& hid = 0x280090000000000000000000000002000CFC00020000) {x : Sc} {e : TrainEyes} {s t : State}
    (h : readCentre x e s = some t) : t.seen hid = s.seen hid := by
  refine seen_mono hw ?_
  unfold readCentre at h
  dsimp only at h
  (repeat' split at h) <;>
    first
      | (simp at h; done)
      | (simp only [Option.some.injEq] at h; subst h; first | rfl | simp)
      | (simp only [Option.map_eq_some_iff] at h; obtain ⟨p, -, h⟩ := h; subst h; simp)

theorem writeLevel_keeps {hid : Nat} (hw : 0x200000000020000 &&& hid = 0x200000000020000) {x : Sc} {e : TrainEyes} {s t : State}
    (h : writeLevel x e s = some t) : t.seen hid = s.seen hid := by
  refine seen_mono hw ?_
  unfold writeLevel at h
  dsimp only at h
  (repeat' split at h) <;>
    first
      | (simp at h; done)
      | (simp only [Option.some.injEq] at h; subst h; first | rfl | simp)
      | (simp only [Option.map_eq_some_iff] at h; obtain ⟨p, -, h⟩ := h; subst h; simp)

theorem writeCentre_keeps {hid : Nat} (hw : 0x280090080000000000000000000002000CFC00020000 &&& hid = 0x280090080000000000000000000002000CFC00020000) {x : Sc} {k : Nat} {points vrefs : List Capture} {counts : List Nat} {s t : State}
    (h : writeCentre x k points vrefs counts s = some t) : t.seen hid = s.seen hid := by
  refine seen_mono hw ?_
  unfold writeCentre at h
  dsimp only at h
  (repeat' split at h) <;>
    first
      | (simp at h; done)
      | (simp only [Option.some.injEq] at h; subst h; first | rfl | simp)
      | (simp only [Option.map_eq_some_iff] at h
         obtain ⟨p, -, h⟩ := h
         subst h
         rw [forAll_keeps _ _ _ fun e s => (putDev_keeps (by decide) _ _ _ _ _ _ _).trans (setDevice_keeps (by decide) _ _ _ s),
           onlyIf_keeps _ _ _ (sqSet_keeps _ _ _ (by simp)), eyesTake_keeps (by decide)])

theorem stepOutcome_keeps {hid : Nat} (hw : 0xA80090080000000000000000000002000CFC00020000 &&& hid = 0xA80090080000000000000000000002000CFC00020000) {x : Sc} {k code : Nat} {r : TrainResult}
    {s t : State} (h : stepOutcome x k code r s = some t) : t.seen hid = s.seen hid := by
  refine seen_mono hw ?_
  unfold stepOutcome at h
  (repeat' split at h) <;>
    first
      | (simp at h; done)
      | (simp only [Option.some.injEq] at h; subst h; first | rfl | simp)
      | exact caAlign_keeps (by decide) h
      | exact readGate_keeps (by decide) h
      | exact readCentre_keeps (by decide) h
      | exact writeLevel_keeps (by decide) h
      | exact writeCentre_keeps (by decide) h

@[simp] theorem trainingStepDone_keeps {hid : Nat}
    (hw : 0xE806F0192000000000204000032AEE001CFC803E800F &&& hid = 0xE806F0192000000000204000032AEE001CFC803E800F) (x : Sc) (r : TrainResult) (ret : Option RetentionRead) (s : State) :
    (trainingStepDone x r ret s).seen hid = s.seen hid := by
  refine seen_mono hw ?_
  unfold trainingStepDone
  split
  · rfl
  · split
    · rfl
    · rename_i k _ _
      have pre : ∀ s : State, (stepCmds x k r (grant x 2 s)).seen 0xE806F0192000000000204000032AEE001CFC803E800F = s.seen 0xE806F0192000000000204000032AEE001CFC803E800F := fun s => by
        rw [stepCmds_keeps (by decide), grant_keeps (by decide)]
      have out : ((stepOutcome x k (stepCode s x) r (stepCmds x k r (grant x 2 s))).getD (stepCmds x k r (grant x 2 s))).seen
          0xE806F0192000000000204000032AEE001CFC803E800F = s.seen 0xE806F0192000000000204000032AEE001CFC803E800F := by
        cases h : stepOutcome x k (stepCode s x) r (stepCmds x k r (grant x 2 s)) with
        | none => exact pre s
        | some t => exact (stepOutcome_keeps (by decide) h).trans (pre s)
      dsimp only
      split
      · rfl
      · rw [afterStep_keeps (by decide)]
        split
        · rw [stepPassed_keeps (by decide), updSched_keeps (by decide), out]
        · rw [stepFailed_keeps (by decide), updSched_keeps (by decide), out]

@[simp] theorem trainingStepTimeout_keeps {hid : Nat}
    (hw : 0xE806F01F2000000000204000032AEE001CFC803E800F &&& hid = 0xE806F01F2000000000204000032AEE001CFC803E800F) (x : Sc) (ret : Option RetentionRead) (s : State) :
    (trainingStepTimeout x ret s).seen hid = s.seen hid := by
  refine seen_mono hw ?_
  unfold trainingStepTimeout
  (repeat' split) <;> simp

@[simp] theorem carveOutDone_keeps {hid : Nat} (hw : 0x4 &&& hid = 0x4) (s : State) :
    (carveOutDone s).seen hid = s.seen hid := by
  refine seen_mono hw ?_
  unfold carveOutDone
  simp

@[simp] theorem carveOutWatchdog_keeps {hid : Nat}
    (hw : 0x4000001F200000000000000000000000100000008003 &&& hid = 0x4000001F200000000000000000000000100000008003) (x : Sc) (s : State) :
    (carveOutWatchdog x s).seen hid = s.seen hid := by
  refine seen_mono hw ?_
  unfold carveOutWatchdog
  simp

@[simp] theorem noteRetained_keeps {hid : Nat}
    (hw : 0x20080000000000000000000000 &&& hid = 0x20080000000000000000000000) (s : State) :
    (noteRetained s).seen hid = s.seen hid := by
  refine seen_mono hw ?_
  unfold noteRetained
  simp

@[simp] theorem serviceEntry_keeps {hid : Nat}
    (hw : 0xB0C23080000905800F82F230000C050100071800001 &&& hid = 0xB0C23080000905800F82F230000C050100071800001) (s : State) :
    (serviceEntry s).seen hid = s.seen hid := by
  refine seen_mono hw ?_
  unfold serviceEntry
  simp

@[simp] theorem tick_keeps {hid : Nat}
    (hw : 0x904000000000000000000000002CE00000000002300 &&& hid = 0x904000000000000000000000002CE00000000002300) (s : State) :
    (tick s).seen hid = s.seen hid := by
  refine seen_mono hw ?_
  unfold tick
  simp

@[simp] theorem idle_keeps {hid : Nat}
    (hw : 0x6B04220800000058000000000002CE50100070002301 &&& hid = 0x6B04220800000058000000000002CE50100070002301) (s : State) :
    (idle s).seen hid = s.seen hid := by
  refine seen_mono hw ?_
  unfold idle
  simp

end Sys2Proof.Machine
end

