-- ==== Sys2Proof/Laws/Seen.lean ====
section
/-! SUPPORT. One part of State read out of what an operation keeps. -/

namespace Sys2Proof.Machine

theorem regs_of_seen {s t : State} (h : t.seen 0x1ff800007ffffffffffffffffffffffffffffffffffff =
    s.seen 0x1ff800007ffffffffffffffffffffffffffffffffffff) : t.regs = s.regs := by
  simp only [State.seen, Prod.mk.injEq] at h
  obtain ⟨-, -, -, -, -, -, -, -, -, -, -, -, -, e, -, -, -, -, -, -, -, -, -, -⟩ := h
  have hn : ∀ k < 20, hides 0x1ff800007ffffffffffffffffffffffffffffffffffff (2 ^ (147 + k)) = false := by decide
  have key : ∀ x : KMap Word, regsSeen 0x1ff800007ffffffffffffffffffffffffffffffffffff x = x := by
    intro x
    unfold regsSeen
    rw [List.filter_eq_self]
    intro e _
    rw [hn _ (regGroup_lt _)]; rfl
  rw [key, key] at e
  exact e

/-- A register of a group that a number does not hide reads the same. -/
theorem regGet_of_seen {hid : Nat} {s t : State} (h : t.seen hid = s.seen hid) (off : Nat)
    (hk : hides hid (2 ^ (147 + regGroup off)) = false) : regGet t off = regGet s off := by
  simp only [State.seen, Prod.mk.injEq] at h
  obtain ⟨-, -, -, -, -, -, -, -, -, -, -, -, -, e, -, -, -, -, -, -, -, -, -, -⟩ := h
  exact regGet_of_regsSeen e off hk
theorem glb_ctl_of_seen {s t : State} (h : t.seen 0x1fffffffffffffffffffffffffffffffffffffffffffe =
    s.seen 0x1fffffffffffffffffffffffffffffffffffffffffffe) : t.glb.ctl = s.glb.ctl := by
  simp only [State.seen, Prod.mk.injEq] at h
  obtain ⟨e, -, -, -, -, -, -, -, -, -, -, -, -, -, -, -, -, -, -, -, -, -, -, -⟩ := h
  simpa [Glb.seen] using e
theorem glb_haltCause_of_seen {s t : State} (h : t.seen 0x1fffffffffffffffffffffffffffffffffffffffffffd =
    s.seen 0x1fffffffffffffffffffffffffffffffffffffffffffd) : t.glb.haltCause = s.glb.haltCause := by
  simp only [State.seen, Prod.mk.injEq] at h
  obtain ⟨e, -, -, -, -, -, -, -, -, -, -, -, -, -, -, -, -, -, -, -, -, -, -, -⟩ := h
  simpa [Glb.seen] using e
theorem glb_step_of_seen {s t : State} (h : t.seen 0x1fffffffffffffffffffffffffffffffffffffffffffb =
    s.seen 0x1fffffffffffffffffffffffffffffffffffffffffffb) : t.glb.step = s.glb.step := by
  simp only [State.seen, Prod.mk.injEq] at h
  obtain ⟨e, -, -, -, -, -, -, -, -, -, -, -, -, -, -, -, -, -, -, -, -, -, -, -⟩ := h
  simpa [Glb.seen] using e
theorem glb_gear_of_seen {s t : State} (h : t.seen 0x1fffffffffffffffffffffffffffffffffffffffffff7 =
    s.seen 0x1fffffffffffffffffffffffffffffffffffffffffff7) : t.glb.gear = s.glb.gear := by
  simp only [State.seen, Prod.mk.injEq] at h
  obtain ⟨e, -, -, -, -, -, -, -, -, -, -, -, -, -, -, -, -, -, -, -, -, -, -, -⟩ := h
  simpa [Glb.seen] using e
theorem glb_ctlId_of_seen {s t : State} (h : t.seen 0x1ffffffffffffffffffffffffffffffffffffffffffef =
    s.seen 0x1ffffffffffffffffffffffffffffffffffffffffffef) : t.glb.ctlId = s.glb.ctlId := by
  simp only [State.seen, Prod.mk.injEq] at h
  obtain ⟨e, -, -, -, -, -, -, -, -, -, -, -, -, -, -, -, -, -, -, -, -, -, -, -⟩ := h
  simpa [Glb.seen] using e
theorem glb_chanEn_of_seen {s t : State} (h : t.seen 0x1ffffffffffffffffffffffffffffffffffffffffffdf =
    s.seen 0x1ffffffffffffffffffffffffffffffffffffffffffdf) : t.glb.chanEn = s.glb.chanEn := by
  simp only [State.seen, Prod.mk.injEq] at h
  obtain ⟨e, -, -, -, -, -, -, -, -, -, -, -, -, -, -, -, -, -, -, -, -, -, -, -⟩ := h
  simpa [Glb.seen] using e
theorem glb_imgBase_of_seen {s t : State} (h : t.seen 0x1ffffffffffffffffffffffffffffffffffffffffffbf =
    s.seen 0x1ffffffffffffffffffffffffffffffffffffffffffbf) : t.glb.imgBase = s.glb.imgBase := by
  simp only [State.seen, Prod.mk.injEq] at h
  obtain ⟨e, -, -, -, -, -, -, -, -, -, -, -, -, -, -, -, -, -, -, -, -, -, -, -⟩ := h
  simpa [Glb.seen] using e
theorem glb_pfN_of_seen {s t : State} (h : t.seen 0x1ffffffffffffffffffffffffffffffffffffffffff7f =
    s.seen 0x1ffffffffffffffffffffffffffffffffffffffffff7f) : t.glb.pfN = s.glb.pfN := by
  simp only [State.seen, Prod.mk.injEq] at h
  obtain ⟨e, -, -, -, -, -, -, -, -, -, -, -, -, -, -, -, -, -, -, -, -, -, -, -⟩ := h
  simpa [Glb.seen] using e
theorem glb_now_of_seen {s t : State} (h : t.seen 0x1fffffffffffffffffffffffffffffffffffffffffeff =
    s.seen 0x1fffffffffffffffffffffffffffffffffffffffffeff) : t.glb.now = s.glb.now := by
  simp only [State.seen, Prod.mk.injEq] at h
  obtain ⟨e, -, -, -, -, -, -, -, -, -, -, -, -, -, -, -, -, -, -, -, -, -, -, -⟩ := h
  simpa [Glb.seen] using e
theorem glb_cc_of_seen {s t : State} (h : t.seen 0x1fffffffffffffffffffffffffffffffffffffffffdff =
    s.seen 0x1fffffffffffffffffffffffffffffffffffffffffdff) : t.glb.cc = s.glb.cc := by
  simp only [State.seen, Prod.mk.injEq] at h
  obtain ⟨e, -, -, -, -, -, -, -, -, -, -, -, -, -, -, -, -, -, -, -, -, -, -, -⟩ := h
  simpa [Glb.seen] using e
theorem glb_coreRun_of_seen {s t : State} (h : t.seen 0x1fffffffffffffffffffffffffffffffffffffffffbff =
    s.seen 0x1fffffffffffffffffffffffffffffffffffffffffbff) : t.glb.coreRun = s.glb.coreRun := by
  simp only [State.seen, Prod.mk.injEq] at h
  obtain ⟨e, -, -, -, -, -, -, -, -, -, -, -, -, -, -, -, -, -, -, -, -, -, -, -⟩ := h
  simpa [Glb.seen] using e
theorem glb_vddqOk_of_seen {s t : State} (h : t.seen 0x1fffffffffffffffffffffffffffffffffffffffff7ff =
    s.seen 0x1fffffffffffffffffffffffffffffffffffffffff7ff) : t.glb.vddqOk = s.glb.vddqOk := by
  simp only [State.seen, Prod.mk.injEq] at h
  obtain ⟨e, -, -, -, -, -, -, -, -, -, -, -, -, -, -, -, -, -, -, -, -, -, -, -⟩ := h
  simpa [Glb.seen] using e
theorem glb_pllTries_of_seen {s t : State} (h : t.seen 0x1ffffffffffffffffffffffffffffffffffffffffefff =
    s.seen 0x1ffffffffffffffffffffffffffffffffffffffffefff) : t.glb.pllTries = s.glb.pllTries := by
  simp only [State.seen, Prod.mk.injEq] at h
  obtain ⟨e, -, -, -, -, -, -, -, -, -, -, -, -, -, -, -, -, -, -, -, -, -, -, -⟩ := h
  simpa [Glb.seen] using e
theorem glb_ackGap_of_seen {s t : State} (h : t.seen 0x1ffffffffffffffffffffffffffffffffffffffffdfff =
    s.seen 0x1ffffffffffffffffffffffffffffffffffffffffdfff) : t.glb.ackGap = s.glb.ackGap := by
  simp only [State.seen, Prod.mk.injEq] at h
  obtain ⟨e, -, -, -, -, -, -, -, -, -, -, -, -, -, -, -, -, -, -, -, -, -, -, -⟩ := h
  simpa [Glb.seen] using e
theorem glb_fuses_of_seen {s t : State} (h : t.seen 0x1ffffffffffffffffffffffffffffffffffffffffbfff =
    s.seen 0x1ffffffffffffffffffffffffffffffffffffffffbfff) : t.glb.fuses = s.glb.fuses := by
  simp only [State.seen, Prod.mk.injEq] at h
  obtain ⟨e, -, -, -, -, -, -, -, -, -, -, -, -, -, -, -, -, -, -, -, -, -, -, -⟩ := h
  simpa [Glb.seen] using e
theorem glb_ch_of_seen {s t : State} (h : t.seen 0x1ffffffffffffffffffffffffffffffffffffffff7fff =
    s.seen 0x1ffffffffffffffffffffffffffffffffffffffff7fff) : t.glb.ch = s.glb.ch := by
  simp only [State.seen, Prod.mk.injEq] at h
  obtain ⟨e, -, -, -, -, -, -, -, -, -, -, -, -, -, -, -, -, -, -, -, -, -, -, -⟩ := h
  simpa [Glb.seen] using e
theorem glb_slot_of_seen {s t : State} (h : t.seen 0x1fffffffffffffffffffffffffffffffffffffffeffff =
    s.seen 0x1fffffffffffffffffffffffffffffffffffffffeffff) : t.glb.slot = s.glb.slot := by
  simp only [State.seen, Prod.mk.injEq] at h
  obtain ⟨e, -, -, -, -, -, -, -, -, -, -, -, -, -, -, -, -, -, -, -, -, -, -, -⟩ := h
  simpa [Glb.seen] using e
theorem glb_train_of_seen {s t : State} (h : t.seen 0x1fffffffffffffffffffffffffffffffffffffffdffff =
    s.seen 0x1fffffffffffffffffffffffffffffffffffffffdffff) : t.glb.train = s.glb.train := by
  simp only [State.seen, Prod.mk.injEq] at h
  obtain ⟨e, -, -, -, -, -, -, -, -, -, -, -, -, -, -, -, -, -, -, -, -, -, -, -⟩ := h
  simpa [Glb.seen] using e
theorem glb_init_of_seen {s t : State} (h : t.seen 0x1fffffffffffffffffffffffffffffffffffffffbffff =
    s.seen 0x1fffffffffffffffffffffffffffffffffffffffbffff) : t.glb.init = s.glb.init := by
  simp only [State.seen, Prod.mk.injEq] at h
  obtain ⟨e, -, -, -, -, -, -, -, -, -, -, -, -, -, -, -, -, -, -, -, -, -, -, -⟩ := h
  simpa [Glb.seen] using e
theorem glb_initCopy_of_seen {s t : State} (h : t.seen 0x1fffffffffffffffffffffffffffffffffffffff7ffff =
    s.seen 0x1fffffffffffffffffffffffffffffffffffffff7ffff) : t.glb.initCopy = s.glb.initCopy := by
  simp only [State.seen, Prod.mk.injEq] at h
  obtain ⟨e, -, -, -, -, -, -, -, -, -, -, -, -, -, -, -, -, -, -, -, -, -, -, -⟩ := h
  simpa [Glb.seen] using e
theorem glb_initWait_of_seen {s t : State} (h : t.seen 0x1ffffffffffffffffffffffffffffffffffffffefffff =
    s.seen 0x1ffffffffffffffffffffffffffffffffffffffefffff) : t.glb.initWait = s.glb.initWait := by
  simp only [State.seen, Prod.mk.injEq] at h
  obtain ⟨e, -, -, -, -, -, -, -, -, -, -, -, -, -, -, -, -, -, -, -, -, -, -, -⟩ := h
  simpa [Glb.seen] using e
theorem glb_onDemand_of_seen {s t : State} (h : t.seen 0x1ffffffffffffffffffffffffffffffffffffffdfffff =
    s.seen 0x1ffffffffffffffffffffffffffffffffffffffdfffff) : t.glb.onDemand = s.glb.onDemand := by
  simp only [State.seen, Prod.mk.injEq] at h
  obtain ⟨e, -, -, -, -, -, -, -, -, -, -, -, -, -, -, -, -, -, -, -, -, -, -, -⟩ := h
  simpa [Glb.seen] using e
theorem glb_zero_of_seen {s t : State} (h : t.seen 0x1ffffffffffffffffffffffffffffffffffffffbfffff =
    s.seen 0x1ffffffffffffffffffffffffffffffffffffffbfffff) : t.glb.zero = s.glb.zero := by
  simp only [State.seen, Prod.mk.injEq] at h
  obtain ⟨e, -, -, -, -, -, -, -, -, -, -, -, -, -, -, -, -, -, -, -, -, -, -, -⟩ := h
  simpa [Glb.seen] using e
theorem glb_served_of_seen {s t : State} (h : t.seen 0x1ffffffffffffffffffffffffffffffffffffff7fffff =
    s.seen 0x1ffffffffffffffffffffffffffffffffffffff7fffff) : t.glb.served = s.glb.served := by
  simp only [State.seen, Prod.mk.injEq] at h
  obtain ⟨e, -, -, -, -, -, -, -, -, -, -, -, -, -, -, -, -, -, -, -, -, -, -, -⟩ := h
  simpa [Glb.seen] using e
theorem glb_restart_of_seen {s t : State} (h : t.seen 0x1fffffffffffffffffffffffffffffffffffffeffffff =
    s.seen 0x1fffffffffffffffffffffffffffffffffffffeffffff) : t.glb.restart = s.glb.restart := by
  simp only [State.seen, Prod.mk.injEq] at h
  obtain ⟨e, -, -, -, -, -, -, -, -, -, -, -, -, -, -, -, -, -, -, -, -, -, -, -⟩ := h
  simpa [Glb.seen] using e
theorem qz_req_of_seen {s t : State} (h : t.seen 0x1fffffffffffffffffffffffffffffffffffffdffffff =
    s.seen 0x1fffffffffffffffffffffffffffffffffffffdffffff) : t.qz.req = s.qz.req := by
  simp only [State.seen, Prod.mk.injEq] at h
  obtain ⟨-, e, -, -, -, -, -, -, -, -, -, -, -, -, -, -, -, -, -, -, -, -, -, -⟩ := h
  simpa [Qz.seen] using e
theorem qz_hold_of_seen {s t : State} (h : t.seen 0x1fffffffffffffffffffffffffffffffffffffbffffff =
    s.seen 0x1fffffffffffffffffffffffffffffffffffffbffffff) : t.qz.hold = s.qz.hold := by
  simp only [State.seen, Prod.mk.injEq] at h
  obtain ⟨-, e, -, -, -, -, -, -, -, -, -, -, -, -, -, -, -, -, -, -, -, -, -, -⟩ := h
  simpa [Qz.seen] using e
theorem qz_deep_of_seen {s t : State} (h : t.seen 0x1fffffffffffffffffffffffffffffffffffff7ffffff =
    s.seen 0x1fffffffffffffffffffffffffffffffffffff7ffffff) : t.qz.deep = s.qz.deep := by
  simp only [State.seen, Prod.mk.injEq] at h
  obtain ⟨-, e, -, -, -, -, -, -, -, -, -, -, -, -, -, -, -, -, -, -, -, -, -, -⟩ := h
  simpa [Qz.seen] using e
theorem qz_ph_of_seen {s t : State} (h : t.seen 0x1ffffffffffffffffffffffffffffffffffffefffffff =
    s.seen 0x1ffffffffffffffffffffffffffffffffffffefffffff) : t.qz.ph = s.qz.ph := by
  simp only [State.seen, Prod.mk.injEq] at h
  obtain ⟨-, e, -, -, -, -, -, -, -, -, -, -, -, -, -, -, -, -, -, -, -, -, -, -⟩ := h
  simpa [Qz.seen] using e
theorem qz_ack_of_seen {s t : State} (h : t.seen 0x1ffffffffffffffffffffffffffffffffffffdfffffff =
    s.seen 0x1ffffffffffffffffffffffffffffffffffffdfffffff) : t.qz.ack = s.qz.ack := by
  simp only [State.seen, Prod.mk.injEq] at h
  obtain ⟨-, e, -, -, -, -, -, -, -, -, -, -, -, -, -, -, -, -, -, -, -, -, -, -⟩ := h
  simpa [Qz.seen] using e
theorem qz_paused_of_seen {s t : State} (h : t.seen 0x1ffffffffffffffffffffffffffffffffffffbfffffff =
    s.seen 0x1ffffffffffffffffffffffffffffffffffffbfffffff) : t.qz.paused = s.qz.paused := by
  simp only [State.seen, Prod.mk.injEq] at h
  obtain ⟨-, e, -, -, -, -, -, -, -, -, -, -, -, -, -, -, -, -, -, -, -, -, -, -⟩ := h
  simpa [Qz.seen] using e
theorem ref_units_of_seen {s t : State} (h : t.seen 0x1ffffffffffffffffffffffffffffffffffff7fffffff =
    s.seen 0x1ffffffffffffffffffffffffffffffffffff7fffffff) : t.ref.units = s.ref.units := by
  simp only [State.seen, Prod.mk.injEq] at h
  obtain ⟨-, -, e, -, -, -, -, -, -, -, -, -, -, -, -, -, -, -, -, -, -, -, -, -⟩ := h
  simpa [Ref.seen] using e
theorem ref_doubled_of_seen {s t : State} (h : t.seen 0x1fffffffffffffffffffffffffffffffffffeffffffff =
    s.seen 0x1fffffffffffffffffffffffffffffffffffeffffffff) : t.ref.doubled = s.ref.doubled := by
  simp only [State.seen, Prod.mk.injEq] at h
  obtain ⟨-, -, e, -, -, -, -, -, -, -, -, -, -, -, -, -, -, -, -, -, -, -, -, -⟩ := h
  simpa [Ref.seen] using e
theorem ref_mr4_of_seen {s t : State} (h : t.seen 0x1fffffffffffffffffffffffffffffffffffdffffffff =
    s.seen 0x1fffffffffffffffffffffffffffffffffffdffffffff) : t.ref.mr4 = s.ref.mr4 := by
  simp only [State.seen, Prod.mk.injEq] at h
  obtain ⟨-, -, e, -, -, -, -, -, -, -, -, -, -, -, -, -, -, -, -, -, -, -, -, -⟩ := h
  simpa [Ref.seen] using e
theorem ref_groups_of_seen {s t : State} (h : t.seen 0x1fffffffffffffffffffffffffffffffffffbffffffff =
    s.seen 0x1fffffffffffffffffffffffffffffffffffbffffffff) : t.ref.groups = s.ref.groups := by
  simp only [State.seen, Prod.mk.injEq] at h
  obtain ⟨-, -, e, -, -, -, -, -, -, -, -, -, -, -, -, -, -, -, -, -, -, -, -, -⟩ := h
  simpa [Ref.seen] using e
theorem ref_cache_of_seen {s t : State} (h : t.seen 0x1fffffffffffffffffffffffffffffffffff7ffffffff =
    s.seen 0x1fffffffffffffffffffffffffffffffffff7ffffffff) : t.ref.cache = s.ref.cache := by
  simp only [State.seen, Prod.mk.injEq] at h
  obtain ⟨-, -, e, -, -, -, -, -, -, -, -, -, -, -, -, -, -, -, -, -, -, -, -, -⟩ := h
  simpa [Ref.seen] using e
theorem ref_clock_of_seen {s t : State} (h : t.seen 0x1ffffffffffffffffffffffffffffffffffefffffffff =
    s.seen 0x1ffffffffffffffffffffffffffffffffffefffffffff) : t.ref.clock = s.ref.clock := by
  simp only [State.seen, Prod.mk.injEq] at h
  obtain ⟨-, -, e, -, -, -, -, -, -, -, -, -, -, -, -, -, -, -, -, -, -, -, -, -⟩ := h
  simpa [Ref.seen] using e
theorem ref_posted_of_seen {s t : State} (h : t.seen 0x1ffffffffffffffffffffffffffffffffffdfffffffff =
    s.seen 0x1ffffffffffffffffffffffffffffffffffdfffffffff) : t.ref.posted = s.ref.posted := by
  simp only [State.seen, Prod.mk.injEq] at h
  obtain ⟨-, -, e, -, -, -, -, -, -, -, -, -, -, -, -, -, -, -, -, -, -, -, -, -⟩ := h
  simpa [Ref.seen] using e
theorem ref_fetching_of_seen {s t : State} (h : t.seen 0x1ffffffffffffffffffffffffffffffffffbfffffffff =
    s.seen 0x1ffffffffffffffffffffffffffffffffffbfffffffff) : t.ref.fetching = s.ref.fetching := by
  simp only [State.seen, Prod.mk.injEq] at h
  obtain ⟨-, -, e, -, -, -, -, -, -, -, -, -, -, -, -, -, -, -, -, -, -, -, -, -⟩ := h
  simpa [Ref.seen] using e
theorem ref_due_of_seen {s t : State} (h : t.seen 0x1ffffffffffffffffffffffffffffffffff7fffffffff =
    s.seen 0x1ffffffffffffffffffffffffffffffffff7fffffffff) : t.ref.due = s.ref.due := by
  simp only [State.seen, Prod.mk.injEq] at h
  obtain ⟨-, -, e, -, -, -, -, -, -, -, -, -, -, -, -, -, -, -, -, -, -, -, -, -⟩ := h
  simpa [Ref.seen] using e
theorem ref_abo_of_seen {s t : State} (h : t.seen 0x1fffffffffffffffffffffffffffffffffeffffffffff =
    s.seen 0x1fffffffffffffffffffffffffffffffffeffffffffff) : t.ref.abo = s.ref.abo := by
  simp only [State.seen, Prod.mk.injEq] at h
  obtain ⟨-, -, e, -, -, -, -, -, -, -, -, -, -, -, -, -, -, -, -, -, -, -, -, -⟩ := h
  simpa [Ref.seen] using e
theorem ref_aboLate_of_seen {s t : State} (h : t.seen 0x1fffffffffffffffffffffffffffffffffdffffffffff =
    s.seen 0x1fffffffffffffffffffffffffffffffffdffffffffff) : t.ref.aboLate = s.ref.aboLate := by
  simp only [State.seen, Prod.mk.injEq] at h
  obtain ⟨-, -, e, -, -, -, -, -, -, -, -, -, -, -, -, -, -, -, -, -, -, -, -, -⟩ := h
  simpa [Ref.seen] using e
theorem ref_raa_of_seen {s t : State} (h : t.seen 0x1fffffffffffffffffffffffffffffffffbffffffffff =
    s.seen 0x1fffffffffffffffffffffffffffffffffbffffffffff) : t.ref.raa = s.ref.raa := by
  simp only [State.seen, Prod.mk.injEq] at h
  obtain ⟨-, -, e, -, -, -, -, -, -, -, -, -, -, -, -, -, -, -, -, -, -, -, -, -⟩ := h
  simpa [Ref.seen] using e
theorem ref_rcHeld_of_seen {s t : State} (h : t.seen 0x1fffffffffffffffffffffffffffffffff7ffffffffff =
    s.seen 0x1fffffffffffffffffffffffffffffffff7ffffffffff) : t.ref.rcHeld = s.ref.rcHeld := by
  simp only [State.seen, Prod.mk.injEq] at h
  obtain ⟨-, -, e, -, -, -, -, -, -, -, -, -, -, -, -, -, -, -, -, -, -, -, -, -⟩ := h
  simpa [Ref.seen] using e
theorem qos_parts_of_seen {s t : State} (h : t.seen 0x1ffffffffffffffffffffffffffffffffefffffffffff =
    s.seen 0x1ffffffffffffffffffffffffffffffffefffffffffff) : t.qos.parts = s.qos.parts := by
  simp only [State.seen, Prod.mk.injEq] at h
  obtain ⟨-, -, -, e, -, -, -, -, -, -, -, -, -, -, -, -, -, -, -, -, -, -, -, -⟩ := h
  simpa [Qos.seen] using e
theorem qos_vt_of_seen {s t : State} (h : t.seen 0x1ffffffffffffffffffffffffffffffffdfffffffffff =
    s.seen 0x1ffffffffffffffffffffffffffffffffdfffffffffff) : t.qos.vt = s.qos.vt := by
  simp only [State.seen, Prod.mk.injEq] at h
  obtain ⟨-, -, -, e, -, -, -, -, -, -, -, -, -, -, -, -, -, -, -, -, -, -, -, -⟩ := h
  simpa [Qos.seen] using e
theorem qos_tb_of_seen {s t : State} (h : t.seen 0x1ffffffffffffffffffffffffffffffffbfffffffffff =
    s.seen 0x1ffffffffffffffffffffffffffffffffbfffffffffff) : t.qos.tb = s.qos.tb := by
  simp only [State.seen, Prod.mk.injEq] at h
  obtain ⟨-, -, -, e, -, -, -, -, -, -, -, -, -, -, -, -, -, -, -, -, -, -, -, -⟩ := h
  simpa [Qos.seen] using e
theorem qos_wheel_of_seen {s t : State} (h : t.seen 0x1ffffffffffffffffffffffffffffffff7fffffffffff =
    s.seen 0x1ffffffffffffffffffffffffffffffff7fffffffffff) : t.qos.wheel = s.qos.wheel := by
  simp only [State.seen, Prod.mk.injEq] at h
  obtain ⟨-, -, -, e, -, -, -, -, -, -, -, -, -, -, -, -, -, -, -, -, -, -, -, -⟩ := h
  simpa [Qos.seen] using e
theorem qos_tick_of_seen {s t : State} (h : t.seen 0x1fffffffffffffffffffffffffffffffeffffffffffff =
    s.seen 0x1fffffffffffffffffffffffffffffffeffffffffffff) : t.qos.tick = s.qos.tick := by
  simp only [State.seen, Prod.mk.injEq] at h
  obtain ⟨-, -, -, e, -, -, -, -, -, -, -, -, -, -, -, -, -, -, -, -, -, -, -, -⟩ := h
  simpa [Qos.seen] using e
theorem qos_staging_of_seen {s t : State} (h : t.seen 0x1fffffffffffffffffffffffffffffffdffffffffffff =
    s.seen 0x1fffffffffffffffffffffffffffffffdffffffffffff) : t.qos.staging = s.qos.staging := by
  simp only [State.seen, Prod.mk.injEq] at h
  obtain ⟨-, -, -, e, -, -, -, -, -, -, -, -, -, -, -, -, -, -, -, -, -, -, -, -⟩ := h
  simpa [Qos.seen] using e
theorem qos_pendingQpt_of_seen {s t : State} (h : t.seen 0x1fffffffffffffffffffffffffffffffbffffffffffff =
    s.seen 0x1fffffffffffffffffffffffffffffffbffffffffffff) : t.qos.pendingQpt = s.qos.pendingQpt := by
  simp only [State.seen, Prod.mk.injEq] at h
  obtain ⟨-, -, -, e, -, -, -, -, -, -, -, -, -, -, -, -, -, -, -, -, -, -, -, -⟩ := h
  simpa [Qos.seen] using e
theorem qos_pendingMore_of_seen {s t : State} (h : t.seen 0x1fffffffffffffffffffffffffffffff7ffffffffffff =
    s.seen 0x1fffffffffffffffffffffffffffffff7ffffffffffff) : t.qos.pendingMore = s.qos.pendingMore := by
  simp only [State.seen, Prod.mk.injEq] at h
  obtain ⟨-, -, -, e, -, -, -, -, -, -, -, -, -, -, -, -, -, -, -, -, -, -, -, -⟩ := h
  simpa [Qos.seen] using e
theorem qos_panic_of_seen {s t : State} (h : t.seen 0x1ffffffffffffffffffffffffffffffefffffffffffff =
    s.seen 0x1ffffffffffffffffffffffffffffffefffffffffffff) : t.qos.panic = s.qos.panic := by
  simp only [State.seen, Prod.mk.injEq] at h
  obtain ⟨-, -, -, e, -, -, -, -, -, -, -, -, -, -, -, -, -, -, -, -, -, -, -, -⟩ := h
  simpa [Qos.seen] using e
theorem qos_urgent_of_seen {s t : State} (h : t.seen 0x1ffffffffffffffffffffffffffffffdfffffffffffff =
    s.seen 0x1ffffffffffffffffffffffffffffffdfffffffffffff) : t.qos.urgent = s.qos.urgent := by
  simp only [State.seen, Prod.mk.injEq] at h
  obtain ⟨-, -, -, e, -, -, -, -, -, -, -, -, -, -, -, -, -, -, -, -, -, -, -, -⟩ := h
  simpa [Qos.seen] using e
theorem qos_peakRtp_of_seen {s t : State} (h : t.seen 0x1ffffffffffffffffffffffffffffffbfffffffffffff =
    s.seen 0x1ffffffffffffffffffffffffffffffbfffffffffffff) : t.qos.peakRtp = s.qos.peakRtp := by
  simp only [State.seen, Prod.mk.injEq] at h
  obtain ⟨-, -, -, e, -, -, -, -, -, -, -, -, -, -, -, -, -, -, -, -, -, -, -, -⟩ := h
  simpa [Qos.seen] using e
theorem qos_lastCrdRd_of_seen {s t : State} (h : t.seen 0x1ffffffffffffffffffffffffffffff7fffffffffffff =
    s.seen 0x1ffffffffffffffffffffffffffffff7fffffffffffff) : t.qos.lastCrdRd = s.qos.lastCrdRd := by
  simp only [State.seen, Prod.mk.injEq] at h
  obtain ⟨-, -, -, e, -, -, -, -, -, -, -, -, -, -, -, -, -, -, -, -, -, -, -, -⟩ := h
  simpa [Qos.seen] using e
theorem qos_lastCrdWr_of_seen {s t : State} (h : t.seen 0x1fffffffffffffffffffffffffffffeffffffffffffff =
    s.seen 0x1fffffffffffffffffffffffffffffeffffffffffffff) : t.qos.lastCrdWr = s.qos.lastCrdWr := by
  simp only [State.seen, Prod.mk.injEq] at h
  obtain ⟨-, -, -, e, -, -, -, -, -, -, -, -, -, -, -, -, -, -, -, -, -, -, -, -⟩ := h
  simpa [Qos.seen] using e
theorem phy_sc_of_seen {s t : State} (h : t.seen 0x1fffffffffffffffffffffffffffffdffffffffffffff =
    s.seen 0x1fffffffffffffffffffffffffffffdffffffffffffff) : t.phy.sc = s.phy.sc := by
  simp only [State.seen, Prod.mk.injEq] at h
  obtain ⟨-, -, -, -, e, -, -, -, -, -, -, -, -, -, -, -, -, -, -, -, -, -, -, -⟩ := h
  simpa [Phy.seen] using e
theorem phy_lifeline_of_seen {s t : State} (h : t.seen 0x1fffffffffffffffffffffffffffffbffffffffffffff =
    s.seen 0x1fffffffffffffffffffffffffffffbffffffffffffff) : t.phy.lifeline = s.phy.lifeline := by
  simp only [State.seen, Prod.mk.injEq] at h
  obtain ⟨-, -, -, -, e, -, -, -, -, -, -, -, -, -, -, -, -, -, -, -, -, -, -, -⟩ := h
  simpa [Phy.seen] using e
theorem phy_llChanged_of_seen {s t : State} (h : t.seen 0x1fffffffffffffffffffffffffffff7ffffffffffffff =
    s.seen 0x1fffffffffffffffffffffffffffff7ffffffffffffff) : t.phy.llChanged = s.phy.llChanged := by
  simp only [State.seen, Prod.mk.injEq] at h
  obtain ⟨-, -, -, -, e, -, -, -, -, -, -, -, -, -, -, -, -, -, -, -, -, -, -, -⟩ := h
  simpa [Phy.seen] using e
theorem phy_llBuf_of_seen {s t : State} (h : t.seen 0x1ffffffffffffffffffffffffffffefffffffffffffff =
    s.seen 0x1ffffffffffffffffffffffffffffefffffffffffffff) : t.phy.llBuf = s.phy.llBuf := by
  simp only [State.seen, Prod.mk.injEq] at h
  obtain ⟨-, -, -, -, e, -, -, -, -, -, -, -, -, -, -, -, -, -, -, -, -, -, -, -⟩ := h
  simpa [Phy.seen] using e
theorem phy_boot_of_seen {s t : State} (h : t.seen 0x1ffffffffffffffffffffffffffffdfffffffffffffff =
    s.seen 0x1ffffffffffffffffffffffffffffdfffffffffffffff) : t.phy.boot = s.phy.boot := by
  simp only [State.seen, Prod.mk.injEq] at h
  obtain ⟨-, -, -, -, e, -, -, -, -, -, -, -, -, -, -, -, -, -, -, -, -, -, -, -⟩ := h
  simpa [Phy.seen] using e
theorem phy_gearWait_of_seen {s t : State} (h : t.seen 0x1ffffffffffffffffffffffffffffbfffffffffffffff =
    s.seen 0x1ffffffffffffffffffffffffffffbfffffffffffffff) : t.phy.gearWait = s.phy.gearWait := by
  simp only [State.seen, Prod.mk.injEq] at h
  obtain ⟨-, -, -, -, e, -, -, -, -, -, -, -, -, -, -, -, -, -, -, -, -, -, -, -⟩ := h
  simpa [Phy.seen] using e
theorem phy_gearPending_of_seen {s t : State} (h : t.seen 0x1ffffffffffffffffffffffffffff7fffffffffffffff =
    s.seen 0x1ffffffffffffffffffffffffffff7fffffffffffffff) : t.phy.gearPending = s.phy.gearPending := by
  simp only [State.seen, Prod.mk.injEq] at h
  obtain ⟨-, -, -, -, e, -, -, -, -, -, -, -, -, -, -, -, -, -, -, -, -, -, -, -⟩ := h
  simpa [Phy.seen] using e
theorem phy_gearTo_of_seen {s t : State} (h : t.seen 0x1fffffffffffffffffffffffffffeffffffffffffffff =
    s.seen 0x1fffffffffffffffffffffffffffeffffffffffffffff) : t.phy.gearTo = s.phy.gearTo := by
  simp only [State.seen, Prod.mk.injEq] at h
  obtain ⟨-, -, -, -, e, -, -, -, -, -, -, -, -, -, -, -, -, -, -, -, -, -, -, -⟩ := h
  simpa [Phy.seen] using e
theorem phy_shadow_of_seen {s t : State} (h : t.seen 0x1fffffffffffffffffffffffffffdffffffffffffffff =
    s.seen 0x1fffffffffffffffffffffffffffdffffffffffffffff) : t.phy.shadow = s.phy.shadow := by
  simp only [State.seen, Prod.mk.injEq] at h
  obtain ⟨-, -, -, -, e, -, -, -, -, -, -, -, -, -, -, -, -, -, -, -, -, -, -, -⟩ := h
  simpa [Phy.seen] using e
theorem phy_policyRun_of_seen {s t : State} (h : t.seen 0x1fffffffffffffffffffffffffffbffffffffffffffff =
    s.seen 0x1fffffffffffffffffffffffffffbffffffffffffffff) : t.phy.policyRun = s.phy.policyRun := by
  simp only [State.seen, Prod.mk.injEq] at h
  obtain ⟨-, -, -, -, e, -, -, -, -, -, -, -, -, -, -, -, -, -, -, -, -, -, -, -⟩ := h
  simpa [Phy.seen] using e
theorem ras_units_of_seen {s t : State} (h : t.seen 0x1fffffffffffffffffffffffffff7ffffffffffffffff =
    s.seen 0x1fffffffffffffffffffffffffff7ffffffffffffffff) : t.ras.units = s.ras.units := by
  simp only [State.seen, Prod.mk.injEq] at h
  obtain ⟨-, -, -, -, -, e, -, -, -, -, -, -, -, -, -, -, -, -, -, -, -, -, -, -⟩ := h
  simpa [Ras.seen] using e
theorem ras_log_of_seen {s t : State} (h : t.seen 0x1ffffffffffffffffffffffffffefffffffffffffffff =
    s.seen 0x1ffffffffffffffffffffffffffefffffffffffffffff) : t.ras.log = s.ras.log := by
  simp only [State.seen, Prod.mk.injEq] at h
  obtain ⟨-, -, -, -, -, e, -, -, -, -, -, -, -, -, -, -, -, -, -, -, -, -, -, -⟩ := h
  simpa [Ras.seen] using e
theorem ras_scrub_of_seen {s t : State} (h : t.seen 0x1ffffffffffffffffffffffffffdfffffffffffffffff =
    s.seen 0x1ffffffffffffffffffffffffffdfffffffffffffffff) : t.ras.scrub = s.ras.scrub := by
  simp only [State.seen, Prod.mk.injEq] at h
  obtain ⟨-, -, -, -, -, e, -, -, -, -, -, -, -, -, -, -, -, -, -, -, -, -, -, -⟩ := h
  simpa [Ras.seen] using e
theorem ras_ppr_of_seen {s t : State} (h : t.seen 0x1ffffffffffffffffffffffffffbfffffffffffffffff =
    s.seen 0x1ffffffffffffffffffffffffffbfffffffffffffffff) : t.ras.ppr = s.ras.ppr := by
  simp only [State.seen, Prod.mk.injEq] at h
  obtain ⟨-, -, -, -, -, e, -, -, -, -, -, -, -, -, -, -, -, -, -, -, -, -, -, -⟩ := h
  simpa [Ras.seen] using e
theorem ras_pprWait_of_seen {s t : State} (h : t.seen 0x1ffffffffffffffffffffffffff7fffffffffffffffff =
    s.seen 0x1ffffffffffffffffffffffffff7fffffffffffffffff) : t.ras.pprWait = s.ras.pprWait := by
  simp only [State.seen, Prod.mk.injEq] at h
  obtain ⟨-, -, -, -, -, e, -, -, -, -, -, -, -, -, -, -, -, -, -, -, -, -, -, -⟩ := h
  simpa [Ras.seen] using e
theorem ras_rpl_of_seen {s t : State} (h : t.seen 0x1fffffffffffffffffffffffffeffffffffffffffffff =
    s.seen 0x1fffffffffffffffffffffffffeffffffffffffffffff) : t.ras.rpl = s.ras.rpl := by
  simp only [State.seen, Prod.mk.injEq] at h
  obtain ⟨-, -, -, -, -, e, -, -, -, -, -, -, -, -, -, -, -, -, -, -, -, -, -, -⟩ := h
  simpa [Ras.seen] using e
theorem ras_spare_of_seen {s t : State} (h : t.seen 0x1fffffffffffffffffffffffffdffffffffffffffffff =
    s.seen 0x1fffffffffffffffffffffffffdffffffffffffffffff) : t.ras.spare = s.ras.spare := by
  simp only [State.seen, Prod.mk.injEq] at h
  obtain ⟨-, -, -, -, -, e, -, -, -, -, -, -, -, -, -, -, -, -, -, -, -, -, -, -⟩ := h
  simpa [Ras.seen] using e
theorem ras_dbg_of_seen {s t : State} (h : t.seen 0x1fffffffffffffffffffffffffbffffffffffffffffff =
    s.seen 0x1fffffffffffffffffffffffffbffffffffffffffffff) : t.ras.dbg = s.ras.dbg := by
  simp only [State.seen, Prod.mk.injEq] at h
  obtain ⟨-, -, -, -, -, e, -, -, -, -, -, -, -, -, -, -, -, -, -, -, -, -, -, -⟩ := h
  simpa [Ras.seen] using e
theorem ras_fetch_of_seen {s t : State} (h : t.seen 0x1fffffffffffffffffffffffff7ffffffffffffffffff =
    s.seen 0x1fffffffffffffffffffffffff7ffffffffffffffffff) : t.ras.fetch = s.ras.fetch := by
  simp only [State.seen, Prod.mk.injEq] at h
  obtain ⟨-, -, -, -, -, e, -, -, -, -, -, -, -, -, -, -, -, -, -, -, -, -, -, -⟩ := h
  simpa [Ras.seen] using e
theorem ras_reached_of_seen {s t : State} (h : t.seen 0x1ffffffffffffffffffffffffefffffffffffffffffff =
    s.seen 0x1ffffffffffffffffffffffffefffffffffffffffffff) : t.ras.reached = s.ras.reached := by
  simp only [State.seen, Prod.mk.injEq] at h
  obtain ⟨-, -, -, -, -, e, -, -, -, -, -, -, -, -, -, -, -, -, -, -, -, -, -, -⟩ := h
  simpa [Ras.seen] using e
theorem egp_waiting_of_seen {s t : State} (h : t.seen 0x1ffffffffffffffffffffffffdfffffffffffffffffff =
    s.seen 0x1ffffffffffffffffffffffffdfffffffffffffffffff) : t.egp.waiting = s.egp.waiting := by
  simp only [State.seen, Prod.mk.injEq] at h
  obtain ⟨-, -, -, -, -, -, e, -, -, -, -, -, -, -, -, -, -, -, -, -, -, -, -, -⟩ := h
  simpa [Egp.seen] using e
theorem egp_slots_of_seen {s t : State} (h : t.seen 0x1ffffffffffffffffffffffffbfffffffffffffffffff =
    s.seen 0x1ffffffffffffffffffffffffbfffffffffffffffffff) : t.egp.slots = s.egp.slots := by
  simp only [State.seen, Prod.mk.injEq] at h
  obtain ⟨-, -, -, -, -, -, e, -, -, -, -, -, -, -, -, -, -, -, -, -, -, -, -, -⟩ := h
  simpa [Egp.seen] using e
theorem egp_peak_of_seen {s t : State} (h : t.seen 0x1ffffffffffffffffffffffff7fffffffffffffffffff =
    s.seen 0x1ffffffffffffffffffffffff7fffffffffffffffffff) : t.egp.peak = s.egp.peak := by
  simp only [State.seen, Prod.mk.injEq] at h
  obtain ⟨-, -, -, -, -, -, e, -, -, -, -, -, -, -, -, -, -, -, -, -, -, -, -, -⟩ := h
  simpa [Egp.seen] using e
theorem mir_primary_of_seen {s t : State} (h : t.seen 0x1fffffffffffffffffffffffeffffffffffffffffffff =
    s.seen 0x1fffffffffffffffffffffffeffffffffffffffffffff) : t.mir.primary = s.mir.primary := by
  simp only [State.seen, Prod.mk.injEq] at h
  obtain ⟨-, -, -, -, -, -, -, e, -, -, -, -, -, -, -, -, -, -, -, -, -, -, -, -⟩ := h
  simpa [Mir.seen] using e
theorem mir_pair_of_seen {s t : State} (h : t.seen 0x1fffffffffffffffffffffffdffffffffffffffffffff =
    s.seen 0x1fffffffffffffffffffffffdffffffffffffffffffff) : t.mir.pair = s.mir.pair := by
  simp only [State.seen, Prod.mk.injEq] at h
  obtain ⟨-, -, -, -, -, -, -, e, -, -, -, -, -, -, -, -, -, -, -, -, -, -, -, -⟩ := h
  simpa [Mir.seen] using e
theorem mir_cause_of_seen {s t : State} (h : t.seen 0x1fffffffffffffffffffffffbffffffffffffffffffff =
    s.seen 0x1fffffffffffffffffffffffbffffffffffffffffffff) : t.mir.cause = s.mir.cause := by
  simp only [State.seen, Prod.mk.injEq] at h
  obtain ⟨-, -, -, -, -, -, -, e, -, -, -, -, -, -, -, -, -, -, -, -, -, -, -, -⟩ := h
  simpa [Mir.seen] using e
theorem mir_hold5_of_seen {s t : State} (h : t.seen 0x1fffffffffffffffffffffff7ffffffffffffffffffff =
    s.seen 0x1fffffffffffffffffffffff7ffffffffffffffffffff) : t.mir.hold5 = s.mir.hold5 := by
  simp only [State.seen, Prod.mk.injEq] at h
  obtain ⟨-, -, -, -, -, -, -, e, -, -, -, -, -, -, -, -, -, -, -, -, -, -, -, -⟩ := h
  simpa [Mir.seen] using e
theorem mir_hold6_of_seen {s t : State} (h : t.seen 0x1ffffffffffffffffffffffefffffffffffffffffffff =
    s.seen 0x1ffffffffffffffffffffffefffffffffffffffffffff) : t.mir.hold6 = s.mir.hold6 := by
  simp only [State.seen, Prod.mk.injEq] at h
  obtain ⟨-, -, -, -, -, -, -, e, -, -, -, -, -, -, -, -, -, -, -, -, -, -, -, -⟩ := h
  simpa [Mir.seen] using e
theorem mir_epoch_of_seen {s t : State} (h : t.seen 0x1ffffffffffffffffffffffdfffffffffffffffffffff =
    s.seen 0x1ffffffffffffffffffffffdfffffffffffffffffffff) : t.mir.epoch = s.mir.epoch := by
  simp only [State.seen, Prod.mk.injEq] at h
  obtain ⟨-, -, -, -, -, -, -, e, -, -, -, -, -, -, -, -, -, -, -, -, -, -, -, -⟩ := h
  simpa [Mir.seen] using e
theorem mir_peerEpoch_of_seen {s t : State} (h : t.seen 0x1ffffffffffffffffffffffbfffffffffffffffffffff =
    s.seen 0x1ffffffffffffffffffffffbfffffffffffffffffffff) : t.mir.peerEpoch = s.mir.peerEpoch := by
  simp only [State.seen, Prod.mk.injEq] at h
  obtain ⟨-, -, -, -, -, -, -, e, -, -, -, -, -, -, -, -, -, -, -, -, -, -, -, -⟩ := h
  simpa [Mir.seen] using e
theorem mir_proto_of_seen {s t : State} (h : t.seen 0x1ffffffffffffffffffffff7fffffffffffffffffffff =
    s.seen 0x1ffffffffffffffffffffff7fffffffffffffffffffff) : t.mir.proto = s.mir.proto := by
  simp only [State.seen, Prod.mk.injEq] at h
  obtain ⟨-, -, -, -, -, -, -, e, -, -, -, -, -, -, -, -, -, -, -, -, -, -, -, -⟩ := h
  simpa [Mir.seen] using e
theorem mir_alive_of_seen {s t : State} (h : t.seen 0x1fffffffffffffffffffffeffffffffffffffffffffff =
    s.seen 0x1fffffffffffffffffffffeffffffffffffffffffffff) : t.mir.alive = s.mir.alive := by
  simp only [State.seen, Prod.mk.injEq] at h
  obtain ⟨-, -, -, -, -, -, -, e, -, -, -, -, -, -, -, -, -, -, -, -, -, -, -, -⟩ := h
  simpa [Mir.seen] using e
theorem mir_missedBeats_of_seen {s t : State} (h : t.seen 0x1fffffffffffffffffffffdffffffffffffffffffffff =
    s.seen 0x1fffffffffffffffffffffdffffffffffffffffffffff) : t.mir.missedBeats = s.mir.missedBeats := by
  simp only [State.seen, Prod.mk.injEq] at h
  obtain ⟨-, -, -, -, -, -, -, e, -, -, -, -, -, -, -, -, -, -, -, -, -, -, -, -⟩ := h
  simpa [Mir.seen] using e
theorem mir_exchange_of_seen {s t : State} (h : t.seen 0x1fffffffffffffffffffffbffffffffffffffffffffff =
    s.seen 0x1fffffffffffffffffffffbffffffffffffffffffffff) : t.mir.exchange = s.mir.exchange := by
  simp only [State.seen, Prod.mk.injEq] at h
  obtain ⟨-, -, -, -, -, -, -, e, -, -, -, -, -, -, -, -, -, -, -, -, -, -, -, -⟩ := h
  simpa [Mir.seen] using e
theorem mir_retained_of_seen {s t : State} (h : t.seen 0x1fffffffffffffffffffff7ffffffffffffffffffffff =
    s.seen 0x1fffffffffffffffffffff7ffffffffffffffffffffff) : t.mir.retained = s.mir.retained := by
  simp only [State.seen, Prod.mk.injEq] at h
  obtain ⟨-, -, -, -, -, -, -, e, -, -, -, -, -, -, -, -, -, -, -, -, -, -, -, -⟩ := h
  simpa [Mir.seen] using e
theorem mir_degradedAt_of_seen {s t : State} (h : t.seen 0x1ffffffffffffffffffffefffffffffffffffffffffff =
    s.seen 0x1ffffffffffffffffffffefffffffffffffffffffffff) : t.mir.degradedAt = s.mir.degradedAt := by
  simp only [State.seen, Prod.mk.injEq] at h
  obtain ⟨-, -, -, -, -, -, -, e, -, -, -, -, -, -, -, -, -, -, -, -, -, -, -, -⟩ := h
  simpa [Mir.seen] using e
theorem mir_joinLate_of_seen {s t : State} (h : t.seen 0x1ffffffffffffffffffffdfffffffffffffffffffffff =
    s.seen 0x1ffffffffffffffffffffdfffffffffffffffffffffff) : t.mir.joinLate = s.mir.joinLate := by
  simp only [State.seen, Prod.mk.injEq] at h
  obtain ⟨-, -, -, -, -, -, -, e, -, -, -, -, -, -, -, -, -, -, -, -, -, -, -, -⟩ := h
  simpa [Mir.seen] using e
theorem mir_dirty_of_seen {s t : State} (h : t.seen 0x1ffffffffffffffffffffbfffffffffffffffffffffff =
    s.seen 0x1ffffffffffffffffffffbfffffffffffffffffffffff) : t.mir.dirty = s.mir.dirty := by
  simp only [State.seen, Prod.mk.injEq] at h
  obtain ⟨-, -, -, -, -, -, -, e, -, -, -, -, -, -, -, -, -, -, -, -, -, -, -, -⟩ := h
  simpa [Mir.seen] using e
theorem mir_dirtyCopy_of_seen {s t : State} (h : t.seen 0x1ffffffffffffffffffff7fffffffffffffffffffffff =
    s.seen 0x1ffffffffffffffffffff7fffffffffffffffffffffff) : t.mir.dirtyCopy = s.mir.dirtyCopy := by
  simp only [State.seen, Prod.mk.injEq] at h
  obtain ⟨-, -, -, -, -, -, -, e, -, -, -, -, -, -, -, -, -, -, -, -, -, -, -, -⟩ := h
  simpa [Mir.seen] using e
theorem mir_recordMsgs_of_seen {s t : State} (h : t.seen 0x1fffffffffffffffffffeffffffffffffffffffffffff =
    s.seen 0x1fffffffffffffffffffeffffffffffffffffffffffff) : t.mir.recordMsgs = s.mir.recordMsgs := by
  simp only [State.seen, Prod.mk.injEq] at h
  obtain ⟨-, -, -, -, -, -, -, e, -, -, -, -, -, -, -, -, -, -, -, -, -, -, -, -⟩ := h
  simpa [Mir.seen] using e
theorem mir_walk_of_seen {s t : State} (h : t.seen 0x1fffffffffffffffffffdffffffffffffffffffffffff =
    s.seen 0x1fffffffffffffffffffdffffffffffffffffffffffff) : t.mir.walk = s.mir.walk := by
  simp only [State.seen, Prod.mk.injEq] at h
  obtain ⟨-, -, -, -, -, -, -, e, -, -, -, -, -, -, -, -, -, -, -, -, -, -, -, -⟩ := h
  simpa [Mir.seen] using e
theorem mir_walkOk_of_seen {s t : State} (h : t.seen 0x1fffffffffffffffffffbffffffffffffffffffffffff =
    s.seen 0x1fffffffffffffffffffbffffffffffffffffffffffff) : t.mir.walkOk = s.mir.walkOk := by
  simp only [State.seen, Prod.mk.injEq] at h
  obtain ⟨-, -, -, -, -, -, -, e, -, -, -, -, -, -, -, -, -, -, -, -, -, -, -, -⟩ := h
  simpa [Mir.seen] using e
theorem mir_role_of_seen {s t : State} (h : t.seen 0x1fffffffffffffffffff7ffffffffffffffffffffffff =
    s.seen 0x1fffffffffffffffffff7ffffffffffffffffffffffff) : t.mir.role = s.mir.role := by
  simp only [State.seen, Prod.mk.injEq] at h
  obtain ⟨-, -, -, -, -, -, -, e, -, -, -, -, -, -, -, -, -, -, -, -, -, -, -, -⟩ := h
  simpa [Mir.seen] using e
theorem mir_unconf_of_seen {s t : State} (h : t.seen 0x1ffffffffffffffffffefffffffffffffffffffffffff =
    s.seen 0x1ffffffffffffffffffefffffffffffffffffffffffff) : t.mir.unconf = s.mir.unconf := by
  simp only [State.seen, Prod.mk.injEq] at h
  obtain ⟨-, -, -, -, -, -, -, e, -, -, -, -, -, -, -, -, -, -, -, -, -, -, -, -⟩ := h
  simpa [Mir.seen] using e
theorem mir_record_of_seen {s t : State} (h : t.seen 0x1ffffffffffffffffffdfffffffffffffffffffffffff =
    s.seen 0x1ffffffffffffffffffdfffffffffffffffffffffffff) : t.mir.record = s.mir.record := by
  simp only [State.seen, Prod.mk.injEq] at h
  obtain ⟨-, -, -, -, -, -, -, e, -, -, -, -, -, -, -, -, -, -, -, -, -, -, -, -⟩ := h
  simpa [Mir.seen] using e
theorem mir_ctlBusy_of_seen {s t : State} (h : t.seen 0x1ffffffffffffffffffbfffffffffffffffffffffffff =
    s.seen 0x1ffffffffffffffffffbfffffffffffffffffffffffff) : t.mir.ctlBusy = s.mir.ctlBusy := by
  simp only [State.seen, Prod.mk.injEq] at h
  obtain ⟨-, -, -, -, -, -, -, e, -, -, -, -, -, -, -, -, -, -, -, -, -, -, -, -⟩ := h
  simpa [Mir.seen] using e
theorem mir_locks_of_seen {s t : State} (h : t.seen 0x1ffffffffffffffffff7fffffffffffffffffffffffff =
    s.seen 0x1ffffffffffffffffff7fffffffffffffffffffffffff) : t.mir.locks = s.mir.locks := by
  simp only [State.seen, Prod.mk.injEq] at h
  obtain ⟨-, -, -, -, -, -, -, e, -, -, -, -, -, -, -, -, -, -, -, -, -, -, -, -⟩ := h
  simpa [Mir.seen] using e
theorem dom_inbox_of_seen {s t : State} (h : t.seen 0x1fffffffffffffffffeffffffffffffffffffffffffff =
    s.seen 0x1fffffffffffffffffeffffffffffffffffffffffffff) : t.dom.inbox = s.dom.inbox := by
  simp only [State.seen, Prod.mk.injEq] at h
  obtain ⟨-, -, -, -, -, -, -, -, e, -, -, -, -, -, -, -, -, -, -, -, -, -, -, -⟩ := h
  simpa [Dom.seen] using e
theorem dom_seqOut_of_seen {s t : State} (h : t.seen 0x1fffffffffffffffffdffffffffffffffffffffffffff =
    s.seen 0x1fffffffffffffffffdffffffffffffffffffffffffff) : t.dom.seqOut = s.dom.seqOut := by
  simp only [State.seen, Prod.mk.injEq] at h
  obtain ⟨-, -, -, -, -, -, -, -, e, -, -, -, -, -, -, -, -, -, -, -, -, -, -, -⟩ := h
  simpa [Dom.seen] using e
theorem dom_round_of_seen {s t : State} (h : t.seen 0x1fffffffffffffffffbffffffffffffffffffffffffff =
    s.seen 0x1fffffffffffffffffbffffffffffffffffffffffffff) : t.dom.round = s.dom.round := by
  simp only [State.seen, Prod.mk.injEq] at h
  obtain ⟨-, -, -, -, -, -, -, -, e, -, -, -, -, -, -, -, -, -, -, -, -, -, -, -⟩ := h
  simpa [Dom.seen] using e
theorem dom_res_of_seen {s t : State} (h : t.seen 0x1fffffffffffffffff7ffffffffffffffffffffffffff =
    s.seen 0x1fffffffffffffffff7ffffffffffffffffffffffffff) : t.dom.res = s.dom.res := by
  simp only [State.seen, Prod.mk.injEq] at h
  obtain ⟨-, -, -, -, -, -, -, -, e, -, -, -, -, -, -, -, -, -, -, -, -, -, -, -⟩ := h
  simpa [Dom.seen] using e
theorem dom_snap_of_seen {s t : State} (h : t.seen 0x1ffffffffffffffffefffffffffffffffffffffffffff =
    s.seen 0x1ffffffffffffffffefffffffffffffffffffffffffff) : t.dom.snap = s.dom.snap := by
  simp only [State.seen, Prod.mk.injEq] at h
  obtain ⟨-, -, -, -, -, -, -, -, e, -, -, -, -, -, -, -, -, -, -, -, -, -, -, -⟩ := h
  simpa [Dom.seen] using e
theorem dom_snapHeld_of_seen {s t : State} (h : t.seen 0x1ffffffffffffffffdfffffffffffffffffffffffffff =
    s.seen 0x1ffffffffffffffffdfffffffffffffffffffffffffff) : t.dom.snapHeld = s.dom.snapHeld := by
  simp only [State.seen, Prod.mk.injEq] at h
  obtain ⟨-, -, -, -, -, -, -, -, e, -, -, -, -, -, -, -, -, -, -, -, -, -, -, -⟩ := h
  simpa [Dom.seen] using e
theorem dom_startedAt_of_seen {s t : State} (h : t.seen 0x1ffffffffffffffffbfffffffffffffffffffffffffff =
    s.seen 0x1ffffffffffffffffbfffffffffffffffffffffffffff) : t.dom.startedAt = s.dom.startedAt := by
  simp only [State.seen, Prod.mk.injEq] at h
  obtain ⟨-, -, -, -, -, -, -, -, e, -, -, -, -, -, -, -, -, -, -, -, -, -, -, -⟩ := h
  simpa [Dom.seen] using e
theorem dom_lowInitAt_of_seen {s t : State} (h : t.seen 0x1ffffffffffffffff7fffffffffffffffffffffffffff =
    s.seen 0x1ffffffffffffffff7fffffffffffffffffffffffffff) : t.dom.lowInitAt = s.dom.lowInitAt := by
  simp only [State.seen, Prod.mk.injEq] at h
  obtain ⟨-, -, -, -, -, -, -, -, e, -, -, -, -, -, -, -, -, -, -, -, -, -, -, -⟩ := h
  simpa [Dom.seen] using e
theorem dom_told_of_seen {s t : State} (h : t.seen 0x1fffffffffffffffeffffffffffffffffffffffffffff =
    s.seen 0x1fffffffffffffffeffffffffffffffffffffffffffff) : t.dom.told = s.dom.told := by
  simp only [State.seen, Prod.mk.injEq] at h
  obtain ⟨-, -, -, -, -, -, -, -, e, -, -, -, -, -, -, -, -, -, -, -, -, -, -, -⟩ := h
  simpa [Dom.seen] using e
theorem dom_out_of_seen {s t : State} (h : t.seen 0x1fffffffffffffffdffffffffffffffffffffffffffff =
    s.seen 0x1fffffffffffffffdffffffffffffffffffffffffffff) : t.dom.out = s.dom.out := by
  simp only [State.seen, Prod.mk.injEq] at h
  obtain ⟨-, -, -, -, -, -, -, -, e, -, -, -, -, -, -, -, -, -, -, -, -, -, -, -⟩ := h
  simpa [Dom.seen] using e
theorem img_words_of_seen {s t : State} (h : t.seen 0x1fffffffffffffffbffffffffffffffffffffffffffff =
    s.seen 0x1fffffffffffffffbffffffffffffffffffffffffffff) : t.img.words = s.img.words := by
  simp only [State.seen, Prod.mk.injEq] at h
  obtain ⟨-, -, -, -, -, -, -, -, -, e, -, -, -, -, -, -, -, -, -, -, -, -, -, -⟩ := h
  simpa [Img.seen] using e
theorem img_staging_of_seen {s t : State} (h : t.seen 0x1fffffffffffffff7ffffffffffffffffffffffffffff =
    s.seen 0x1fffffffffffffff7ffffffffffffffffffffffffffff) : t.img.staging = s.img.staging := by
  simp only [State.seen, Prod.mk.injEq] at h
  obtain ⟨-, -, -, -, -, -, -, -, -, e, -, -, -, -, -, -, -, -, -, -, -, -, -, -⟩ := h
  simpa [Img.seen] using e
theorem img_fetch_of_seen {s t : State} (h : t.seen 0x1ffffffffffffffefffffffffffffffffffffffffffff =
    s.seen 0x1ffffffffffffffefffffffffffffffffffffffffffff) : t.img.fetch = s.img.fetch := by
  simp only [State.seen, Prod.mk.injEq] at h
  obtain ⟨-, -, -, -, -, -, -, -, -, e, -, -, -, -, -, -, -, -, -, -, -, -, -, -⟩ := h
  simpa [Img.seen] using e
theorem img_applied_of_seen {s t : State} (h : t.seen 0x1ffffffffffffffdfffffffffffffffffffffffffffff =
    s.seen 0x1ffffffffffffffdfffffffffffffffffffffffffffff) : t.img.applied = s.img.applied := by
  simp only [State.seen, Prod.mk.injEq] at h
  obtain ⟨-, -, -, -, -, -, -, -, -, e, -, -, -, -, -, -, -, -, -, -, -, -, -, -⟩ := h
  simpa [Img.seen] using e
theorem img_rl_of_seen {s t : State} (h : t.seen 0x1ffffffffffffffbfffffffffffffffffffffffffffff =
    s.seen 0x1ffffffffffffffbfffffffffffffffffffffffffffff) : t.img.rl = s.img.rl := by
  simp only [State.seen, Prod.mk.injEq] at h
  obtain ⟨-, -, -, -, -, -, -, -, -, e, -, -, -, -, -, -, -, -, -, -, -, -, -, -⟩ := h
  simpa [Img.seen] using e
theorem img_bcastId_of_seen {s t : State} (h : t.seen 0x1ffffffffffffff7fffffffffffffffffffffffffffff =
    s.seen 0x1ffffffffffffff7fffffffffffffffffffffffffffff) : t.img.bcastId = s.img.bcastId := by
  simp only [State.seen, Prod.mk.injEq] at h
  obtain ⟨-, -, -, -, -, -, -, -, -, e, -, -, -, -, -, -, -, -, -, -, -, -, -, -⟩ := h
  simpa [Img.seen] using e
theorem img_bcastBack_of_seen {s t : State} (h : t.seen 0x1fffffffffffffeffffffffffffffffffffffffffffff =
    s.seen 0x1fffffffffffffeffffffffffffffffffffffffffffff) : t.img.bcastBack = s.img.bcastBack := by
  simp only [State.seen, Prod.mk.injEq] at h
  obtain ⟨-, -, -, -, -, -, -, -, -, e, -, -, -, -, -, -, -, -, -, -, -, -, -, -⟩ := h
  simpa [Img.seen] using e
theorem img_bcastTo_of_seen {s t : State} (h : t.seen 0x1fffffffffffffdffffffffffffffffffffffffffffff =
    s.seen 0x1fffffffffffffdffffffffffffffffffffffffffffff) : t.img.bcastTo = s.img.bcastTo := by
  simp only [State.seen, Prod.mk.injEq] at h
  obtain ⟨-, -, -, -, -, -, -, -, -, e, -, -, -, -, -, -, -, -, -, -, -, -, -, -⟩ := h
  simpa [Img.seen] using e
theorem img_bcastPh_of_seen {s t : State} (h : t.seen 0x1fffffffffffffbffffffffffffffffffffffffffffff =
    s.seen 0x1fffffffffffffbffffffffffffffffffffffffffffff) : t.img.bcastPh = s.img.bcastPh := by
  simp only [State.seen, Prod.mk.injEq] at h
  obtain ⟨-, -, -, -, -, -, -, -, -, e, -, -, -, -, -, -, -, -, -, -, -, -, -, -⟩ := h
  simpa [Img.seen] using e
theorem img_appliedBy_of_seen {s t : State} (h : t.seen 0x1fffffffffffff7ffffffffffffffffffffffffffffff =
    s.seen 0x1fffffffffffff7ffffffffffffffffffffffffffffff) : t.img.appliedBy = s.img.appliedBy := by
  simp only [State.seen, Prod.mk.injEq] at h
  obtain ⟨-, -, -, -, -, -, -, -, -, e, -, -, -, -, -, -, -, -, -, -, -, -, -, -⟩ := h
  simpa [Img.seen] using e
theorem glg_inst_of_seen {s t : State} (h : t.seen 0x1ffffffffffffefffffffffffffffffffffffffffffff =
    s.seen 0x1ffffffffffffefffffffffffffffffffffffffffffff) : t.glg.inst = s.glg.inst := by
  simp only [State.seen, Prod.mk.injEq] at h
  obtain ⟨-, -, -, -, -, -, -, -, -, -, e, -, -, -, -, -, -, -, -, -, -, -, -, -⟩ := h
  simpa [Glg.seen] using e
theorem glg_window_of_seen {s t : State} (h : t.seen 0x1ffffffffffffdfffffffffffffffffffffffffffffff =
    s.seen 0x1ffffffffffffdfffffffffffffffffffffffffffffff) : t.glg.window = s.glg.window := by
  simp only [State.seen, Prod.mk.injEq] at h
  obtain ⟨-, -, -, -, -, -, -, -, -, -, e, -, -, -, -, -, -, -, -, -, -, -, -, -⟩ := h
  simpa [Glg.seen] using e
theorem glg_activeSet_of_seen {s t : State} (h : t.seen 0x1ffffffffffffbfffffffffffffffffffffffffffffff =
    s.seen 0x1ffffffffffffbfffffffffffffffffffffffffffffff) : t.glg.activeSet = s.glg.activeSet := by
  simp only [State.seen, Prod.mk.injEq] at h
  obtain ⟨-, -, -, -, -, -, -, -, -, -, e, -, -, -, -, -, -, -, -, -, -, -, -, -⟩ := h
  simpa [Glg.seen] using e
theorem glg_swapPending_of_seen {s t : State} (h : t.seen 0x1ffffffffffff7fffffffffffffffffffffffffffffff =
    s.seen 0x1ffffffffffff7fffffffffffffffffffffffffffffff) : t.glg.swapPending = s.glg.swapPending := by
  simp only [State.seen, Prod.mk.injEq] at h
  obtain ⟨-, -, -, -, -, -, -, -, -, -, e, -, -, -, -, -, -, -, -, -, -, -, -, -⟩ := h
  simpa [Glg.seen] using e
theorem glg_mboxBusy_of_seen {s t : State} (h : t.seen 0x1fffffffffffeffffffffffffffffffffffffffffffff =
    s.seen 0x1fffffffffffeffffffffffffffffffffffffffffffff) : t.glg.mboxBusy = s.glg.mboxBusy := by
  simp only [State.seen, Prod.mk.injEq] at h
  obtain ⟨-, -, -, -, -, -, -, -, -, -, e, -, -, -, -, -, -, -, -, -, -, -, -, -⟩ := h
  simpa [Glg.seen] using e
theorem glg_wide_of_seen {s t : State} (h : t.seen 0x1fffffffffffdffffffffffffffffffffffffffffffff =
    s.seen 0x1fffffffffffdffffffffffffffffffffffffffffffff) : t.glg.wide = s.glg.wide := by
  simp only [State.seen, Prod.mk.injEq] at h
  obtain ⟨-, -, -, -, -, -, -, -, -, -, e, -, -, -, -, -, -, -, -, -, -, -, -, -⟩ := h
  simpa [Glg.seen] using e
theorem glg_turn_of_seen {s t : State} (h : t.seen 0x1fffffffffffbffffffffffffffffffffffffffffffff =
    s.seen 0x1fffffffffffbffffffffffffffffffffffffffffffff) : t.glg.turn = s.glg.turn := by
  simp only [State.seen, Prod.mk.injEq] at h
  obtain ⟨-, -, -, -, -, -, -, -, -, -, e, -, -, -, -, -, -, -, -, -, -, -, -, -⟩ := h
  simpa [Glg.seen] using e
theorem pwr_sc_of_seen {s t : State} (h : t.seen 0x1fffffffffff7ffffffffffffffffffffffffffffffff =
    s.seen 0x1fffffffffff7ffffffffffffffffffffffffffffffff) : t.pwr.sc = s.pwr.sc := by
  simp only [State.seen, Prod.mk.injEq] at h
  obtain ⟨-, -, -, -, -, -, -, -, -, -, -, e, -, -, -, -, -, -, -, -, -, -, -, -⟩ := h
  simpa [Pwr.seen] using e
theorem pwr_due_of_seen {s t : State} (h : t.seen 0x1ffffffffffefffffffffffffffffffffffffffffffff =
    s.seen 0x1ffffffffffefffffffffffffffffffffffffffffffff) : t.pwr.due = s.pwr.due := by
  simp only [State.seen, Prod.mk.injEq] at h
  obtain ⟨-, -, -, -, -, -, -, -, -, -, -, e, -, -, -, -, -, -, -, -, -, -, -, -⟩ := h
  simpa [Pwr.seen] using e
theorem pwr_waking_of_seen {s t : State} (h : t.seen 0x1ffffffffffdfffffffffffffffffffffffffffffffff =
    s.seen 0x1ffffffffffdfffffffffffffffffffffffffffffffff) : t.pwr.waking = s.pwr.waking := by
  simp only [State.seen, Prod.mk.injEq] at h
  obtain ⟨-, -, -, -, -, -, -, -, -, -, -, e, -, -, -, -, -, -, -, -, -, -, -, -⟩ := h
  simpa [Pwr.seen] using e
theorem pwr_deferred_of_seen {s t : State} (h : t.seen 0x1ffffffffffbfffffffffffffffffffffffffffffffff =
    s.seen 0x1ffffffffffbfffffffffffffffffffffffffffffffff) : t.pwr.deferred = s.pwr.deferred := by
  simp only [State.seen, Prod.mk.injEq] at h
  obtain ⟨-, -, -, -, -, -, -, -, -, -, -, e, -, -, -, -, -, -, -, -, -, -, -, -⟩ := h
  simpa [Pwr.seen] using e
theorem pwr_integ_of_seen {s t : State} (h : t.seen 0x1ffffffffff7fffffffffffffffffffffffffffffffff =
    s.seen 0x1ffffffffff7fffffffffffffffffffffffffffffffff) : t.pwr.integ = s.pwr.integ := by
  simp only [State.seen, Prod.mk.injEq] at h
  obtain ⟨-, -, -, -, -, -, -, -, -, -, -, e, -, -, -, -, -, -, -, -, -, -, -, -⟩ := h
  simpa [Pwr.seen] using e
theorem pwr_u_of_seen {s t : State} (h : t.seen 0x1fffffffffeffffffffffffffffffffffffffffffffff =
    s.seen 0x1fffffffffeffffffffffffffffffffffffffffffffff) : t.pwr.u = s.pwr.u := by
  simp only [State.seen, Prod.mk.injEq] at h
  obtain ⟨-, -, -, -, -, -, -, -, -, -, -, e, -, -, -, -, -, -, -, -, -, -, -, -⟩ := h
  simpa [Pwr.seen] using e
theorem pwr_critical_of_seen {s t : State} (h : t.seen 0x1fffffffffdffffffffffffffffffffffffffffffffff =
    s.seen 0x1fffffffffdffffffffffffffffffffffffffffffffff) : t.pwr.critical = s.pwr.critical := by
  simp only [State.seen, Prod.mk.injEq] at h
  obtain ⟨-, -, -, -, -, -, -, -, -, -, -, e, -, -, -, -, -, -, -, -, -, -, -, -⟩ := h
  simpa [Pwr.seen] using e
theorem pwr_tMax_of_seen {s t : State} (h : t.seen 0x1fffffffffbffffffffffffffffffffffffffffffffff =
    s.seen 0x1fffffffffbffffffffffffffffffffffffffffffffff) : t.pwr.tMax = s.pwr.tMax := by
  simp only [State.seen, Prod.mk.injEq] at h
  obtain ⟨-, -, -, -, -, -, -, -, -, -, -, e, -, -, -, -, -, -, -, -, -, -, -, -⟩ := h
  simpa [Pwr.seen] using e
theorem pwr_dormantAt_of_seen {s t : State} (h : t.seen 0x1fffffffff7ffffffffffffffffffffffffffffffffff =
    s.seen 0x1fffffffff7ffffffffffffffffffffffffffffffffff) : t.pwr.dormantAt = s.pwr.dormantAt := by
  simp only [State.seen, Prod.mk.injEq] at h
  obtain ⟨-, -, -, -, -, -, -, -, -, -, -, e, -, -, -, -, -, -, -, -, -, -, -, -⟩ := h
  simpa [Pwr.seen] using e
theorem pwr_bo_of_seen {s t : State} (h : t.seen 0x1ffffffffefffffffffffffffffffffffffffffffffff =
    s.seen 0x1ffffffffefffffffffffffffffffffffffffffffffff) : t.pwr.bo = s.pwr.bo := by
  simp only [State.seen, Prod.mk.injEq] at h
  obtain ⟨-, -, -, -, -, -, -, -, -, -, -, e, -, -, -, -, -, -, -, -, -, -, -, -⟩ := h
  simpa [Pwr.seen] using e
theorem evt_buf_of_seen {s t : State} (h : t.seen 0x1ffffffffdfffffffffffffffffffffffffffffffffff =
    s.seen 0x1ffffffffdfffffffffffffffffffffffffffffffffff) : t.evt.buf = s.evt.buf := by
  simp only [State.seen, Prod.mk.injEq] at h
  obtain ⟨-, -, -, -, -, -, -, -, -, -, -, -, e, -, -, -, -, -, -, -, -, -, -, -⟩ := h
  simpa [Evt.seen] using e
theorem evt_chain_of_seen {s t : State} (h : t.seen 0x1ffffffffbfffffffffffffffffffffffffffffffffff =
    s.seen 0x1ffffffffbfffffffffffffffffffffffffffffffffff) : t.evt.chain = s.evt.chain := by
  simp only [State.seen, Prod.mk.injEq] at h
  obtain ⟨-, -, -, -, -, -, -, -, -, -, -, -, e, -, -, -, -, -, -, -, -, -, -, -⟩ := h
  simpa [Evt.seen] using e
theorem evt_pend_of_seen {s t : State} (h : t.seen 0x1ffffffff7fffffffffffffffffffffffffffffffffff =
    s.seen 0x1ffffffff7fffffffffffffffffffffffffffffffffff) : t.evt.pend = s.evt.pend := by
  simp only [State.seen, Prod.mk.injEq] at h
  obtain ⟨-, -, -, -, -, -, -, -, -, -, -, -, e, -, -, -, -, -, -, -, -, -, -, -⟩ := h
  simpa [Evt.seen] using e
theorem evt_nextSeq_of_seen {s t : State} (h : t.seen 0x1fffffffeffffffffffffffffffffffffffffffffffff =
    s.seen 0x1fffffffeffffffffffffffffffffffffffffffffffff) : t.evt.nextSeq = s.evt.nextSeq := by
  simp only [State.seen, Prod.mk.injEq] at h
  obtain ⟨-, -, -, -, -, -, -, -, -, -, -, -, e, -, -, -, -, -, -, -, -, -, -, -⟩ := h
  simpa [Evt.seen] using e
theorem evt_lim_of_seen {s t : State} (h : t.seen 0x1fffffffdffffffffffffffffffffffffffffffffffff =
    s.seen 0x1fffffffdffffffffffffffffffffffffffffffffffff) : t.evt.lim = s.evt.lim := by
  simp only [State.seen, Prod.mk.injEq] at h
  obtain ⟨-, -, -, -, -, -, -, -, -, -, -, -, e, -, -, -, -, -, -, -, -, -, -, -⟩ := h
  simpa [Evt.seen] using e
theorem evt_expiries_of_seen {s t : State} (h : t.seen 0x1fffffffbffffffffffffffffffffffffffffffffffff =
    s.seen 0x1fffffffbffffffffffffffffffffffffffffffffffff) : t.evt.expiries = s.evt.expiries := by
  simp only [State.seen, Prod.mk.injEq] at h
  obtain ⟨-, -, -, -, -, -, -, -, -, -, -, -, e, -, -, -, -, -, -, -, -, -, -, -⟩ := h
  simpa [Evt.seen] using e
theorem pp_of_seen {s t : State} (h : t.seen 0x1ff7fffffffffffffffffffffffffffffffffffffffff =
    s.seen 0x1ff7fffffffffffffffffffffffffffffffffffffffff) : t.pp = s.pp := by
  simp only [State.seen, Prod.mk.injEq] at h
  obtain ⟨-, -, -, -, -, -, -, -, -, -, -, -, -, -, e, -, -, -, -, -, -, -, -, -⟩ := h
  simpa using e
theorem ports_of_seen {s t : State} (h : t.seen 0x1feffffffffffffffffffffffffffffffffffffffffff =
    s.seen 0x1feffffffffffffffffffffffffffffffffffffffffff) : t.ports = s.ports := by
  simp only [State.seen, Prod.mk.injEq] at h
  obtain ⟨-, -, -, -, -, -, -, -, -, -, -, -, -, -, -, e, -, -, -, -, -, -, -, -⟩ := h
  simpa using e
theorem reqs_of_seen {s t : State} (h : t.seen 0x1fdffffffffffffffffffffffffffffffffffffffffff =
    s.seen 0x1fdffffffffffffffffffffffffffffffffffffffffff) : t.reqs = s.reqs := by
  simp only [State.seen, Prod.mk.injEq] at h
  obtain ⟨-, -, -, -, -, -, -, -, -, -, -, -, -, -, -, -, e, -, -, -, -, -, -, -⟩ := h
  simpa using e
theorem nextId_of_seen {s t : State} (h : t.seen 0x1fbffffffffffffffffffffffffffffffffffffffffff =
    s.seen 0x1fbffffffffffffffffffffffffffffffffffffffffff) : t.nextId = s.nextId := by
  simp only [State.seen, Prod.mk.injEq] at h
  obtain ⟨-, -, -, -, -, -, -, -, -, -, -, -, -, -, -, -, -, e, -, -, -, -, -, -⟩ := h
  simpa using e
theorem sched_of_seen {s t : State} (h : t.seen 0x1f7ffffffffffffffffffffffffffffffffffffffffff =
    s.seen 0x1f7ffffffffffffffffffffffffffffffffffffffffff) : t.sched = s.sched := by
  simp only [State.seen, Prod.mk.injEq] at h
  obtain ⟨-, -, -, -, -, -, -, -, -, -, -, -, -, -, -, -, -, -, e, -, -, -, -, -⟩ := h
  simpa using e
theorem alert_of_seen {s t : State} (h : t.seen 0x1efffffffffffffffffffffffffffffffffffffffffff =
    s.seen 0x1efffffffffffffffffffffffffffffffffffffffffff) : t.alert = s.alert := by
  simp only [State.seen, Prod.mk.injEq] at h
  obtain ⟨-, -, -, -, -, -, -, -, -, -, -, -, -, -, -, -, -, -, -, e, -, -, -, -⟩ := h
  simpa using e
theorem out_of_seen {s t : State} (h : t.seen 0x1dfffffffffffffffffffffffffffffffffffffffffff =
    s.seen 0x1dfffffffffffffffffffffffffffffffffffffffffff) : t.out = s.out := by
  simp only [State.seen, Prod.mk.injEq] at h
  obtain ⟨-, -, -, -, -, -, -, -, -, -, -, -, -, -, -, -, -, -, -, -, e, -, -, -⟩ := h
  simpa using e
theorem raised_of_seen {s t : State} (h : t.seen 0x1bfffffffffffffffffffffffffffffffffffffffffff =
    s.seen 0x1bfffffffffffffffffffffffffffffffffffffffffff) : t.raised = s.raised := by
  simp only [State.seen, Prod.mk.injEq] at h
  obtain ⟨-, -, -, -, -, -, -, -, -, -, -, -, -, -, -, -, -, -, -, -, -, e, -, -⟩ := h
  simpa using e
theorem free_of_seen {s t : State} (h : t.seen 0x17fffffffffffffffffffffffffffffffffffffffffff =
    s.seen 0x17fffffffffffffffffffffffffffffffffffffffffff) : t.free = s.free := by
  simp only [State.seen, Prod.mk.injEq] at h
  obtain ⟨-, -, -, -, -, -, -, -, -, -, -, -, -, -, -, -, -, -, -, -, -, -, e, -⟩ := h
  simpa using e
theorem pending_of_seen {s t : State} (h : t.seen 0xffffffffffffffffffffffffffffffffffffffffffff =
    s.seen 0xffffffffffffffffffffffffffffffffffffffffffff) : t.pending = s.pending := by
  simp only [State.seen, Prod.mk.injEq] at h
  obtain ⟨-, -, -, -, -, -, -, -, -, -, -, -, -, -, -, -, -, -, -, -, -, -, -, e⟩ := h
  simpa using e
theorem glb_of_seen {s t : State} (h : t.seen 0x1fffffffffffffffffffffffffffffffffffffe000000 =
    s.seen 0x1fffffffffffffffffffffffffffffffffffffe000000) : t.glb = s.glb := by
  simp only [State.seen, Prod.mk.injEq] at h
  obtain ⟨e, -, -, -, -, -, -, -, -, -, -, -, -, -, -, -, -, -, -, -, -, -, -, -⟩ := h
  generalize t.glb = a at e ⊢
  generalize s.glb = b at e ⊢
  cases a; cases b; simpa [Glb.seen] using e
theorem qz_of_seen {s t : State} (h : t.seen 0x1ffffffffffffffffffffffffffffffffffff81ffffff =
    s.seen 0x1ffffffffffffffffffffffffffffffffffff81ffffff) : t.qz = s.qz := by
  simp only [State.seen, Prod.mk.injEq] at h
  obtain ⟨-, e, -, -, -, -, -, -, -, -, -, -, -, -, -, -, -, -, -, -, -, -, -, -⟩ := h
  generalize t.qz = a at e ⊢
  generalize s.qz = b at e ⊢
  cases a; cases b; simpa [Qz.seen] using e
theorem ref_of_seen {s t : State} (h : t.seen 0x1fffffffffffffffffffffffffffffffff0007fffffff =
    s.seen 0x1fffffffffffffffffffffffffffffffff0007fffffff) : t.ref = s.ref := by
  simp only [State.seen, Prod.mk.injEq] at h
  obtain ⟨-, -, e, -, -, -, -, -, -, -, -, -, -, -, -, -, -, -, -, -, -, -, -, -⟩ := h
  generalize t.ref = a at e ⊢
  generalize s.ref = b at e ⊢
  cases a; cases b; simpa [Ref.seen] using e
theorem qos_of_seen {s t : State} (h : t.seen 0x1fffffffffffffffffffffffffffffe000fffffffffff =
    s.seen 0x1fffffffffffffffffffffffffffffe000fffffffffff) : t.qos = s.qos := by
  simp only [State.seen, Prod.mk.injEq] at h
  obtain ⟨-, -, -, e, -, -, -, -, -, -, -, -, -, -, -, -, -, -, -, -, -, -, -, -⟩ := h
  generalize t.qos = a at e ⊢
  generalize s.qos = b at e ⊢
  cases a; cases b; simpa [Qos.seen] using e
theorem phy_of_seen {s t : State} (h : t.seen 0x1fffffffffffffffffffffffffff801ffffffffffffff =
    s.seen 0x1fffffffffffffffffffffffffff801ffffffffffffff) : t.phy = s.phy := by
  simp only [State.seen, Prod.mk.injEq] at h
  obtain ⟨-, -, -, -, e, -, -, -, -, -, -, -, -, -, -, -, -, -, -, -, -, -, -, -⟩ := h
  generalize t.phy = a at e ⊢
  generalize s.phy = b at e ⊢
  cases a; cases b; simpa [Phy.seen] using e
theorem ras_of_seen {s t : State} (h : t.seen 0x1ffffffffffffffffffffffffe007ffffffffffffffff =
    s.seen 0x1ffffffffffffffffffffffffe007ffffffffffffffff) : t.ras = s.ras := by
  simp only [State.seen, Prod.mk.injEq] at h
  obtain ⟨-, -, -, -, -, e, -, -, -, -, -, -, -, -, -, -, -, -, -, -, -, -, -, -⟩ := h
  generalize t.ras = a at e ⊢
  generalize s.ras = b at e ⊢
  cases a; cases b; simpa [Ras.seen] using e
theorem egp_of_seen {s t : State} (h : t.seen 0x1ffffffffffffffffffffffff1fffffffffffffffffff =
    s.seen 0x1ffffffffffffffffffffffff1fffffffffffffffffff) : t.egp = s.egp := by
  simp only [State.seen, Prod.mk.injEq] at h
  obtain ⟨-, -, -, -, -, -, e, -, -, -, -, -, -, -, -, -, -, -, -, -, -, -, -, -⟩ := h
  generalize t.egp = a at e ⊢
  generalize s.egp = b at e ⊢
  cases a; cases b; simpa [Egp.seen] using e
theorem mir_of_seen {s t : State} (h : t.seen 0x1ffffffffffffffffff000000ffffffffffffffffffff =
    s.seen 0x1ffffffffffffffffff000000ffffffffffffffffffff) : t.mir = s.mir := by
  simp only [State.seen, Prod.mk.injEq] at h
  obtain ⟨-, -, -, -, -, -, -, e, -, -, -, -, -, -, -, -, -, -, -, -, -, -, -, -⟩ := h
  generalize t.mir = a at e ⊢
  generalize s.mir = b at e ⊢
  cases a; cases b; simpa [Mir.seen] using e
theorem dom_of_seen {s t : State} (h : t.seen 0x1fffffffffffffffc00ffffffffffffffffffffffffff =
    s.seen 0x1fffffffffffffffc00ffffffffffffffffffffffffff) : t.dom = s.dom := by
  simp only [State.seen, Prod.mk.injEq] at h
  obtain ⟨-, -, -, -, -, -, -, -, e, -, -, -, -, -, -, -, -, -, -, -, -, -, -, -⟩ := h
  generalize t.dom = a at e ⊢
  generalize s.dom = b at e ⊢
  cases a; cases b; simpa [Dom.seen] using e
theorem img_of_seen {s t : State} (h : t.seen 0x1fffffffffffff003ffffffffffffffffffffffffffff =
    s.seen 0x1fffffffffffff003ffffffffffffffffffffffffffff) : t.img = s.img := by
  simp only [State.seen, Prod.mk.injEq] at h
  obtain ⟨-, -, -, -, -, -, -, -, -, e, -, -, -, -, -, -, -, -, -, -, -, -, -, -⟩ := h
  generalize t.img = a at e ⊢
  generalize s.img = b at e ⊢
  cases a; cases b; simpa [Img.seen] using e
theorem glg_of_seen {s t : State} (h : t.seen 0x1fffffffffff80fffffffffffffffffffffffffffffff =
    s.seen 0x1fffffffffff80fffffffffffffffffffffffffffffff) : t.glg = s.glg := by
  simp only [State.seen, Prod.mk.injEq] at h
  obtain ⟨-, -, -, -, -, -, -, -, -, -, e, -, -, -, -, -, -, -, -, -, -, -, -, -⟩ := h
  generalize t.glg = a at e ⊢
  generalize s.glg = b at e ⊢
  cases a; cases b; simpa [Glg.seen] using e
theorem pwr_of_seen {s t : State} (h : t.seen 0x1ffffffffe007ffffffffffffffffffffffffffffffff =
    s.seen 0x1ffffffffe007ffffffffffffffffffffffffffffffff) : t.pwr = s.pwr := by
  simp only [State.seen, Prod.mk.injEq] at h
  obtain ⟨-, -, -, -, -, -, -, -, -, -, -, e, -, -, -, -, -, -, -, -, -, -, -, -⟩ := h
  generalize t.pwr = a at e ⊢
  generalize s.pwr = b at e ⊢
  cases a; cases b; simpa [Pwr.seen] using e
theorem evt_of_seen {s t : State} (h : t.seen 0x1fffffff81fffffffffffffffffffffffffffffffffff =
    s.seen 0x1fffffff81fffffffffffffffffffffffffffffffffff) : t.evt = s.evt := by
  simp only [State.seen, Prod.mk.injEq] at h
  obtain ⟨-, -, -, -, -, -, -, -, -, -, -, -, e, -, -, -, -, -, -, -, -, -, -, -⟩ := h
  generalize t.evt = a at e ⊢
  generalize s.evt = b at e ⊢
  cases a; cases b; simpa [Evt.seen] using e

end Sys2Proof.Machine
end

