-- ==== Sys2Proof/Laws/Rows.lean ====
section
/-! SUPPORT. What the write of one register, and the commit of one protected register, keep. -/

namespace Sys2Proof.Machine

/-- A write on the register port keeps what the register's own write keeps. -/
theorem portWrite_at {hid : Nat} (hb : 0x20000000006000000000000000000000000000001000 &&& hid = 0x20000000006000000000000000000000000000001000) (a : RegAcc)
    (s : State) (h : ∀ al, (regWrite a.off al a.data s).seen hid = s.seen hid) : (portWrite a s).seen hid = s.seen hid := by
  unfold portWrite
  split
  · rfl
  · split
    · exact emit_keeps (sub_trans (by decide) hb) _ _
    · split
      · rw [startWake_keeps (sub_trans (by decide) hb)]
        exact seen_mono hb (by simp)
      · unfold writeNow
        rw [respOk_keeps (sub_trans (by decide) hb)]
        split
        · rfl
        · exact h _

/-- An answer to a protected register keeps what the commit of the waiting value keeps. -/
theorem ppAnswer_at {hid : Nat} (hb : 0x40800011200000000000000000000000000000000000 &&& hid = 0x40800011200000000000000000000000000000000000) (off : Nat) (v : Word) (s : State)
    (h : ∀ p s', s.pp = some p → p.off = off → v = ~~~p.val → (ppCommit off p.val s').seen hid = s'.seen hid) :
    (ppAnswer off v s).seen hid = s.seen hid := by
  have h1 : ∀ s, (ppExpire s).seen hid = s.seen hid := fun s => ppExpire_keeps (sub_trans (by decide) hb) s
  have h2 : ∀ r o v s, (protectFault r o v s).seen hid = s.seen hid := fun r o v s =>
    protectFault_keeps (sub_trans (by decide) hb) r o v s
  have h3 : ∀ r p v s, (discardPp r p v s).seen hid = s.seen hid := fun r p v s =>
    discardPp_keeps (sub_trans (by decide) hb) r p v s
  have h4 : ∀ s : State, ({ s with pp := none } : State).seen hid = s.seen hid := fun s => seen_mono hb (by simp)
  have hp : ∀ p, (ppExpire s).pp = some p → s.pp = some p := by
    intro p hp
    unfold ppExpire at hp
    split at hp
    · split at hp
      · have e : ∀ p, (discardPp 1 p p.val s).pp = none := fun p =>
          pp_of_seen (raise_keeps (by decide) 0x1E 0 0 [pack [(1, 28), (p.off, 0)], p.val] _)
        rw [e] at hp; cases hp
      · exact hp
    · exact hp
  rw [← h1 s]
  unfold ppAnswer
  dsimp only
  split
  · exact h2 ..
  · rename_i p he
    split
    · exact h3 ..
    · rename_i ho
      split
      · rename_i hv
        rw [h p _ (hp p he) (by simpa using ho) hv, h4]
      · exact h3 ..

/-- A register whose row has this kind. -/
def kindAt (off : Nat) (k : RegKind) : Bool := (rowOf off).any fun r => r.kind = k

theorem regWrite_ppc {off : Nat} (h : kindAt (off + 4) .ppc = true) (al : Nat) (w : Word) (s : State) :
    regWrite (off + 4) al w s = onlyIf (al == 0) (ppAnswer off w) s := by
  unfold kindAt at h
  unfold regWrite
  split
  · simp_all
  · simp_all

theorem regWrite_wo {off : Nat} (h : kindAt off .wo = true) (al : Nat) (w : Word) (s : State) :
    regWrite off al w s = onlyIf (al == 0) (woStore off w) s := by
  unfold kindAt at h
  unfold regWrite
  split
  · simp_all
  · simp_all

theorem regWrite_port {off : Nat} (h : kindAt off .port = true) (al : Nat) (w : Word) (s : State) :
    regWrite off al w s = onlyIf (al == 0) (portStore off w) s := by
  unfold kindAt at h
  unfold regWrite
  split
  · simp_all
  · simp_all

/-- A plain register's write keeps what follows it keeps. -/
theorem regWrite_rw {hid : Nat} {off : Nat} (h : kindAt off .rw = true)
    (hg : hid / 2 ^ (147 + regGroup off) % 2 = 1) (ha : ∀ s, (afterStore off s).seen hid = s.seen hid) (al : Nat) (w : Word)
    (s : State) : (regWrite off al w s).seen hid = s.seen hid := by
  unfold kindAt at h
  unfold regWrite
  split
  · rfl
  · rename_i r hr
    rw [hr] at h
    simp only [Option.any_some, decide_eq_true_eq] at h
    rw [h]
    dsimp only
    unfold rwStore
    split
    · rfl
    · dsimp only
      rw [ha, regSet_keeps _ _ _ hg]

/-- A companion write keeps what the commits of its register keep. -/
theorem confirmRow_at {hid : Nat} (hb : 0x60800011206000000000000000000000000000001000 &&& hid = 0x60800011206000000000000000000000000000001000) (off : Nat)
    (own : Word → Bool) (priv : Bool) (data : Word) (ho : (winAcc priv (off + 4) data).off = off + 4)
    (hk : kindAt (off + 4) .ppc = true) (h : ∀ v s, own v = true → (ppCommit off v s).seen hid = s.seen hid) (s : State) :
    (confirmRow off own priv data s).seen hid = s.seen hid := by
  unfold confirmRow
  split
  · rfl
  · rename_i hn
    refine portWrite_at (sub_trans (by decide) hb) _ s fun al => ?_
    rw [ho, regWrite_ppc hk]
    refine onlyIf_keeps _ _ _ (ppAnswer_at (sub_trans (by decide) hb) off _ _ fun p s' hp hoff hv => h _ _ ?_)
    have hd : data = ~~~p.val := hv
    rw [hp] at hn
    simp only [Option.any_some, hoff, hd, and_self, decide_true, Bool.true_and, Bool.not_eq_true', Bool.not_eq_false] at hn
    exact hn

/-- A WD half's write keeps what follows it keeps. -/
theorem regWrite_wd {hid : Nat} {off : Nat} (h : kindAt off .wd = true)
    (hg : hid / 2 ^ (147 + regGroup off) % 2 = 1) (ha : ∀ s, (afterStore off s).seen hid = s.seen hid) (al : Nat) (w : Word)
    (s : State) : (regWrite off al w s).seen hid = s.seen hid := by
  unfold kindAt at h
  unfold regWrite
  split
  · rfl
  · rename_i r hr
    rw [hr] at h
    simp only [Option.any_some, decide_eq_true_eq] at h
    rw [h]
    refine onlyIf_keeps _ _ _ ?_
    unfold rwStore
    split
    · rfl
    · dsimp only
      rw [ha, regSet_keeps _ _ _ hg]

theorem confirmRow_20 (own : Word → Bool) (priv : Bool) (data : Word) (s : State) :
    (confirmRow 0x20 own priv data s).seen 0x60C00011206000000000000000000000000000001000 = s.seen 0x60C00011206000000000000000000000000000001000 := by
  refine confirmRow_at (by decide) 0x20 own priv data rfl (by decide) (fun v s _ => ?_) s
  unfold ppCommit
  exact regSet_keeps _ _ _ (by rw [show regGroup 0x20 = 19 from by decide]; decide)

theorem confirmRow_20020 (own : Word → Bool) (priv : Bool) (data : Word) (s : State) :
    (confirmRow 0x20020 own priv data s).seen 0x60800011206000000000000000000200000000001000 = s.seen 0x60800011206000000000000000000200000000001000 := by
  refine confirmRow_at (by decide) 0x20020 own priv data rfl (by decide) (fun v s _ => ?_) s
  unfold ppCommit
  exact actSwatchReq_keeps (by decide) _ _

theorem confirmRow_A010 (own : Word → Bool) (priv : Bool) (data : Word) (s : State) :
    (confirmRow 0xa010 own priv data s).seen 0x60C00811206000000000000000000004000000001000 = s.seen 0x60C00811206000000000000000000004000000001000 := by
  refine confirmRow_at (by decide) 0xa010 own priv data rfl (by decide) (fun v s _ => ?_) s
  rw [show ppCommit 0xa010 v s = actQpt v (regSet 0xa010 (v &&& maskOf 0xa010) s) from rfl]
  rw [actQpt_keeps (by decide), regSet_keeps _ _ _ (by rw [show regGroup 0xa010 = 19 from by decide]; decide)]

theorem confirmRow_1400C (own : Word → Bool) (priv : Bool) (data : Word) (s : State) :
    (confirmRow 0x1400c own priv data s).seen 0x68C00011206000000000000000200000000000001000 = s.seen 0x68C00011206000000000000000200000000000001000 := by
  refine confirmRow_at (by decide) 0x1400c own priv data rfl (by decide) (fun v s _ => ?_) s
  rw [show ppCommit 0x1400c v s = actScrubCfg (regGet s 0x1400c) (regSet 0x1400c (v &&& maskOf 0x1400c) s) from rfl]
  rw [actScrubCfg_keeps (by decide), regSet_keeps _ _ _ (by rw [show regGroup 0x1400c = 19 from by decide]; decide)]

theorem confirmRow_20028 (own : Word → Bool) (priv : Bool) (data : Word) (s : State) :
    (confirmRow 0x20028 own priv data s).seen 0x60C4001120600000000000000000C000000000001000 = s.seen 0x60C4001120600000000000000000C000000000001000 := by
  refine confirmRow_at (by decide) 0x20028 own priv data rfl (by decide) (fun v s _ => ?_) s
  rw [show ppCommit 0x20028 v s = actGearReq v (regSet 0x20028 (v &&& maskOf 0x20028) s) from rfl]
  rw [actGearReq_keeps (by decide), regSet_keeps _ _ _ (by rw [show regGroup 0x20028 = 19 from by decide]; decide)]

theorem confirmRow_14020 (own : Word → Bool) (priv : Bool) (data : Word) (s : State) :
    (confirmRow 0x14020 own priv data s).seen 0x60C20011206000000000000002880000000000001000 = s.seen 0x60C20011206000000000000002880000000000001000 := by
  refine confirmRow_at (by decide) 0x14020 own priv data rfl (by decide) (fun v s _ => ?_) s
  rw [show ppCommit 0x14020 v s = actRasReq v (regSet 0x14020 (v &&& maskOf 0x14020) s) from rfl]
  rw [actRasReq_keeps (by decide), regSet_keeps _ _ _ (by rw [show regGroup 0x14020 = 19 from by decide]; decide)]

theorem confirmRow_38000 (own : Word → Bool) (priv : Bool) (data : Word) (s : State) :
    (confirmRow 0x38000 own priv data s).seen 0x68D00011206000000000000004000000000000001000 = s.seen 0x68D00011206000000000000004000000000000001000 := by
  refine confirmRow_at (by decide) 0x38000 own priv data rfl (by decide) (fun v s _ => ?_) s
  rw [show ppCommit 0x38000 v s = if s.ras.dbg.isSome then s else actDbg v (regSet 0x38000 (v &&& maskOf 0x38000) s) from by
    unfold ppCommit; simp; rfl]
  split
  · rfl
  · rw [actDbg_keeps (by decide), regSet_keeps _ _ _ (by rw [show regGroup 0x38000 = 19 from by decide]; decide)]

theorem confirmRow_6020 (own : Word → Bool) (priv : Bool) (data : Word) (s : State) :
    (confirmRow 0x6020 own priv data s).seen 0x6BC003192060100002D9D43F200000000000001C1000 = s.seen 0x6BC003192060100002D9D43F200000000000001C1000 := by
  refine confirmRow_at (by decide) 0x6020 own priv data rfl (by decide) (fun v s _ => ?_) s
  rw [show ppCommit 0x6020 v s = actMirCtl v (regSet 0x6020 (v &&& maskOf 0x6020) s) from rfl]
  rw [actMirCtl_keeps (by decide), regSet_keeps _ _ _ (by rw [show regGroup 0x6020 = 19 from by decide]; decide)]

theorem confirmRow_4020 (own : Word → Bool) (priv : Bool) (data : Word) (s : State) :
    (confirmRow 0x4020 own priv data s).seen 0x60C00051206004580200000020000000000000001000 = s.seen 0x60C00051206004580200000020000000000000001000 := by
  refine confirmRow_at (by decide) 0x4020 own priv data rfl (by decide) (fun v s _ => ?_) s
  rw [show ppCommit 0x4020 v s = actReload v (regSet 0x4020 (v &&& maskOf 0x4020) s) from rfl]
  rw [actReload_keeps (by decide), regSet_keeps _ _ _ (by rw [show regGroup 0x4020 = 19 from by decide]; decide)]

theorem confirmRow_4034 (own : Word → Bool) (priv : Bool) (data : Word) (s : State) :
    (confirmRow 0x4034 own priv data s).seen 0x60C80051206097DA0200000020000000000000001000 = s.seen 0x60C80051206097DA0200000020000000000000001000 := by
  refine confirmRow_at (by decide) 0x4034 own priv data rfl (by decide) (fun v s _ => ?_) s
  rw [show ppCommit 0x4034 v s = actBcast v (regSet 0x4034 (v &&& maskOf 0x4034) s) from rfl]
  rw [actBcast_keeps (by decide), regSet_keeps _ _ _ (by rw [show regGroup 0x4034 = 19 from by decide]; decide)]

theorem confirmRow_30010 (own : Word → Bool) (priv : Bool) (data : Word) (s : State) :
    (confirmRow 0x30010 own priv data s).seen 0x68E800112061B0000000000020000000000000001000 = s.seen 0x68E800112061B0000000000020000000000000001000 := by
  refine confirmRow_at (by decide) 0x30010 own priv data rfl (by decide) (fun v s _ => ?_) s
  rw [show ppCommit 0x30010 v s = actMbox v (regSet 0x30010 (v &&& maskOf 0x30010) s) from rfl]
  rw [actMbox_keeps (by decide), regSet_keeps _ _ _ (by rw [show regGroup 0x30010 = 19 from by decide]; decide)]

theorem confirmRow_30030 (own : Word → Bool) (priv : Bool) (data : Word) (s : State) :
    (confirmRow 0x30030 own priv data s).seen 0x60C800112060C0000000000000000000000000001000 = s.seen 0x60C800112060C0000000000000000000000000001000 := by
  refine confirmRow_at (by decide) 0x30030 own priv data rfl (by decide) (fun v s _ => ?_) s
  rw [show ppCommit 0x30030 v s = actSwap v (regSet 0x30030 (v &&& maskOf 0x30030) s) from rfl]
  rw [actSwap_keeps (by decide), regSet_keeps _ _ _ (by rw [show regGroup 0x30030 = 19 from by decide]; decide)]

theorem confirmRow_30010_1 (priv : Bool) (data : Word) (s : State) :
    (confirmRow 0x30010 (opIs 1) priv data s).seen 0x68E80011206190000000000020000000000000001000 = s.seen 0x68E80011206190000000000020000000000000001000 := by
  refine confirmRow_at (by decide) 0x30010 (opIs 1) priv data rfl (by decide) (fun v s hv => ?_) s
  have hv : fld v 31 28 = 1 := by simpa [opIs] using hv
  rw [show ppCommit 0x30010 v s = actMbox v (regSet 0x30010 (v &&& maskOf 0x30010) s) from rfl]
  rw [← regSet_keeps 0x30010 (v &&& maskOf 0x30010) s (by rw [show regGroup 0x30010 = 19 from by decide]; decide)]
  generalize regSet 0x30010 (v &&& maskOf 0x30010) s = s
  unfold actMbox
  dsimp only
  simp only [hv, mboxRun]
  simp <;> (repeat' split) <;> simp

theorem confirmRow_30010_2 (priv : Bool) (data : Word) (s : State) :
    (confirmRow 0x30010 (opIs 2) priv data s).seen 0x68E80011206190000000000020000000000000001000 = s.seen 0x68E80011206190000000000020000000000000001000 := by
  refine confirmRow_at (by decide) 0x30010 (opIs 2) priv data rfl (by decide) (fun v s hv => ?_) s
  have hv : fld v 31 28 = 2 := by simpa [opIs] using hv
  rw [show ppCommit 0x30010 v s = actMbox v (regSet 0x30010 (v &&& maskOf 0x30010) s) from rfl]
  rw [← regSet_keeps 0x30010 (v &&& maskOf 0x30010) s (by rw [show regGroup 0x30010 = 19 from by decide]; decide)]
  generalize regSet 0x30010 (v &&& maskOf 0x30010) s = s
  unfold actMbox
  dsimp only
  simp only [hv, mboxRun]
  simp <;> (repeat' split) <;> simp

theorem confirmRow_30010_3 (priv : Bool) (data : Word) (s : State) :
    (confirmRow 0x30010 (opIs 3) priv data s).seen 0x60E80011206110000000000020000000000000001000 = s.seen 0x60E80011206110000000000020000000000000001000 := by
  refine confirmRow_at (by decide) 0x30010 (opIs 3) priv data rfl (by decide) (fun v s hv => ?_) s
  have hv : fld v 31 28 = 3 := by simpa [opIs] using hv
  rw [show ppCommit 0x30010 v s = actMbox v (regSet 0x30010 (v &&& maskOf 0x30010) s) from rfl]
  rw [← regSet_keeps 0x30010 (v &&& maskOf 0x30010) s (by rw [show regGroup 0x30010 = 19 from by decide]; decide)]
  generalize regSet 0x30010 (v &&& maskOf 0x30010) s = s
  unfold actMbox
  dsimp only
  simp only [hv, mboxRun]
  simp <;> (repeat' split) <;> simp

theorem confirmRow_30010_4 (priv : Bool) (data : Word) (s : State) :
    (confirmRow 0x30010 (opIs 4) priv data s).seen 0x60C80011206110000000000000000000000000001000 = s.seen 0x60C80011206110000000000000000000000000001000 := by
  refine confirmRow_at (by decide) 0x30010 (opIs 4) priv data rfl (by decide) (fun v s hv => ?_) s
  have hv : fld v 31 28 = 4 := by simpa [opIs] using hv
  rw [show ppCommit 0x30010 v s = actMbox v (regSet 0x30010 (v &&& maskOf 0x30010) s) from rfl]
  rw [← regSet_keeps 0x30010 (v &&& maskOf 0x30010) s (by rw [show regGroup 0x30010 = 19 from by decide]; decide)]
  generalize regSet 0x30010 (v &&& maskOf 0x30010) s = s
  unfold actMbox
  dsimp only
  simp only [hv, mboxRun]
  simp <;> (repeat' split) <;> simp

theorem confirmRow_30010_5 (priv : Bool) (data : Word) (s : State) :
    (confirmRow 0x30010 (opIs 5) priv data s).seen 0x60C80011206190000000000000000000000000001000 = s.seen 0x60C80011206190000000000000000000000000001000 := by
  refine confirmRow_at (by decide) 0x30010 (opIs 5) priv data rfl (by decide) (fun v s hv => ?_) s
  have hv : fld v 31 28 = 5 := by simpa [opIs] using hv
  rw [show ppCommit 0x30010 v s = actMbox v (regSet 0x30010 (v &&& maskOf 0x30010) s) from rfl]
  rw [← regSet_keeps 0x30010 (v &&& maskOf 0x30010) s (by rw [show regGroup 0x30010 = 19 from by decide]; decide)]
  generalize regSet 0x30010 (v &&& maskOf 0x30010) s = s
  unfold actMbox
  dsimp only
  simp only [hv, mboxRun]
  simp <;> (repeat' split) <;> simp

theorem confirmRow_30010_6 (priv : Bool) (data : Word) (s : State) :
    (confirmRow 0x30010 (opIs 6) priv data s).seen 0x60C80011206120000000000000000000000000001000 = s.seen 0x60C80011206120000000000000000000000000001000 := by
  refine confirmRow_at (by decide) 0x30010 (opIs 6) priv data rfl (by decide) (fun v s hv => ?_) s
  have hv : fld v 31 28 = 6 := by simpa [opIs] using hv
  rw [show ppCommit 0x30010 v s = actMbox v (regSet 0x30010 (v &&& maskOf 0x30010) s) from rfl]
  rw [← regSet_keeps 0x30010 (v &&& maskOf 0x30010) s (by rw [show regGroup 0x30010 = 19 from by decide]; decide)]
  generalize regSet 0x30010 (v &&& maskOf 0x30010) s = s
  unfold actMbox
  dsimp only
  simp only [hv, mboxRun]
  simp <;> (repeat' split) <;> simp

theorem confirmRow_30010_7 (priv : Bool) (data : Word) (s : State) :
    (confirmRow 0x30010 (opIs 7) priv data s).seen 0x60C80011206110000000000000000000000000001000 = s.seen 0x60C80011206110000000000000000000000000001000 := by
  refine confirmRow_at (by decide) 0x30010 (opIs 7) priv data rfl (by decide) (fun v s hv => ?_) s
  have hv : fld v 31 28 = 7 := by simpa [opIs] using hv
  rw [show ppCommit 0x30010 v s = actMbox v (regSet 0x30010 (v &&& maskOf 0x30010) s) from rfl]
  rw [← regSet_keeps 0x30010 (v &&& maskOf 0x30010) s (by rw [show regGroup 0x30010 = 19 from by decide]; decide)]
  generalize regSet 0x30010 (v &&& maskOf 0x30010) s = s
  unfold actMbox
  dsimp only
  simp only [hv, mboxRun]
  simp <;> (repeat' split) <;> simp

theorem confirmRow_30010_8 (priv : Bool) (data : Word) (s : State) :
    (confirmRow 0x30010 (opIs 8) priv data s).seen 0x60E80011206100000000000000000000000000001000 = s.seen 0x60E80011206100000000000000000000000000001000 := by
  refine confirmRow_at (by decide) 0x30010 (opIs 8) priv data rfl (by decide) (fun v s hv => ?_) s
  have hv : fld v 31 28 = 8 := by simpa [opIs] using hv
  rw [show ppCommit 0x30010 v s = actMbox v (regSet 0x30010 (v &&& maskOf 0x30010) s) from rfl]
  rw [← regSet_keeps 0x30010 (v &&& maskOf 0x30010) s (by rw [show regGroup 0x30010 = 19 from by decide]; decide)]
  generalize regSet 0x30010 (v &&& maskOf 0x30010) s = s
  unfold actMbox
  dsimp only
  simp only [hv, mboxRun]
  simp <;> (repeat' split) <;> simp

theorem confirmRow_6020_1 (priv : Bool) (data : Word) (s : State) :
    (confirmRow 0x6020 (opIs 1) priv data s).seen 0x60C00111206000000048000000000000000000001000 = s.seen 0x60C00111206000000048000000000000000000001000 := by
  refine confirmRow_at (by decide) 0x6020 (opIs 1) priv data rfl (by decide) (fun v s hv => ?_) s
  have hv : fld v 31 28 = 1 := by simpa [opIs] using hv
  rw [show ppCommit 0x6020 v s = actMirCtl v (regSet 0x6020 (v &&& maskOf 0x6020) s) from rfl]
  rw [← regSet_keeps 0x6020 (v &&& maskOf 0x6020) s (by rw [show regGroup 0x6020 = 19 from by decide]; decide)]
  generalize regSet 0x6020 (v &&& maskOf 0x6020) s = s
  unfold actMirCtl
  
  simp only [hv]
  simp <;> (repeat' split) <;> simp

theorem confirmRow_6020_2 (priv : Bool) (data : Word) (s : State) :
    (confirmRow 0x6020 (opIs 2) priv data s).seen 0x6BC003192060100000C9D01E200000000000001C1000 = s.seen 0x6BC003192060100000C9D01E200000000000001C1000 := by
  refine confirmRow_at (by decide) 0x6020 (opIs 2) priv data rfl (by decide) (fun v s hv => ?_) s
  have hv : fld v 31 28 = 2 := by simpa [opIs] using hv
  rw [show ppCommit 0x6020 v s = actMirCtl v (regSet 0x6020 (v &&& maskOf 0x6020) s) from rfl]
  rw [← regSet_keeps 0x6020 (v &&& maskOf 0x6020) s (by rw [show regGroup 0x6020 = 19 from by decide]; decide)]
  generalize regSet 0x6020 (v &&& maskOf 0x6020) s = s
  unfold actMirCtl
  
  simp only [hv]
  simp <;> (repeat' split) <;> simp

theorem confirmRow_6020_3 (priv : Bool) (data : Word) (s : State) :
    (confirmRow 0x6020 (opIs 3) priv data s).seen 0x60C00111206000000040001000000000000000001000 = s.seen 0x60C00111206000000040001000000000000000001000 := by
  refine confirmRow_at (by decide) 0x6020 (opIs 3) priv data rfl (by decide) (fun v s hv => ?_) s
  have hv : fld v 31 28 = 3 := by simpa [opIs] using hv
  rw [show ppCommit 0x6020 v s = actMirCtl v (regSet 0x6020 (v &&& maskOf 0x6020) s) from rfl]
  rw [← regSet_keeps 0x6020 (v &&& maskOf 0x6020) s (by rw [show regGroup 0x6020 = 19 from by decide]; decide)]
  generalize regSet 0x6020 (v &&& maskOf 0x6020) s = s
  unfold actMirCtl
  
  simp only [hv]
  simp <;> (repeat' split) <;> simp

theorem confirmRow_6020_4 (priv : Bool) (data : Word) (s : State) :
    (confirmRow 0x6020 (opIs 4) priv data s).seen 0x6BC003192060100002D9D43F200000000000001C1000 = s.seen 0x6BC003192060100002D9D43F200000000000001C1000 := by
  refine confirmRow_at (by decide) 0x6020 (opIs 4) priv data rfl (by decide) (fun v s hv => ?_) s
  have hv : fld v 31 28 = 4 := by simpa [opIs] using hv
  rw [show ppCommit 0x6020 v s = actMirCtl v (regSet 0x6020 (v &&& maskOf 0x6020) s) from rfl]
  rw [← regSet_keeps 0x6020 (v &&& maskOf 0x6020) s (by rw [show regGroup 0x6020 = 19 from by decide]; decide)]
  generalize regSet 0x6020 (v &&& maskOf 0x6020) s = s
  unfold actMirCtl
  
  simp only [hv]
  simp <;> (repeat' split) <;> simp

theorem confirmRow_14020_1 (priv : Bool) (data : Word) (s : State) :
    (confirmRow 0x14020 (opIs 1) priv data s).seen 0x60C20011206000000000000000800000000000001000 = s.seen 0x60C20011206000000000000000800000000000001000 := by
  refine confirmRow_at (by decide) 0x14020 (opIs 1) priv data rfl (by decide) (fun v s hv => ?_) s
  have hv : fld v 31 28 = 1 := by simpa [opIs] using hv
  rw [show ppCommit 0x14020 v s = actRasReq v (regSet 0x14020 (v &&& maskOf 0x14020) s) from rfl]
  rw [← regSet_keeps 0x14020 (v &&& maskOf 0x14020) s (by rw [show regGroup 0x14020 = 19 from by decide]; decide)]
  generalize regSet 0x14020 (v &&& maskOf 0x14020) s = s
  unfold actRasReq
  
  simp only [hv]
  simp <;> (repeat' split) <;> simp

theorem confirmRow_14020_2 (priv : Bool) (data : Word) (s : State) :
    (confirmRow 0x14020 (opIs 2) priv data s).seen 0x60C20011206000000000000002000000000000001000 = s.seen 0x60C20011206000000000000002000000000000001000 := by
  refine confirmRow_at (by decide) 0x14020 (opIs 2) priv data rfl (by decide) (fun v s hv => ?_) s
  have hv : fld v 31 28 = 2 := by simpa [opIs] using hv
  rw [show ppCommit 0x14020 v s = actRasReq v (regSet 0x14020 (v &&& maskOf 0x14020) s) from rfl]
  rw [← regSet_keeps 0x14020 (v &&& maskOf 0x14020) s (by rw [show regGroup 0x14020 = 19 from by decide]; decide)]
  generalize regSet 0x14020 (v &&& maskOf 0x14020) s = s
  unfold actRasReq
  
  simp only [hv]
  simp <;> (repeat' split) <;> simp

theorem confirmRow_14020_3 (priv : Bool) (data : Word) (s : State) :
    (confirmRow 0x14020 (opIs 3) priv data s).seen 0x60C20011206000000000000000080000000000001000 = s.seen 0x60C20011206000000000000000080000000000001000 := by
  refine confirmRow_at (by decide) 0x14020 (opIs 3) priv data rfl (by decide) (fun v s hv => ?_) s
  have hv : fld v 31 28 = 3 := by simpa [opIs] using hv
  rw [show ppCommit 0x14020 v s = actRasReq v (regSet 0x14020 (v &&& maskOf 0x14020) s) from rfl]
  rw [← regSet_keeps 0x14020 (v &&& maskOf 0x14020) s (by rw [show regGroup 0x14020 = 19 from by decide]; decide)]
  generalize regSet 0x14020 (v &&& maskOf 0x14020) s = s
  unfold actRasReq
  
  simp only [hv]
  simp <;> (repeat' split) <;> simp

theorem portWrite_A004 (priv : Bool) (data : Word) (s : State) :
    (portWrite (winAcc priv 0xa004 data) s).seen 0x20400000006000000000000000000000000000001000 = s.seen 0x20400000006000000000000000000000000000001000 := by
  refine portWrite_at (by decide) _ s fun al => ?_
  rw [show (winAcc priv 0xa004 data).off = 0xa004 from rfl]
  refine regWrite_rw (by decide) (by rw [show regGroup 0xa004 = 19 from by decide]; decide) (fun s => ?_) _ _ _
  simp [afterStore]

theorem portWrite_20040 (priv : Bool) (data : Word) (s : State) :
    (portWrite (winAcc priv 0x20040 data) s).seen 0x20400000006000000000000000001000000000001000 = s.seen 0x20400000006000000000000000001000000000001000 := by
  refine portWrite_at (by decide) _ s fun al => ?_
  rw [show (winAcc priv 0x20040 data).off = 0x20040 from rfl]
  refine regWrite_rw (by decide) (by rw [show regGroup 0x20040 = 19 from by decide]; decide) (fun s => ?_) _ _ _
  simp [afterStore]

theorem portWrite_12044 (priv : Bool) (data : Word) (s : State) :
    (portWrite (winAcc priv 0x12044 data) s).seen 0x20410000006000000000000000000000000000001000 = s.seen 0x20410000006000000000000000000000000000001000 := by
  refine portWrite_at (by decide) _ s fun al => ?_
  rw [show (winAcc priv 0x12044 data).off = 0x12044 from rfl]
  refine regWrite_wd (by decide) (by rw [show regGroup 0x12044 = 19 from by decide]; decide) (fun s => ?_) _ _ _
  simp [afterStore]

theorem portWrite_30200 (priv : Bool) (data : Word) (s : State) :
    (portWrite (winAcc priv 0x30200 data) s).seen 0x20480000006000000000000000000000000000001000 = s.seen 0x20480000006000000000000000000000000000001000 := by
  refine portWrite_at (by decide) _ s fun al => ?_
  rw [show (winAcc priv 0x30200 data).off = 0x30200 from rfl]
  refine regWrite_rw (by decide) (by rw [show regGroup 0x30200 = 19 from by decide]; decide) (fun s => ?_) _ _ _
  simp [afterStore]

theorem portWrite_30050 (priv : Bool) (data : Word) (s : State) :
    (portWrite (winAcc priv 0x30050 data) s).seen 0x20080000006000000000000000000000000000001000 = s.seen 0x20080000006000000000000000000000000000001000 := by
  refine portWrite_at (by decide) _ s fun al => ?_
  rw [show (winAcc priv 0x30050 data).off = 0x30050 from rfl, regWrite_wo (by decide)]
  refine onlyIf_keeps _ _ _ ?_
  simp [woStore]

theorem portWrite_A008 (priv : Bool) (data : Word) (s : State) :
    (portWrite (winAcc priv 0xa008 data) s).seen 0x20400000006000000000000000000002000000001000 = s.seen 0x20400000006000000000000000000002000000001000 := by
  refine portWrite_at (by decide) _ s fun al => ?_
  rw [show (winAcc priv 0xa008 data).off = 0xa008 from rfl, regWrite_port (by decide)]
  refine onlyIf_keeps _ _ _ ?_
  simp [portStore]

theorem portWrite_30024 (priv : Bool) (data : Word) (s : State) :
    (portWrite (winAcc priv 0x30024 data) s).seen 0x20400000006020000000000000000000000000001000 = s.seen 0x20400000006020000000000000000000000000001000 := by
  refine portWrite_at (by decide) _ s fun al => ?_
  rw [show (winAcc priv 0x30024 data).off = 0x30024 from rfl, regWrite_port (by decide)]
  refine onlyIf_keeps _ _ _ ?_
  simp [portStore]

theorem portWrite_page_C (i : InstId) (priv : Bool) (data : Word) (s : State) :
    (portWrite (pageAcc i priv 0xc data) s).seen 0x20280000006010000000000000000000000000001000 = s.seen 0x20280000006010000000000000000000000000001000 := by
  have ho : (pageAcc i priv 0xc data).off = rPage i 0xc := by
    have e : (pageAcc i priv 0xc data).off = (pageAcc i false 0xc 0).off := by
      unfold pageAcc
      split <;> rfl
    have h : ∀ i, (pageAcc i false 0xc 0).off = rPage i 0xc := by decide +kernel
    rw [e, h]
  have hk : ∀ i, kindAt (rPage i 0xc) .wo = true := by decide +kernel
  have hn : ∀ i, rPage i 0xc ≠ 0x200C ∧ rPage i 0xc ≠ 0x30050 ∧ rPage i 0xc % 0x1000 = 0xc := by decide +kernel
  obtain ⟨n1, n2, n3⟩ := hn i
  refine portWrite_at (by decide) _ s fun al => ?_
  rw [ho, regWrite_wo (hk i)]
  refine onlyIf_keeps _ _ _ ?_
  simp [woStore, n1, n2, n3]

theorem portWrite_page_28 (i : InstId) (priv : Bool) (data : Word) (s : State) :
    (portWrite (pageAcc i priv 0x28 data) s).seen 0x60280011206010000000000020000000000000001000 = s.seen 0x60280011206010000000000020000000000000001000 := by
  have ho : (pageAcc i priv 0x28 data).off = rPage i 0x28 := by
    have e : (pageAcc i priv 0x28 data).off = (pageAcc i false 0x28 0).off := by
      unfold pageAcc
      split <;> rfl
    have h : ∀ i, (pageAcc i false 0x28 0).off = rPage i 0x28 := by decide +kernel
    rw [e, h]
  have hk : ∀ i, kindAt (rPage i 0x28) .wo = true := by decide +kernel
  have hn : ∀ i, rPage i 0x28 ≠ 0x200C ∧ rPage i 0x28 ≠ 0x30050 ∧ rPage i 0x28 % 0x1000 = 0x28 := by decide +kernel
  obtain ⟨n1, n2, n3⟩ := hn i
  refine portWrite_at (by decide) _ s fun al => ?_
  rw [ho, regWrite_wo (hk i)]
  refine onlyIf_keeps _ _ _ ?_
  simp [woStore, n1, n2, n3]

theorem portWrite_page_8 (i : InstId) (priv : Bool) (data : Word) (s : State) :
    (portWrite (pageAcc i priv 0x8 data) s).seen 0x20200000006010000000000000000000000000001000 = s.seen 0x20200000006010000000000000000000000000001000 := by
  have ho : (pageAcc i priv 0x8 data).off = rPage i 0x8 := by
    have e : (pageAcc i priv 0x8 data).off = (pageAcc i false 0x8 0).off := by
      unfold pageAcc
      split <;> rfl
    have h : ∀ i, (pageAcc i false 0x8 0).off = rPage i 0x8 := by decide +kernel
    rw [e, h]
  have hk : ∀ i, kindAt (rPage i 0x8) .port = true := by decide +kernel
  have hn : ∀ i, rPage i 0x8 ≠ 0xA008 ∧ rPage i 0x8 ≠ 0x30024 ∧ rPage i 0x8 % 0x1000 = 0x008 ∧ (rPage i 0x8 = 0x31008 ∨ 0x100000 ≤ rPage i 0x8) := by decide +kernel
  obtain ⟨n1, n2, n3, n4⟩ := hn i
  refine portWrite_at (by decide) _ s fun al => ?_
  rw [ho, regWrite_port (hk i)]
  refine onlyIf_keeps _ _ _ ?_
  simp [portStore, n1, n2, n3, n4]

end Sys2Proof.Machine
end

