-- ==== Sys2Proof/Laws/Parts.lean ====
section
/-! SUPPORT. The parts of State that each command may change. -/

namespace Sys2Proof.Machine

/-- The parts of State that a command may change, as the number that hides them. -/
def parts (c : Instr) : Nat :=
  match c with
  | .aonRstAssert => 0x1FFFFFFFFFFFFFFFFFFFFFFFFFFFFFFFFFFFFFFFFFFFF
  | .aonRstRelease _ _ _ _ => 0x6A04020800000000000000000000C0501000000088F5
  | .aonStartDone => 0x60000000000000180000000000000000000000000084
  | .imgWordAck _ _ => 0x6000005920000458020000002000000010000000A007
  | .imgWordTimeout => 0x6000005F200004500200000020000000100000008003
  | .imgVerifyDone => 0x6000004800000000000000000000000010000000C007
  | .fuseWordAck _ => 0x6000000800000000000000000000000010000000F007
  | .fuseWordTimeout => 0x6000001F200000000000000000000000100000008003
  | .pllLock => 0x6A7FFFF920020C7C020000002000C05C10000034940C
  | .pllLockTimeout => 0x6A04021F20600000000000000000C050100000009003
  | .phyZqDone _ => 0x60000008018000000000000000000000100000018007
  | .phyZqTimeout => 0x6000001F200000000000000000000000100000008003
  | .i3cTransactionDone _ _ _ => 0x60000000000000000000000000000000000000010000
  | .i3cTransactionTimeout _ _ _ => 0x60000017200000000000000000000000000000010000
  | .sidebandDone => 0x684000192000000000004000030000001FEC803C8007
  | .dimmInitDone _ _ => 0x6842B0192008000000000000010002001CFC8036800F
  | .dimmInitTimeout _ => 0x6800B01F2000000000000000000002001CFC8036800F
  | .trainingStepDone _ _ _ => 0xE806F0192000000000204000032AEE001CFC803E800F
  | .trainingStepTimeout _ _ => 0xE806F01F2000000000204000032AEE001CFC803E800F
  | .carveOutDone => 0x60000000000000000000000000000000000000000004
  | .carveOutWatchdog _ => 0x6000001F200000000000000000000000100000008003
  | .serviceEntry => 0x6B0C23080000905800F82F230000C050100071800001
  | .regionZeroed _ => 0x680000080000000000000000000000000000007C0000
  | .registerWrite _ => 0x6BFFFFF96063F7DA02D9D43F26A8D2561000001C1000
  | .sqWrite _ => 0x6BFFFFF96063F7DA02D9D43F26A8D2561000001C1000
  | .ppWrite _ => 0x6BFFFFF96063F7DA02D9D43F26A8D2561000001C1000
  | .ppConfirm _ => 0x6BFFFFF96063F7DA02D9D43F26A8D2561000001C1000
  | .ppWindowExpiry => 0x60800011200000000000000000000000000000000000
  | .glbLockSet _ _ => 0x60C00011206000000000000000000000000000001000
  | .indexWrite _ => 0x6BFFFFF96063F7DA02D9D43F26A8D2561000001C1000
  | .evtDataRead _ _ => 0x60000010400000000000000000000000000000000000
  | .evtFlush _ _ => 0x60000010400000000000000000000000000000000000
  | .domSnapDataRead _ => 0x60000000000000003000000000000000000000000000
  | .qptDataAccess _ => 0x60400000006000000000000000000002000000001000
  | .qptRdSelWrite _ _ => 0x60400000006000000000000000000000000000001000
  | .qptCommit _ _ => 0x60C00811206000000000000000000004000000001000
  | .phyLlSelWrite _ _ => 0x60400000006000000000000000001000000000001000
  | .phyLlDataRead _ => 0x60400000000000000000000000000000000000000000
  | .rasRplDataRead _ => 0x60400000000000000000000000000000000000000000
  | .mapProbe _ _ => 0x60410000006000000000000000000000000000001000
  | .read _ _ => 0x6F04071120000000000000000000C050100000200000
  | .writeFull _ _ => 0x6F04071120000000000000000000C050100000200000
  | .writePartial _ _ => 0x6F04071120000000000000000000C050100000200000
  | .writePoison _ _ => 0x6F04071120000000000000000000C050100000200000
  | .barrier _ _ => 0x6F04071120000000000000000000C050100000200000
  | .peerMirrorWrite _ _ => 0x6F04071120000000000000000000C050100000200000
  | .peerMirrorRead _ _ => 0x6F04071120000000000000000000C050100000200000
  | .peerMessage _ _ => 0x6F04071120000000000000000000C050100000200000
  | .reservedOpcode _ _ _ => 0x6F04071120000000000000000000C050100000200000
  | .writeDataBeat _ _ _ => 0x6B04028000000000010000000000C050100000200000
  | .creditReturn _ => 0x61000000000000000000000000000180000000000000
  | .portTransactionTimeout _ _ => 0x6B04021720000000000000000000C050100000000000
  | .rtpUrgentChange _ => 0x6A04020000000000000000000000C070100000000000
  | .egpRequestIssue _ => 0x6B0A13BB20001002028FC002E80000000000001C0000
  | .egpResponse _ _ _ _ _ _ => 0x6B0E139B2000100202CFD43F6800C0501000001C0000
  | .egpSlotTimeout _ => 0x6B0A139F20001002028FD01E680000000000001C0000
  | .qzReqRise _ _ => 0x6000000000000000000000000000000000007E000000
  | .pauseTakeEffect => 0x69002008000000000000000000000000100070000001
  | .deepPauseSrDone => 0x6800B0000008000000000000000000000CFC70008000
  | .qzHoldExpiry => 0x6B04220800000058000000000000C050100070000001
  | .qzReqFall => 0x6B04220800000058000000000000C050100072000001
  | .deepPauseExitDone => 0x6B04B20800180058000000000000C0501CFCF0008001
  | .drainBarrierComplete => 0x61000000000000000000000000000000000030000000
  | .ingressSelect _ => 0x6B06173B200000000209C0002000C0507000001C0000
  | .mntArbitrate _ => 0x6B0E231B200410000287C0022062CE005000007C0000
  | .schedulerIssue _ => 0x7B04B21F30080000008180002202CE005FFC801C8000
  | .readDecode _ _ => 0x6B0A031B200010000001C000206002000000001C0000
  | .mergeReadDecode _ _ => 0x6B02131B200000000209C000202002000000001C0000
  | .writeBurstDone _ => 0x6B000000000000000000000000000000000000000000
  | .heldReadRelease _ => 0x6B020213200000000000000020200000000000000000
  | .alertRecognised _ => 0x7B12031F200000000209C0002EC000000000807C0000
  | .alertRelease _ _ => 0x7800B017300000000080800000000000110000000000
  | .replayAttemptEnd _ => 0x68021013200000000080000000000000000000000000
  | .alertHeldLowTimeout _ => 0x78001017300000000000800000000000000000000000
  | .channelRecoveryDone _ => 0x7B12931F200000000289C0002EC002000CFC807C0000
  | .channelRecoveryTimeout _ => 0x7B12031F200000000209C0002EC000000000807C0000
  | .progressWatchdogExpiry _ => 0x780090173000000000008000000000000CFC00000000
  | .refreshSlot _ _ => 0x6800B0040008000000000000000000001CFD80000000
  | .refreshPostpone _ _ => 0x60008000000000000000000000000000000080000000
  | .mr4Poll _ _ => 0x68000431221000000000000000000000000200000000
  | .backoffRfmDeadline _ => 0x60000017200000000000000000000000030000000000
  | .epochAdvance _ _ => 0x68000000000000000000000000000000086C80000000
  | .ledgerFetchDone _ _ => 0x6802801320000000000000000020020000F800000000
  | .ledgerFetchTimeout _ => 0x6800801720000000000000000000000000F800000000
  | .refillTick => 0x62000C3320000000000000000000000D500000000000
  | .qosGuaranteeMiss _ => 0x60000413200000000000000000000000100000000000
  | .wheelSlot => 0x60000000000000000000000000000000900000000000
  | .scoutPointDone _ _ _ => 0xE0040013200000000000000000000200000000000000
  | .scoutBackoffEnd _ _ => 0x60000000000000000000000000000200000000000000
  | .roleExchange _ _ => 0x60040013200000000000000000000E00000000000000
  | .forcedSwapWindow _ => 0x6804000000000000000000000002CE00000000000000
  | .swatchPeriodExpiry _ => 0x60000000000000000000000000000200000000000000
  | .swatchReq _ _ => 0x60800011206000000000000000000200000000001000
  | .swatchRunStart _ => 0x68040000000000000000000000000200000000000000
  | .swatchRunEnd _ _ => 0xE8040013200000000000000000000E00000000000000
  | .swatchHoldTimeout _ => 0x68040017200000000000000000000200000000000000
  | .runtimeTrainingTimeout _ => 0x68040017200000000000000000000200000000000000
  | .oscPeriodExpiry _ _ => 0x68000000001000000000000000000200000000000000
  | .lifelineSave _ => 0x68000000000000000000000000000800000000000000
  | .gearReq _ _ => 0x60C4001120600000000000000000C000000000001000
  | .gearChangeEnter => 0x6804B0080008000000000000000182001CFC00000001
  | .gearChangeDone _ => 0x6B04F20800180058000000000007C2501CFCF0008009
  | .gearPolicyWindow _ => 0x6804000000000000000000000004C000000000000000
  | .thermalPoll => 0xE0000433278000000000000000000000000000010000
  | .pmicPoll => 0x60000000000000000000000000000000000000010000
  | .powerDownEntry _ => 0x6800B0200008000000000000000000000CFC00000000
  | .selfRefreshEntry _ => 0x6800B0200008000000000000000000000CFC00008000
  | .selfRefreshWake _ => 0x6800B0000018000000000000000000000CFC80008000
  | .dormantEntry => 0x60000028080000000000000000000000100000000401
  | .dormantWake _ => 0x6BFFFFF96063F7DA02D9D43F26A8D2561000001C1000
  | .dormantTimerExpiry => 0x60000000002000000000000000000000000000001000
  | .wakeComplete => 0x6BFFFFF9607BF7DA02D9D43F26A8D2561CFCF01C9401
  | .pfNFall => 0x7B06B359307910500001C0002AC1C2501FFCF01C8081
  | .bindOffComplete => 0x60000019200000000000000000000000100000008401
  | .scrubReadDecode _ _ => 0x6802001320000000000000003AB80200000000000000
  | .scrubDeadlineMiss _ => 0x60020011200000000000000000200000000000000000
  | .scrubCfgCommit _ _ => 0x68C00011206000000000000000200000000000001000
  | .errorLeak => 0x60000000000000000000000000080000000000000000
  | .deviceMarked _ _ _ => 0x68020011200000000000000013080000000000000000
  | .pprStart _ _ => 0x68020011200000000000000001C00000000000000000
  | .pprModeEnter => 0x680090000000000000000000004000000CFC00000000
  | .pprDone _ => 0x68020011200000000000000001400000000000000000
  | .pprTimeout => 0x60000017200000000000000000400000000000000000
  | .sparingStart _ => 0x680290112000000000000000020000000CFC80000000
  | .sparingComplete _ => 0x680290112000000000000000130800000CFC80000000
  | .softRepairReq _ _ => 0x60C20011206000000000000000800000000000001000
  | .sparingReq _ _ => 0x60C20011206000000000000002000000000000001000
  | .clearCounters _ _ => 0x60C20011206000000000000000080000000000001000
  | .dbgReadLine _ _ => 0x68D00011206000000000000004000000000000001000
  | .dbgMrr _ _ => 0x68D00011206000000000000004000000000000001000
  | .dbgOpDone _ => 0x68120000000000000000000004200200000000000000
  | .heartbeatSend => 0x60000000000000000200030020000000000000000000
  | .heartbeatLoss => 0x6B00031F200010000089D71E200000000000001C0000
  | .helloSend => 0x60000000000000000200000020000000000000000000
  | .joinTimeout => 0x6B00031F2000100002D9F43F200000000000001C0000
  | .censusToken => 0x6000009120000002B900000020000000000000000000
  | .censusResult => 0x6000009120000002B900000020000000000000000000
  | .heartbeat => 0x6B000399200010000389D7DE200000000000001C0000
  | .reloadRequest => 0x60080051200094580300000020000000000000000000
  | .reloadAck => 0x60000040000004000100000000000000000000000000
  | .staleReply => 0x6B0403992000100003C9D4FF2000C0501000001C0000
  | .roleChange => 0x6B0403992000100003D9D4FF2000C0501000001C0000
  | .hello => 0x6B0003192000100003DFD4FF200000000000001C0000
  | .resilverStart => 0x6000008000000000030000C220000000000000000000
  | .resilverDone => 0x6000018000000000030000C220000000000000000000
  | .poisonLine => 0x6B04068000000000030000C02000C050100000200000
  | .resilverLine _ _ => 0x68020013200000000282000020200200000000000000
  | .roleChangeInitiate => 0x6B0003080000000002498000200000000000001C0000
  | .roleChangeConfirmTimeout => 0x6B04031F2000100000D9D43F2000C0501000001C0000
  | .mirRotate _ _ => 0x60C00111206000000048000000000000000000001000
  | .mirBreak _ _ => 0x6BC003192060100000C9D01E200000000000001C1000
  | .mirRejoin _ _ => 0x60C00111206000000040001000000000000000001000
  | .mirTakeover _ _ => 0x6BC003192060100002D9D43F200000000000001C1000
  | .censusPeriod => 0x6000009120000002FC00000020000000000000000000
  | .chiozResend _ => 0x60000000000000000000000020000000000000000000
  | .censusHopTimeout _ => 0x6000009720000003B800000020000000000000000000
  | .imgReload _ _ => 0x60C00051206004580200000020000000000000001000
  | .reloadFetchDone => 0x607FFFF920021C580200000020000000000000000000
  | .reloadQuiescePoint => 0x6A7FFFF9200A0C54020000002222C25C1CFC81C09405
  | .imgBcastReload _ _ => 0x60C80051206097DA0200000020000000000000001000
  | .imgBcastWithdraw _ _ => 0x60C80051206097DA0200000020000000000000001000
  | .reloadBcastResend _ => 0x60000057200004020000000020000000000000000000
  | .glgIDoorbell _ _ _ => 0x60280000006010000000000000000000000000001000
  | .glgIDescDataAccess _ _ => 0x60200000006010000000000000000000000000001000
  | .glgICplDataRead _ _ => 0x60280000000010000000000000000000000000000000
  | .glgStateDataAccess _ => 0x60400000006020000000000000000000000000001000
  | .glgIAbort _ _ _ => 0x60280011206010000000000020000000000000001000
  | .glgIFlush _ _ _ => 0x60280011206010000000000020000000000000001000
  | .jobStart _ => 0x60080011200010000000000020000000000000000000
  | .granuleDone _ _ => 0xE0080011200010000000000020000000000000200000
  | .jobEnd _ => 0x60280011200090000000000020000000000000000000
  | .granuleTimeout _ => 0x68080017200010000000000020000000000000000000
  | .freezeTakeEffect _ => 0x60280011200190000000000020000000000000000000
  | .mboxAssign _ _ => 0x68E80011206190000000000020000000000000001000
  | .mboxUnassign _ _ => 0x68E80011206190000000000020000000000000001000
  | .mboxAbort _ _ => 0x60E80011206110000000000020000000000000001000
  | .mboxFreeze _ _ => 0x60C80011206110000000000000000000000000001000
  | .mboxThaw _ _ => 0x60C80011206190000000000000000000000000001000
  | .mboxSave _ _ => 0x60C80011206120000000000000000000000000001000
  | .mboxRestore _ _ => 0x60C80011206110000000000000000000000000001000
  | .mboxNotify _ _ => 0x60E80011206100000000000000000000000000001000
  | .glgPuSwap _ _ => 0x60C800112060C0000000000000000000000000001000
  | .pvRearmPrecise _ _ => 0x60080000006000000000000000000000000000001000
  | .pvRearmImprecise _ _ => 0x60080000006000000000000000000000000000001000
  | .glgProbe _ _ => 0x60480000006000000000000000000000000000001000
  | .evtChainTake _ => 0x60000010E00000000000000000000000000000000000
  | .evtIrqDelayExpiry => 0x60000000400000000000000000000000000000000000
  | .vddqInvalid => 0x60000000000000000000000000000000000000008800

/-- A command changes only its parts. -/
theorem exec_parts {c : Instr} {s t : State} (h : exec c s = .next t) : t.seen (parts c) = s.seen (parts c) := by
  cases c <;> dsimp only [exec] at h <;> dsimp only [parts]
  case aonRstAssert =>
    have hn : ∀ off, 191561942608236107294793378393788647952342390272950271 / 2 ^ (147 + regGroup off) % 2 = 1 := regs_all_hidden (by decide)
    have key : ∀ x : KMap Word, regsSeen 191561942608236107294793378393788647952342390272950271 x = [] := by
      intro x; unfold regsSeen; simp [hn]
    simp [State.seen, key, Glb.seen, Qz.seen, Ref.seen, Qos.seen, Phy.seen, Ras.seen, Egp.seen, Mir.seen, Dom.seen, Img.seen, Glg.seen, Pwr.seen, Evt.seen]
  case aonRstRelease a0 a1 a2 a3 =>
    simp only [execAonRstRelease, run, Host.Outcome.next.injEq] at h
    subst h
    exact (aonRstRelease_keeps (by decide) ..).trans (begin__keeps (by decide) _)
  case aonStartDone =>
    simp only [execAonStartDone, run, Host.Outcome.next.injEq] at h
    subst h
    exact (aonStartDone_keeps (by decide) ..).trans (begin__keeps (by decide) _)
  case imgWordAck a0 a1 =>
    simp only [execImgWordAck, run, Host.Outcome.next.injEq] at h
    subst h
    exact (imgWordAck_keeps (by decide) ..).trans (begin__keeps (by decide) _)
  case imgWordTimeout =>
    simp only [execImgWordTimeout, run, Host.Outcome.next.injEq] at h
    subst h
    exact (imgWordTimeout_keeps (by decide) ..).trans (begin__keeps (by decide) _)
  case imgVerifyDone =>
    simp only [execImgVerifyDone, run, Host.Outcome.next.injEq] at h
    subst h
    exact (imgVerifyDone_keeps (by decide) ..).trans (begin__keeps (by decide) _)
  case fuseWordAck a0 =>
    simp only [execFuseWordAck, run, Host.Outcome.next.injEq] at h
    subst h
    exact (fuseWordAck_keeps (by decide) ..).trans (begin__keeps (by decide) _)
  case fuseWordTimeout =>
    simp only [execFuseWordTimeout, run, Host.Outcome.next.injEq] at h
    subst h
    exact (fuseWordTimeout_keeps (by decide) ..).trans (begin__keeps (by decide) _)
  case pllLock =>
    simp only [execPllLock, run, Host.Outcome.next.injEq] at h
    subst h
    exact (pllLock_keeps (by decide) ..).trans (begin__keeps (by decide) _)
  case pllLockTimeout =>
    simp only [execPllLockTimeout, run, Host.Outcome.next.injEq] at h
    subst h
    exact (pllLockTimeout_keeps (by decide) ..).trans (begin__keeps (by decide) _)
  case phyZqDone a0 =>
    simp only [execPhyZqDone, run, Host.Outcome.next.injEq] at h
    subst h
    exact (phyZqDone_keeps (by decide) ..).trans (begin__keeps (by decide) _)
  case phyZqTimeout =>
    simp only [execPhyZqTimeout, run, Host.Outcome.next.injEq] at h
    subst h
    exact (phyZqTimeout_keeps (by decide) ..).trans (begin__keeps (by decide) _)
  case i3cTransactionDone a0 a1 a2 =>
    simp only [execI3cTransactionDone, run, Host.Outcome.next.injEq] at h
    subst h
    exact (i3cDone_keeps (by decide) ..).trans (begin__keeps (by decide) _)
  case i3cTransactionTimeout a0 a1 a2 =>
    simp only [execI3cTransactionTimeout, run, Host.Outcome.next.injEq] at h
    subst h
    exact (i3cTimeout_keeps (by decide) ..).trans (begin__keeps (by decide) _)
  case sidebandDone =>
    simp only [execSidebandDone, run, Host.Outcome.next.injEq] at h
    subst h
    exact (sidebandDone_keeps (by decide) ..).trans (begin__keeps (by decide) _)
  case dimmInitDone a0 a1 =>
    simp only [execDimmInitDone, run, Host.Outcome.next.injEq] at h
    subst h
    exact (dimmInitDone_keeps (by decide) ..).trans (begin__keeps (by decide) _)
  case dimmInitTimeout a0 =>
    simp only [execDimmInitTimeout, run, Host.Outcome.next.injEq] at h
    subst h
    exact (dimmInitTimeout_keeps (by decide) ..).trans (begin__keeps (by decide) _)
  case trainingStepDone a0 a1 a2 =>
    simp only [execTrainingStepDone, run, Host.Outcome.next.injEq] at h
    subst h
    exact (trainingStepDone_keeps (by decide) ..).trans (begin__keeps (by decide) _)
  case trainingStepTimeout a0 a1 =>
    simp only [execTrainingStepTimeout, run, Host.Outcome.next.injEq] at h
    subst h
    exact (trainingStepTimeout_keeps (by decide) ..).trans (begin__keeps (by decide) _)
  case carveOutDone =>
    simp only [execCarveOutDone, run, Host.Outcome.next.injEq] at h
    subst h
    exact (carveOutDone_keeps (by decide) ..).trans (begin__keeps (by decide) _)
  case carveOutWatchdog a0 =>
    simp only [execCarveOutWatchdog, run, Host.Outcome.next.injEq] at h
    subst h
    exact (carveOutWatchdog_keeps (by decide) ..).trans (begin__keeps (by decide) _)
  case serviceEntry =>
    simp only [execServiceEntry, run, Host.Outcome.next.injEq] at h
    subst h
    exact (serviceEntry_keeps (by decide) ..).trans (begin__keeps (by decide) _)
  case regionZeroed a0 =>
    simp only [execRegionZeroed, run, Host.Outcome.next.injEq] at h
    subst h
    exact (regionZeroed_keeps (by decide) ..).trans (begin__keeps (by decide) _)
  case registerWrite a0 =>
    simp only [execRegisterWrite, run, Host.Outcome.next.injEq] at h
    subst h
    exact (portWrite_keeps (by decide) ..).trans (begin__keeps (by decide) _)
  case sqWrite a0 =>
    simp only [execSqWrite, run, Host.Outcome.next.injEq] at h
    subst h
    exact (portWrite_keeps (by decide) ..).trans (begin__keeps (by decide) _)
  case ppWrite a0 =>
    simp only [execPpWrite, run, Host.Outcome.next.injEq] at h
    subst h
    exact (portWrite_keeps (by decide) ..).trans (begin__keeps (by decide) _)
  case ppConfirm a0 =>
    simp only [execPpConfirm, run, Host.Outcome.next.injEq] at h
    subst h
    exact (ppConfirm_keeps (by decide) ..).trans (begin__keeps (by decide) _)
  case ppWindowExpiry =>
    simp only [execPpWindowExpiry, run, Host.Outcome.next.injEq] at h
    subst h
    exact (ppWindowExpiry_keeps (by decide) ..).trans (begin__keeps (by decide) _)
  case glbLockSet a0 a1 =>
    simp only [execGlbLockSet, run, Host.Outcome.next.injEq] at h
    subst h
    exact (seen_mono (by decide) (confirmRow_20 ..)).trans (begin__keeps (by decide) _)
  case indexWrite a0 =>
    simp only [execIndexWrite, run, Host.Outcome.next.injEq] at h
    subst h
    exact (portWrite_keeps (by decide) ..).trans (begin__keeps (by decide) _)
  case evtDataRead a0 a1 =>
    simp only [execEvtDataRead, run, Host.Outcome.next.injEq] at h
    subst h
    exact (onPort_keeps (by decide) _ _ _ (evtDataRead_keeps (by decide) ..)).trans (begin__keeps (by decide) _)
  case evtFlush a0 a1 =>
    simp only [execEvtFlush, run, Host.Outcome.next.injEq] at h
    subst h
    refine (onPort_keeps (by decide) _ _ _ ?_).trans (begin__keeps (by decide) _)
    simp
  case domSnapDataRead a0 =>
    simp only [execDomSnapDataRead, run, Host.Outcome.next.injEq] at h
    subst h
    exact (onPort_keeps (by decide) _ _ _ (imagePort_keeps (by decide) _ _ (domSnapRead_keeps (by decide) ..))).trans (begin__keeps (by decide) _)
  case qptDataAccess a0 =>
    unfold execQptDataAccess at h
    split at h <;> simp only [run, Host.Outcome.next.injEq] at h <;> subst h
    · exact (portRead_keeps (by decide) _ _ _ fun s => qptData_keeps (by decide) ..).trans (begin__keeps (by decide) _)
    · exact (seen_mono (by decide) (portWrite_A008 ..)).trans (begin__keeps (by decide) _)
  case qptRdSelWrite a0 a1 =>
    simp only [execQptRdSelWrite, run, Host.Outcome.next.injEq] at h
    subst h
    exact (seen_mono (by decide) (portWrite_A004 ..)).trans (begin__keeps (by decide) _)
  case qptCommit a0 a1 =>
    simp only [execQptCommit, run, Host.Outcome.next.injEq] at h
    subst h
    exact (seen_mono (by decide) (confirmRow_A010 ..)).trans (begin__keeps (by decide) _)
  case phyLlSelWrite a0 a1 =>
    simp only [execPhyLlSelWrite, run, Host.Outcome.next.injEq] at h
    subst h
    exact (seen_mono (by decide) (portWrite_20040 ..)).trans (begin__keeps (by decide) _)
  case phyLlDataRead a0 =>
    simp only [execPhyLlDataRead, run, Host.Outcome.next.injEq] at h
    subst h
    exact (onPort_keeps (by decide) _ _ _ (imagePort_keeps (by decide) _ _ (llRead_keeps (by decide) ..))).trans (begin__keeps (by decide) _)
  case rasRplDataRead a0 =>
    simp only [execRasRplDataRead, run, Host.Outcome.next.injEq] at h
    subst h
    exact (portRead_keeps (by decide) _ _ _ fun s => rplData_keeps (by decide) ..).trans (begin__keeps (by decide) _)
  case mapProbe a0 a1 =>
    simp only [execMapProbe, run, Host.Outcome.next.injEq] at h
    subst h
    exact (seen_mono (by decide) (portWrite_12044 ..)).trans (begin__keeps (by decide) _)
  case read a0 a1 =>
    simp only [execRead, run, Host.Outcome.next.injEq] at h
    subst h
    exact (present_keeps (by decide) ..).trans (begin__keeps (by decide) _)
  case writeFull a0 a1 =>
    simp only [execWriteFull, run, Host.Outcome.next.injEq] at h
    subst h
    exact (present_keeps (by decide) ..).trans (begin__keeps (by decide) _)
  case writePartial a0 a1 =>
    simp only [execWritePartial, run, Host.Outcome.next.injEq] at h
    subst h
    exact (present_keeps (by decide) ..).trans (begin__keeps (by decide) _)
  case writePoison a0 a1 =>
    simp only [execWritePoison, run, Host.Outcome.next.injEq] at h
    subst h
    exact (present_keeps (by decide) ..).trans (begin__keeps (by decide) _)
  case barrier a0 a1 =>
    simp only [execBarrier, run, Host.Outcome.next.injEq] at h
    subst h
    exact (present_keeps (by decide) ..).trans (begin__keeps (by decide) _)
  case peerMirrorWrite a0 a1 =>
    simp only [execPeerMirrorWrite, run, Host.Outcome.next.injEq] at h
    subst h
    exact (present_keeps (by decide) ..).trans (begin__keeps (by decide) _)
  case peerMirrorRead a0 a1 =>
    simp only [execPeerMirrorRead, run, Host.Outcome.next.injEq] at h
    subst h
    exact (present_keeps (by decide) ..).trans (begin__keeps (by decide) _)
  case peerMessage a0 a1 =>
    simp only [execPeerMessage, run, Host.Outcome.next.injEq] at h
    subst h
    exact (present_keeps (by decide) ..).trans (begin__keeps (by decide) _)
  case reservedOpcode a0 a1 a2 =>
    simp only [execReservedOpcode, run, Host.Outcome.next.injEq] at h
    subst h
    exact (reservedOpcode_keeps (by decide) ..).trans (begin__keeps (by decide) _)
  case writeDataBeat a0 a1 a2 =>
    simp only [execWriteDataBeat, run, Host.Outcome.next.injEq] at h
    subst h
    exact (writeDataBeat_keeps (by decide) ..).trans (begin__keeps (by decide) _)
  case creditReturn a0 =>
    simp only [execCreditReturn, run, Host.Outcome.next.injEq] at h
    subst h
    exact (creditReturn_keeps (by decide) ..).trans (begin__keeps (by decide) _)
  case portTransactionTimeout a0 a1 =>
    simp only [execPortTransactionTimeout, run, Host.Outcome.next.injEq] at h
    subst h
    exact (portTransactionTimeout_keeps (by decide) ..).trans (begin__keeps (by decide) _)
  case rtpUrgentChange a0 =>
    simp only [execRtpUrgentChange, run, Host.Outcome.next.injEq] at h
    subst h
    exact (rtpUrgentChange_keeps (by decide) ..).trans (begin__keeps (by decide) _)
  case egpRequestIssue a0 =>
    simp only [execEgpRequestIssue, run, Host.Outcome.next.injEq] at h
    subst h
    exact (egpIssue_keeps (by decide) ..).trans (begin__keeps (by decide) _)
  case egpResponse a0 a1 a2 a3 a4 a5 =>
    simp only [execEgpResponse, run, Host.Outcome.next.injEq] at h
    subst h
    exact (egpResponse_keeps (by decide) ..).trans (begin__keeps (by decide) _)
  case egpSlotTimeout a0 =>
    simp only [execEgpSlotTimeout, run, Host.Outcome.next.injEq] at h
    subst h
    exact (egpTimeout_keeps (by decide) ..).trans (begin__keeps (by decide) _)
  case qzReqRise a0 a1 =>
    simp only [execQzReqRise, run, Host.Outcome.next.injEq] at h
    subst h
    exact (qzReqRise_keeps (by decide) ..).trans (begin__keeps (by decide) _)
  case pauseTakeEffect =>
    simp only [execPauseTakeEffect, run, Host.Outcome.next.injEq] at h
    subst h
    exact (pauseTakeEffect_keeps (by decide) ..).trans (begin__keeps (by decide) _)
  case deepPauseSrDone =>
    simp only [execDeepPauseSrDone, run, Host.Outcome.next.injEq] at h
    subst h
    exact (deepPauseSrDone_keeps (by decide) ..).trans (begin__keeps (by decide) _)
  case qzHoldExpiry =>
    simp only [execQzHoldExpiry, run, Host.Outcome.next.injEq] at h
    subst h
    exact (qzHoldExpiry_keeps (by decide) ..).trans (begin__keeps (by decide) _)
  case qzReqFall =>
    simp only [execQzReqFall, run, Host.Outcome.next.injEq] at h
    subst h
    exact (qzReqFall_keeps (by decide) ..).trans (begin__keeps (by decide) _)
  case deepPauseExitDone =>
    simp only [execDeepPauseExitDone, run, Host.Outcome.next.injEq] at h
    subst h
    exact (deepPauseExitDone_keeps (by decide) ..).trans (begin__keeps (by decide) _)
  case drainBarrierComplete =>
    simp only [execDrainBarrierComplete, run, Host.Outcome.next.injEq] at h
    subst h
    exact (drainBarrierComplete_keeps (by decide) ..).trans (begin__keeps (by decide) _)
  case ingressSelect a0 =>
    simp only [execIngressSelect, run, Host.Outcome.next.injEq] at h
    subst h
    exact (ingressSelect_keeps (by decide) ..).trans (begin__keeps (by decide) _)
  case mntArbitrate a0 =>
    simp only [execMntArbitrate, run, Host.Outcome.next.injEq] at h
    subst h
    exact (mntArbitrate_keeps (by decide) ..).trans (begin__keeps (by decide) _)
  case schedulerIssue a0 =>
    simp only [execSchedulerIssue, run, Host.Outcome.next.injEq] at h
    subst h
    exact (schedulerIssue_keeps (by decide) ..).trans (begin__keeps (by decide) _)
  case readDecode a0 a1 =>
    simp only [execReadDecode, run, Host.Outcome.next.injEq] at h
    subst h
    exact (readDecode_keeps (by decide) ..).trans (begin__keeps (by decide) _)
  case mergeReadDecode a0 a1 =>
    simp only [execMergeReadDecode, run, Host.Outcome.next.injEq] at h
    subst h
    exact (mergeReadDecode_keeps (by decide) ..).trans (begin__keeps (by decide) _)
  case writeBurstDone a0 =>
    simp only [execWriteBurstDone, run, Host.Outcome.next.injEq] at h
    subst h
    exact (writeBurstDone_keeps (by decide) ..).trans (begin__keeps (by decide) _)
  case heldReadRelease a0 =>
    simp only [execHeldReadRelease, run, Host.Outcome.next.injEq] at h
    subst h
    exact (heldReadRelease_keeps (by decide) ..).trans (begin__keeps (by decide) _)
  case alertRecognised a0 =>
    simp only [execAlertRecognised, run, Host.Outcome.next.injEq] at h
    subst h
    exact (alertRecognised_keeps (by decide) ..).trans (begin__keeps (by decide) _)
  case alertRelease a0 a1 =>
    simp only [execAlertRelease, run, Host.Outcome.next.injEq] at h
    subst h
    exact (alertRelease_keeps (by decide) ..).trans (begin__keeps (by decide) _)
  case replayAttemptEnd a0 =>
    simp only [execReplayAttemptEnd, run, Host.Outcome.next.injEq] at h
    subst h
    exact (replayAttemptEnd_keeps (by decide) ..).trans (begin__keeps (by decide) _)
  case alertHeldLowTimeout a0 =>
    simp only [execAlertHeldLowTimeout, run, Host.Outcome.next.injEq] at h
    subst h
    exact (alertHeldLow_keeps (by decide) ..).trans (begin__keeps (by decide) _)
  case channelRecoveryDone a0 =>
    simp only [execChannelRecoveryDone, run, Host.Outcome.next.injEq] at h
    subst h
    exact (recoveryDone_keeps (by decide) ..).trans (begin__keeps (by decide) _)
  case channelRecoveryTimeout a0 =>
    simp only [execChannelRecoveryTimeout, run, Host.Outcome.next.injEq] at h
    subst h
    exact (recoveryTimeout_keeps (by decide) ..).trans (begin__keeps (by decide) _)
  case progressWatchdogExpiry a0 =>
    simp only [execProgressWatchdogExpiry, run, Host.Outcome.next.injEq] at h
    subst h
    exact (watchdog_keeps (by decide) ..).trans (begin__keeps (by decide) _)
  case refreshSlot a0 a1 =>
    simp only [execRefreshSlot, run, Host.Outcome.next.injEq] at h
    subst h
    exact (refreshSlot_keeps (by decide) ..).trans (begin__keeps (by decide) _)
  case refreshPostpone a0 a1 =>
    simp only [execRefreshPostpone, run, Host.Outcome.next.injEq] at h
    subst h
    exact (refreshPostpone_keeps (by decide) ..).trans (begin__keeps (by decide) _)
  case mr4Poll a0 a1 =>
    simp only [execMr4Poll, run, Host.Outcome.next.injEq] at h
    subst h
    exact (mr4Poll_keeps (by decide) ..).trans (begin__keeps (by decide) _)
  case backoffRfmDeadline a0 =>
    simp only [execBackoffRfmDeadline, run, Host.Outcome.next.injEq] at h
    subst h
    exact (backoffDeadline_keeps (by decide) ..).trans (begin__keeps (by decide) _)
  case epochAdvance a0 a1 =>
    simp only [execEpochAdvance, run, Host.Outcome.next.injEq] at h
    subst h
    exact (epochAdvance_keeps (by decide) ..).trans (begin__keeps (by decide) _)
  case ledgerFetchDone a0 a1 =>
    simp only [execLedgerFetchDone, run, Host.Outcome.next.injEq] at h
    subst h
    exact (ledgerFetchDone_keeps (by decide) ..).trans (begin__keeps (by decide) _)
  case ledgerFetchTimeout a0 =>
    simp only [execLedgerFetchTimeout, run, Host.Outcome.next.injEq] at h
    subst h
    exact (ledgerFetchTimeout_keeps (by decide) ..).trans (begin__keeps (by decide) _)
  case refillTick =>
    simp only [execRefillTick, run, Host.Outcome.next.injEq] at h
    subst h
    exact (refillTick_keeps (by decide) ..).trans (begin__keeps (by decide) _)
  case qosGuaranteeMiss a0 =>
    simp only [execQosGuaranteeMiss, run, Host.Outcome.next.injEq] at h
    subst h
    exact (guaranteeMiss_keeps (by decide) ..).trans (begin__keeps (by decide) _)
  case wheelSlot =>
    simp only [execWheelSlot, run, Host.Outcome.next.injEq] at h
    subst h
    exact (wheelSlot_keeps (by decide) ..).trans (begin__keeps (by decide) _)
  case scoutPointDone a0 a1 a2 =>
    simp only [execScoutPointDone, run, Host.Outcome.next.injEq] at h
    subst h
    exact (scoutPointDone_keeps (by decide) ..).trans (begin__keeps (by decide) _)
  case scoutBackoffEnd a0 a1 =>
    simp only [execScoutBackoffEnd, run, Host.Outcome.next.injEq] at h
    subst h
    exact (scoutBackoffEnd_keeps (by decide) ..).trans (begin__keeps (by decide) _)
  case roleExchange a0 a1 =>
    simp only [execRoleExchange, run, Host.Outcome.next.injEq] at h
    subst h
    exact (roleExchange_keeps (by decide) ..).trans (begin__keeps (by decide) _)
  case forcedSwapWindow a0 =>
    simp only [execForcedSwapWindow, run, Host.Outcome.next.injEq] at h
    subst h
    exact (forcedSwapWindow_keeps (by decide) ..).trans (begin__keeps (by decide) _)
  case swatchPeriodExpiry a0 =>
    simp only [execSwatchPeriodExpiry, run, Host.Outcome.next.injEq] at h
    subst h
    exact (swatchPeriodExpiry_keeps (by decide) ..).trans (begin__keeps (by decide) _)
  case swatchReq a0 a1 =>
    simp only [execSwatchReq, run, Host.Outcome.next.injEq] at h
    subst h
    exact (seen_mono (by decide) (confirmRow_20020 ..)).trans (begin__keeps (by decide) _)
  case swatchRunStart a0 =>
    simp only [execSwatchRunStart, run, Host.Outcome.next.injEq] at h
    subst h
    exact (swatchRunStart_keeps (by decide) ..).trans (begin__keeps (by decide) _)
  case swatchRunEnd a0 a1 =>
    simp only [execSwatchRunEnd, run, Host.Outcome.next.injEq] at h
    subst h
    exact (swatchRunEnd_keeps (by decide) ..).trans (begin__keeps (by decide) _)
  case swatchHoldTimeout a0 =>
    simp only [execSwatchHoldTimeout, run, Host.Outcome.next.injEq] at h
    subst h
    exact (swatchHoldTimeout_keeps (by decide) ..).trans (begin__keeps (by decide) _)
  case runtimeTrainingTimeout a0 =>
    simp only [execRuntimeTrainingTimeout, run, Host.Outcome.next.injEq] at h
    subst h
    exact (runtimeTrainingTimeout_keeps (by decide) ..).trans (begin__keeps (by decide) _)
  case oscPeriodExpiry a0 a1 =>
    simp only [execOscPeriodExpiry, run, Host.Outcome.next.injEq] at h
    subst h
    exact (oscPeriodExpiry_keeps (by decide) ..).trans (begin__keeps (by decide) _)
  case lifelineSave a0 =>
    simp only [execLifelineSave, run, Host.Outcome.next.injEq] at h
    subst h
    exact (lifelineSave_keeps (by decide) ..).trans (begin__keeps (by decide) _)
  case gearReq a0 a1 =>
    simp only [execGearReq, run, Host.Outcome.next.injEq] at h
    subst h
    exact (seen_mono (by decide) (confirmRow_20028 ..)).trans (begin__keeps (by decide) _)
  case gearChangeEnter =>
    simp only [execGearChangeEnter, run, Host.Outcome.next.injEq] at h
    subst h
    exact (gearChangeEnter_keeps (by decide) ..).trans (begin__keeps (by decide) _)
  case gearChangeDone a0 =>
    simp only [execGearChangeDone, run, Host.Outcome.next.injEq] at h
    subst h
    exact (gearChangeDone_keeps (by decide) ..).trans (begin__keeps (by decide) _)
  case gearPolicyWindow a0 =>
    simp only [execGearPolicyWindow, run, Host.Outcome.next.injEq] at h
    subst h
    exact (gearPolicyWindow_keeps (by decide) ..).trans (begin__keeps (by decide) _)
  case thermalPoll =>
    simp only [execThermalPoll, run, Host.Outcome.next.injEq] at h
    subst h
    exact (thermalPoll_keeps (by decide) ..).trans (begin__keeps (by decide) _)
  case pmicPoll =>
    simp only [execPmicPoll, run, Host.Outcome.next.injEq] at h
    subst h
    exact (pmicPoll_keeps (by decide) ..).trans (begin__keeps (by decide) _)
  case powerDownEntry a0 =>
    simp only [execPowerDownEntry, run, Host.Outcome.next.injEq] at h
    subst h
    exact (powerDownEntry_keeps (by decide) ..).trans (begin__keeps (by decide) _)
  case selfRefreshEntry a0 =>
    simp only [execSelfRefreshEntry, run, Host.Outcome.next.injEq] at h
    subst h
    exact (selfRefreshEntry_keeps (by decide) ..).trans (begin__keeps (by decide) _)
  case selfRefreshWake a0 =>
    simp only [execSelfRefreshWake, run, Host.Outcome.next.injEq] at h
    subst h
    exact (selfRefreshWake_keeps (by decide) ..).trans (begin__keeps (by decide) _)
  case dormantEntry =>
    simp only [execDormantEntry, run, Host.Outcome.next.injEq] at h
    subst h
    exact (dormantEntry_keeps (by decide) ..).trans (begin__keeps (by decide) _)
  case dormantWake a0 =>
    simp only [execDormantWake, run, Host.Outcome.next.injEq] at h
    subst h
    exact (dormantWake_keeps (by decide) ..).trans (begin__keeps (by decide) _)
  case dormantTimerExpiry =>
    simp only [execDormantTimerExpiry, run, Host.Outcome.next.injEq] at h
    subst h
    exact (dormantTimer_keeps (by decide) ..).trans (begin__keeps (by decide) _)
  case wakeComplete =>
    simp only [execWakeComplete, run, Host.Outcome.next.injEq] at h
    subst h
    exact (wakeComplete_keeps (by decide) ..).trans (begin__keeps (by decide) _)
  case pfNFall =>
    simp only [execPfNFall, run, Host.Outcome.next.injEq] at h
    subst h
    exact (pfNFall_keeps (by decide) ..).trans (begin__keeps (by decide) _)
  case bindOffComplete =>
    simp only [execBindOffComplete, run, Host.Outcome.next.injEq] at h
    subst h
    exact (bindOffComplete_keeps (by decide) ..).trans (begin__keeps (by decide) _)
  case scrubReadDecode a0 a1 =>
    simp only [execScrubReadDecode, run, Host.Outcome.next.injEq] at h
    subst h
    exact (scrubReadDecode_keeps (by decide) ..).trans (begin__keeps (by decide) _)
  case scrubDeadlineMiss a0 =>
    simp only [execScrubDeadlineMiss, run, Host.Outcome.next.injEq] at h
    subst h
    exact (scrubDeadline_keeps (by decide) ..).trans (begin__keeps (by decide) _)
  case scrubCfgCommit a0 a1 =>
    simp only [execScrubCfgCommit, run, Host.Outcome.next.injEq] at h
    subst h
    exact (seen_mono (by decide) (confirmRow_1400C ..)).trans (begin__keeps (by decide) _)
  case errorLeak =>
    simp only [execErrorLeak, run, Host.Outcome.next.injEq] at h
    subst h
    exact (errorLeak_keeps (by decide) ..).trans (begin__keeps (by decide) _)
  case deviceMarked a0 a1 a2 =>
    simp only [execDeviceMarked, run, Host.Outcome.next.injEq] at h
    subst h
    exact (deviceMarked_keeps (by decide) ..).trans (begin__keeps (by decide) _)
  case pprStart a0 a1 =>
    simp only [execPprStart, run, Host.Outcome.next.injEq] at h
    subst h
    exact (pprStart_keeps (by decide) ..).trans (begin__keeps (by decide) _)
  case pprModeEnter =>
    simp only [execPprModeEnter, run, Host.Outcome.next.injEq] at h
    subst h
    exact (pprMode_keeps (by decide) ..).trans (begin__keeps (by decide) _)
  case pprDone a0 =>
    simp only [execPprDone, run, Host.Outcome.next.injEq] at h
    subst h
    exact (pprDone_keeps (by decide) ..).trans (begin__keeps (by decide) _)
  case pprTimeout =>
    simp only [execPprTimeout, run, Host.Outcome.next.injEq] at h
    subst h
    exact (pprTimeout_keeps (by decide) ..).trans (begin__keeps (by decide) _)
  case sparingStart a0 =>
    simp only [execSparingStart, run, Host.Outcome.next.injEq] at h
    subst h
    exact (sparingStart_keeps (by decide) ..).trans (begin__keeps (by decide) _)
  case sparingComplete a0 =>
    simp only [execSparingComplete, run, Host.Outcome.next.injEq] at h
    subst h
    exact (sparingComplete_keeps (by decide) ..).trans (begin__keeps (by decide) _)
  case softRepairReq a0 a1 =>
    simp only [execSoftRepairReq, run, Host.Outcome.next.injEq] at h
    subst h
    exact (seen_mono (by decide) (confirmRow_14020_1 ..)).trans (begin__keeps (by decide) _)
  case sparingReq a0 a1 =>
    simp only [execSparingReq, run, Host.Outcome.next.injEq] at h
    subst h
    exact (seen_mono (by decide) (confirmRow_14020_2 ..)).trans (begin__keeps (by decide) _)
  case clearCounters a0 a1 =>
    simp only [execClearCounters, run, Host.Outcome.next.injEq] at h
    subst h
    exact (seen_mono (by decide) (confirmRow_14020_3 ..)).trans (begin__keeps (by decide) _)
  case dbgReadLine a0 a1 =>
    simp only [execDbgReadLine, run, Host.Outcome.next.injEq] at h
    subst h
    exact (seen_mono (by decide) (confirmRow_38000 ..)).trans (begin__keeps (by decide) _)
  case dbgMrr a0 a1 =>
    simp only [execDbgMrr, run, Host.Outcome.next.injEq] at h
    subst h
    exact (seen_mono (by decide) (confirmRow_38000 ..)).trans (begin__keeps (by decide) _)
  case dbgOpDone a0 =>
    simp only [execDbgOpDone, run, Host.Outcome.next.injEq] at h
    subst h
    exact (dbgOpDone_keeps (by decide) ..).trans (begin__keeps (by decide) _)
  case heartbeatSend =>
    simp only [execHeartbeatSend, run, Host.Outcome.next.injEq] at h
    subst h
    exact (heartbeatSend_keeps (by decide) ..).trans (begin__keeps (by decide) _)
  case heartbeatLoss =>
    simp only [execHeartbeatLoss, run, Host.Outcome.next.injEq] at h
    subst h
    exact (heartbeatLoss_keeps (by decide) ..).trans (begin__keeps (by decide) _)
  case helloSend =>
    simp only [execHelloSend, run, Host.Outcome.next.injEq] at h
    subst h
    exact (helloSend_keeps (by decide) ..).trans (begin__keeps (by decide) _)
  case joinTimeout =>
    simp only [execJoinTimeout, run, Host.Outcome.next.injEq] at h
    subst h
    exact (joinTimeout_keeps (by decide) ..).trans (begin__keeps (by decide) _)
  case censusToken =>
    simp only [execCensusToken, run, Host.Outcome.next.injEq] at h
    subst h
    exact (censusToken_keeps (by decide) ..).trans (begin__keeps (by decide) _)
  case censusResult =>
    simp only [execCensusResult, run, Host.Outcome.next.injEq] at h
    subst h
    exact (censusResult_keeps (by decide) ..).trans (begin__keeps (by decide) _)
  case heartbeat =>
    simp only [execHeartbeat, run, Host.Outcome.next.injEq] at h
    subst h
    exact (heartbeat_keeps (by decide) ..).trans (begin__keeps (by decide) _)
  case reloadRequest =>
    simp only [execReloadRequest, run, Host.Outcome.next.injEq] at h
    subst h
    exact (reloadRequest_keeps (by decide) ..).trans (begin__keeps (by decide) _)
  case reloadAck =>
    simp only [execReloadAck, run, Host.Outcome.next.injEq] at h
    subst h
    exact (reloadAck_keeps (by decide) ..).trans (begin__keeps (by decide) _)
  case staleReply =>
    simp only [execStaleReply, run, Host.Outcome.next.injEq] at h
    subst h
    exact (staleReplyMsg_keeps (by decide) ..).trans (begin__keeps (by decide) _)
  case roleChange =>
    simp only [execRoleChange, run, Host.Outcome.next.injEq] at h
    subst h
    exact (roleChange_keeps (by decide) ..).trans (begin__keeps (by decide) _)
  case hello =>
    simp only [execHello, run, Host.Outcome.next.injEq] at h
    subst h
    exact (hello_keeps (by decide) ..).trans (begin__keeps (by decide) _)
  case resilverStart =>
    simp only [execResilverStart, run, Host.Outcome.next.injEq] at h
    subst h
    exact (resilverStart_keeps (by decide) ..).trans (begin__keeps (by decide) _)
  case resilverDone =>
    simp only [execResilverDone, run, Host.Outcome.next.injEq] at h
    subst h
    exact (resilverDone_keeps (by decide) ..).trans (begin__keeps (by decide) _)
  case poisonLine =>
    simp only [execPoisonLine, run, Host.Outcome.next.injEq] at h
    subst h
    exact (poisonLine_keeps (by decide) ..).trans (begin__keeps (by decide) _)
  case resilverLine a0 a1 =>
    simp only [execResilverLine, run, Host.Outcome.next.injEq] at h
    subst h
    exact (resilverLine_keeps (by decide) ..).trans (begin__keeps (by decide) _)
  case roleChangeInitiate =>
    simp only [execRoleChangeInitiate, run, Host.Outcome.next.injEq] at h
    subst h
    exact (roleInitiate_keeps (by decide) ..).trans (begin__keeps (by decide) _)
  case roleChangeConfirmTimeout =>
    simp only [execRoleChangeConfirmTimeout, run, Host.Outcome.next.injEq] at h
    subst h
    exact (roleTimeout_keeps (by decide) ..).trans (begin__keeps (by decide) _)
  case mirRotate a0 a1 =>
    simp only [execMirRotate, run, Host.Outcome.next.injEq] at h
    subst h
    exact (seen_mono (by decide) (confirmRow_6020_1 ..)).trans (begin__keeps (by decide) _)
  case mirBreak a0 a1 =>
    simp only [execMirBreak, run, Host.Outcome.next.injEq] at h
    subst h
    exact (seen_mono (by decide) (confirmRow_6020_2 ..)).trans (begin__keeps (by decide) _)
  case mirRejoin a0 a1 =>
    simp only [execMirRejoin, run, Host.Outcome.next.injEq] at h
    subst h
    exact (seen_mono (by decide) (confirmRow_6020_3 ..)).trans (begin__keeps (by decide) _)
  case mirTakeover a0 a1 =>
    simp only [execMirTakeover, run, Host.Outcome.next.injEq] at h
    subst h
    exact (seen_mono (by decide) (confirmRow_6020_4 ..)).trans (begin__keeps (by decide) _)
  case censusPeriod =>
    simp only [execCensusPeriod, run, Host.Outcome.next.injEq] at h
    subst h
    exact (censusTick_keeps (by decide) ..).trans (begin__keeps (by decide) _)
  case chiozResend a0 =>
    simp only [execChiozResend, run, Host.Outcome.next.injEq] at h
    subst h
    exact (chiozResend_keeps (by decide) ..).trans (begin__keeps (by decide) _)
  case censusHopTimeout a0 =>
    simp only [execCensusHopTimeout, run, Host.Outcome.next.injEq] at h
    subst h
    exact (hopTimeout_keeps (by decide) ..).trans (begin__keeps (by decide) _)
  case imgReload a0 a1 =>
    simp only [execImgReload, run, Host.Outcome.next.injEq] at h
    subst h
    exact (seen_mono (by decide) (confirmRow_4020 ..)).trans (begin__keeps (by decide) _)
  case reloadFetchDone =>
    simp only [execReloadFetchDone, run, Host.Outcome.next.injEq] at h
    subst h
    exact (reloadFetchDone_keeps (by decide) ..).trans (begin__keeps (by decide) _)
  case reloadQuiescePoint =>
    simp only [execReloadQuiescePoint, run, Host.Outcome.next.injEq] at h
    subst h
    exact (reloadQuiescePoint_keeps (by decide) ..).trans (begin__keeps (by decide) _)
  case imgBcastReload a0 a1 =>
    simp only [execImgBcastReload, run, Host.Outcome.next.injEq] at h
    subst h
    exact (seen_mono (by decide) (confirmRow_4034 ..)).trans (begin__keeps (by decide) _)
  case imgBcastWithdraw a0 a1 =>
    simp only [execImgBcastWithdraw, run, Host.Outcome.next.injEq] at h
    subst h
    exact (seen_mono (by decide) (confirmRow_4034 ..)).trans (begin__keeps (by decide) _)
  case reloadBcastResend a0 =>
    simp only [execReloadBcastResend, run, Host.Outcome.next.injEq] at h
    subst h
    exact (bcastResend_keeps (by decide) ..).trans (begin__keeps (by decide) _)
  case glgIDoorbell a0 a1 a2 =>
    simp only [execGlgIDoorbell, run, Host.Outcome.next.injEq] at h
    subst h
    exact (seen_mono (by decide) (portWrite_page_C ..)).trans (begin__keeps (by decide) _)
  case glgIDescDataAccess a0 a1 =>
    unfold execGlgIDescDataAccess at h
    split at h <;> simp only [run, Host.Outcome.next.injEq] at h <;> subst h
    · exact (portRead_keeps (by decide) _ _ _ fun s => descData_keeps (by decide) ..).trans (begin__keeps (by decide) _)
    · exact (seen_mono (by decide) (portWrite_page_8 ..)).trans (begin__keeps (by decide) _)
  case glgICplDataRead a0 a1 =>
    simp only [execGlgICplDataRead, run, Host.Outcome.next.injEq] at h
    subst h
    exact (portRead_keeps (by decide) _ _ _ fun s => cplData_keeps (by decide) ..).trans (begin__keeps (by decide) _)
  case glgStateDataAccess a0 =>
    unfold execGlgStateDataAccess at h
    split at h <;> simp only [run, Host.Outcome.next.injEq] at h <;> subst h
    · exact (portRead_keeps (by decide) _ _ _ fun s => stateData_keeps (by decide) ..).trans (begin__keeps (by decide) _)
    · exact (seen_mono (by decide) (portWrite_30024 ..)).trans (begin__keeps (by decide) _)
  case glgIAbort a0 a1 a2 =>
    simp only [execGlgIAbort, run, Host.Outcome.next.injEq] at h
    subst h
    exact (seen_mono (by decide) (portWrite_page_28 ..)).trans (begin__keeps (by decide) _)
  case glgIFlush a0 a1 a2 =>
    simp only [execGlgIFlush, run, Host.Outcome.next.injEq] at h
    subst h
    exact (seen_mono (by decide) (portWrite_page_28 ..)).trans (begin__keeps (by decide) _)
  case jobStart a0 =>
    simp only [execJobStart, run, Host.Outcome.next.injEq] at h
    subst h
    exact (jobStart_keeps (by decide) ..).trans (begin__keeps (by decide) _)
  case granuleDone a0 a1 =>
    simp only [execGranuleDone, run, Host.Outcome.next.injEq] at h
    subst h
    exact (granuleDone_keeps (by decide) ..).trans (begin__keeps (by decide) _)
  case jobEnd a0 =>
    simp only [execJobEnd, run, Host.Outcome.next.injEq] at h
    subst h
    exact (jobEnd_keeps (by decide) ..).trans (begin__keeps (by decide) _)
  case granuleTimeout a0 =>
    simp only [execGranuleTimeout, run, Host.Outcome.next.injEq] at h
    subst h
    exact (granuleTimeout_keeps (by decide) ..).trans (begin__keeps (by decide) _)
  case freezeTakeEffect a0 =>
    simp only [execFreezeTakeEffect, run, Host.Outcome.next.injEq] at h
    subst h
    exact (freezeTake_keeps (by decide) ..).trans (begin__keeps (by decide) _)
  case mboxAssign a0 a1 =>
    simp only [execMboxAssign, run, Host.Outcome.next.injEq] at h
    subst h
    exact (seen_mono (by decide) (confirmRow_30010_1 ..)).trans (begin__keeps (by decide) _)
  case mboxUnassign a0 a1 =>
    simp only [execMboxUnassign, run, Host.Outcome.next.injEq] at h
    subst h
    exact (seen_mono (by decide) (confirmRow_30010_2 ..)).trans (begin__keeps (by decide) _)
  case mboxAbort a0 a1 =>
    simp only [execMboxAbort, run, Host.Outcome.next.injEq] at h
    subst h
    exact (seen_mono (by decide) (confirmRow_30010_3 ..)).trans (begin__keeps (by decide) _)
  case mboxFreeze a0 a1 =>
    simp only [execMboxFreeze, run, Host.Outcome.next.injEq] at h
    subst h
    exact (seen_mono (by decide) (confirmRow_30010_4 ..)).trans (begin__keeps (by decide) _)
  case mboxThaw a0 a1 =>
    simp only [execMboxThaw, run, Host.Outcome.next.injEq] at h
    subst h
    exact (seen_mono (by decide) (confirmRow_30010_5 ..)).trans (begin__keeps (by decide) _)
  case mboxSave a0 a1 =>
    simp only [execMboxSave, run, Host.Outcome.next.injEq] at h
    subst h
    exact (seen_mono (by decide) (confirmRow_30010_6 ..)).trans (begin__keeps (by decide) _)
  case mboxRestore a0 a1 =>
    simp only [execMboxRestore, run, Host.Outcome.next.injEq] at h
    subst h
    exact (seen_mono (by decide) (confirmRow_30010_7 ..)).trans (begin__keeps (by decide) _)
  case mboxNotify a0 a1 =>
    simp only [execMboxNotify, run, Host.Outcome.next.injEq] at h
    subst h
    exact (seen_mono (by decide) (confirmRow_30010_8 ..)).trans (begin__keeps (by decide) _)
  case glgPuSwap a0 a1 =>
    simp only [execGlgPuSwap, run, Host.Outcome.next.injEq] at h
    subst h
    exact (seen_mono (by decide) (confirmRow_30030 ..)).trans (begin__keeps (by decide) _)
  case pvRearmPrecise a0 a1 =>
    simp only [execPvRearmPrecise, run, Host.Outcome.next.injEq] at h
    subst h
    exact (seen_mono (by decide) (portWrite_30050 ..)).trans (begin__keeps (by decide) _)
  case pvRearmImprecise a0 a1 =>
    simp only [execPvRearmImprecise, run, Host.Outcome.next.injEq] at h
    subst h
    exact (seen_mono (by decide) (portWrite_30050 ..)).trans (begin__keeps (by decide) _)
  case glgProbe a0 a1 =>
    simp only [execGlgProbe, run, Host.Outcome.next.injEq] at h
    subst h
    exact (seen_mono (by decide) (portWrite_30200 ..)).trans (begin__keeps (by decide) _)
  case evtChainTake a0 =>
    simp only [execEvtChainTake, run, Host.Outcome.next.injEq] at h
    subst h
    exact (evtChainTake_keeps (by decide) ..).trans (begin__keeps (by decide) _)
  case evtIrqDelayExpiry =>
    simp only [execEvtIrqDelayExpiry, run, Host.Outcome.next.injEq] at h
    subst h
    exact (evtIrqDelay_keeps (by decide) ..).trans (begin__keeps (by decide) _)
  case vddqInvalid =>
    simp only [execVddqInvalid, run, Host.Outcome.next.injEq] at h
    subst h
    exact (vddqInvalid_keeps (by decide) ..).trans (begin__keeps (by decide) _)

end Sys2Proof.Machine
end

