-- ==== Sys2Proof/Laws/Fields.lean ====
section
/-! SUPPORT. The fields of State that the shared operations leave alone. -/

namespace Sys2Proof.Machine

@[simp] theorem enter_fields (c : Ctl) (s : State) :
    (enter c s).glb.haltCause = s.glb.haltCause ∧ (enter c s).glb.step = s.glb.step ∧
    (enter c s).glb.gear = s.glb.gear ∧ (enter c s).glb.ctlId = s.glb.ctlId ∧ (enter c s).glb.chanEn = s.glb.chanEn ∧
    (enter c s).glb.imgBase = s.glb.imgBase ∧ (enter c s).glb.pfN = s.glb.pfN ∧ (enter c s).glb.now = s.glb.now ∧
    (enter c s).glb.cc = s.glb.cc ∧ (enter c s).glb.coreRun = s.glb.coreRun ∧ (enter c s).glb.vddqOk = s.glb.vddqOk ∧
    (enter c s).glb.pllTries = s.glb.pllTries ∧ (enter c s).glb.ackGap = s.glb.ackGap ∧
    (enter c s).glb.fuses = s.glb.fuses ∧ (enter c s).glb.ch = s.glb.ch ∧ (enter c s).glb.slot = s.glb.slot ∧
    (enter c s).glb.train = s.glb.train ∧ (enter c s).glb.init = s.glb.init ∧
    (enter c s).glb.initCopy = s.glb.initCopy ∧ (enter c s).glb.initWait = s.glb.initWait ∧
    (enter c s).glb.onDemand = s.glb.onDemand ∧ (enter c s).glb.zero = s.glb.zero ∧
    (enter c s).glb.served = s.glb.served ∧ (enter c s).glb.restart = s.glb.restart ∧ (enter c s).pp = s.pp ∧
    (enter c s).qz = s.qz ∧ (enter c s).ports = s.ports ∧ (enter c s).reqs = s.reqs ∧ (enter c s).nextId = s.nextId ∧
    (enter c s).sched = s.sched ∧ (enter c s).alert = s.alert ∧ (enter c s).ref = s.ref ∧
    (enter c s).qos.vt = s.qos.vt ∧ (enter c s).qos.tb = s.qos.tb ∧ (enter c s).qos.wheel = s.qos.wheel ∧
    (enter c s).qos.tick = s.qos.tick ∧ (enter c s).qos.staging = s.qos.staging ∧
    (enter c s).qos.pendingQpt = s.qos.pendingQpt ∧ (enter c s).qos.pendingMore = s.qos.pendingMore ∧
    (enter c s).qos.panic = s.qos.panic ∧ (enter c s).qos.urgent = s.qos.urgent ∧
    (enter c s).qos.peakRtp = s.qos.peakRtp ∧ (enter c s).qos.lastCrdRd = s.qos.lastCrdRd ∧
    (enter c s).qos.lastCrdWr = s.qos.lastCrdWr ∧ (enter c s).phy = s.phy ∧ (enter c s).ras = s.ras ∧
    (enter c s).egp = s.egp ∧ (enter c s).mir = s.mir ∧ (enter c s).dom = s.dom ∧ (enter c s).img = s.img ∧
    (enter c s).glg = s.glg ∧ (enter c s).pwr = s.pwr ∧ (enter c s).evt = s.evt ∧ (enter c s).out = s.out ∧
    (enter c s).raised = s.raised ∧ (enter c s).free = s.free ∧ (enter c s).pending = s.pending :=
  ⟨glb_haltCause_of_seen (by simp), glb_step_of_seen (by simp), glb_gear_of_seen (by simp),
    glb_ctlId_of_seen (by simp), glb_chanEn_of_seen (by simp), glb_imgBase_of_seen (by simp),
    glb_pfN_of_seen (by simp), glb_now_of_seen (by simp), glb_cc_of_seen (by simp), glb_coreRun_of_seen (by simp),
    glb_vddqOk_of_seen (by simp), glb_pllTries_of_seen (by simp), glb_ackGap_of_seen (by simp),
    glb_fuses_of_seen (by simp), glb_ch_of_seen (by simp), glb_slot_of_seen (by simp), glb_train_of_seen (by simp),
    glb_init_of_seen (by simp), glb_initCopy_of_seen (by simp), glb_initWait_of_seen (by simp),
    glb_onDemand_of_seen (by simp), glb_zero_of_seen (by simp), glb_served_of_seen (by simp),
    glb_restart_of_seen (by simp), pp_of_seen (by simp), qz_of_seen (by simp), ports_of_seen (by simp),
    reqs_of_seen (by simp), nextId_of_seen (by simp), sched_of_seen (by simp), alert_of_seen (by simp),
    ref_of_seen (by simp), qos_vt_of_seen (by simp), qos_tb_of_seen (by simp), qos_wheel_of_seen (by simp),
    qos_tick_of_seen (by simp), qos_staging_of_seen (by simp), qos_pendingQpt_of_seen (by simp),
    qos_pendingMore_of_seen (by simp), qos_panic_of_seen (by simp), qos_urgent_of_seen (by simp),
    qos_peakRtp_of_seen (by simp), qos_lastCrdRd_of_seen (by simp), qos_lastCrdWr_of_seen (by simp),
    phy_of_seen (by simp), ras_of_seen (by simp), egp_of_seen (by simp), mir_of_seen (by simp),
    dom_of_seen (by simp), img_of_seen (by simp), glg_of_seen (by simp), pwr_of_seen (by simp),
    evt_of_seen (by simp), out_of_seen (by simp), raised_of_seen (by simp), free_of_seen (by simp),
    pending_of_seen (by simp)⟩

@[simp] theorem toStep_fields (n : Byte) (s : State) :
    (toStep n s).glb.ctl = s.glb.ctl ∧ (toStep n s).glb.haltCause = s.glb.haltCause ∧
    (toStep n s).glb.gear = s.glb.gear ∧ (toStep n s).glb.ctlId = s.glb.ctlId ∧
    (toStep n s).glb.chanEn = s.glb.chanEn ∧ (toStep n s).glb.imgBase = s.glb.imgBase ∧
    (toStep n s).glb.pfN = s.glb.pfN ∧ (toStep n s).glb.now = s.glb.now ∧ (toStep n s).glb.cc = s.glb.cc ∧
    (toStep n s).glb.coreRun = s.glb.coreRun ∧ (toStep n s).glb.vddqOk = s.glb.vddqOk ∧
    (toStep n s).glb.pllTries = s.glb.pllTries ∧ (toStep n s).glb.ackGap = s.glb.ackGap ∧
    (toStep n s).glb.fuses = s.glb.fuses ∧ (toStep n s).glb.ch = s.glb.ch ∧ (toStep n s).glb.slot = s.glb.slot ∧
    (toStep n s).glb.train = s.glb.train ∧ (toStep n s).glb.init = s.glb.init ∧
    (toStep n s).glb.initCopy = s.glb.initCopy ∧ (toStep n s).glb.initWait = s.glb.initWait ∧
    (toStep n s).glb.onDemand = s.glb.onDemand ∧ (toStep n s).glb.zero = s.glb.zero ∧
    (toStep n s).glb.served = s.glb.served ∧ (toStep n s).glb.restart = s.glb.restart ∧ (toStep n s).regs = s.regs ∧
    (toStep n s).pp = s.pp ∧ (toStep n s).qz = s.qz ∧ (toStep n s).ports = s.ports ∧ (toStep n s).reqs = s.reqs ∧
    (toStep n s).nextId = s.nextId ∧ (toStep n s).sched = s.sched ∧ (toStep n s).alert = s.alert ∧
    (toStep n s).ref = s.ref ∧ (toStep n s).qos = s.qos ∧ (toStep n s).phy = s.phy ∧ (toStep n s).ras = s.ras ∧
    (toStep n s).egp = s.egp ∧ (toStep n s).mir = s.mir ∧ (toStep n s).dom = s.dom ∧ (toStep n s).img = s.img ∧
    (toStep n s).glg = s.glg ∧ (toStep n s).pwr = s.pwr ∧ (toStep n s).evt = s.evt ∧ (toStep n s).out = s.out ∧
    (toStep n s).raised = s.raised ∧ (toStep n s).free = s.free ∧ (toStep n s).pending = s.pending :=
  ⟨glb_ctl_of_seen (by simp), glb_haltCause_of_seen (by simp), glb_gear_of_seen (by simp),
    glb_ctlId_of_seen (by simp), glb_chanEn_of_seen (by simp), glb_imgBase_of_seen (by simp),
    glb_pfN_of_seen (by simp), glb_now_of_seen (by simp), glb_cc_of_seen (by simp), glb_coreRun_of_seen (by simp),
    glb_vddqOk_of_seen (by simp), glb_pllTries_of_seen (by simp), glb_ackGap_of_seen (by simp),
    glb_fuses_of_seen (by simp), glb_ch_of_seen (by simp), glb_slot_of_seen (by simp), glb_train_of_seen (by simp),
    glb_init_of_seen (by simp), glb_initCopy_of_seen (by simp), glb_initWait_of_seen (by simp),
    glb_onDemand_of_seen (by simp), glb_zero_of_seen (by simp), glb_served_of_seen (by simp),
    glb_restart_of_seen (by simp), regs_of_seen (by simp), pp_of_seen (by simp), qz_of_seen (by simp),
    ports_of_seen (by simp), reqs_of_seen (by simp), nextId_of_seen (by simp), sched_of_seen (by simp),
    alert_of_seen (by simp), ref_of_seen (by simp), qos_of_seen (by simp), phy_of_seen (by simp),
    ras_of_seen (by simp), egp_of_seen (by simp), mir_of_seen (by simp), dom_of_seen (by simp),
    img_of_seen (by simp), glg_of_seen (by simp), pwr_of_seen (by simp), evt_of_seen (by simp),
    out_of_seen (by simp), raised_of_seen (by simp), free_of_seen (by simp), pending_of_seen (by simp)⟩

@[simp] theorem halt_fields (cause : Byte) (s : State) :
    (halt cause s).glb.step = s.glb.step ∧ (halt cause s).glb.gear = s.glb.gear ∧
    (halt cause s).glb.ctlId = s.glb.ctlId ∧ (halt cause s).glb.chanEn = s.glb.chanEn ∧
    (halt cause s).glb.imgBase = s.glb.imgBase ∧ (halt cause s).glb.pfN = s.glb.pfN ∧
    (halt cause s).glb.now = s.glb.now ∧ (halt cause s).glb.cc = s.glb.cc ∧
    (halt cause s).glb.coreRun = s.glb.coreRun ∧ (halt cause s).glb.vddqOk = s.glb.vddqOk ∧
    (halt cause s).glb.pllTries = s.glb.pllTries ∧ (halt cause s).glb.ackGap = s.glb.ackGap ∧
    (halt cause s).glb.fuses = s.glb.fuses ∧ (halt cause s).glb.slot = s.glb.slot ∧
    (halt cause s).glb.train = s.glb.train ∧ (halt cause s).glb.init = s.glb.init ∧
    (halt cause s).glb.initCopy = s.glb.initCopy ∧ (halt cause s).glb.initWait = s.glb.initWait ∧
    (halt cause s).glb.onDemand = s.glb.onDemand ∧ (halt cause s).glb.zero = s.glb.zero ∧
    (halt cause s).glb.served = s.glb.served ∧ (halt cause s).glb.restart = s.glb.restart ∧ (halt cause s).pp = s.pp ∧
    (halt cause s).qz = s.qz ∧ (halt cause s).ports = s.ports ∧ (halt cause s).reqs = s.reqs ∧
    (halt cause s).nextId = s.nextId ∧ (halt cause s).sched = s.sched ∧ (halt cause s).alert = s.alert ∧
    (halt cause s).ref = s.ref ∧ (halt cause s).qos.vt = s.qos.vt ∧ (halt cause s).qos.tb = s.qos.tb ∧
    (halt cause s).qos.wheel = s.qos.wheel ∧ (halt cause s).qos.tick = s.qos.tick ∧
    (halt cause s).qos.staging = s.qos.staging ∧ (halt cause s).qos.pendingQpt = s.qos.pendingQpt ∧
    (halt cause s).qos.pendingMore = s.qos.pendingMore ∧ (halt cause s).qos.panic = s.qos.panic ∧
    (halt cause s).qos.urgent = s.qos.urgent ∧ (halt cause s).qos.peakRtp = s.qos.peakRtp ∧
    (halt cause s).qos.lastCrdRd = s.qos.lastCrdRd ∧ (halt cause s).qos.lastCrdWr = s.qos.lastCrdWr ∧
    (halt cause s).phy = s.phy ∧ (halt cause s).ras = s.ras ∧ (halt cause s).egp = s.egp ∧ (halt cause s).mir = s.mir ∧
    (halt cause s).dom = s.dom ∧ (halt cause s).img = s.img ∧ (halt cause s).glg = s.glg ∧ (halt cause s).pwr = s.pwr ∧
    (halt cause s).evt = s.evt ∧ (halt cause s).out = s.out ∧ (halt cause s).raised = s.raised ∧
    (halt cause s).free = s.free ∧ (halt cause s).pending = s.pending :=
  ⟨glb_step_of_seen (by simp), glb_gear_of_seen (by simp), glb_ctlId_of_seen (by simp), glb_chanEn_of_seen (by simp),
    glb_imgBase_of_seen (by simp), glb_pfN_of_seen (by simp), glb_now_of_seen (by simp), glb_cc_of_seen (by simp),
    glb_coreRun_of_seen (by simp), glb_vddqOk_of_seen (by simp), glb_pllTries_of_seen (by simp),
    glb_ackGap_of_seen (by simp), glb_fuses_of_seen (by simp), glb_slot_of_seen (by simp),
    glb_train_of_seen (by simp), glb_init_of_seen (by simp), glb_initCopy_of_seen (by simp),
    glb_initWait_of_seen (by simp), glb_onDemand_of_seen (by simp), glb_zero_of_seen (by simp),
    glb_served_of_seen (by simp), glb_restart_of_seen (by simp), pp_of_seen (by simp), qz_of_seen (by simp),
    ports_of_seen (by simp), reqs_of_seen (by simp), nextId_of_seen (by simp), sched_of_seen (by simp),
    alert_of_seen (by simp), ref_of_seen (by simp), qos_vt_of_seen (by simp), qos_tb_of_seen (by simp),
    qos_wheel_of_seen (by simp), qos_tick_of_seen (by simp), qos_staging_of_seen (by simp),
    qos_pendingQpt_of_seen (by simp), qos_pendingMore_of_seen (by simp), qos_panic_of_seen (by simp),
    qos_urgent_of_seen (by simp), qos_peakRtp_of_seen (by simp), qos_lastCrdRd_of_seen (by simp),
    qos_lastCrdWr_of_seen (by simp), phy_of_seen (by simp), ras_of_seen (by simp), egp_of_seen (by simp),
    mir_of_seen (by simp), dom_of_seen (by simp), img_of_seen (by simp), glg_of_seen (by simp),
    pwr_of_seen (by simp), evt_of_seen (by simp), out_of_seen (by simp), raised_of_seen (by simp),
    free_of_seen (by simp), pending_of_seen (by simp)⟩

@[simp] theorem raise_fields (ty : Nat) (sev : Fin 8) (src : Nat) (payload : List Word) (s : State) :
    (raise ty sev src payload s).glb = s.glb ∧ (raise ty sev src payload s).pp = s.pp ∧
    (raise ty sev src payload s).qz = s.qz ∧ (raise ty sev src payload s).ports = s.ports ∧
    (raise ty sev src payload s).reqs = s.reqs ∧ (raise ty sev src payload s).nextId = s.nextId ∧
    (raise ty sev src payload s).sched = s.sched ∧ (raise ty sev src payload s).alert = s.alert ∧
    (raise ty sev src payload s).ref = s.ref ∧ (raise ty sev src payload s).qos = s.qos ∧
    (raise ty sev src payload s).phy = s.phy ∧ (raise ty sev src payload s).ras = s.ras ∧
    (raise ty sev src payload s).egp = s.egp ∧ (raise ty sev src payload s).mir = s.mir ∧
    (raise ty sev src payload s).dom = s.dom ∧ (raise ty sev src payload s).img = s.img ∧
    (raise ty sev src payload s).glg = s.glg ∧ (raise ty sev src payload s).pwr = s.pwr ∧
    (raise ty sev src payload s).evt.chain = s.evt.chain ∧ (raise ty sev src payload s).evt.pend = s.evt.pend ∧
    (raise ty sev src payload s).evt.lim = s.evt.lim ∧ (raise ty sev src payload s).evt.expiries = s.evt.expiries ∧
    (raise ty sev src payload s).out = s.out ∧ (raise ty sev src payload s).free = s.free ∧
    (raise ty sev src payload s).pending = s.pending :=
  ⟨glb_of_seen (by simp), pp_of_seen (by simp), qz_of_seen (by simp), ports_of_seen (by simp),
    reqs_of_seen (by simp), nextId_of_seen (by simp), sched_of_seen (by simp), alert_of_seen (by simp),
    ref_of_seen (by simp), qos_of_seen (by simp), phy_of_seen (by simp), ras_of_seen (by simp),
    egp_of_seen (by simp), mir_of_seen (by simp), dom_of_seen (by simp), img_of_seen (by simp),
    glg_of_seen (by simp), pwr_of_seen (by simp), evt_chain_of_seen (by simp), evt_pend_of_seen (by simp),
    evt_lim_of_seen (by simp), evt_expiries_of_seen (by simp), out_of_seen (by simp), free_of_seen (by simp),
    pending_of_seen (by simp)⟩

@[simp] theorem timeout_fields (code : Nat) (sev : Fin 8) (src : Nat) (esc : Bool) (subject detail : Nat) (s : State) :
    (timeout code sev src esc subject detail s).glb = s.glb ∧ (timeout code sev src esc subject detail s).pp = s.pp ∧
    (timeout code sev src esc subject detail s).qz = s.qz ∧
    (timeout code sev src esc subject detail s).ports = s.ports ∧
    (timeout code sev src esc subject detail s).reqs = s.reqs ∧
    (timeout code sev src esc subject detail s).nextId = s.nextId ∧
    (timeout code sev src esc subject detail s).sched = s.sched ∧
    (timeout code sev src esc subject detail s).alert = s.alert ∧
    (timeout code sev src esc subject detail s).ref = s.ref ∧ (timeout code sev src esc subject detail s).qos = s.qos ∧
    (timeout code sev src esc subject detail s).phy = s.phy ∧ (timeout code sev src esc subject detail s).ras = s.ras ∧
    (timeout code sev src esc subject detail s).egp = s.egp ∧ (timeout code sev src esc subject detail s).mir = s.mir ∧
    (timeout code sev src esc subject detail s).dom = s.dom ∧ (timeout code sev src esc subject detail s).img = s.img ∧
    (timeout code sev src esc subject detail s).glg = s.glg ∧ (timeout code sev src esc subject detail s).pwr = s.pwr ∧
    (timeout code sev src esc subject detail s).evt.chain = s.evt.chain ∧
    (timeout code sev src esc subject detail s).evt.pend = s.evt.pend ∧
    (timeout code sev src esc subject detail s).out = s.out ∧
    (timeout code sev src esc subject detail s).free = s.free ∧
    (timeout code sev src esc subject detail s).pending = s.pending :=
  ⟨glb_of_seen (by simp), pp_of_seen (by simp), qz_of_seen (by simp), ports_of_seen (by simp),
    reqs_of_seen (by simp), nextId_of_seen (by simp), sched_of_seen (by simp), alert_of_seen (by simp),
    ref_of_seen (by simp), qos_of_seen (by simp), phy_of_seen (by simp), ras_of_seen (by simp),
    egp_of_seen (by simp), mir_of_seen (by simp), dom_of_seen (by simp), img_of_seen (by simp),
    glg_of_seen (by simp), pwr_of_seen (by simp), evt_chain_of_seen (by simp), evt_pend_of_seen (by simp),
    out_of_seen (by simp), free_of_seen (by simp), pending_of_seen (by simp)⟩

@[simp] theorem showVerify_fields (r : Option (Nat × Nat × Nat)) (s : State) :
    (showVerify r s).glb = s.glb ∧ (showVerify r s).pp = s.pp ∧ (showVerify r s).qz = s.qz ∧
    (showVerify r s).ports = s.ports ∧ (showVerify r s).reqs = s.reqs ∧ (showVerify r s).nextId = s.nextId ∧
    (showVerify r s).sched = s.sched ∧ (showVerify r s).alert = s.alert ∧ (showVerify r s).ref = s.ref ∧
    (showVerify r s).qos = s.qos ∧ (showVerify r s).phy = s.phy ∧ (showVerify r s).ras = s.ras ∧
    (showVerify r s).egp = s.egp ∧ (showVerify r s).mir = s.mir ∧ (showVerify r s).dom = s.dom ∧
    (showVerify r s).img = s.img ∧ (showVerify r s).glg = s.glg ∧ (showVerify r s).pwr = s.pwr ∧
    (showVerify r s).evt = s.evt ∧ (showVerify r s).out = s.out ∧ (showVerify r s).raised = s.raised ∧
    (showVerify r s).free = s.free ∧ (showVerify r s).pending = s.pending :=
  ⟨glb_of_seen (by simp), pp_of_seen (by simp), qz_of_seen (by simp), ports_of_seen (by simp),
    reqs_of_seen (by simp), nextId_of_seen (by simp), sched_of_seen (by simp), alert_of_seen (by simp),
    ref_of_seen (by simp), qos_of_seen (by simp), phy_of_seen (by simp), ras_of_seen (by simp),
    egp_of_seen (by simp), mir_of_seen (by simp), dom_of_seen (by simp), img_of_seen (by simp),
    glg_of_seen (by simp), pwr_of_seen (by simp), evt_of_seen (by simp), out_of_seen (by simp),
    raised_of_seen (by simp), free_of_seen (by simp), pending_of_seen (by simp)⟩

end Sys2Proof.Machine
end

