-- ==== Sys2Proof/Laws/Ops.lean ====
section
/-! SUPPORT. What the shared operations do: register words, controller states, timers, records, outputs. -/

namespace Sys2Proof.Machine

/-! ### Vectors -/

@[simp] theorem vget_map {α β : Type} {n : Nat} (v : Vector α n) (f : α → β) (i : Fin n) :
    (v.map f).get i = f (v.get i) := by simp [Vector.get_eq_getElem]

@[simp] theorem vget_ofFn {α : Type} {n : Nat} (f : Fin n → α) (i : Fin n) : (Vector.ofFn f).get i = f i := by
  simp [Vector.get_eq_getElem]

@[simp] theorem vget_replicate {α : Type} {n : Nat} (x : α) (i : Fin n) : (Vector.replicate n x).get i = x := by
  simp [Vector.get_eq_getElem]

/-! ### Register words -/

@[simp] theorem regGet_bump_same (o : Nat) (s : State) :
    regGet (bump o s) o = BitVec.ofNat 32 (sat 0xFFFFFFFF ((regGet s o).toNat + 1)) := by simp [bump, bumpBy]

theorem regGet_bump_other (s : State) {o p : Nat} (h : p ≠ o) : regGet (bump o s) p = regGet s p := by
  simp [bump, bumpBy, regGet_regSet_other s _ h]

@[simp] theorem regGet_sqSet_same (o : Nat) (b : Word) (s : State) : regGet (sqSet o b s) o = sqWord (regGet s o) b := by
  simp [sqSet]

theorem regGet_sqSet_other (s : State) (b : Word) {o p : Nat} (h : p ≠ o) : regGet (sqSet o b s) p = regGet s p := by
  simp [sqSet, regGet_regSet_other s _ h]

theorem regGet_regPut_other (s : State) (hi lo v : Nat) {o p : Nat} (h : p ≠ o) :
    regGet (regPut o hi lo v s) p = regGet s p := by
  simp [regPut, regGet_regSet_other s _ h]

theorem low24_bit (j : Nat) : (0x00FFFFFF : Word).getLsbD j = decide (j < 24) := by
  by_cases h : j < 32
  · have : ∀ k : Fin 32, (0x00FFFFFF : Word).getLsbD k.val = decide (k.val < 24) := by decide
    exact this ⟨j, h⟩
  · rw [BitVec.getLsbD_of_ge _ _ (by omega)]; simp; omega

theorem low8_bit (j : Nat) : (0xFF : Word).getLsbD j = decide (j < 8) := by
  by_cases h : j < 32
  · have : ∀ k : Fin 32, (0xFF : Word).getLsbD k.val = decide (k.val < 8) := by decide
    exact this ⟨j, h⟩
  · rw [BitVec.getLsbD_of_ge _ _ (by omega)]; simp; omega

/-- A hardware event sets its status bits and leaves the others (R40). -/
theorem sqWord_bit (w b : Word) {n : Nat} (h : n < 24) : bitOf (sqWord w b) n = (bitOf w n || bitOf b n) := by
  unfold bitOf sqWord
  rw [BitVec.getLsbD_or, BitVec.getLsbD_shiftLeft, BitVec.getLsbD_and, BitVec.getLsbD_or, low24_bit]
  simp only [h, decide_true, Bool.not_true, Bool.and_false, Bool.false_and, Bool.false_or, Bool.and_true]

/-- The sequence of an SQ register advances by one with every event (R40). -/
theorem sqWord_seq (w b : Word) : sqWord w b >>> 24 = (w >>> 24 + 1) &&& 0xFF := by
  unfold sqWord
  generalize w >>> 24 + 1 = x
  apply BitVec.eq_of_getLsbD_eq
  intro i hi
  rw [BitVec.getLsbD_ushiftRight, BitVec.getLsbD_or, BitVec.getLsbD_shiftLeft, BitVec.getLsbD_and, low24_bit,
    BitVec.getLsbD_and, low8_bit]
  by_cases h : i < 8
  · have h1 : 24 + i < 32 := by omega
    have h2 : ¬ 24 + i < 24 := by omega
    simp only [h1, h2, h, decide_true, decide_false, Bool.not_false, Bool.and_true, Bool.true_and, Bool.and_false, Bool.or_false,
      Nat.add_sub_cancel_left]
  · have h1 : ¬ 24 + i < 32 := by omega
    have h2 : ¬ 24 + i < 24 := by omega
    simp only [h1, h2, h, decide_false, Bool.false_and, Bool.and_false, Bool.or_false]

/-! ### Controller states -/

/-- Entering a state moves the controller and sets a bit of GLB_STATE_CHANGE; beside that it only notes a circumstance of a
guarantee miss (R285). -/
theorem enter_does (c : Ctl) (s : State) :
    (enter c s).glb = { s.glb with ctl := c } ∧ (enter c s).regs = (sqSet rStateChange (pack [(1, c.code)]) s).regs := by
  unfold enter onlyIf
  split <;> exact ⟨rfl, rfl⟩

@[simp] theorem enter_ctl (c : Ctl) (s : State) : (enter c s).glb.ctl = c := by rw [(enter_does c s).1]
@[simp] theorem toStep_step (n : Byte) (s : State) : (toStep n s).glb.step = n := (rfl)

/-- Entering a state sets its bit of GLB_STATE_CHANGE. -/
theorem enter_change (c : Ctl) (s : State) : bitOf (regGet (enter c s) 0x10) c.code = true := by
  have h : c.code < 24 := by cases c <;> decide
  have e : regGet (enter c s) 0x10 = sqWord (regGet s 0x10) (pack [(1, c.code)]) := by
    rw [regGet_congr (enter_does c s).2]
    simp [rStateChange]
  have hb : bitOf (pack [(1, c.code)]) c.code = true := by cases c <;> decide
  rw [e, sqWord_bit _ _ h, hb, Bool.or_true]

/-- A fatal failure of Cast-On: the cause, and no retention latch stays set (R65, R87, R170). -/
@[simp] theorem halt_does (cause : Byte) (s : State) :
    (halt cause s).glb.ctl = .halted ∧ (halt cause s).glb.haltCause = cause
      ∧ ∀ c, ((halt cause s).glb.ch.get c).latch = false := by
  unfold halt
  rw [(enter_does ..).1]
  refine ⟨rfl, rfl, fun c => ?_⟩
  simp [updGlb]

/-! ### Timers -/

/-- An expiry is counted under its code (R518). -/
theorem timeout_counts (code : Nat) (sev : Fin 8) (src : Nat) (esc : Bool) (subject detail : Nat) (s : State) :
    kget 0 (timeout code sev src esc subject detail s).evt.expiries code
      = BitVec.ofNat 32 (sat 0xFFFFFFFF ((kget 0 s.evt.expiries code).toNat + 1)) := by
  have h : (timeout code sev src esc subject detail s).evt.expiries = (expired code s).evt.expiries := by
    unfold timeout
    exact evt_expiries_of_seen (limited_keeps (by decide) _ _ _ _ fun n t => by simp)
  rw [h]
  simp [expired, kget]

/-! ### Records -/

/-- The first record of a command stands behind all that wait (R504, R506). -/
theorem raisedSplit_first (src : Nat) {s : State} (h : s.raised = 0) : raisedSplit s src = (s.evt.buf, []) := by
  simp [raisedSplit, h]

theorem regFld_evtCfg_sqSet (s : State) (b : Word) (hi lo : Nat) :
    regFld (sqSet rEvtStatus b s) rEvtCfg hi lo = regFld s rEvtCfg hi lo := by
  unfold regFld
  rw [regGet_sqSet_other s b (by decide)]

/-- A record below the severity of EVT_CFG leaves the records alone (R503). -/
theorem raise_filtered (ty : Nat) {sev : Fin 8} (src : Nat) (payload : List Word) {s : State}
    (h : sev.val < regFld s rEvtCfg 29 27) : (raise ty sev src payload s).evt = s.evt := by
  unfold raise
  split <;> simp [regFld_evtCfg_sqSet, h]

/-- The first record of a command takes the next sequence and the last place, where there is room (R503, R504, R506). -/
theorem raise_first (ty : Nat) {sev : Fin 8} (src : Nat) (payload : List Word) {s : State}
    (h : ¬ sev.val < regFld s rEvtCfg 29 27) (first : s.raised = 0) (room : s.evt.buf.length < 16) :
    (raise ty sev src payload s).evt = { s.evt with
      nextSeq := s.evt.nextSeq + 1
      buf := s.evt.buf ++ [⟨recHeader ty (payload.length + 3) sev src s.evt.nextSeq ::
        BitVec.ofNat 32 s.glb.now :: BitVec.ofNat 32 (s.glb.now / 2 ^ 32) :: payload, sev, none⟩] } := by
  unfold raise
  split <;> simp [regFld_evtCfg_sqSet, h, bufferRec, raisedSplit_first, first, room]

end Sys2Proof.Machine
end

