-- ==== Sys2Proof/Laws/Pieces.lean ====
section
/-! SUPPORT. The pieces of State and the numbers of their parts. -/

namespace Sys2Proof.Machine

/-- The parts of a piece. -/
def pieceParts (p : Piece) : Nat :=
  match p with
  | .clock => 0x300
  | .control => 0x1
  | .halt => 0x2
  | .castOnStep => 0x4
  | .gear => 0x8
  | .straps => 0x70
  | .powerFail => 0x80
  | .coreClock => 0x400
  | .supply => 0x800
  | .pll => 0x1000
  | .fuses => 0x4000
  | .ackLine => 0x2000
  | .channels => 0x8000
  | .slots => 0x10000
  | .training => 0x20000
  | .regions => 0x7C0000
  | .service => 0x1800000
  | .pauseInput => 0xE000000
  | .pause => 0x70000000
  | .refresh => 0x80000000
  | .refreshRate => 0x300000000
  | .rowCounters => 0x8FC00000000
  | .backoff => 0x30000000000
  | .rolling => 0x40000000000
  | .partitions => 0x100000000000
  | .virtualTime => 0x200000000000
  | .buckets => 0x400000000000
  | .wheel => 0x1800000000000
  | .partitionTable => 0xE000000000000
  | .panic => 0x30000000000000
  | .rtpPeak => 0x40000000000000
  | .creditRound => 0x180000000000000
  | .phy => 0x200000000000000
  | .lifeline => 0x1C00000000000000
  | .bootPoint => 0x2000000000000000
  | .gearChange => 0x5C000000000000000
  | .shadow => 0x20000000000000000
  | .faultUnits => 0x80000000000000000
  | .errorLog => 0x100000000000000000
  | .scrub => 0x200000000000000000
  | .repair => 0x1C00000000000000000
  | .sparing => 0x12000000000000000000
  | .debug => 0x4000000000000000000
  | .scrubFetch => 0x8000000000000000000
  | .egressQueue => 0x20000000000000000000
  | .egressSlots => 0xC0000000000000000000
  | .pairRole => 0x100000000000000000000
  | .pairState => 0x301E00000000000000000000
  | .epoch => 0x2000000000000000000000
  | .peerKnown => 0xC000000000000000000000
  | .heartbeats => 0x70000000000000000000000
  | .dirty => 0x1C00000000000000000000000
  | .resilver => 0x6000000000000000000000000
  | .roleChange => 0x18000000000000000000000000
  | .pairRecord => 0x20080000000000000000000000
  | .pairRequest => 0x40000000000000000000000000
  | .lineLocks => 0x80000000000000000000000000
  | .inbox => 0x100000000000000000000000000
  | .sequence => 0x200000000000000000000000000
  | .census => 0x1CC00000000000000000000000000
  | .snapshot => 0x3000000000000000000000000000
  | .outbox => 0x20000000000000000000000000000
  | .image => 0x240000000000000000000000000000
  | .fetch => 0x180000000000000000000000000000
  | .reload => 0x400000000000000000000000000000
  | .broadcast => 0xF800000000000000000000000000000
  | .instances => 0x410000000000000000000000000000000
  | .stateWindow => 0x20000000000000000000000000000000
  | .ruleSets => 0xC0000000000000000000000000000000
  | .mailbox => 0x100000000000000000000000000000000
  | .crcSets => 0x200000000000000000000000000000000
  | .ranksPower => 0x1800000000000000000000000000000000
  | .wake => 0x86000000000000000000000000000000000
  | .throttle => 0x18000000000000000000000000000000000
  | .temperature => 0x60000000000000000000000000000000000
  | .bindOff => 0x100000000000000000000000000000000000
  | .records => 0x1200000000000000000000000000000000000
  | .chain => 0xC00000000000000000000000000000000000
  | .limits => 0x2000000000000000000000000000000000000
  | .expiries => 0x4000000000000000000000000000000000000
  | .protectedWrite => 0x800000000000000000000000000000000000000000
  | .ports => 0x1000000000000000000000000000000000000000000
  | .requests => 0x2000000000000000000000000000000000000000000
  | .numbers => 0x4000000000000000000000000000000000000000000
  | .scheduler => 0x8000000000000000000000000000000000000000000
  | .alert => 0x10000000000000000000000000000000000000000000
  | .queue => 0x100000000000000000000000000000000000000000000
  | .regs k => 2 ^ (147 + k)

/-- A piece none of whose parts is hidden is the same. -/
theorem same_of_seen {hid : Nat} {s t : State} (p : Piece) (h : t.seen hid = s.seen hid)
    (hp : hid &&& pieceParts p = 0) (hb : hid < 2 ^ 177) : same p s t := by
  have key : ∀ k, (pieceParts p).testBit k = true → hid &&& (0x1ffffffffffffffffffffffffffffffffffffffffffff ^^^ 2 ^ k) = hid := by
    intro k hk
    apply Nat.eq_of_testBit_eq
    intro i
    have e : (hid &&& pieceParts p).testBit k = false := by rw [hp, Nat.zero_testBit]
    rw [Nat.testBit_and, hk, Bool.and_true] at e
    rw [Nat.testBit_and, Nat.testBit_xor, Nat.testBit_two_pow]
    by_cases hi : i < 177
    · have ha : (0x1ffffffffffffffffffffffffffffffffffffffffffff : Nat).testBit i = true := by
        rw [show (0x1ffffffffffffffffffffffffffffffffffffffffffff : Nat) = 2 ^ 177 - 1 from by norm_num, Nat.testBit_two_pow_sub_one]
        simpa using hi
      by_cases hk2 : k = i
      · subst hk2; simp [e]
      · simp [ha, hk2]
    · have hz : hid.testBit i = false := Nat.testBit_lt_two_pow (lt_of_lt_of_le hb (Nat.pow_le_pow_right (by norm_num) (by omega)))
      simp [hz]
  cases p <;> dsimp only [same]
  case clock => exact ⟨glb_now_of_seen (seen_mono (key 8 (by decide)) h),
      glb_cc_of_seen (seen_mono (key 9 (by decide)) h)⟩
  case control => exact glb_ctl_of_seen (seen_mono (key 0 (by decide)) h)
  case halt => exact glb_haltCause_of_seen (seen_mono (key 1 (by decide)) h)
  case castOnStep => exact glb_step_of_seen (seen_mono (key 2 (by decide)) h)
  case gear => exact glb_gear_of_seen (seen_mono (key 3 (by decide)) h)
  case straps => exact ⟨glb_ctlId_of_seen (seen_mono (key 4 (by decide)) h),
      glb_chanEn_of_seen (seen_mono (key 5 (by decide)) h),
      glb_imgBase_of_seen (seen_mono (key 6 (by decide)) h)⟩
  case powerFail => exact glb_pfN_of_seen (seen_mono (key 7 (by decide)) h)
  case coreClock => exact glb_coreRun_of_seen (seen_mono (key 10 (by decide)) h)
  case supply => exact glb_vddqOk_of_seen (seen_mono (key 11 (by decide)) h)
  case pll => exact glb_pllTries_of_seen (seen_mono (key 12 (by decide)) h)
  case fuses => exact glb_fuses_of_seen (seen_mono (key 14 (by decide)) h)
  case ackLine => exact glb_ackGap_of_seen (seen_mono (key 13 (by decide)) h)
  case channels => exact glb_ch_of_seen (seen_mono (key 15 (by decide)) h)
  case slots => exact glb_slot_of_seen (seen_mono (key 16 (by decide)) h)
  case training => exact glb_train_of_seen (seen_mono (key 17 (by decide)) h)
  case regions => exact ⟨glb_init_of_seen (seen_mono (key 18 (by decide)) h),
      glb_initCopy_of_seen (seen_mono (key 19 (by decide)) h),
      glb_initWait_of_seen (seen_mono (key 20 (by decide)) h),
      glb_onDemand_of_seen (seen_mono (key 21 (by decide)) h),
      glb_zero_of_seen (seen_mono (key 22 (by decide)) h)⟩
  case service => exact ⟨glb_served_of_seen (seen_mono (key 23 (by decide)) h),
      glb_restart_of_seen (seen_mono (key 24 (by decide)) h)⟩
  case pauseInput => exact ⟨qz_req_of_seen (seen_mono (key 25 (by decide)) h),
      qz_hold_of_seen (seen_mono (key 26 (by decide)) h),
      qz_deep_of_seen (seen_mono (key 27 (by decide)) h)⟩
  case pause => exact ⟨qz_ph_of_seen (seen_mono (key 28 (by decide)) h),
      qz_ack_of_seen (seen_mono (key 29 (by decide)) h),
      qz_paused_of_seen (seen_mono (key 30 (by decide)) h)⟩
  case refresh => exact ref_units_of_seen (seen_mono (key 31 (by decide)) h)
  case refreshRate => exact ⟨ref_doubled_of_seen (seen_mono (key 32 (by decide)) h),
      ref_mr4_of_seen (seen_mono (key 33 (by decide)) h)⟩
  case rowCounters => exact ⟨ref_groups_of_seen (seen_mono (key 34 (by decide)) h),
      ref_cache_of_seen (seen_mono (key 35 (by decide)) h),
      ref_clock_of_seen (seen_mono (key 36 (by decide)) h),
      ref_posted_of_seen (seen_mono (key 37 (by decide)) h),
      ref_fetching_of_seen (seen_mono (key 38 (by decide)) h),
      ref_due_of_seen (seen_mono (key 39 (by decide)) h),
      ref_rcHeld_of_seen (seen_mono (key 43 (by decide)) h)⟩
  case backoff => exact ⟨ref_abo_of_seen (seen_mono (key 40 (by decide)) h),
      ref_aboLate_of_seen (seen_mono (key 41 (by decide)) h)⟩
  case rolling => exact ref_raa_of_seen (seen_mono (key 42 (by decide)) h)
  case partitions => exact qos_parts_of_seen (seen_mono (key 44 (by decide)) h)
  case virtualTime => exact qos_vt_of_seen (seen_mono (key 45 (by decide)) h)
  case buckets => exact qos_tb_of_seen (seen_mono (key 46 (by decide)) h)
  case wheel => exact ⟨qos_wheel_of_seen (seen_mono (key 47 (by decide)) h),
      qos_tick_of_seen (seen_mono (key 48 (by decide)) h)⟩
  case partitionTable => exact ⟨qos_staging_of_seen (seen_mono (key 49 (by decide)) h),
      qos_pendingQpt_of_seen (seen_mono (key 50 (by decide)) h),
      qos_pendingMore_of_seen (seen_mono (key 51 (by decide)) h)⟩
  case panic => exact ⟨qos_panic_of_seen (seen_mono (key 52 (by decide)) h),
      qos_urgent_of_seen (seen_mono (key 53 (by decide)) h)⟩
  case rtpPeak => exact qos_peakRtp_of_seen (seen_mono (key 54 (by decide)) h)
  case creditRound => exact ⟨qos_lastCrdRd_of_seen (seen_mono (key 55 (by decide)) h),
      qos_lastCrdWr_of_seen (seen_mono (key 56 (by decide)) h)⟩
  case phy => exact phy_sc_of_seen (seen_mono (key 57 (by decide)) h)
  case lifeline => exact ⟨phy_lifeline_of_seen (seen_mono (key 58 (by decide)) h),
      phy_llChanged_of_seen (seen_mono (key 59 (by decide)) h),
      phy_llBuf_of_seen (seen_mono (key 60 (by decide)) h)⟩
  case bootPoint => exact phy_boot_of_seen (seen_mono (key 61 (by decide)) h)
  case gearChange => exact ⟨phy_gearWait_of_seen (seen_mono (key 62 (by decide)) h),
      phy_gearPending_of_seen (seen_mono (key 63 (by decide)) h),
      phy_gearTo_of_seen (seen_mono (key 64 (by decide)) h),
      phy_policyRun_of_seen (seen_mono (key 66 (by decide)) h)⟩
  case shadow => exact phy_shadow_of_seen (seen_mono (key 65 (by decide)) h)
  case faultUnits => exact ras_units_of_seen (seen_mono (key 67 (by decide)) h)
  case errorLog => exact ras_log_of_seen (seen_mono (key 68 (by decide)) h)
  case scrub => exact ras_scrub_of_seen (seen_mono (key 69 (by decide)) h)
  case repair => exact ⟨ras_ppr_of_seen (seen_mono (key 70 (by decide)) h),
      ras_pprWait_of_seen (seen_mono (key 71 (by decide)) h),
      ras_rpl_of_seen (seen_mono (key 72 (by decide)) h)⟩
  case sparing => exact ⟨ras_spare_of_seen (seen_mono (key 73 (by decide)) h),
      ras_reached_of_seen (seen_mono (key 76 (by decide)) h)⟩
  case debug => exact ras_dbg_of_seen (seen_mono (key 74 (by decide)) h)
  case scrubFetch => exact ras_fetch_of_seen (seen_mono (key 75 (by decide)) h)
  case egressQueue => exact egp_waiting_of_seen (seen_mono (key 77 (by decide)) h)
  case egressSlots => exact ⟨egp_slots_of_seen (seen_mono (key 78 (by decide)) h),
      egp_peak_of_seen (seen_mono (key 79 (by decide)) h)⟩
  case pairRole => exact mir_primary_of_seen (seen_mono (key 80 (by decide)) h)
  case pairState => exact ⟨mir_pair_of_seen (seen_mono (key 81 (by decide)) h),
      mir_cause_of_seen (seen_mono (key 82 (by decide)) h),
      mir_hold5_of_seen (seen_mono (key 83 (by decide)) h),
      mir_hold6_of_seen (seen_mono (key 84 (by decide)) h),
      mir_degradedAt_of_seen (seen_mono (key 92 (by decide)) h),
      mir_joinLate_of_seen (seen_mono (key 93 (by decide)) h)⟩
  case epoch => exact mir_epoch_of_seen (seen_mono (key 85 (by decide)) h)
  case peerKnown => exact ⟨mir_peerEpoch_of_seen (seen_mono (key 86 (by decide)) h),
      mir_proto_of_seen (seen_mono (key 87 (by decide)) h)⟩
  case heartbeats => exact ⟨mir_alive_of_seen (seen_mono (key 88 (by decide)) h),
      mir_missedBeats_of_seen (seen_mono (key 89 (by decide)) h),
      mir_exchange_of_seen (seen_mono (key 90 (by decide)) h)⟩
  case dirty => exact ⟨mir_dirty_of_seen (seen_mono (key 94 (by decide)) h),
      mir_dirtyCopy_of_seen (seen_mono (key 95 (by decide)) h),
      mir_recordMsgs_of_seen (seen_mono (key 96 (by decide)) h)⟩
  case resilver => exact ⟨mir_walk_of_seen (seen_mono (key 97 (by decide)) h),
      mir_walkOk_of_seen (seen_mono (key 98 (by decide)) h)⟩
  case roleChange => exact ⟨mir_role_of_seen (seen_mono (key 99 (by decide)) h),
      mir_unconf_of_seen (seen_mono (key 100 (by decide)) h)⟩
  case pairRecord => exact ⟨mir_record_of_seen (seen_mono (key 101 (by decide)) h),
      mir_retained_of_seen (seen_mono (key 91 (by decide)) h)⟩
  case pairRequest => exact mir_ctlBusy_of_seen (seen_mono (key 102 (by decide)) h)
  case lineLocks => exact mir_locks_of_seen (seen_mono (key 103 (by decide)) h)
  case inbox => exact dom_inbox_of_seen (seen_mono (key 104 (by decide)) h)
  case sequence => exact dom_seqOut_of_seen (seen_mono (key 105 (by decide)) h)
  case census => exact ⟨dom_round_of_seen (seen_mono (key 106 (by decide)) h),
      dom_res_of_seen (seen_mono (key 107 (by decide)) h),
      dom_startedAt_of_seen (seen_mono (key 110 (by decide)) h),
      dom_lowInitAt_of_seen (seen_mono (key 111 (by decide)) h),
      dom_told_of_seen (seen_mono (key 112 (by decide)) h)⟩
  case snapshot => exact ⟨dom_snap_of_seen (seen_mono (key 108 (by decide)) h),
      dom_snapHeld_of_seen (seen_mono (key 109 (by decide)) h)⟩
  case outbox => exact dom_out_of_seen (seen_mono (key 113 (by decide)) h)
  case image => exact ⟨img_words_of_seen (seen_mono (key 114 (by decide)) h),
      img_applied_of_seen (seen_mono (key 117 (by decide)) h)⟩
  case fetch => exact ⟨img_staging_of_seen (seen_mono (key 115 (by decide)) h),
      img_fetch_of_seen (seen_mono (key 116 (by decide)) h)⟩
  case reload => exact img_rl_of_seen (seen_mono (key 118 (by decide)) h)
  case broadcast => exact ⟨img_bcastId_of_seen (seen_mono (key 119 (by decide)) h),
      img_bcastBack_of_seen (seen_mono (key 120 (by decide)) h),
      img_bcastTo_of_seen (seen_mono (key 121 (by decide)) h),
      img_bcastPh_of_seen (seen_mono (key 122 (by decide)) h),
      img_appliedBy_of_seen (seen_mono (key 123 (by decide)) h)⟩
  case instances => exact ⟨glg_inst_of_seen (seen_mono (key 124 (by decide)) h),
      glg_turn_of_seen (seen_mono (key 130 (by decide)) h)⟩
  case stateWindow => exact glg_window_of_seen (seen_mono (key 125 (by decide)) h)
  case ruleSets => exact ⟨glg_activeSet_of_seen (seen_mono (key 126 (by decide)) h),
      glg_swapPending_of_seen (seen_mono (key 127 (by decide)) h)⟩
  case mailbox => exact glg_mboxBusy_of_seen (seen_mono (key 128 (by decide)) h)
  case crcSets => exact glg_wide_of_seen (seen_mono (key 129 (by decide)) h)
  case ranksPower => exact ⟨pwr_sc_of_seen (seen_mono (key 131 (by decide)) h),
      pwr_due_of_seen (seen_mono (key 132 (by decide)) h)⟩
  case wake => exact ⟨pwr_waking_of_seen (seen_mono (key 133 (by decide)) h),
      pwr_deferred_of_seen (seen_mono (key 134 (by decide)) h),
      pwr_dormantAt_of_seen (seen_mono (key 139 (by decide)) h)⟩
  case throttle => exact ⟨pwr_integ_of_seen (seen_mono (key 135 (by decide)) h),
      pwr_u_of_seen (seen_mono (key 136 (by decide)) h)⟩
  case temperature => exact ⟨pwr_critical_of_seen (seen_mono (key 137 (by decide)) h),
      pwr_tMax_of_seen (seen_mono (key 138 (by decide)) h)⟩
  case bindOff => exact pwr_bo_of_seen (seen_mono (key 140 (by decide)) h)
  case records => exact ⟨evt_buf_of_seen (seen_mono (key 141 (by decide)) h),
      evt_nextSeq_of_seen (seen_mono (key 144 (by decide)) h)⟩
  case chain => exact ⟨evt_chain_of_seen (seen_mono (key 142 (by decide)) h),
      evt_pend_of_seen (seen_mono (key 143 (by decide)) h)⟩
  case limits => exact evt_lim_of_seen (seen_mono (key 145 (by decide)) h)
  case expiries => exact evt_expiries_of_seen (seen_mono (key 146 (by decide)) h)
  case protectedWrite => exact pp_of_seen (seen_mono (key 167 (by decide)) h)
  case ports => exact ports_of_seen (seen_mono (key 168 (by decide)) h)
  case requests => exact reqs_of_seen (seen_mono (key 169 (by decide)) h)
  case numbers => exact nextId_of_seen (seen_mono (key 170 (by decide)) h)
  case scheduler => exact sched_of_seen (seen_mono (key 171 (by decide)) h)
  case alert => exact alert_of_seen (seen_mono (key 172 (by decide)) h)
  case queue => exact pending_of_seen (seen_mono (key 176 (by decide)) h)
  case regs k =>
    intro off ho
    refine regGet_of_seen h off ?_
    rw [ho]
    have e : (hid &&& 2 ^ (147 + k)).testBit (147 + k) = false := by
      have hp' : hid &&& 2 ^ (147 + k) = 0 := hp
      rw [hp', Nat.zero_testBit]
    rw [Nat.testBit_and, Nat.testBit_two_pow_self, Bool.and_true] at e
    rw [← e, Nat.testBit_eq_decide_div_mod_eq]; rfl

end Sys2Proof.Machine
end

