-- ==== Sys2Proof/Tests/Slice0.lean ====
section
/-! SUPPORT. Tests: the shapes that well-formedness refuses, the spec's own examples, and for each statement states
and operands that meet its hypotheses. -/

open Sys2Proof Sys2Proof.Machine

namespace Sys2Proof.Tests

set_option Elab.async false

/-! ### States -/

/-- Cast-On at a step, both channels in the sequence. -/
def onStep (n : Byte) : State :=
  { State.reset with glb := { Glb.reset with
      ctl := .castOn, step := n, chanEn := 3, ch := Vector.replicate 2 { Chan.reset true with inSeq := true } } }
/-- Cast-On at step 2 with some image words staged. -/
def fetching (ws : List Word) (len : Option Nat) : State :=
  { onStep 2 with img := { Img.reset with staging := ws, fetch := some ⟨false, 0, len⟩ } }
/-- A reload that fetches, in SERVICE. -/
def refetching : State :=
  { fetching [1, 2] none with glb := { (onStep 2).glb with ctl := .service }
                              img := { Img.reset with staging := [1, 2], fetch := some ⟨true, 0, none⟩, rl := { Reload.reset with st := .fetching, id := 6 } } }
/-- Training of a chip select at gear 0, whose program has step k and SAVE. -/
def trainingAt (k : Word) (left : List Nat) (tries : Nat) (ll : LlUse) : State :=
  let s := onStep 9
  { s with
    img := { Img.reset with words := [0x100, 0x200, k, 9] }
    glb := { s.glb with train := Vector.replicate 4 { Train.reset with left := left, tries := tries, ll := ll } } }
def training (left : List Nat) (tries : Nat) (ll : LlUse) : State := trainingAt 1 left tries ll
def allFeatures : Features := ⟨true, true, true, true, true, true, true, true, true, true, true⟩
/-- Training in a program of two steps. -/
def trainingProg (p : List Word) (tries : Nat) : State :=
  let s := trainingAt 1 [1] tries .full
  { s with img := { s.img with words := [0x100, 0x200] ++ p } }
/-- A zero line of a carve-out. -/
def carveLine : MntCmd := ⟨.fill 9 1 0, none, false, [], none⟩
def stepOne (k : Word) : State := trainingAt k [1] 1 .full
/-- Step 0x0B with every region initialised. -/
def inited : State :=
  let s := onStep 0x0B
  { s with glb := { s.glb with init := BitVec.allOnes _ } }
/-- In SERVICE, both channels live. -/
def serving : State :=
  { State.reset with
    glb := { Glb.reset with
      ctl := .service, served := true, coreRun := true, chanEn := 3, now := 100, cc := 900
      ch := Vector.replicate 2 { Chan.reset false with inSeq := true, initDone := true, released := true } }
    ports := Vector.replicate 5 { Port.reset with held := false } }
/-- A pending protected write. -/
def withPp (off : Nat) (v : Word) (s : State) : State := { s with pp := some ⟨off, v, s.glb.cc, true⟩ }
/-- The image has been applied. -/
def withImage (s : State) : State := { s with img := { s.img with applied := true } }
/-- A record in the chain, complete since time 0. -/
def chainRec (w : List Stage) : ChainRec := ⟨w, 0, 0, false, false, 0, 0⟩
def chained (l : List ChainRec) : State := { serving with evt := { Evt.reset with chain := l } }
def buffered (l : List Rec) : State := { serving with evt := { Evt.reset with buf := l } }
/-- In SERVICE with credits on every port, one window over lines 0 to 16383, every region initialised. -/
def mapped : State :=
  let s := regSet 0x12110 0x80000000 (regSet 0x12108 0x100000 (regSet 0x12000 0x00C00010 serving))
  { s with
    glb := { s.glb with init := BitVec.allOnes _, ctlId := 3 }
    ports := Vector.replicate 5 { Port.reset with rdHeld := 2, wrHeld := 2, held := false } }
def uninited : State := let s := mapped; { s with glb := { s.glb with init := 0 } }
/-- The same with a mirrored window, as the secondary of a healthy pair. -/
def mirrored : State :=
  let s := regSet 0x12110 0xC0000000 (regSet 0x6000 0x80050000 mapped)
  { s with mir := { s.mir with pair := .healthy, epoch := 4 } }
def hdr (a tag : Nat) : ReqHdr := ⟨BitVec.ofNat 50 a, BitVec.ofNat 10 tag, 1, 0⟩
def peerHdr (a : Nat) (e : BitVec 8) : PeerHdr := ⟨hdr a 7, 5, 9, e⟩
/-- A request in the table. -/
def reqOf (id : Nat) (p : PortId) (op : Op) (tag : Nat) (ph : Phase) : Req :=
  { id := id, port := p, op := op, addr := 5, lla := 5, tag := BitVec.ofNat 10 tag, gen := 2, label := 0, part := 0
    src := 0, xid := 0, epoch := 0, phase := ph, answered := false, written := false, data := 0, mask := 0, beat := false
    mirrored := false, colour := none, tier := none, ftag := 0, localC := .unknown, peerC := .unknown
    dirtyWait := false, drainHeld := false, rides := none }
def withReqs (l : List Req) (n : Nat) (s : State) : State := { s with reqs := l, nextId := n }
def withBeats (p : PortId) (l : List BeatDest) (s : State) : State := updPort p (fun q => { q with beats := l }) s
def membered : State := { mapped with img := { Img.reset with words := [4] } }
def goodMsg : Line := msgLine (msgWords 3 0 2 3 0 0 [])
def withQz (req ack paused : Bool) (hold : BitVec 16) (deep : Bool) (ph : QzPhase) (ctl : Ctl) : State :=
  { updGlb (fun g => { g with ctl := ctl }) mapped with qz := ⟨req, hold, deep, ph, ack, paused⟩ }
def egpOf (op : EgpOp) (why : EgpFor) : EgpReq := ⟨op, 9, 4, 0, 0, 33, 0, why⟩
def withSlot (n : Nat) (x : EgpSlot) (s : State) : State := setSlot n x s
/-- Both samplers took the same bits. -/
def taken (b : Burst) : Capture := ⟨b, b⟩
/-- In BIND_OFF, where only refresh is offered. -/
def leaving (s : State) : State := updGlb (fun g => { g with ctl := .bindOff }) s
/-- A request that has a tier. -/
def graded (op : Op) : Req := { reqOf 0 1 op 5 .ingress with tier := some 2, colour := some .green, beat := true, data := 7, mask := 1 }
def onSched (x : Sc) (f : Sched → Sched) : State := updSched x f mapped
def rdEnt (id : Nat) : RdEnt := ⟨id, 5, 0, 0, false, false, .none, true, false⟩
def wrEnt (id : Nat) (m : Merge) : WrEnt := ⟨id, 5, 0, false, 7, 1, 0, false, false, m, true, false, false⟩
def wrCmd : Cmd := { kind := .wr, cs := 0, lr := 0, bg := 0, ba := 0, row := 0, col := 0, ap := false }
/-- A partition with tokens and a shaper. -/
def aPart : Part := { partNew ((partWords 1).set 0 0xC0100000) with tc := 5, tp := 6, ts := 7, missDue := true }
def alerted (f : Alert → Alert) (s : State) : State := updAlert 0 f { s with glb := { s.glb with ch := s.glb.ch.map fun h => { h with padsOn := true } } }
/-- Region 3 is written from its first line to its last. -/
def zeroed : State :=
  let s := uninited
  { s with glb := { s.glb with zero := vset s.glb.zero 0 [(3, 262144)], onDemand := vset s.glb.onDemand 0 [3] } }
def pendingPart : State := { mapped with qos := { mapped.qos with pendingQpt := some (1, aPart.cfg) } }
def stagedPart : State := { mapped with qos := { mapped.qos with staging := aPart.cfg } }
/-- A primary that holds a lost read. -/
def recovering : State :=
  let s := updSched 0 (fun q => { q with rq := [rdEnt 0], heldRds := [⟨0, 5, 50, ⟨.uncorrectable, 0, [], false⟩⟩] }) mirrored
  withReqs [{ reqOf 0 1 .read 5 .readQ with mirrored := true }] 1 { s with mir := { s.mir with primary := true } }
/-- With room for writes in the drain estimate. -/
def draining : State := regSet 0x3020 0x1FFF (regSet 0xE000 12 mapped)
/-- A unit with a calendar on sub-channel 0. -/
def refreshing (r : RefUnit) : State := setRefUnit 0 0 r mapped
def aUnit : RefUnit := { RefUnit.fresh with next := 500 }
/-- Scouts on, on sub-channel 0. -/
def scouting (f : Group → Group) (p : ScoutPhase) : State :=
  let s := regSet 0x20000 0xFF (regSet 0x20004 0x00080064 mapped)
  updPhySc 0 (fun q => { q with
    groups := vmod q.groups 0 fun g => f { g with compared := 5000 }
    lanes := q.lanes.map fun a => { a with codeA := 500, codeB := 510, vrefA := 8000, vrefB := 8000, c := 510, v := 8000, phase := p } }) s
/-- The transmit code of a lane has waited for a window since ck 0. -/
def stuck : State :=
  let s := onSched 0 fun q => { q with hist := [⟨3599, { wrCmd with kind := .rd }⟩] }
  updPhySc 0 (fun p => { p with winCk := 3599, waitCk := some 0, lanes := vmod p.lanes 3 fun a => { a with txTo := 100 } }) s
/-- A swatch run at a stage. -/
def swatching (k : SwStage) : State :=
  updSched 0 (fun q => { q with holder := some 2, writeHold := true })
    (updPhySc 0 (fun p => { p with seq := .swatch, run := some ⟨k, 0, 0, [], [], [], 0x0, Vector.replicate 4 0⟩ }) mapped)
def gear0 (w : Word) : State := regSet 0xE200 w mapped
def sleeping : State := { mapped with pwr := { Pwr.reset with sc := Vector.replicate 4 .selfRefresh } }
def dozing (waking : Bool) : State :=
  let s := updGlb (fun g => { g with ctl := .dormant, coreRun := false }) sleeping
  { s with pwr := { s.pwr with waking := waking } }
/-- A hub sensor of DIMM 0 has read v sixteenths of a degree. -/
def hot (v : BitVec 16) : State :=
  let s := regSet 0x3010 0x505F3000 mapped
  { s with glb := { s.glb with slot := vmod s.glb.slot 0 fun p => { p with sensors := vset p.sensors 0 ⟨true, v, true, true⟩ } } }
/-- A scrub read under way in a pass. -/
def patrolling (o : Origin) : State :=
  let s := onSched 0 (fun q => { q with pipe := [⟨o, 5, 50⟩], locks := [5, 9] })
  updScrub 0 (fun c => { c with active := true, done := 40, t0 := 3 }) s
def oneBad : Burst := let b := encodeLine 5 77 false
  b ^^^ 8
def reachedAt (x : Sc) (u : Nat) (d : Fin 10) (s : State) : State := updRas (fun a => { a with reached := [(x, u, d)] }) s
def sparable : State := updRas (fun a => { a with spare := vmod a.spare 0 fun p => { p with st := .available, cs := 1 } }) (regSet 0x14000 4 mapped)
def repairAsked : State := updRas (fun a => { a with pprWait := [(0, 5, 3, 9, false)] }) mapped
/-- A repair whose 128 lines are saved. -/
def aRepair (p : PprStep) : Ppr := ⟨0, 5, 3, 9, p, 0, .replicate 128 (5, 77, false), false, false⟩
def repair (p : PprStep) : State := updRas (fun a => { a with ppr := some (aRepair p) }) (onSched 0 fun q => { q with locks := [5] })
def copying (n : Nat) : State := updRas (fun a => { a with spare := vmod a.spare 0 fun p =>
  { p with st := .copying, cs := 1, replaced := 0, frontier := Vector.replicate 2 n, active := some ⟨2, 0, 0, 0, 15, 0⟩ } }) (regSet 0x14000 4 mapped)
def debugging (op : Word) : State := updRas (fun a => { a with dbg := some ⟨op, 5⟩ }) (onSched 0 fun q => { q with pipe := [⟨.debug, 5, 50⟩] })
/-- A pair in a state, this controller primary or not. -/
def paired (p : PairState) (prim : Bool) : State := updMir (fun m => { m with pair := p, primary := prim }) mirrored
/-- A message of the peer. -/
def heardMsg (ty ep : Nat) (pay : List Word) : Msg := ⟨msgWords ty 1 5 3 9 ep pay, none⟩
def heard (ty ep : Nat) (pay : List Word) (s : State) : State := updDom (fun d => { d with inbox := [heardMsg ty ep pay] }) s
def dirtied (s : State) : State := updMir (fun m => { m with dirty := 9, proto := 1 }) s
def changing (p : PairState) (sent : Bool) : State := updMir (fun m => { m with role := some ⟨1, 0, sent, 0⟩ }) (paired p true)
def poisonMsg : Msg := ⟨msgWords 8 1 5 3 9 4 [0x04000000, 9, 0], some 0⟩
def poisoned : State := withReqs [reqOf 0 0 .peerMessage 5 .ingress] 1 (updDom (fun d => { d with inbox := [poisonMsg] }) mirrored)
def walking : State := updMir (fun m => { m with locks := [5], dirty := 1 }) { paired .resilvering true with
  sched := (onSched 0 fun q => { q with pipe := [⟨.resilver, 5, 50⟩] }).sched }
/-- A member of a domain of five, of rank 0 unless the register says otherwise. -/
def census : State :=
  let s := regSet 0x5004 0x50000 (regSet 0x5008 0x00040009 mapped)
  { s with img := { s.img with applied := true } }
def aDelivery : Delivery := ⟨9, msgWords 1 1 3 9 4 0 [1, 2, 0, 3, 0x200000], none, 0, false⟩
def delivering : State := updDom (fun d => { d with out := [aDelivery] }) census
/-- A reload in a phase, a fetch of no words complete. -/
def reloading (st : RlState) (restart : Bool) : State :=
  updImg (fun i => { i with fetch := some ⟨true, 0, some 0⟩, rl := { i.rl with st := st, restart := restart } }) mapped
def casting : State := updImg (fun i => { i with bcastId := 7, bcastTo := [5] }) mapped
def tried (n : Nat) : State := updDom (fun d => { d with out := [{ aDelivery with dst := 5, tries := some n }] }) casting
def stilled (s : State) : State := updGlg (fun g => { g with inst := g.inst.map fun a => { a with frozen := true } }) s
/-- Instance 5 enabled at epoch 2. -/
def tenant (f : Inst → Inst) : State := updInst 5 (fun a => f { a with enabled := true, epoch := 2 })
  (regSet 0x3080C 0xFFFFFFFF (regSet 0x30808 0xFFFFFFFF mapped))
def aDesc (op n : Nat) : Desc := ⟨((Vector.replicate 16 0).set 0 (BitVec.ofNat 32 (op * 2 ^ 28))).set 3 (BitVec.ofNat 32 n) |>.set 15 0x01000000, 2, false⟩
def farDesc (op n : Nat) : Desc := ⟨(aDesc op n).w.set 2 0x800000, 2, false⟩
def jobbing (j : Job) : State := tenant fun a => { a with job := some { j with stop := none } }
def aJob (op n : Nat) : Job := { newJob mapped false (aDesc op n) with stop := none }
/-- The job with its line of the first granule done. -/
def gotJob (op n : Nat) : Job := { aJob op n with slots := [.got ⟨0, 0, false⟩] }
/-- A restart-class reload is under way. -/
def restarting (s : State) : State := { s with img := { s.img with rl := { s.img.rl with restart := true, st := .waitPoint } } }
def blobbed : State := updGlg (fun g => { g with window := (((Vector.replicate 128 0).set 0 0x00010080).set 2 0x00110001).set 127 2070105564 })
  (tenant fun a => { a with frozen := true })
/-- The CRC of the blob of `blobbed`, in parts of 62 zero bytes. -/
theorem blob_crc0 : (([0x00010080, 0, 0x00110001] : List Word).flatMap wordBytes).foldl (crcByte crc32c) 0xFFFFFFFF = 2337056228 := by decide +kernel
theorem blob_crc1 : (List.replicate 62 (0 : Byte)).foldl (crcByte crc32c) 2337056228 = 3760360799 := by decide +kernel
theorem blob_crc2 : (List.replicate 62 (0 : Byte)).foldl (crcByte crc32c) 3760360799 = 90067544 := by decide +kernel
theorem blob_crc3 : (List.replicate 62 (0 : Byte)).foldl (crcByte crc32c) 90067544 = 2949260975 := by decide +kernel
theorem blob_crc4 : (List.replicate 62 (0 : Byte)).foldl (crcByte crc32c) 2949260975 = 2467440696 := by decide +kernel
theorem blob_crc5 : (List.replicate 62 (0 : Byte)).foldl (crcByte crc32c) 2467440696 = 4188510504 := by decide +kernel
theorem blob_crc6 : (List.replicate 62 (0 : Byte)).foldl (crcByte crc32c) 4188510504 = 3582203592 := by decide +kernel
theorem blob_crc7 : (List.replicate 62 (0 : Byte)).foldl (crcByte crc32c) 3582203592 = 4054911848 := by decide +kernel
theorem blob_crc8 : (List.replicate 62 (0 : Byte)).foldl (crcByte crc32c) 4054911848 = 3293395233 := by decide +kernel
theorem blob_bytes : (blobbed.glg.window.toList.take 127).flatMap wordBytes
    = ([0x00010080, 0, 0x00110001] : List Word).flatMap wordBytes ++ (List.replicate 62 0 ++ (List.replicate 62 0 ++ (List.replicate 62 0
      ++ (List.replicate 62 0 ++ (List.replicate 62 0 ++ (List.replicate 62 0 ++ (List.replicate 62 0 ++ List.replicate 62 0))))))) := by decide +kernel
theorem blob_ok : blobOk blobbed.glg.window.toList = true := by
  have h : crc crc32c ((blobbed.glg.window.toList.take 127).flatMap wordBytes) = 2070105564 := by
    rw [blob_bytes, crc, show crc32c.init % 2 ^ crc32c.w = 0xFFFFFFFF from rfl]
    simp only [List.foldl_append, blob_crc0, blob_crc1, blob_crc2, blob_crc3, blob_crc4, blob_crc5, blob_crc6, blob_crc7, blob_crc8]
    decide +kernel
  rw [blobOk, wordsCrc, h]
  decide +kernel

/-! ### The table gives no row bits -/

theorem test_no_row_has_bits (nbits w : Nat) : decodeTableWord nbits w = none := rfl

/-! ### Well-formedness refuses what has the wrong shape, and takes what has the right one -/

def noEyes : TrainEyes := ⟨[], [], [], [], [], [], []⟩
def lines (n : Nat) : List Capture := .replicate n (taken 0)
def retained (repair spare record bitmap dirty : Nat) : RetentionRead :=
  ⟨lines repair, lines spare, lines record, lines bitmap, lines dirty⟩

theorem test_wf_initReport : (Instr.dimmInitDone 0 ⟨allFeatures, false, false, .replicate 257 true⟩).wf = false := by decide +kernel
theorem test_wf_gate : ({ noEyes with gate := [⟨1, 2⟩] }).wf = false := by decide
theorem test_wf_txStrobe : ({ noEyes with txStrobe := [⟨1, 2⟩] }).wf = false := by decide
theorem test_wf_rx : ({ noEyes with rx := [⟨1, 2⟩] }).wf = false := by decide
theorem test_wf_vref : ({ noEyes with vref := [⟨1, 2⟩] }).wf = false := by decide
theorem test_wf_saved : ({ noEyes with saved := lines 1 }).wf = false := by decide +kernel
theorem test_wf_devs : ({ noEyes with devs := [1, 2] }).wf = false := by decide
theorem test_wf_spd : (Instr.i3cTransactionDone 0 0 (.spd (.replicate 1025 0))).wf = false := by decide +kernel
theorem test_wf_eyes : noEyes.wf = true := by decide
theorem test_wf_step : (Instr.trainingStepDone 0 (.eyes { noEyes with rx := [⟨1, 2⟩] }) none).wf = false := by decide
theorem test_wf_run : (Instr.trainingStepDone 0 (.run [] [] [7]) none).wf = false := by decide
theorem test_wf_dfe : (Instr.trainingStepDone 0 (.dfe [[]]) none).wf = false := by decide
theorem test_wf_repair : (retained 34 33 1 1024 1025).wf = false := by decide +kernel
theorem test_wf_spare : (retained 33 34 1 1024 1025).wf = false := by decide +kernel
theorem test_wf_record : (retained 33 33 2 1024 1025).wf = false := by decide +kernel
theorem test_wf_bitmap : (retained 33 33 1 1025 1025).wf = false := by decide +kernel
theorem test_wf_dirty : (retained 33 33 1 1024 1026).wf = false := by decide +kernel
theorem test_wf_retention : (retained 33 33 1 1024 1025).wf = true := by decide +kernel
theorem test_wf_late : (Instr.trainingStepTimeout 0 (some (retained 34 0 0 0 0))).wf = false := by decide +kernel
theorem test_wf_swatch : (Instr.swatchRunEnd 0 [1]).wf = false := by decide
theorem test_wf_osc : (Instr.oscPeriodExpiry 0 []).wf = false := by decide
theorem test_wf_mrr : (Instr.dbgOpDone (.mrr (.replicate 11 0))).wf = false := by decide
theorem test_wf_chain : (Instr.evtChainTake [(128, 1)]).wf = false := by decide

/-! ### The examples of the spec -/

def nine : List Byte := [0x31, 0x32, 0x33, 0x34, 0x35, 0x36, 0x37, 0x38, 0x39]
/-- The check values of the CRC sets at reset (14, after R463). -/
theorem test_check_values : (List.range 5).map (fun c => crc (crcSetOf State.reset c).param nine) =
    [0x995DC9BBDF1939FA, 0xE3069283, 0xCBF43926, 0xBB3D, 0x29B1] := by decide +kernel
/-- The probe example after R464. -/
theorem test_probe : (match exec (.glgProbe true 0x00010009)
      (regSet 0x30204 0x34333231 (regSet 0x30208 0x38373635 (regSet 0x3020C 0x39 serving))) with
    | .next t => some (regGet t 0x30218, regGet t 0x3021C, regGet t 0x30200 >>> 30)
    | _ => none) = some (0xE3069283, 0, 2) := by decide +kernel
/-- The lock example of 02: MAP and RAS. -/
theorem test_lock : (match exec (.glbLockSet true 0xFFFF9FFF) (withPp 0x20 0x6000 serving) with
    | .next t => some (regGet t 0x20, t.pp)
    | _ => none) = some (0x6000, none) := by decide +kernel
/-- The controller and the window of the worked decode of 06. -/
def example06 : State :=
  regSet 0x12000 0x00C10800 <| regSet 0x12010 0x111 <| regSet 0x12024 0x1 <| regSet 0x12140 0 <| regSet 0x12144 0x40 <|
  regSet 0x12148 0 <| regSet 0x1214C 0x60 <| regSet 0x12150 0x80791800 <| regSet 0x12154 0x04000000 <|
  regSet 0x12040 0xD0903940 serving
theorem test_map_probe : (match exec (.mapProbe true 0x43) example06 with
    | .next t => some (regGet t 0x12048, regGet t 0x1204C, regGet t 0x12050)
    | _ => none) = some (0x00A8BC0A, 0, 0x80020000) := by decide +kernel
/-- And back: the reverse probe of that LLA. -/
theorem test_map_probe_back : (match exec (.mapProbe true 0x80000000) (regSet 0x12040 0x00A8BC0A example06) with
    | .next t => some (regGet t 0x12048, regGet t 0x1204C, regGet t 0x12050)
    | _ => none) = some (0xD0903940, 0x43, 0x80020000) := by decide +kernel
/-- The bus example after R206: RD to WR, WR to RD in another bank group, WR to RD on another chip select. -/
def bus07 : State :=
  regSet 0xE010 80 <| regSet 0xE014 78 <| regSet 0xE018 8 <| regSet 0xE058 4 <| regSet 0xE044 13 <| regSet 0xE068 2 serving
def onBus (k : CmdKind) (cs : BitVec 2) (bg : BitVec 3) : Cmd := { kind := k, cs := cs, lr := 0, bg := bg, ba := 0, row := 0, col := 0, ap := false }
theorem test_gaps : colGap bus07 (onBus .rd 0 0) (onBus .wr 0 1) = 14
  ∧ colGap bus07 (onBus .wr 0 0) (onBus .rd 0 1) = 99
    ∧ colGap bus07 (onBus .wr 0 0) (onBus .rd 1 1) = 8 := by decide +kernel
/-- The mismatch example of 11: a line encoded for another address. -/
theorem test_mismatch : (let d := decodeBurst false none 0x00A8BC0A (encodeLine 0x00A8BD0A 77 false)
    (d.outcome, d.errs, storedAt 0x00A8BC0A d.errs)) = (.addrMismatch, [(40, 0x0100)], (0x00A8BD0A, false)) := by
  decide +kernel
/-- The GAP example of 16: 118 words are queued, and a record of 9 words finds too little room. -/
theorem test_gap : (match exec (.evtChainTake []) { serving with evt := { Evt.reset with
      buf := [⟨[0x0 ||| 0x01A201F4, 1, 0, 0, 0, 0, 0, 0, 0], 3, none⟩]
      chain := [{ chainRec (.replicate 118 (.of 0)) with seq := 0x1F3 }] } } with
    | .next t => some (chainUsed t.evt.chain, t.evt.chain.getLast?.map fun r => (r.gap, r.seq, r.sev))
    | _ => none) = some (122, some (true, 0x1F4, 3)) := by decide +kernel

/-! ### The hypotheses of every statement are met -/

theorem witness_ResetAndStraps :
    (∃ (s : State), (s.glb.ctl = .reset))
    ∧ ∃ (s : State), (atStep s 1 = true) :=
  ⟨⟨(State.reset), by decide +kernel⟩,
   ⟨(onStep 1), by decide +kernel⟩⟩

theorem witness_ImageWords :
    (∃ (s : State) (f : Fetch), (s.img.fetch = some f))
    ∧ (∃ (s : State) (f : Fetch) (n : Nat), (s.img.fetch = some f) ∧ (imgReq s = true) ∧ (f.len = some n)
      ∧ (s.img.staging.length ≠ 15))
    ∧ (∃ (s : State) (f : Fetch), (s.img.fetch = some f) ∧ (imgReq s = true) ∧ (f.len = none)
      ∧ (s.img.staging.length < 15))
    ∧ (∃ (s : State) (f : Fetch), (s.img.fetch = some f) ∧ (imgReq s = true) ∧ (f.reload = false)
      ∧ (s.img.staging.length = 15) ∧ (s.glb.ctl = .castOn))
    ∧ (∃ (s : State) (f : Fetch), (s.img.fetch = some f) ∧ (imgReq s = true) ∧ (f.reload = false)
      ∧ (s.glb.ctl = .castOn))
    ∧ (∃ (s : State) (f : Fetch), (s.img.fetch = some f) ∧ (imgReq s = true) ∧ (f.reload = false)
      ∧ (s.glb.ctl = .castOn))
    ∧ (∃ (s : State) (f : Fetch), (s.img.fetch = some f) ∧ (imgReq s = true) ∧ (f.reload = true))
    ∧ ∃ (s : State) (f : Fetch), (s.img.fetch = some f) ∧ (imgReq s = true) ∧ (f.reload = true) :=
  ⟨⟨(fetching [1, 2] (some 12)), (⟨false, 0, some 12⟩), by decide +kernel⟩,
   ⟨(fetching [1, 2] (some 12)), (⟨false, 0, some 12⟩), (12), by decide +kernel⟩,
   ⟨(fetching [1, 2] none), (⟨false, 0, none⟩), by decide +kernel⟩,
   ⟨(fetching (List.replicate 15 0) none), (⟨false, 0, none⟩), by decide +kernel⟩,
   ⟨(fetching [1, 2] none), (⟨false, 0, none⟩), by decide +kernel⟩,
   ⟨(fetching [1, 2] none), (⟨false, 0, none⟩), by decide +kernel⟩,
   ⟨(refetching), (⟨true, 0, none⟩), by decide +kernel⟩,
   ⟨(refetching), (⟨true, 0, none⟩), by decide +kernel⟩⟩

theorem witness_VerifyAndFuses :
    (∃ (s : State), (atStep s 3 = true))
    ∧ (∃ (s : State), (fuseRd s = true))
    ∧ ∃ (s : State), (fuseRd s = true) :=
  ⟨⟨(onStep 3), by decide +kernel⟩,
   ⟨(onStep 4), by decide +kernel⟩,
   ⟨(onStep 4), by decide +kernel⟩⟩

theorem witness_ClocksAndPads :
    (∃ (s : State), (atStep s 5 = true))
    ∧ (∃ (s : State), (atStep s 5 = true))
    ∧ (∃ (s : State), (atStep s 6 = true))
    ∧ ∃ (s : State), (atStep s 6 = true) :=
  ⟨⟨(onStep 5), by decide +kernel⟩,
   ⟨(onStep 5), by decide +kernel⟩,
   ⟨(onStep 6), by decide +kernel⟩,
   ⟨(onStep 6), by decide +kernel⟩⟩

theorem witness_SidebandResults :
    (∃ (s : State) (c : Ch) (k : Fin 2) (x : SensorId), (busOwned s c = true)
      ∧ (atStep s 7 = true ∨ ((slotAt s c k).sensors.get (sensorIx x)).found = true))
    ∧ (∃ (s : State) (c : Ch), (busOwned s c = true) ∧ (atStep s 7 = true))
    ∧ (∃ (s : State) (c : Ch), (busOwned s c = true))
    ∧ (∃ (s : State) (c : Ch), (busOwned s c = true))
    ∧ (∃ (s : State) (c : Ch), (busOwned s c = true))
    ∧ ∃ (s : State) (c : Ch), (busOwned s c = true) :=
  ⟨⟨(onStep 7), (1), (0), (.ts1), by decide +kernel⟩,
   ⟨(onStep 7), (1), by decide +kernel⟩,
   ⟨(onStep 7), (1), by decide +kernel⟩,
   ⟨(onStep 7), (1), by decide +kernel⟩,
   ⟨(onStep 7), (1), by decide +kernel⟩,
   ⟨(onStep 7), (1), by decide +kernel⟩⟩

theorem witness_PopulationAndInit :
    (∃ (s : State), (atStep s 7 = true) ∧ (∀ c : Ch, mismatch s c = false) ∧ (∃ c : Ch, chLive s c = true))
    ∧ (∃ (s : State), (atStep s 7 = true) ∧ (∃ c : Ch, mismatch s c = true) ∧ (strictPop s = true))
    ∧ (∃ (s : State) (c : Ch) (r : InitReport), (atStep s 8 = true) ∧ (chLive s c = true)
      ∧ ((s.glb.ch.get c).initDone = false) ∧ (featuresOk r.features = true))
    ∧ (∃ (s : State) (c : Ch) (r : InitReport), (atStep s 8 = true) ∧ (chLive s c = true)
      ∧ ((s.glb.ch.get c).initDone = false) ∧ (featuresOk r.features = false) ∧ (strictPop s = true))
    ∧ ∃ (s : State) (c : Ch), (atStep s 8 = true) ∧ (chLive s c = true) ∧ ((s.glb.ch.get c).initDone = false) :=
  ⟨⟨(onStep 7), by decide +kernel⟩,
   ⟨(regSet 0x12000 0x00400000 (updGlb (fun g => { g with chanEn := 2 }) (onStep 7))), by decide +kernel⟩,
   ⟨(onStep 8), (0), (⟨allFeatures, false, false, []⟩), by decide +kernel⟩,
   ⟨(onStep 8), (0), (⟨{ allFeatures with caParity := false }, false, false, []⟩), by decide +kernel⟩,
   ⟨(onStep 8), (0), by decide +kernel⟩⟩

theorem witness_TrainingSteps :
    (∃ (s : State) (x : Sc), (atStep s 9 = true) ∧ (chLive s (chOf x) = true) ∧ ((trainOf s x).left ≠ [])
      ∧ (stepCode s x = 9) ∧ ((trainOf s x).step + 1 < (trainSteps s s.glb.gear (trainOf s x).ll).length))
    ∧ (∃ (s : State) (x : Sc), (atStep s 9 = true) ∧ (chLive s (chOf x) = true) ∧ ((trainOf s x).left ≠ [])
      ∧ (stepCode s x = 2) ∧ ((trainOf s x).step + 1 < (trainSteps s s.glb.gear (trainOf s x).ll).length))
    ∧ (∃ (s : State) (x : Sc) (e : TrainEyes) (k : BitVec 3), (atStep s 9 = true) ∧ (chLive s (chOf x) = true)
      ∧ ((trainOf s x).left ≠ []) ∧ (stepCode s x = 1) ∧ ((trainOf s x).ll = .full) ∧ ((trainOf s x).eyes = [])
      ∧ (e.caPhases = [k]) ∧ ((trainOf s x).step + 1 < (trainSteps s s.glb.gear .full).length))
    ∧ (∃ (s : State) (x : Sc) (e : TrainEyes), (atStep s 9 = true) ∧ (chLive s (chOf x) = true)
      ∧ ((trainOf s x).left ≠ []) ∧ (stepCode s x = 4) ∧ ((trainOf s x).ll = .full) ∧ ((trainOf s x).eyes = [])
      ∧ (∃ p ∈ e.rx, p.hi - p.lo < trainWidth s) ∧ ((trainOf s x).tries < 2))
    ∧ (∃ (s : State) (x : Sc), (atStep s 9 = true) ∧ (chLive s (chOf x) = true) ∧ ((trainOf s x).left ≠ [])
      ∧ ((trainOf s x).ll ≠ .full))
    ∧ (∃ (s : State) (x : Sc), (atStep s 9 = true) ∧ (chLive s (chOf x) = true) ∧ ((trainOf s x).left ≠ [])
      ∧ ((trainOf s x).ll = .full) ∧ ((trainOf s x).tries < 2))
    ∧ (∃ (s : State) (x : Sc) (r : TrainResult), (stepFits (stepCode s x) r = false))
    ∧ ∃ (s : State) (x : Sc), (atStep s 9 = true) ∧ (chLive s (chOf x) = true) ∧ ((trainOf s x).left ≠ [])
      ∧ ((trainOf s x).tries < 2) :=
  ⟨⟨(trainingProg [9, 8] 1), (1), by decide +kernel⟩,
   ⟨(stepOne 2), (1), by decide +kernel⟩,
   ⟨(stepOne 1), (1), (⟨[5], [], [], [], [], [], []⟩), (5), by decide +kernel⟩,
   ⟨(regSet 0x20004 0x00080064 (stepOne 4)), (1), (⟨[], [], [⟨8000, 8010⟩], [], [], [], []⟩), by decide +kernel⟩,
   ⟨(training [1] 1 .image), (1), by decide +kernel⟩,
   ⟨(training [1] 1 .full), (1), by decide +kernel⟩,
   ⟨(training [1] 1 .full), (1), (.dfe []), by decide +kernel⟩,
   ⟨(training [1] 1 .full), (1), by decide +kernel⟩⟩

theorem witness_CarveOutAndService :
    (∃ (s : State), (atStep s 0x0A = true)
      ∧ (∀ x ∈ liveScs s, ∀ m ∈ ((s.sched.get x).maint.get 2) ++ ((s.sched.get x).maint.get 3), m.carves = false)
      ∧ (∀ x ∈ liveScs s, ∀ w ∈ (s.sched.get x).lines, w.done = true))
    ∧ (∃ (s : State) (x : Sc) (m : MntCmd), (atStep s 0x0A = true) ∧ (x ∈ liveScs s)
      ∧ (m ∈ ((s.sched.get x).maint.get 2) ++ ((s.sched.get x).maint.get 3)) ∧ (m.carves = true))
    ∧ (∃ (s : State), (atStep s 0x0A = true))
    ∧ (∃ (s : State), (atStep s 0x0B = true) ∧ (earlyService (image s) = true ∨ initLeft s = 0)
      ∧ (s.qz.ph ≠ .deferred))
    ∧ (∃ (s : State), (atStep s 0x0B = true) ∧ (earlyService (image s) = true ∨ initLeft s = 0)
      ∧ (s.qz.ph = .deferred) ∧ (s.qz.hold ≠ 0))
    ∧ (∃ (s : State), (atStep s 0x0B = true) ∧ (earlyService (image s) = true ∨ initLeft s = 0)
      ∧ (s.qz.ph = .deferred) ∧ (s.qz.hold = 0))
    ∧ ∃ (s : State), (atStep s 0x0B = true) ∧ (earlyService (image s) = false) ∧ (initLeft s ≠ 0) :=
  ⟨⟨(onStep 0x0A), by decide +kernel⟩,
   ⟨(updSched 0 (fun q => { q with maint := vset q.maint 2 [carveLine] }) (onStep 0x0A)), (0),
     (carveLine), by decide +kernel⟩,
   ⟨(onStep 0x0A), by decide +kernel⟩,
   ⟨(inited), by decide +kernel⟩,
   ⟨({ inited with qz := ⟨true, 9, false, .deferred, false, false⟩ }), by decide +kernel⟩,
   ⟨({ inited with qz := ⟨true, 0, false, .deferred, false, false⟩ }), by decide +kernel⟩,
   ⟨(onStep 0x0B), by decide +kernel⟩⟩

theorem witness_RegisterWriteRules :
    (∃ (s : State) (a : RegAcc) (r : RegRow), (portOpen s a) ∧ (rowOf a.off = some r) ∧ (r.kind = .rw)
      ∧ (puLocked s a.off = false) ∧ (a.off ∉ [0x20000, 0x20040, 0x12044, 0x30200, 0xA004, 0x8140]))
    ∧ (∃ (s : State) (a : RegAcc) (r : RegRow), (portOpen s a) ∧ (rowOf a.off = some r) ∧ (r.kind = .rw)
      ∧ (a.off ∈ [0xA000, 0x140B0, 0x20044, 0x30020]))
    ∧ (∃ (s : State) (a : RegAcc), (portReady s = true) ∧ (a.allowed = false))
    ∧ (∃ (s : State) (a : RegAcc) (r : RegRow), (portOpen s a) ∧ (rowOf a.off = some r) ∧ (r.kind ≠ .rw)
      ∧ (a.alias_ ≠ 0))
    ∧ (∃ (s : State) (a : RegAcc), (portOpen s a) ∧ (rowOf a.off = none))
    ∧ (∃ (s : State), (s.glb.ctl = .reset))
    ∧ (∃ (s : State) (a : RegAcc) (r : RegRow), (portOpen s a) ∧ (rowOf a.off = some r) ∧ (r.kind = .wd)
      ∧ (a.alias_ = 0) ∧ (a.off ≠ 0x12044))
    ∧ (∃ (s : State), (portReady s = true))
    ∧ ∃ (s : State), (s.glb.ctl = .reset) :=
  ⟨⟨(serving), (⟨false, true, BitVec.ofNat 18 (0x42000 / 4), 0xFF⟩),
    ((rowOf 0x2000).getD (reg1 0 .ro 0 0)), by decide +kernel⟩,
   ⟨(serving), (⟨false, true, BitVec.ofNat 18 (0xA000 / 4), 7⟩), (reg1 0xA000 .rw 0x0000001F 0), by decide +kernel⟩,
   ⟨(serving), (⟨false, false, 4, 7⟩), by decide +kernel⟩,
   ⟨(serving), (⟨false, true, BitVec.ofNat 18 (0x40020 / 4), 7⟩),
     ((rowOf 0x20).getD (reg1 0 .ro 0 0)), by decide +kernel⟩,
   ⟨(serving), (⟨false, true, BitVec.ofNat 18 (0xFFC / 4), 7⟩), by decide +kernel⟩,
   ⟨(State.reset), by decide +kernel⟩,
   ⟨(serving), (⟨false, true, BitVec.ofNat 18 (0x12040 / 4), 0xFF⟩),
     ((rowOf 0x12040).getD (reg1 0 .ro 0 0)), by decide +kernel⟩,
   ⟨(serving), by decide +kernel⟩,
   ⟨(State.reset), by decide +kernel⟩⟩

theorem witness_SqWriteClearsOnMatch :
    (∃ (s : State) (a : RegAcc) (r : RegRow), (portOpen s a) ∧ (rowOf a.off = some r) ∧ (r.kind = .sq)
      ∧ (a.alias_ = 0) ∧ (a.data >>> 24 = regGet s a.off >>> 24))
    ∧ ∃ (s : State) (a : RegAcc) (r : RegRow), (portOpen s a) ∧ (rowOf a.off = some r) ∧ (r.kind = .sq)
      ∧ (a.alias_ = 0) ∧ (a.data >>> 24 ≠ regGet s a.off >>> 24) :=
  ⟨⟨(regSet 0x10 0x05000033 serving), (⟨false, true, 4, 0x05000011⟩),
    ((rowOf 0x10).getD (reg1 0 .ro 0 0)), by decide +kernel⟩,
   ⟨(regSet 0x10 0x05000033 serving), (⟨false, true, 4, 0x04000011⟩),
     ((rowOf 0x10).getD (reg1 0 .ro 0 0)), by decide +kernel⟩⟩

theorem witness_ProtectedPairRules :
    (∃ (s : State) (a : RegAcc), (portOpen s a) ∧ (a.isPp = true) ∧ (a.alias_ = 0)
      ∧ (regBit s 0x20 (blockOf a.off) = false) ∧ (s.pp = none))
    ∧ (∃ (s : State) (a : RegAcc), (portOpen s a) ∧ (a.isPp = true) ∧ (a.alias_ = 0)
      ∧ (regBit s 0x20 (blockOf a.off) = true) ∧ (s.pp = none))
    ∧ (∃ (s : State) (a : RegAcc) (p : PpPend), (portOpen s a) ∧ (a.isPp = true) ∧ (a.alias_ = 0)
      ∧ (regBit s 0x20 (blockOf a.off) = false) ∧ (s.pp = some p) ∧ (ppLate s p = false) ∧ (p.off ≠ a.off))
    ∧ (∃ (s : State) (p : PpPend), (s.pp = some p))
    ∧ (∃ (s : State) (a : RegAcc) (r : RegRow), (portOpen s a) ∧ (rowOf a.off = some r) ∧ (r.kind = .ppc)
      ∧ (a.alias_ = 0) ∧ (s.pp = none))
    ∧ (∃ (s : State) (a : RegAcc) (r : RegRow) (p : PpPend), (portOpen s a) ∧ (rowOf a.off = some r)
      ∧ (r.kind = .ppc) ∧ (a.alias_ = 0) ∧ (s.pp = some p) ∧ (ppLate s p = false) ∧ (p.off + 4 ≠ a.off))
    ∧ (∃ (s : State) (a : RegAcc) (r : RegRow) (p : PpPend), (portOpen s a) ∧ (rowOf a.off = some r)
      ∧ (r.kind = .ppc) ∧ (a.alias_ = 0) ∧ (s.pp = some p) ∧ (ppLate s p = false) ∧ (p.off + 4 = a.off)
      ∧ (a.data ≠ ~~~p.val))
    ∧ (∃ (s : State) (a : RegAcc) (p : PpPend), (portOpen s a) ∧ (a.alias_ = 0) ∧ (s.pp = some p)
      ∧ (ppLate s p = false) ∧ (p.off + 4 = a.off) ∧ (p.off ∈ [0x3018, 0x9000, 0x10004, 0x14004])
      ∧ (a.data = ~~~p.val))
    ∧ ∃ (s : State) (v : Word) (p : PpPend), (portReady s = true) ∧ (s.pp = some p) ∧ (p.off = 0x20)
      ∧ (ppLate s p = false) ∧ (v = ~~~p.val) :=
  ⟨⟨(serving), (winAcc true 0x20 3), by decide +kernel⟩,
   ⟨(regSet 0x20 1 serving), (winAcc true 0x20 3), by decide +kernel⟩,
   ⟨(withPp 0x9000 1 serving), (winAcc true 0x20 3), (⟨0x9000, 1, 900, true⟩), by decide +kernel⟩,
   ⟨(withPp 0x9000 1 serving), (⟨0x9000, 1, 900, true⟩), by decide +kernel⟩,
   ⟨(serving), (winAcc true 0x24 3), ((rowOf 0x24).getD (reg1 0 .ro 0 0)), by decide +kernel⟩,
   ⟨(withPp 0x9000 1 serving), (winAcc true 0x24 3), ((rowOf 0x24).getD (reg1 0 .ro 0 0)),
     (⟨0x9000, 1, 900, true⟩), by decide +kernel⟩,
   ⟨(withPp 0x20 1 serving), (winAcc true 0x24 3), ((rowOf 0x24).getD (reg1 0 .ro 0 0)),
     (⟨0x20, 1, 900, true⟩), by decide +kernel⟩,
   ⟨(withPp 0x9000 1 serving), (winAcc true 0x9004 0xFFFFFFFE), (⟨0x9000, 1, 900, true⟩), by decide +kernel⟩,
   ⟨(withPp 0x20 0x6000 serving), (0xFFFF9FFF), (⟨0x20, 0x6000, 900, true⟩), by decide +kernel⟩⟩

theorem witness_IndexedPortsAndProbe :
    (∃ (s : State) (w : Word), (portOpen s (winAcc true 0x20040 w)))
    ∧ (∃ (s : State), (portReady s = true) ∧ (s.img.applied = true))
    ∧ (∃ (s : State), (portReady s = true) ∧ (s.img.applied = false))
    ∧ (∃ (s : State), (portReady s = true) ∧ (s.img.applied = true))
    ∧ (∃ (s : State) (w : Word), (portOpen s (winAcc true 0xA004 w)))
    ∧ (∃ (s : State) (w : Word), (portOpen s (winAcc true 0xA008 w)))
    ∧ (∃ (s : State), (portReady s = true) ∧ (s.img.applied = true))
    ∧ (∃ (s : State) (w : Word) (u : State), (portOpen s (winAcc true 0x12044 w))
      ∧ (u = regSet 0x12044 ((regGet s 0x12044 &&& 0x7F000000) ||| (w &&& 0x80FFFFFF)) s))
    ∧ ∃ (s : State) (w : Word) (c : CrcSet), (portOpen s (winAcc true 0x30200 w)) ∧ (c = crcSetOf s (fld w 18 16)) :=
  ⟨⟨(serving), (5), by decide +kernel⟩,
   ⟨(withImage ({ serving with phy := { Phy.reset with llBuf := [4, 5] } })), by decide +kernel⟩,
   ⟨(serving), by decide +kernel⟩,
   ⟨(withImage ({ serving with ras := { Ras.reset with rpl := [(4, 5)] } })), by decide +kernel⟩,
   ⟨(regSet 0xA000 7 serving), (0x123), by decide +kernel⟩,
   ⟨(regSet 0xA000 6 serving), (0x12345678), by decide +kernel⟩,
   ⟨(withImage (regSet 0xA000 6 serving)), by decide +kernel⟩,
   ⟨(serving), (0x80000005),
     (regSet 0x12044 ((regGet serving 0x12044 &&& 0x7F000000) ||| (0x80000005 &&& 0x80FFFFFF)) serving), ⟨by decide, rfl⟩⟩,
   ⟨(serving), (0x00010008), (crcSetOf serving 1), by decide +kernel⟩⟩

theorem witness_EventPort :
    (∃ (s : State), (portReady s = true) ∧ (s.evt.chain = []))
    ∧ (∃ (s : State) (r : ChainRec) (w : Stage) (ws : List Stage) (rest : List ChainRec), (portReady s = true)
      ∧ (s.evt.chain = r :: rest) ∧ (r.words = w :: ws) ∧ (w.fails = false))
    ∧ (∃ (s : State) (u : BitVec 33) (r : ChainRec) (w : Stage) (ws : List Stage) (rest : List ChainRec),
      (portReady s = true) ∧ (s.evt.chain = r :: rest) ∧ (r.words = w :: ws) ∧ (w.bad = false)
      ∧ ((w.upset u).fails = true))
    ∧ (∃ (s : State) (v : Word), (portReady s = true) ∧ (bitOf v 0 = true))
    ∧ (∃ (s : State) (r : Rec) (rest : List Rec), (s.evt.pend = none) ∧ (s.evt.buf = r :: rest) ∧ (r.drops = none)
      ∧ (r.words.length + 4 ≤ chainFree s) ∧ (∀ c ∈ s.evt.chain, ∀ w ∈ c.words, w.fails = false))
    ∧ (∃ (s : State) (r : ChainRec) (rest : List ChainRec), (s.evt.chain = r :: rest) ∧ (regFld s 0x2000 15 0 ≠ 0))
    ∧ ∃ (s : State), (portReady s = true) ∧ (s.img.applied = true) :=
  ⟨⟨(serving), by decide +kernel⟩,
   ⟨(chained [chainRec [.of 1, .of 2]]), (chainRec [.of 1, .of 2]), (.of 1), ([.of 2]), ([]), by decide +kernel⟩,
   ⟨(chained [chainRec [.of 1, .of 2]]), (4), (chainRec [.of 1, .of 2]), (.of 1), ([.of 2]), ([]), by decide +kernel⟩,
   ⟨(chained [chainRec [.of 1, .of 2]]), (1), by decide +kernel⟩,
   ⟨(buffered [⟨[1, 2, 3], 0, none⟩]), (⟨[1, 2, 3], 0, none⟩), ([]), by decide +kernel⟩,
   ⟨(regSet 0x2000 5 (chained [chainRec [.of 1, .of 2]])), (chainRec [.of 1, .of 2]), ([]), by decide +kernel⟩,
   ⟨(withImage ({ serving with dom := { Dom.reset with snap := [3, 4] } })), by decide +kernel⟩⟩

theorem witness_RequestsEnterTheTable :
    (∃ (s : State) (p : PortId) (h : ReqHdr) (n : Nat) (d : Nat), (portTakes s p false h.tag)
      ∧ (fwd s h.addr = .owned n false d) ∧ (rankLive s (llaOf s d) = true) ∧ (readsZero s (llaOf s d) = false))
    ∧ (∃ (s : State) (p : PortId) (h : ReqHdr) (n : Nat) (d : Nat), (portTakes s p true h.tag)
      ∧ (fwd s h.addr = .owned n false d) ∧ (rankLive s (llaOf s d) = true))
    ∧ (∃ (s : State) (p : PortId) (h : ReqHdr) (n : Nat) (d : Nat), (portTakes s p true h.tag)
      ∧ (fwd s h.addr = .owned n false d) ∧ (rankLive s (llaOf s d) = true))
    ∧ ∃ (s : State) (p : PortId) (h : ReqHdr) (n : Nat) (d : Nat), (portTakes s p true h.tag)
      ∧ (fwd s h.addr = .owned n false d) ∧ (rankLive s (llaOf s d) = true) :=
  ⟨⟨(mapped), (2), (hdr 77 5), (0), (77), by decide +kernel⟩,
   ⟨(mapped), (4), (hdr 77 5), (0), (77), by decide +kernel⟩,
   ⟨(mapped), (1), (hdr 77 5), (0), (77), by decide +kernel⟩,
   ⟨(mapped), (1), (hdr 77 5), (0), (77), by decide +kernel⟩⟩

theorem witness_RequestsAnsweredAtOnce :
    (∃ (s : State) (p : PortId) (h : ReqHdr), (idsFresh s) ∧ (portTakes s p false h.tag)
      ∧ ((match fwd s h.addr with | .owned .. => false | _ => true) = true))
    ∧ (∃ (s : State) (p : PortId) (h : ReqHdr) (n : Nat) (d : Nat), (idsFresh s) ∧ (portTakes s p false h.tag)
      ∧ (fwd s h.addr = .owned n false d) ∧ (rankLive s (llaOf s d) = true) ∧ (readsZero s (llaOf s d) = true))
    ∧ (∃ (s : State) (p : PortId) (h : ReqHdr), (idsFresh s) ∧ (s.glb.ctl = .halted) ∧ (hasCredit s p false = true)
      ∧ (outstanding s p h.tag = none))
    ∧ (∃ (s : State) (p : PortId) (h : ReqHdr) (old : Req), (sampled s = true) ∧ (hasCredit s p true = true)
      ∧ (holdForbids (portCycle p s) p = false) ∧ (outstanding s p h.tag = some old))
    ∧ (∃ (s : State) (p : PortId), (sampled s = true) ∧ (hasCredit s p false = false))
    ∧ (∃ (s : State) (p : PortId), (sampled s = true) ∧ (hasCredit s p true = true)
      ∧ (holdForbids (portCycle p s) p = true))
    ∧ ∃ (s : State) (p : PortId) (op : BitVec 4), (sampled s = true) ∧ (holdForbids (portCycle p s) p = false)
      ∧ (if opOfCode op.toNat = none then hasCredit s p false = true
      else p = 4 ∧ 8 ≤ op.toNat ∧ hasCredit s p (((opOfCode op.toNat).map Op.isWrite).getD false) = true) :=
  ⟨⟨(mapped), (2), (hdr 77777 5), by decide +kernel⟩,
   ⟨(uninited), (2), (hdr 77 5), (0), (77), by decide +kernel⟩,
   ⟨(updGlb (fun g => { g with ctl := .halted }) mapped), (2), (hdr 77 5), by decide +kernel⟩,
   ⟨(withReqs [reqOf 0 1 .read 5 .readQ] 1 mapped), (1), (hdr 3 5), (reqOf 0 1 .read 5 .readQ), by decide +kernel⟩,
   ⟨(serving), (1), by decide +kernel⟩,
   ⟨(updPort 1 (fun q => { q with held := true }) mapped), (1), by decide +kernel⟩,
   ⟨(mapped), (1), (4), by decide +kernel⟩⟩

theorem witness_BarriersAndBeats :
    (∃ (s : State) (p : PortId) (h : ReqHdr), (idsFresh s) ∧ (portTakes s p false h.tag)
      ∧ (∀ r ∈ s.reqs, r.port = p → r.answered = true))
    ∧ (∃ (s : State) (p : PortId) (h : ReqHdr) (q : Req), (idsFresh s) ∧ (portTakes s p false h.tag) ∧ (q ∈ s.reqs)
      ∧ (q.port = p) ∧ (q.answered = false) ∧ (q.phase ≠ .barrier))
    ∧ (∃ (s : State) (p : PortId) (id : Nat) (rest : List BeatDest) (r : Req), (sampled s = true)
      ∧ ((s.ports.get p).beats = .req id :: rest) ∧ (findReq s id = some r) ∧ (r.answered = false)
      ∧ (r.phase = .waitBeat) ∧ (r.op ≠ .peerMessage))
    ∧ (∃ (s : State) (p : PortId) (rest : List BeatDest), (sampled s = true)
      ∧ ((s.ports.get p).beats = .discard :: rest))
    ∧ (∃ (s : State) (p : PortId) (id : Nat) (rest : List BeatDest), (sampled s = true)
      ∧ ((s.ports.get p).beats = .req id :: rest) ∧ ((findReq s id).all Req.answered = true))
    ∧ (∃ (s : State) (p : PortId) (wr : Bool), (creditsFlow s = true)
      ∧ ((creditOrder (if wr then s.qos.lastCrdWr else s.qos.lastCrdRd)).find? (creditDue s wr) = some p))
    ∧ ∃ (s : State) (p : PortId) (tag : BitVec 10) (r : Req), (idsFresh s) ∧ (s.glb.ctl ≠ .held)
      ∧ (outstanding s p tag = some r) :=
  ⟨⟨(withReqs [{ reqOf 0 1 .writeFull 5 .writeQ with answered := true }] 1 mapped), (1),
    (hdr 3 5), by decide +kernel⟩,
   ⟨(withReqs [reqOf 0 1 .writeFull 5 .writeQ] 1 mapped), (1), (hdr 3 6),
     (reqOf 0 1 .writeFull 5 .writeQ), by decide +kernel⟩,
   ⟨(withBeats 1 [.req 0] (withReqs [reqOf 0 1 .writeFull 5 .waitBeat] 1 mapped)), (1), (0), ([]),
     (reqOf 0 1 .writeFull 5 .waitBeat), by decide +kernel⟩,
   ⟨(withBeats 1 [.discard] mapped), (1), ([]), by decide +kernel⟩,
   ⟨(withBeats 1 [.req 7] mapped), (1), (7), ([]), by decide +kernel⟩,
   ⟨(regSet 0x8040 0x00100010 mapped), (1), (true), by decide +kernel⟩,
   ⟨(withReqs [reqOf 0 1 .writeFull 5 .writeQ] 1 mapped), (1), (5),
     (reqOf 0 1 .writeFull 5 .writeQ), by decide +kernel⟩⟩

theorem witness_PeerRequests :
    (∃ (s : State) (p : Fin 4) (h : PeerHdr) (n : Nat) (d : Nat), (portTakes s p.castSucc true h.hdr.tag)
      ∧ (fwd s h.hdr.addr = .owned n true d) ∧ (mirEn s = true) ∧ (h.src = peerId s) ∧ (s.mir.hold5 = false)
      ∧ (h.epoch = s.mir.epoch) ∧ (s.mir.pair ≠ .joining) ∧ (s.mir.primary = false) ∧ (rankLive s (llaOf s d) = true))
    ∧ (∃ (s : State) (p : Fin 4) (h : PeerHdr) (n : Nat) (d : Nat), (portTakes s p.castSucc false h.hdr.tag)
      ∧ (fwd s h.hdr.addr = .owned n true d) ∧ (mirEn s = true) ∧ (h.src = peerId s) ∧ (s.mir.hold5 = false)
      ∧ (h.epoch = s.mir.epoch) ∧ (s.mir.pair ≠ .joining) ∧ (rankLive s (llaOf s d) = true)
      ∧ (readsZero s (llaOf s d) = false))
    ∧ (∃ (s : State) (p : Fin 4) (h : PeerHdr) (n : Nat) (d : Nat), (idsFresh s)
      ∧ (portTakes s p.castSucc false h.hdr.tag) ∧ (fwd s h.hdr.addr = .owned n true d) ∧ (mirEn s = true)
      ∧ (h.src = peerId s) ∧ (h.epoch ≠ s.mir.epoch))
    ∧ (∃ (s : State) (p : Fin 4) (h : PeerHdr) (n : Nat) (d : Nat), (idsFresh s)
      ∧ (portTakes s p.castSucc true h.hdr.tag) ∧ (fwd s h.hdr.addr = .owned n true d) ∧ (mirEn s = true)
      ∧ (h.src = peerId s) ∧ (h.epoch ≠ s.mir.epoch))
    ∧ (∃ (s : State) (p : Fin 4) (h : PeerHdr), (portTakes s p.castSucc true h.hdr.tag)
      ∧ (h.hdr.addr = msgAddr s s.glb.ctlId.toNat))
    ∧ (∃ (s : State) (p : Fin 4) (h : PeerHdr), (idsFresh s) ∧ (portTakes s p.castSucc true h.hdr.tag)
      ∧ (h.hdr.addr ≠ msgAddr s s.glb.ctlId.toNat))
    ∧ ∃ (s : State) (p : PortId) (data : Line) (id : Nat) (rest : List BeatDest) (r : Req), (idsFresh s)
      ∧ (sampled s = true) ∧ ((s.ports.get p).beats = .req id :: rest) ∧ (findReq s id = some r)
      ∧ (r.answered = false) ∧ (r.phase = .waitBeat) ∧ (r.op = .peerMessage) ∧ (msgOk s (lineMsg data) = true)
      ∧ (isPoisonLine (lineMsg data) = false) :=
  ⟨⟨(mirrored), (2), (peerHdr 77 4), (0), (77), by decide +kernel⟩,
   ⟨(mirrored), (2), (peerHdr 77 4), (0), (77), by decide +kernel⟩,
   ⟨(mirrored), (2), (peerHdr 77 3), (0), (77), by decide +kernel⟩,
   ⟨(mirrored), (2), (peerHdr 77 3), (0), (77), by decide +kernel⟩,
   ⟨(mapped), (2), (peerHdr 3 0), by decide +kernel⟩,
   ⟨(mapped), (2), (peerHdr 4 0), by decide +kernel⟩,
   ⟨(withBeats 1 [.req 0] (withReqs [reqOf 0 1 .peerMessage 5 .waitBeat] 1 membered)), (1), (goodMsg), (0), ([]),
     (reqOf 0 1 .peerMessage 5 .waitBeat), by decide +kernel⟩⟩

theorem witness_EgressRules :
    (∃ (s : State) (n : BitVec 8) (r : EgpReq) (rest : List EgpReq), (egpOn s = true)
      ∧ ((slotOf s n.toNat).live = none) ∧ (s.egp.waiting.all (fun q => !staleRead s q) = true)
      ∧ (egpNext s [] s.egp.waiting = some (r, rest)))
    ∧ (∃ (s : State) (tok : BitVec 16) (r : EgpReq) (at_ : Nat), (egpOn s = true)
      ∧ ((slotOf s (tok.toNat / 16)).live = some (r, at_))
      ∧ (tok = tokenFor (tok.toNat / 16) (slotOf s (tok.toNat / 16)).gen))
    ∧ (∃ (s : State) (tok : BitVec 16) (st : BitVec 3) (u : Status) (r : EgpReq) (at_ : Nat) (id : Nat) (q : Req),
      (egpOn s = true) ∧ ((slotOf s (tok.toNat / 16)).live = some (r, at_))
      ∧ (tok = tokenFor (tok.toNat / 16) (slotOf s (tok.toNat / 16)).gen) ∧ (r.why = .remoteRead id)
      ∧ (findReq s id = some q) ∧ (q.answered = false) ∧ (statusOf st = some u) ∧ (u = .ok ∨ u = .corrected))
    ∧ (∃ (s : State) (tok : BitVec 16), (egpOn s = true)
      ∧ ((slotOf s (tok.toNat / 16)).live = none ∨ tok ≠ tokenFor (tok.toNat / 16) (slotOf s (tok.toNat / 16)).gen))
    ∧ ∃ (s : State) (n : BitVec 8) (r : EgpReq) (at_ : Nat), (egpOn s = true)
      ∧ ((slotOf s n.toNat).live = some (r, at_)) :=
  ⟨⟨(egpAsk (egpOf .read (.remoteRead 0)) mapped), (7), (egpOf .read (.remoteRead 0)), ([]), by decide +kernel⟩,
   ⟨(withSlot 7 ⟨3, some (egpOf .read (.remoteRead 0), 5)⟩ mapped), (0x73), (egpOf .read (.remoteRead 0)),
     (5), by decide +kernel⟩,
   ⟨(withReqs [reqOf 0 1 .read 5 .peer] 1 (withSlot 7 ⟨3, some (egpOf .read (.remoteRead 0), 5)⟩ mapped)), (0x73), (0),
     (.ok), (egpOf .read (.remoteRead 0)), (5), (0), (reqOf 0 1 .read 5 .peer), by decide +kernel⟩,
   ⟨(mapped), (0x73), by decide +kernel⟩,
   ⟨(withSlot 7 ⟨3, some (egpOf .read (.remoteRead 0), 5)⟩ mapped), (7), (egpOf .read (.remoteRead 0)),
     (5), by decide +kernel⟩⟩

theorem witness_PauseBegins :
    (∃ (s : State), (s.qz.req = false) ∧ (s.qz.ack = false) ∧ (s.glb.ctl = .service))
    ∧ (∃ (s : State), (s.qz.req = false) ∧ (s.qz.ack = false) ∧ (s.glb.ctl = .castOn ∨ s.glb.ctl = .gearChange))
    ∧ (∃ (s : State), (s.qz.req = false) ∧ (s.qz.ack = false) ∧ (s.glb.ctl = .dormant ∨ s.glb.ctl = .halted))
    ∧ (∃ (s : State), (s.qz.req = false) ∧ (s.qz.ack = false) ∧ (s.glb.ctl = .quiesced ∨ s.glb.ctl = .held))
    ∧ (∃ (s : State), (s.glb.ctl = .service) ∧ (s.qz.ph = .boundary) ∧ (s.reqs.any Req.outside = false)
      ∧ ((liveScs s).all (hostBusDone s) = true))
    ∧ (∃ (s : State), (s.glb.ctl = .quiesced) ∧ (s.qz.ph = .waitSr) ∧ ((liveScs s).all (busDone s) = true)
      ∧ (repairMode s = false))
    ∧ ∃ (s : State), (s.glb.ctl = .service) ∧ (s.qz.ph = .barrier) ∧ (allAnswered s = true) :=
  ⟨⟨(mapped), by decide +kernel⟩,
   ⟨(onStep 5), by decide +kernel⟩,
   ⟨(updGlb (fun g => { g with ctl := .halted }) mapped), by decide +kernel⟩,
   ⟨(withQz false false true 5 false .paused .quiesced), by decide +kernel⟩,
   ⟨(withQz true false false 5 false .boundary .service), by decide +kernel⟩,
   ⟨(withQz true false false 5 true .waitSr .quiesced), by decide +kernel⟩,
   ⟨(withQz true false false 0 false .barrier .service), by decide +kernel⟩⟩

theorem witness_PauseEnds :
    (∃ (s : State), (s.qz.hold ≠ 0xFFFF) ∧ (s.qz.ph = .paused) ∧ (s.glb.ctl = .quiesced) ∧ (s.qz.deep = false))
    ∧ (∃ (s : State), (s.qz.hold ≠ 0xFFFF) ∧ (s.qz.ph = .paused) ∧ (s.glb.ctl = .quiesced) ∧ (s.qz.deep = true))
    ∧ (∃ (s : State), (s.qz.req = true) ∧ (s.qz.ph = .paused) ∧ (s.glb.ctl = .quiesced) ∧ (s.qz.deep = false))
    ∧ (∃ (s : State), (s.qz.req = true) ∧ (s.qz.ph = .paused) ∧ (s.glb.ctl = .quiesced) ∧ (s.qz.deep = true))
    ∧ (∃ (s : State), (s.qz.req = true) ∧ (s.qz.ph = .paused) ∧ (s.glb.ctl ≠ .quiesced))
    ∧ (∃ (s : State), (s.qz.req = true) ∧ (s.qz.ph ≠ .paused) ∧ (s.qz.ph ≠ .ended))
    ∧ (∃ (s : State), (s.qz.req = true) ∧ (s.qz.ph = .ended))
    ∧ ∃ (s : State), (s.glb.ctl = .quiesced) ∧ (s.qz.ph = .exiting) :=
  ⟨⟨(withQz true true true 5 false .paused .quiesced), by decide +kernel⟩,
   ⟨(withQz true true true 5 true .paused .quiesced), by decide +kernel⟩,
   ⟨(withQz true true true 5 false .paused .quiesced), by decide +kernel⟩,
   ⟨(withQz true true true 5 true .paused .quiesced), by decide +kernel⟩,
   ⟨(withQz true true true 5 false .paused .halted), by decide +kernel⟩,
   ⟨(withQz true false false 5 false .boundary .service), by decide +kernel⟩,
   ⟨(withQz true true true 5 false .ended .service), by decide +kernel⟩,
   ⟨({ withQz true true true 5 true .exiting .quiesced with pwr := { Pwr.reset with sc := Vector.replicate 4 .selfRefresh } }), by decide +kernel⟩⟩

theorem witness_SelectionAndArbitration :
    (∃ (s : State) (u : State) (x : Sc) (r : Req), (u = countDrainHolds x s)
      ∧ (bestReq u ((heads u x).filter (eligible u)) = some r) ∧ (scOf r.lla = x) ∧ (r.op = .read)
      ∧ (rankLive u r.lla = true) ∧ (youngest (u.sched.get x) r.lla = none)
      ∧ (lineRecord (u.sched.get x) r.lla = none))
    ∧ (∃ (s : State) (u : State) (x : Sc) (r : Req), (idsFresh s) ∧ (u = countDrainHolds x s)
      ∧ (bestReq u ((heads u x).filter (eligible u)) = some r) ∧ (scOf r.lla = x) ∧ (r.op = .writeFull)
      ∧ (r.mirrored = false) ∧ (r.answered = false) ∧ (rankLive u r.lla = true))
    ∧ (∃ (s : State) (u : State) (x : Sc), (u = countDrainHolds x s) ∧ ((heads u x).filter (eligible u) = []))
    ∧ (∃ (s : State) (u : State) (x : Sc) (h : Fin 7),
      (s.glb.ctl = .castOn ∨ s.glb.ctl = .service ∨ s.glb.ctl = .quiesced ∨ s.glb.ctl = .gearChange ∨ s.glb.ctl = .bindOff) ∧ (u = mntOffers x (phyGo x (pprGo x { s with out := [], raised := 0 }))) ∧ ((u.sched.get x).holder = none) ∧ (requesting u x h = true) ∧ (∀ k < h, requesting u x k = false))
    ∧ (∃ (s : State) (u : State) (x : Sc),
      (s.glb.ctl = .castOn ∨ s.glb.ctl = .service ∨ s.glb.ctl = .quiesced ∨ s.glb.ctl = .gearChange ∨ s.glb.ctl = .bindOff) ∧ (u = mntOffers x (phyGo x (pprGo x { s with out := [], raised := 0 }))) ∧ ((u.sched.get x).holder = none) ∧ (∀ k : Fin 7, requesting u x k = false))
    ∧ ∃ (s : State) (r : BitVec 20), (s.glb.ctl = .service) ∧ (s.glb.init.getLsbD r.toNat = false)
      ∧ (2 ^ 18 ≤ zeroDone s (scN (r.toNat / 2 ^ 18)) r.toNat)
      ∧ ((s.sched.get (scN (r.toNat / 2 ^ 18))).maint.toList.any (fun l => l.any (MntCmd.zeroes r.toNat)) = false)
      ∧ ((s.sched.get (scN (r.toNat / 2 ^ 18))).lines = []) :=
  ⟨⟨(withReqs [graded .read] 1 mapped), (countDrainHolds 0 (withReqs [graded .read] 1 mapped)), (0),
    (graded .read), ⟨rfl, by decide +kernel⟩⟩,
   ⟨(withReqs [graded .writeFull] 1 draining), (countDrainHolds 0 (withReqs [graded .writeFull] 1 draining)), (0),
     (graded .writeFull), ⟨by decide +kernel, rfl, by decide +kernel⟩⟩,
   ⟨(mapped), (countDrainHolds 0 mapped), (0), ⟨rfl, by decide +kernel⟩⟩,
   ⟨(leaving (mntAdd 0 0 (.lineRead .debug 5) mapped)),
     (mntOffers 0 (phyGo 0 (pprGo 0 { leaving (mntAdd 0 0 (.lineRead .debug 5) mapped) with out := [], raised := 0 }))), (0), (0), ⟨by decide +kernel, rfl, by decide +kernel⟩⟩,
   ⟨(leaving mapped), (mntOffers 0 (phyGo 0 (pprGo 0 { leaving mapped with out := [], raised := 0 }))),
     (0), ⟨by decide +kernel, rfl, by decide +kernel⟩⟩,
   ⟨(zeroed), (3), by decide +kernel⟩⟩

theorem witness_TicksOfTheScheduler :
    (∃ (s : State), (s.glb.coreRun = true) ∧ (s.qos.pendingQpt = none) ∧ (s.qos.pendingMore = [])
      ∧ (s.reqs.all (fun r => decide (r.colour ≠ some .red)) = true))
    ∧ (∃ (s : State) (l : BitVec 12) (w : Vector Word 8), (s.glb.coreRun = true) ∧ (s.qos.pendingQpt = some (l, w))
      ∧ (s.qos.pendingMore = []))
    ∧ (∃ (s : State), (s.glb.coreRun = true))
    ∧ (∃ (s : State) (l : BitVec 12), ((partOf s l.toNat).missDue = true))
    ∧ (∃ (s : State) (v : Word), (confirms s 0xA010 v) ∧ (bitOf v 31 = true) ∧ (s.qos.pendingQpt = none)
      ∧ (s.qos.pendingMore = []) ∧ (partCode (fld v 11 0) s.qos.staging = 0)
      ∧ (sharesOk (qptWith s (fld v 11 0) s.qos.staging) = true))
    ∧ ∃ (s : State) (v : Word), (confirms s 0xA010 v) ∧ (bitOf v 31 = true) ∧ (s.qos.pendingQpt = none)
      ∧ (s.qos.pendingMore = []) ∧ (partCode (fld v 11 0) s.qos.staging ≠ 0) :=
  ⟨⟨(setPart 1 aPart mapped), by decide +kernel⟩,
   ⟨(pendingPart), (1), (aPart.cfg), by decide +kernel⟩,
   ⟨(setPart 1 aPart mapped), by decide +kernel⟩,
   ⟨(setPart 1 aPart mapped), (1), by decide +kernel⟩,
   ⟨(withPp 0xA010 0x80000001 stagedPart), (0x80000001), by decide +kernel⟩,
   ⟨(withPp 0xA010 0x80000001 mapped), (0x80000001), by decide +kernel⟩⟩

theorem witness_SchedulerIssueRules :
    (∃ (s : State) (x : Sc), (busOn s x = true) ∧ (s.glb.ctl ≠ .bindOff)
      ∧ ((s.alert.get (chOf x)).recovering = false))
    ∧ (∃ (s : State) (x : Sc), (busOn s x = false) ∧ (s.pwr.sc.get x ≠ .powerDown) ∧ (s.glb.ctl ≠ .bindOff)
      ∧ ((s.alert.get (chOf x)).recovering = false))
    ∧ ∃ (s : State) (x : Sc), (s.glb.ctl = .bindOff) ∧ ((s.alert.get (chOf x)).recovering = false) ∧ (x ∈ boScs s)
      ∧ (boAsleep s x = false) ∧ (boDone s x = true) :=
  ⟨⟨(onSched 0 (fun q => { q with rq := [{ rdEnt 0 with issued := false }] })), (0), by decide +kernel⟩,
   ⟨(onStep 3), (0), by decide +kernel⟩,
   ⟨(leaving mapped), (1), by decide +kernel⟩⟩

theorem witness_ReadsAndBursts :
    (∃ (s : State) (x : Sc) (rx : Capture) (g : RdTag) (id : Nat) (d : Decoded) (r : Req),
      ((s.sched.get x).pipe.find? (fun r => r.origin.isRead) = some g) ∧ (g.origin = .host id) ∧ (d = g.decode s rx)
      ∧ (s.glb.ctl ≠ .held) ∧ (d.outcome.lost = false) ∧ (findReq s id = some r) ∧ (r.answered = false))
    ∧ (∃ (s : State) (x : Sc) (rx : Capture) (g : RdTag) (id : Nat) (d : Decoded),
      ((s.sched.get x).pipe.find? (fun r => r.origin.isRead) = some g) ∧ (g.origin = .host id) ∧ (d = g.decode s rx)
      ∧ (d.outcome.lost = true))
    ∧ (∃ (s : State) (x : Sc) (rx : Capture) (g : RdTag) (id : Nat) (d : Decoded) (e : WrEnt) (r : Req),
      ((s.sched.get x).pipe.find? (fun r => r.origin.isMerge) = some g) ∧ (g.origin = .merge id)
      ∧ (d = g.decode s rx) ∧ (findReq s id = some r) ∧ (recovers s r = false)
      ∧ ((s.sched.get x).wq.find? (fun e => decide (e.id = id)) = some e)
      ∧ ((s.sched.get x).wq.all (fun f => decide (f.merge ≠ .onOlder id)) = true))
    ∧ (∃ (s : State) (x : Sc) (h : HeldRd) (rest : List HeldRd) (r : Req), ((s.sched.get x).heldRds = h :: rest)
      ∧ ((s.sched.get x).replay = .none) ∧ (s.glb.ctl ≠ .held) ∧ (findReq s h.id = some r) ∧ (r.answered = false)
      ∧ (recovers s r = false))
    ∧ (∃ (s : State) (x : Sc) (h : HeldRd) (rest : List HeldRd) (r : Req), ((s.sched.get x).heldRds = h :: rest)
      ∧ ((s.sched.get x).replay = .none) ∧ (s.glb.ctl ≠ .held) ∧ (findReq s h.id = some r) ∧ (r.answered = false)
      ∧ (recovers s r = true))
    ∧ (∃ (s : State) (x : Sc) (w : WrTag) (id : Nat) (r : Req), (idsFresh s)
      ∧ ((s.sched.get x).lines.find? (fun w => !w.done) = some w) ∧ (w.src = .entry id) ∧ (findReq s id = some r)
      ∧ (r.answered = true) ∧ (r.peerOpen = false))
    ∧ (∃ (s : State) (x : Sc) (w : WrTag) (id : Nat) (r : Req),
      ((s.sched.get x).lines.find? (fun w => !w.done) = some w) ∧ (w.src = .entry id) ∧ (findReq s id = some r)
      ∧ (r.answered = false ∨ r.peerOpen = true) ∧ (r.written = false))
    ∧ ∃ (s : State) (x : Sc) (w : WrTag), ((s.sched.get x).lines.find? (fun w => !w.done) = some w)
      ∧ (w.src = .copy ∨ w.src = .maint) :=
  ⟨⟨(withReqs [reqOf 0 1 .read 5 .readQ] 1 (onSched 0 fun q => { q with rq := [rdEnt 0], pipe := [⟨.host 0, 5, 50⟩] })), (0), (taken (encodeLine 5 77 false)), (⟨.host 0, 5, 50⟩), (0), (decodeAt mapped 5 (encodeLine 5 77 false)), (reqOf 0 1 .read 5 .readQ), by decide +kernel⟩,
   ⟨(withReqs [reqOf 0 1 .read 5 .readQ] 1 (onSched 0 fun q => { q with rq := [rdEnt 0], pipe := [⟨.host 0, 5, 50⟩] })), (0), (taken (encodeLine 6 77 false)), (⟨.host 0, 5, 50⟩), (0), (decodeAt mapped 5 (encodeLine 6 77 false)), by decide +kernel⟩,
   ⟨(withReqs [reqOf 0 1 .writePartial 5 .writeQ] 1 (onSched 0 fun q => { q with wq := [wrEnt 0 .reading], pipe := [⟨.merge 0, 5, 50⟩] })), (0), (taken (encodeLine 5 77 false)), (⟨.merge 0, 5, 50⟩), (0), (decodeAt mapped 5 (encodeLine 5 77 false)), (wrEnt 0 .reading), (reqOf 0 1 .writePartial 5 .writeQ), by decide +kernel⟩,
   ⟨(withReqs [reqOf 0 1 .read 5 .readQ] 1 (onSched 0 fun q => { q with rq := [rdEnt 0], heldRds := [⟨0, 5, 50, ⟨.uncorrectable, 0, [], false⟩⟩] })), (0), (⟨0, 5, 50, ⟨.uncorrectable, 0, [], false⟩⟩), ([]), (reqOf 0 1 .read 5 .readQ), by decide +kernel⟩,
   ⟨(recovering), (0), (⟨0, 5, 50, ⟨.uncorrectable, 0, [], false⟩⟩), ([]),
     ({ reqOf 0 1 .read 5 .readQ with mirrored := true }), by decide +kernel⟩,
   ⟨(withReqs [{ reqOf 0 1 .writeFull 5 .writeQ with answered := true }] 1 (onSched 0 fun q => { q with wq := [wrEnt 0 .full], lines := [⟨.entry 0, 5, 7, false, 50, wrCmd, false⟩] })), (0), (⟨.entry 0, 5, 7, false, 50, wrCmd, false⟩), (0), ({ reqOf 0 1 .writeFull 5 .writeQ with answered := true }), by decide +kernel⟩,
   ⟨(withReqs [{ reqOf 0 1 .writeFull 5 .writeQ with mirrored := true }] 1 (onSched 0 fun q => { q with wq := [wrEnt 0 .full], lines := [⟨.entry 0, 5, 7, false, 50, wrCmd, false⟩] })), (0), (⟨.entry 0, 5, 7, false, 50, wrCmd, false⟩), (0), ({ reqOf 0 1 .writeFull 5 .writeQ with mirrored := true }), by decide +kernel⟩,
   ⟨(onSched 0 (fun q => { q with lines := [⟨.maint, 5, 7, false, 50, wrCmd, false⟩] })), (0),
     (⟨.maint, 5, 7, false, 50, wrCmd, false⟩), by decide +kernel⟩⟩

theorem witness_AlertsAndReplay :
    (∃ (s : State) (c : Ch), (alertWatched s c = true) ∧ ((s.alert.get c).low = false)
      ∧ ((s.alert.get c).recovering = false))
    ∧ (∃ (s : State) (c : Ch), (alertWatched s c = true) ∧ ((s.alert.get c).low = false)
      ∧ ((s.alert.get c).recovering = true) ∧ ((s.alert.get c).slept = true))
    ∧ (∃ (s : State) (c : Ch), ((s.alert.get c).recovering = true) ∧ ((s.alert.get c).slept = false))
    ∧ (∃ (s : State) (c : Ch) (w : BitVec 16), (s.glb.ctl ≠ .bindOff) ∧ ((s.alert.get c).low = true)
      ∧ ((s.alert.get c).again = true) ∧ (3 ≤ (s.alert.get c).attempts) ∧ (alertClass s w.toNat ≠ 3))
    ∧ (∃ (s : State) (c : Ch) (w : BitVec 16), ((s.alert.get c).low = true) ∧ ((s.alert.get c).again = false)
      ∧ (alertClass s w.toNat ≠ 3) ∧ (affects s (alertClass s w.toNat) (scA c) = true))
    ∧ (∃ (s : State) (c : Ch) (w : BitVec 16), ((s.alert.get c).low = true) ∧ ((s.alert.get c).again = false)
      ∧ (alertClass s w.toNat ≠ 3) ∧ (affects s (alertClass s w.toNat) (scA c) = false)
      ∧ (affects s (alertClass s w.toNat) (scB c) = false))
    ∧ (∃ (s : State) (c : Ch) (w : BitVec 16), ((s.alert.get c).low = true) ∧ ((s.alert.get c).again = false)
      ∧ (alertClass s w.toNat = 3) ∧ (interrupted s c = false))
    ∧ (∃ (s : State) (c : Ch) (w : BitVec 16), ((s.alert.get c).low = true) ∧ (alertClass s w.toNat = 3)
      ∧ (interrupted s c = true))
    ∧ (∃ (s : State) (c : Ch), ((s.alert.get c).low = false)
      ∧ (∀ x ∈ [scA c, scB c], (s.sched.get x).replay.over = true)
      ∧ ((s.sched.get (scA c)).replay.runs = true ∨ (s.sched.get (scB c)).replay.runs = true))
    ∧ (∃ (s : State) (c : Ch), ((s.alert.get c).low = true) ∧ (s.glb.ctl ≠ .bindOff))
    ∧ (∃ (s : State) (c : Ch), ((s.alert.get c).recovering = true))
    ∧ (∃ (s : State) (c : Ch) (pa : Option (BitVec 3)) (pb : Option (BitVec 3)), ((s.alert.get c).recovering = true)
      ∧ (pa = none ∨ pb = none))
    ∧ (∃ (s : State) (c : Ch), ((s.alert.get c).recovering = true))
    ∧ ∃ (s : State) (x : Sc), (busOn s x = true) ∧ ((s.sched.get x).replay ≠ .failed) ∧ (hasWork s x = true) :=
  ⟨⟨(alerted id (onSched 0 fun q => { q with rq := [rdEnt 0], pipe := [⟨.host 0, 5, 50⟩] })), (0), by decide +kernel⟩,
   ⟨(alerted (fun a => { a with recovering := true, slept := true }) (onSched 0 fun q => { q with replay := .failed })), (0), by decide +kernel⟩,
   ⟨(alerted (fun a => { a with recovering := true }) (onSched 0 fun q => { q with replay := .failed })),
     (0), by decide +kernel⟩,
   ⟨(alerted (fun a => { a with low := true, again := true, attempts := 3, affected := 1 }) (onSched 0 fun q => { q with replay := .frozen (some ⟨3, [], []⟩) })), (0), (3), by decide +kernel⟩,
   ⟨(alerted (fun a => { a with low := true }) (onSched 0 fun q => { q with replay := .frozen none, window := [⟨50, wrCmd⟩] })), (0), (3), by decide +kernel⟩,
   ⟨(regSet 0x14018 0 (regSet 0x14014 3 (alerted (fun a => { a with low := true }) (onSched 0 fun q => { q with replay := .frozen none })))), (0), (0), by decide +kernel⟩,
   ⟨(regSet 0x10000 0x00080000 (regSet 0x14018 5 (regSet 0x14014 0 (alerted (fun a => { a with low := true }) (onSched 0 fun q => { q with replay := .frozen none }))))), (0), (9), by decide +kernel⟩,
   ⟨(regSet 0x10000 0x00080000 (regSet 0x14018 5 (regSet 0x14014 0 (alerted (fun a => { a with low := true, attempts := 1 }) (onSched 0 fun q => { q with replay := .frozen (some ⟨3, [wrCmd], []⟩) }))))), (0), (9), by decide +kernel⟩,
   ⟨(alerted (fun a => { a with attempts := 1, affected := 1 }) (onSched 0 fun q => { q with replay := .running ⟨3, [], []⟩, lost := [⟨.host 0, 5, 50⟩] })), (0), by decide +kernel⟩,
   ⟨(alerted (fun a => { a with low := true }) mapped), (0), by decide +kernel⟩,
   ⟨(alerted (fun a => { a with recovering := true }) (onSched 0 fun q => { q with replay := .failed })),
     (0), by decide +kernel⟩,
   ⟨(alerted (fun a => { a with recovering := true }) (onSched 0 fun q => { q with replay := .failed })), (0),
     (some 3), (none), by decide +kernel⟩,
   ⟨(alerted (fun a => { a with recovering := true }) (onSched 0 fun q => { q with replay := .failed, rq := [rdEnt 0] })), (0), by decide +kernel⟩,
   ⟨(onSched 0 (fun q => { q with rq := [{ rdEnt 0 with issued := false }] })), (0), by decide +kernel⟩⟩

theorem witness_RefreshCalendar :
    (∃ (s : State) (x : Sc) (u : Fin 64), (slotsCount s x u.val = true) ∧ (s.pwr.sc.get x ≠ .powerDown))
    ∧ (∃ (s : State) (x : Sc) (u : Fin 64), ((refUnit s x u.val).gate ≠ none)
      ∧ ((refUnit s x u.val).emergency = false))
    ∧ (∃ (s : State) (c : Ch) (r : AboReq), ((s.ref.abo.get c).find? (fun r => !r.passed) = some r))
    ∧ (∃ (s : State) (c : Ch), (chLive s c = true) ∧ (s.glb.coreRun = true) ∧ (s.pwr.sc.get (scA c) ≠ .selfRefresh)
      ∧ (s.pwr.sc.get (scB c) ≠ .selfRefresh))
    ∧ (∃ (s : State) (c : Ch), (chLive s c = true) ∧ (s.glb.coreRun = true)
      ∧ (s.pwr.sc.get (scA c) = .selfRefresh ∨ s.pwr.sc.get (scB c) = .selfRefresh))
    ∧ ∃ (s : State) (x : Sc) (u : Fin 64), (calendar s x u.val = true) ∧ (nPass s ≤ (refUnit s x u.val).passCount) :=
  ⟨⟨(refreshing aUnit), (0), (0), by decide +kernel⟩,
   ⟨(refreshing { aUnit with gate := some 4 }), (0), (0), by decide +kernel⟩,
   ⟨(updRef (fun a => { a with abo := vset a.abo 0 [⟨4, false, false⟩] }) mapped), (0),
     (⟨4, false, false⟩), by decide +kernel⟩,
   ⟨(mapped), (0), by decide +kernel⟩,
   ⟨(sleeping), (0), by decide +kernel⟩,
   ⟨(refreshing { aUnit with passCount := 20000 }), (0), (0), by decide +kernel⟩⟩

theorem witness_LedgerFetches :
    (∃ (s : State) (x : Sc) (rx : Capture) (g : RdTag) (k : Nat) (d : Decoded),
      ((s.sched.get x).pipe.find? (fun r => r.origin.isLedger) = some g) ∧ (g.origin = .ledger k)
      ∧ (d = g.decode s rx) ∧ (d.outcome = .clean ∨ d.outcome = .corrected)
      ∧ (s.ref.fetching.any (fun e => decide (e.1 = k)) = true)
      ∧ (s.ref.posted.all (fun p => decide (p.1 ≠ k)) = true))
    ∧ ∃ (s : State) (x : Sc) (k : Nat), (s.ref.fetching.find? (fun e => decide (e.2 = x)) = some (k, x)) :=
  ⟨⟨(updRef (fun a => { a with fetching := [(7, 0)] }) (onSched 0 fun q => { q with pipe := [⟨.ledger 7, 5, 50⟩] })),
    (0), (taken (encodeLine 5 77 false)), (⟨.ledger 7, 5, 50⟩), (7),
    (decodeAt mapped 5 (encodeLine 5 77 false)), by decide +kernel⟩,
   ⟨(updRef (fun a => { a with fetching := [(7, 0)] }) mapped), (0), (7), by decide +kernel⟩⟩

theorem witness_ScoutsAndExchange :
    (∃ (s : State) (x : Sc) (c : Ch) (b : Bool) (g : GroupId) (i : Fin 40), (scAt c b = x) ∧ (scoutState s x = true)
      ∧ (scoutsOn s x = true) ∧ (groupFrozen s x g = false) ∧ ((strobeAt s x g).exchange = false)
      ∧ ((strobeAt s x g).backoff = false) ∧ ((strobeAt s x g).confirming = false)
      ∧ (comparing (s.phy.sc.get x) g = true) ∧ (pointBursts (strobeAt s x g).cfg ≤ (strobeAt s x g).compared)
      ∧ (i ∈ grpLanes g) ∧ ((laneAt s x i).phase = .left) ∧ ((laneAt s x i).dis < edgeErr (strobeAt s x g).cfg)
      ∧ (((laneAt s x i).liveCode.toNat : Int) - (laneAt s x i).c ≤ sweepSpan (strobeAt s x g).cfg))
    ∧ (∃ (s : State) (x : Sc) (c : Ch) (b : Bool) (g : GroupId), (scAt c b = x) ∧ (scoutState s x = true)
      ∧ (scoutsOn s x = true) ∧ (groupFrozen s x g = false) ∧ ((strobeAt s x g).exchange = false)
      ∧ ((strobeAt s x g).backoff = false) ∧ ((strobeAt s x g).confirming = true) ∧ (groupIdle s x g = false)
      ∧ (comparing (s.phy.sc.get x) g = true) ∧ (∀ i ∈ grpLanes g, (laneAt s x i).dis = 0)
      ∧ (16 * fld ((strobeAt s x g).cfg)[1] 7 0 ≤ (strobeAt s x g).compared))
    ∧ (∃ (s : State) (x : Sc) (c : Ch) (b : Bool) (g : GroupId), (scAt c b = x) ∧ (scoutState s x = true)
      ∧ (scoutsOn s x = true) ∧ (groupFrozen s x g = false) ∧ ((strobeAt s x g).exchange = false)
      ∧ ((strobeAt s x g).backoff = false) ∧ ((strobeAt s x g).confirming = true) ∧ (groupIdle s x g = false)
      ∧ (comparing (s.phy.sc.get x) g = true) ∧ (∃ i ∈ grpLanes g, 0 < (laneAt s x i).dis))
    ∧ (∃ (s : State) (x : Sc) (g : GroupId) (i : Fin 40), (scoutState s x = true) ∧ (scoutsOn s x = true)
      ∧ (groupFrozen s x g = false) ∧ ((strobeAt s x g).backoff = true)
      ∧ (2 ^ fld ((strobeAt s x g).cfg)[3] 15 12 ≤ (strobeAt s x g).compared) ∧ (i ∈ grpLanes g))
    ∧ (∃ (s : State) (x : Sc) (g : GroupId) (i : Fin 40), (scoutState s x = true) ∧ (scoutsOn s x = true)
      ∧ (groupFrozen s x g = false) ∧ ((strobeAt s x g).exchange = true)
      ∧ (swapWindow s x (ckNow s x) < ckNow s x + 4) ∧ (i ∈ grpLanes g))
    ∧ (∃ (s : State) (u : State) (x : Sc), (u = codesGoOn x { s with out := [], raised := 0 })
      ∧ ((u.phy.sc.get x).waitCk.any (fun t => decide (t + 400 * rateOf u u.glb.gear ≤ ckNow u x)) = true)
      ∧ (linesMove u x = true) ∧ ((u.sched.get x).forceWindow = false))
    ∧ ∃ (s : State) (u : State) (x : Sc), (u = codesGoOn x { s with out := [], raised := 0 })
      ∧ ((u.phy.sc.get x).waitCk = none) :=
  ⟨⟨(scouting (fun q => { q with compared := 1, cfg := #v[0x00080064, 0, 0, 0] }) .left), (0), (0), (false), (0),
    (2), by decide +kernel⟩,
   ⟨(scouting (fun q => { q with confirming := true }) .confirming), (0), (0), (false), (0), by decide +kernel⟩,
   ⟨(updLane 0 1 (fun a => { a with dis := 3 }) (scouting (fun q => { q with confirming := true }) .confirming)), (0),
     (0), (false), (0), by decide +kernel⟩,
   ⟨(scouting (fun q => { q with backoff := true, compared := 1 }) .idle), (0), (0), (1), by decide +kernel⟩,
   ⟨(scouting (fun q => { q with exchange := true }) .confirming), (0), (0), (1), by decide +kernel⟩,
   ⟨(stuck), (codesGoOn 0 { stuck with out := [], raised := 0 }), (0), ⟨rfl, by decide +kernel⟩⟩,
   ⟨(regSet 0x20000 0 mapped), (codesGoOn 3 { regSet 0x20000 0 mapped with out := [], raised := 0 }),
     (3), ⟨rfl, by decide +kernel⟩⟩⟩

theorem witness_SwatchRunsAndOscillators :
    (∃ (s : State) (x : Sc), (chLive s (chOf x) = true))
    ∧ (∃ (s : State) (v : Word), (confirms s 0x20020 v))
    ∧ (∃ (s : State) (x : Sc), (trainAsks s x = true) ∧ ((s.phy.sc.get x).seq = .idle)
      ∧ ((s.sched.get x).holder = some 2))
    ∧ (∃ (s : State) (x : Sc) (g : RdTag) (k : Nat) (r : SwRun),
      ((s.sched.get x).pipe.find? (fun r => r.origin.isRead) = some g) ∧ (g.origin = .swatch k)
      ∧ ((s.phy.sc.get x).run = some r))
    ∧ (∃ (s : State) (x : Sc) (r : SwRun), ((s.phy.sc.get x).run = some r) ∧ (r.stage = .judge)
      ∧ ((s.phy.sc.get x).seq = .swatch) ∧ (swatchState s x = true) ∧ ((s.sched.get x).holder = some 2))
    ∧ (∃ (s : State) (x : Sc), ((s.phy.sc.get x).seq = .swatch))
    ∧ (∃ (s : State) (x : Sc), ((s.phy.sc.get x).seq = .swatch))
    ∧ (∃ (s : State) (x : Sc), (regBit s 0x20000 (4 + x.val) = true) ∧ (scoutState s x = true)
      ∧ (swatchState s x = true) ∧ ((s.phy.sc.get x).seq = .idle))
    ∧ (∃ (s : State) (x : Sc) (counts : List Nat) (i : Fin 40), (s.glb.ctl = .service) ∧ (s.ras.ppr = none)
      ∧ ((s.phy.sc.get x).seq = .osc) ∧ ((s.phy.sc.get x).osc = some counts)
      ∧ (((s.sched.get x).maint.get 2).any MntCmd.oscs = false) ∧ (laneDev s i.val < devCount (isX8 s)))
    ∧ ∃ (s : State) (c : Ch), (swatchState s (scA c) = true) ∧ (s.phy.llChanged.get (llKey c s.glb.gear) = true) :=
  ⟨⟨(mapped), (1), by decide +kernel⟩,
   ⟨(withPp 0x20020 5 mapped), (5), by decide +kernel⟩,
   ⟨(updSched 0 (fun q => { q with holder := some 2 }) (updPhySc 0 (fun p => { p with swReq := true }) mapped)),
     (0), by decide +kernel⟩,
   ⟨(updSched 0 (fun q => { q with pipe := [⟨.swatch 3, 5, 50⟩] }) (swatching .lines)), (0), (⟨.swatch 3, 5, 50⟩), (3),
     (⟨.lines, 0, 0, [], [], [], 0, Vector.replicate 4 0⟩), by decide +kernel⟩,
   ⟨(swatching .judge), (0), (⟨.judge, 0, 0, [], [], [], 0, Vector.replicate 4 0⟩), by decide +kernel⟩,
   ⟨(swatching .lines), (0), by decide +kernel⟩,
   ⟨(swatching .lines), (0), by decide +kernel⟩,
   ⟨(regSet 0x20018 0x00010A00 (scouting id .idle)), (0), by decide +kernel⟩,
   ⟨(regSet 0x20018 0x00010A00 (updPhySc 0 (fun p => { p with seq := .osc, osc := some (List.replicate 10 0), nref := List.replicate 10 400000 }) (scouting id .idle))), (0), (List.replicate 10 0), (5), by decide +kernel⟩,
   ⟨({ mapped with phy := { Phy.reset with llChanged := Vector.replicate 8 true } }), (0), by decide +kernel⟩⟩

theorem witness_GearChanges :
    (∃ (s : State) (v : Word) (g : Gear), (confirms s 0x20028 v) ∧ (s.glb.ctl = .service) ∧ (swatchRuns s = false)
      ∧ (bitOf v 31 = true) ∧ (g.val = fld v 1 0) ∧ (gearRefusal s g = none))
    ∧ (∃ (s : State) (v : Word) (g : Gear) (k : Nat), (confirms s 0x20028 v) ∧ (s.glb.ctl = .service)
      ∧ (swatchRuns s = false) ∧ (bitOf v 31 = true) ∧ (g.val = fld v 1 0) ∧ (gearRefusal s g = some k))
    ∧ (∃ (s : State) (v : Word) (g : Gear), (confirms s 0x20028 v) ∧ (s.glb.ctl = .service) ∧ (swatchRuns s = true)
      ∧ (bitOf v 31 = true) ∧ (g.val = fld v 1 0))
    ∧ (∃ (s : State) (g : Gear), (s.phy.gearPending = some g) ∧ (s.glb.ctl = .service) ∧ (s.qz.ph ≠ .boundary)
      ∧ (repairing s = false) ∧ (gearDrained s = true))
    ∧ (∃ (s : State) (g : Gear) (since : Nat), (s.phy.gearTo = some (g, since)) ∧ (s.glb.ctl = .gearChange)
      ∧ (drained s = true) ∧ (s.qz.ph ≠ .deferred))
    ∧ (∃ (s : State) (g : Gear) (since : Nat), (s.phy.gearTo = some (g, since)) ∧ (s.glb.ctl = .gearChange)
      ∧ (drained s = true) ∧ (s.qz.ph = .deferred) ∧ (s.qz.hold ≠ 0))
    ∧ (∃ (s : State), (policyOn s = true) ∧ (s.glb.ctl = .service) ∧ (s.glb.gear = policyHigh s)
      ∧ (100 * windowData s < regFld s 0x300C 23 16 * windowAll s) ∧ (s.phy.policyRun = 0))
    ∧ ∃ (s : State), (policyOn s = true) ∧ (s.glb.ctl = .service) ∧ (swatchRuns s = false)
      ∧ (s.glb.gear = policyHigh s) ∧ (100 * windowData s < regFld s 0x300C 23 16 * windowAll s)
      ∧ (1 ≤ s.phy.policyRun) ∧ (gearRefusal s (policyLow s) = none) :=
  ⟨⟨(withPp 0x20028 0x80000001 (gear0 0x8000000C)), (0x80000001), (1), by decide +kernel⟩,
   ⟨(withPp 0x20028 0x80000001 (gear0 0xC000000C)), (0x80000001), (1), (2), by decide +kernel⟩,
   ⟨(withPp 0x20028 0x80000001 (swatching .lines)), (0x80000001), (1), by decide +kernel⟩,
   ⟨({ draining with phy := { Phy.reset with gearPending := some 1 } }), (1), by decide +kernel⟩,
   ⟨(updGlb (fun b => { b with ctl := .gearChange }) { mapped with phy := { Phy.reset with gearTo := some (1, 50) } }),
     (1), (50), by decide +kernel⟩,
   ⟨({ updGlb (fun b => { b with ctl := .gearChange }) { mapped with phy := { Phy.reset with gearTo := some (1, 50) } } with qz := ⟨true, 5, false, .deferred, false, false⟩ }), (1), (50), by decide +kernel⟩,
   ⟨(regSet 0xE000 12 (regSet 0x3000 0x08000000 (regSet 0x300C 0x40140001 mapped))), by decide +kernel⟩,
   ⟨({ regSet 0xE000 12 (regSet 0x3000 0x08000000 (regSet 0x300C 0x40140001 (gear0 0x8000000C))) with phy := { Phy.reset with policyRun := 1 } }), by decide +kernel⟩⟩

theorem witness_PowerDownAndDormant :
    (∃ (s : State) (x : Sc), (s.glb.ctl = .service) ∧ (chLive s (chOf x) = true) ∧ (s.pwr.sc.get x = .active)
      ∧ (regBit s 0x3000 31 = true) ∧ (busDone s x = true) ∧ ((s.sched.get x).rq.all RdEnt.issued = true)
      ∧ ((s.sched.get x).wq.all WrEnt.issued = true) ∧ ((s.sched.get x).copy = [])
      ∧ ((s.sched.get x).maint.toList.all List.isEmpty = true) ∧ (trainAsks s x = false))
    ∧ (∃ (s : State) (x : Sc), (s.glb.ctl = .service) ∧ (chLive s (chOf x) = true) ∧ (s.pwr.sc.get x ≠ .selfRefresh)
      ∧ (regBit s 0x3000 30 = true) ∧ (scQuiet s x = true) ∧ (mntAsks s x = false) ∧ (scrubBehind s x = false)
      ∧ (s.ras.fetch.all (fun f => decide (f.1 ≠ x)) = true) ∧ ((s.ras.spare.get (chOf x)).st ≠ .copying)
      ∧ (s.ras.ppr = none))
    ∧ (∃ (s : State) (x : Sc), (s.glb.ctl = .service) ∧ (chLive s (chOf x) = true) ∧ (s.pwr.sc.get x = .selfRefresh)
      ∧ (srWakes s x = true))
    ∧ (∃ (s : State) (x : Sc), (srWakes s x = false))
    ∧ (∃ (s : State), (mayDoze s = true))
    ∧ (∃ (s : State), (s.glb.ctl = .dormant) ∧ (s.pwr.waking = false))
    ∧ (∃ (s : State) (a : RegAcc), (s.glb.ctl = .dormant) ∧ (portReady s = true) ∧ (a.allowed = true)
      ∧ (a.wakes = true))
    ∧ (∃ (s : State), (s.glb.ctl = .dormant) ∧ (s.pwr.waking = false) ∧ (regFld s 0x3004 15 0 ≠ 0))
    ∧ (∃ (s : State), (s.glb.ctl = .dormant) ∧ (s.pwr.waking = true) ∧ (s.pwr.deferred = []) ∧ (s.qz.ph = .idle))
    ∧ ∃ (s : State), (s.glb.ctl = .dormant) ∧ (s.pwr.waking = true) ∧ (s.pwr.deferred = []) ∧ (s.qz.ph = .paused) :=
  ⟨⟨(regSet 0x3000 0x80000000 mapped), (2), by decide +kernel⟩,
   ⟨(regSet 0x3000 0x40000000 mapped), (2), by decide +kernel⟩,
   ⟨({ sleeping with pwr := { sleeping.pwr with due := 4 } }), (2), by decide +kernel⟩,
   ⟨(sleeping), (2), by decide +kernel⟩,
   ⟨(regSet 0x3000 0x20000000 sleeping), by decide +kernel⟩,
   ⟨(dozing false), by decide +kernel⟩,
   ⟨(dozing false), (winAcc true 0x9000 3), by decide +kernel⟩,
   ⟨(regSet 0x3004 5 (dozing false)), by decide +kernel⟩,
   ⟨(dozing true), by decide +kernel⟩,
   ⟨({ dozing true with qz := ⟨true, 5, false, .paused, true, true⟩ }), by decide +kernel⟩⟩

theorem witness_ThermalLoop :
    (∃ (s : State) (u : State) (r : Reading) (l : List Reading) (h : Reading), ((fins 2).any (busOwned s) = true)
      ∧ (u = forAll ((fins 2).filter (busOwned s)) (fun c s => forAll (fins 2) (pollSlot c) s) s)
      ∧ (readings u = r :: l) ∧ (h = hottest r l))
    ∧ ∃ (s : State) (u : State), ((fins 2).any (busOwned s) = true)
      ∧ (u = forAll ((fins 2).filter (busOwned s)) (fun c s => forAll (fins 2) (pollSlot c) s) s)
      ∧ (readings u = []) :=
  ⟨⟨(hot 900), (forAll ((fins 2).filter (busOwned (hot 900))) (fun c s => forAll (fins 2) (pollSlot c) s) (hot 900)),
    (⟨900, 0, 0, 0⟩), ([]), (⟨900, 0, 0, 0⟩), ⟨by decide +kernel, rfl, by decide +kernel⟩⟩,
   ⟨(mapped),
     (forAll ((fins 2).filter (busOwned mapped)) (fun c s => forAll (fins 2) (pollSlot c) s) mapped), ⟨by decide +kernel, rfl, by decide +kernel⟩⟩⟩

theorem witness_BindOffRules :
    (∃ (s : State), (s.glb.ctl = .service ∨ s.glb.ctl = .quiesced ∨ s.glb.ctl = .gearChange ∨ s.glb.ctl = .castOn))
    ∧ (∃ (s : State), (s.glb.ctl = .reset ∨ s.glb.ctl = .held ∨ s.glb.ctl = .bindOff))
    ∧ (∃ (s : State), (s.glb.ctl = .halted ∨ s.glb.ctl = .dormant))
    ∧ ∃ (s : State) (b : BindOff), (s.pwr.bo = some b) ∧ (s.glb.ctl = .bindOff)
      ∧ ((boScs s).all (boAsleep s) = true) :=
  ⟨⟨(mapped), by decide +kernel⟩,
   ⟨(State.reset), by decide +kernel⟩,
   ⟨(dozing false), by decide +kernel⟩,
   ⟨({ updGlb (fun g => { g with ctl := .bindOff }) mapped with pwr := { Pwr.reset with sc := Vector.replicate 4 .selfRefresh, bo := some ⟨.service, 0, 5, false, false, false, 0, 0, 0⟩ } }), (⟨.service, 0, 5, false, false, false, 0, 0, 0⟩), by decide +kernel⟩⟩

theorem witness_ScrubAndErrorAccounting :
    (∃ (s : State) (x : Sc) (rx : Capture) (g : RdTag),
      ((s.sched.get x).pipe.find? (fun r => r.origin.isScrub) = some g) ∧ (g.origin = .patrol ∨ g.origin = .oot)
      ∧ ((g.decode s rx).outcome = .clean))
    ∧ (∃ (s : State) (x : Sc) (rx : Capture) (g : RdTag) (d : Decoded),
      ((s.sched.get x).pipe.find? (fun r => r.origin.isScrub) = some g) ∧ (g.origin = .patrol ∨ g.origin = .oot)
      ∧ (d = g.decode s rx) ∧ (d.outcome = .corrected))
    ∧ (∃ (s : State) (x : Sc) (rx : Capture) (g : RdTag) (d : Decoded),
      ((s.sched.get x).pipe.find? (fun r => r.origin.isScrub) = some g) ∧ (g.origin = .patrol ∨ g.origin = .oot)
      ∧ (d = g.decode s rx) ∧ (d.outcome.lost = true) ∧ ((lineMirrored s g.lla && lineHealthy s g.lla) = false))
    ∧ (∃ (s : State) (x : Sc) (rx : Capture) (g : RdTag) (d : Decoded),
      ((s.sched.get x).pipe.find? (fun r => r.origin.isScrub) = some g) ∧ (d = g.decode s rx)
      ∧ (d.outcome.lost = true) ∧ (lineMirrored s g.lla = true) ∧ (lineHealthy s g.lla = true))
    ∧ (∃ (s : State) (x : Sc), ((s.ras.scrub.get x).active = true) ∧ ((s.ras.scrub.get x).missed = false)
      ∧ ((s.ras.scrub.get x).t0 + scrubPeriod (s.ras.scrub.get x).periodH ≤ s.glb.now))
    ∧ (∃ (s : State) (x : Sc), (s.glb.now < (s.ras.scrub.get x).t0 + scrubPeriod (s.ras.scrub.get x).periodH))
    ∧ (∃ (s : State) (v : Word), (confirms s 0x1400C v) ∧ (bitOf v 31 = false))
    ∧ (∃ (s : State) (x : Sc) (u : Fin 64) (d : Fin 10), (s.ras.reached.contains (x, u.val, d) = true)
      ∧ (isX8 s = false) ∧ ((rasUnit s x u.val).mark = none) ∧ (s.ras.rpl.length < 256))
    ∧ ∃ (s : State) (x : Sc) (u : Fin 64) (d : Fin 10), (s.ras.reached.contains (x, u.val, d) = true)
      ∧ ((!isX8 s && decide ((rasUnit s x u.val).mark = none)) = false) :=
  ⟨⟨(patrolling .patrol), (0), (taken (encodeLine 5 77 false)), (⟨.patrol, 5, 50⟩), by decide +kernel⟩,
   ⟨(patrolling .patrol), (0), (taken oneBad), (⟨.patrol, 5, 50⟩),
     (decodeAt (patrolling .patrol) 5 oneBad), by decide +kernel⟩,
   ⟨(patrolling .patrol), (0), (taken (encodeLine 6 77 false)), (⟨.patrol, 5, 50⟩),
     (decodeAt (patrolling .patrol) 5 (encodeLine 6 77 false)), by decide +kernel⟩,
   ⟨({ patrolling .patrol with mir := { mirrored.mir with primary := true }, regs := mirrored.regs }), (0),
     (taken (encodeLine 6 77 false)), (⟨.patrol, 5, 50⟩),
     (decodeAt mirrored 5 (encodeLine 6 77 false)), by decide +kernel⟩,
   ⟨(updGlb (fun g => { g with now := 2000000000000 }) (patrolling .patrol)), (0), by decide +kernel⟩,
   ⟨(patrolling .patrol), (0), by decide +kernel⟩,
   ⟨(withPp 0x1400C 24 (regSet 0x1400C 0x80000018 (updSched 0 (fun q => { q with maint := vset q.maint 6 [⟨.lineRead .patrol 5, none, false, [], none⟩] }) (patrolling .patrol)))), (24), by decide +kernel⟩,
   ⟨(reachedAt 0 0 3 mapped), (0), (0), (3), by decide +kernel⟩,
   ⟨(reachedAt 0 0 3 (setUnit 0 0 { RasUnit.fresh with mark := some 5 } mapped)), (0), (0), (3), by decide +kernel⟩⟩

theorem witness_RowRepairAndSparing :
    (∃ (s : State) (res : Bool) (x : Sc) (l : Lla) (dev : Nat) (count : Nat) (by_ : Bool) (rest : List (Sc × Lla × Nat × Nat × Bool)), (s.ras.pprWait = (x, l, dev, count, by_) :: rest) ∧ (s.ras.ppr = none) ∧ (replayFree s x = true) ∧ ((s.alert.get (chOf x)).recovering = false) ∧ (256 ≤ s.ras.rpl.length ∨ res = false))
    ∧ (∃ (s : State) (x : Sc) (l : Lla) (dev : Nat) (count : Nat) (by_ : Bool) (rest : List (Sc × Lla × Nat × Nat × Bool)), (s.ras.pprWait = (x, l, dev, count, by_) :: rest) ∧ (s.ras.ppr = none) ∧ (replayFree s x = true) ∧ ((s.alert.get (chOf x)).recovering = false) ∧ (s.ras.rpl.length < 256))
    ∧ (∃ (s : State) (x : Sc) (p : Ppr), (s.glb.ctl = .service ∨ s.glb.ctl = .quiesced) ∧ (s.ras.ppr = some p)
      ∧ (p.sc = x) ∧ (p.step = .quiet) ∧ (replayFree s x = true)
      ∧ ((rowLines s p.lla).any (lineBusy (s.sched.get x)) = false) ∧ (readsZero s p.lla = false)
      ∧ ((s.phy.sc.get x).run = none) ∧ ((s.phy.sc.get x).seq = .idle))
    ∧ (∃ (s : State) (x : Sc) (rx : Capture) (g : RdTag) (p : Ppr) (d : Decoded),
      ((s.sched.get x).pipe.find? (fun r => r.origin.isRead) = some g) ∧ (g.origin = .repair false)
      ∧ (s.ras.ppr = some p) ∧ (p.sc = x) ∧ (p.step = .waiting) ∧ (d = g.decode s rx))
    ∧ (∃ (s : State) (p : Ppr), (s.ras.ppr = some p) ∧ (p.step = .waiting)
      ∧ ((rowLines s p.lla).length ≤ p.buf.length) ∧ (replayFree s p.sc = true)
      ∧ ((List.range (nLr s)).all (fun lr => decide ((refUnit s p.sc (unitNo s (unpackLla p.lla).cs lr)).debt ≤ 0)) = true))
    ∧ (∃ (s : State) (p : Ppr), (s.ras.ppr = some p)
      ∧ ((List.range (nLr s)).all (fun lr => decide ((refUnit s p.sc (unitNo s (unpackLla p.lla).cs lr)).debt ≤ 0)) = false))
    ∧ (∃ (s : State) (p : Ppr), (s.ras.ppr = some p) ∧ (p.step = .mode))
    ∧ (∃ (s : State) (p : Ppr), (s.ras.ppr = some p) ∧ (p.step = .verify) ∧ (repairOpen s p.sc = false)
      ∧ (s.ras.rpl.length < 256))
    ∧ (∃ (s : State) (c : Ch) (r : SpareReq) (rest : List SpareReq), ((s.ras.spare.get c).waiting = r :: rest)
      ∧ ((s.alert.get c).recovering = false) ∧ ((s.ras.spare.get (chN (1 - c.val))).st ≠ .copying)
      ∧ (chLive s c = true) ∧ (spareMay s c = true))
    ∧ (∃ (s : State) (c : Ch) (r : SpareReq) (rest : List SpareReq), ((s.ras.spare.get c).waiting = r :: rest)
      ∧ ((s.alert.get c).recovering = false) ∧ ((s.ras.spare.get (chN (1 - c.val))).st ≠ .copying)
      ∧ (chLive s c = true) ∧ (spareMay s c = false))
    ∧ (∃ (s : State) (c : Ch) (r : SpareReq), ((s.ras.spare.get c).st = .copying)
      ∧ ((s.ras.spare.get c).active = some r) ∧ (copyDone s (s.ras.spare.get c) = true) ∧ (s.ras.rpl.length < 256))
    ∧ ∃ (s : State) (c : Ch), (copyDone s (s.ras.spare.get c) = false) :=
  ⟨⟨(repairAsked), (false), (0), (5), (3), (9), (false), ([]), by decide +kernel⟩,
   ⟨(repairAsked), (0), (5), (3), (9), (false), ([]), by decide +kernel⟩,
   ⟨(updRas (fun a => { a with ppr := some { aRepair .quiet with buf := [] } }) mapped), (0),
     ({ aRepair .quiet with buf := [] }), by decide +kernel⟩,
   ⟨(updSched 0 (fun q => { q with pipe := [⟨.repair false, 5, 50⟩] }) (repair .waiting)), (0),
     (taken (encodeLine 5 77 false)), (⟨.repair false, 5, 50⟩), (aRepair .waiting),
     (decodeAt mapped 5 (encodeLine 5 77 false)), by decide +kernel⟩,
   ⟨(repair .waiting), (aRepair .waiting), by decide +kernel⟩,
   ⟨(setRefUnit 0 0 { aUnit with debt := 2 } (repair .waiting)), (aRepair .waiting), by decide +kernel⟩,
   ⟨(repair .mode), (aRepair .mode), by decide +kernel⟩,
   ⟨(repair .verify), (aRepair .verify), by decide +kernel⟩,
   ⟨(spareAsk 0 ⟨2, 0, 0, 0, 15, 0⟩ sparable), (0), (⟨2, 0, 0, 0, 15, 0⟩), ([]), by decide +kernel⟩,
   ⟨(spareAsk 0 ⟨2, 0, 0, 0, 15, 0⟩ mapped), (0), (⟨2, 0, 0, 0, 15, 0⟩), ([]), by decide +kernel⟩,
   ⟨(copying (2 ^ 60)), (0), (⟨2, 0, 0, 0, 15, 0⟩), by decide +kernel⟩,
   ⟨(copying 7), (0), by decide +kernel⟩⟩

theorem witness_RasRequestsAndDebug :
    (∃ (s : State) (v : Word), (confirms s 0x14020 v) ∧ (fld v 31 28 = 1) ∧ (reqBusy s = false)
      ∧ (regBit s 0x14000 4 = true) ∧ (lineUsable s (reqLla s) = true) ∧ (fld v 27 24 < devCount (isX8 s)))
    ∧ (∃ (s : State) (v : Word), (confirms s 0x14020 v) ∧ (fld v 31 28 = 1) ∧ (reqBusy s = false)
      ∧ (regBit s 0x14000 4 = false))
    ∧ (∃ (s : State) (v : Word), (confirms s 0x14020 v) ∧ (fld v 31 28 = 2) ∧ (reqBusy s = false)
      ∧ (csLive s (chN (fld v 23 23)) (fld v 22 21) = true) ∧ (fld v 22 21 < nCs s)
      ∧ (spareMay s (chN (fld v 23 23)) = true))
    ∧ (∃ (s : State) (v : Word) (x : Sc) (u : Nat), (confirms s 0x14020 v) ∧ (fld v 31 28 = 3) ∧ (reqBusy s = false)
      ∧ (x = scN (regFld s 0x14090 7 6)) ∧ (u = regFld s 0x14090 5 0) ∧ (u < nUnits s)
      ∧ (csLive s (chOf x) (u / max 1 (nLr s)) = true))
    ∧ (∃ (s : State) (v : Word), (confirms s 0x14020 v) ∧ (fld v 31 28 = 1) ∧ (reqBusy s = true))
    ∧ (∃ (s : State) (v : Word), (confirms s 0x14020 v) ∧ (fld v 31 28 = 2) ∧ (reqBusy s = true))
    ∧ (∃ (s : State) (v : Word), (confirms s 0x14020 v) ∧ (fld v 31 28 = 3) ∧ (reqBusy s = true))
    ∧ (∃ (s : State) (v : Word) (l : Lla), (confirms s 0x38000 v) ∧ (fld v 31 28 = 1) ∧ (s.ras.dbg = none)
      ∧ (l = BitVec.ofNat 38 (regGet64 s 0x38008)) ∧ (lineUsable s l = true) ∧ (readsZero s l = false))
    ∧ (∃ (s : State) (v : Word), (confirms s 0x38000 v) ∧ (fld v 31 28 = 2) ∧ (s.ras.dbg = none)
      ∧ (csLive s (chOf (scN (fld v 25 24))) (fld v 23 22) = true) ∧ (fld v 23 22 < nCs s) ∧ (fld v 21 18 < nLr s))
    ∧ (∃ (s : State) (d : Dbg) (g : RdTag), (s.ras.dbg = some d)
      ∧ ((s.sched.get d.sc).pipe.find? (fun r => r.origin.isDebug) = some g))
    ∧ ∃ (s : State) (d : Dbg), (s.ras.dbg = some d) ∧ (fld d.op 31 28 = 2) ∧ (mrrIssued s d.sc = true)
      ∧ (isX8 s = false) :=
  ⟨⟨(withPp 0x14020 0x13000000 (regSet 0x14000 0x10 mapped)), (0x13000000), by decide +kernel⟩,
   ⟨(withPp 0x14020 0x13000000 (regSet 0x14000 0 mapped)), (0x13000000), by decide +kernel⟩,
   ⟨(withPp 0x14020 0x20000000 sparable), (0x20000000), by decide +kernel⟩,
   ⟨(withPp 0x14020 0x30000000 (setUnit 0 0 ⟨Vector.replicate 10 7, 3, some 2⟩ mapped)), (0x30000000), (0),
     (0), by decide +kernel⟩,
   ⟨(withPp 0x14020 0x13000000 (regSet 0x14034 0x80000000 mapped)), (0x13000000), by decide +kernel⟩,
   ⟨(withPp 0x14020 0x23000000 (regSet 0x14034 0x80000000 mapped)), (0x23000000), by decide +kernel⟩,
   ⟨(withPp 0x14020 0x30000000 (regSet 0x14034 0x80000000 mapped)), (0x30000000), by decide +kernel⟩,
   ⟨(withPp 0x38000 0x10000000 mapped), (0x10000000), (0), by decide +kernel⟩,
   ⟨(withPp 0x38000 0x21000000 mapped), (0x21000000), by decide +kernel⟩,
   ⟨(debugging 0x10000000), (⟨0x10000000, 5⟩), (⟨.debug, 5, 50⟩), by decide +kernel⟩,
   ⟨(debugging 0x20000000), (⟨0x20000000, 5⟩), by decide +kernel⟩⟩

theorem witness_HeartbeatsAndJoining :
    (∃ (s : State), (s.mir.pair ≠ .disabled))
    ∧ (∃ (s : State), (s.mir.pair = .healthy ∨ s.mir.pair = .resilvering))
    ∧ (∃ (s : State), (s.mir.pair = .degraded))
    ∧ (∃ (s : State), (s.mir.pair = .disabled ∨ (s.mir.pair = .joining ∧ s.mir.alive = false)))
    ∧ (∃ (s : State) (g : Msg), (hears s (isTy tyHeartbeat) g) ∧ (olderMsg s g.words = false)
      ∧ ((g.words)[2].toNat + 2 ^ 32 * (g.words)[3].toNat = ownInv s)
      ∧ ((g.words)[4].toNat + 2 ^ 32 * (g.words)[5].toNat = ownPair s))
    ∧ (∃ (s : State) (g : Msg), (hears s (isTy tyHeartbeat) g) ∧ (olderMsg s g.words = false)
      ∧ ((g.words)[2].toNat + 2 ^ 32 * (g.words)[3].toNat ≠ ownInv s ∨ (g.words)[4].toNat + 2 ^ 32 * (g.words)[5].toNat ≠ ownPair s))
    ∧ (∃ (s : State) (g : Msg), (hears s (isTy tyHeartbeat) g) ∧ (olderMsg s g.words = true) ∧ (s.mir.unconf = none))
    ∧ (∃ (s : State) (g : Msg), (hears s (isTy tyStale) g) ∧ (olderMsg s g.words = false)
      ∧ (laterEpoch (BitVec.ofNat 8 (fld (g.words)[2] 15 8)) s.mir.epoch = true))
    ∧ (∃ (s : State), (s.mir.pair = .joining ∨ (s.mir.pair = .degraded ∧ s.mir.primary = false)))
    ∧ (∃ (s : State), (s.mir.pair = .joining) ∧ (regBit s 0x6000 29 = false))
    ∧ (∃ (s : State), (s.mir.pair = .joining) ∧ (regBit s 0x6000 29 = true)
      ∧ ((if s.mir.retained then s.mir.record.any Prod.snd else regBit s 0x6000 30) = true))
    ∧ (∃ (s : State) (g : Msg), (hears s (isSub 1) g) ∧ (s.mir.hold5 = false)
      ∧ ((g.words)[3].toNat + 2 ^ 32 * (g.words)[4].toNat = ownPair s) ∧ (s.mir.pair = .joining)
      ∧ (s.mir.exchange = none))
    ∧ (∃ (s : State) (g : Msg), (hears s (isSub 1) g) ∧ (s.mir.hold5 = false)
      ∧ ((g.words)[3].toNat + 2 ^ 32 * (g.words)[4].toNat = ownPair s) ∧ ((sidePeer g.words).joining = true)
      ∧ (s.mir.exchange ≠ none))
    ∧ ∃ (s : State) (g : Msg), (hears s (isSub 1) g) ∧ (s.mir.hold5 = false)
      ∧ ((g.words)[3].toNat + 2 ^ 32 * (g.words)[4].toNat = ownPair s) ∧ ((sidePeer g.words).joining = false)
      ∧ (mayResilver s (sidePeer g.words) (bitOf (g.words)[2] 12) = true) ∧ (s.mir.dirty ≠ 0) :=
  ⟨⟨(mirrored), by decide +kernel⟩,
   ⟨(mirrored), by decide +kernel⟩,
   ⟨(paired .degraded false), by decide +kernel⟩,
   ⟨(paired .joining false), by decide +kernel⟩,
   ⟨(heard 3 4 [] mirrored), (heardMsg 3 4 []), by decide +kernel⟩,
   ⟨(heard 3 4 [9] mirrored), (heardMsg 3 4 [9]), by decide +kernel⟩,
   ⟨(heard 3 3 [] mirrored), (heardMsg 3 3 []), by decide +kernel⟩,
   ⟨(heard 6 7 [0x700] mirrored), (heardMsg 6 7 [0x700]), by decide +kernel⟩,
   ⟨(paired .joining false), by decide +kernel⟩,
   ⟨(paired .joining false), by decide +kernel⟩,
   ⟨(regSet 0x6000 0xE0050000 (paired .joining false)), by decide +kernel⟩,
   ⟨(heard 8 0 [0x01003000] (regSet 0x6000 0xC0050000 (paired .joining false))),
     (heardMsg 8 0 [0x01003000]), by decide +kernel⟩,
   ⟨(heard 8 0 [0x01003000] (updMir (fun m => { m with exchange := some (4, false, true) }) (paired .degraded false))),
     (heardMsg 8 0 [0x01003000]), by decide +kernel⟩,
   ⟨(heard 8 0 [0x01041000] (dirtied (regSet 0x6004 0 (paired .degraded true)))),
     (heardMsg 8 0 [0x01041000]), by decide +kernel⟩⟩

theorem witness_RoleChangesAndResilver :
    (∃ (s : State) (r : RoleChg), (s.mir.role = some r) ∧ (r.sent = false) ∧ (s.mir.pair = .healthy)
      ∧ (s.reqs.any (fun q => q.mirrored && !q.op.isPeer && !q.inIngress && (!q.answered || q.peerOpen)) = false))
    ∧ (∃ (s : State) (r : RoleChg), (s.mir.role = some r) ∧ (r.sent = false) ∧ (s.mir.pair ≠ .healthy))
    ∧ (∃ (s : State) (r : RoleChg), (s.mir.role = some r) ∧ (r.sent = true) ∧ (s.mir.pair ≠ .disabled))
    ∧ (∃ (s : State) (g : Msg) (r : RoleChg), (hears s (isTy tyRole) g) ∧ (olderMsg s g.words = false)
      ∧ (bitOf (g.words)[2] 15 = true) ∧ (s.mir.role = some r) ∧ (r.sent = true)
      ∧ (BitVec.ofNat 8 (fld (g.words)[2] 23 16) = s.mir.epoch + 1))
    ∧ (∃ (s : State) (g : Msg) (e : BitVec 8), (hears s (isTy tyRole) g) ∧ (olderMsg s g.words = false)
      ∧ (bitOf (g.words)[2] 15 = false) ∧ (fld (g.words)[2] 9 0 = s.glb.ctlId.toNat)
      ∧ (e = BitVec.ofNat 8 (fld (g.words)[2] 23 16)) ∧ (laterEpoch e s.mir.epoch = true))
    ∧ (∃ (s : State) (g : Msg), (hears s (isSub 2) g) ∧ (olderMsg s g.words = false) ∧ (s.mir.pair = .degraded)
      ∧ (s.mir.primary = false))
    ∧ (∃ (s : State) (g : Msg), (hears s (isSub 3) g) ∧ (olderMsg s g.words = false) ∧ (s.mir.pair = .resilvering)
      ∧ (s.mir.primary = false))
    ∧ (∃ (s : State) (g : Msg) (id : Nat) (r : Req) (d : Nat) (n : Nat), (hears s (isSub 4) g) ∧ (s.glb.ctl ≠ .held)
      ∧ (g.reqId = some id) ∧ (findReq s id = some r) ∧ (r.answered = false) ∧ (r.written = false)
      ∧ (r.op.isWrite = true) ∧ (s.mir.hold5 = false) ∧ (olderMsg s g.words = false) ∧ (s.mir.primary = false)
      ∧ (s.mir.pair ≠ .joining) ∧ (fwd s (poisonAddr g.words) = .owned n true d))
    ∧ (∃ (s : State) (u : State) (x : Sc) (r : Req), (idsFresh s) ∧ (u = countDrainHolds x s)
      ∧ (bestReq u ((heads u x).filter (eligible u)) = some r) ∧ (scOf r.lla = x) ∧ (r.op = .peerMessage)
      ∧ (r.answered = true) ∧ (r.peerOpen = false) ∧ (rankLive u r.lla = true))
    ∧ (∃ (s : State) (g : Msg) (id : Nat) (r : Req), (hears s (isSub 4) g) ∧ (s.glb.ctl ≠ .held)
      ∧ (g.reqId = some id) ∧ (findReq s id = some r) ∧ (r.answered = false)
      ∧ (s.mir.hold5 = true ∨ olderMsg s g.words = true ∨ s.mir.primary = true ∨ s.mir.pair = .joining))
    ∧ (∃ (s : State) (x : Sc) (rx : Capture) (g : RdTag) (d : Decoded),
      ((s.sched.get x).pipe.find? (fun r => r.origin.isResilver) = some g) ∧ (d = g.decode s rx)
      ∧ (s.mir.pair = .resilvering) ∧ (d.outcome = .clean ∨ d.outcome = .corrected))
    ∧ (∃ (s : State) (x : Sc) (rx : Capture) (g : RdTag) (d : Decoded),
      ((s.sched.get x).pipe.find? (fun r => r.origin.isResilver) = some g) ∧ (d = g.decode s rx)
      ∧ (s.mir.pair = .resilvering) ∧ (d.outcome.lost = true))
    ∧ ∃ (s : State) (x : Sc) (rx : Capture) (g : RdTag),
      ((s.sched.get x).pipe.find? (fun r => r.origin.isResilver) = some g) ∧ (s.mir.pair = .resilvering)
      ∧ ((g.decode s rx).outcome = .poison) :=
  ⟨⟨(changing .healthy false), (⟨1, 0, false, 0⟩), by decide +kernel⟩,
   ⟨(changing .degraded false), (⟨1, 0, false, 0⟩), by decide +kernel⟩,
   ⟨(changing .healthy true), (⟨1, 0, true, 0⟩), by decide +kernel⟩,
   ⟨(heard 7 5 [0x01058003] (changing .healthy true)), (heardMsg 7 5 [0x01058003]),
     (⟨1, 0, true, 0⟩), by decide +kernel⟩,
   ⟨(heard 7 4 [0x01050003] mirrored), (heardMsg 7 4 [0x01050003]), (5), by decide +kernel⟩,
   ⟨(heard 8 4 [0x02000000] (paired .degraded false)), (heardMsg 8 4 [0x02000000]), by decide +kernel⟩,
   ⟨(heard 8 4 [0x03000000] (paired .resilvering false)), (heardMsg 8 4 [0x03000000]), by decide +kernel⟩,
   ⟨(poisoned), (poisonMsg), (0), (reqOf 0 0 .peerMessage 5 .ingress), (9), (0), by decide +kernel⟩,
   ⟨(withReqs [{ graded .peerMessage with answered := true }] 1 draining),
     (countDrainHolds 0 (withReqs [{ graded .peerMessage with answered := true }] 1 draining)), (0),
     ({ graded .peerMessage with answered := true }), ⟨by decide +kernel, rfl, by decide +kernel⟩⟩,
   ⟨({ poisoned with mir := { poisoned.mir with hold5 := true } }), (poisonMsg), (0),
     (reqOf 0 0 .peerMessage 5 .ingress), by decide +kernel⟩,
   ⟨(walking), (0), (taken (encodeLine 5 77 false)), (⟨.resilver, 5, 50⟩),
     (decodeAt walking 5 (encodeLine 5 77 false)), by decide +kernel⟩,
   ⟨(walking), (0), (taken (encodeLine 6 77 false)), (⟨.resilver, 5, 50⟩),
     (decodeAt walking 5 (encodeLine 6 77 false)), by decide +kernel⟩,
   ⟨(walking), (0), (taken (encodeLine 5 0 true)), (⟨.resilver, 5, 50⟩), by decide +kernel⟩⟩

theorem witness_MirrorOperations :
    (∃ (s : State) (v : Word), (confirms s 0x6020 v) ∧ (fld v 31 28 = 1) ∧ (s.mir.ctlBusy = false)
      ∧ (s.mir.primary = true) ∧ (s.mir.pair = .healthy) ∧ (s.mir.role = none))
    ∧ (∃ (s : State) (v : Word), (confirms s 0x6020 v) ∧ (fld v 31 28 = 1) ∧ (s.mir.ctlBusy = false)
      ∧ (s.mir.pair ≠ .disabled) ∧ (s.mir.primary = false))
    ∧ (∃ (s : State) (v : Word), (confirms s 0x6020 v) ∧ (fld v 31 28 = 2) ∧ (s.mir.ctlBusy = false)
      ∧ (s.mir.pair ≠ .disabled))
    ∧ (∃ (s : State) (v : Word), (confirms s 0x6020 v) ∧ (fld v 31 28 = 3) ∧ (s.mir.ctlBusy = false)
      ∧ (s.mir.pair ≠ .disabled))
    ∧ (∃ (s : State) (v : Word), (confirms s 0x6020 v) ∧ (fld v 31 28 = 4) ∧ (s.mir.ctlBusy = false)
      ∧ (s.mir.primary = false) ∧ ((s.mir.pair = .joining ∧ s.mir.joinLate = true) ∨ (s.mir.pair = .degraded
      ∧ beatsLost s = true)))
    ∧ (∃ (s : State) (v : Word), (confirms s 0x6020 v) ∧ (fld v 31 28 = 1) ∧ (s.mir.pair = .disabled))
    ∧ (∃ (s : State) (v : Word), (confirms s 0x6020 v) ∧ (fld v 31 28 = 1) ∧ (s.mir.ctlBusy = true)
      ∧ (s.mir.pair ≠ .disabled))
    ∧ (∃ (s : State) (v : Word), (confirms s 0x6020 v) ∧ (fld v 31 28 = 2) ∧ (s.mir.pair = .disabled))
    ∧ (∃ (s : State) (v : Word), (confirms s 0x6020 v) ∧ (fld v 31 28 = 2) ∧ (s.mir.ctlBusy = true)
      ∧ (s.mir.pair ≠ .disabled))
    ∧ (∃ (s : State) (v : Word), (confirms s 0x6020 v) ∧ (fld v 31 28 = 3) ∧ (s.mir.pair = .disabled))
    ∧ (∃ (s : State) (v : Word), (confirms s 0x6020 v) ∧ (fld v 31 28 = 3) ∧ (s.mir.ctlBusy = true)
      ∧ (s.mir.pair ≠ .disabled))
    ∧ (∃ (s : State) (v : Word), (confirms s 0x6020 v) ∧ (fld v 31 28 = 4) ∧ (s.mir.pair = .disabled))
    ∧ ∃ (s : State) (v : Word), (confirms s 0x6020 v) ∧ (fld v 31 28 = 4) ∧ (s.mir.ctlBusy = true)
      ∧ (s.mir.pair ≠ .disabled) :=
  ⟨⟨(withPp 0x6020 0x10000000 (paired .healthy true)), (0x10000000), by decide +kernel⟩,
   ⟨(withPp 0x6020 0x10000000 (paired .healthy false)), (0x10000000), by decide +kernel⟩,
   ⟨(withPp 0x6020 0x20000000 (paired .healthy true)), (0x20000000), by decide +kernel⟩,
   ⟨(withPp 0x6020 0x30000000 (paired .degraded true)), (0x30000000), by decide +kernel⟩,
   ⟨(withPp 0x6020 0x40000000 (updMir (fun m => { m with missedBeats := 3, alive := false }) (paired .degraded false))), (0x40000000), by decide +kernel⟩,
   ⟨(withPp 0x6020 0x10000000 mapped), (0x10000000), by decide +kernel⟩,
   ⟨(withPp 0x6020 0x10000000 (updMir (fun m => { m with ctlBusy := true }) (paired .healthy true))),
     (0x10000000), by decide +kernel⟩,
   ⟨(withPp 0x6020 0x20000000 mapped), (0x20000000), by decide +kernel⟩,
   ⟨(withPp 0x6020 0x20000000 (updMir (fun m => { m with ctlBusy := true }) (paired .healthy true))),
     (0x20000000), by decide +kernel⟩,
   ⟨(withPp 0x6020 0x30000000 mapped), (0x30000000), by decide +kernel⟩,
   ⟨(withPp 0x6020 0x30000000 (updMir (fun m => { m with ctlBusy := true }) (paired .healthy true))),
     (0x30000000), by decide +kernel⟩,
   ⟨(withPp 0x6020 0x40000000 mapped), (0x40000000), by decide +kernel⟩,
   ⟨(withPp 0x6020 0x40000000 (updMir (fun m => { m with ctlBusy := true }) (paired .healthy true))),
     (0x40000000), by decide +kernel⟩⟩

theorem witness_CensusRounds :
    (∃ (s : State) (d : Delivery), (censusOn s = true)
      ∧ (ownRank s = 0 ∨ withinPeriods s (2 + min (ownRank s) 8) s.dom.lowInitAt = false) ∧ (1 < domN s)
      ∧ (d = ⟨BitVec.ofNat 10 (succId s 0), tokenMsg s tyToken (succId s 0) (s.dom.round + 1).toNat
      ⟨(ownTags s).1, (ownTags s).2, ownStep s, ownStep s, 0, 0, s.glb.ctlId.toNat, 1, 0, false⟩, none, 0, false⟩))
    ∧ (∃ (s : State), (censusOn s = true) ∧ (ownRank s ≠ 0)
      ∧ (withinPeriods s (2 + min (ownRank s) 8) s.dom.lowInitAt = true))
    ∧ (∃ (s : State) (g : Msg) (k : Token), (s.dom.inbox.find? (fun m => isTy tyToken m.words) = some g)
      ∧ (k = foldIn s (tokenOf (payOf g.words)))
      ∧ ((tokenOf (payOf g.words)).init ≤ s.glb.ctlId.toNat ∨ withinPeriods s 2 s.dom.startedAt = false)
      ∧ (k.seen + k.skipped < domN s))
    ∧ (∃ (s : State) (g : Msg), (s.dom.inbox.find? (fun m => isTy tyToken m.words) = some g)
      ∧ (s.glb.ctlId.toNat < (tokenOf (payOf g.words)).init) ∧ (withinPeriods s 2 s.dom.startedAt = true))
    ∧ (∃ (s : State) (g : Msg) (k : Token), (s.dom.inbox.find? (fun m => isTy tyResult m.words) = some g)
      ∧ (k = tokenOf (payOf g.words)) ∧ (s.dom.res.any (fun r => decide (r.round.toNat = msgSeq g.words
      ∧ (tokenOf r.words).init = k.init)) = false))
    ∧ (∃ (s : State) (g : Msg), (s.dom.inbox.find? (fun m => isTy tyResult m.words) = some g)
      ∧ (s.dom.res.any (fun r => decide (r.round.toNat = msgSeq g.words
      ∧ (tokenOf r.words).init = (tokenOf (payOf g.words)).init)) = true))
    ∧ (∃ (s : State) (dst : BitVec 10) (d : Delivery),
      (s.dom.out.find? (fun d => d.dst = dst && d.tries.isNone) = some d))
    ∧ ∃ (s : State) (dst : BitVec 10) (d : Delivery) (k : Token),
      (s.dom.out.find? (fun d => d.dst = dst && d.tries.isNone) = some d) ∧ (d.result = false) ∧ (d.succ < 3)
      ∧ (k = tokenOf (payOf d.words)) ∧ (k.seen + (k.skipped + 1) < domN s) :=
  ⟨⟨(census),
    (⟨9, tokenMsg census tyToken 9 1 ⟨(ownTags census).1, (ownTags census).2, 0, 0, 0, 0, 3, 1, 0, false⟩, none, 0, false⟩), by decide +kernel⟩,
   ⟨(updDom (fun d => { d with lowInitAt := some 90 }) (regSet 0x5000 0x10000 (regSet 0x5004 0x50002 census))), by decide +kernel⟩,
   ⟨(heard 1 0 [1, 2, 0, 2, 0x200000] census), (heardMsg 1 0 [1, 2, 0, 2, 0x200000]),
     (foldIn census (tokenOf #v[1, 2, 0, 2, 0x200000])), by decide +kernel⟩,
   ⟨(updDom (fun d => { d with startedAt := some 90 }) (regSet 0x5000 0x10000 (heard 1 0 [1, 2, 0, 8, 0x200000] census))), (heardMsg 1 0 [1, 2, 0, 8, 0x200000]), by decide +kernel⟩,
   ⟨(heard 2 0 [1, 2, 0, 2, 0x200000] census), (heardMsg 2 0 [1, 2, 0, 2, 0x200000]),
     (tokenOf #v[1, 2, 0, 2, 0x200000]), by decide +kernel⟩,
   ⟨(updDom (fun d => { d with res := some ⟨#v[1, 2, 0, 2, 0x200000], 9, 0, 4⟩ }) (heard 2 0 [1, 2, 0, 2, 0x200000] census)), (heardMsg 2 0 [1, 2, 0, 2, 0x200000]), by decide +kernel⟩,
   ⟨(delivering), (9), (aDelivery), by decide +kernel⟩,
   ⟨(delivering), (9), (aDelivery), (tokenOf (payOf aDelivery.words)), by decide +kernel⟩⟩

theorem witness_ReloadsAndBroadcasts :
    (∃ (s : State) (v : Word), (confirms s 0x4020 v) ∧ (bitOf v 31 = true) ∧ (s.img.rl.st = .idle)
      ∧ (s.glb.ctl = .service))
    ∧ (∃ (s : State) (v : Word), (confirms s 0x4020 v) ∧ (bitOf v 31 = true) ∧ (s.img.rl.st = .idle)
      ∧ (s.glb.ctl ≠ .service))
    ∧ (∃ (s : State) (v : Word), (confirms s 0x4020 v) ∧ (bitOf v 31 = true) ∧ (s.img.rl.st ≠ .idle))
    ∧ (∃ (s : State) (g : Msg), (s.dom.inbox.find? (fun m => isTy tyReloadReq m.words) = some g)
      ∧ (fld (g.words)[2] 31 24 = 1) ∧ (s.img.rl.st = .idle) ∧ (s.glb.ctl = .service))
    ∧ (∃ (s : State) (g : Msg), (s.dom.inbox.find? (fun m => isTy tyReloadReq m.words) = some g)
      ∧ (fld (g.words)[2] 31 24 = 1) ∧ (s.img.rl.st = .idle) ∧ (s.glb.ctl ≠ .service))
    ∧ (∃ (s : State) (g : Msg), (s.dom.inbox.find? (fun m => isTy tyReloadReq m.words) = some g)
      ∧ (fld (g.words)[2] 31 24 = 1) ∧ (s.img.rl.st ≠ .idle) ∧ (BitVec.ofNat 10 (msgSrc g.words) ≠ s.glb.ctlId))
    ∧ (∃ (s : State) (g : Msg), (s.dom.inbox.find? (fun m => isTy tyReloadReq m.words) = some g)
      ∧ (fld (g.words)[2] 31 24 = 2) ∧ (s.img.rl.st ≠ .idle) ∧ (s.img.rl.bcast = true)
      ∧ (s.img.rl.withdrawing = false) ∧ (s.img.rl.id = BitVec.ofNat 8 (fld (g.words)[2] 23 16))
      ∧ (s.img.rl.initiator = BitVec.ofNat 10 (msgSrc g.words)))
    ∧ (∃ (s : State) (g : Msg), (s.dom.inbox.find? (fun m => isTy tyReloadReq m.words) = some g)
      ∧ (fld (g.words)[2] 31 24 = 2) ∧ (s.img.rl.st = .idle)
      ∧ (kfind s.img.appliedBy (msgSrc g.words % 1024) = some (BitVec.ofNat 8 (fld (g.words)[2] 23 16)))
      ∧ (s.glb.ctl = .service))
    ∧ (∃ (s : State) (g : Msg), (s.dom.inbox.find? (fun m => isTy tyReloadReq m.words) = some g)
      ∧ (fld (g.words)[2] 31 24 = 2) ∧ (s.img.rl.st = .idle)
      ∧ (kfind s.img.appliedBy (msgSrc g.words % 1024) ≠ some (BitVec.ofNat 8 (fld (g.words)[2] 23 16)))
      ∧ (BitVec.ofNat 10 (msgSrc g.words) ≠ s.glb.ctlId))
    ∧ (∃ (s : State) (j : State), (s.img.rl.st = .fetching) ∧ (s.img.rl.bcast = false)
      ∧ (s.img.rl.withdrawing = false) ∧ (fetchedAll s = true) ∧ (s.glb.ctl = .service)
      ∧ (j = countIgnored s.img.staging (updImg (fun i => { i with fetch := none }) (showVerify none s))))
    ∧ (∃ (s : State), (s.img.rl.st = .waitPoint) ∧ (s.img.rl.restart = false) ∧ (s.glb.ctl = .service)
      ∧ (s.qz.ph ≠ .boundary) ∧ (allAnswered s = true))
    ∧ (∃ (s : State), (s.img.rl.st = .waitPoint) ∧ (s.img.rl.restart = true) ∧ (s.glb.ctl = .service)
      ∧ (s.qz.ph ≠ .boundary) ∧ (allAnswered s = true) ∧ (glgStill s = true))
    ∧ (∃ (s : State), (s.img.rl.st = .restarting) ∧ (s.glb.ctl = .service) ∧ (s.qz.ph ≠ .boundary)
      ∧ (drained s = true) ∧ (repairing s = false))
    ∧ (∃ (s : State) (v : Word) (ts : List (BitVec 10)) (e : Nat), (confirms s 0x4034 v) ∧ (fld v 31 30 = 1)
      ∧ (e = (if bitOf v 29 then hdrFullFp s.img.staging else 0))
      ∧ (ts = ((members (image s)).filter (fun i => decide (regFld s 0x4030 9 0 ≤ i
      ∧ i ≤ regFld s 0x4030 25 16))).map (BitVec.ofNat 10)))
    ∧ (∃ (s : State) (v : Word), (confirms s 0x4034 v) ∧ (fld v 31 30 = 2))
    ∧ (∃ (s : State) (g : Msg) (u : BitVec 10) (ph : Fin 5),
      (s.dom.inbox.find? (fun m => isTy tyReloadAck m.words) = some g)
      ∧ (BitVec.ofNat 8 (fld (g.words)[2] 23 16) = s.img.bcastId) ∧ (u = BitVec.ofNat 10 (msgSrc g.words))
      ∧ (s.img.bcastTo.contains u = true) ∧ (fld (g.words)[2] 31 24 = (if ph.val < 3 then ph.val + 1 else 4))
      ∧ (ph ≠ 3))
    ∧ (∃ (s : State) (g : Msg), (s.dom.inbox.find? (fun m => isTy tyReloadAck m.words) = some g)
      ∧ (BitVec.ofNat 8 (fld (g.words)[2] 23 16) ≠ s.img.bcastId))
    ∧ (∃ (s : State) (dst : BitVec 10) (d : Delivery) (n : Nat),
      (s.dom.out.find? (fun d => d.dst = dst && d.tries.isSome) = some d) ∧ (d.tries = some (n + 1)))
    ∧ ∃ (s : State) (dst : BitVec 10) (d : Delivery),
      (s.dom.out.find? (fun d => d.dst = dst && d.tries.isSome) = some d) ∧ (d.tries = some 0)
      ∧ (s.img.bcastTo.contains dst = true) :=
  ⟨⟨(withPp 0x4020 0x80000005 mapped), (0x80000005), by decide +kernel⟩,
   ⟨(withPp 0x4020 0x80000005 (updGlb (fun g => { g with ctl := .gearChange }) mapped)),
     (0x80000005), by decide +kernel⟩,
   ⟨(withPp 0x4020 0x80000005 (reloading .fetching false)), (0x80000005), by decide +kernel⟩,
   ⟨(heard 4 0 [0x01070005] mapped), (heardMsg 4 0 [0x01070005]), by decide +kernel⟩,
   ⟨(updGlb (fun g => { g with ctl := .gearChange }) (heard 4 0 [0x01070005] mapped)),
     (heardMsg 4 0 [0x01070005]), by decide +kernel⟩,
   ⟨(heard 4 0 [0x01070005] (reloading .fetching false)), (heardMsg 4 0 [0x01070005]), by decide +kernel⟩,
   ⟨(updImg (fun i => { i with rl := { i.rl with bcast := true, id := 7, initiator := 5 } }) (heard 4 0 [0x02070000] (reloading .fetching false))), (heardMsg 4 0 [0x02070000]), by decide +kernel⟩,
   ⟨(updImg (fun i => { i with appliedBy := [(5, 7)] }) (heard 4 0 [0x02070000] mapped)),
     (heardMsg 4 0 [0x02070000]), by decide +kernel⟩,
   ⟨(heard 4 0 [0x02070000] mapped), (heardMsg 4 0 [0x02070000]), by decide +kernel⟩,
   ⟨(reloading .fetching false),
     (countIgnored [] (updImg (fun i => { i with fetch := none }) (showVerify none (reloading .fetching false)))), by decide +kernel⟩,
   ⟨(reloading .waitPoint false), by decide +kernel⟩,
   ⟨(stilled (reloading .waitPoint true)), by decide +kernel⟩,
   ⟨(reloading .restarting true), by decide +kernel⟩,
   ⟨(withPp 0x4034 0x40000005 mapped), (0x40000005), ([]), (0), by decide +kernel⟩,
   ⟨(withPp 0x4034 0x80000000 casting), (0x80000000), by decide +kernel⟩,
   ⟨(heard 5 0 [0x02070000] casting), (heardMsg 5 0 [0x02070000]), (5), (1), by decide +kernel⟩,
   ⟨(heard 5 0 [0x02080000] casting), (heardMsg 5 0 [0x02080000]), by decide +kernel⟩,
   ⟨(tried 2), (5), ({ aDelivery with dst := 5, tries := some 2 }), (1), by decide +kernel⟩,
   ⟨(tried 0), (5), ({ aDelivery with dst := 5, tries := some 0 }), by decide +kernel⟩⟩

theorem witness_GliogSubmission :
    (∃ (s : State) (i : InstId) (priv : Bool) (v : Word), (portOpen s (pageAcc i priv 0x0C v))
      ∧ (doorbellReason s i v = 0))
    ∧ (∃ (s : State) (i : InstId) (priv : Bool) (v : Word), (portOpen s (pageAcc i priv 0x0C v))
      ∧ (doorbellReason s i v ≠ 0))
    ∧ (∃ (s : State) (i : InstId) (priv : Bool) (w : Word) (k : Nat), (portOpen s (pageAcc i priv 0x08 w))
      ∧ (k = regFld s (rPage i 4) 4 0) ∧ (k < 16))
    ∧ (∃ (s : State) (i : InstId) (priv : Bool) (k : Nat), (portReady s = true) ∧ (s.img.applied = true)
      ∧ ((!isMgr i || priv) = true) ∧ (k = regFld s (rPage i 4) 4 0) ∧ (k < 16))
    ∧ (∃ (s : State) (i : InstId) (priv : Bool) (r : Vector Word 6) (rest : List (Vector Word 6)),
      (portReady s = true) ∧ (s.img.applied = true) ∧ ((!isMgr i || priv) = true) ∧ ((instOf s i).cpl = r :: rest))
    ∧ (∃ (s : State) (i : InstId) (priv : Bool), (portReady s = true) ∧ (s.img.applied = true)
      ∧ ((!isMgr i || priv) = true) ∧ ((instOf s i).cpl = []))
    ∧ (∃ (s : State) (k : Nat), (portReady s = true) ∧ (s.img.applied = true) ∧ (k = regFld s 0x30020 7 0)
      ∧ (k < 128))
    ∧ (∃ (s : State) (w : Word) (k : Nat), (portOpen s (winAcc true 0x30024 w)) ∧ (k = regFld s 0x30020 7 0)
      ∧ (k < 128))
    ∧ (∃ (s : State) (i : InstId) (priv : Bool) (v : Word) (j : Job), (portOpen s (pageAcc i priv 0x28 v))
      ∧ (bitOf v 0 = true) ∧ (bitOf v 1 = false) ∧ ((instOf s i).job = some j) ∧ (j.ended = false))
    ∧ ∃ (s : State) (i : InstId) (priv : Bool) (v : Word), (portOpen s (pageAcc i priv 0x28 v)) ∧ (bitOf v 0 = false)
      ∧ (bitOf v 1 = true) :=
  ⟨⟨(regSet (rPage 5 4) 16 (tenant id)), (5), (false), (0x00020010), by decide +kernel⟩,
   ⟨(tenant id), (5), (false), (0x00020010), by decide +kernel⟩,
   ⟨(tenant id), (5), (false), (77), (0), by decide +kernel⟩,
   ⟨(withImage (tenant id)), (5), (false), (0), by decide +kernel⟩,
   ⟨(withImage (tenant fun a => { a with cpl := [#v[1, 2, 3, 4, 5, 6]] })), (5), (false), (#v[1, 2, 3, 4, 5, 6]),
     ([]), by decide +kernel⟩,
   ⟨(withImage (tenant id)), (5), (false), by decide +kernel⟩,
   ⟨(withImage (tenant id)), (0), by decide +kernel⟩,
   ⟨(tenant id), (9), (0), by decide +kernel⟩,
   ⟨(jobbing (aJob 3 4)), (5), (false), (1), (aJob 3 4), by decide +kernel⟩,
   ⟨(tenant fun a => { a with queue := [aDesc 3 4, aDesc 2 1] }), (5), (false), (2), by decide +kernel⟩⟩

theorem witness_GliogJobs :
    (∃ (s : State) (i : InstId) (d : Desc), (glgRuns s = true) ∧ (glgHeld s = false) ∧ ((instOf s i).enabled = true)
      ∧ ((instOf s i).frozen = false) ∧ ((instOf s i).freezeReq = false) ∧ ((instOf s i).job = none)
      ∧ ((instOf s i).cpl.length < 4) ∧ ((instOf s i).chained = some d ∨ ((instOf s i).chained = none
      ∧ (instOf s i).queue.head? = some d ∧ d.dead = false)))
    ∧ (∃ (s : State) (i : InstId) (j : Job), (glgRuns s = true) ∧ ((instOf s i).frozen = false)
      ∧ ((instOf s i).freezeReq = false) ∧ ((instOf s i).job = some j) ∧ (j.verify = none) ∧ (j.ended = false)
      ∧ (j.slots = []) ∧ (granuleStart s i j = .skip))
    ∧ (∃ (s : State) (i : InstId) (j : Job) (k : Nat) (nm : Bool) (a : Nat), (glgRuns s = true)
      ∧ ((instOf s i).frozen = false) ∧ ((instOf s i).freezeReq = false) ∧ ((instOf s i).job = some j)
      ∧ (j.verify = none) ∧ (j.ended = false) ∧ (j.slots = []) ∧ (granuleStart s i j = .denied k nm a))
    ∧ (∃ (s : State) (i : InstId) (j : Job) (l : List GRead), (glgRuns s = true) ∧ ((instOf s i).frozen = false)
      ∧ ((instOf s i).job = some j) ∧ (j.verify = none) ∧ (j.ended = false) ∧ (gotAll j = some l)
      ∧ ((s.sched.toList.all fun q => !(q.maint.get 5).any (MntCmd.writesIn s (j.d.granLine j.cursor) (j.d.granLine j.cursor + 2 ^ j.d.gran))) = true) ∧ (j.d.op ≠ 4))
    ∧ (∃ (s : State) (x : Sc) (i : InstId) (j : Job) (g : GLine) (k : Nat), (glgNext s x i = some (j, g, k))
      ∧ (j.d.op = 2) ∧ (rankLive s g.lla = true) ∧ (g.mir = false))
    ∧ (∃ (s : State) (x : Sc) (rx : Capture) (v : RdTag) (i : InstId) (k : Nat) (b : Bool) (j : Job) (g : GLine),
      ((s.sched.get x).pipe.find? (fun r => r.origin.isRead) = some v) ∧ (v.origin = .gliog i k b)
      ∧ ((instOf s i).job = some j) ∧ (j.slots[k]? = some .read) ∧ (granuleLine s j k = some g)
      ∧ (j.d.op = 3 ∨ j.d.op = 4) ∧ ((v.decode s rx).outcome = .clean))
    ∧ (∃ (s : State) (i : InstId) (j : Job), ((instOf s i).job = some j) ∧ (j.ended = true) ∧ (j.wantsChain = false)
      ∧ (egpBusy s i = false) ∧ (dataSettled s j.d = true) ∧ ((instOf s i).cpl.length < 4))
    ∧ (∃ (s : State) (i : InstId) (j : Job), (glgRuns s = true) ∧ ((instOf s i).frozen = false)
      ∧ ((instOf s i).job = some j) ∧ (j.ended = false) ∧ (j.givenUp = false) ∧ (j.stop = none)
      ∧ (j.over = false ∨ j.slots ≠ []) ∧ (j.verify = none) ∧ (granuleLines s j ≠ [])
      ∧ ((granuleLines s j).all (fun g => !(chLive s (chOf (scOf g.lla)) && masked s (scOf g.lla) 5) && !(rankLive s g.lla && readWaits s g.lla)) = true) ∧ (granuleWaits s j (granuleLines s j) = []))
    ∧ ∃ (s : State) (i : InstId), ((instOf s i).freezeReq = true) ∧ ((instOf s i).frozen = false)
      ∧ (egpBusy s i = false) ∧ ((instOf s i).chained = none)
      ∧ ((match (instOf s i).job with | none => true | some j => !j.over && j.verify.isNone && j.slots.isEmpty && j.resBuf.isNone && j.stBuf.isNone && dataSettled s j.d) = true) :=
  ⟨⟨(tenant fun a => { a with queue := [aDesc 2 4] }), (5), (aDesc 2 4), by decide +kernel⟩,
   ⟨(jobbing (newJob mapped false (farDesc 2 4))), (5), (newJob mapped false (farDesc 2 4)), by decide +kernel⟩,
   ⟨(regSet 0x3080C 0xC0000000 (jobbing (aJob 2 4))), (5), (aJob 2 4), (3), (false), (0), by decide +kernel⟩,
   ⟨(jobbing (gotJob 2 4)), (5), (gotJob 2 4), ([⟨0, 0, false⟩]), by decide +kernel⟩,
   ⟨(jobbing (aJob 2 4)), (0), (5), (aJob 2 4), (⟨0, 0, false⟩), (0), by decide +kernel⟩,
   ⟨(updSched 0 (fun q => { q with pipe := [⟨.gliog 5 0 false, 0, 50⟩] }) (jobbing { aJob 3 4 with slots := [.read] })), (0), (taken (encodeLine 0 77 false)), (⟨.gliog 5 0 false, 0, 50⟩), (5), (0), (false), ({ aJob 3 4 with slots := [.read] }), (⟨0, 0, false⟩), by decide +kernel⟩,
   ⟨(jobbing { aJob 2 4 with ended := true, cursor := 4 }), (5),
     ({ aJob 2 4 with ended := true, cursor := 4 }), by decide +kernel⟩,
   ⟨(jobbing (aJob 2 4)), (5), (aJob 2 4), by decide +kernel⟩,
   ⟨(tenant fun a => { a with freezeReq := true }), (5), by decide +kernel⟩⟩

theorem witness_GliogManager :
    (∃ (s : State) (v : Word) (i : InstId), (confirms s 0x30010 v) ∧ (fld v 31 28 = 1) ∧ (mboxFor s v i)
      ∧ (isMgr i = false))
    ∧ (∃ (s : State) (v : Word) (i : InstId), (confirms s 0x30010 v) ∧ (fld v 31 28 = 2) ∧ (mboxFor s v i)
      ∧ (isMgr i = false))
    ∧ (∃ (s : State) (v : Word) (i : InstId), (confirms s 0x30010 v) ∧ (fld v 31 28 = 3) ∧ (mboxFor s v i))
    ∧ (∃ (s : State) (v : Word) (i : InstId), (confirms s 0x30010 v) ∧ (fld v 31 28 = 4) ∧ (mboxFor s v i)
      ∧ ((instOf s i).enabled = true) ∧ ((instOf s i).frozen = false))
    ∧ (∃ (s : State) (v : Word) (i : InstId), (confirms s 0x30010 v) ∧ (fld v 31 28 = 5) ∧ (mboxFor s v i))
    ∧ (∃ (s : State) (v : Word) (i : InstId), (confirms s 0x30010 v) ∧ (fld v 31 28 = 6) ∧ (mboxFor s v i)
      ∧ ((instOf s i).frozen = true))
    ∧ (∃ (s : State) (v : Word) (i : InstId), (confirms s 0x30010 v) ∧ (fld v 31 28 = 7) ∧ (mboxFor s v i)
      ∧ ((instOf s i).enabled = true) ∧ ((instOf s i).frozen = true) ∧ ((instOf s i).job = none)
      ∧ ((instOf s i).queue = []) ∧ ((instOf s i).cpl = []) ∧ (blobOk s.glg.window.toList = true))
    ∧ (∃ (s : State) (v : Word) (i : InstId), (confirms s 0x30010 v) ∧ (fld v 31 28 = 8) ∧ (mboxFor s v i))
    ∧ (∃ (s : State) (v : Word) (i : InstId) (c : Instr), (confirms s 0x30010 v)
      ∧ ((fld v 31 28, c) ∈ [(1, Instr.mboxAssign true (~~~v)), (2, .mboxUnassign true (~~~v)),
      (3, .mboxAbort true (~~~v)), (4, .mboxFreeze true (~~~v)), (5, .mboxThaw true (~~~v)),
      (6, .mboxSave true (~~~v)), (7, .mboxRestore true (~~~v)), (8, .mboxNotify true (~~~v))])
      ∧ (s.glg.mboxBusy = false) ∧ (i.val = fld v 6 0) ∧ (fld v 23 16 ≠ (instOf s i).epoch.toNat))
    ∧ (∃ (s : State) (v : Word), (confirms s 0x30030 v) ∧ (bitOf v 0 = true) ∧ (s.glg.swapPending = false))
    ∧ (∃ (s : State) (v : Word), (portOpen s (winAcc true 0x30050 v)) ∧ (bitOf v 0 = true))
    ∧ ∃ (s : State) (v : Word), (portOpen s (winAcc true 0x30050 v)) ∧ (bitOf v 1 = true) :=
  ⟨⟨(withPp 0x30010 0x10020005 (regSet 0x30008 77 (tenant id))), (0x10020005), (5), by decide +kernel⟩,
   ⟨(withPp 0x30010 0x20020005 (tenant id)), (0x20020005), (5), by decide +kernel⟩,
   ⟨(withPp 0x30010 0x30020005 (jobbing (aJob 2 4))), (0x30020005), (5), by decide +kernel⟩,
   ⟨(withPp 0x30010 0x40020005 (tenant id)), (0x40020005), (5), by decide +kernel⟩,
   ⟨(withPp 0x30010 0x50020005 (tenant fun a => { a with frozen := true })), (0x50020005), (5), by decide +kernel⟩,
   ⟨(withPp 0x30010 0x60020005 (tenant fun a => { a with frozen := true })), (0x60020005), (5), by decide +kernel⟩,
   ⟨(withPp 0x30010 0x70020005 blobbed), (0x70020005),
     (5), ⟨by decide +kernel, by decide +kernel, by decide +kernel, by decide +kernel, by decide +kernel, by decide +kernel, by decide +kernel, by decide +kernel, blob_ok⟩⟩,
   ⟨(withPp 0x30010 0x80020005 (regSet 0x30008 0x12345 (tenant id))), (0x80020005), (5), by decide +kernel⟩,
   ⟨(withPp 0x30010 0x60030005 (tenant fun a => { a with frozen := true })), (0x60030005), (5),
     (.mboxSave true (~~~0x60030005)), by decide +kernel⟩,
   ⟨(withPp 0x30030 1 (tenant id)), (1), by decide +kernel⟩,
   ⟨(regSet 0x30040 0x80000001 mapped), (1), by decide +kernel⟩,
   ⟨(regSet 0x3004C 0x80000001 mapped), (2), by decide +kernel⟩⟩

theorem witness_StepRunsTheFrontCommand :
    (∃ (s : State) (c : Instr) (rest : List Instr), (s.pending = c :: rest))
    ∧ (∃ (s : State), (s.pending = []) ∧ (s.glb.ctl ≠ .reset) ∧ (s.qz.req = true ∨ (s.qz.ph ≠ .paused
      ∧ s.qz.ph ≠ .ended)))
    ∧ (∃ (s : State), (s.pending = []) ∧ (s.glb.ctl ≠ .reset) ∧ (s.qz.req = false) ∧ (s.qz.ph = .ended))
    ∧ (∃ (s : State), (s.pending = []) ∧ (s.glb.ctl = .quiesced) ∧ (s.qz.req = false) ∧ (s.qz.ph = .paused)
      ∧ (s.qz.deep = true))
    ∧ (∃ (s : State), (s.pending = []) ∧ (s.glb.ctl ≠ .reset) ∧ (s.qz.req = false) ∧ (s.qz.ph = .paused)
      ∧ (s.glb.ctl = .quiesced → s.qz.deep = false))
    ∧ ∃ (s : State), (s.pending = []) ∧ (s.glb.ctl = .reset) :=
  ⟨⟨({ State.reset with pending := [.aonStartDone, .pfNFall] }), (.aonStartDone), ([.pfNFall]), by decide +kernel⟩,
   ⟨({ serving with qz := { serving.qz with req := true } }), by decide +kernel⟩,
   ⟨({ serving with qz := { serving.qz with ph := .ended, ack := true } }), by decide +kernel⟩,
   ⟨({ serving with glb := { serving.glb with ctl := .quiesced }, qz := { serving.qz with ph := .paused, ack := true, deep := true, paused := true } }), by decide +kernel⟩,
   ⟨({ serving with glb := { serving.glb with ctl := .quiesced }, qz := { serving.qz with ph := .paused, ack := true, paused := true } }), by decide +kernel⟩,
   ⟨(State.reset), by decide +kernel⟩⟩

theorem witness_AliasWriteElsewhere :
    ∃ (s : State) (a : RegAcc) (r : RegRow) (c : Instr), (portReady s = true) ∧ (a.allowed = true)
      ∧ (s.glb.ctl ≠ .dormant) ∧ (rowOf a.off = some r) ∧ (r.kind ≠ .rw) ∧ (a.alias_ ≠ 0)
      ∧ (c ∈ [Instr.registerWrite a, .sqWrite a, .ppWrite a, .indexWrite a]) :=
  ⟨(withPp 0x20 3 serving), (⟨false, true, BitVec.ofNat 18 (0x42010 / 4), 7⟩), ((rowOf 0x2010).getD (reg1 0 .ro 0 0)),
    (.sqWrite ⟨false, true, BitVec.ofNat 18 (0x42010 / 4), 7⟩), by decide +kernel⟩

theorem witness_QueueDataPorts :
    (∃ (s : State) (r : ChainRec) (w : Stage) (ws : List Stage) (rest : List ChainRec), (portReady s = true)
      ∧ (s.evt.chain = r :: rest) ∧ (r.words = w :: ws))
    ∧ (∃ (s : State), (portReady s = true) ∧ (s.evt.chain = []))
    ∧ (∃ (s : State) (w : Word) (ws : List Word), (portReady s = true) ∧ (s.img.applied = true)
      ∧ (s.dom.snap = w :: ws))
    ∧ (∃ (s : State), (portReady s = true) ∧ (s.img.applied = true) ∧ (s.dom.snap = []))
    ∧ (∃ (s : State) (i : InstId) (priv : Bool) (r : Vector Word 6) (rest : List (Vector Word 6)),
      (portReady s = true) ∧ (s.img.applied = true) ∧ ((!isMgr i || priv) = true) ∧ ((instOf s i).cpl = r :: rest))
    ∧ ∃ (s : State) (i : InstId) (priv : Bool), (portReady s = true) ∧ (s.img.applied = true)
      ∧ ((!isMgr i || priv) = true) ∧ ((instOf s i).cpl = []) :=
  ⟨⟨(chained [chainRec [.of 1, .of 2], chainRec [.of 3]]), (chainRec [.of 1, .of 2]), (.of 1), ([.of 2]),
    ([chainRec [.of 3]]), by decide +kernel⟩,
   ⟨(serving), by decide +kernel⟩,
   ⟨(withImage ({ serving with dom := { Dom.reset with snap := [3, 4] } })), (3), ([4]), by decide +kernel⟩,
   ⟨(withImage (serving)), by decide +kernel⟩,
   ⟨(withImage (tenant fun a => { a with cpl := [#v[1, 2, 3, 4, 5, 6]] })), (5), (false), (#v[1, 2, 3, 4, 5, 6]),
     ([]), by decide +kernel⟩,
   ⟨(withImage (tenant id)), (5), (false), by decide +kernel⟩⟩

theorem witness_RecordsAreRaised :
    (∃ (s : State) (sev : Fin 8), (sev.val < fld (regGet s 0x2000) 29 27))
    ∧ (∃ (s : State) (ty : Nat) (sev : Fin 8) (src : Nat) (payload : List Word),
      (fld (regGet s 0x2000) 29 27 ≤ sev.val) ∧ (s.evt.buf.length < 16) ∧ (s.raised = 0) ∧ (ty < 64) ∧ (src < 8)
      ∧ (payload.length ≤ 13))
    ∧ (∃ (s : State) (sev : Fin 8), (fld (regGet s 0x2000) 29 27 ≤ sev.val) ∧ (s.evt.buf.length = 16)
      ∧ (s.raised = 0))
    ∧ ∃ (s : State) (old : List Rec) (mine : List Rec) (r : Rec) (sev : Fin 8) (src : Nat),
      (fld (regGet s 0x2000) 29 27 ≤ sev.val) ∧ (s.evt.buf = old ++ mine ++ [r]) ∧ (s.evt.buf.length < 16)
      ∧ (s.raised = mine.length + 1) ∧ (∀ q ∈ mine, fld (q.words.headD 0) 18 16 ≤ src)
      ∧ (src < fld (r.words.headD 0) 18 16) :=
  ⟨⟨(regSet 0x2000 0x20000000 serving), (3), by decide +kernel⟩,
   ⟨(serving), (63), (4), (7), ([1, 2, 3, 4, 5, 6, 7, 8, 9, 10, 11, 12, 13]), by decide +kernel⟩,
   ⟨(buffered (List.replicate 16 ⟨[1, 2, 3], 0, none⟩)), (3), by decide +kernel⟩,
   ⟨({ buffered [⟨[1, 2, 3], 0, none⟩, ⟨[0x00010004, 2, 3], 0, none⟩, ⟨[0x00050007, 2, 3], 0, none⟩] with raised := 2 }), ([⟨[1, 2, 3], 0, none⟩]), ([⟨[0x00010004, 2, 3], 0, none⟩]), (⟨[0x00050007, 2, 3], 0, none⟩), (3), (1), by decide +kernel⟩⟩

theorem witness_FrameOfControlAndPower :
    ∃ (c : Instr) (p : Piece),
      (p ∈ [Piece.clock, .control, .halt, .castOnStep, .gear, .straps, .powerFail, .coreClock, .supply, .pll, .fuses, .ackLine,
      .channels, .slots, .training, .regions, .service, .pauseInput, .pause, .ranksPower, .wake, .throttle,
      .temperature, .bindOff]) ∧ (p ∉ mayChange c) :=
  ⟨(.refillTick), (.control), by decide +kernel⟩

theorem witness_FrameOfPortsAndQos :
    ∃ (c : Instr) (p : Piece),
      (p ∈ [Piece.ports, .requests, .numbers, .partitions, .virtualTime, .buckets, .wheel, .partitionTable, .panic, .rtpPeak,
      .creditRound, .egressQueue, .egressSlots]) ∧ (p ∉ mayChange c) :=
  ⟨(.thermalPoll), (.requests), by decide +kernel⟩

theorem witness_FrameOfDram :
    ∃ (c : Instr) (p : Piece),
      (p ∈ [Piece.scheduler, .alert, .refresh, .refreshRate, .rowCounters, .backoff, .rolling, .phy, .lifeline, .bootPoint,
      .gearChange, .shadow, .faultUnits, .errorLog, .scrub, .repair, .sparing, .debug, .scrubFetch])
        ∧ (p ∉ mayChange c) :=
  ⟨(.heartbeat), (.phy), by decide +kernel⟩

theorem witness_FrameOfPairDomainGliog :
    ∃ (c : Instr) (p : Piece),
      (p ∈ [Piece.pairRole, .pairState, .epoch, .peerKnown, .heartbeats, .dirty, .resilver, .roleChange, .pairRecord,
      .pairRequest, .lineLocks, .inbox, .sequence, .census, .snapshot, .outbox, .image, .fetch, .reload, .broadcast,
      .instances, .stateWindow, .ruleSets, .mailbox, .crcSets]) ∧ (p ∉ mayChange c) :=
  ⟨(.thermalPoll), (.epoch), by decide +kernel⟩

theorem witness_FrameOfRecordsAndRegisters :
    (∃ (c : Instr) (p : Piece), (p ∈ [Piece.records, .chain, .limits, .expiries, .protectedWrite, .queue])
      ∧ (p ∉ mayChange c))
    ∧ ∃ (c : Instr) (off : Nat), (Piece.regs (regGroup off) ∉ mayChange c) :=
  ⟨⟨(.refillTick), (.chain), by decide +kernel⟩,
   ⟨(.refillTick), (0x2000), by decide +kernel⟩⟩

theorem witness_RegisterWriteFrame :
    (∃ (a : RegAcc) (c : Instr), (c ∈ [Instr.registerWrite a, .sqWrite a, .ppWrite a, .indexWrite a])
      ∧ ((rowOf a.off).all (fun r => r.kind ∈ [RegKind.ro, .cfg, .live]) = true))
    ∧ (∃ (a : RegAcc) (c : Instr), (c ∈ [Instr.registerWrite a, .sqWrite a, .ppWrite a, .indexWrite a])
      ∧ ((rowOf a.off).any (fun r => r.kind ∈ [RegKind.rw, .wd, .sq]) = true)
      ∧ (a.off ∉ [0x20000, 0x20040, 0x12044, 0x30200, 0xA004, 0x8140]))
    ∧ ∃ (a : RegAcc) (c : Instr), (c ∈ [Instr.registerWrite a, .sqWrite a, .ppWrite a, .indexWrite a])
      ∧ (a.isPp = true) :=
  ⟨⟨(⟨false, true, BitVec.ofNat 18 (0x4000 / 4), 7⟩),
    (.registerWrite ⟨false, true, BitVec.ofNat 18 (0x4000 / 4), 7⟩), by decide +kernel⟩,
   ⟨(⟨false, true, BitVec.ofNat 18 (0x2010 / 4), 7⟩),
     (.sqWrite ⟨false, true, BitVec.ofNat 18 (0x2010 / 4), 7⟩), by decide +kernel⟩,
   ⟨(winAcc true 0x20 3), (.ppWrite (winAcc true 0x20 3)), by decide +kernel⟩⟩

theorem witness_ChainFitsItsStages :
    ∃ (s : State) (t : State), (chainUsed s.evt.chain ≤ 128) ∧ (step s = .next t) :=
  ⟨(State.reset), ({ State.reset with out := [], raised := 0 }), by decide +kernel, rfl⟩

theorem witness_RequestNumbersStayFresh :
    ∃ (s : State) (t : State), (idsFresh s) ∧ (step s = .next t) :=
  ⟨(State.reset), ({ State.reset with out := [], raised := 0 }), by decide +kernel, rfl⟩

theorem witness_ControllerStates :
    (∃ (s : State) (t : State), (step s = .next t))
    ∧ ∃ (s : State) (t : State), (step s = .next t) ∧ (s.glb.ctl ∈ [Ctl.bindOff, .held])
      ∧ (s.pending.head? ≠ some .aonRstAssert) :=
  ⟨⟨(State.reset), ({ State.reset with out := [], raised := 0 }), by rfl⟩,
   ⟨({ State.reset with glb := { Glb.reset with ctl := .held }, pending := [.aonStartDone] }),
     ({ State.reset with glb := { Glb.reset with ctl := .held } }), by rfl, by decide, by decide⟩⟩

theorem witness_TimeBase :
    ∃ (s : State) (t : State), (step s = .next t) :=
  ⟨(State.reset), ({ State.reset with out := [], raised := 0 }), by rfl⟩

end Sys2Proof.Tests
end

section
/-! SUPPORT. The table of requests and the outputs, of which a command that takes no request only loses the former and
adds to the latter. -/

namespace Sys2Proof.Machine

/-- `s` comes after `b`: no request has entered the table, and what was put out stays put out. -/
def Later (b s : State) : Prop :=
  (s.reqs.map Req.id).Sublist (b.reqs.map Req.id) ∧ s.nextId = b.nextId ∧ b.out <+: s.out

variable {b s t : State}

theorem later_refl (s : State) : Later s s := ⟨List.Sublist.refl _, rfl, List.prefix_refl _⟩

theorem Later.trans {u : State} (h : Later s t) (h' : Later t u) : Later s u :=
  ⟨h'.1.trans h.1, h'.2.1.trans h.2.1, h.2.2.trans h'.2.2⟩

/-- What changes neither the table, the next number nor the outputs. -/
theorem later_keeps
    (e : t.seen 0x1D9FFFFFFFFFFFFFFFFFFFFFFFFFFFFFFFFFFFFFFFFFF =
      s.seen 0x1D9FFFFFFFFFFFFFFFFFFFFFFFFFFFFFFFFFFFFFFFFFF)
    (h : Later b s) : Later b t := by
  have er : t.reqs = s.reqs := reqs_of_seen (seen_mono (by decide) e)
  have en : t.nextId = s.nextId := nextId_of_seen (seen_mono (by decide) e)
  have eo : t.out = s.out := out_of_seen (seen_mono (by decide) e)
  rwa [Later, er, en, eo]

theorem ite_later {c : Prop} [Decidable c] (hs : Later b s) (ht : Later b t) : Later b (if c then s else t) := by
  split
  · exact hs
  · exact ht

theorem onlyIf_later {c : Bool} {f : State → State} (hf : ∀ s, Later b s → Later b (f s)) (h : Later b s) :
    Later b (onlyIf c f s) := ite_later (hf s h) h

theorem forAll_later {α : Type} {l : List α} {f : α → State → State}
    (hf : ∀ a s, Later b s → Later b (f a s)) (h : Later b s) : Later b (forAll l f s) := by
  unfold forAll
  induction l generalizing s with
  | nil => exact h
  | cons a l ih => exact ih (hf a s h)

theorem foldl_later {α : Type} {l : List α} {f : State → α → State}
    (hf : ∀ s a, Later b s → Later b (f s a)) (h : Later b s) : Later b (l.foldl f s) := by
  induction l generalizing s with
  | nil => exact h
  | cons a l ih => exact ih (hf s a h)

theorem emit_later {o : Out} (h : Later b s) : Later b (emit o s) :=
  ⟨h.1, h.2.1, h.2.2.trans (List.prefix_append _ _)⟩

theorem updReq_later {id : Nat} {f : Req → Req} (hf : ∀ r, r.id = id → (f r).id = id) (h : Later b s) :
    Later b (updReq id f s) := by
  have e : (updReq id f s).reqs.map Req.id = s.reqs.map Req.id := by
    simp only [updReq, List.map_map]
    refine List.map_congr_left fun r _ => ?_
    simp only [Function.comp_apply]
    split
    · rename_i hid; rw [hf r hid, hid]
    · rfl
  exact ⟨e ▸ h.1, h.2⟩

theorem finish_later {id : Nat} (h : Later b s) : Later b (finish id s) := by
  unfold finish
  split
  · exact h
  · exact onlyIf_later (fun _ h => later_keeps (by simp) h) ⟨((List.filter_sublist).map _).trans h.1, h.2⟩

theorem regSet_later {off : Nat} {w : Word} (h : Later b s) : Later b (regSet off w s) := h

end Sys2Proof.Machine
end

section
/-! SUPPORT. Every operation that works on requests or puts something out comes `Later`. -/

namespace Sys2Proof.Machine

variable {B s t : State}

theorem respond_later {p : PortId} {tag : BitVec 10} {gen : BitVec 2} {st : Status} {data : Line}
    {src : BitVec 10} {xid : BitVec 16} {stale : Bool} {epoch : BitVec 8} (h : Later B s) :
    Later B (respond p tag gen st data src xid stale epoch s) := by
  unfold respond
  dsimp only
  split
  · exact later_keeps (bump_keeps _ _ (by simp)) (emit_later h)
  · exact later_keeps (bump_keeps _ _ (by simp)) (emit_later h)
  · exact emit_later h

theorem writtenToDram_later {id : Nat} (h : Later B s) : Later B (writtenToDram id s) := by
  unfold writtenToDram
  split
  · exact h
  · exact ite_later (finish_later h) (ite_later h (later_keeps (dropInflight_keeps (by decide) _ _ _)
      (updReq_later (fun _ e => e) h)))

theorem answer1_later {id : Nat} {st : Status} {data : Line} {stale : Bool} {epoch : BitVec 8} (h : Later B s) :
    Later B (answer1 id st data stale epoch s) := by
  unfold answer1
  dsimp only
  split
  · exact h
  · exact ite_later h (ite_later (updReq_later (fun _ e => e) (respond_later h)) (finish_later
      (respond_later h)))

theorem barriers_later (h : Later B s) : Later B (barriers s) := by
  unfold barriers
  exact forAll_later (fun _ s h2 => ite_later (answer1_later h2) h2) h

theorem answerX_later {id : Nat} {st : Status} {data : Line} {stale : Bool} {epoch : BitVec 8} (h : Later B s) :
    Later B (answerX id st data stale epoch s) := by
  unfold answerX
  exact barriers_later (answer1_later h)

theorem answer_later {id : Nat} {st : Status} {data : Line} (h : Later B s) :
    Later B (answer id st data s) := by
  unfold answer
  split
  · exact h
  · exact answerX_later h

theorem failReq_later {id : Nat} (h : Later B s) : Later B (failReq id s) := by
  unfold failReq
  exact finish_later (answer_later h)

theorem respOk_later {d : Word} (h : Later B s) : Later B (respOk d s) := by
  unfold respOk
  exact emit_later h

theorem dropDeferred_later (h : Later B s) : Later B (dropDeferred s) := by
  unfold dropDeferred
  exact foldl_later (fun s _ h2 => respOk_later h2) (later_keeps (by simp) h)

theorem enterTier_later {r : Req} {t : Option (Fin 5)} (h : Later B s) : Later B (enterTier r t s) := by
  unfold enterTier
  dsimp only
  split
  · exact h
  · split
    · exact updReq_later (fun _ e => e) h
    · exact updReq_later (fun _ e => e) (later_keeps (by simp) h)

theorem colourHead_later {r : Req} (h : Later B s) : Later B (colourHead r s) := by
  unfold colourHead
  dsimp only
  exact enterTier_later (updReq_later (fun _ e => e) (later_keeps (by simp) h))

theorem colourHeads_later (h : Later B s) : Later B (colourHeads s) := by
  unfold colourHeads
  exact forAll_later (fun _ s h2 => colourHead_later h2) (later_keeps (by simp) h)

theorem panicUpdate_later (h : Later B s) : Later B (panicUpdate s) := by
  unfold panicUpdate
  dsimp only
  exact ite_later (ite_later (colourHeads_later (later_keeps (by simp) h)) (later_keeps (by simp) h))
    (ite_later (later_keeps (by simp) h) (later_keeps (by simp) h))

theorem ingressLeft_later (h : Later B s) : Later B (ingressLeft s) := by
  unfold ingressLeft
  exact panicUpdate_later (colourHeads_later h)

theorem chargePart_later {q : Req} (h : Later B s) : Later B (chargePart q s) := by
  unfold chargePart
  exact ite_later h (later_keeps (sqSet_keeps _ _ _ (by simp)) (later_keeps (bump_keeps _ _ (by simp))
    (updReq_later (fun _ e => e) h)))

theorem answerSettled_later {id : Nat} (h : Later B s) : Later B (answerSettled id s) := by
  unfold answerSettled
  exact onlyIf_later (fun _ h2 => finish_later h2) (answer_later h)

theorem dirtyRelease_later (h : Later B s) : Later B (dirtyRelease s) := by
  unfold dirtyRelease
  exact forAll_later (fun _ s h2 => answerSettled_later (updReq_later (fun _ e => e) h2)) h

theorem pumpCopy_later (h : Later B s) : Later B (pumpCopy s) := by
  unfold pumpCopy
  exact later_keeps (recordRelease_keeps (by decide) _) (dirtyRelease_later (forAll_later
    (fun _ s h2 => later_keeps (by simp) h2) (forAll_later (fun _ s h2 => later_keeps (by simp) h2) h)))

theorem copyWrite_later {k : Nat} (h : Later B s) : Later B (copyWrite k s) := by
  unfold copyWrite
  exact pumpCopy_later (later_keeps (by simp) h)

theorem setDirty_later {r : Nat} (h : Later B s) : Later B (setDirty r s) := by
  unfold setDirty
  exact ite_later h (copyWrite_later (later_keeps (by simp) h))

theorem writeRecords_later (h : Later B s) : Later B (writeRecords s) := by
  unfold writeRecords
  exact forAll_later (fun _ s h2 => ite_later (copyWrite_later h2) h2) h

theorem settle_later {id : Nat} (h : Later B s) : Later B (settle id s) := by
  unfold settle
  dsimp only
  split
  · exact h
  · split
    · exact answerSettled_later h
    · exact ite_later (updReq_later (fun _ e => e) (setDirty_later h)) (answerSettled_later (setDirty_later h))
    · exact later_keeps (reqRole_keeps (by decide) _ _) (finish_later (answer_later h))
    · exact finish_later (answer_later h)
    · exact h

theorem settleLocal_later {id : Nat} {c : Commit} (h : Later B s) : Later B (settleLocal id c s) := by
  unfold settleLocal
  exact settle_later (updReq_later (fun _ e => e) h)

theorem settlePeer_later {id : Nat} {c : Commit} (h : Later B s) : Later B (settlePeer id c s) := by
  unfold settlePeer
  exact forAll_later (fun _ s h2 => settle_later (updReq_later (fun _ e => e) h2)) h

theorem glgUnmirrored_later {w : InstId × Byte × Lla} (h : Later B s) : Later B (glgUnmirrored w s) := by
  unfold glgUnmirrored
  exact ite_later (setDirty_later h) (later_keeps (by simp) h)

theorem settleOpen_later (h : Later B s) : Later B (settleOpen s) := by
  unfold settleOpen
  exact forAll_later (fun _ s h2 => settlePeer_later h2) h

theorem dropForwards_later (h : Later B s) : Later B (dropForwards s) := by
  unfold dropForwards
  dsimp only
  exact forAll_later (fun _ s h2 => glgUnmirrored_later h2) (forAll_later (fun _ s h2 => settlePeer_later h2)
    (later_keeps (by simp) h))

theorem degrade_later {cause : Nat} {tok : Nat} (h : Later B s) : Later B (degrade cause tok s) := by
  unfold degrade
  dsimp only
  exact ite_later h (ite_later (onlyIf_later (fun _ h2 => later_keeps (by simp) h2) (later_keeps (by simp) h))
    (later_keeps (mirRecord_keeps (by decide) _ _ _ _ _ _) (dropForwards_later (later_keeps (by simp) h))))

theorem forward_later {id : Nat} {data : Line} {poison : Bool} (h : Later B s) :
    Later B (forward id data poison s) := by
  unfold forward
  split
  · exact h
  · exact ite_later (ite_later (later_keeps (by simp) h) (later_keeps (by simp) h)) (settlePeer_later h)

theorem heldNotOwned_later (h : Later B s) : Later B (heldNotOwned s) := by
  unfold heldNotOwned
  exact ingressLeft_later (forAll_later (fun _ s h2 => finish_later (answer_later h2)) h)

theorem learnEpoch_later {e : BitVec 8} (h : Later B s) : Later B (learnEpoch e s) := by
  unfold learnEpoch
  dsimp only
  exact ite_later (heldNotOwned_later (later_keeps (roleRecord_keeps (by decide) _ _ _) (degrade_later
    (later_keeps (updMir_keeps _ _ (by simp)) (later_keeps (roleOff_keeps (by decide) _)
    (settleOpen_later h)))))) h

theorem answerForwarded_later {x : Sc} {id : Nat} {line : Line} {poison : Bool} (h : Later B s) :
    Later B (answerForwarded x id line poison s) := by
  unfold answerForwarded
  exact answer_later (later_keeps (by simp) h)

theorem answerWaiting_later {x : Sc} {wr : Nat} {line : Line} {poison : Bool} (h : Later B s) :
    Later B (answerWaiting x wr line poison s) := by
  unfold answerWaiting
  exact forAll_later (fun _ s h2 => answerForwarded_later h2) h

theorem forwardEntry_later {x : Sc} {id : Nat} {line : Line} {poison : Bool} (h : Later B s) :
    Later B (forwardEntry x id line poison s) := by
  unfold forwardEntry
  split
  · exact h
  · exact ite_later (later_keeps (markForwarded_keeps (by decide) _ _ _) (forward_later h)) h

theorem supersede1_later {x : Sc} {keep : Nat} {e : WrEnt} (h : Later B s) :
    Later B (supersede1 x keep e s) := by
  unfold supersede1
  dsimp only
  split
  · exact writtenToDram_later (later_keeps (by simp) h)
  · exact ite_later (ite_later (updReq_later (fun _ e => e) (writtenToDram_later (later_keeps (by simp) h)))
      (settlePeer_later (writtenToDram_later (later_keeps (by simp) h)))) (writtenToDram_later
      (later_keeps (by simp) h))

theorem supersede_later {x : Sc} {l : Lla} {keep : Nat} (h : Later B s) : Later B (supersede x l keep s) := by
  unfold supersede
  exact forAll_later (fun _ s h2 => supersede1_later h2) h

theorem writeAccepted_later {r : Req} (h : Later B s) : Later B (writeAccepted r s) := by
  unfold writeAccepted
  exact ite_later (finish_later h) (ite_later (settleLocal_later (updReq_later (fun _ e => e) h))
    (answer_later (updReq_later (fun _ e => e) h)))

theorem mergeDone_later {fuel : Nat} {x : Sc} {id : Nat} {base : Line} {poison : Bool} (h : Later B s) :
    Later B (mergeDone fuel x id base poison s) := by
  induction fuel generalizing id base poison s with
  | zero => exact h
  | succ n ih =>
    unfold mergeDone
    dsimp only
    split
    · exact h
    · have h2 := fun (line : Line) (s : State) (h : Later B s) =>
        answerWaiting_later (x := x) (wr := id) (line := line) (poison := poison)
          (forwardEntry_later (x := x) (id := id) (line := line) (poison := poison) h)
      split
      · exact h2 _ _ (onlyIf_later (fun _ h => later_keeps (by simp) h) (later_keeps (by simp) h))
      · refine ih (onlyIf_later (fun _ h => supersede1_later h) (onlyIf_later
          (fun _ h => later_keeps (by simp) h) ?_))
        exact h2 _ _ (onlyIf_later (fun _ h => later_keeps (by simp) h) (later_keeps (by simp) h))

theorem merged_later {x : Sc} {id : Nat} {base : Line} {poison : Bool} (h : Later B s) :
    Later B (merged x id base poison s) := by
  unfold merged
  exact mergeDone_later h

theorem writeEnter_later {urgent : Bool} {r : Req} (h : Later B s) : Later B (writeEnter urgent r s) := by
  unfold writeEnter
  dsimp only
  split
  · exact later_keeps (schPeak_keeps (by decide) _ _) (forwardEntry_later (supersede_later (forAll_later
      (fun _ s h2 => answerWaiting_later h2) (writeAccepted_later (later_keeps (by simp) h)))))
  · split
    · exact later_keeps (schPeak_keeps (by decide) _ _) (writeAccepted_later (later_keeps (by simp) h))
    · exact later_keeps (schPeak_keeps (by decide) _ _) (ite_later (merged_later (onlyIf_later
        (fun _ h2 => supersede1_later h2) (onlyIf_later (fun _ h2 => later_keeps (by simp) h2)
        (writeAccepted_later (later_keeps (by simp) h))))) (writeAccepted_later (later_keeps (by simp) h)))

theorem readEnter_later {urgent : Bool} {r : Req} (h : Later B s) : Later B (readEnter urgent r s) := by
  unfold readEnter
  dsimp only
  split
  · exact ite_later (answerForwarded_later h) (later_keeps (schPeak_keeps (by decide) _ _) (later_keeps
      (updSched_keeps (by decide) _ _ _) (updReq_later (fun _ e => e) h)))
  · split
    · exact answerForwarded_later h
    · exact later_keeps (schPeak_keeps (by decide) _ _) (later_keeps (updSched_keeps (by decide) _ _ _)
        (updReq_later (fun _ e => e) h))

theorem readDead_later {r : Req} (h : Later B s) : Later B (readDead r s) := by
  unfold readDead
  exact ite_later (later_keeps (egpAsk_keeps (by decide) _ _) (updReq_later (fun _ e => e) h)) (failReq_later h)

theorem writeDead_later {r : Req} (h : Later B s) : Later B (writeDead r s) := by
  unfold writeDead
  exact ite_later (finish_later h) (ite_later (ite_later (settlePeer_later (updReq_later (fun _ e => e) h))
    (ite_later (forward_later (updReq_later (fun _ e => e) h)) (later_keeps (egpAsk_keeps (by decide) _ _)
    (updReq_later (fun _ e => e) h)))) (failReq_later h))

theorem leaveIngress_later {urgent : Bool} {r : Req} (h : Later B s) : Later B (leaveIngress urgent r s) := by
  unfold leaveIngress
  exact ite_later (finish_later (answer_later h)) (ite_later (ite_later (writeEnter_later h)
    (writeDead_later h)) (ite_later (readEnter_later h) (readDead_later h)))

theorem busPins_later {x : Sc} {t : Nat} {pins : List Cmd} {c : Cmd} {cap : Bool} {ledger : Bool}
    (h : Later B s) : Later B (busPins x t pins c cap ledger s) := by
  unfold busPins
  dsimp only
  exact ite_later (later_keeps (actCounted_keeps (by decide) _ _ _ _) (later_keeps
    (updRef_keeps _ _ (by simp)) (later_keeps (countCmd_keeps (by decide) _ _ _ _) (later_keeps
    (updSched_keeps (by decide) _ _ _) (forAll_later (fun _ s h2 => emit_later h2) h))))) (later_keeps
    (countCmd_keeps (by decide) _ _ _ _) (later_keeps (updSched_keeps (by decide) _ _ _) (forAll_later
    (fun _ s h2 => emit_later h2) h)))

theorem busCmd_later {x : Sc} {t : Nat} {c : Cmd} {cap : Bool} {ledger : Bool} (h : Later B s) :
    Later B (busCmd x t c cap ledger s) := by
  unfold busCmd
  exact busPins_later h

theorem twinPre_later {x : Sc} {t : Nat} {c : Cmd} {due : Bool} (h : Later B s) :
    Later B (twinPre x t c due s) := by
  unfold twinPre
  exact ite_later (forAll_later (fun _ s h2 => busPins_later h2) h) h

theorem writeBurst_later {x : Sc} {t : Nat} {c : Cmd} {src : WrSrc} {l : Lla} {d : Line} {poison : Bool}
    (h : Later B s) : Later B (writeBurst x t c src l d poison s) := by
  unfold writeBurst
  exact emit_later (later_keeps (by simp) h)

theorem serveMaint_later {x : Sc} {t : Nat} {g : Fin 7} {c : Cmd} (h : Later B s) :
    Later B (serveMaint x t g c s) := by
  unfold serveMaint
  dsimp only
  split
  · exact later_keeps (by simp) h
  · split
    · exact later_keeps (by simp) h
    · exact onlyIf_later (fun _ h2 => later_keeps (by simp) h2) (onlyIf_later
        (fun _ h2 => later_keeps (by simp) h2) (writeBurst_later (later_keeps (by simp) h)))
    · exact later_keeps (copied_keeps (by decide) _ _) (later_keeps (unlockLine_keeps (by decide) _ _ _)
        (writeBurst_later (later_keeps (by simp) h)))
    · exact writeBurst_later (later_keeps (by simp) h)
    · exact later_keeps (by simp) h
    · exact ite_later (later_keeps (by simp) h) (later_keeps (by simp) h)
    · exact ite_later (later_keeps (by simp) h) (later_keeps (by simp) h)
    · exact later_keeps (by simp) h
    · exact later_keeps (by simp) h
    · exact later_keeps (by simp) h
    · exact ite_later (later_keeps (by simp) h) (later_keeps (by simp) h)
    · exact later_keeps (by simp) h

theorem serveHost_later {x : Sc} {t : Nat} {c : Cand} (h : Later B s) : Later B (serveHost x t c s) := by
  unfold serveHost
  dsimp only
  split
  · split
    · exact h
    · exact later_keeps (by simp) h
  · split
    · exact h
    · exact later_keeps (by simp) h
  · split
    · exact h
    · exact later_keeps (boCount_keeps (by decide) _ _) (writeBurst_later (later_keeps (by simp) h))
  · split
    · exact h
    · exact pumpCopy_later (later_keeps (boCount_keeps (by decide) _ _) (writeBurst_later
        (later_keeps (by simp) h)))
  · exact h

theorem issue_later {x : Sc} {t0 : Nat} {c : Cand} (h : Later B s) : Later B (issue x t0 c s) := by
  unfold issue
  dsimp only
  split
  · exact serveMaint_later (twinPre_later (busCmd_later (later_keeps (by simp) h)))
  · exact serveHost_later (twinPre_later (busCmd_later (later_keeps (by simp) h)))

theorem issueOne_later {x : Sc} {t0 : Nat} (h : Later B s) : Later B (issueOne x t0 s) := by
  unfold issueOne
  split
  · exact issue_later h
  · exact h

theorem replayWrite_later {x : Sc} {t : Nat} {c : Cmd} {later : List Cmd} (h : Later B s) :
    Later B (replayWrite x t c later s) := by
  unfold replayWrite
  dsimp only
  split
  · exact h
  · exact emit_later (later_keeps (by simp) h)

theorem replayOne_later {x : Sc} {t0 : Nat} (h : Later B s) : Later B (replayOne x t0 s) := by
  unfold replayOne
  dsimp only
  split
  · split
    · exact later_keeps (by simp) h
    · split
      · exact later_keeps (by simp) h
      · split
        · exact later_keeps (by simp) h
        · split
          · exact later_keeps (by simp) h
          · split
            · split
              · exact replayWrite_later (later_keeps (updSched_keeps (by decide) _ _ _) (twinPre_later
                  (busCmd_later (later_keeps (by simp) h))))
              · exact later_keeps (replayRead_keeps (by decide) _ _ _ _) (later_keeps
                  (updSched_keeps (by decide) _ _ _) (twinPre_later (busCmd_later (later_keeps (by simp) h))))
              · exact onlyIf_later (fun _ h2 => later_keeps (by simp) h2) (later_keeps
                  (updSched_keeps (by decide) _ _ _) (twinPre_later (busCmd_later (later_keeps (by simp) h))))
              · exact onlyIf_later (fun _ h2 => later_keeps (by simp) h2) (later_keeps
                  (updSched_keeps (by decide) _ _ _) (twinPre_later (busCmd_later (later_keeps (by simp) h))))
              · exact later_keeps (updSched_keeps (by decide) _ _ _) (twinPre_later (busCmd_later
                  (later_keeps (by simp) h)))
            · exact twinPre_later (busCmd_later (later_keeps (by simp) h))
  · exact h

theorem toRanks_later {x : Sc} {k : CmdKind} {lrs : Bool} {arg : CmdArg} (h : Later B s) :
    Later B (toRanks x k lrs s arg) := by
  unfold toRanks
  exact forAll_later (fun _ s h2 => forAll_later (fun _ s h3 => busCmd_later h3) h2) h

theorem powerUp_later {x : Sc} (h : Later B s) : Later B (powerUp x s) := by
  unfold powerUp
  exact ite_later (later_keeps (setMask_keeps (by decide) _ _ _) (later_keeps (updPwr_keeps _ _ (by simp))
    (toRanks_later h))) h

theorem schedulerCc_later {x : Sc} (h : Later B s) : Later B (schedulerCc x s) := by
  unfold schedulerCc
  dsimp only
  split
  · exact onlyIf_later (fun _ h2 => powerUp_later h2) (later_keeps (by simp) h)
  · split
    · exact ite_later (onlyIf_later (fun _ h2 => later_keeps (by simp) h2) (later_keeps
        (updSched_keeps (by decide) _ _ _) (onlyIf_later (fun _ h2 => powerUp_later h2)
        (later_keeps (by simp) h)))) (issueOne_later (later_keeps (offerHead_keeps (by decide) _ _)
        (issueOne_later (later_keeps (countGated_keeps (by decide) _ _ _ _) (later_keeps
        (noteHolds_keeps (by decide) _ _) (later_keeps (modeUpdate_keeps (by decide) _ _) (later_keeps
        (ageAll_keeps (by decide) _ _ _) (later_keeps (offerHead_keeps (by decide) _ _) (onlyIf_later
        (fun _ h2 => later_keeps (by simp) h2) (later_keeps (updSched_keeps (by decide) _ _ _) (onlyIf_later
        (fun _ h2 => powerUp_later h2) (later_keeps (by simp) h))))))))))))
    · exact replayOne_later (replayOne_later (onlyIf_later (fun _ h2 => later_keeps (by simp) h2) (later_keeps
        (updSched_keeps (by decide) _ _ _) (onlyIf_later (fun _ h2 => powerUp_later h2)
        (later_keeps (by simp) h)))))

theorem writeBurstDone_later {x : Sc} (h : Later B s) : Later B (writeBurstDone x s) := by
  unfold writeBurstDone
  dsimp only
  split
  · exact h
  · split
    · exact writtenToDram_later (later_keeps (by simp) h)
    · exact later_keeps (by simp) h

theorem settleRead_later {x : Sc} {id : Nat} {l : Lla} {d : Decoded} (h : Later B s) :
    Later B (settleRead x id l d s) := by
  unfold settleRead
  dsimp only
  split
  · exact later_keeps (by simp) h
  · exact answer_later (later_keeps (by simp) h)

theorem hostRead_later {x : Sc} {t : RdTag} {id : Nat} {rx : Capture} (h : Later B s) :
    Later B (hostRead x t id rx s) := by
  unfold hostRead
  dsimp only
  exact ite_later (later_keeps (by simp) h) (settleRead_later (later_keeps (by simp) h))

theorem mergeBase_later {x : Sc} {id : Nat} {l : Lla} {d : Decoded} (h : Later B s) :
    Later B (mergeBase x id l d s) := by
  unfold mergeBase
  exact merged_later (later_keeps (by simp) h)

theorem takeTag_later {x : Sc} {f : Origin → Bool} {g : RdTag} (e : takeTag x f s = some (g, t)) (h : Later B s) :
    Later B t :=
  later_keeps (takeTag_keeps (by decide) e) h

theorem mergeReadDecode_later {x : Sc} {rx : Capture} (h : Later B s) : Later B (mergeReadDecode x rx s) := by
  unfold mergeReadDecode
  split
  · exact h
  · have h' := takeTag_later ‹_› h
    split
    · dsimp only
      split
      · exact mergeBase_later (onlyIf_later (fun _ h => later_keeps (by simp) h) (later_keeps (by simp) h'))
      · exact ite_later
          (later_keeps (egpAsk_keeps (by decide) ..) (later_keeps (updSched_keeps (by decide) ..)
            (onlyIf_later (fun _ h => later_keeps (by simp) h) (later_keeps (by simp) h'))))
          (mergeBase_later (onlyIf_later (fun _ h => later_keeps (by simp) h) (later_keeps (by simp) h')))
    · exact h'

theorem heldReadRelease_later {x : Sc} (h : Later B s) : Later B (heldReadRelease x s) := by
  unfold heldReadRelease
  dsimp only
  split
  · exact h
  · split
    · exact h
    · split
      · exact later_keeps (by simp) h
      · exact ite_later (later_keeps (egpAsk_keeps (by decide) _ _) (updReq_later (fun _ e => e)
          (later_keeps (by simp) h))) (settleRead_later (later_keeps (by simp) h))

theorem strandSc_later {x : Sc} (h : Later B s) : Later B (strandSc x s) := by
  unfold strandSc
  dsimp only
  refine forAll_later (fun _ s h => ?_) (forAll_later (fun _ s h => ?_) ?_)
  · split
    · exact ite_later (finish_later h) (readDead_later h)
    · exact h
  · split
    · exact ite_later (writeDead_later h) (ite_later (finish_later h) (writtenToDram_later h))
    · exact h
  · exact later_keeps (by simp) h

theorem loseChannel_later {c : Ch} (h : Later B s) : Later B (loseChannel c s) := by
  unfold loseChannel
  dsimp only
  exact later_keeps (reqRole_keeps (by decide) _ _) (pumpCopy_later (later_keeps
    (chInit_keeps (by decide) _ _) (strandSc_later (strandSc_later (later_keeps (by simp) h)))))

theorem force_later {fuel : Nat} {x : Sc} {c : Cmd} {later : List Cmd} (h : Later B s) :
    Later B (force fuel x c later s) := by
  induction fuel generalizing s with
  | zero => exact h
  | succ n ih =>
    unfold force
    dsimp only
    have h2 := fun t d => later_keeps (updSched_keeps (by decide) x (fun q => { q with ck := t }) _)
      (busCmd_later (x := x) (t := t) (c := d) (cap := false) (ledger := false) h)
    exact ite_later (ite_later (replayWrite_later (h2 _ _)) (h2 _ _)) (ih (h2 _ _))

theorem sleepRanks_later {x : Sc} (h : Later B s) : Later B (sleepRanks x s) := by
  unfold sleepRanks
  exact toRanks_later (forAll_later (fun _ s h2 => force_later h2) h)

theorem recoverySleep_later {c : Ch} (h : Later B s) : Later B (recoverySleep c s) := by
  unfold recoverySleep
  dsimp only
  exact ite_later (later_keeps (updAlert_keeps (by decide) _ _ _) (forAll_later
    (fun _ s h2 => sleepRanks_later h2) h)) h

theorem recoveryAlign_later {x : Sc} (h : Later B s) : Later B (recoveryAlign x s) := by
  unfold recoveryAlign
  exact toRanks_later (toRanks_later h)

theorem recoveryFails_later {c : Ch} (h : Later B s) : Later B (recoveryFails c s) := by
  unfold recoveryFails
  exact loseChannel_later (onlyIf_later (fun _ h2 => later_keeps (by simp) h2) h)

theorem wakeRanks_later {x : Sc} (h : Later B s) : Later B (wakeRanks x s) := by
  unfold wakeRanks
  exact later_keeps (buildCalendar_keeps (by decide) _ _) (toRanks_later h)

theorem rewriteWindow_later {x : Sc} (h : Later B s) : Later B (rewriteWindow x s) := by
  unfold rewriteWindow
  exact forAll_later (fun _ s h2 => force_later h2) h

theorem recoveryDone_later {c : Ch} {pa pb : Option (BitVec 3)} (h : Later B s) :
    Later B (recoveryDone c pa pb s) := by
  unfold recoveryDone
  dsimp only
  split
  · exact h
  · split
    · exact later_keeps (updAlert_keeps (by decide) _ _ _) (later_keeps (resume_keeps (by decide) _ _)
        (later_keeps (sqSet_keeps _ _ _ (by simp)) (later_keeps (failRecord_keeps (by decide) _ _ _ _ _ _)
        (later_keeps (freezeCh_keeps (by decide) _ _) (forAll_later (fun _ s h2 => rewriteWindow_later h2)
        (forAll_later (fun _ s h2 => toRanks_later h2) (forAll_later (fun _ s h2 => wakeRanks_later h2)
        (later_keeps (updPhySc_keeps (by decide) _ _ _) (later_keeps (updPhySc_keeps (by decide) _ _ _)
        (later_keeps (dckStart_keeps (by decide) _ _) (forAll_later (fun _ s h2 => recoveryAlign_later h2)
        (later_keeps (dckStop_keeps (by decide) _ _) (onlyIf_later (fun _ h2 => forAll_later
        (fun _ s h3 => sleepRanks_later h3) h2) h)))))))))))))
    · exact recoveryFails_later (forAll_later (fun _ s h2 => recoveryAlign_later h2) (later_keeps
        (dckStop_keeps (by decide) _ _) (onlyIf_later (fun _ h2 => forAll_later
        (fun _ s h3 => sleepRanks_later h3) h2) h)))

theorem recoveryTimeout_later {c : Ch} (h : Later B s) : Later B (recoveryTimeout c s) := by
  unfold recoveryTimeout
  exact ite_later h (loseChannel_later (later_keeps (by simp) h))

theorem alertRecognised_later {c : Ch} (h : Later B s) : Later B (alertRecognised c s) := by
  unfold alertRecognised
  exact ite_later h (ite_later (onlyIf_later (fun _ h2 => recoveryFails_later h2) h) (later_keeps (by simp) h))

theorem diverge_later {kind : Nat} {fp : Nat} (h : Later B s) : Later B (diverge kind fp s) := by
  unfold diverge
  exact degrade_later (onlyIf_later (fun _ h2 => later_keeps (by simp) h2) h)

theorem compareFps_later {inv : Option Nat} {pair : Nat} (h : Later B s) : Later B (compareFps inv pair s) := by
  unfold compareFps
  split
  · exact ite_later (diverge_later h) (ite_later (diverge_later h) (later_keeps (by simp) h))
  · exact ite_later (diverge_later h) h

theorem heartbeatLoss_later (h : Later B s) : Later B (heartbeatLoss s) := by
  unfold heartbeatLoss
  exact ite_later h (ite_later (degrade_later (later_keeps (by simp) h)) (degrade_later
    (later_keeps (by simp) h)))

theorem dirtyAll_later {f : Nat → Bool} (h : Later B s) : Later B (dirtyAll f s) := by
  unfold dirtyAll
  exact forAll_later (fun _ s h2 => setDirty_later h2) h

theorem newRole_later {primary : Bool} {epoch : BitVec 8} {cause reason : Nat} {mark : State → State}
    (hm : ∀ s, Later B s → Later B (mark s)) (h : Later B s) : Later B
      (newRole primary epoch cause reason mark s) := by
  unfold newRole
  exact later_keeps (roleRecord_keeps (by decide) ..) (degrade_later (hm _ (writeRecords_later
    (later_keeps (by simp) h))))

theorem completeRole_later {r : RoleChg} (h : Later B s) : Later B (completeRole r s) := by
  unfold completeRole
  dsimp only
  exact ite_later (later_keeps (updMir_keeps _ _ (by simp)) (later_keeps (regSet_keeps _ _ _ (by simp))
    (later_keeps (roleRecord_keeps (by decide) _ _ _) (heldNotOwned_later (degrade_later
    (later_keeps (by simp) h)))))) (later_keeps (roleRecord_keeps (by decide) _ _ _) (heldNotOwned_later
    (degrade_later (later_keeps (by simp) h))))

theorem roleInitiate_later (h : Later B s) : Later B (roleInitiate s) := by
  unfold roleInitiate
  dsimp only
  split
  · exact h
  · exact ite_later h (ite_later (later_keeps (by simp) h) (ite_later h (later_keeps
      (sendRoleReq_keeps (by decide) _ _ _) (writeRecords_later (later_keeps (by simp) h)))))

theorem roleTimeout_later (h : Later B s) : Later B (roleTimeout s) := by
  unfold roleTimeout
  dsimp only
  split
  · exact h
  · exact ite_later h (later_keeps (updMir_keeps _ _ (by simp)) (completeRole_later (later_keeps (by simp) h)))

theorem becomePrimary_later {reason : Nat} {e : BitVec 8} {scope : Byte} (h : Later B s) :
    Later B (becomePrimary reason e scope s) := by
  unfold becomePrimary
  exact ite_later (later_keeps (by simp) h) (ite_later (newRole_later (fun _ h2 => later_keeps
    (sendRole_keeps (by decide) _ _) (onlyIf_later (fun s h3 => dirtyAll_later h3) h2)) h) h)

theorem takeMsg_later {f : Vector Word 8 → Bool} {g : Msg} (e : takeMsg f s = some (g, t)) (h : Later B s) :
    Later B t :=
  later_keeps (takeMsg_keeps (by decide) e) h

theorem mirrorMsg_later {m : Vector Word 8} {f : State → State} (hf : ∀ s, Later B s → Later B (f s)) (h : Later B s) :
    Later B (mirrorMsg m f s) := by
  unfold mirrorMsg
  exact ite_later h (ite_later (later_keeps (by simp) h) (hf _ (later_keeps (by simp) h)))

theorem roleChange_later (h : Later B s) : Later B (roleChange s) := by
  unfold roleChange
  split
  · exact h
  · refine mirrorMsg_later (fun s h => ?_) (takeMsg_later ‹_› h)
    dsimp only
    split
    · split
      · exact ite_later (completeRole_later h) (learnEpoch_later h)
      · exact learnEpoch_later (later_keeps (updMir_keeps _ _ (by simp)) h)
    · exact ite_later (becomePrimary_later h) (learnEpoch_later h)

theorem staleReplyMsg_later (h : Later B s) : Later B (staleReplyMsg s) := by
  unfold staleReplyMsg
  split
  · exact h
  · exact mirrorMsg_later (fun _ h => learnEpoch_later h) (takeMsg_later ‹_› h)

theorem heartbeat_later (h : Later B s) : Later B (heartbeat s) := by
  unfold heartbeat
  split
  · exact h
  · have h' := takeMsg_later ‹_› h
    dsimp only
    refine ite_later h' (ite_later ?_ (compareFps_later (later_keeps (by simp) h')))
    split
    · exact later_keeps (sendRoleReq_keeps (by decide) ..) (later_keeps (staleReply_keeps (by decide) ..)
        (later_keeps (by simp) h'))
    · exact later_keeps (staleReply_keeps (by decide) ..) (later_keeps (by simp) h')

theorem setDirtySet_later {d : DirtySet} (h : Later B s) : Later B (setDirtySet d s) := by
  unfold setDirtySet
  split
  · exact h
  · exact later_keeps (by simp) h
  · exact dirtyAll_later h

theorem joinDecide_later {a b : Side} (h : Later B s) : Later B (joinDecide a b s) := by
  unfold joinDecide
  dsimp only
  exact ite_later (ite_later (degrade_later (setDirtySet_later h)) (newRole_later
    (fun _ h => setDirtySet_later h) h))
    (newRole_later (fun _ h => h) h)

theorem hello_later (h : Later B s) : Later B (hello s) := by
  unfold hello
  split
  · exact h
  · rename_i g s' _
    have h' := takeMsg_later ‹_› h
    have h2 : ∀ n e, Later B (compareFps none n (notePeer g.words e s')) := fun n e =>
      compareFps_later (later_keeps (notePeer_keeps (by decide) ..) h')
    have h3 : ∀ c n e, Later B (onlyIf c (updMir fun r => { r with exchange := none }) (compareFps none n
      (notePeer g.words e s'))) :=
      fun c n e => onlyIf_later (fun _ h => later_keeps (by simp) h) (h2 n e)
    dsimp only
    exact ite_later h' (ite_later (h3 ..) (ite_later (later_keeps (sendHello_keeps (by decide) _) (h3 ..))
      (ite_later
        (later_keeps (updMir_keeps _ _ (by simp)) (joinDecide_later (later_keeps
          (sendHello_keeps (by decide) _) (h3 ..))))
        (ite_later
          (later_keeps (resilverCheck_keeps (by decide) _) (later_keeps (resilverBegin_keeps (by decide) _)
            (h3 ..)))
          (h3 ..)))))

theorem takeover_later (h : Later B s) : Later B (takeover s) := by
  unfold takeover
  exact newRole_later (fun _ h2 => dirtyAll_later (later_keeps (by simp) h2)) h

theorem joinTimeout_later (h : Later B s) : Later B (joinTimeout s) := by
  unfold joinTimeout
  dsimp only
  exact ite_later h (ite_later (takeover_later (later_keeps (by simp) h)) (later_keeps (by simp) h))

theorem poisonEnter_later {id : Nat} {a : LineAddr} (h : Later B s) : Later B (poisonEnter id a s) := by
  unfold poisonEnter
  dsimp only
  split
  · split
    · exact ingressLeft_later (later_keeps (missQueued_keeps (by decide) _ _) (chargePart_later (later_keeps
        (demand_keeps (by decide) _ _) (answer_later (updReq_later (fun _ e => e) h)))))
    · exact answer_later (updReq_later (fun _ e => e) h)
  · exact finish_later (answer_later h)
  · exact h

theorem poisonLine_later (h : Later B s) : Later B (poisonLine s) := by
  unfold poisonLine
  split
  · exact h
  · have h' := takeMsg_later ‹_› h
    split
    · exact h'
    · exact ite_later (finish_later (answer_later h'))
        (ite_later (finish_later (answer_later (later_keeps (by simp) h')))
          (ite_later (finish_later (answer_later (later_keeps (by simp) h'))) (poisonEnter_later
            (later_keeps (by simp) h'))))

theorem actMirCtl_later {v : Word} (h : Later B s) : Later B (actMirCtl v s) := by
  unfold actMirCtl
  split
  · exact later_keeps (by simp) h
  · split
    · exact later_keeps (by simp) h
    · split
      · exact ite_later (later_keeps (by simp) h) (later_keeps (by simp) h)
      · exact later_keeps (setMirResult_keeps (by decide) _ _ _) (degrade_later h)
      · exact later_keeps (by simp) h
      · exact ite_later (later_keeps (by simp) h) (ite_later (later_keeps
          (setMirResult_keeps (by decide) _ _ _) (takeover_later h)) (later_keeps (by simp) h))
      · exact later_keeps (by simp) h

theorem refusePort_later {r : Present} {bit : Nat} (h : Later B s) : Later B (refusePort r bit s) := by
  unfold refusePort
  dsimp only
  exact onlyIf_later (fun _ h2 => later_keeps (by simp) h2) (respond_later (later_keeps (by simp) h))

theorem endReq_later {id : Nat} {st : Status} {stale : Bool} {epoch : BitVec 8} (h : Later B s) :
    Later B (endReq id st stale epoch s) := by
  unfold endReq
  exact finish_later (answerX_later h)

theorem linked_later {q : Req} (h : Later B s) : Later B (linked q s) := by
  unfold linked
  exact ingressLeft_later (later_keeps (by simp) h)

theorem toIngress_later {q : Req} (h : Later B s) : Later B (toIngress q s) := by
  unfold toIngress
  exact ite_later (endReq_later (updReq_later (fun _ _ => rfl) h)) (ite_later (answer_later (updReq_later
    (fun _ _ => rfl) h)) (ite_later (linked_later (chargePart_later (updReq_later (fun _ _ => rfl) h)))
    (panicUpdate_later (chargePart_later (updReq_later (fun _ _ => rfl) h)))))

theorem ownedHost_later {q : Req} (h : Later B s) : Later B (ownedHost q s) := by
  unfold ownedHost
  exact ite_later (endReq_later h) (ite_later (endReq_later h) (toIngress_later h))

theorem ownedPeer_later {q : Req} {window : Bool} (h : Later B s) : Later B (ownedPeer q window s) := by
  unfold ownedPeer
  exact ite_later (endReq_later h) (ite_later (endReq_later h) (ite_later (later_keeps
    (sqSet_keeps _ _ _ (by simp)) (later_keeps (bump_keeps _ _ (by simp)) (endReq_later h))) (ite_later
    (endReq_later h) (ite_later (endReq_later h) (toIngress_later h)))))

theorem mapReq_later {q : Req} (h : Later B s) : Later B (mapReq q s) := by
  unfold mapReq
  split
  · exact ite_later (ownedPeer_later h) (ownedHost_later h)
  · exact endReq_later h

theorem storeMsg_later {r : Req} {data : Line} (h : Later B s) : Later B (storeMsg r data s) := by
  unfold storeMsg
  exact ite_later (ite_later (later_keeps (updDom_keeps _ _ (by simp)) (updReq_later (fun _ e => e) h))
    (endReq_later (later_keeps (by simp) h))) (endReq_later (later_keeps (by simp) h))

theorem takeBeat_later {id : Nat} {data : Line} {mask : BitVec 64} (h : Later B s) :
    Later B (takeBeat id data mask s) := by
  unfold takeBeat
  split
  · exact h
  · rename_i r hr
    have hid : r.id = id := by simpa using List.find?_some hr
    exact ite_later h (ite_later (storeMsg_later h) (linked_later (updReq_later (fun _ _ => hid) h)))

theorem writeDataBeat_later {p : PortId} {data : Line} {mask : BitVec 64} (h : Later B s) :
    Later B (writeDataBeat p data mask s) := by
  unfold writeDataBeat
  dsimp only
  split
  · exact h
  · split
    · exact h
    · split
      · exact later_keeps (by simp) h
      · exact takeBeat_later (later_keeps (by simp) h)

theorem portTransactionTimeout_later {p : PortId} {tag : BitVec 10} (h : Later B s) :
    Later B (portTransactionTimeout p tag s) := by
  unfold portTransactionTimeout
  dsimp only
  split
  · exact h
  · exact ite_later h (ite_later (ingressLeft_later (finish_later (answer_later (later_keeps (by simp) h))))
      (answer_later (later_keeps (by simp) h)))

theorem rtpUrgentChange_later {level : Bool} (h : Later B s) : Later B (rtpUrgentChange level s) := by
  unfold rtpUrgentChange
  exact ite_later (panicUpdate_later (later_keeps (by simp) h)) (later_keeps (by simp) h)

theorem countDrainHolds_later {x : Sc} (h : Later B s) : Later B (countDrainHolds x s) := by
  unfold countDrainHolds
  exact forAll_later (fun _ s h2 => later_keeps (sqSet_keeps _ _ _ (by simp)) (later_keeps
    (bump_keeps _ _ (by simp)) (updReq_later (fun _ e => e) h2))) h

theorem selectReq_later {x : Sc} {r : Req} (h : Later B s) : Later B (selectReq x r s) := by
  unfold selectReq
  dsimp only
  exact ingressLeft_later (leaveIngress_later (later_keeps (by simp) h))

theorem ingressSelect_later {x : Sc} (h : Later B s) : Later B (ingressSelect x s) := by
  unfold ingressSelect
  dsimp only
  split
  · exact countDrainHolds_later h
  · exact selectReq_later (countDrainHolds_later h)

theorem placeHeads_later {label : Nat} (h : Later B s) : Later B (placeHeads label s) := by
  unfold placeHeads
  refine forAll_later (fun _ s h => ?_) h
  split
  · exact h
  · exact enterTier_later h

theorem applyPart_later {label : Nat} {w : Vector Word 8} (h : Later B s) : Later B (applyPart label w s) := by
  unfold applyPart
  dsimp only
  exact placeHeads_later (later_keeps (by simp) h)

theorem applyPending_later (h : Later B s) : Later B (applyPending s) := by
  unfold applyPending
  dsimp only
  exact ite_later h (later_keeps (updQos_keeps _ _ (by simp)) (onlyIf_later
    (fun _ h2 => later_keeps (by simp) h2) (later_keeps (regPut_keeps _ _ _ _ _ (by simp)) (forAll_later
    (fun _ s h2 => applyPart_later h2) h))))

theorem recolour_later (h : Later B s) : Later B (recolour s) := by
  unfold recolour
  exact forAll_later (fun _ s h2 => colourHead_later h2) h

theorem refillTick_later (h : Later B s) : Later B (refillTick s) := by
  unfold refillTick
  dsimp only
  exact ite_later h (later_keeps (updQos_keeps _ _ (by simp)) (recolour_later (later_keeps
    (refillAll_keeps (by decide) _) (later_keeps (takeThrottle_keeps (by decide) _) (applyPending_later
    (later_keeps (by simp) h))))))

theorem srEnter_later {x : Sc} (h : Later B s) : Later B (srEnter x s) := by
  unfold srEnter
  exact ite_later h (later_keeps (noteSr_keeps (by decide) _ _) (later_keeps (setMask_keeps (by decide) _ _ _)
    (later_keeps (updPwr_keeps _ _ (by simp)) (toRanks_later (toRanks_later (powerUp_later h))))))

theorem srExit_later {x : Sc} (h : Later B s) : Later B (srExit x s) := by
  unfold srExit
  dsimp only
  exact ite_later (later_keeps (noteSr_keeps (by decide) _ _) (later_keeps
    (buildCalendar_keeps (by decide) _ _) (later_keeps (setMask_keeps (by decide) _ _ _) (toRanks_later
    (later_keeps (by simp) h))))) h

theorem srEnterAll_later (h : Later B s) : Later B (srEnterAll s) := by
  unfold srEnterAll
  exact forAll_later (fun _ s h2 => srEnter_later h2) h

theorem srExitAll_later (h : Later B s) : Later B (srExitAll s) := by
  unfold srExitAll
  exact forAll_later (fun _ s h2 => srExit_later h2) h

theorem arriveService_later (h : Later B s) : Later B (arriveService s) := by
  unfold arriveService
  exact panicUpdate_later (ite_later (ite_later (later_keeps (by simp) h) (later_keeps (by simp) h))
    (later_keeps (by simp) h))

theorem finishPause_later (h : Later B s) : Later B (finishPause s) := by
  unfold finishPause
  exact later_keeps (ackFalls_keeps (by decide) _) (ite_later (arriveService_later (later_keeps (by simp) h))
    (later_keeps (by simp) h))

theorem endPause_later (h : Later B s) : Later B (endPause s) := by
  unfold endPause
  exact ite_later h (ite_later (later_keeps (by simp) h) (finishPause_later h))

theorem qzHoldExpiry_later (h : Later B s) : Later B (qzHoldExpiry s) := by
  unfold qzHoldExpiry
  exact ite_later h (endPause_later h)

theorem qzReqFall_later (h : Later B s) : Later B (qzReqFall s) := by
  unfold qzReqFall
  exact ite_later h (later_keeps (ackFalls_keeps (by decide) _) (endPause_later (later_keeps (by simp) h)))

theorem deepPauseExitDone_later (h : Later B s) : Later B (deepPauseExitDone s) := by
  unfold deepPauseExitDone
  exact ite_later (finishPause_later (srExitAll_later h)) h

theorem qzTick_later (h : Later B s) : Later B (qzTick s) := by
  unfold qzTick
  exact ite_later h (ite_later (endPause_later h) (later_keeps (by simp) h))

theorem fullDrain_later (h : Later B s) : Later B (fullDrain s) := by
  unfold fullDrain
  exact forAll_later (fun _ s h2 => later_keeps (updSched_keeps (by decide) _ _ _) (powerUp_later h2))
    (forAll_later (fun _ s h2 => later_keeps (by simp) h2) h)

theorem gearSwitch_later {g : Gear} (h : Later B s) : Later B (gearSwitch g s) := by
  unfold gearSwitch
  dsimp only
  exact srExitAll_later (forAll_later (fun _ s h2 => toRanks_later h2) (forAll_later
    (fun _ s h2 => later_keeps (by simp) h2) (later_keeps (loadGear_keeps (by decide) _) (later_keeps
    (updGlb_keeps _ _ (by simp)) (forAll_later (fun _ s h2 => later_keeps (by simp) h2)
    (srEnterAll_later h))))))

theorem readCheck_later (h : Later B s) : Later B (readCheck s) := by
  unfold readCheck
  exact forAll_later (fun _ s h2 => forAll_later (fun _ s h3 => forAll_later
    (fun _ s h4 => force_later h4) h3) h2) h

theorem gearChangeDone_later {readCheckOk : Bool} (h : Later B s) : Later B (gearChangeDone readCheckOk s) := by
  unfold gearChangeDone
  split
  · exact h
  · rename_i g _ _
    have h2 : Later B (readCheck (gearSwitch g s)) := readCheck_later (gearSwitch_later h)
    have h3 : ∀ o, Later B (gearSwitch o (gearUnavail g (readCheck (gearSwitch g s)))) := fun _ =>
      gearSwitch_later (later_keeps (by simp) h2)
    refine ite_later h (arriveService_later (later_keeps (sqSet_keeps _ _ _ (by simp)) (regSet_later ?_)))
    exact show Later B (ite _ _ _) from ite_later h2 (h3 _)

theorem loadEffects_later {scrub : Word} (h : Later B s) : Later B (loadEffects scrub s) := by
  unfold loadEffects
  exact panicUpdate_later (onlyIf_later (fun _ h2 => later_keeps (by simp) h2) (later_keeps (by simp) h))

theorem liveSwitch_later {m : Image} (h : Later B s) : Later B (liveSwitch m s) := by
  unfold liveSwitch
  dsimp only
  exact later_keeps (writeRetention_keeps (by decide) _) (later_keeps (updImg_keeps _ _ (by simp))
    (later_keeps (shadowProgram_keeps (by decide) _ _) (later_keeps (stageParts_keeps (by decide) _ _)
    (loadEffects_later (later_keeps (by simp) h)))))

theorem restartEnter_later (h : Later B s) : Later B (restartEnter s) := by
  unfold restartEnter
  dsimp only
  exact later_keeps (updGlb_keeps _ _ (by simp)) (later_keeps (regSet64_keeps _ _ _ (by simp) (by simp))
    (later_keeps (toStep_keeps (by decide) _ _) (later_keeps (enter_keeps (by decide) _ _) (forAll_later
    (fun _ s h2 => later_keeps (by simp) h2) (forAll_later (fun _ s h2 => later_keeps (by simp) h2)
    (forAll_later (fun _ s h2 => later_keeps (by simp) h2) (srEnterAll_later h)))))))

theorem reloadQuiescePoint_later (h : Later B s) : Later B (reloadQuiescePoint s) := by
  unfold reloadQuiescePoint
  exact ite_later h (ite_later (ite_later (ite_later (fullDrain_later (later_keeps (by simp) h)) h)
    (later_keeps (appliedReload_keeps (by decide) _ _ _) (liveSwitch_later h))) (ite_later
    (restartEnter_later h) h))

theorem glgWrite_later {i : InstId} {label : BitVec 12} {g : GLine} {data : Line} {back : Bool}
    (h : Later B s) : Later B (glgWrite i label g data back s) := by
  unfold glgWrite
  dsimp only
  exact ite_later (ite_later (later_keeps (by simp) h) h) (ite_later (later_keeps (by simp) h)
    (glgUnmirrored_later (ite_later (later_keeps (by simp) h) h)))

theorem tookSlot_later {i : InstId} {k : Nat} {j : Job} {g : GLine} {r : GRead} (h : Later B s) :
    Later B (tookSlot i k j g r s) := by
  unfold tookSlot
  exact ite_later (later_keeps (gotBits_keeps (by decide) _ _ _ _) (glgWrite_later h)) (later_keeps (by simp) h)

theorem settleSlot_later {i : InstId} {k : Nat} {j : Job} {g : GLine} {d : Decoded} {peer : Option Line}
    (h : Later B s) :
    Later B (settleSlot i k j g d peer s) := by
  unfold settleSlot
  exact ite_later (later_keeps (by simp) h) (tookSlot_later (later_keeps (readSlot_keeps (by decide) ..) h))

theorem glgData_later {x : Sc} {t : RdTag} {i : InstId} {k : Nat} {rx : Capture} (h : Later B s) :
    Later B (glgData x t i k rx s) := by
  unfold glgData
  dsimp only
  split
  · exact later_keeps (by simp) h
  · split
    · exact later_keeps (leaveGranule_keeps (by decide) _ _) (ite_later (later_keeps (by simp) h)
        (settleSlot_later (ite_later (later_keeps (by simp) h) (later_keeps (by simp) h))))
    · exact later_keeps (by simp) h

theorem glgPeerDone_later {i : InstId} {e : Byte} {k : Nat} {st : Option Status} {data : Line} (h : Later B s) :
    Later B (glgPeerDone i e k st data s) := by
  unfold glgPeerDone
  dsimp only
  split
  · exact onlyIf_later (fun _ h2 => later_keeps (by simp) h2) h
  · split
    · split
      · exact onlyIf_later (fun _ h2 => later_keeps (by simp) h2) h
      · split
        · exact later_keeps (leaveGranule_keeps (by decide) _ _) (settleSlot_later (onlyIf_later
            (fun _ h2 => later_keeps (by simp) h2) h))
        · exact later_keeps (leaveGranule_keeps (by decide) _ _) (ite_later (tookSlot_later
            (later_keeps (by simp) h)) (ite_later (tookSlot_later (later_keeps (by simp) h))
            (later_keeps (by simp) h)))
    · exact onlyIf_later (fun _ h2 => later_keeps (by simp) h2) h

theorem takeLine_later {i : InstId} {k : Nat} {j : Job} {g : GLine} (h : Later B s) :
    Later B (takeLine i k j g s) := by
  unfold takeLine
  dsimp only
  exact ite_later (later_keeps (gotBits_keeps (by decide) _ _ _ _) (ite_later h (glgWrite_later h)))
    (ite_later (later_keeps (gotBits_keeps (by decide) _ _ _ _) (glgWrite_later h)) (ite_later
    (later_keeps (by simp) h) (ite_later (later_keeps (by simp) h) (ite_later (later_keeps (by simp) h)
    (later_keeps (by simp) h)))))

theorem glgPump_later {x : Sc} (h : Later B s) : Later B (glgPump x s) := by
  unfold glgPump
  dsimp only
  split
  · exact h
  · split
    · exact later_keeps (by simp) h
    · split
      · exact later_keeps (by simp) h
      · exact takeLine_later (later_keeps (by simp) h)

theorem glgMirrorDone_later {i : InstId} {e : Byte} {l : Lla} {st : Option Status} (h : Later B s) :
    Later B (glgMirrorDone i e l st s) := by
  unfold glgMirrorDone
  split
  · exact ite_later h (later_keeps (by simp) h)
  · exact ite_later h (later_keeps (by simp) h)
  · exact glgUnmirrored_later h

theorem countForwardHolds_later (h : Later B s) : Later B (countForwardHolds s) := by
  unfold countForwardHolds
  refine forAll_later (fun _ s h => ?_) h
  split
  · exact onlyIf_later (fun _ h =>
      later_keeps (sqSet_keeps _ _ _ (by simp)) (later_keeps (bump_keeps _ _ (by simp)) (updReq_later
        (fun _ e => e) h))) h
  · exact h

theorem peerRefused_later {st : Option Status} {stale : Bool} {epoch : BitVec 8} {tok : BitVec 16}
    (h : Later B s) : Later B (peerRefused st stale epoch tok s) := by
  unfold peerRefused
  exact ite_later h (ite_later (learnEpoch_later h) (degrade_later h))

theorem recoveryAnswer_later {id : Nat} {d : Decoded} {st : Option Status} {data : Line} (h : Later B s) :
    Later B (recoveryAnswer id d st data s) := by
  unfold recoveryAnswer
  split
  · exact h
  · exact ite_later (answer_later (later_keeps (by simp) h)) (answer_later (later_keeps (by simp) h))

theorem remoteDone_later {id : Nat} {st : Option Status} {data : Line} (h : Later B s) :
    Later B (remoteDone id st data s) := by
  unfold remoteDone
  split
  · exact answer_later h
  · exact answer_later h
  · exact answer_later h
  · exact answer_later h
  · exact failReq_later h

theorem mergeBaseDone_later {id : Nat} {dec : Option Decoded} {st : Option Status} {data : Line}
    (h : Later B s) : Later B (mergeBaseDone id dec st data s) := by
  unfold mergeBaseDone
  dsimp only
  split
  · exact h
  · split
    · exact ite_later (merged_later (later_keeps (by simp) h)) (merged_later (later_keeps (by simp) h))
    · exact ite_later (later_keeps (by simp) h) (settlePeer_later h)

theorem egpDone_later {r : EgpReq} {st : Option Status} {data : Line} (h : Later B s) :
    Later B (egpDone r st data s) := by
  unfold egpDone
  split
  · exact settlePeer_later h
  · exact settlePeer_later h
  · exact recoveryAnswer_later h
  · exact remoteDone_later h
  · exact mergeBaseDone_later h
  · exact later_keeps (by simp) h
  · exact later_keeps (by simp) h
  · exact ite_later (later_keeps (by simp) h) h
  · exact later_keeps (by simp) h
  · exact later_keeps (by simp) h
  · exact later_keeps (by simp) h
  · exact glgMirrorDone_later h
  · exact glgPeerDone_later h

theorem endStaleReads_later (h : Later B s) : Later B (endStaleReads s) := by
  unfold endStaleReads
  exact forAll_later (fun _ s h2 => egpDone_later h2) (later_keeps (by simp) h)

theorem egpIssue_later {n : Nat} (h : Later B s) : Later B (egpIssue n s) := by
  unfold egpIssue
  split
  · exact h
  · have h2 : Later B (countForwardHolds (endStaleReads s)) := countForwardHolds_later (endStaleReads_later h)
    dsimp only
    split
    · exact h2
    · exact later_keeps (egpIssued_keeps (by decide) ..) (emit_later h2)

theorem egpResponse_later {tok : BitVec 16} {status : BitVec 3} {stale : Bool} {epoch : BitVec 8}
    {src : BitVec 10} {data : Line} (h : Later B s) :
    Later B (egpResponse tok status stale epoch src data s) := by
  unfold egpResponse
  dsimp only
  split
  · exact h
  · split
    · exact later_keeps (by simp) h
    · exact ite_later (later_keeps (by simp) h) (onlyIf_later (fun _ h2 => peerRefused_later h2)
        (egpDone_later (later_keeps (by simp) h)))

theorem egpTimeout_later {n : Nat} (h : Later B s) : Later B (egpTimeout n s) := by
  unfold egpTimeout
  dsimp only
  split
  · exact h
  · exact onlyIf_later (fun _ h2 => degrade_later h2) (egpDone_later (onlyIf_later
      (fun _ h2 => later_keeps (by simp) h2) (ite_later (later_keeps (by simp) h) (later_keeps (by simp) h))))

theorem mntOffers_later {x : Sc} (h : Later B s) : Later B (mntOffers x s) := by
  unfold mntOffers
  split
  · exact h
  · exact onlyIf_later (fun _ h2 => later_keeps (by simp) h2) (later_keeps (by simp) h)
  · exact glgPump_later (later_keeps (by simp) h)

theorem mntArbitrate_later {x : Sc} (h : Later B s) : Later B (mntArbitrate x s) := by
  unfold mntArbitrate
  exact ite_later (later_keeps (arbitrate_keeps (by decide) _ _) (mntOffers_later (later_keeps (by simp) h))) h

theorem readDecode_later {x : Sc} {rx : Capture} (h : Later B s) : Later B (readDecode x rx s) := by
  unfold readDecode
  split
  · exact h
  · have h' := takeTag_later ‹_› h
    split
    · exact hostRead_later h'
    · exact glgData_later h'
    · exact later_keeps (by simp) h'
    · exact later_keeps (by simp) h'
    · exact h'

theorem afterStore_later {off : Nat} (h : Later B s) : Later B (afterStore off s) := by
  unfold afterStore
  exact ite_later (later_keeps (by simp) h) (ite_later (later_keeps (by simp) h) (ite_later
    (later_keeps (by simp) h) (ite_later (later_keeps (by simp) h) (ite_later (later_keeps (by simp) h)
    (ite_later (panicUpdate_later h) (ite_later (later_keeps (by simp) h) h))))))

theorem rwStore_later {r : RegRow} {off al : Nat} {w : Word} (h : Later B s) : Later B (rwStore r off al w s) := by
  unfold rwStore
  exact ite_later h (afterStore_later (regSet_later h))

theorem ppAction_later {off : Nat} {old : Word} {v : Word} (h : Later B s) :
    Later B (ppAction off old v s) := by
  unfold ppAction
  exact ite_later (later_keeps (by simp) h) (ite_later (later_keeps (by simp) h) (ite_later
    (later_keeps (by simp) h) (ite_later (later_keeps (by simp) h) (ite_later (later_keeps (by simp) h)
    (ite_later (actMirCtl_later h) (ite_later (later_keeps (by simp) h) (ite_later (later_keeps (by simp) h)
    (ite_later (later_keeps (by simp) h) (ite_later (later_keeps (by simp) h) h)))))))))

theorem ppCommit_later {off : Nat} {v : Word} (h : Later B s) : Later B (ppCommit off v s) := by
  unfold ppCommit
  exact ite_later (regSet_later h) (ite_later h
    (ite_later (later_keeps (by simp) h) (ppAction_later (regSet_later h))))

theorem ppAnswer_later {off : Nat} {v : Word} (h : Later B s) : Later B (ppAnswer off v s) := by
  unfold ppAnswer
  dsimp only
  split
  · exact later_keeps (by simp) h
  · exact ite_later (later_keeps (by simp) h) (ite_later (ppCommit_later (later_keeps (by simp) h))
      (later_keeps (by simp) h))

theorem regWrite_later {off al : Nat} {w : Word} (h : Later B s) : Later B (regWrite off al w s) := by
  have hs : ∀ off, 0x1D9FFFFFFFFFFFFFFFFFFFFFFFFFFFFFFFFFFFFFFFFFF / 2 ^
    (147 + regGroup off) % 2 = 1 := regs_all_hidden (by decide)
  unfold regWrite
  split
  · exact h
  · split
    · exact rwStore_later h
    · exact onlyIf_later (fun _ h => rwStore_later h) h
    · exact onlyIf_later (fun _ h => later_keeps (sqClear_keeps _ _ _ (hs _)) h) h
    · exact onlyIf_later (fun _ h => later_keeps (by simp) h) h
    · exact onlyIf_later (fun _ h => ppAnswer_later h) h
    · exact onlyIf_later (fun _ h => later_keeps (by simp) h) h
    · exact onlyIf_later (fun _ h => later_keeps (by simp) h) h
    · exact h
    · exact h
    · exact h

theorem writeNow_later {a : RegAcc} (h : Later B s) : Later B (writeNow a s) := by
  unfold writeNow
  exact respOk_later (ite_later h (regWrite_later h))

theorem portWrite_later {a : RegAcc} (h : Later B s) : Later B (portWrite a s) := by
  unfold portWrite
  exact ite_later h (ite_later (emit_later h) (ite_later (later_keeps (by simp) h) (writeNow_later h)))

theorem confirmRow_later {off : Nat} {own : Word → Bool} {priv : Bool} {data : Word} (h : Later B s) :
    Later B (confirmRow off own priv data s) := by
  unfold confirmRow
  exact ite_later h (portWrite_later h)

theorem ppConfirm_later {a : RegAcc} (h : Later B s) : Later B (ppConfirm a s) := by
  unfold ppConfirm
  exact ite_later h (portWrite_later h)

theorem dormantWake_later {w : WakeSrc} (h : Later B s) : Later B (dormantWake w s) := by
  unfold dormantWake
  split
  · exact h
  · split
    · exact later_keeps (by simp) h
    · exact ite_later (portWrite_later h) h

theorem playDeferred_later (h : Later B s) : Later B (playDeferred s) := by
  unfold playDeferred
  exact forAll_later (fun _ s h2 => writeNow_later h2) (later_keeps (by simp) h)

theorem wakeZq_later (h : Later B s) : Later B (wakeZq s) := by
  unfold wakeZq
  exact onlyIf_later (fun _ h2 => forAll_later (fun _ s h3 => toRanks_later (toRanks_later h3)) h2) h

theorem wakeComplete_later (h : Later B s) : Later B (wakeComplete s) := by
  unfold wakeComplete
  dsimp only
  exact ite_later (playDeferred_later (ite_later (panicUpdate_later (later_keeps (enter_keeps (by decide) _ _)
    (later_keeps (cycleEnds_keeps (by decide) _ _) (onlyIf_later (fun _ h2 => wakeZq_later
    (srExitAll_later h2)) (later_keeps (by simp) h))))) (arriveService_later (wakeZq_later (srExitAll_later
    (later_keeps (by simp) h)))))) h

theorem boDirty_later (h : Later B s) : Later B (boDirty s) := by
  unfold boDirty
  dsimp only
  exact forAll_later (fun _ s h2 => setDirty_later h2) h

theorem boWake_later (h : Later B s) : Later B (boWake s) := by
  unfold boWake
  exact forAll_later (fun _ s h2 => later_keeps (updPwr_keeps _ _ (by simp)) (srExit_later h2)) h

theorem pfNFall_later (h : Later B s) : Later B (pfNFall s) := by
  unfold pfNFall
  dsimp only
  split
  · exact later_keeps (by simp) h
  · exact later_keeps (by simp) h
  · exact later_keeps (by simp) h
  · exact ite_later (panicUpdate_later (later_keeps (glgPowerFail_keeps (by decide) _) (later_keeps
      (gearPowerFail_keeps (by decide) _) (later_keeps (updImg_keeps _ _ (by simp)) (later_keeps
      (reloadPowerFail_keeps (by decide) _) (later_keeps (updQz_keeps _ _ (by simp)) (dropDeferred_later
      (later_keeps (by simp) h)))))))) (fullDrain_later (boWake_later (later_keeps
      (boRefresh_keeps (by decide) _) (later_keeps (boMaint_keeps (by decide) _) (later_keeps
      (boRas_keeps (by decide) _) (boDirty_later (later_keeps (glgPowerFail_keeps (by decide) _) (forAll_later
      (fun _ s h2 => later_keeps (by simp) h2) (later_keeps (gearPowerFail_keeps (by decide) _) (later_keeps
      (updImg_keeps _ _ (by simp)) (later_keeps (reloadPowerFail_keeps (by decide) _) (later_keeps
      (updQz_keeps _ _ (by simp)) (dropDeferred_later (later_keeps (by simp) h))))))))))))))

theorem schedulerIssue_later {x : Sc} (h : Later B s) : Later B (schedulerIssue x s) := by
  unfold schedulerIssue
  exact ite_later (srEnter_later (onlyIf_later (fun _ h2 => recoverySleep_later
    (later_keeps (by simp) h2)) h)) (schedulerCc_later (onlyIf_later (fun _ h2 => recoverySleep_later
    (later_keeps (by simp) h2)) h))

theorem pllLock_later (h : Later B s) : Later B (pllLock s) := by
  unfold pllLock
  dsimp only
  exact ite_later h (panicUpdate_later (later_keeps (by simp) h))

theorem pllLockTimeout_later (h : Later B s) : Later B (pllLockTimeout s) := by
  unfold pllLockTimeout
  dsimp only
  exact ite_later (ite_later (panicUpdate_later (dropDeferred_later (later_keeps (by simp) h)))
    (later_keeps (by simp) h)) h

theorem serviceEntry_later (h : Later B s) : Later B (serviceEntry s) := by
  unfold serviceEntry
  dsimp only
  exact ite_later h (arriveService_later (later_keeps (by simp) h))

theorem begin_later (h : B.out = []) (h' : Later B s) : Later B (begin_ s) :=
  ⟨h'.1, h'.2.1, h ▸ List.nil_prefix⟩

end Sys2Proof.Machine
end

section
/-! SUPPORT. The numbers of the requests in the table stay distinct and below the next number. -/

namespace Sys2Proof.Machine

variable {b s t : State}

/-- One request more than in `b` may be in the table, under the number that was next. -/
def Grown (b s : State) : Prop :=
  (s.reqs.map Req.id).Sublist (b.reqs.map Req.id ++ [b.nextId]) ∧ s.nextId = b.nextId + 1

theorem grown_addReq {q : Req} (hq : q.id = s.nextId) (h : Later b s) : Grown b (addReq q s) := by
  obtain ⟨hreqs, hnext, -⟩ := h
  refine ⟨?_, congrArg (· + 1) hnext⟩
  show ((s.reqs ++ [q]).map Req.id).Sublist _
  simpa [hq, hnext] using hreqs

theorem Grown.later (hg : Grown b s) (h : Later s t) : Grown b t :=
  ⟨h.1.trans hg.1, h.2.1.trans hg.2⟩

theorem later_addReq {r : Present} {op : Op} : Later (addReq (newReq s r op) s) (acceptReq r op s) := by
  have h := later_refl (addReq (newReq s r op) s)
  unfold acceptReq
  refine ite_later (endReq_later h) ?_
  split
  · exact barriers_later (updReq_later (fun _ e => e) h)
  · exact ite_later h (endReq_later h)
  · exact mapReq_later h

/-- A request that is presented is refused, or enters the table under the next number. -/
theorem takeRequest_table (r : Present) (s : State) : Later s (takeRequest r s) ∨ Grown s (takeRequest r s) := by
  have h := later_refl s
  have hp : Later s (spendCredit r.p r.isWrite s) := later_keeps (by simp) h
  unfold takeRequest
  dsimp only
  split
  · exact .inl (refusePort_later h)
  · split
    · exact .inl (refusePort_later hp)
    · split
      · exact .inl (refusePort_later hp)
      · split
        · exact .inl (refusePort_later hp)
        · split
          · exact .inl (later_keeps (tagReuse_keeps (by decide) ..) (refusePort_later hp))
          · exact .inr ((grown_addReq rfl hp).later later_addReq)

theorem present_table (r : Present) (s : State) : Later s (present r s) ∨ Grown s (present r s) := by
  have h : Later s (portCycle r.p s) := later_keeps (by simp) (later_refl s)
  have he : ∀ t, Later t (presented r.p t) := fun t => later_keeps (by simp) (later_refl t)
  unfold present
  split
  · refine (takeRequest_table r _).imp (fun h' => (h.trans h').trans (he _)) fun hg => ?_
    refine Grown.later ⟨?_, ?_⟩ (he _)
    · simpa [← h.2.1, reqs_of_seen (portCycle_keeps (by decide) r.p s)] using hg.1
    · simpa [← h.2.1] using hg.2
  · exact .inl (later_refl s)

theorem idsFresh_of_later (hf : idsFresh b) (h : Later b s) : idsFresh s := by
  obtain ⟨hreqs, hnext, -⟩ := h
  refine ⟨hreqs.nodup hf.1, fun r hr => ?_⟩
  obtain ⟨q, hq, e⟩ := List.mem_map.1 (hreqs.subset (List.mem_map_of_mem hr))
  exact e ▸ hnext ▸ hf.2 q hq

theorem idsFresh_of_grown (hf : idsFresh b) (h : Grown b s) : idsFresh s := by
  obtain ⟨hreqs, hnext⟩ := h
  have hid : ∀ n ∈ b.reqs.map Req.id, n < b.nextId := fun n hn => by
    obtain ⟨q, hq, rfl⟩ := List.mem_map.1 hn
    exact hf.2 q hq
  have hnew : (b.reqs.map Req.id ++ [b.nextId]).Nodup :=
    List.nodup_append.2 ⟨hf.1, List.nodup_singleton _, fun n hn m hm e =>
      absurd (hid n hn) (by rw [e, List.mem_singleton.1 hm]; exact lt_irrefl _)⟩
  refine ⟨hreqs.nodup hnew, fun r hr => ?_⟩
  rcases List.mem_append.1 (hreqs.subset (List.mem_map_of_mem hr)) with hn | hn
  · exact hnext ▸ Nat.lt_succ_of_lt (hid _ hn)
  · rw [List.mem_singleton.1 hn, hnext]
    exact Nat.lt_succ_self _

theorem idsFresh_of_seen (e : t.seen 0x1F9FFFFFFFFFFFFFFFFFFFFFFFFFFFFFFFFFFFFFFFFFF =
      s.seen 0x1F9FFFFFFFFFFFFFFFFFFFFFFFFFFFFFFFFFFFFFFFFFF)
    (hf : idsFresh s) : idsFresh t := by
  rw [idsFresh, reqs_of_seen (seen_mono (by decide) e), nextId_of_seen (seen_mono (by decide) e)]
  exact hf

theorem idsFresh_begin (hf : idsFresh s) : idsFresh (begin_ s) := hf

/-- A command's meaning runs on the state without its last outputs. -/
theorem of_run {P : State → Prop} {f : State → State} (h : run f s = .next t) (hp : P (f (begin_ s))) : P t :=
  Host.Outcome.next.inj h ▸ hp

theorem idsFresh_present {r : Present} (hf : idsFresh s) : idsFresh (present r s) :=
  (present_table r s).elim (idsFresh_of_later hf) (idsFresh_of_grown hf)

theorem idsFresh_reservedOpcode {p : PortId} {op : BitVec 4} {h : PeerHdr} (hf : idsFresh s) :
    idsFresh (reservedOpcode p op h s) := by
  unfold reservedOpcode
  dsimp only
  split
  · exact idsFresh_present hf
  · exact hf

theorem reset_idsFresh : idsFresh State.reset := ⟨List.nodup_nil, fun _ h => absurd h List.not_mem_nil⟩

theorem aonRstRelease_later {id : BitVec 10} {en : BitVec 2} {base : BitVec 6} {pfN : Bool} (h : Later b s) :
    Later b (aonRstRelease id en base pfN s) := by
  unfold aonRstRelease
  exact ite_later h (panicUpdate_later (later_keeps (by simp) h))

theorem idle_later (s : State) : Later (begin_ s) (idle s) := by
  have h := later_refl (begin_ s)
  unfold idle
  exact ite_later h (qzTick_later (later_keeps (tick_keeps (by decide) _) h))

/-- A command is reset, one that takes a request, one that may take requests out of the table, or one that does not
touch it. -/
theorem exec_idsFresh {c : Instr} (h : exec c s = .next t) (hf : idsFresh s) : idsFresh t := by
  have hb := later_refl (begin_ s)
  have fresh : ∀ {u}, Later (begin_ s) u → idsFresh u := idsFresh_of_later hf
  cases c with
  | aonRstAssert => exact of_run h reset_idsFresh
  | aonRstRelease => exact of_run h (fresh (aonRstRelease_later hb))
  | pllLock => exact of_run h (fresh (pllLock_later hb))
  | pllLockTimeout => exact of_run h (fresh (pllLockTimeout_later hb))
  | serviceEntry => exact of_run h (fresh (serviceEntry_later hb))
  | registerWrite => exact of_run h (fresh (portWrite_later hb))
  | sqWrite => exact of_run h (fresh (portWrite_later hb))
  | ppWrite => exact of_run h (fresh (portWrite_later hb))
  | ppConfirm => exact of_run h (fresh (ppConfirm_later hb))
  | indexWrite => exact of_run h (fresh (portWrite_later hb))
  | read => exact of_run h (idsFresh_present hf)
  | writeFull => exact of_run h (idsFresh_present hf)
  | writePartial => exact of_run h (idsFresh_present hf)
  | writePoison => exact of_run h (idsFresh_present hf)
  | barrier => exact of_run h (idsFresh_present hf)
  | peerMirrorWrite => exact of_run h (idsFresh_present hf)
  | peerMirrorRead => exact of_run h (idsFresh_present hf)
  | peerMessage => exact of_run h (idsFresh_present hf)
  | reservedOpcode => exact of_run h (idsFresh_reservedOpcode hf)
  | writeDataBeat => exact of_run h (fresh (writeDataBeat_later hb))
  | portTransactionTimeout => exact of_run h (fresh (portTransactionTimeout_later hb))
  | rtpUrgentChange => exact of_run h (fresh (rtpUrgentChange_later hb))
  | egpRequestIssue => exact of_run h (fresh (egpIssue_later hb))
  | egpResponse => exact of_run h (fresh (egpResponse_later hb))
  | egpSlotTimeout => exact of_run h (fresh (egpTimeout_later hb))
  | qzHoldExpiry => exact of_run h (fresh (qzHoldExpiry_later hb))
  | qzReqFall => exact of_run h (fresh (qzReqFall_later hb))
  | deepPauseExitDone => exact of_run h (fresh (deepPauseExitDone_later hb))
  | ingressSelect => exact of_run h (fresh (ingressSelect_later hb))
  | mntArbitrate => exact of_run h (fresh (mntArbitrate_later hb))
  | schedulerIssue => exact of_run h (fresh (schedulerIssue_later hb))
  | readDecode => exact of_run h (fresh (readDecode_later hb))
  | mergeReadDecode => exact of_run h (fresh (mergeReadDecode_later hb))
  | writeBurstDone => exact of_run h (fresh (writeBurstDone_later hb))
  | heldReadRelease => exact of_run h (fresh (heldReadRelease_later hb))
  | alertRecognised => exact of_run h (fresh (alertRecognised_later hb))
  | channelRecoveryDone => exact of_run h (fresh (recoveryDone_later hb))
  | channelRecoveryTimeout => exact of_run h (fresh (recoveryTimeout_later hb))
  | refillTick => exact of_run h (fresh (refillTick_later hb))
  | gearChangeDone => exact of_run h (fresh (gearChangeDone_later hb))
  | dormantWake => exact of_run h (fresh (dormantWake_later hb))
  | wakeComplete => exact of_run h (fresh (wakeComplete_later hb))
  | pfNFall => exact of_run h (fresh (pfNFall_later hb))
  | heartbeatLoss => exact of_run h (fresh (heartbeatLoss_later hb))
  | joinTimeout => exact of_run h (fresh (joinTimeout_later hb))
  | heartbeat => exact of_run h (fresh (heartbeat_later hb))
  | staleReply => exact of_run h (fresh (staleReplyMsg_later hb))
  | roleChange => exact of_run h (fresh (roleChange_later hb))
  | hello => exact of_run h (fresh (hello_later hb))
  | poisonLine => exact of_run h (fresh (poisonLine_later hb))
  | roleChangeInitiate => exact of_run h (fresh (roleInitiate_later hb))
  | roleChangeConfirmTimeout => exact of_run h (fresh (roleTimeout_later hb))
  | mirBreak => exact of_run h (fresh (confirmRow_later hb))
  | mirTakeover => exact of_run h (fresh (confirmRow_later hb))
  | reloadQuiescePoint => exact of_run h (fresh (reloadQuiescePoint_later hb))
  | _ => exact idsFresh_of_seen (seen_mono (by dsimp only [parts]; decide) (exec_parts h)) hf

theorem step_idsFresh (h : step s = .next t) (hf : idsFresh s) : idsFresh t := by
  unfold step at h
  split at h
  · exact Host.Outcome.next.inj h ▸ idsFresh_of_later (idsFresh_begin hf) (idle_later s)
  · exact exec_idsFresh h hf

end Sys2Proof.Machine

namespace Sys2Proof

open Sys2Proof.Machine

/-- Settles O57: a step takes requests out of the table, or enters one under the next number. -/
theorem requestNumbersStayFresh : Obligations.RequestNumbersStayFresh := fun _ _ hf h => step_idsFresh h hf

/-- Settles O58. -/
theorem invariantsAtReset : Obligations.InvariantsAtReset := ⟨Nat.zero_le _, reset_idsFresh⟩

end Sys2Proof
end

section
/-! SUPPORT. The controller state: which operations change it, and to what. -/

namespace Sys2Proof.Machine

variable {b s t : State}

theorem ctl_keeps {c : Ctl}
    (e : t.seen 0x1FFFFFFFFFFFFFFFFFFFFFFFFFFFFFFFFFFFFFFFFFFFE =
      s.seen 0x1FFFFFFFFFFFFFFFFFFFFFFFFFFFFFFFFFFFFFFFFFFFE)
    (h : s.glb.ctl = c) : t.glb.ctl = c := (glb_ctl_of_seen e).trans h

@[simp] theorem halt_ctl (cause : Byte) (s : State) : (halt cause s).glb.ctl = .halted := enter_ctl _ _

theorem castOn_of_atStep {n : Byte} (h : atStep s n = true) : s.glb.ctl = .castOn := by
  simp only [atStep, Bool.and_eq_true, decide_eq_true_eq] at h
  exact h.1

/-- Cast-On goes on, or ends in HALTED. -/
def Halts (b s : State) : Prop := s.glb.ctl = b.glb.ctl ∨ (b.glb.ctl = .castOn ∧ s.glb.ctl = .halted)

theorem halts_refl (s : State) : Halts s s := .inl rfl

theorem halts_keeps
    (e : t.seen 0x1FFFFFFFFFFFFFFFFFFFFFFFFFFFFFFFFFFFFFFFFFFFE =
      s.seen 0x1FFFFFFFFFFFFFFFFFFFFFFFFFFFFFFFFFFFFFFFFFFFE)
    (h : Halts b s) : Halts b t := by
  rwa [Halts, glb_ctl_of_seen e]

theorem halts_halt {cause : Byte} (hc : b.glb.ctl = .castOn) : Halts b (halt cause s) := .inr ⟨hc, halt_ctl _ _⟩

theorem ite_halts {c : Prop} [Decidable c] (hs : Halts b s) (ht : Halts b t) : Halts b (if c then s else t) := by
  split
  · exact hs
  · exact ht

theorem fetchFail_halts {f : Fetch} {cause : Byte} {reason : Nat} (h : Halts b s) :
    Halts b (fetchFail f cause reason s) := by
  unfold fetchFail
  refine ite_halts (halts_keeps (by simp) h) ?_
  have h' : Halts b (updImg (fun i => { i with fetch := none }) s) := halts_keeps (by simp) h
  by_cases hs : s.glb.ctl = .castOn
  · have hb : b.glb.ctl = .castOn := h.elim (fun e => e ▸ hs) (fun e => e.1)
    exact ite_halts (halts_halt hb) h'
  · simpa [onlyIf, hs] using h'

theorem headerSeen_halts {f : Fetch} (h : Halts b s) : Halts b (headerSeen f s) := by
  unfold headerSeen
  exact ite_halts (halts_keeps (by simp) h) (fetchFail_halts (halts_keeps (by simp) h))

theorem imgWordAck_halts {data : Word} {err : Bool} (h : Halts b s) : Halts b (imgWordAck data err s) := by
  unfold imgWordAck
  split
  · exact h
  · next f _ =>
    refine ite_halts h (ite_halts (fetchFail_halts (halts_keeps (by simp) h)) ?_)
    have last : ∀ u, Halts b u → Halts b (if (!f.reload && fetchedAll u) = true then
        toStep 3 (updImg (fun i => { i with fetch := none }) u) else u) :=
      fun u h => ite_halts (halts_keeps (by simp) h) h
    exact last _ (ite_halts (headerSeen_halts (halts_keeps (by simp) h)) (halts_keeps (by simp) h))

theorem imgWordTimeout_halts (h : Halts b s) : Halts b (imgWordTimeout s) := by
  unfold imgWordTimeout
  split
  · exact h
  · exact ite_halts h (fetchFail_halts (halts_keeps (by simp) h))

section
variable (hc : b.glb.ctl = .castOn)
include hc

theorem orHalt_halts (h : Halts b s) : Halts b (orHalt s) := ite_halts h (halts_halt hc)

theorem carveStart_halts (h : Halts b s) : Halts b (carveStart s) := by
  unfold carveStart
  refine ite_halts (halts_halt hc) (halts_keeps (forAll_keeps _ _ _ fun c s => ?_) (halts_keeps (by simp) h))
  rw [sysFill_keeps (by decide), onlyIf_keeps _ _ _ (carveCold_keeps (by decide) c s)]

theorem trainingEnd_halts (h : Halts b s) : Halts b (trainingEnd s) := by
  unfold trainingEnd
  exact carveStart_halts hc (halts_keeps (by simp) h)

theorem gearsGoOn_halts {ret : Option RetentionRead} {c : Ch} (h : Halts b s) : Halts b (gearsGoOn ret c s) := by
  unfold gearsGoOn
  have h1 := fun p : Bool => ite_halts (c := p = true) (halts_keeps (readBack_keeps (by decide) c ret s) h) h
  exact ite_halts (ite_halts (trainingEnd_halts hc (h1 _)) (halts_keeps (by simp) h)) (h1 _)

theorem takeOffline_halts {c : Ch} {k : Nat} (h : Halts b s) : Halts b (takeOffline c k s) := by
  unfold takeOffline
  exact ite_halts (halts_keeps (by simp) h)
    (ite_halts (halts_keeps (by simp) h) (orHalt_halts hc (halts_keeps (by simp) h)))

theorem csFailed_halts {x : Sc} {k : Nat} (h : Halts b s) : Halts b (csFailed x k s) := by
  unfold csFailed
  exact ite_halts (takeOffline_halts hc (halts_keeps (by simp) h))
    (ite_halts (ite_halts (takeOffline_halts hc (halts_keeps (by simp) h)) (halts_halt hc)) (halts_keeps (by simp) h))

theorem stepAgain_halts {x : Sc} {k : Nat} (h : Halts b s) : Halts b (stepAgain x k s) := by
  unfold stepAgain
  exact ite_halts (halts_keeps (by simp) h) (csFailed_halts hc h)

theorem stepFailed_halts {x : Sc} {k : Nat} (h : Halts b s) : Halts b (stepFailed x k s) := by
  unfold stepFailed
  exact ite_halts (halts_keeps (by simp) h) (stepAgain_halts hc h)

theorem afterStep_halts {x : Sc} {ret : Option RetentionRead} (h : Halts b s) : Halts b (afterStep x ret s) := by
  unfold afterStep
  exact ite_halts (gearsGoOn_halts hc h) h

end

theorem halts_next
    (e : t.seen 0x1FFFFFFFFFFFFFFFFFFFFFFFFFFFFFFFFFFFFFFFFFFFE =
      s.seen 0x1FFFFFFFFFFFFFFFFFFFFFFFFFFFFFFFFFFFFFFFFFFFE) :
    Halts s t := halts_keeps e (halts_refl s)

theorem imgVerifyDone_halts (s : State) : Halts s (imgVerifyDone s) := by
  unfold imgVerifyDone
  split
  · exact halts_refl s
  · next hn =>
    have hc : s.glb.ctl = .castOn := castOn_of_atStep (n := 3) (by simpa using hn)
    exact ite_halts (halts_halt hc) (halts_next (by simp))

theorem castOn_of_fuseRd (h : fuseRd s = true) : s.glb.ctl = .castOn := by
  simp only [fuseRd, Bool.and_eq_true] at h
  exact castOn_of_atStep h.1.1

theorem fuseWordAck_halts (data : Word) (s : State) : Halts s (fuseWordAck data s) := by
  unfold fuseWordAck
  split
  · exact halts_refl s
  · next hn =>
    have hc : s.glb.ctl = .castOn := castOn_of_fuseRd (by simpa using hn)
    exact ite_halts (halts_next (by simp)) (ite_halts (halts_next (by simp)) (halts_halt hc))

theorem fuseWordTimeout_halts (s : State) : Halts s (fuseWordTimeout s) := by
  unfold fuseWordTimeout
  split
  · next hn => exact halts_halt (castOn_of_fuseRd hn)
  · exact halts_refl s

theorem phyZqDone_halts (atEnd : Bool) (s : State) : Halts s (phyZqDone atEnd s) := by
  unfold phyZqDone
  split
  · exact halts_refl s
  · next hn =>
    have hc : s.glb.ctl = .castOn := castOn_of_atStep (n := 6) (by simpa using hn)
    exact ite_halts (halts_halt hc) (halts_next (by simp))

theorem phyZqTimeout_halts (s : State) : Halts s (phyZqTimeout s) := by
  unfold phyZqTimeout
  split
  · next hn => exact halts_halt (castOn_of_atStep hn)
  · exact halts_refl s

theorem sidebandDone_halts (s : State) : Halts s (sidebandDone s) := by
  unfold sidebandDone
  split
  · exact halts_refl s
  · next hn =>
    have hc : s.glb.ctl = .castOn := castOn_of_atStep (n := 7) (by simpa using hn)
    have last : ∀ u, Halts s u → Halts s (if u.glb.ctl = .castOn then dimmInitStart u else u) := fun u h =>
      ite_halts (halts_keeps (by simp) h) h
    exact ite_halts (halts_halt hc) (last _ (orHalt_halts hc (halts_next (by simp))))

theorem trainingStart_halts (h : Halts b s) :
    Halts b (if (s.glb.ctl = .castOn && allInit s) = true then trainingStart s else s) :=
  ite_halts (halts_keeps (by simp) h) h

theorem dimmInitDone_halts (c : Ch) (r : InitReport) (s : State) : Halts s (dimmInitDone c r s) := by
  unfold dimmInitDone
  split
  · exact halts_refl s
  · next hn =>
    have hc : s.glb.ctl = .castOn := castOn_of_atStep (n := 8) (by simp_all)
    exact trainingStart_halts (ite_halts (halts_next (by simp))
      (ite_halts (halts_halt hc) (orHalt_halts hc (halts_next (by simp)))))

theorem dimmInitTimeout_halts (c : Ch) (s : State) : Halts s (dimmInitTimeout c s) := by
  unfold dimmInitTimeout
  split
  · exact halts_refl s
  · next hn =>
    have hc : s.glb.ctl = .castOn := castOn_of_atStep (n := 8) (by simp_all)
    exact trainingStart_halts (orHalt_halts hc (halts_next (by simp)))

theorem trainingStepDone_halts (x : Sc) (r : TrainResult) (ret : Option RetentionRead) (s : State) :
    Halts s (trainingStepDone x r ret s) := by
  unfold trainingStepDone
  split
  · exact halts_refl s
  · next hn =>
    have hc : s.glb.ctl = .castOn := castOn_of_atStep (n := 9) (by simp_all)
    split
    · exact halts_refl s
    · next k _ _ =>
      have h0 : Halts s (stepCmds x k r (grant x 2 s)) := halts_next (by simp)
      have hout : Halts s ((stepOutcome x k (stepCode s x) r (stepCmds x k r (grant x 2 s))).getD
          (stepCmds x k r (grant x 2 s))) := by
        cases h : stepOutcome x k (stepCode s x) r (stepCmds x k r (grant x 2 s)) with
        | none => exact h0
        | some u => exact halts_keeps (stepOutcome_keeps (by decide) h) h0
      exact ite_halts (halts_refl s) (afterStep_halts hc
        (ite_halts (halts_keeps (by simp) hout) (stepFailed_halts hc (halts_keeps (by simp) hout))))

theorem trainingStepTimeout_halts (x : Sc) (ret : Option RetentionRead) (s : State) :
    Halts s (trainingStepTimeout x ret s) := by
  unfold trainingStepTimeout
  split
  · exact halts_refl s
  · next hn =>
    have hc : s.glb.ctl = .castOn := castOn_of_atStep (n := 9) (by simp_all)
    split
    · exact halts_refl s
    · exact afterStep_halts hc (stepAgain_halts hc (halts_next (by simp)))

theorem carveOutWatchdog_halts (x : Sc) (s : State) : Halts s (carveOutWatchdog x s) := by
  unfold carveOutWatchdog
  split
  · next hn => exact halts_halt (castOn_of_atStep hn)
  · exact halts_refl s

theorem pllLockTimeout_ctl (s : State) :
    Halts s (pllLockTimeout s) ∨ (s.glb.ctl = .dormant ∧ (pllLockTimeout s).glb.ctl = .halted) := by
  unfold pllLockTimeout
  split
  · next hn =>
    dsimp only
    split
    · have hh : ∀ u, (panicUpdate (dropDeferred (halt 0x06 u))).glb.ctl = .halted := fun u =>
        (glb_ctl_of_seen (by simp) : _ = (halt 0x06 u).glb.ctl).trans (halt_ctl _ _)
      rcases Bool.or_eq_true_iff.1 hn with hc | hd
      · exact .inl (.inr ⟨castOn_of_atStep hc, hh _⟩)
      · exact .inr ⟨by simp_all, hh _⟩
    · exact .inl (halts_next (by simp))
  · exact .inl (halts_refl s)

theorem pauseStarts_ctl (s : State) : (pauseStarts s).glb.ctl = .quiesced := by
  unfold pauseStarts
  dsimp only
  split
  · exact (glb_ctl_of_seen (by simp) : _ = (enter .quiesced (cycleEnds true s)).glb.ctl).trans (enter_ctl _ _)
  · exact enter_ctl _ _

/-- The point at which SERVICE is entered, or a pause that waited takes effect (R80). -/
theorem arriveService_ctl (s : State) :
    (arriveService s).glb.ctl = .service ∨ ((arriveService s).glb.ctl = .quiesced ∧ s.qz.ph = .deferred) := by
  have judged : ∀ u, (panicUpdate u).glb.ctl = u.glb.ctl := fun u => glb_ctl_of_seen (by simp)
  have pumped : ∀ u, (servicePump u).glb.ctl = u.glb.ctl := fun u => glb_ctl_of_seen (by simp)
  have served : ∀ u, (enterService u).glb.ctl = .service := fun u => enter_ctl _ _
  unfold arriveService
  dsimp only
  rw [judged]
  split
  · next hd =>
    split
    · exact .inl ((pumped _).trans (ctl_keeps (by simp) (served (cycleEnds true s))))
    · exact .inr ⟨pauseStarts_ctl _, by simpa using hd⟩
  · exact .inl ((pumped _).trans (served _))

/-- A pause goes on, or ends with SERVICE. -/
def Resumes (b s : State) : Prop := s.glb.ctl = b.glb.ctl ∨ (b.glb.ctl = .quiesced ∧ s.glb.ctl = .service)

theorem finishPause_resumes (s : State) : Resumes s (finishPause s) := by
  have acked : ∀ u, (ackFalls u).glb.ctl = u.glb.ctl := fun u => glb_ctl_of_seen (by simp)
  unfold finishPause
  dsimp only
  rw [Resumes, acked]
  split
  · next hq => exact (arriveService_ctl _).elim (fun h => .inr ⟨hq, h⟩) (fun h => absurd h.2 (by simp))
  · exact .inl rfl

theorem endPause_resumes (s : State) : Resumes s (endPause s) := by
  unfold endPause
  split
  · exact .inl rfl
  · split
    · exact .inl rfl
    · exact finishPause_resumes s

theorem qzHoldExpiry_resumes (s : State) : Resumes s (qzHoldExpiry s) := by
  unfold qzHoldExpiry
  split
  · exact .inl rfl
  · exact endPause_resumes s

theorem qzReqFall_resumes (s : State) : Resumes s (qzReqFall s) := by
  have acked : ∀ u, (ackFalls u).glb.ctl = u.glb.ctl := fun u => glb_ctl_of_seen (by simp)
  unfold qzReqFall
  split
  · exact .inl rfl
  · rw [Resumes, acked]
    exact endPause_resumes (updQz (fun q => { q with req := false }) s)

theorem qzTick_resumes (s : State) : Resumes s (qzTick s) := by
  unfold qzTick
  split
  · exact .inl rfl
  · split
    · exact endPause_resumes s
    · exact .inl (glb_ctl_of_seen (by simp))

theorem deepPauseExitDone_resumes (s : State) : Resumes s (deepPauseExitDone s) := by
  have awake : (srExitAll s).glb.ctl = s.glb.ctl := glb_ctl_of_seen (by simp)
  unfold deepPauseExitDone
  split
  · simpa only [Resumes, awake] using finishPause_resumes (srExitAll s)
  · exact .inl rfl

theorem idle_resumes (s : State) : Resumes s (idle s) := by
  have ticked : (tick (begin_ s)).glb.ctl = s.glb.ctl := glb_ctl_of_seen (by simp)
  unfold idle
  split
  · exact .inl rfl
  · simpa only [Resumes, ticked] using qzTick_resumes (tick (begin_ s))

theorem aonRstRelease_ctl (id : BitVec 10) (en : BitVec 2) (base : BitVec 6) (pfN : Bool) (s : State) :
    (aonRstRelease id en base pfN s).glb.ctl = s.glb.ctl ∨
      (s.glb.ctl = .reset ∧ (aonRstRelease id en base pfN s).glb.ctl = .castOn) := by
  unfold aonRstRelease
  split
  · exact .inl rfl
  · next hr =>
    exact .inr ⟨by simpa using hr, ctl_keeps (panicUpdate_keeps (by decide) _)
      (ctl_keeps (toStep_keeps (by decide) ..) (enter_ctl _ _))⟩

theorem serviceEntry_ctl (s : State) :
    (serviceEntry s).glb.ctl = s.glb.ctl ∨
      (s.glb.ctl = .castOn ∧ ((serviceEntry s).glb.ctl = .service ∨ (serviceEntry s).glb.ctl = .quiesced)) := by
  unfold serviceEntry
  split
  · exact .inl rfl
  · next hn =>
    exact .inr ⟨castOn_of_atStep (n := 0x0B) (by simp_all), (arriveService_ctl _).imp_right And.left⟩

theorem pauseTakeEffect_ctl (s : State) :
    (pauseTakeEffect s).glb.ctl = s.glb.ctl ∨ (s.glb.ctl = .service ∧ (pauseTakeEffect s).glb.ctl = .quiesced) := by
  unfold pauseTakeEffect
  split
  · next hn => exact .inr ⟨by simp_all, pauseStarts_ctl s⟩
  · exact .inl rfl

theorem gearChangeEnter_ctl (s : State) :
    (gearChangeEnter s).glb.ctl = s.glb.ctl ∨ (s.glb.ctl = .service ∧ (gearChangeEnter s).glb.ctl = .gearChange) := by
  unfold gearChangeEnter
  split
  · exact .inl rfl
  · split
    · exact .inl rfl
    · next hn => exact .inr ⟨by simp_all, ctl_keeps (forAll_keeps _ _ _ fun _ _ => stopAll_keeps (by decide) ..)
        (ctl_keeps (fullDrain_keeps (by decide) _) (enter_ctl _ _))⟩

theorem gearChangeDone_ctl (ok : Bool) (s : State) :
    (gearChangeDone ok s).glb.ctl = s.glb.ctl ∨ (s.glb.ctl = .gearChange ∧
      ((gearChangeDone ok s).glb.ctl = .service ∨ (gearChangeDone ok s).glb.ctl = .quiesced)) := by
  unfold gearChangeDone
  split
  · exact .inl rfl
  · split
    · exact .inl rfl
    · next hn => exact .inr ⟨by simp_all, (arriveService_ctl _).imp_right And.left⟩

theorem dormantEntry_ctl (s : State) :
    (dormantEntry s).glb.ctl = s.glb.ctl ∨ (s.glb.ctl = .service ∧ (dormantEntry s).glb.ctl = .dormant) := by
  unfold dormantEntry
  split
  · next hn =>
    exact .inr ⟨by simp_all [mayDoze], ctl_keeps (sqSet_keeps _ _ _ (by simp))
      (enter_ctl .dormant (updPwr (fun p => { p with dormantAt := s.glb.now }) s))⟩
  · exact .inl rfl

theorem wakeComplete_ctl (s : State) :
    (wakeComplete s).glb.ctl = s.glb.ctl ∨ (s.glb.ctl = .dormant ∧
      ((wakeComplete s).glb.ctl = .service ∨ (wakeComplete s).glb.ctl = .quiesced)) := by
  have played : ∀ u, (playDeferred u).glb.ctl = u.glb.ctl := fun u => glb_ctl_of_seen (by simp)
  unfold wakeComplete
  split
  · next hn =>
    refine .inr ⟨by simp_all, ?_⟩
    dsimp only
    rw [played]
    split
    · exact .inr (ctl_keeps (panicUpdate_keeps (by decide) _) (enter_ctl _ _))
    · exact (arriveService_ctl _).imp_right And.left
  · exact .inl rfl

theorem pfNFall_ctl (s : State) :
    (pfNFall s).glb.ctl = s.glb.ctl ∨ (s.glb.ctl ≠ .reset ∧ s.glb.ctl ≠ .held ∧ (pfNFall s).glb.ctl = .bindOff) := by
  have fell : ∀ bo u, (gearPowerFail (updImg (fun i => { i with fetch := none }) (reloadPowerFail
      (updQz (fun q => { q with ph := .idle, ack := false, paused := false })
        (dropDeferred (updPwr (fun p => { p with bo := some bo }) (enter .bindOff u))))))).glb.ctl = .bindOff :=
    fun bo u => ctl_keeps (by simp) (enter_ctl .bindOff u)
  have spread : ∀ u, (fullDrain (boWake (boRefresh (boMaint (boRas (boDirty (glgPowerFail
      (forAll (fins 4) stopAll u)))))))).glb.ctl = u.glb.ctl := fun u => glb_ctl_of_seen (by simp)
  unfold pfNFall
  dsimp only
  split
  · exact .inl rfl
  · exact .inl rfl
  · exact .inl rfl
  · next hr hh _ =>
    refine .inr ⟨hr, hh, ?_⟩
    split
    · exact ctl_keeps (panicUpdate_keeps (by decide) _) (ctl_keeps (glgPowerFail_keeps (by decide) _) (fell _ _))
    · exact (spread _).trans (fell _ _)

theorem bindOffComplete_ctl (s : State) :
    (bindOffComplete s).glb.ctl = s.glb.ctl ∨ (s.glb.ctl = .bindOff ∧ (bindOffComplete s).glb.ctl = .held) := by
  unfold bindOffComplete
  split
  · exact .inl rfl
  · split
    · exact .inl rfl
    · next hn => exact .inr ⟨by simp_all, ctl_keeps (boRecord_keeps (by decide) ..) (enter_ctl _ _)⟩

theorem restartEnter_ctl (s : State) : (restartEnter s).glb.ctl = .castOn := by
  have started : ∀ u, (regSet64 0x48 0 (toStep 5 (enter .castOn u))).glb.ctl = .castOn := fun u =>
    ctl_keeps (by simp) (enter_ctl .castOn u)
  unfold restartEnter
  dsimp only
  exact ctl_keeps (updGlb_keeps _ _ rfl) (started _)

theorem reloadQuiescePoint_ctl (s : State) :
    (reloadQuiescePoint s).glb.ctl = s.glb.ctl ∨ (s.glb.ctl = .service ∧ (reloadQuiescePoint s).glb.ctl = .castOn) := by
  unfold reloadQuiescePoint
  dsimp only
  split
  · exact .inl rfl
  · next hn =>
    split
    · split
      · split
        · exact .inl (glb_ctl_of_seen (by simp))
        · exact .inl rfl
      · exact .inl (glb_ctl_of_seen (by simp))
    · split
      · exact .inr ⟨by simp_all, restartEnter_ctl s⟩
      · exact .inl rfl

/-- The command leaves the controller state, or takes it along one of its arrows. -/
def Follows (c : Instr) (b s : State) : Prop := s.glb.ctl = b.glb.ctl ∨ ctlEdge b.glb.ctl s.glb.ctl (some c) = true

theorem follows_of_halts {c : Instr} (hc : ctlEdge .castOn .halted (some c) = true) (h : Halts b s) : Follows c b s :=
  h.imp_right fun ⟨hb, hs⟩ => by rw [hb, hs, hc]

theorem follows_of_resumes {c : Instr} (hc : ctlEdge .quiesced .service (some c) = true) (h : Resumes b s) :
    Follows c b s :=
  h.imp_right fun ⟨hb, hs⟩ => by rw [hb, hs, hc]

/-- An arrow from one state to another. -/
theorem follows_of_edge {c : Instr} {p q : Ctl} (hc : ctlEdge p q (some c) = true)
    (h : s.glb.ctl = b.glb.ctl ∨ (b.glb.ctl = p ∧ s.glb.ctl = q)) : Follows c b s :=
  h.imp_right fun ⟨hb, hs⟩ => by rw [hb, hs, hc]

theorem follows_of_fork {c : Instr} {p q r : Ctl} (hq : ctlEdge p q (some c) = true) (hr : ctlEdge p r (some c) = true)
    (h : s.glb.ctl = b.glb.ctl ∨ (b.glb.ctl = p ∧ (s.glb.ctl = q ∨ s.glb.ctl = r))) : Follows c b s :=
  h.imp_right fun ⟨hb, hs⟩ => hs.elim (fun hs => by rw [hb, hs, hq]) (fun hs => by rw [hb, hs, hr])

theorem pllLockTimeout_follows (s : State) : Follows .pllLockTimeout s (pllLockTimeout s) :=
  (pllLockTimeout_ctl s).elim (follows_of_halts rfl) fun h => follows_of_edge rfl (.inr h)

theorem pfNFall_follows (s : State) : Follows .pfNFall s (pfNFall s) :=
  (pfNFall_ctl s).imp_right fun ⟨hr, hh, hb⟩ => by
    show (decide (s.glb.ctl ≠ .reset) && decide (s.glb.ctl ≠ .held) && decide ((pfNFall s).glb.ctl = .bindOff)) = true
    simp [hr, hh, hb]

theorem follows_run {c : Instr} {f : State → State} (h : run f s = .next t) (hp : Follows c (begin_ s) (f (begin_ s))) :
    Follows c s t := of_run (P := Follows c s) h hp

theorem exec_follows {c : Instr} (h : exec c s = .next t) : Follows c s t := by
  cases c with
  | aonRstAssert => exact follows_run h (.inr rfl)
  | aonRstRelease => exact follows_run h (follows_of_edge rfl (aonRstRelease_ctl ..))
  | imgWordAck => exact follows_run h (follows_of_halts rfl (imgWordAck_halts (halts_refl _)))
  | imgWordTimeout => exact follows_run h (follows_of_halts rfl (imgWordTimeout_halts (halts_refl _)))
  | imgVerifyDone => exact follows_run h (follows_of_halts rfl (imgVerifyDone_halts _))
  | fuseWordAck => exact follows_run h (follows_of_halts rfl (fuseWordAck_halts ..))
  | fuseWordTimeout => exact follows_run h (follows_of_halts rfl (fuseWordTimeout_halts _))
  | pllLockTimeout => exact follows_run h (pllLockTimeout_follows _)
  | phyZqDone => exact follows_run h (follows_of_halts rfl (phyZqDone_halts ..))
  | phyZqTimeout => exact follows_run h (follows_of_halts rfl (phyZqTimeout_halts _))
  | sidebandDone => exact follows_run h (follows_of_halts rfl (sidebandDone_halts _))
  | dimmInitDone => exact follows_run h (follows_of_halts rfl (dimmInitDone_halts ..))
  | dimmInitTimeout => exact follows_run h (follows_of_halts rfl (dimmInitTimeout_halts ..))
  | trainingStepDone => exact follows_run h (follows_of_halts rfl (trainingStepDone_halts ..))
  | trainingStepTimeout => exact follows_run h (follows_of_halts rfl (trainingStepTimeout_halts ..))
  | carveOutWatchdog => exact follows_run h (follows_of_halts rfl (carveOutWatchdog_halts ..))
  | serviceEntry => exact follows_run h (follows_of_fork rfl rfl (serviceEntry_ctl _))
  | pauseTakeEffect => exact follows_run h (follows_of_edge rfl (pauseTakeEffect_ctl _))
  | qzHoldExpiry => exact follows_run h (follows_of_resumes rfl (qzHoldExpiry_resumes _))
  | qzReqFall => exact follows_run h (follows_of_resumes rfl (qzReqFall_resumes _))
  | deepPauseExitDone => exact follows_run h (follows_of_resumes rfl (deepPauseExitDone_resumes _))
  | gearChangeEnter => exact follows_run h (follows_of_edge rfl (gearChangeEnter_ctl _))
  | gearChangeDone => exact follows_run h (follows_of_fork rfl rfl (gearChangeDone_ctl ..))
  | dormantEntry => exact follows_run h (follows_of_edge rfl (dormantEntry_ctl _))
  | wakeComplete => exact follows_run h (follows_of_fork rfl rfl (wakeComplete_ctl _))
  | pfNFall => exact follows_run h (pfNFall_follows _)
  | bindOffComplete => exact follows_run h (follows_of_edge rfl (bindOffComplete_ctl _))
  | reloadQuiescePoint => exact follows_run h (follows_of_edge rfl (reloadQuiescePoint_ctl _))
  | _ => exact .inl (glb_ctl_of_seen (seen_mono (by dsimp only [parts]; decide) (exec_parts h)))

theorem step_follows (h : step s = .next t) :
    t.glb.ctl = s.glb.ctl ∨ ctlEdge s.glb.ctl t.glb.ctl s.pending.head? = true := by
  unfold step at h
  split at h
  · next hp =>
    rw [hp, ← Host.Outcome.next.inj h]
    exact (idle_resumes s).imp_right fun ⟨hb, hs⟩ => by rw [hb, hs]; rfl
  · next c rest hp =>
    rw [hp]
    exact exec_follows (s := { s with pending := rest }) h

/-- No arrow but that of the assertion of reset leaves HELD, and BIND_OFF is left only to HELD. -/
theorem ctlEdge_sealed {p q : Ctl} {c : Option Instr} (hp : p ∈ [Ctl.bindOff, .held]) (hc : c ≠ some .aonRstAssert)
    (h : ctlEdge p q c = true) : q = p ∨ (p = .bindOff ∧ q = .held) := by
  have hp' : p = .bindOff ∨ p = .held := by simpa using hp
  cases c with
  | none => rcases hp' with rfl | rfl <;> exact absurd h Bool.false_ne_true
  | some c =>
    cases c with
    | aonRstAssert => exact absurd rfl hc
    | pfNFall =>
      have hq : (decide (p ≠ .reset) && decide (p ≠ .held) && decide (q = .bindOff)) = true := h
      rcases hp' with rfl | rfl
      · exact .inl (by simpa using hq)
      · exact absurd hq (by simp)
    | bindOffComplete =>
      have hq : (decide (p = .bindOff) && decide (q = .held)) = true := h
      exact .inr (by simpa using hq)
    | _ => rcases hp' with rfl | rfl <;> exact absurd h Bool.false_ne_true

end Sys2Proof.Machine

namespace Sys2Proof

open Sys2Proof.Machine

/-- Settles O59: each command keeps the controller state or follows its arrow, and no arrow but that of reset leaves
HELD or leads from BIND_OFF elsewhere than to HELD. -/
theorem controllerStates : Obligations.ControllerStates :=
  ⟨fun _ _ h => step_follows h, fun _ _ h hs hc => (step_follows h).elim .inl fun e => ctlEdge_sealed hs hc e⟩

end Sys2Proof
end

section
/-! SUPPORT. A request at its port: the cycle it is presented in, its credit, a refusal, and its record in the table. -/

namespace Sys2Proof.Machine

variable {s t : State}

/-! ### The port cycle and the credit -/

theorem portCycle_eq (p : PortId) (s : State) : portCycle p s = { s with ports := (portCycle p s).ports } := by
  unfold portCycle
  split <;> rfl

/-- A cycle that ends changes only the level of hold and what was seen in it. -/
theorem portCycle_get (p q : PortId) (s : State) :
    ∃ held seen, (portCycle p s).ports.get q = { s.ports.get q with held := held, seen := seen } := by
  unfold portCycle
  split
  · exact ⟨_, _, vget_map ..⟩
  · exact ⟨_, _, rfl⟩

theorem portCycle_begin (p : PortId) (s : State) : (portCycle p (begin_ s)).ports = (portCycle p s).ports := by
  have e : (begin_ s).ports = s.ports := rfl
  unfold portCycle
  rw [e]
  split <;> rfl

/-- The state in which a request of port p is judged: the port has sampled it and spent its credit. -/
def judged (p : PortId) (wr : Bool) (s : State) : State := spendCredit p wr (portCycle p (begin_ s))

theorem judged_def (p : PortId) (wr : Bool) (s : State) : spendCredit p wr (portCycle p (begin_ s)) = judged p wr s := rfl

theorem judged_eq (p : PortId) (wr : Bool) (s : State) :
    judged p wr s = { begin_ s with ports := (judged p wr s).ports } := by
  unfold judged
  rw [portCycle_eq]
  rfl

@[simp] theorem judged_glb (p : PortId) (wr : Bool) (s : State) : (judged p wr s).glb = s.glb := by rw [judged_eq]; rfl
@[simp] theorem judged_regs (p : PortId) (wr : Bool) (s : State) : (judged p wr s).regs = s.regs := by rw [judged_eq]; rfl
@[simp] theorem judged_reqs (p : PortId) (wr : Bool) (s : State) : (judged p wr s).reqs = s.reqs := by rw [judged_eq]; rfl
@[simp] theorem judged_nextId (p : PortId) (wr : Bool) (s : State) : (judged p wr s).nextId = s.nextId := by
  rw [judged_eq]; rfl
@[simp] theorem judged_mir (p : PortId) (wr : Bool) (s : State) : (judged p wr s).mir = s.mir := by rw [judged_eq]; rfl
@[simp] theorem judged_alert (p : PortId) (wr : Bool) (s : State) : (judged p wr s).alert = s.alert := by rw [judged_eq]; rfl
@[simp] theorem judged_out (p : PortId) (wr : Bool) (s : State) : (judged p wr s).out = [] := by rw [judged_eq]; rfl

theorem judged_get (p : PortId) (wr : Bool) (s : State) : ∃ held seen, (judged p wr s).ports.get p =
    { s.ports.get p with
      held := held, seen := seen
      wrHeld := (s.ports.get p).wrHeld - b2n wr, rdHeld := (s.ports.get p).rdHeld - b2n !wr } := by
  obtain ⟨held, seen, e⟩ := portCycle_get p p (begin_ s)
  refine ⟨held, seen, ?_⟩
  simp only [judged, spendCredit, updPort, vget_vmod_same, e]
  cases wr <;> rfl

theorem hasCredit_portCycle (p : PortId) (wr : Bool) (s : State) : hasCredit (portCycle p (begin_ s)) p wr = hasCredit s p wr := by
  obtain ⟨held, seen, e⟩ := portCycle_get p p (begin_ s)
  simp only [hasCredit, e]
  rfl

theorem holdForbids_judged (p : PortId) (wr : Bool) (s : State) :
    holdForbids (judged p wr s) p = holdForbids (portCycle p s) p := by
  simp only [holdForbids, judged, spendCredit, updPort, vget_vmod_same, portCycle_begin]
  cases wr <;> rfl

theorem outstanding_judged (p q : PortId) (wr : Bool) (s : State) (tag : BitVec 10) :
    outstanding (judged p wr s) q tag = outstanding s q tag := by
  simp [outstanding]

/-! ### What the port makes of a request (R97, R102, R111, R538) -/

theorem present_sampled {r : Present} (hs : sampled s = true) :
    present r (begin_ s) = presented r.p (takeRequest r (portCycle r.p (begin_ s))) := if_pos hs

theorem take_noCredit {r : Present} (hc : hasCredit s r.p r.isWrite = false) :
    takeRequest r (portCycle r.p (begin_ s)) = refusePort r 1 (portCycle r.p (begin_ s)) := by
  unfold takeRequest
  simp [hasCredit_portCycle, hc]

theorem take_held {r : Present} (hc : hasCredit s r.p r.isWrite = true) (hh : holdForbids (portCycle r.p s) r.p = true) :
    takeRequest r (portCycle r.p (begin_ s)) = refusePort r 5 (judged r.p r.isWrite s) := by
  unfold takeRequest
  simp [hasCredit_portCycle, hc, judged_def, holdForbids_judged, hh]

theorem take_badOp {r : Present} (hc : hasCredit s r.p r.isWrite = true) (hh : holdForbids (portCycle r.p s) r.p = false)
    (ho : ∀ op, r.op = some op → op.isPeer = true ∧ r.p = 4) :
    takeRequest r (portCycle r.p (begin_ s)) = refusePort r 2 (judged r.p r.isWrite s) := by
  unfold takeRequest
  simp only [hasCredit_portCycle, hc, judged_def, holdForbids_judged, hh]
  cases hop : r.op with
  | none => rfl
  | some op =>
    have hpeer : (op.isPeer && decide (r.p = 4)) = true := by simpa using ho op hop
    simp only [hpeer]
    rfl

theorem take_reused {r : Present} {op : Op} {old : Req} (hc : hasCredit s r.p r.isWrite = true)
    (hh : holdForbids (portCycle r.p s) r.p = false) (hop : r.op = some op) (hpeer : op.isPeer = false)
    (ho : outstanding s r.p r.h.tag = some old) :
    takeRequest r (portCycle r.p (begin_ s)) = tagReuse r old (refusePort r 0 (judged r.p r.isWrite s)) := by
  unfold takeRequest
  simp [hasCredit_portCycle, hc, judged_def, holdForbids_judged, hh, hop, hpeer, outstanding_judged, ho]

theorem take_accepted {r : Present} {op : Op} (hc : hasCredit s r.p r.isWrite = true)
    (hh : holdForbids (portCycle r.p s) r.p = false) (hop : r.op = some op) (hpeer : op.isPeer = false)
    (ho : outstanding s r.p r.h.tag = none) :
    takeRequest r (portCycle r.p (begin_ s)) = acceptReq r op (judged r.p r.isWrite s) := by
  unfold takeRequest
  simp [hasCredit_portCycle, hc, judged_def, holdForbids_judged, hh, hop, hpeer, outstanding_judged, ho]

/-! ### A refusal (R96, R101, R112, R538) -/

theorem refusePort_out (r : Present) (bit : Nat) (s : State) : (refusePort r bit s).out =
    s.out ++ [.rsp r.p r.h.tag r.h.gen .failed 0 r.src r.xid false (pairEpoch s r.op r.h.addr)] := by
  unfold refusePort onlyIf
  dsimp only
  split <;> rfl

theorem refusePort_reqs (r : Present) (bit : Nat) (s : State) : (refusePort r bit s).reqs = s.reqs := by
  unfold refusePort onlyIf
  dsimp only
  split <;> rfl

theorem refusePort_ports (r : Present) (bit : Nat) (s : State) : (refusePort r bit s).ports =
    if r.beat then vmod s.ports r.p (fun q => { q with beats := q.beats ++ [.discard] }) else s.ports := by
  unfold refusePort onlyIf
  dsimp only
  split <;> rfl

theorem refusePort_status (r : Present) {bit : Nat} (hb : bit < 24) (h1 : bitOf (pack [(1, bit)]) bit = true) (s : State) :
    bitOf (regGet (refusePort r bit s) (rPrtStatus r.p)) bit = true := by
  have e : (refusePort r bit s).regs = (bump (rPrtFails r.p) (sqSet (rPrtStatus r.p) (pack [(1, bit)]) s)).regs := by
    unfold refusePort onlyIf
    dsimp only
    split <;> rfl
  have hne : rPrtStatus r.p ≠ rPrtFails r.p := by simp [rPrtStatus, rPrtFails]
  rw [regGet_congr e, regGet_bump_other _ hne, regGet_sqSet_same, sqWord_bit _ _ hb, h1, Bool.or_true]

theorem presented_get (p : PortId) (s : State) :
    (presented p s).ports.get p = { s.ports.get p with seen := some (holdNow s) } := vget_vmod_same ..

end Sys2Proof.Machine
end

section
/-! SUPPORT. The record of one request in the table, and its answer. -/

namespace Sys2Proof.Machine

variable {b s t : State}

theorem findReq_addReq {q : Req} (hq : ∀ r ∈ s.reqs, r.id ≠ q.id) : findReq (addReq q s) q.id = some q := by
  have e : (addReq q s).reqs = s.reqs ++ [q] := rfl
  have h0 : s.reqs.find? (fun r => decide (r.id = q.id)) = none := List.find?_eq_none.2 fun r hr => by simpa using hq r hr
  simp [findReq, e, List.find?_append, h0]

theorem findReq_updReq_same {id : Nat} {f : Req → Req} {r : Req} (hr : findReq s id = some r)
    (hf : ∀ r, r.id = id → (f r).id = id) : findReq (updReq id f s) id = some (f r) := by
  have hid : ∀ r, (if r.id = id then f r else r).id = id ↔ r.id = id := fun r => by
    split
    · next h => simp [h, hf r h]
    · exact Iff.rfl
  have e : (fun r => decide (r.id = id)) ∘ (fun r => if r.id = id then f r else r) = fun r => decide (r.id = id) := by
    funext r
    simp [hid]
  have hrid : r.id = id := by simpa using List.find?_some hr
  simp only [findReq, updReq, List.find?_map, e]
  have hs : s.reqs.find? (fun r => decide (r.id = id)) = some r := hr
  simp [hs, hrid]

theorem finish_gone (id : Nat) (s : State) : ∀ r ∈ (finish id s).reqs, r.id ≠ id := by
  unfold finish
  split
  · next h => exact fun r hr => by simpa using List.find?_eq_none.1 h r hr
  · intro r hr
    have e : ∀ c p w u, (onlyIf c (dropInflight p w) u).reqs = u.reqs := fun c p w u => by
      unfold onlyIf
      split <;> rfl
    rw [e] at hr
    simpa using (List.mem_filter.1 hr).2

theorem Later.mem_out {o : Out} (h : Later b s) (ho : o ∈ b.out) : o ∈ s.out := h.2.2.subset ho

theorem Later.gone {id : Nat} (h : Later b s) (hb : ∀ r ∈ b.reqs, r.id ≠ id) : ∀ r ∈ s.reqs, r.id ≠ id := fun r hr e => by
  obtain ⟨q, hq, e'⟩ := List.mem_map.1 (h.1.subset (List.mem_map_of_mem hr))
  exact hb q hq (e'.trans e)

theorem respond_mem (p : PortId) (tag : BitVec 10) (gen : BitVec 2) (st : Status) (data : Line) (src : BitVec 10)
    (xid : BitVec 16) (stale : Bool) (epoch : BitVec 8) (s : State) :
    .rsp p tag gen st data src xid stale epoch ∈ (respond p tag gen st data src xid stale epoch s).out := by
  have e : (respond p tag gen st data src xid stale epoch s).out = s.out ++ [.rsp p tag gen st data src xid stale epoch] := by
    unfold respond
    dsimp only
    split <;> rfl
  simp [e]

/-- A request that was not answered gets its one response (R110). -/
theorem answer1_eq {id : Nat} {r : Req} (hr : findReq s id = some r) (ha : r.answered = false) (hh : s.glb.ctl ≠ .held)
    (st : Status) (data : Line) (stale : Bool) (epoch : BitVec 8) : answer1 id st data stale epoch s =
      let u := respond r.port r.tag r.gen st data r.src r.xid stale epoch s
      if r.op.isWrite && !r.written then updReq id (fun r => { r with answered := true }) u else finish id u := by
  unfold answer1
  rw [hr]
  simp [ha, hh]

theorem answerX_mem {id : Nat} {r : Req} (hr : findReq s id = some r) (ha : r.answered = false) (hh : s.glb.ctl ≠ .held)
    (st : Status) (data : Line) (stale : Bool) (epoch : BitVec 8) :
    .rsp r.port r.tag r.gen st data r.src r.xid stale epoch ∈ (answerX id st data stale epoch s).out := by
  have hl : Later (respond r.port r.tag r.gen st data r.src r.xid stale epoch s) (answer1 id st data stale epoch s) := by
    rw [answer1_eq hr ha hh]
    exact ite_later (updReq_later (fun _ e => e) (later_refl _)) (finish_later (later_refl _))
  exact (hl.trans (barriers_later (later_refl _))).mem_out (respond_mem ..)

/-- A request of the read class leaves the table when it is answered. -/
theorem answerX_gone {id : Nat} {r : Req} (hr : findReq s id = some r) (ha : r.answered = false) (hh : s.glb.ctl ≠ .held)
    (hw : r.op.isWrite = false) (st : Status) (data : Line) (stale : Bool) (epoch : BitVec 8) :
    ∀ q ∈ (answerX id st data stale epoch s).reqs, q.id ≠ id := by
  have hl : Later (finish id (respond r.port r.tag r.gen st data r.src r.xid stale epoch s))
      (answerX id st data stale epoch s) := by
    unfold answerX
    rw [answer1_eq hr ha hh]
    simp only [hw]
    exact barriers_later (later_refl _)
  exact hl.gone (finish_gone id _)

/-- A BARRIER is answered OK, which counts in no register. -/
theorem barriers_regs (s : State) : (barriers s).regs = s.regs := by
  have dropped : ∀ id u, (finish id u).regs = u.regs := fun id u => regs_of_seen (by simp)
  have one : ∀ id u, (answer1 id .ok 0 false 0 u).regs = u.regs := fun id u => by
    unfold answer1
    split
    · rfl
    · split
      · rfl
      · dsimp only
        split
        · rfl
        · exact dropped _ _
  unfold barriers
  generalize s.reqs.filter (fun r => decide (r.phase = .barrier)) = l
  unfold forAll
  induction l generalizing s with
  | nil => rfl
  | cons q l ih =>
    refine (ih _).trans ?_
    dsimp only
    split
    · exact one _ _
    · rfl

/-- NOT_OWNED is counted on its port. -/
theorem answerX_notOwned_regs {id : Nat} {r : Req} (hr : findReq s id = some r) (ha : r.answered = false)
    (hh : s.glb.ctl ≠ .held) (data : Line) (stale : Bool) (epoch : BitVec 8) :
    (answerX id .notOwned data stale epoch s).regs = (bump (rPrtNotOwned r.port) s).regs := by
  have dropped : ∀ id u, (finish id u).regs = u.regs := fun id u => regs_of_seen (by simp)
  unfold answerX
  rw [barriers_regs, answer1_eq hr ha hh]
  dsimp only
  split
  · rfl
  · exact dropped _ _

end Sys2Proof.Machine
end

section
/-! SUPPORT. The forward map and the LLA of a line depend on the registers of the map alone. -/

namespace Sys2Proof.Machine

variable {s t : State}

/-- The registers of the map, and what lies above them, read the same. -/
def SameMap (s t : State) : Prop := ∀ o, 0x12000 ≤ o → regGet t o = regGet s o

theorem SameMap.get64 (h : SameMap s t) {o : Nat} (ho : 0x12000 ≤ o) : regGet64 t o = regGet64 s o := by
  rw [regGet64, regGet64, h o ho, h (o + 4) (by omega)]

theorem SameMap.winOf (h : SameMap s t) (n : Nat) : winOf t n = winOf s n := by
  unfold Machine.winOf
  simp only [h _ (show 0x12000 ≤ 0x12100 + 0x20 * n + 0x10 by omega), h.get64 (show 0x12000 ≤ 0x12100 + 0x20 * n by omega),
    h.get64 (show 0x12000 ≤ 0x12100 + 0x20 * n + 8 by omega), h.get64 (show 0x12000 ≤ 0x12100 + 0x20 * n + 0x14 by omega)]

theorem SameMap.fwd (h : SameMap s t) (a : LineAddr) : fwd t a = fwd s a := by
  unfold Machine.fwd
  generalize List.range 16 = l
  induction l with
  | nil => rfl
  | cons n l ih => rw [fwdFrom, fwdFrom, h.winOf, ih]

theorem SameMap.llaOf (h : SameMap s t) (d : Nat) : llaOf t d = llaOf s d := by
  have hb : ∀ c n, hashBit t c n = hashBit s c n := fun c n => by
    rw [hashBit, hashBit, h _ (by omega)]
  have geom : regGet t 0x12000 = regGet s 0x12000 := h _ (le_refl _)
  have hs : split t d = split s d := by
    unfold split twoCh chConf lrLog csLog regFld regBit
    rw [geom]
  unfold Machine.llaOf hash
  simp only [hs, hb]

end Sys2Proof.Machine
end

section
/-! SUPPORT. The record of an accepted request, and what becomes of it. -/

namespace Sys2Proof.Machine

variable {s t : State}

/-- The request as it is recorded: in the table, under the next number. -/
def recorded (r : Present) (op : Op) (s : State) : State :=
  addReq (newReq (judged r.p r.isWrite s) r op) (judged r.p r.isWrite s)

@[simp] theorem recorded_glb (r : Present) (op : Op) (s : State) : (recorded r op s).glb = s.glb :=
  judged_glb r.p r.isWrite s
@[simp] theorem recorded_mir (r : Present) (op : Op) (s : State) : (recorded r op s).mir = s.mir :=
  judged_mir r.p r.isWrite s
@[simp] theorem recorded_alert (r : Present) (op : Op) (s : State) : (recorded r op s).alert = s.alert :=
  judged_alert r.p r.isWrite s

theorem newReq_judged_id (r : Present) (op : Op) (s : State) : (newReq (judged r.p r.isWrite s) r op).id = s.nextId :=
  judged_nextId r.p r.isWrite s

theorem recorded_reqs (r : Present) (op : Op) (s : State) :
    (recorded r op s).reqs = s.reqs ++ [newReq (judged r.p r.isWrite s) r op] :=
  congrArg (· ++ [_]) (judged_reqs r.p r.isWrite s)

theorem recorded_regGet (r : Present) (op : Op) (s : State) {o : Nat} (ho : o ≠ rPrtReqs r.p) :
    regGet (recorded r op s) o = regGet s o := by
  have e : (recorded r op s).regs = (bump (rPrtReqs r.p) (judged r.p r.isWrite s)).regs := rfl
  rw [regGet_congr e, regGet_bump_other _ ho, regGet_congr (judged_regs ..)]

theorem recorded_sameMap (r : Present) (op : Op) (s : State) : SameMap s (recorded r op s) := fun o ho =>
  recorded_regGet r op s (by have hp : r.p.val < 5 := r.p.isLt; unfold rPrtReqs; omega)

theorem findReq_recorded (r : Present) (op : Op) (hf : idsFresh s) :
    findReq (recorded r op s) s.nextId = some (newReq (judged r.p r.isWrite s) r op) := by
  have h := findReq_addReq (s := judged r.p r.isWrite s) (q := newReq (judged r.p r.isWrite s) r op) fun q hq => by
    rw [newReq_judged_id]
    exact Nat.ne_of_lt (hf.2 q (judged_reqs r.p r.isWrite s ▸ hq))
  rwa [newReq_judged_id] at h

theorem accept_halted {r : Present} {op : Op} (hc : s.glb.ctl = .halted) : acceptReq r op (judged r.p r.isWrite s) =
    endReq s.nextId .failed false (pairEpoch (recorded r op s) (some op) r.h.addr) (recorded r op s) := by
  rw [← newReq_judged_id r op s]
  exact if_pos (by rw [← hc]; exact congrArg Glb.ctl (recorded_glb r op s))

theorem accept_read {r : Present} (hc : s.glb.ctl ≠ .halted) : acceptReq r .read (judged r.p r.isWrite s) =
    mapReq (newReq (judged r.p r.isWrite s) r .read) (recorded r .read s) :=
  if_neg fun e => hc (by rw [← e]; exact congrArg Glb.ctl (recorded_glb r .read s).symm)

/-- What is in the table of a fresh state leaves the number that is next alone. -/
theorem fresh_next (hf : idsFresh s) : ∀ r ∈ s.reqs, r.id ≠ s.nextId := fun r hr => Nat.ne_of_lt (hf.2 r hr)

theorem rankLive_congr (hc : t.glb.ch = s.glb.ch) (ha : t.alert = s.alert) (l : Lla) : rankLive t l = rankLive s l := by
  simp only [rankLive, chLive, hc, ha]

theorem sampled_ne_held (h : sampled s = true) : s.glb.ctl ≠ .held := by
  simp only [sampled, Bool.and_eq_true, decide_eq_true_eq] at h
  exact h.2

/-- A request that is answered at once leaves its answer and nothing in the table. -/
theorem endReq_recorded {r : Present} {op : Op} (hf : idsFresh s) (hh : s.glb.ctl ≠ .held) (st : Status) (stale : Bool)
    (epoch : BitVec 8) :
    .rsp r.p r.h.tag r.h.gen st 0 r.src r.xid stale epoch ∈ (endReq s.nextId st stale epoch (recorded r op s)).out
      ∧ ∀ q ∈ (endReq s.nextId st stale epoch (recorded r op s)).reqs, q.id ≠ s.nextId :=
  ⟨(finish_later (later_refl _)).mem_out (answerX_mem (findReq_recorded r op hf) rfl (by simpa using hh) ..),
   finish_gone _ _⟩

theorem endReq_notOwned_regs {r : Present} {op : Op} (hf : idsFresh s) (hh : s.glb.ctl ≠ .held) (stale : Bool)
    (epoch : BitVec 8) : regGet (endReq s.nextId .notOwned stale epoch (recorded r op s)) (rPrtNotOwned r.p) =
      BitVec.ofNat 32 (min 0xFFFFFFFF ((regGet s (rPrtNotOwned r.p)).toNat + 1)) := by
  have hsat : ∀ n, sat 0xFFFFFFFF n = min 0xFFFFFFFF n := fun n => by unfold sat; split <;> omega
  have hfin : (endReq s.nextId .notOwned stale epoch (recorded r op s)).regs =
      (bump (rPrtNotOwned r.p) (recorded r op s)).regs :=
    (regs_of_seen (finish_keeps (by decide) ..)).trans (answerX_notOwned_regs (findReq_recorded r op hf) rfl (by simpa using hh) ..)
  have hne : rPrtNotOwned r.p ≠ rPrtReqs r.p := by simp [rPrtNotOwned, rPrtReqs]
  rw [regGet_congr hfin, regGet_bump_same, recorded_regGet r op s hne, hsat]

/-- A READ of a line that this controller does not own (R171). -/
theorem mapReq_notOwned {q : Req} (h : ∀ n m d, fwd s q.addr ≠ .owned n m d) :
    mapReq q s = endReq q.id .notOwned false 0 s := by
  unfold mapReq
  split
  · next heq => exact absurd heq (h _ _ _)
  · rfl

/-- A host request of a line that an unmirrored window of this controller owns. -/
theorem mapReq_unmirrored {q : Req} {n d : Nat} (hw : fwd s q.addr = .owned n false d) (hp : q.op.isPeer = false) :
    mapReq q s = toIngress { q with lla := llaOf s d, mirrored := false } s := by
  unfold mapReq
  simp [hw, hp, ownedHost]

/-- Whether a write of the region is outstanding, where the request that is judged is none (R15). -/
theorem regionWritten_recorded {r : Present} {op : Op} {q : Req} (hf : idsFresh s) (l : Lla)
    (hw : q.op = .read) :
    regionWritten (updReq s.nextId (fun _ => q) (recorded r op s)) l = regionWritten s l := by
  have hold : s.reqs.map (fun x => if x.id = s.nextId then q else x) = s.reqs := by
    refine (List.map_congr_left fun x hx => ?_).trans (List.map_id _)
    exact if_neg (fresh_next hf x hx)
  have e : (updReq s.nextId (fun _ => q) (recorded r op s)).reqs = s.reqs ++ [q] := by
    have h0 : (updReq s.nextId (fun _ => q) (recorded r op s)).reqs =
      (recorded r op s).reqs.map (fun x => if x.id = s.nextId then q else x) := rfl
    rw [h0, recorded_reqs, List.map_append, hold]
    simp [newReq_judged_id]
  unfold regionWritten
  rw [e, List.any_append]
  simp [hw, Req.openWrite, Op.isLineWrite]

theorem toIngress_readsZero {r : Present} {q : Req} (hf : idsFresh s) (hq : q.id = s.nextId) (hw : q.op = .read)
    (hl : rankLive s q.lla = true) (hz : readsZero s q.lla = true) :
    toIngress q (recorded r .read s) = answer s.nextId .ok 0 (updReq s.nextId (fun _ => q) (recorded r .read s)) := by
  have hlive : rankLive (updReq s.nextId (fun _ => q) (recorded r .read s)) q.lla = true :=
    (rankLive_congr (congrArg Glb.ch (recorded_glb r .read s)) (recorded_alert ..) _).trans hl
  have hzero : readsZero (updReq s.nextId (fun _ => q) (recorded r .read s)) q.lla = true := by
    have hg : (updReq s.nextId (fun _ => q) (recorded r .read s)).glb = s.glb := recorded_glb r .read s
    simp only [readsZero, regionInit, onDemandNow, regionWritten_recorded hf _ hw, hg] at hz ⊢
    exact hz
  unfold toIngress
  simp [hq, hw, hlive, hzero, Op.isWrite]

/-- A READ of a line that is not owned is answered NOT_OWNED (R171). -/
theorem accept_notOwned {r : Present} (hc : s.glb.ctl ≠ .halted) (hn : ∀ n m d, fwd s r.h.addr ≠ .owned n m d) :
    acceptReq r .read (judged r.p r.isWrite s) = endReq s.nextId .notOwned false 0 (recorded r .read s) := by
  have hmap : ∀ n m d, fwd (recorded r .read s) (newReq (judged r.p r.isWrite s) r .read).addr ≠ .owned n m d :=
    fun n m d e => hn n m d ((SameMap.fwd (recorded_sameMap r .read s) _).symm.trans e)
  rw [accept_read hc, mapReq_notOwned hmap, newReq_judged_id]

/-- The READ of line `l`, as it is known once the line is mapped. -/
def mappedRead (r : Present) (l : Lla) (s : State) : Req :=
  { newReq (judged r.p r.isWrite s) r .read with lla := l, mirrored := false }

/-- A READ of a line of an uninitialised region that no write waits for is answered with zeros (R15, R164). -/
theorem accept_zeros {r : Present} {n d : Nat} (hf : idsFresh s) (hc : s.glb.ctl ≠ .halted)
    (hw : fwd s r.h.addr = .owned n false d) (hl : rankLive s (llaOf s d) = true) (hz : readsZero s (llaOf s d) = true) :
    acceptReq r .read (judged r.p r.isWrite s) =
      answer s.nextId .ok 0 (updReq s.nextId (fun _ => mappedRead r (llaOf s d) s) (recorded r .read s)) := by
  have hmap : fwd (recorded r .read s) (newReq (judged r.p r.isWrite s) r .read).addr = .owned n false d :=
    (SameMap.fwd (recorded_sameMap r .read s) _).trans hw
  rw [accept_read hc, mapReq_unmirrored hmap rfl, SameMap.llaOf (recorded_sameMap r .read s)]
  exact toIngress_readsZero (q := mappedRead r (llaOf s d) s) hf (newReq_judged_id r .read s) rfl hl hz

theorem answer_zeros {r : Present} {l : Lla} (hf : idsFresh s) (hh : s.glb.ctl ≠ .held) :
    let t := answer s.nextId .ok 0 (updReq s.nextId (fun _ => mappedRead r l s) (recorded r .read s))
    .rsp r.p r.h.tag r.h.gen .ok 0 r.src r.xid false 0 ∈ t.out ∧ ∀ q ∈ t.reqs, q.id ≠ s.nextId := by
  have hq : findReq (updReq s.nextId (fun _ => mappedRead r l s) (recorded r .read s)) s.nextId = some (mappedRead r l s) :=
    findReq_updReq_same (findReq_recorded r .read hf) fun _ _ => newReq_judged_id r .read s
  have hc : (updReq s.nextId (fun _ => mappedRead r l s) (recorded r .read s)).glb.ctl ≠ .held := by
    rw [show (updReq s.nextId (fun _ => mappedRead r l s) (recorded r .read s)).glb = s.glb from recorded_glb r .read s]
    exact hh
  unfold answer
  simp only [hq]
  exact ⟨answerX_mem hq rfl hc .., answerX_gone hq rfl hc rfl _ _ _ _⟩

theorem SameMap.of_regs (h : t.regs = s.regs) : SameMap s t := fun o _ => regGet_congr h o

/-- The epoch in an answer without regard to the pair's rules depends on the registers and on the pair alone. -/
theorem pairEpoch_congr (hr : t.regs = s.regs) (hm : t.mir = s.mir) (op : Option Op) (a : LineAddr) :
    pairEpoch t op a = pairEpoch s op a := by
  have hen : mirEn t = mirEn s := by rw [mirEn, mirEn, regBit, regBit, regGet_congr hr]
  unfold pairEpoch
  rw [(SameMap.of_regs hr).fwd, hen, hm]

theorem pairEpoch_host {op : Op} (h : op.isPeer = false) (a : LineAddr) : pairEpoch s (some op) a = 0 := by
  cases op with
  | peerWrite | peerRead => exact absurd h (by decide)
  | _ => rfl

/-- The end of the request's cycle changes nothing of the port but what was seen in it. -/
theorem presented_port (p : PortId) (s : State) :
    let q := (presented p s).ports.get p
    q.rdHeld = (s.ports.get p).rdHeld ∧ q.wrHeld = (s.ports.get p).wrHeld ∧ q.rdIn = (s.ports.get p).rdIn
      ∧ q.wrIn = (s.ports.get p).wrIn ∧ q.beats = (s.ports.get p).beats := by
  dsimp only
  rw [presented_get]
  exact ⟨rfl, rfl, rfl, rfl, rfl⟩

/-- A refusal of a request from a port that has put nothing out. -/
theorem refused_out {r : Present} {bit : Nat} (ho : s.out = []) : (presented r.p (refusePort r bit s)).out =
    [.rsp r.p r.h.tag r.h.gen .failed 0 r.src r.xid false (pairEpoch s r.op r.h.addr)] := by
  have e : (presented r.p (refusePort r bit s)).out = (refusePort r bit s).out := rfl
  rw [e, refusePort_out, ho, List.nil_append]

theorem refused_reqs (r : Present) (bit : Nat) (s : State) : (presented r.p (refusePort r bit s)).reqs = s.reqs :=
  refusePort_reqs r bit s

theorem refused_port (r : Present) (bit : Nat) (s : State) :
    let q := (presented r.p (refusePort r bit s)).ports.get r.p
    q.rdHeld = (s.ports.get r.p).rdHeld ∧ q.wrHeld = (s.ports.get r.p).wrHeld ∧ q.rdIn = (s.ports.get r.p).rdIn
      ∧ q.beats = (s.ports.get r.p).beats ++ if r.beat then [.discard] else [] := by
  dsimp only
  rw [presented_get, refusePort_ports]
  split
  · rw [vget_vmod_same]
    exact ⟨rfl, rfl, rfl, rfl⟩
  · exact ⟨rfl, rfl, rfl, (List.append_nil _).symm⟩

theorem refused_status (r : Present) {bit : Nat} (hb : bit < 24) (h1 : bitOf (pack [(1, bit)]) bit = true) (s : State) :
    bitOf (regGet (presented r.p (refusePort r bit s)) (rPrtStatus r.p)) bit = true :=
  refusePort_status r hb h1 s

end Sys2Proof.Machine

namespace Sys2Proof

open Sys2Proof.Machine

variable {s : State} {p : PortId} {h : ReqHdr}

theorem completes_of_run {c : Instr} {f : State → State} {P : State → Prop} (e : exec c s = run f s) (hp : P (f (begin_ s))) :
    completes c s P := ⟨_, e, hp⟩

theorem read_notOwned (hf : idsFresh s) (hp : portTakes s p false h.tag) (hn : ∀ n m d, fwd s h.addr ≠ .owned n m d) :
    completes (.read p h) s fun t => .rsp p h.tag h.gen .notOwned 0 0 0 false 0 ∈ t.out
      ∧ (∀ r ∈ t.reqs, r.id ≠ s.nextId)
      ∧ regGet t (0x8018 + 0x40 * p.val) = BitVec.ofNat 32 (min 0xFFFFFFFF ((regGet s (0x8018 + 0x40 * p.val)).toNat + 1)) := by
  obtain ⟨hs, hc, hh, ho, hhalt⟩ := hp
  refine completes_of_run rfl ?_
  rw [present_sampled hs, take_accepted (r := hostReq p .read h) hc hh rfl rfl ho, accept_notOwned (r := hostReq p .read h) hhalt hn]
  obtain ⟨hout, hgone⟩ := endReq_recorded (r := hostReq p .read h) (op := .read) hf (sampled_ne_held hs) .notOwned false 0
  exact ⟨hout, hgone, endReq_notOwned_regs (r := hostReq p .read h) hf (sampled_ne_held hs) false 0⟩

theorem read_zeros {n d : Nat} (hf : idsFresh s) (hp : portTakes s p false h.tag) (hw : fwd s h.addr = .owned n false d)
    (hl : rankLive s (llaOf s d) = true) (hz : readsZero s (llaOf s d) = true) :
    completes (.read p h) s fun t => .rsp p h.tag h.gen .ok 0 0 0 false 0 ∈ t.out ∧ (∀ r ∈ t.reqs, r.id ≠ s.nextId) := by
  obtain ⟨hs, hc, hh, ho, hhalt⟩ := hp
  refine completes_of_run rfl ?_
  rw [present_sampled hs, take_accepted (r := hostReq p .read h) hc hh rfl rfl ho, accept_zeros (r := hostReq p .read h) hf hhalt hw hl hz]
  exact answer_zeros (r := hostReq p .read h) hf (sampled_ne_held hs)

theorem opOfCode_isPeer {n : Nat} {o : Op} (h : opOfCode n = some o) (hn : 8 ≤ n) : o.isPeer = true := by
  unfold opOfCode at h
  split at h
  case h_6 | h_7 | h_8 => rw [← Option.some.inj h]; rfl
  case h_9 => exact absurd h (by simp)
  all_goals omega

theorem read_halted (hf : idsFresh s) (hhalt : s.glb.ctl = .halted) (hc : hasCredit s p false = true)
    (ho : outstanding s p h.tag = none) :
    completes (.read p h) s fun t =>
      .rsp p h.tag h.gen .failed 0 0 0 false 0 ∈ t.out ∧ (∀ r ∈ t.reqs, r.id ≠ s.nextId) := by
  have hs : sampled s = true := by simp [sampled, hhalt]
  refine completes_of_run rfl ?_
  rw [present_sampled hs]
  cases hh : holdForbids (portCycle p s) p with
  | false =>
    rw [take_accepted (r := hostReq p .read h) hc hh rfl rfl ho, accept_halted (r := hostReq p .read h) hhalt]
    exact endReq_recorded (r := hostReq p .read h) (op := .read) hf (sampled_ne_held hs) .failed false 0
  | true =>
    rw [take_held (r := hostReq p .read h) hc hh, refused_out (judged_out ..), refused_reqs, judged_reqs]
    exact ⟨List.mem_singleton.2 rfl, fresh_next hf⟩

theorem write_reused {old : Req} (hs : sampled s = true) (hc : hasCredit s p true = true)
    (hh : holdForbids (portCycle p s) p = false) (ho : outstanding s p h.tag = some old) :
    completes (.writePoison p h) s fun t => t.out = [.rsp p h.tag h.gen .failed 0 0 0 false 0] ∧ t.reqs = s.reqs
      ∧ bitOf (regGet t (0x800C + 0x40 * p.val)) 0 = true ∧ (t.ports.get p).wrHeld = (s.ports.get p).wrHeld - 1 := by
  let r := hostReq p .writePoison h
  let u := refusePort r 0 (judged p true s)
  have ports : (tagReuse r old u).ports = u.ports := ports_of_seen (tagReuse_keeps (by decide) ..)
  have hst : regGet (tagReuse r old u) (rPrtStatus p) = regGet u (rPrtStatus p) :=
    regGet_of_seen (tagReuse_keeps (hid := 0x40000011200000000000000000000000000000000000) (by decide) ..) _ (by simp)
  obtain ⟨held, seen, hport⟩ := judged_get p true s
  obtain ⟨-, hwr, -, -, -⟩ := presented_port p (tagReuse r old u)
  refine completes_of_run rfl ?_
  rw [present_sampled hs, take_reused (r := r) hc hh rfl rfl ho]
  refine ⟨?_, ?_, ?_, hwr.trans ?_⟩
  · exact (out_of_seen (tagReuse_keeps (by decide) ..)).trans (refused_out (r := r) (judged_out ..))
  · exact (reqs_of_seen (tagReuse_keeps (by decide) ..)).trans ((refusePort_reqs ..).trans (judged_reqs ..))
  · exact (congrArg (bitOf · 0) hst).trans (refusePort_status r (by decide) (by decide) _)
  · rw [ports]
    exact congrArg Port.wrHeld hport

theorem read_noCredit (hs : sampled s = true) (hc : hasCredit s p false = false) :
    completes (.read p h) s fun t => t.out = [.rsp p h.tag h.gen .failed 0 0 0 false 0] ∧ t.reqs = s.reqs
      ∧ (t.ports.get p).rdHeld = (s.ports.get p).rdHeld ∧ (t.ports.get p).rdIn = (s.ports.get p).rdIn
      ∧ (t.ports.get p).beats = (s.ports.get p).beats ∧ bitOf (regGet t (0x800C + 0x40 * p.val)) 1 = true := by
  have hport : let q := (portCycle p (begin_ s)).ports.get p
      q.rdHeld = (s.ports.get p).rdHeld ∧ q.rdIn = (s.ports.get p).rdIn ∧ q.beats = (s.ports.get p).beats := by
    obtain ⟨held, seen, e⟩ := portCycle_get p p (begin_ s)
    dsimp only
    rw [e]
    exact ⟨rfl, rfl, rfl⟩
  obtain ⟨hrd0, hin0, hbeats0⟩ := hport
  obtain ⟨hrd, -, hin, hbeats⟩ := refused_port (hostReq p .read h) 1 (portCycle p (begin_ s))
  have ho : (portCycle p (begin_ s)).out = [] := by rw [portCycle_eq]; rfl
  have hr : (portCycle p (begin_ s)).reqs = s.reqs := by rw [portCycle_eq]; rfl
  refine completes_of_run rfl ?_
  rw [present_sampled hs, take_noCredit (r := hostReq p .read h) hc]
  exact ⟨refused_out ho, (refused_reqs ..).trans hr, hrd.trans hrd0, hin.trans hin0,
    hbeats.trans ((List.append_nil _).trans hbeats0), refused_status _ (by decide) (by decide) _⟩

theorem write_held (hs : sampled s = true) (hc : hasCredit s p true = true) (hh : holdForbids (portCycle p s) p = true) :
    completes (.writeFull p h) s fun t => t.out = [.rsp p h.tag h.gen .failed 0 0 0 false 0] ∧ t.reqs = s.reqs
      ∧ (t.ports.get p).wrHeld = (s.ports.get p).wrHeld - 1 ∧ (t.ports.get p).beats = (s.ports.get p).beats ++ [.discard]
      ∧ bitOf (regGet t (0x800C + 0x40 * p.val)) 5 = true := by
  obtain ⟨held, seen, hport⟩ := judged_get p true s
  obtain ⟨-, hwr, -, hbeats⟩ := refused_port (hostReq p .writeFull h) 5 (judged p true s)
  refine completes_of_run rfl ?_
  rw [present_sampled hs, take_held (r := hostReq p .writeFull h) hc hh]
  exact ⟨refused_out (judged_out ..), (refused_reqs ..).trans (judged_reqs ..), hwr.trans (congrArg Port.wrHeld hport),
    hbeats.trans (congrArg (Port.beats · ++ [.discard]) hport), refused_status _ (by decide) (by decide) _⟩

theorem reserved_refused {op : BitVec 4} {h : PeerHdr} (hs : sampled s = true) (hh : holdForbids (portCycle p s) p = false)
    (hop : if opOfCode op.toNat = none then hasCredit s p false = true
      else p = 4 ∧ 8 ≤ op.toNat ∧ hasCredit s p (((opOfCode op.toNat).map Op.isWrite).getD false) = true) :
    completes (.reservedOpcode p op h) s fun t =>
      t.out = [.rsp p h.hdr.tag h.hdr.gen .failed 0 h.src h.xid false (pairEpoch s (opOfCode op.toNat) h.hdr.addr)]
      ∧ t.reqs = s.reqs ∧ bitOf (regGet t (0x800C + 0x40 * p.val)) 2 = true := by
  let r : Present := ⟨p, op, opOfCode op.toNat, h.hdr, h.src, h.xid, h.epoch⟩
  have peer : ∀ o, opOfCode op.toNat = some o → o.isPeer = true ∧ p = 4 := fun o ho => by
    rw [if_neg (by simp [ho])] at hop
    exact ⟨opOfCode_isPeer ho hop.2.1, hop.1⟩
  have hc : hasCredit s p ((opOfCode op.toNat).any Op.isWrite) = true := by
    cases ho : opOfCode op.toNat with
    | none => simpa [ho] using hop
    | some o =>
      simp only [ho] at hop
      exact hop.2.2
  have hres : reservedOpcode p op h (begin_ s) = present r (begin_ s) := by
    refine if_pos ?_
    cases ho : opOfCode op.toNat with
    | none => rfl
    | some o => simp [peer o ho]
  refine completes_of_run rfl ?_
  rw [hres, present_sampled hs, take_badOp (r := r) hc hh peer]
  refine ⟨(refused_out (judged_out ..)).trans ?_, (refused_reqs ..).trans (judged_reqs ..),
    refused_status _ (by decide) (by decide) _⟩
  rw [pairEpoch_congr (judged_regs ..) (judged_mir ..)]

/-- Settles O15: what enters no queue is answered in its own cycle. -/
theorem requestsAnsweredAtOnce : Obligations.RequestsAnsweredAtOnce := by
  refine ⟨fun s p h hf hp hn => read_notOwned hf hp fun n m d e => ?_, fun s p h n d hf hp hw hl hz => read_zeros hf hp hw hl hz,
    fun s p h hf hhalt hc ho => read_halted hf hhalt hc ho, fun s p h old hs hc hh ho => write_reused hs hc hh ho,
    fun s p h hs hc => read_noCredit hs hc, fun s p h hs hc hh => write_held hs hc hh,
    fun s p op h hs hh hop => reserved_refused hs hh hop⟩
  simp [e] at hn

end Sys2Proof
end

section
/-! SUPPORT. A state in which the number that is next stands in the table already, on an accepted write. No state that is
reached from reset is such a one. -/

namespace Sys2Proof.Machine

/-- In SERVICE with credits, one window over lines 0 to 16383, and no region initialised. -/
def uninitialised : State :=
  regSet 0x12110 0x80000000 <| regSet 0x12108 0x100000 <| regSet 0x12000 0x00C00010 { State.reset with
    glb := { Glb.reset with ctl := .service, ch := Vector.replicate 2 { Chan.reset false with inSeq := true } }
    ports := Vector.replicate 5 { Port.reset with rdHeld := 1, held := false } }

/-- A full write of the LLA `l`, which waits in the ingress stage under the number `id`. -/
def waitingWrite (id : Nat) (l : Lla) : Req :=
  { id := id, port := 1, op := .writeFull, addr := 77, lla := l, tag := 5, gen := 0, label := 0, part := 0
    src := 0, xid := 0, epoch := 0, phase := .ingress, answered := false, written := false, data := 0, mask := 0
    beat := true, mirrored := false, colour := none, tier := none, ftag := 0, localC := .unknown, peerC := .unknown
    dirtyWait := false, drainHeld := false, rides := none }

/-- The next number is that of a write in the table. -/
def numberTwice : State := { uninitialised with reqs := [waitingWrite 0 (llaOf uninitialised 77)] }

end Sys2Proof.Machine

namespace Sys2Proof

open Sys2Proof.Machine

/-- Refutes O14: where the next number is in the table already, on a write that waits in the same uninitialised region,
the READ takes that write's record for its own, finds no outstanding write, and is answered with zeros at once. -/
theorem not_requestsEnterTheTable : ¬ Obligations.RequestsEnterTheTable := by
  unfold Obligations.RequestsEnterTheTable
  rintro ⟨hread, -⟩
  obtain ⟨t, ht, -, -, -, hout⟩ := hread numberTwice 2 ⟨77, 6, 0, 0⟩ 0 77 (by decide +kernel) (by decide +kernel)
    (by decide +kernel) (by decide +kernel)
  have answered : (match exec (.read 2 ⟨77, 6, 0, 0⟩) numberTwice with | .next t => t.out.isEmpty | _ => true) = false := by
    decide +kernel
  rw [ht] at answered
  simp [hout] at answered

end Sys2Proof
end

section
/-! SUPPORT. Folds over a list of steps: what every step keeps, and what one of them establishes. -/

namespace Sys2Proof.Machine

theorem forAll_inv {α : Type} {P : State → Prop} {f : α → State → State} (l : List α) (hf : ∀ a s, P s → P (f a s))
    {s : State} (h : P s) : P (forAll l f s) := by
  unfold forAll
  induction l generalizing s with
  | nil => exact h
  | cons a l ih => exact ih (hf a s h)

/-- What the step of one member establishes holds at the end, if every step keeps it. -/
theorem forAll_reach {α : Type} {P Q : State → Prop} {f : α → State → State} {l : List α} {x : α} (hx : x ∈ l)
    (hP : ∀ a s, P s → P (f a s)) (hQ : ∀ a s, Q s → Q (f a s)) (hxQ : ∀ s, P s → Q (f x s)) {s : State} (h : P s) :
    Q (forAll l f s) := by
  unfold forAll
  induction l generalizing s with
  | nil => exact absurd hx List.not_mem_nil
  | cons a l ih =>
    rcases List.mem_cons.1 hx with rfl | hx
    · exact forAll_inv l hQ (hxQ s h)
    · exact ih hx (hP a s h)

theorem mem_fins {n : Nat} (i : Fin n) : i ∈ fins n := List.mem_finRange i

theorem onlyIf_inv {P : State → Prop} {c : Bool} {f : State → State} {s : State} (hf : P s → P (f s)) (h : P s) :
    P (onlyIf c f s) := by
  unfold onlyIf
  split
  · exact hf h
  · exact h

end Sys2Proof.Machine
end

section
/-! SUPPORT. Bind-Off: no maintenance work and no refresh is put up again by the commands that wake the ranks (R494). -/

namespace Sys2Proof.Machine

variable {s t : State} {I : Sc → Prop}

/-- No refresh is owed, no line is locked, and the requesters of the sub-channels of which `I` speaks have no work. -/
def Calm (I : Sc → Prop) (s : State) : Prop :=
  s.ref.due = [] ∧ ∀ x, (s.sched.get x).locks = [] ∧ (I x → (s.sched.get x).maint = Vector.replicate 7 [])

theorem calm_keeps (e : t.seen 0x1F7FFFFFFFFFFFFFFFFFFFFFFFFFFFFFFFF7FFFFFFFFF =
      s.seen 0x1F7FFFFFFFFFFFFFFFFFFFFFFFFFFFFFFFF7FFFFFFFFF)
    (h : Calm I s) : Calm I t := by
  rwa [Calm, ref_due_of_seen (seen_mono (by decide) e), sched_of_seen (seen_mono (by decide) e)]

theorem updSched_calm {y : Sc} {f : Sched → Sched} (hl : ∀ q, q.locks = [] → (f q).locks = [])
    (hm : ∀ q, I y → q.maint = Vector.replicate 7 [] → (f q).maint = Vector.replicate 7 []) (h : Calm I s) :
    Calm I (updSched y f s) := by
  refine ⟨h.1, fun x => ?_⟩
  obtain ⟨hlocks, hmaint⟩ := h.2 x
  by_cases hxy : x = y
  · subst hxy
    simp only [updSched, vget_vmod_same]
    exact ⟨hl _ hlocks, fun hI => hm _ hI (hmaint hI)⟩
  · simp only [updSched, vget_vmod_other _ _ hxy]
    exact h.2 x

/-- A change of a sub-channel that touches neither its locks nor its work. -/
theorem updSched_calm_same {y : Sc} {f : Sched → Sched} (hf : ∀ q, (f q).locks = q.locks ∧ (f q).maint = q.maint)
    (h : Calm I s) : Calm I (updSched y f s) :=
  updSched_calm (fun q hq => (hf q).1.trans hq) (fun q _ hq => (hf q).2.trans hq) h

theorem vmod_replicate_nil {α : Type} (i : Fin 7) {f : List α → List α} (hf : f [] = []) :
    vmod (Vector.replicate 7 []) i f = Vector.replicate 7 [] := by
  have hi : (Vector.replicate 7 ([] : List α)).get i = [] := vget_replicate _ i
  refine Vector.ext fun j hj => ?_
  simp [vmod, vset, hi, hf]

theorem busCmd_calm {x : Sc} {k : Nat} {c : Cmd} {cap ledger : Bool} (hc : c.kind ≠ .act) (h : Calm I s) :
    Calm I (busCmd x k c cap ledger s) := by
  have hk : (if closesDue s x c then { c with arg := .sample } else c).kind ≠ .act := by
    split <;> exact hc
  unfold busCmd busPins
  dsimp only
  rw [if_neg hk]
  refine calm_keeps (countCmd_keeps (by decide) ..) (updSched_calm_same (fun q => ⟨rfl, rfl⟩) ?_)
  exact forAll_inv _ (fun c s h => calm_keeps (by simp) h) h

theorem toRanks_calm {x : Sc} {k : CmdKind} {lrs : Bool} {arg : CmdArg} (hk : k ≠ .act) (h : Calm I s) :
    Calm I (toRanks x k lrs s arg) := by
  unfold toRanks
  exact forAll_inv _ (fun _ _ h => forAll_inv _ (fun _ _ h => busCmd_calm hk h) h) h

theorem setMask_calm {x : Sc} {on : Bool} (h : Calm I s) : Calm I (setMask x on s) := by
  unfold setMask
  refine updSched_calm_same (fun q => ⟨rfl, rfl⟩) (onlyIf_inv (fun h => forAll_inv _ (fun q s h => ?_) h) h)
  unfold endWait
  split
  · exact h
  · exact calm_keeps (regSet_keeps _ _ _ (by simp)) (calm_keeps (bump_keeps _ _ (by simp))
      (updSched_calm_same (fun q => ⟨rfl, rfl⟩) h))

theorem powerUp_calm {x : Sc} (h : Calm I s) : Calm I (powerUp x s) := by
  unfold powerUp
  split
  · exact setMask_calm (calm_keeps (updPwr_keeps _ _ (by simp)) (toRanks_calm (k := .pdx) (by decide) h))
  · exact h

theorem busWaits_calm {c : Ch} {k : Nat} (h : Calm I s) : Calm I (busWaits c k s) := by
  unfold busWaits
  refine forAll_inv _ (fun _ _ h => ?_) h
  exact updSched_calm_same (fun _ => ⟨rfl, rfl⟩) h

theorem dckRestart_calm {c : Ch} (h : Calm I s) : Calm I (dckRestart c s) := by
  unfold dckRestart dckStart dckStop
  refine busWaits_calm ?_
  split
  · exact h
  · exact busWaits_calm h

theorem buildCalendar_calm {x : Sc} (h : Calm I s) : Calm I (buildCalendar x s) := by
  unfold buildCalendar updMaint
  refine forAll_inv (P := Calm I) _ (fun u s h => calm_keeps (setRefUnit_keeps (by decide) ..) h)
    (updSched_calm (fun _ hq => hq) (fun q _ hq => ?_) h)
  dsimp only
  rw [hq]
  exact vmod_replicate_nil _ rfl

theorem srExit_calm {x : Sc} (h : Calm I s) : Calm I (srExit x s) := by
  unfold srExit
  split
  · have hd : Calm I (onlyIf (s.glb.ch.get (chOf x)).inSr (dckRestart (chOf x)) s) := onlyIf_inv dckRestart_calm h
    exact calm_keeps (noteSr_keeps (by decide) ..) (buildCalendar_calm (setMask_calm
      (toRanks_calm (k := .srx) (by decide) (calm_keeps (updPwr_keeps _ _ (by simp)) hd))))
  · exact h

theorem boWake_calm (h : Calm I s) : Calm I (boWake s) := by
  unfold boWake
  exact forAll_inv _ (fun _ _ h => calm_keeps (updPwr_keeps _ _ (by simp)) (srExit_calm h)) h

theorem abortSwatch_calm {x : Sc} (hx : I x → (s.phy.sc.get x).seq ≠ .swatch) (h : Calm I s) : Calm I (abortSwatch x s) := by
  unfold abortSwatch
  dsimp only
  split
  · next hsw =>
    have hI : ¬ I x := fun hI => hx hI hsw
    refine onlyIf_inv (fun h => ?_) (calm_keeps (txTarget_keeps (by decide) ..) ?_)
    · unfold allVrefs setVref mntAdd mntAddFor
      refine forAll_inv _ (fun _ _ h => forAll_inv _ (fun _ _ h => ?_) h) h
      exact updSched_calm (fun _ hq => hq) (fun _ hx => absurd hx hI) h
    · refine updSched_calm (fun _ hq => hq) (fun _ hx => absurd hx hI) ?_
      exact calm_keeps (sqSet_keeps _ _ _ (by simp)) (calm_keeps (by simp) h)
  · exact h

/-- A swatch run that is aborted walks its codes back; no other sub-channel takes notice. -/
theorem abortSwatch_seq (x y : Sc) (s : State) : ((abortSwatch x s).phy.sc.get y).seq =
    if y = x ∧ (s.phy.sc.get x).seq = .swatch then .walk else (s.phy.sc.get y).seq := by
  unfold abortSwatch
  dsimp only
  split
  · next hsw =>
    have tried : ∀ c v u, (onlyIf c (allVrefs x v) u).phy = u.phy := fun c v u =>
      phy_of_seen (onlyIf_keeps _ _ _ (allVrefs_keeps (by decide) ..))
    rw [tried]
    by_cases hy : y = x
    · subst hy
      simp [txTarget, updPhySc, updSched, sqSet, regSet, hsw]
    · simp [txTarget, updPhySc, updSched, sqSet, regSet, vget_vmod_other _ _ hy, hy]
  · next hsw => rw [if_neg fun e => hsw e.2]

theorem fullDrain_calm (hx : ∀ x, I x → (s.phy.sc.get x).seq ≠ .swatch) (h : Calm I s) : Calm I (fullDrain s) := by
  unfold fullDrain
  refine forAll_inv _ (fun x s h => ?_) ?_
  · exact updSched_calm_same (fun q => ⟨rfl, rfl⟩) (powerUp_calm h)
  refine (forAll_inv (P := fun s => Calm I s ∧ ∀ x, I x → (s.phy.sc.get x).seq ≠ .swatch) _ (fun y s hs => ?_) ⟨h, hx⟩).1
  refine ⟨abortSwatch_calm (hs.2 y) hs.1, fun x hI => ?_⟩
  rw [abortSwatch_seq]
  split
  · decide
  · exact hs.2 x hI

theorem abortSwatch_phy (x : Sc) (s : State) : (abortSwatch x s).phy.gearPending = s.phy.gearPending ∧
    (abortSwatch x s).phy.gearTo = s.phy.gearTo := ⟨phy_gearPending_of_seen (by simp), phy_gearTo_of_seen (by simp)⟩

/-- Every swatch run is aborted by a full drain (R315). -/
theorem fullDrain_walks {x : Sc} (hx : (s.phy.sc.get x).seq = .swatch) : ((fullDrain s).phy.sc.get x).seq = .walk := by
  have kept : ∀ y u, (u.phy.sc.get x).seq = .walk → ((abortSwatch y u).phy.sc.get x).seq = .walk := fun y u h => by
    rw [abortSwatch_seq]
    split
    · rfl
    · exact h
  unfold fullDrain
  dsimp only
  rw [phy_of_seen (forAll_keeps _ _ _ fun y u => by simp)]
  refine forAll_reach (P := fun u => (u.phy.sc.get x).seq = .swatch ∨ (u.phy.sc.get x).seq = .walk)
    (Q := fun u => (u.phy.sc.get x).seq = .walk) (mem_fins x) (fun y u h => ?_) kept (fun u h => ?_) (.inl hx)
  · rw [abortSwatch_seq]
    split
    · exact .inr rfl
    · exact h
  · rw [abortSwatch_seq]
    split
    · rfl
    · next hn => exact h.resolve_left fun e => hn ⟨rfl, e⟩

/-! ### The state left -/

/-- Bind-Off remembers the state `c` it was entered from. -/
def LeftFrom (c : Ctl) (s : State) : Prop := s.pwr.bo.map BindOff.from_ = some c

theorem leftFrom_keeps {c : Ctl} (e : t.seen 0x1FFFFFFFFEFFFFFFFFFFFFFFFFFFFFFFFFFFFFFFFFFFF =
      s.seen 0x1FFFFFFFFEFFFFFFFFFFFFFFFFFFFFFFFFFFFFFFFFFFF) (h : LeftFrom c s) : LeftFrom c t := by
  rwa [LeftFrom, pwr_bo_of_seen e]

/-- What Bind-Off counts and notes leaves the state it was entered from. -/
theorem leftFrom_note {c : Ctl} {f : BindOff → BindOff} (hf : ∀ b, (f b).from_ = b.from_) (h : LeftFrom c s) :
    LeftFrom c (updPwr (fun p => { p with bo := p.bo.map f }) s) := by
  have e : BindOff.from_ ∘ f = BindOff.from_ := funext hf
  show (s.pwr.bo.map f).map BindOff.from_ = some c
  rw [Option.map_map, e]
  exact h

theorem loseUnissued_leftFrom {c : Ctl} {a : Ch} (h : LeftFrom c s) : LeftFrom c (loseUnissued a s) := by
  unfold loseUnissued boCount
  refine forAll_inv _ (fun x u h => onlyIf_inv (fun h => ?_) (leftFrom_keeps (by simp) h)) h
  exact leftFrom_note (fun _ => rfl) h

theorem boRas_leftFrom {c : Ctl} (h : LeftFrom c s) : LeftFrom c (boRas s) := by
  unfold boRas
  refine forAll_inv _ (fun a s h => ?_) h
  have h' : LeftFrom c (dropRepairs a (abandonSparing a s)) := leftFrom_keeps (by simp) h
  have hl : LeftFrom c (loseUnissued a (dropRepairs a (abandonSparing a s))) := loseUnissued_leftFrom h'
  dsimp only
  split
  · refine leftFrom_note (fun _ => rfl) (leftFrom_keeps (updAlert_keeps (by decide) ..) (onlyIf_inv (fun h => ?_) hl))
    exact leftFrom_keeps (by simp) h
  · exact h'

theorem boWake_leftFrom {c : Ctl} (h : LeftFrom c s) : LeftFrom c (boWake s) := by
  unfold boWake
  refine forAll_inv _ (fun x u h => ?_) h
  exact leftFrom_note (fun _ => rfl) (leftFrom_keeps (srExit_keeps (by decide) ..) h)

/-! ### The power fail -/

/-- BIND_OFF is entered, and the state that is left is remembered. -/
def falling (s : State) : State :=
  let u := updGlb (fun g => { g with pfN := false }) s
  let bo : BindOff := ⟨u.glb.ctl, u.glb.gear, ckLast u, u.sched.toList.any (fun q => q.replay.began), false, false, 0, 0, 0⟩
  updPwr (fun p => { p with bo := some bo }) (enter .bindOff u)

/-- What a power fail does in every state but RESET, HELD and BIND_OFF: BIND_OFF is entered, and a wake, a pause, a reload,
a fetch of the image and a gear change end. -/
def fallen (s : State) : State :=
  gearPowerFail (updImg (fun i => { i with fetch := none }) (reloadPowerFail
    (updQz (fun q => { q with ph := .idle, ack := false, paused := false }) (dropDeferred (falling s)))))

/-- What a power fail stops in a serving state. -/
def stopped (s : State) : State := boMaint (boRas (boDirty (glgPowerFail (forAll (fins 4) stopAll s))))

theorem pfNFall_level (h : s.glb.ctl = .reset ∨ s.glb.ctl = .held ∨ s.glb.ctl = .bindOff) :
    pfNFall s = updGlb (fun g => { g with pfN := false }) s := by
  unfold pfNFall
  rcases h with h | h | h
  all_goals simp [h]

theorem pfNFall_asleep (h : s.glb.ctl = .halted ∨ s.glb.ctl = .dormant) :
    pfNFall s = panicUpdate (glgPowerFail (fallen s)) := by
  unfold pfNFall fallen falling
  rcases h with h | h
  all_goals simp [h]

theorem pfNFall_serving
    (h : s.glb.ctl = .service ∨ s.glb.ctl = .quiesced ∨ s.glb.ctl = .gearChange ∨ s.glb.ctl = .castOn) :
    pfNFall s = fullDrain (boWake (boRefresh (stopped (fallen s)))) := by
  unfold pfNFall fallen falling stopped
  rcases h with h | h | h | h
  all_goals simp [h]

theorem falling_glb (s : State) : (falling s).glb = { s.glb with pfN := false, ctl := .bindOff } :=
  (enter_does .bindOff (updGlb (fun g => { g with pfN := false }) s)).1

theorem fallen_glb (s : State) : (fallen s).glb = { s.glb with pfN := false, ctl := .bindOff } := by
  rw [← falling_glb]
  exact glb_of_seen (by simp [fallen])

theorem fallen_leftFrom (s : State) : LeftFrom s.glb.ctl (fallen s) :=
  leftFrom_keeps (s := falling s) (by simp [fallen]) rfl

theorem fallen_qz (s : State) : (fallen s).qz = { s.qz with ph := .idle, ack := false, paused := false } := by
  have hq : (dropDeferred (falling s)).qz = s.qz := qz_of_seen (by simp [falling])
  have e : (fallen s).qz = (updQz (fun q => { q with ph := .idle, ack := false, paused := false })
      (dropDeferred (falling s))).qz := qz_of_seen (by simp [fallen])
  rw [e]
  simp only [updQz, hq]

theorem fallen_gear (s : State) : (fallen s).phy.gearPending = none ∧ (fallen s).phy.gearTo = none := by
  unfold fallen
  generalize updImg _ _ = u
  unfold gearPowerFail
  split
  · exact ⟨rfl, rfl⟩
  · next h => simp_all [gearBusy]

/-- The scouts that stop leave what their sub-channel is at. -/
theorem stopAll_seq (x y : Sc) (s : State) : ((stopAll x s).phy.sc.get y).seq = (s.phy.sc.get y).seq := by
  have one : ∀ f u, (∀ p, (f p).seq = p.seq) → ((updPhySc x f u).phy.sc.get y).seq = (u.phy.sc.get y).seq :=
    fun f u hf => by
      by_cases hy : y = x
      · subst hy
        simp [updPhySc, hf]
      · simp [updPhySc, vget_vmod_other _ _ hy]
  unfold stopAll
  refine forAll_inv (P := fun u => (u.phy.sc.get y).seq = (s.phy.sc.get y).seq) _ (fun g u h => ?_) rfl
  unfold stopScouts updGroup updLane
  refine forAll_inv (P := fun u => (u.phy.sc.get y).seq = (s.phy.sc.get y).seq) _ (fun i v h => ?_) ?_
  · exact (one (fun p => { p with lanes := vmod p.lanes i _ }) v fun _ => rfl).trans h
  · exact (one (fun p => { p with groups := vmod p.groups g _ }) u fun _ => rfl).trans h

theorem stopped_seq (x : Sc) (s : State) : ((stopped s).phy.sc.get x).seq = (s.phy.sc.get x).seq := by
  have e : (stopped s).phy = (forAll (fins 4) stopAll s).phy := phy_of_seen (by simp [stopped])
  rw [e]
  refine forAll_inv (P := fun u => (u.phy.sc.get x).seq = (s.phy.sc.get x).seq) _ (fun g u h => ?_) rfl
  exact (stopAll_seq g x u).trans h

theorem boRefresh_stopped_calm (I : Sc → Prop) (s : State) : Calm I (boRefresh (stopped s)) := by
  refine ⟨rfl, fun x => ?_⟩
  have e : ∀ u, (boRefresh (boMaint u)).sched = u.sched.map fun q => { q with
      maint := Vector.replicate 7 [], locks := [], holder := none
      pipe := q.pipe.filter (fun t => t.origin.forHost), lost := q.lost.filter fun t => t.origin.forHost } := fun _ => rfl
  simp [stopped, e]

theorem stopped_leftFrom {c : Ctl} (h : LeftFrom c s) : LeftFrom c (stopped s) := by
  unfold stopped
  exact leftFrom_keeps (boMaint_keeps (by decide) _) (boRas_leftFrom (leftFrom_keeps (by simp) h))

theorem fallen_phySc (s : State) : (fallen s).phy.sc = s.phy.sc := phy_sc_of_seen (by simp [fallen, falling])

/-- The state in which the schedulers start to drain. -/
def draining (s : State) : State := boWake (boRefresh (stopped (fallen s)))

theorem draining_seq (x : Sc) (s : State) : ((draining s).phy.sc.get x).seq = (s.phy.sc.get x).seq := by
  have e : (draining s).phy = (stopped (fallen s)).phy := phy_of_seen (by simp [draining])
  rw [e, stopped_seq, fallen_phySc]

theorem draining_leftFrom (s : State) : LeftFrom s.glb.ctl (draining s) :=
  boWake_leftFrom (leftFrom_keeps (boRefresh_keeps (by decide) _) (stopped_leftFrom (fallen_leftFrom s)))

theorem draining_ctl (s : State) : (draining s).glb.ctl = .bindOff :=
  ctl_keeps (s := fallen s) (by simp [draining, stopped]) (congrArg Glb.ctl (fallen_glb s))

theorem draining_pfN (s : State) : (draining s).glb.pfN = false :=
  (glb_pfN_of_seen (s := fallen s) (by simp [draining, stopped])).trans (congrArg Glb.pfN (fallen_glb s))

theorem draining_qz (s : State) : (draining s).qz = { s.qz with ph := .idle, ack := false, paused := false } :=
  (qz_of_seen (s := fallen s) (by simp [draining, stopped])).trans (fallen_qz s)

theorem draining_gear (s : State) : (draining s).phy.gearPending = none ∧ (draining s).phy.gearTo = none :=
  ⟨(phy_gearPending_of_seen (s := fallen s) (by simp [draining, stopped])).trans (fallen_gear s).1,
   (phy_gearTo_of_seen (s := fallen s) (by simp [draining, stopped])).trans (fallen_gear s).2⟩

theorem draining_abo (s : State) : (draining s).ref.abo = Vector.replicate 2 [] :=
  ref_abo_of_seen (s := boRefresh (stopped (fallen s))) (boWake_keeps (by decide) _)

end Sys2Proof.Machine

namespace Sys2Proof

open Sys2Proof.Machine

variable {s : State}

theorem pfNFall_fromService
    (h : s.glb.ctl = .service ∨ s.glb.ctl = .quiesced ∨ s.glb.ctl = .gearChange ∨ s.glb.ctl = .castOn) :
    completes .pfNFall s fun t => t.glb.ctl = .bindOff ∧ t.glb.pfN = false
      ∧ t.pwr.bo.map BindOff.from_ = some s.glb.ctl
      ∧ t.qz = { s.qz with ph := .idle, ack := false, paused := false }
      ∧ t.phy.gearPending = none ∧ t.phy.gearTo = none
      ∧ (∀ x : Sc, (t.sched.get x).locks = []
        ∧ ((s.phy.sc.get x).seq ≠ .swatch → (t.sched.get x).maint = Vector.replicate 7 []))
      ∧ (∀ x : Sc, (s.phy.sc.get x).seq = .swatch → (t.phy.sc.get x).seq = .walk)
      ∧ t.ref.due = [] ∧ t.ref.abo = Vector.replicate 2 [] := by
  have run : exec .pfNFall s = run (fun s => fullDrain (draining s)) s :=
    congrArg Host.Outcome.next (pfNFall_serving (s := begin_ s) h)
  refine completes_of_run run ?_
  obtain ⟨hdue, hwork⟩ : Calm (fun x => (s.phy.sc.get x).seq ≠ .swatch) (fullDrain (draining (begin_ s))) :=
    fullDrain_calm (fun x hx => by rwa [draining_seq]) (boWake_calm (boRefresh_stopped_calm _ _))
  have hleft : LeftFrom s.glb.ctl (fullDrain (draining (begin_ s))) :=
    leftFrom_keeps (fullDrain_keeps (by decide) _) (draining_leftFrom (begin_ s))
  exact ⟨ctl_keeps (fullDrain_keeps (by decide) _) (draining_ctl _),
    (glb_pfN_of_seen (fullDrain_keeps (by decide) _)).trans (draining_pfN _), hleft,
    (qz_of_seen (fullDrain_keeps (by decide) _)).trans (draining_qz _),
    (phy_gearPending_of_seen (fullDrain_keeps (by decide) _)).trans (draining_gear _).1,
    (phy_gearTo_of_seen (fullDrain_keeps (by decide) _)).trans (draining_gear _).2, hwork,
    fun x hx => fullDrain_walks ((draining_seq x _).trans hx), hdue,
    (ref_abo_of_seen (fullDrain_keeps (by decide) _)).trans (draining_abo _)⟩

theorem pfNFall_fromSleep (h : s.glb.ctl = .halted ∨ s.glb.ctl = .dormant) :
    completes .pfNFall s fun t => t.glb.ctl = .bindOff ∧ t.glb.pfN = false
      ∧ t.pwr.bo.map BindOff.from_ = some s.glb.ctl
      ∧ t.qz = { s.qz with ph := .idle, ack := false, paused := false } ∧ t.pwr.sc = s.pwr.sc := by
  have run : exec .pfNFall s = run (fun s => panicUpdate (glgPowerFail (fallen s))) s :=
    congrArg Host.Outcome.next (pfNFall_asleep (s := begin_ s) h)
  refine completes_of_run run ?_
  exact ⟨ctl_keeps (s := fallen (begin_ s)) (by simp) (congrArg Glb.ctl (fallen_glb _)),
    (glb_pfN_of_seen (s := fallen (begin_ s)) (by simp)).trans (congrArg Glb.pfN (fallen_glb _)),
    leftFrom_keeps (s := fallen (begin_ s)) (by simp) (fallen_leftFrom (begin_ s)),
    (qz_of_seen (s := fallen (begin_ s)) (by simp)).trans (fallen_qz _),
    pwr_sc_of_seen (by simp [fallen, falling])⟩

end Sys2Proof

namespace Sys2Proof.Machine

variable {s t : State}

theorem bufferRec_buf_congr (he : t.evt = s.evt) (hr : t.raised = s.raised) (ws : BitVec 16 → List Word) (src : Nat)
    (sev : Fin 8) : (bufferRec ws src sev t).evt.buf = (bufferRec ws src sev s).evt.buf := by
  have hsplit : raisedSplit t src = raisedSplit s src := by unfold raisedSplit; rw [he, hr]
  unfold bufferRec
  simp only [hsplit, he]
  split
  · rfl
  · rfl

/-- A record that is raised stands in the buffer unless the filter drops it. -/
theorem raise_buf (ty : Nat) (sev : Fin 8) (src : Nat) (payload : List Word) (s : State) :
    (raise ty sev src payload s).evt.buf = if sev.val < regFld s rEvtCfg 29 27 then s.evt.buf else
      (bufferRec (fun seq => recHeader ty (payload.length + 3) sev src seq ::
        BitVec.ofNat 32 s.glb.now :: BitVec.ofNat 32 (s.glb.now / 2 ^ 32) :: payload) src sev s).evt.buf := by
  unfold raise
  by_cases hs : 3 ≤ sev.val
  · simp only [hs, if_true, regFld_evtCfg_sqSet]
    split
    · rfl
    · exact bufferRec_buf_congr (t := bump rEvtRaised (sqSet rEvtStatus 0x10 s)) (s := s) rfl rfl ..
  · simp only [hs, if_false]
    split
    · rfl
    · exact bufferRec_buf_congr (t := bump rEvtRaised s) (s := s) rfl rfl ..

/-- A record that is raised depends on the records before it, on the time and on the filter. -/
theorem raise_buf_congr (he : t.evt = s.evt) (hn : t.glb.now = s.glb.now) (hr : t.raised = s.raised)
    (hc : regGet t rEvtCfg = regGet s rEvtCfg) (ty : Nat) (sev : Fin 8) (src : Nat) (payload : List Word) :
    (raise ty sev src payload t).evt.buf = (raise ty sev src payload s).evt.buf := by
  rw [raise_buf, raise_buf, regFld, regFld, hc, hn, he, bufferRec_buf_congr he hr]

/-! ### The end of Bind-Off -/

/-- HELD is entered with the core clock stopped (R494, step 6). -/
def held (s : State) : State := enter .held (updGlb (fun g => { g with coreRun := false }) (boLatch s))

theorem bindOffComplete_held {b : BindOff} (hb : s.pwr.bo = some b) (hc : s.glb.ctl = .bindOff)
    (hs : (boScs s).all (boAsleep s) = true) : bindOffComplete s = boRecord b (held s) := by
  unfold bindOffComplete
  simp [hb, hc, hs, held]

/-- The latches alone change. -/
theorem boLatch_eq (s : State) : boLatch s = { s with glb := { s.glb with ch := (boLatch s).glb.ch } } := by
  unfold boLatch
  split
  · rfl
  · exact forAll_inv (P := fun u => u = { s with glb := { s.glb with ch := u.glb.ch } }) _
      (fun c u h => by rw [h]; rfl) rfl

theorem held_glb (s : State) : (held s).glb = { s.glb with ctl := .held, coreRun := false, ch := (boLatch s).glb.ch } := by
  unfold held
  rw [(enter_does ..).1, boLatch_eq]
  rfl

theorem held_regGet {o : Nat} (ho : o ≠ 0x10) (s : State) : regGet (held s) o = regGet s o := by
  unfold held
  rw [regGet_congr (enter_does ..).2, regGet_sqSet_other _ _ (show o ≠ rStateChange from ho), boLatch_eq]
  rfl

/-- Where HALTED was not left, every channel in self-refresh keeps its latch (R65). -/
theorem boLatch_latch {b : BindOff} (hb : s.pwr.bo = some b) (hh : b.from_ ≠ .halted) (c : Ch)
    (hc : ((boLatch s).glb.ch.get c).inSr = true) : ((boLatch s).glb.ch.get c).latch = true := by
  have hany : (s.pwr.bo.any fun b => decide (b.from_ = .halted)) = false := by simp [hb, hh]
  have one : ∀ a u, ((u.glb.ch.get c).inSr = true → (u.glb.ch.get c).latch = true) ∨ a = c →
      ((updCh a (fun h => { h with latch := h.latch || h.inSr }) u).glb.ch.get c).inSr = true →
      ((updCh a (fun h => { h with latch := h.latch || h.inSr }) u).glb.ch.get c).latch = true := fun a u hu => by
    by_cases ha : c = a
    · subst ha
      simp only [updCh, vget_vmod_same]
      exact fun h => by simp [h]
    · simp only [updCh, vget_vmod_other _ _ ha]
      exact hu.resolve_right (Ne.symm ha)
  unfold boLatch at hc ⊢
  simp only [hany, if_false, Bool.false_eq_true] at hc ⊢
  exact forAll_reach (P := fun _ => True) (Q := fun u => (u.glb.ch.get c).inSr = true → (u.glb.ch.get c).latch = true)
    (mem_fins c) (fun _ _ _ => trivial) (fun a u hu => one a u (.inl hu)) (fun u _ => one c u (.inr rfl)) trivial hc

theorem held_rest (s : State) : (held s).sched = s.sched ∧ (held s).reqs = s.reqs ∧ (held s).pwr = s.pwr
    ∧ (held s).evt = s.evt ∧ (held s).raised = s.raised := by
  have hl : (boLatch s).sched = s.sched ∧ (boLatch s).reqs = s.reqs ∧ (boLatch s).pwr = s.pwr
      ∧ (boLatch s).evt = s.evt ∧ (boLatch s).raised = s.raised := by
    rw [boLatch_eq]
    exact ⟨rfl, rfl, rfl, rfl, rfl⟩
  obtain ⟨h1, h2, h3, h4, h5⟩ := hl
  exact ⟨(sched_of_seen (by simp [held])).trans h1, (reqs_of_seen (by simp [held])).trans h2,
    (pwr_of_seen (by simp [held])).trans h3, (evt_of_seen (by simp [held])).trans h4,
    (raised_of_seen (by simp [held])).trans h5⟩

theorem boTime_held (b : BindOff) (s : State) : boTime b (held s) = boTime b s := by
  have ht : tim (held s) pCksre = tim s pCksre := by
    unfold tim timOf
    rw [held_regGet (by omega), held_glb]
  have hck : ckLast (held s) = ckLast s := by
    unfold ckLast
    rw [(held_rest s).1, held_glb]
  unfold boTime
  rw [(held_rest s).1, ht, hck]

end Sys2Proof.Machine

namespace Sys2Proof

open Sys2Proof.Machine

theorem bindOffComplete_records {s : State} {b : BindOff} (hb : s.pwr.bo = some b) (hc : s.glb.ctl = .bindOff)
    (hs : (boScs s).all (boAsleep s) = true) :
    completes .bindOffComplete s fun t => t.glb.ctl = .held ∧ t.glb.coreRun = false ∧ t.pwr.sc = s.pwr.sc
      ∧ records 0x1C (if b.lost = 0 then 0 else 2) 7
        [pack [(b.from_.code, 28), (b.gear.val, 26), (b2n (t.glb.ch.get 1).latch, 25), (b2n (t.glb.ch.get 0).latch, 24),
          (b2n b.replayRan, 23),
        (b2n b.deepExit, 22), (b2n b.recStopped, 21), (b2n (decide (b.lost ≠ 0)), 20)], BitVec.ofNat 32 (boTime b s),
        pack [(sat 0xFFFF b.drained, 16), (sat 0xFFFF b.copied, 0)],
        pack [(sat 0xFFFF b.lost, 16), (sat 0xFFFF (s.reqs.countP fun r => !r.answered), 0)]] s t
      ∧ (b.from_ ≠ .halted → ∀ c : Ch, (t.glb.ch.get c).inSr = true → (t.glb.ch.get c).latch = true) := by
  have run : exec .bindOffComplete s = run (fun s => boRecord b (held s)) s :=
    congrArg Host.Outcome.next (bindOffComplete_held (s := begin_ s) hb hc hs)
  refine completes_of_run run ?_
  obtain ⟨hsched, hreqs, hpwr, hevt, hraised⟩ := held_rest (begin_ s)
  have hglb : (boRecord b (held (begin_ s))).glb = (held (begin_ s)).glb := (raise_fields ..).1
  have hp : (boRecord b (held (begin_ s))).pwr = (held (begin_ s)).pwr := pwr_of_seen (boRecord_keeps (by decide) ..)
  refine ⟨?_, ?_, ?_, ?_, fun hh c => ?_⟩
  · rw [hglb, held_glb]
  · rw [hglb, held_glb]
  · rw [hp, hpwr]
    rfl
  · have hn : (held (begin_ s)).glb.now = (begin_ s).glb.now := by rw [held_glb]
    rw [records, hglb]
    unfold boRecord
    rw [raise_buf_congr hevt hn hraised (held_regGet (by decide) _), boTime_held, hreqs]
    rfl
  · rw [hglb, held_glb]
    exact boLatch_latch (s := begin_ s) hb hh c

/-- Settles O33. -/
theorem bindOffRules : Obligations.BindOffRules := by
  refine ⟨fun s h => pfNFall_fromService h, fun s h => ?_, fun s h => pfNFall_fromSleep h,
    fun s b hb hc hs => bindOffComplete_records hb hc hs, fun s => ⟨_, rfl, rfl⟩⟩
  exact ⟨_, congrArg Host.Outcome.next (pfNFall_level (s := begin_ s) h), rfl⟩

end Sys2Proof
end

section
/-! SUPPORT. Masks and power states of a sub-channel: what the entries into power-down and self-refresh and the exits
leave in them. -/

namespace Sys2Proof.Machine

variable {s t : State}

/-- The mask of the requesters of a sub-channel is all ones or zero, and a mask that is set has no holder (R219). -/
theorem setMask_masks (x : Sc) (on : Bool) (s : State) :
    ((setMask x on s).sched.get x).maskVec = if on then BitVec.allOnes 7 else 0 := by
  simp [setMask, updSched]

theorem setMask_holder (x : Sc) (s : State) : ((setMask x true s).sched.get x).holder = none := by
  simp [setMask, updSched]

theorem buildCalendar_masks (x : Sc) (s : State) :
    ((buildCalendar x s).sched.get x).maskVec = (s.sched.get x).maskVec := by
  unfold buildCalendar
  refine (congrArg (fun q => (Vector.get q x).maskVec) (sched_of_seen (forAll_keeps _ _ _ fun u s => ?_))).trans ?_
  · rfl
  · simp [updMaint, updSched]

/-- A channel with a sub-channel outside self-refresh is not in self-refresh and holds no latch (R65). -/
theorem noteSr_awake {c : Ch} {x : Sc} (hx : x = scA c ∨ x = scB c) (h : s.pwr.sc.get x ≠ .selfRefresh) :
    ((noteSr c s).glb.ch.get c).inSr = false ∧ ((noteSr c s).glb.ch.get c).latch = false := by
  have hsr : (s.pwr.sc.get (scA c) = .selfRefresh && s.pwr.sc.get (scB c) = .selfRefresh) = false := by
    rcases hx with rfl | rfl <;> simp [h]
  simp [noteSr, updCh, hsr]

theorem scA_or_scB (x : Sc) : x = scA (chOf x) ∨ x = scB (chOf x) := by
  revert x
  decide

/-- The state of `srExit` before the channel takes note: DCK runs, SRX is put out and the calendar is new. -/
def srLeft (x : Sc) (s : State) : State :=
  let s := onlyIf (s.glb.ch.get (chOf x)).inSr (dckRestart (chOf x)) s
  let s := toRanks x .srx false (updPwr (fun p => { p with
    sc := vset p.sc x .active, due := p.due &&& ~~~((1 : BitVec 4) <<< x.val) }) s)
  buildCalendar x (setMask x false s)

theorem srExit_asleep {x : Sc} (h : s.pwr.sc.get x = .selfRefresh) : srExit x s = noteSr (chOf x) (srLeft x s) := if_pos h

theorem srExit_awake {x : Sc} (h : s.pwr.sc.get x ≠ .selfRefresh) : srExit x s = s := if_neg h

theorem srLeft_sc (x : Sc) (s : State) : (srLeft x s).pwr.sc = vset s.pwr.sc x .active := by
  unfold srLeft
  refine (pwr_sc_of_seen ((buildCalendar_keeps (by decide) ..).trans ((setMask_keeps (by decide) ..).trans
    (toRanks_keeps (by decide) ..)))).trans ?_
  exact congrArg (vset · x ScPower.active)
    (pwr_sc_of_seen (s := s) (t := onlyIf (s.glb.ch.get (chOf x)).inSr (dckRestart (chOf x)) s) (by simp))

theorem srLeft_masks (x : Sc) (s : State) : ((srLeft x s).sched.get x).maskVec = 0 := by
  unfold srLeft
  exact (buildCalendar_masks ..).trans (setMask_masks ..)

theorem srExit_sc {x : Sc} (h : s.pwr.sc.get x = .selfRefresh) : (srExit x s).pwr.sc = vset s.pwr.sc x .active := by
  rw [srExit_asleep h]
  exact (pwr_sc_of_seen (noteSr_keeps (by decide) ..)).trans (srLeft_sc x s)

/-- No exit puts a sub-channel into self-refresh. -/
theorem srExit_keeps_awake {x y : Sc} (h : s.pwr.sc.get x ≠ .selfRefresh) : (srExit y s).pwr.sc.get x ≠ .selfRefresh := by
  by_cases hy : s.pwr.sc.get y = .selfRefresh
  · rw [srExit_sc hy]
    by_cases hxy : x = y
    · rw [hxy, vget_vset_same]
      exact nofun
    · rwa [vget_vset_other _ _ hxy]
  · rwa [srExit_awake hy]

theorem srExit_wakes (x : Sc) (s : State) : (srExit x s).pwr.sc.get x ≠ .selfRefresh := by
  by_cases hx : s.pwr.sc.get x = .selfRefresh
  · rw [srExit_sc hx, vget_vset_same]
    exact nofun
  · rwa [srExit_awake hx]

theorem srExitAll_wakes {x : Sc} (hx : x ∈ liveScs s) : (srExitAll s).pwr.sc.get x ≠ .selfRefresh :=
  forAll_reach (f := srExit) (P := fun _ => True) (Q := fun s => s.pwr.sc.get x ≠ .selfRefresh) hx (fun _ _ _ => trivial)
    (fun _ _ => srExit_keeps_awake) (fun s _ => srExit_wakes x s) trivial

/-- The state of `srEnter` before the channel takes note. -/
def srEntered (x : Sc) (s : State) : State :=
  let s := toRanks x .sre false (toRanks x .preAb true (powerUp x s))
  setMask x true (updPwr (fun p => { p with sc := vset p.sc x .selfRefresh }) s)

theorem srEnter_awake {x : Sc} (h : s.pwr.sc.get x ≠ .selfRefresh) : srEnter x s = noteSr (chOf x) (srEntered x s) := if_neg h

theorem srEnter_sc {x : Sc} (h : s.pwr.sc.get x ≠ .selfRefresh) : (srEnter x s).pwr.sc.get x = .selfRefresh := by
  rw [srEnter_awake h]
  unfold srEntered
  rw [pwr_sc_of_seen ((noteSr_keeps (by decide) ..).trans (setMask_keeps (by decide) ..))]
  exact vget_vset_same ..

theorem srEnter_masks {x : Sc} (h : s.pwr.sc.get x ≠ .selfRefresh) :
    ((srEnter x s).sched.get x).maskVec = BitVec.allOnes 7 := by
  rw [srEnter_awake h, sched_of_seen (noteSr_keeps (by decide) ..)]
  exact setMask_masks ..

theorem sat_eq_min (m n : Nat) : sat m n = min m n := by
  unfold sat
  split <;> omega

/-- A counter of the power block, which the entries and exits themselves do not touch. -/
theorem bump_of_seen {o : Nat}
    (e : t.seen 0x1FFFFFFDFFFFFFFFFFFFFFFFFFFFFFFFFFFFFFFFFFFFF =
      s.seen 0x1FFFFFFDFFFFFFFFFFFFFFFFFFFFFFFFFFFFFFFFFFFFF)
    (ho : regGroup o = 2) : regGet (bump o t) o = BitVec.ofNat 32 (min 0xFFFFFFFF ((regGet s o).toNat + 1)) := by
  rw [regGet_bump_same, sat_eq_min, regGet_of_seen e o (by rw [ho]; decide)]

theorem powerDownEntry_down {x : Sc} (hc : s.glb.ctl = .service) (hl : chLive s (chOf x) = true)
    (ha : s.pwr.sc.get x = .active) (hb : regBit s 0x3000 31 = true) (hbus : busDone s x = true)
    (hr : (s.sched.get x).rq.all RdEnt.issued = true) (hw : (s.sched.get x).wq.all WrEnt.issued = true)
    (hcopy : (s.sched.get x).copy = []) (hm : (s.sched.get x).maint.toList.all List.isEmpty = true)
    (ht : trainAsks s x = false) :
    powerDownEntry x s = bump 0x3060 (setMask x true (updPwr (fun p => { p with sc := vset p.sc x .powerDown })
      (toRanks x .pde false (toRanks x .preAb true s)))) := by
  unfold powerDownEntry
  refine if_pos ?_
  rw [hc, hl, ha, hb, hbus, hr, hw, hcopy, hm, ht]
  rfl

theorem selfRefreshEntry_enters {x : Sc} (hc : s.glb.ctl = .service) (hl : chLive s (chOf x) = true)
    (ha : s.pwr.sc.get x ≠ .selfRefresh) (hb : regBit s 0x3000 30 = true) (hq : scQuiet s x = true)
    (hm : mntAsks s x = false) (hsc : scrubBehind s x = false)
    (hf : s.ras.fetch.all (fun f => decide (f.1 ≠ x)) = true) (hsp : (s.ras.spare.get (chOf x)).st ≠ .copying)
    (hp : s.ras.ppr = none) : selfRefreshEntry x s = bump 0x3064 (srEnter x s) := by
  have hf' : (s.ras.fetch.any fun f => decide (f.1 = x)) = false := by
    simpa using hf
  unfold selfRefreshEntry
  refine if_pos ?_
  simp [hc, hl, ha, hb, hq, hm, hsc, hf', hsp, hp]

/-- The wake has begun and DORMANT is not yet left. -/
def wakened (s : State) : State :=
  sqSet rPwrStatus 0x4 (bump 0x306C
    (updGlb (fun g => { g with coreRun := true, pllTries := 0 }) (updPwr (fun p => { p with waking := false }) s)))

theorem wakeComplete_serves (hc : s.glb.ctl = .dormant) (hw : s.pwr.waking = true) (hp : s.qz.ph = .idle) :
    wakeComplete s = playDeferred (arriveService (wakeZq (srExitAll (wakened s)))) := by
  unfold wakeComplete
  rw [if_pos (by rw [hc, hw]; rfl)]
  refine congrArg playDeferred (if_neg ?_)
  exact fun h => nomatch hp.symm.trans h

/-- The end of a wake under a pause: the ranks stay in self-refresh where the pause is deep (R80). -/
def quiesced (s : State) : State :=
  panicUpdate (enter .quiesced (cycleEnds true (onlyIf (!s.qz.deep) (fun s => wakeZq (srExitAll s)) (wakened s))))

theorem wakeComplete_pauses (hc : s.glb.ctl = .dormant) (hw : s.pwr.waking = true) (hp : s.qz.ph = .paused) :
    wakeComplete s = playDeferred (quiesced s) := by
  unfold wakeComplete
  rw [if_pos (by rw [hc, hw]; rfl)]
  exact congrArg playDeferred (if_pos hp)

theorem playDeferred_none (h : s.pwr.deferred = []) : playDeferred s = s := by
  have hs : updPwr (fun p => { p with deferred := [] }) s = s := by
    rw [← h]
    rfl
  unfold playDeferred
  rw [h, hs]
  rfl

end Sys2Proof.Machine
end

section
/-! Power-down, self-refresh, DORMANT and the wakes (R482 to R486). -/

namespace Sys2Proof
open Machine

variable {s : State}

theorem powerDown_entered {x : Sc} (hc : s.glb.ctl = .service) (hl : chLive s (chOf x) = true)
    (ha : s.pwr.sc.get x = .active) (hb : regBit s 0x3000 31 = true) (hbus : busDone s x = true)
    (hr : (s.sched.get x).rq.all RdEnt.issued = true) (hw : (s.sched.get x).wq.all WrEnt.issued = true)
    (hcopy : (s.sched.get x).copy = []) (hm : (s.sched.get x).maint.toList.all List.isEmpty = true)
    (ht : trainAsks s x = false) :
    completes (.powerDownEntry x) s fun t =>
      t.pwr.sc.get x = .powerDown
      ∧ (t.sched.get x).maskVec = BitVec.allOnes 7
      ∧ (t.sched.get x).holder = none
      ∧ regGet t 0x3060 = BitVec.ofNat 32 (min 0xFFFFFFFF ((regGet s 0x3060).toNat + 1)) := by
  refine completes_of_run (f := powerDownEntry x) rfl ?_
  rw [powerDownEntry_down (s := begin_ s) hc hl ha hb hbus hr hw hcopy hm ht]
  refine ⟨?_, ?_, ?_, bump_of_seen (s := begin_ s) (by simp) (by decide +kernel)⟩
  · rw [pwr_sc_of_seen ((bump_keeps _ _ (by decide +kernel)).trans (setMask_keeps (by decide) ..))]
    exact vget_vset_same ..
  · rw [sched_of_seen (bump_keeps _ _ (by decide +kernel))]
    exact setMask_masks ..
  · rw [sched_of_seen (bump_keeps _ _ (by decide +kernel))]
    exact setMask_holder ..

theorem selfRefresh_entered {x : Sc} (hc : s.glb.ctl = .service) (hl : chLive s (chOf x) = true)
    (ha : s.pwr.sc.get x ≠ .selfRefresh) (hb : regBit s 0x3000 30 = true) (hq : scQuiet s x = true)
    (hm : mntAsks s x = false) (hsc : scrubBehind s x = false)
    (hf : s.ras.fetch.all (fun f => decide (f.1 ≠ x)) = true) (hsp : (s.ras.spare.get (chOf x)).st ≠ .copying)
    (hp : s.ras.ppr = none) :
    completes (.selfRefreshEntry x) s fun t =>
      t.pwr.sc.get x = .selfRefresh
      ∧ (t.sched.get x).maskVec = BitVec.allOnes 7
      ∧ regGet t 0x3064 = BitVec.ofNat 32 (min 0xFFFFFFFF ((regGet s 0x3064).toNat + 1)) := by
  refine completes_of_run (f := selfRefreshEntry x) rfl ?_
  rw [selfRefreshEntry_enters (s := begin_ s) hc hl ha hb hq hm hsc hf hsp hp]
  refine ⟨?_, ?_, bump_of_seen (s := begin_ s) (srEnter_keeps (by decide) ..) (by decide +kernel)⟩
  · rw [pwr_sc_of_seen (bump_keeps _ _ (by decide +kernel))]
    exact srEnter_sc (s := begin_ s) ha
  · rw [sched_of_seen (bump_keeps _ _ (by decide +kernel))]
    exact srEnter_masks (s := begin_ s) ha

theorem selfRefresh_left {x : Sc} (hc : s.glb.ctl = .service) (hl : chLive s (chOf x) = true)
    (hsr : s.pwr.sc.get x = .selfRefresh) (hw : srWakes s x = true) :
    completes (.selfRefreshWake x) s fun t =>
      t.pwr.sc.get x = .active
      ∧ (t.sched.get x).maskVec = 0
      ∧ (t.glb.ch.get (chOf x)).inSr = false
      ∧ (t.glb.ch.get (chOf x)).latch = false := by
  have wakes : selfRefreshWake x (begin_ s) = srExit x (begin_ s) := by
    unfold selfRefreshWake
    refine if_pos ?_
    rw [show (begin_ s).glb.ctl = .service from hc, show chLive (begin_ s) (chOf x) = true from hl,
      show srWakes (begin_ s) x = true from hw]
    rfl
  have awake : (srLeft x (begin_ s)).pwr.sc.get x = .active := by
    rw [srLeft_sc]
    exact vget_vset_same ..
  refine completes_of_run (f := selfRefreshWake x) rfl ?_
  rw [wakes, srExit_asleep (s := begin_ s) hsr]
  refine ⟨?_, ?_, noteSr_awake (scA_or_scB x) (by rw [awake]; exact nofun)⟩
  · rw [pwr_sc_of_seen (noteSr_keeps (by decide) ..)]
    exact awake
  · rw [sched_of_seen (noteSr_keeps (by decide) ..)]
    exact srLeft_masks ..

theorem selfRefresh_stays {x : Sc} (hw : srWakes s x = false) :
    completes (.selfRefreshWake x) s fun t => t = begin_ s := by
  refine completes_of_run (f := selfRefreshWake x) rfl ?_
  unfold selfRefreshWake
  exact if_neg (by simp [show srWakes (begin_ s) x = false from hw])

theorem dormant_entered (hd : mayDoze s = true) :
    completes .dormantEntry s fun t =>
      t.glb.ctl = .dormant
      ∧ t.glb.coreRun = false
      ∧ regGet t 0x3068 = BitVec.ofNat 32 (min 0xFFFFFFFF ((regGet s 0x3068).toNat + 1))
      ∧ bitOf (regGet t 0x3050) 1 = true
      ∧ t.pwr.dormantAt = s.glb.now
      ∧ t.out = [] := by
  have entered : dormantEntry (begin_ s) = sqSet rPwrStatus 0x2 (bump 0x3068 (updGlb (fun g => { g with coreRun := false })
      (enter .dormant (updPwr (fun p => { p with dormantAt := s.glb.now }) (begin_ s))))) := if_pos hd
  refine completes_of_run (f := dormantEntry) rfl ?_
  rw [entered]
  refine ⟨rfl, rfl, ?_, ?_, ?_, ?_⟩
  · rw [regGet_sqSet_other _ _ (by decide)]
    exact bump_of_seen (s := begin_ s) (by simp) (by decide +kernel)
  · rw [show (0x3050 : Nat) = rPwrStatus from rfl, regGet_sqSet_same, sqWord_bit _ _ (by decide)]
    exact Bool.or_true _
  · exact pwr_dormantAt_of_seen (s := updPwr (fun p => { p with dormantAt := s.glb.now }) (begin_ s)) (by simp)
  · exact out_of_seen (s := begin_ s) (by simp)

/-- A wake that starts. -/
def waking (s : State) : State := updGlb (fun g => { g with pllTries := 0 }) (updPwr (fun p => { p with waking := true }) s)

theorem startWake_starts (h : s.pwr.waking = false) : startWake s = waking s := if_neg (by rw [h]; exact nofun)

theorem startWake_waking (s : State) : (startWake s).pwr = { s.pwr with waking := true } ∧ (startWake s).regs = s.regs
    ∧ (startWake s).out = s.out := by
  unfold startWake
  split
  · next h => exact ⟨by rw [← h], rfl, rfl⟩
  · exact ⟨rfl, rfl, rfl⟩

theorem port_wakes (p : PortId) (hc : s.glb.ctl = .dormant) (hw : s.pwr.waking = false) :
    completes (.dormantWake (.port p)) s fun t =>
      t.pwr = { s.pwr with waking := true } ∧ t.glb = { s.glb with pllTries := 0 } ∧ t.out = [] := by
  have wakes : dormantWake (.port p) (begin_ s) = waking (begin_ s) :=
    (if_neg fun h => h hc).trans (startWake_starts (s := begin_ s) hw)
  refine completes_of_run (f := dormantWake (.port p)) rfl ?_
  rw [wakes]
  exact ⟨rfl, rfl, rfl⟩

theorem write_wakes {a : RegAcc} (hc : s.glb.ctl = .dormant) (hp : portReady s = true) (ha : a.allowed = true)
    (hw : a.wakes = true) :
    completes (.dormantWake (.regWrite a)) s fun t =>
      t.pwr.waking = true ∧ t.pwr.deferred = s.pwr.deferred ++ [a] ∧ t.regs = s.regs ∧ t.out = [] := by
  have wakes : dormantWake (.regWrite a) (begin_ s)
      = startWake (updPwr (fun p => { p with deferred := p.deferred ++ [a] }) (begin_ s)) := by
    refine (if_neg fun h => h hc).trans ((if_pos hw).trans ?_)
    unfold portWrite
    rw [show portReady (begin_ s) = true from hp, ha, show (begin_ s).glb.ctl = .dormant from hc, hw]
    rfl
  refine completes_of_run (f := dormantWake (.regWrite a)) rfl ?_
  rw [wakes]
  obtain ⟨hpwr, hregs, hout⟩ := startWake_waking (updPwr (fun p => { p with deferred := p.deferred ++ [a] }) (begin_ s))
  rw [hpwr, hregs, hout]
  exact ⟨rfl, rfl, rfl, rfl⟩

theorem timer_wakes (hc : s.glb.ctl = .dormant) (hw : s.pwr.waking = false) (hm : regFld s 0x3004 15 0 ≠ 0) :
    completes .dormantTimerExpiry s fun t =>
      t.pwr = { s.pwr with waking := true } ∧ t.glb = { s.glb with pllTries := 0 } ∧ t.out = [] := by
  have wakes : dormantTimer (begin_ s) = waking (begin_ s) := by
    unfold dormantTimer
    refine (if_pos ?_).trans (startWake_starts (s := begin_ s) hw)
    rw [show (begin_ s).glb.ctl = .dormant from hc, decide_eq_true (show regFld (begin_ s) 0x3004 15 0 ≠ 0 from hm)]
    rfl
  refine completes_of_run (f := dormantTimer) rfl ?_
  rw [wakes]
  exact ⟨rfl, rfl, rfl⟩

theorem wakened_counts (s : State) : regGet (wakened s) 0x306C
    = BitVec.ofNat 32 (min 0xFFFFFFFF ((regGet s 0x306C).toNat + 1)) := by
  unfold wakened
  rw [regGet_sqSet_other _ _ (by decide)]
  exact bump_of_seen (s := s) (by simp) (by decide +kernel)

theorem wake_serves (hc : s.glb.ctl = .dormant) (hw : s.pwr.waking = true) (hd : s.pwr.deferred = [])
    (hp : s.qz.ph = .idle) :
    completes .wakeComplete s fun t =>
      t.glb.ctl = .service
      ∧ t.glb.coreRun = true
      ∧ t.pwr.waking = false
      ∧ (∀ x ∈ liveScs s, t.pwr.sc.get x ≠ .selfRefresh)
      ∧ regGet t 0x306C = BitVec.ofNat 32 (min 0xFFFFFFFF ((regGet s 0x306C).toNat + 1)) := by
  have hdef : (arriveService (wakeZq (srExitAll (wakened (begin_ s))))).pwr.deferred = [] :=
    (pwr_deferred_of_seen (s := wakened (begin_ s)) (by simp)).trans hd
  refine completes_of_run (f := wakeComplete) rfl ?_
  rw [wakeComplete_serves (s := begin_ s) hc hw hp, playDeferred_none hdef]
  refine ⟨?_, glb_coreRun_of_seen (s := wakened (begin_ s)) (by simp), pwr_waking_of_seen (s := wakened (begin_ s)) (by simp),
    fun x hx => ?_, ?_⟩
  · refine (arriveService_ctl _).resolve_right fun h => ?_
    have hph : (wakeZq (srExitAll (wakened (begin_ s)))).qz.ph = .idle :=
      (congrArg Qz.ph (qz_of_seen (s := wakened (begin_ s)) (by simp))).trans hp
    exact nomatch hph.symm.trans h.2
  · rw [pwr_sc_of_seen (s := srExitAll (wakened (begin_ s))) (by simp)]
    exact srExitAll_wakes (s := wakened (begin_ s)) hx
  · exact (regGet_of_seen (s := wakened (begin_ s)) (hid := 0x1FFFFFFDFFFFFFFFFFFFFFFFFFFFFFFFFFFFFFFFFFFFF) (by simp) _
      (by decide +kernel)).trans (wakened_counts _)

theorem quiesced_deep (h : s.qz.deep = true) : (quiesced s).pwr.sc = s.pwr.sc := by
  unfold quiesced
  rw [h]
  exact pwr_sc_of_seen (s := wakened s) (by simp [onlyIf])

theorem quiesced_shallow {x : Sc} (h : s.qz.deep = false) (hx : x ∈ liveScs s) : (quiesced s).pwr.sc.get x ≠ .selfRefresh := by
  unfold quiesced
  rw [h, pwr_sc_of_seen (s := srExitAll (wakened s)) (by simp [onlyIf])]
  exact srExitAll_wakes (s := wakened s) hx

theorem wake_quiesces (hc : s.glb.ctl = .dormant) (hw : s.pwr.waking = true) (hd : s.pwr.deferred = [])
    (hp : s.qz.ph = .paused) :
    completes .wakeComplete s fun t =>
      t.glb.ctl = .quiesced
      ∧ t.glb.coreRun = true
      ∧ t.pwr.waking = false
      ∧ (if s.qz.deep then t.pwr.sc = s.pwr.sc else ∀ x ∈ liveScs s, t.pwr.sc.get x ≠ .selfRefresh)
      ∧ t.qz = s.qz := by
  have hdef : (quiesced (begin_ s)).pwr.deferred = [] :=
    (pwr_deferred_of_seen (s := wakened (begin_ s)) (by simp [quiesced])).trans hd
  refine completes_of_run (f := wakeComplete) rfl ?_
  rw [wakeComplete_pauses (s := begin_ s) hc hw hp, playDeferred_none hdef]
  refine ⟨?_, glb_coreRun_of_seen (s := wakened (begin_ s)) (by simp [quiesced]),
    pwr_waking_of_seen (s := wakened (begin_ s)) (by simp [quiesced]), ?_,
    qz_of_seen (s := wakened (begin_ s)) (by simp [quiesced])⟩
  · exact (glb_ctl_of_seen (panicUpdate_keeps (by decide) _)).trans (enter_ctl ..)
  · split
    · next hdeep => exact quiesced_deep (s := begin_ s) hdeep
    · next hdeep => exact fun x hx => quiesced_shallow (s := begin_ s) (eq_false_of_ne_true hdeep) hx

/-- Settles O31. -/
theorem powerDownAndDormant : Obligations.PowerDownAndDormant :=
  ⟨fun _ _ => powerDown_entered, fun _ _ => selfRefresh_entered, fun _ _ => selfRefresh_left,
    fun _ _ => selfRefresh_stays, fun _ => dormant_entered, fun _ => port_wakes, fun _ _ => write_wakes,
    fun _ => timer_wakes, fun _ => wake_serves, fun _ => wake_quiesces⟩

end Sys2Proof
end

section
/-! SUPPORT. The registers of the egress slots (R128, R129), which only the ends of the slots themselves write. -/

namespace Sys2Proof.Machine

variable {B s t : State}

/-- The stale answers, the slot timeouts and the status of the egress port are those of `B`. -/
def Steady (B s : State) : Prop :=
  regGet s 0x8208 = regGet B 0x8208 ∧ regGet s 0x820C = regGet B 0x820C ∧ regGet s rEgpStatus = regGet B rEgpStatus

theorem steady_refl (s : State) : Steady s s := ⟨rfl, rfl, rfl⟩

/-- What leaves the block of the ports alone. -/
theorem steady_keeps (e : t.seen 0x1FFFFFDFFFFFFFFFFFFFFFFFFFFFFFFFFFFFFFFFFFFFF =
      s.seen 0x1FFFFFDFFFFFFFFFFFFFFFFFFFFFFFFFFFFFFFFFFFFFF) (h : Steady B s) : Steady B t := by
  obtain ⟨hstale, htime, hst⟩ := h
  exact ⟨(regGet_of_seen e _ (by decide +kernel)).trans hstale, (regGet_of_seen e _ (by decide +kernel)).trans htime,
    (regGet_of_seen e _ (by decide +kernel)).trans hst⟩

theorem bump_steady {o : Nat} (ho : o ≠ 0x8208 ∧ o ≠ 0x820C ∧ o ≠ rEgpStatus) (h : Steady B s) : Steady B (bump o s) := by
  obtain ⟨hstale, htime, hst⟩ := h
  exact ⟨(regGet_bump_other _ ho.1.symm).trans hstale, (regGet_bump_other _ ho.2.1.symm).trans htime,
    (regGet_bump_other _ ho.2.2.symm).trans hst⟩

theorem sqSet_steady {o : Nat} {w : Word} (ho : o ≠ 0x8208 ∧ o ≠ 0x820C ∧ o ≠ rEgpStatus) (h : Steady B s) :
    Steady B (sqSet o w s) := by
  obtain ⟨hstale, htime, hst⟩ := h
  exact ⟨(regGet_sqSet_other _ _ ho.1.symm).trans hstale, (regGet_sqSet_other _ _ ho.2.1.symm).trans htime,
    (regGet_sqSet_other _ _ ho.2.2.symm).trans hst⟩

theorem ite_steady {c : Prop} [Decidable c] (hs : Steady B s) (ht : Steady B t) : Steady B (if c then s else t) := by
  split
  · exact hs
  · exact ht

theorem onlyIf_steady {c : Bool} {f : State → State} (hf : ∀ s, Steady B s → Steady B (f s)) (h : Steady B s) :
    Steady B (onlyIf c f s) := onlyIf_inv (hf s) h

theorem forAll_steady {α : Type} {l : List α} {f : α → State → State}
    (hf : ∀ a s, Steady B s → Steady B (f a s)) (h : Steady B s) : Steady B (forAll l f s) := forAll_inv l hf h

theorem finish_steady {id : Nat} (h : Steady B s) : Steady B (finish id s) := steady_keeps (by simp) h

theorem updReq_steady {id : Nat} {f : Req → Req} (h : Steady B s) : Steady B (updReq id f s) := steady_keeps (by simp) h

theorem respond_steady {p : PortId} {tag : BitVec 10} {gen : BitVec 2} {st : Status} {data : Line}
    {src : BitVec 10} {xid : BitVec 16} {stale : Bool} {epoch : BitVec 8} (h : Steady B s) :
    Steady B (respond p tag gen st data src xid stale epoch s) := by
  unfold respond
  dsimp only
  split
  · exact bump_steady (by revert p; decide) (steady_keeps (by simp) h)
  · exact bump_steady (by revert p; decide) (steady_keeps (by simp) h)
  · exact steady_keeps (by simp) h

theorem answer1_steady {id : Nat} {st : Status} {data : Line} {stale : Bool} {epoch : BitVec 8} (h : Steady B s) :
    Steady B (answer1 id st data stale epoch s) := by
  unfold answer1
  dsimp only
  split
  · exact h
  · exact ite_steady h (ite_steady (updReq_steady (respond_steady h)) (finish_steady
      (respond_steady h)))

theorem barriers_steady (h : Steady B s) : Steady B (barriers s) := by
  unfold barriers
  exact forAll_steady (fun _ s h2 => ite_steady (answer1_steady h2) h2) h

theorem answerX_steady {id : Nat} {st : Status} {data : Line} {stale : Bool} {epoch : BitVec 8} (h : Steady B s) :
    Steady B (answerX id st data stale epoch s) := by
  unfold answerX
  exact barriers_steady (answer1_steady h)

theorem answer_steady {id : Nat} {st : Status} {data : Line} (h : Steady B s) :
    Steady B (answer id st data s) := by
  unfold answer
  split
  · exact h
  · exact answerX_steady h

theorem failReq_steady {id : Nat} (h : Steady B s) : Steady B (failReq id s) := by
  unfold failReq
  exact finish_steady (answer_steady h)

theorem panicUpdate_steady (h : Steady B s) : Steady B (panicUpdate s) := by
  unfold panicUpdate
  dsimp only
  exact ite_steady (ite_steady (steady_keeps (by simp) h) (steady_keeps (by simp) h))
    (ite_steady (steady_keeps (policyPanic_keeps (by decide) _) (sqSet_steady (by decide) (steady_keeps (by simp) h)))
      (steady_keeps (by simp) h))

theorem ingressLeft_steady (h : Steady B s) : Steady B (ingressLeft s) := by
  unfold ingressLeft
  exact panicUpdate_steady (steady_keeps (by simp) h)

theorem answerSettled_steady {id : Nat} (h : Steady B s) : Steady B (answerSettled id s) := by
  unfold answerSettled
  exact onlyIf_steady (fun _ h2 => finish_steady h2) (answer_steady h)

theorem dirtyRelease_steady (h : Steady B s) : Steady B (dirtyRelease s) := by
  unfold dirtyRelease
  exact forAll_steady (fun _ s h2 => answerSettled_steady (updReq_steady h2)) h

theorem pumpCopy_steady (h : Steady B s) : Steady B (pumpCopy s) := by
  unfold pumpCopy
  exact steady_keeps (recordRelease_keeps (by decide) _) (dirtyRelease_steady (forAll_steady
    (fun _ s h2 => steady_keeps (by simp) h2) (forAll_steady (fun _ s h2 => steady_keeps (by simp) h2) h)))

theorem copyWrite_steady {k : Nat} (h : Steady B s) : Steady B (copyWrite k s) := by
  unfold copyWrite
  exact pumpCopy_steady (steady_keeps (by simp) h)

theorem setDirty_steady {r : Nat} (h : Steady B s) : Steady B (setDirty r s) := by
  unfold setDirty
  exact ite_steady h (copyWrite_steady (steady_keeps (by simp) h))

theorem settle_steady {id : Nat} (h : Steady B s) : Steady B (settle id s) := by
  unfold settle
  dsimp only
  split
  · exact h
  · split
    · exact answerSettled_steady h
    · exact ite_steady (updReq_steady (setDirty_steady h)) (answerSettled_steady (setDirty_steady h))
    · exact steady_keeps (reqRole_keeps (by decide) _ _) (finish_steady (answer_steady h))
    · exact finish_steady (answer_steady h)
    · exact h

theorem settlePeer_steady {id : Nat} {c : Commit} (h : Steady B s) : Steady B (settlePeer id c s) := by
  unfold settlePeer
  exact forAll_steady (fun _ s h2 => settle_steady (updReq_steady h2)) h

theorem glgUnmirrored_steady {w : InstId × Byte × Lla} (h : Steady B s) : Steady B (glgUnmirrored w s) := by
  unfold glgUnmirrored
  exact ite_steady (setDirty_steady h) (steady_keeps (by simp) h)

theorem settleOpen_steady (h : Steady B s) : Steady B (settleOpen s) := by
  unfold settleOpen
  exact forAll_steady (fun _ s h2 => settlePeer_steady h2) h

theorem dropForwards_steady (h : Steady B s) : Steady B (dropForwards s) := by
  unfold dropForwards
  dsimp only
  exact forAll_steady (fun _ s h2 => glgUnmirrored_steady h2) (forAll_steady (fun _ s h2 => settlePeer_steady h2)
    (steady_keeps (by simp) h))

theorem degrade_steady {cause : Nat} {tok : Nat} (h : Steady B s) : Steady B (degrade cause tok s) := by
  unfold degrade
  dsimp only
  exact ite_steady h (ite_steady (onlyIf_steady (fun _ h2 => steady_keeps (by simp) h2) (steady_keeps (by simp) h))
    (steady_keeps (mirRecord_keeps (by decide) _ _ _ _ _ _) (dropForwards_steady (steady_keeps (by simp) h))))

theorem forward_steady {id : Nat} {data : Line} {poison : Bool} (h : Steady B s) :
    Steady B (forward id data poison s) := by
  unfold forward
  split
  · exact h
  · exact ite_steady (ite_steady (steady_keeps (by simp) h) (steady_keeps (by simp) h)) (settlePeer_steady h)

theorem heldNotOwned_steady (h : Steady B s) : Steady B (heldNotOwned s) := by
  unfold heldNotOwned
  exact ingressLeft_steady (forAll_steady (fun _ s h2 => finish_steady (answer_steady h2)) h)

theorem learnEpoch_steady {e : BitVec 8} (h : Steady B s) : Steady B (learnEpoch e s) := by
  unfold learnEpoch
  dsimp only
  exact ite_steady (heldNotOwned_steady (steady_keeps (roleRecord_keeps (by decide) _ _ _) (degrade_steady
    (steady_keeps (updMir_keeps _ _ (by simp)) (steady_keeps (roleOff_keeps (by decide) _)
    (settleOpen_steady h)))))) h

theorem answerForwarded_steady {x : Sc} {id : Nat} {line : Line} {poison : Bool} (h : Steady B s) :
    Steady B (answerForwarded x id line poison s) := by
  unfold answerForwarded
  exact answer_steady (steady_keeps (by simp) h)

theorem answerWaiting_steady {x : Sc} {wr : Nat} {line : Line} {poison : Bool} (h : Steady B s) :
    Steady B (answerWaiting x wr line poison s) := by
  unfold answerWaiting
  exact forAll_steady (fun _ s h2 => answerForwarded_steady h2) h

theorem forwardEntry_steady {x : Sc} {id : Nat} {line : Line} {poison : Bool} (h : Steady B s) :
    Steady B (forwardEntry x id line poison s) := by
  unfold forwardEntry
  split
  · exact h
  · exact ite_steady (steady_keeps (markForwarded_keeps (by decide) _ _ _) (forward_steady h)) h

theorem supersede1_steady {x : Sc} {keep : Nat} {e : WrEnt} (h : Steady B s) :
    Steady B (supersede1 x keep e s) := by
  unfold supersede1
  dsimp only
  split
  · exact steady_keeps (by simp) h
  · exact ite_steady (ite_steady (updReq_steady (steady_keeps (by simp) h))
      (settlePeer_steady (steady_keeps (by simp) h))) (steady_keeps (by simp) h)

theorem mergeDone_steady {fuel : Nat} {x : Sc} {id : Nat} {base : Line} {poison : Bool} (h : Steady B s) :
    Steady B (mergeDone fuel x id base poison s) := by
  induction fuel generalizing id base poison s with
  | zero => exact h
  | succ n ih =>
    unfold mergeDone
    dsimp only
    split
    · exact h
    · have h2 := fun (line : Line) (s : State) (h : Steady B s) =>
        answerWaiting_steady (x := x) (wr := id) (line := line) (poison := poison)
          (forwardEntry_steady (x := x) (id := id) (line := line) (poison := poison) h)
      split
      · exact h2 _ _ (onlyIf_steady (fun _ h => steady_keeps (by simp) h) (steady_keeps (by simp) h))
      · refine ih (onlyIf_steady (fun _ h => supersede1_steady h) (onlyIf_steady
          (fun _ h => steady_keeps (by simp) h) ?_))
        exact h2 _ _ (onlyIf_steady (fun _ h => steady_keeps (by simp) h) (steady_keeps (by simp) h))

theorem merged_steady {x : Sc} {id : Nat} {base : Line} {poison : Bool} (h : Steady B s) :
    Steady B (merged x id base poison s) := by
  unfold merged
  exact mergeDone_steady h

theorem mergeBase_steady {x : Sc} {id : Nat} {l : Lla} {d : Decoded} (h : Steady B s) :
    Steady B (mergeBase x id l d s) := by
  unfold mergeBase
  exact merged_steady (steady_keeps (by simp) h)

theorem linked_steady {q : Req} (h : Steady B s) : Steady B (linked q s) := by
  unfold linked
  exact ingressLeft_steady (steady_keeps (by simp) h)

theorem glgWrite_steady {i : InstId} {label : BitVec 12} {g : GLine} {data : Line} {back : Bool}
    (h : Steady B s) : Steady B (glgWrite i label g data back s) := by
  unfold glgWrite
  dsimp only
  exact ite_steady (ite_steady (steady_keeps (by simp) h) h) (ite_steady (steady_keeps (by simp) h)
    (glgUnmirrored_steady (ite_steady (steady_keeps (by simp) h) h)))

theorem tookSlot_steady {i : InstId} {k : Nat} {j : Job} {g : GLine} {r : GRead} (h : Steady B s) :
    Steady B (tookSlot i k j g r s) := by
  unfold tookSlot
  exact ite_steady (steady_keeps (gotBits_keeps (by decide) _ _ _ _) (glgWrite_steady h)) (steady_keeps (by simp) h)

theorem settleSlot_steady {i : InstId} {k : Nat} {j : Job} {g : GLine} {d : Decoded} {peer : Option Line}
    (h : Steady B s) :
    Steady B (settleSlot i k j g d peer s) := by
  unfold settleSlot
  exact ite_steady (steady_keeps (by simp) h) (tookSlot_steady (steady_keeps (readSlot_keeps (by decide) ..) h))

theorem glgPeerDone_steady {i : InstId} {e : Byte} {k : Nat} {st : Option Status} {data : Line} (h : Steady B s) :
    Steady B (glgPeerDone i e k st data s) := by
  unfold glgPeerDone
  dsimp only
  split
  · exact onlyIf_steady (fun _ h2 => steady_keeps (by simp) h2) h
  · split
    · split
      · exact onlyIf_steady (fun _ h2 => steady_keeps (by simp) h2) h
      · split
        · exact steady_keeps (leaveGranule_keeps (by decide) _ _) (settleSlot_steady (onlyIf_steady
            (fun _ h2 => steady_keeps (by simp) h2) h))
        · exact steady_keeps (leaveGranule_keeps (by decide) _ _) (ite_steady (tookSlot_steady
            (steady_keeps (by simp) h)) (ite_steady (tookSlot_steady (steady_keeps (by simp) h))
            (steady_keeps (by simp) h)))
    · exact onlyIf_steady (fun _ h2 => steady_keeps (by simp) h2) h

theorem glgMirrorDone_steady {i : InstId} {e : Byte} {l : Lla} {st : Option Status} (h : Steady B s) :
    Steady B (glgMirrorDone i e l st s) := by
  unfold glgMirrorDone
  split
  · exact ite_steady h (steady_keeps (by simp) h)
  · exact ite_steady h (steady_keeps (by simp) h)
  · exact glgUnmirrored_steady h

theorem peerRefused_steady {st : Option Status} {stale : Bool} {epoch : BitVec 8} {tok : BitVec 16}
    (h : Steady B s) : Steady B (peerRefused st stale epoch tok s) := by
  unfold peerRefused
  exact ite_steady h (ite_steady (learnEpoch_steady h) (degrade_steady h))

theorem recoveryAnswer_steady {id : Nat} {d : Decoded} {st : Option Status} {data : Line} (h : Steady B s) :
    Steady B (recoveryAnswer id d st data s) := by
  unfold recoveryAnswer
  split
  · exact h
  · exact ite_steady (answer_steady (steady_keeps (by simp) h)) (answer_steady (steady_keeps (by simp) h))

theorem remoteDone_steady {id : Nat} {st : Option Status} {data : Line} (h : Steady B s) :
    Steady B (remoteDone id st data s) := by
  unfold remoteDone
  split
  · exact answer_steady h
  · exact answer_steady h
  · exact answer_steady h
  · exact answer_steady h
  · exact failReq_steady h

theorem mergeBaseDone_steady {id : Nat} {dec : Option Decoded} {st : Option Status} {data : Line}
    (h : Steady B s) : Steady B (mergeBaseDone id dec st data s) := by
  unfold mergeBaseDone
  dsimp only
  split
  · exact h
  · split
    · exact ite_steady (merged_steady (steady_keeps (by simp) h)) (merged_steady (steady_keeps (by simp) h))
    · exact ite_steady (steady_keeps (by simp) h) (settlePeer_steady h)

theorem egpDone_steady {r : EgpReq} {st : Option Status} {data : Line} (h : Steady B s) :
    Steady B (egpDone r st data s) := by
  unfold egpDone
  split
  · exact settlePeer_steady h
  · exact settlePeer_steady h
  · exact recoveryAnswer_steady h
  · exact remoteDone_steady h
  · exact mergeBaseDone_steady h
  · exact steady_keeps (by simp) h
  · exact steady_keeps (by simp) h
  · exact ite_steady (steady_keeps (by simp) h) h
  · exact steady_keeps (by simp) h
  · exact steady_keeps (by simp) h
  · exact steady_keeps (by simp) h
  · exact glgMirrorDone_steady h
  · exact glgPeerDone_steady h

end Sys2Proof.Machine
end

section
/-! SUPPORT. Marks of drain holds: which forward may issue does not depend on them (R496). -/

namespace Sys2Proof.Machine

variable {s t : State}

/-- A request apart from its mark of a drain hold, which only has the hold counted once (R496). -/
def Req.unheld (r : Req) : Req := { r with drainHeld := false }

/-- `t` is `s` but for marks of drain holds and the two registers that report them. -/
structure Marked (s t : State) : Prop where
  rest : t = { s with reqs := t.reqs, regs := t.regs }
  reqs : t.reqs.map Req.unheld = s.reqs.map Req.unheld
  regs : ∀ o, o ≠ 0x3050 → o ≠ 0x3070 → regGet t o = regGet s o

theorem marked_refl (s : State) : Marked s s := ⟨rfl, rfl, fun _ _ _ => rfl⟩

theorem Marked.trans {u : State} (h : Marked s t) (h' : Marked t u) : Marked s u := by
  refine ⟨?_, h'.reqs.trans h.reqs, fun o ho ho' => (h'.regs o ho ho').trans (h.regs o ho ho')⟩
  rw [h'.rest, h.rest]

theorem countForwardHolds_marked (s : State) : Marked s (countForwardHolds s) := by
  refine forAll_inv (P := Marked s) _ (fun id t h => ?_) (marked_refl s)
  split
  · next r hr =>
    refine onlyIf_inv (fun h => h.trans ⟨rfl, ?_, fun o ho ho' => ?_⟩) h
    · change (List.map _ t.reqs).map Req.unheld = _
      rw [List.map_map]
      refine List.map_congr_left fun q _ => ?_
      simp only [Function.comp_apply]
      split <;> rfl
    · exact (regGet_sqSet_other _ _ ho).trans (regGet_bump_other _ ho')
  · exact h


theorem regFld_marked (h : Marked s t) {o : Nat} (ho : o ≠ 0x3050) (ho' : o ≠ 0x3070) (hi lo : Nat) :
    regFld t o hi lo = regFld s o hi lo := by
  unfold regFld
  rw [h.regs _ ho ho']

theorem rateOf_marked (h : Marked s t) (g : Gear) : rateOf t g = rateOf s g := regFld_marked h (by omega) (by omega) _ _

theorem tim_marked (h : Marked s t) (i : Nat) : tim t i = tim s i := by
  have hg : t.glb = s.glb := by rw [h.rest]
  unfold tim timOf
  rw [h.regs _ (by omega) (by omega), hg]

theorem lineRow_marked (h : Marked s t) (l : Lla) : lineRow t l = lineRow s l := by
  unfold lineRow dramRow isX8 regBit
  rw [h.regs _ (by decide) (by decide)]

theorem rowHit_marked (h : Marked s t) (q : Sched) (l : Lla) : rowHit t q l = rowHit s q l := by
  unfold rowHit
  rw [lineRow_marked h]

theorem rowKey_marked (h : Marked s t) (l : Lla) : rowKey t l = rowKey s l := by
  unfold rowKey
  rw [lineRow_marked h]

theorem copyLine_marked (h : Marked s t) (k : Nat) : (copyLine t k).2.1 = (copyLine s k).2.1 := by
  have hl : ∀ c n, sysLine t c n = sysLine s c n := fun c n => by
    unfold sysLine nRows
    rw [regFld_marked h (by decide) (by decide)]
  unfold copyLine
  split
  · exact hl _ _
  · exact hl _ _

/-- A property that the mark does not touch holds of as many requests. -/
theorem filter_map_unheld {α : Type} {p : Req → Bool} {f : Req → α} (hp : ∀ r, p r.unheld = p r) (hf : ∀ r, f r.unheld = f r)
    (l : List Req) : (l.filter p).map f = ((l.map Req.unheld).filter p).map f := by
  have hp' : p ∘ Req.unheld = p := funext hp
  have hf' : f ∘ Req.unheld = f := funext hf
  rw [List.filter_map, List.map_map, hp', hf']

theorem owedLines_marked (h : Marked s t) (c : Ch) : owedLines t c = owedLines s c := by
  have hm : t.mir = s.mir := by rw [h.rest]
  unfold owedLines
  rw [hm]
  refine congrArg distinct ?_
  rw [filter_map_unheld (fun _ => rfl) (fun _ => rfl), h.reqs, ← filter_map_unheld (fun _ => rfl) (fun _ => rfl)]

theorem drainEst_marked (h : Marked s t) (x : Sc) (more : List (Lla × Bool)) (lines : List Nat) :
    drainEst t x more lines = drainEst s x more lines := by
  have hs : t.sched = s.sched := by rw [h.rest]
  unfold drainEst drainLines
  simp only [hs, owedLines_marked h, copyLine_marked h, rowHit_marked h, rowKey_marked h, tim_marked h]

theorem drainLimit_marked (h : Marked s t) : drainLimit t = drainLimit s := by
  have hg : t.glb = s.glb := by rw [h.rest]
  have hp : t.phy = s.phy := by rw [h.rest]
  unfold drainLimit drainCapGc drainCap
  rw [hg, hp, rateOf_marked h, regFld_marked h (by decide) (by decide)]

/-- The drain estimate sees no marks. -/
theorem drainOk_marked (h : Marked s t) (r : Req) (entry : Bool) : drainOk t r.unheld entry = drainOk s r entry := by
  have hs : t.sched = s.sched := by rw [h.rest]
  have hm : t.mir = s.mir := by rw [h.rest]
  unfold drainOk
  simp only [hs, hm, drainEst_marked h, drainLimit_marked h]
  rfl

theorem findReq_marked (h : Marked s t) (id : Nat) : (findReq t id).map Req.unheld = (findReq s id).map Req.unheld := by
  have e : ∀ l : List Req, (l.find? fun r => decide (r.id = id)).map Req.unheld
      = (l.map Req.unheld).find? fun r => decide (r.id = id) := fun l => by
    rw [List.find?_map]
    rfl
  unfold findReq
  rw [e, e, h.reqs]

theorem lockLine_marked (h : Marked s t) (r : EgpReq) : r.lockLine t = r.lockLine s := by
  have hl : ∀ id, (findReq t id).map Req.lla = (findReq s id).map Req.lla := fun id => by
    have e := congrArg (Option.map Req.lla) (findReq_marked h id)
    rw [Option.map_map, Option.map_map] at e
    exact e
  unfold EgpReq.lockLine
  split <;> simp only [hl]

theorem egpBlocked_marked (h : Marked s t) (r : EgpReq) : egpBlocked t r = egpBlocked s r := by
  have he : t.egp = s.egp := by rw [h.rest]
  have hm : t.mir = s.mir := by rw [h.rest]
  have hd : ∀ id, ((findReq t id).any fun q => !drainOk t q false) = ((findReq s id).any fun q => !drainOk s q false) :=
    fun id => by
      have hu : ∀ (u : State) (a : Option Req), (a.any fun q => !drainOk u q false)
          = (a.map Req.unheld).any fun q => !drainOk u q false := fun u a => by
        rw [Option.any_map]
        rfl
      rw [hu t, findReq_marked h, hu s]
      refine congrArg (Option.any · _) (funext fun q => ?_)
      exact congrArg not (drainOk_marked h q false)
  unfold egpBlocked
  simp only [he, hm, lockLine_marked h, hd]

theorem keepsBack_marked (h : Marked s t) (q r : EgpReq) : keepsBack t q r = keepsBack s q r := by
  have hm : t.mir = s.mir := by rw [h.rest]
  unfold keepsBack
  simp only [hm, lockLine_marked h]

theorem egpNext_marked (h : Marked s t) (before l : List EgpReq) : egpNext t before l = egpNext s before l := by
  induction l generalizing before with
  | nil => rfl
  | cons r rest ih =>
    unfold egpNext
    simp only [egpBlocked_marked h, keepsBack_marked h, ih]

end Sys2Proof.Machine
end

section
/-! The egress port (R125 to R130, R394). -/

namespace Sys2Proof.Machine

variable {s t : State}

theorem egpFinal_marked (h : Marked s t) (r : EgpReq) : egpFinal t r = egpFinal s r := by
  have hm : t.mir = s.mir := by rw [h.rest]
  unfold egpFinal egpPart
  rw [regFld_marked h (by decide) (by decide), hm]

theorem endStaleReads_none (h : s.egp.waiting.all (fun q => !staleRead s q) = true) : endStaleReads s = s := by
  have hkeep : s.egp.waiting.filter (fun r => !staleRead s r) = s.egp.waiting :=
    List.filter_eq_self.2 (List.all_eq_true.1 h)
  have hold : s.egp.waiting.filter (staleRead s) = [] :=
    List.filter_eq_nil_iff.2 fun r hr => by simpa using List.all_eq_true.1 h r hr
  unfold endStaleReads
  rw [hkeep, hold]
  rfl

/-- A request is put in a slot and presented, before its block takes note of it. -/
def presentedIn (n : Nat) (g : BitVec 4) (r : EgpReq) (rest : List EgpReq) (s : State) : State :=
  let s := setSlot n ⟨g, some (r, s.glb.now)⟩ { s with egp := { s.egp with waiting := rest } }
  emit (.egp (tokenFor n g) r) { s with egp := { s.egp with peak := max s.egp.peak (liveSlots s) } }

theorem slotOf_setSlot_same (n : Nat) (x : EgpSlot) (s : State) : slotOf (setSlot n x s) n = x := by
  simp [slotOf, setSlot, kget, kfind_kset_same]

theorem slotOf_of_slots (h : t.egp.slots = s.egp.slots) (n : Nat) : slotOf t n = slotOf s n :=
  by rw [slotOf, h, slotOf]

theorem egpIssue_issues {n : Nat} {r : EgpReq} {rest : List EgpReq} (hon : egpOn s = true) (hfree : (slotOf s n).live = none)
    (hstale : s.egp.waiting.all (fun q => !staleRead s q) = true) (hnext : egpNext s [] s.egp.waiting = some (r, rest)) :
    egpIssue n s = egpIssued (tokenFor n (slotOf s n).gen) (egpFinal s r)
      (presentedIn n (slotOf s n).gen (egpFinal s r) rest (countForwardHolds s)) := by
  have hm : Marked s (countForwardHolds s) := countForwardHolds_marked s
  have he : (countForwardHolds s).egp = s.egp := by rw [hm.rest]
  have hn : egpNext (countForwardHolds s) [] (countForwardHolds s).egp.waiting = some (r, rest) := by
    rw [he, egpNext_marked hm, hnext]
  unfold egpIssue
  rw [if_neg (by rw [hon, hfree]; exact nofun), endStaleReads_none hstale]
  dsimp only
  rw [hn]
  dsimp only
  rw [egpFinal_marked hm, slotOf_of_slots (congrArg Egp.slots he)]
  rfl

theorem egpNext_begin (before l : List EgpReq) (s : State) : egpNext (begin_ s) before l = egpNext s before l := by
  induction l generalizing before with
  | nil => rfl
  | cons r rest ih =>
    unfold egpNext
    rw [ih]
    rfl

theorem egpIssue_completes {n : BitVec 8} {r : EgpReq} {rest : List EgpReq} (hon : egpOn s = true)
    (hfree : (slotOf s n.toNat).live = none)
    (hstale : s.egp.waiting.all (fun q => !staleRead s q) = true) (hnext : egpNext s [] s.egp.waiting = some (r, rest)) :
    completes (.egpRequestIssue n) s fun t =>
      t.out = [.egp (tokenFor n.toNat (slotOf s n.toNat).gen) (egpFinal s r)]
      ∧ t.egp.waiting = rest
      ∧ slotOf t n.toNat = ⟨(slotOf s n.toNat).gen, some (egpFinal s r, s.glb.now)⟩
      ∧ t.reqs.map Req.unheld = s.reqs.map Req.unheld := by
  have hm : Marked (begin_ s) (countForwardHolds (begin_ s)) := countForwardHolds_marked (begin_ s)
  have hnow : (countForwardHolds (begin_ s)).glb.now = s.glb.now := (congrArg (fun u : State => u.glb.now) hm.rest :)
  refine completes_of_run (f := egpIssue n.toNat) rfl ?_
  rw [egpIssue_issues (s := begin_ s) hon hfree hstale ((egpNext_begin ..).trans hnext)]
  refine ⟨?_, ?_, ?_, ?_⟩
  · refine (out_of_seen (egpIssued_keeps (by decide) ..)).trans ?_
    exact congrArg (· ++ _) (congrArg State.out hm.rest)
  · exact egp_waiting_of_seen (egpIssued_keeps (by decide) ..)
  · refine (slotOf_of_slots (egp_slots_of_seen (egpIssued_keeps (by decide) ..)) _).trans ?_
    refine (slotOf_setSlot_same ..).trans ?_
    exact congrArg (fun k => EgpSlot.mk _ (some (_, k))) hnow
  · exact (congrArg _ (reqs_of_seen (egpIssued_keeps (by decide) ..))).trans hm.reqs

/-- The end of an operation in a slot that its token names (R128). -/
def answeredIn (tok : BitVec 16) (st : BitVec 3) (stale : Bool) (e : BitVec 8) (data : Line) (r : EgpReq) (s : State) : State :=
  onlyIf r.isMirror (peerRefused (statusOf st) stale e tok) (egpDone r (statusOf st) data (retire (tok.toNat / 16) s))

theorem egpResponse_live {tok : BitVec 16} {r : EgpReq} {at_ : Nat} (hon : egpOn s = true)
    (hlive : (slotOf s (tok.toNat / 16)).live = some (r, at_))
    (htok : tok = tokenFor (tok.toNat / 16) (slotOf s (tok.toNat / 16)).gen)
    (st : BitVec 3) (stale : Bool) (e : BitVec 8) (src : BitVec 10) (data : Line) :
    egpResponse tok st stale e src data s = answeredIn tok st stale e data r s := by
  unfold egpResponse
  rw [if_neg (by rw [hon]; exact nofun)]
  dsimp only
  rw [hlive]
  exact if_neg (not_not.2 htok)

theorem egpResponse_stale {tok : BitVec 16} (hon : egpOn s = true)
    (h : (slotOf s (tok.toNat / 16)).live = none ∨ tok ≠ tokenFor (tok.toNat / 16) (slotOf s (tok.toNat / 16)).gen)
    (st : BitVec 3) (stale : Bool) (e : BitVec 8) (src : BitVec 10) (data : Line) :
    egpResponse tok st stale e src data s = egpStale tok st src s := by
  unfold egpResponse
  rw [if_neg (by rw [hon]; exact nofun)]
  dsimp only
  split
  · rfl
  · next hl => exact if_pos (h.resolve_left (by rw [hl]; exact nofun))

theorem slotOf_retire_same (n : Nat) (s : State) : slotOf (retire n s) n = ⟨(slotOf s n).gen + 1, none⟩ := slotOf_setSlot_same ..

theorem egpDone_slot (r : EgpReq) (st : Option Status) (data : Line) (n : Nat) (s : State) :
    slotOf (egpDone r st data s) n = slotOf s n := slotOf_of_slots (egp_slots_of_seen (egpDone_keeps (by decide) ..)) n

theorem egpResponse_retires {tok : BitVec 16} {r : EgpReq} {at_ : Nat} (hon : egpOn s = true)
    (hlive : (slotOf s (tok.toNat / 16)).live = some (r, at_))
    (htok : tok = tokenFor (tok.toNat / 16) (slotOf s (tok.toNat / 16)).gen)
    (st : BitVec 3) (stale : Bool) (e : BitVec 8) (src : BitVec 10) (data : Line) :
    completes (.egpResponse tok st stale e src data) s fun t =>
      slotOf t (tok.toNat / 16) = ⟨(slotOf s (tok.toNat / 16)).gen + 1, none⟩ ∧ regGet t 0x8208 = regGet s 0x8208 := by
  refine completes_of_run (f := egpResponse tok st stale e src data) rfl ?_
  rw [egpResponse_live (s := begin_ s) hon hlive htok]
  refine ⟨?_, ?_⟩
  · refine (slotOf_of_slots (egp_slots_of_seen (onlyIf_keeps _ _ _ (peerRefused_keeps (by decide) ..))) _).trans ?_
    exact (egpDone_slot ..).trans (slotOf_retire_same ..)
  · have h : Steady (begin_ s) (answeredIn tok st stale e data r (begin_ s)) :=
      onlyIf_steady (fun _ h => peerRefused_steady h) (egpDone_steady
        (steady_keeps (retire_keeps (by decide) ..) (steady_refl _)))
    exact h.1

theorem egpOn_notHeld (h : egpOn s = true) : s.glb.ctl ≠ .held := by
  simp only [egpOn, Bool.and_eq_true, decide_eq_true_eq] at h
  exact h.1.2

theorem egpResponse_remoteRead {tok : BitVec 16} {st : BitVec 3} {u : Status} {r : EgpReq} {at_ id : Nat} {q : Req}
    (hon : egpOn s = true) (hlive : (slotOf s (tok.toNat / 16)).live = some (r, at_))
    (htok : tok = tokenFor (tok.toNat / 16) (slotOf s (tok.toNat / 16)).gen) (hwhy : r.why = .remoteRead id)
    (hq : findReq s id = some q) (ha : q.answered = false) (hst : statusOf st = some u) (hu : u = .ok ∨ u = .corrected)
    (e : BitVec 8) (src : BitVec 10) (data : Line) :
    completes (.egpResponse tok st false e src data) s fun t =>
      .rsp q.port q.tag q.gen u data q.src q.xid false (peerEpochFor s q) ∈ t.out := by
  have hdone : ∀ b, egpDone r (statusOf st) data b = answer id u data b := fun b => by
    rcases hu with rfl | rfl <;> simp [egpDone, hwhy, remoteDone, hst]
  have hrefused : ∀ b, peerRefused (statusOf st) false e tok b = b := fun b => by
    rcases hu with rfl | rfl <;> simp [peerRefused, hst, answered]
  have hone : ∀ b, onlyIf r.isMirror (peerRefused (statusOf st) false e tok) b = b := fun b => by
    unfold onlyIf
    rw [hrefused]
    exact ite_self b
  refine completes_of_run (f := egpResponse tok st false e src data) rfl ?_
  rw [egpResponse_live (s := begin_ s) hon hlive htok]
  unfold answeredIn
  rw [hone, hdone]
  have hans : answer id u data (retire (tok.toNat / 16) (begin_ s))
      = answerX id u data false (peerEpochFor s q) (retire (tok.toNat / 16) (begin_ s)) := by
    unfold answer
    rw [show findReq (retire (tok.toNat / 16) (begin_ s)) id = some q from hq]
    rfl
  rw [hans]
  exact answerX_mem (s := retire (tok.toNat / 16) (begin_ s)) hq ha (egpOn_notHeld hon) ..

theorem limited_steady {key period : Nat} {f : Nat → State → State}
    (hf : ∀ n s, (f n s).seen 0x1FFFFFDFFFFFFFFFFFFFFFFFFFFFFFFFFFFFFFFFFFFFF =
      s.seen 0x1FFFFFDFFFFFFFFFFFFFFFFFFFFFFFFFFFFFFFFFFFFFF) :
    Steady s (limited key period f s) := steady_keeps (limited_keeps (by decide) _ _ _ _ hf) (steady_refl s)

theorem egpResponse_counts {tok : BitVec 16} (hon : egpOn s = true)
    (h : (slotOf s (tok.toNat / 16)).live = none ∨ tok ≠ tokenFor (tok.toNat / 16) (slotOf s (tok.toNat / 16)).gen)
    (st : BitVec 3) (stale : Bool) (e : BitVec 8) (src : BitVec 10) (data : Line) :
    completes (.egpResponse tok st stale e src data) s fun t =>
      t.egp = s.egp
      ∧ t.reqs = s.reqs
      ∧ regGet t 0x8208 = BitVec.ofNat 32 (min 0xFFFFFFFF ((regGet s 0x8208).toNat + 1))
      ∧ bitOf (regGet t 0x8210) 0 = true := by
  have hs : Steady (sqSet rEgpStatus (if 256 ≤ tok.toNat / 16 then 0x5 else 0x1) (bump 0x8208 (begin_ s)))
      (egpStale tok st src (begin_ s)) := limited_steady fun n s => raise_keeps (by decide) ..
  obtain ⟨hcount, -, hstatus⟩ := hs
  refine completes_of_run (f := egpResponse tok st stale e src data) rfl ?_
  rw [egpResponse_stale (s := begin_ s) hon h]
  refine ⟨egp_of_seen (s := begin_ s) (egpStale_keeps (by decide) ..),
    reqs_of_seen (s := begin_ s) (egpStale_keeps (by decide) ..),
    ?_, ?_⟩
  · rw [hcount, regGet_sqSet_other _ _ (by decide), regGet_bump_same, sat_eq_min]
    rfl
  · rw [show (0x8210 : Nat) = rEgpStatus from rfl, hstatus, regGet_sqSet_same, sqWord_bit _ _ (by decide)]
    split <;> exact Bool.or_true _

/-- A slot has run out of time: it is retired and the expiry is on record. -/
def slotExpired (n : Nat) (s : State) : State := sqSet rEgpStatus 0x2 (bump 0x820C (retire n s))

/-- The expiry of a slot, under the code of its kind of operation. -/
def slotTimeout (r : EgpReq) (tok : BitVec 16) (s : State) : State :=
  timeout (if r.op.isPeer then 0x16 else 0x15) 2 (if r.op.isPeer then 5 else 1) false tok.toNat r.dst.toNat s

theorem egpTimeout_live {n : Nat} {r : EgpReq} {at_ : Nat} (hon : egpOn s = true) (hlive : (slotOf s n).live = some (r, at_)) :
    egpTimeout n s = onlyIf r.isMirror (degrade r.cause (tokenFor n (slotOf s n).gen).toNat)
      (egpDone r none 0 (onlyIf r.op.isPeer (bump 0x6048) (slotTimeout r (tokenFor n (slotOf s n).gen) (slotExpired n s)))) := by
  unfold egpTimeout slotTimeout
  dsimp only
  rw [if_pos hon, hlive]
  dsimp only
  cases r.op.isPeer <;> rfl

theorem egpTimeout_completes {n : BitVec 8} {r : EgpReq} {at_ : Nat} (hon : egpOn s = true)
    (hlive : (slotOf s n.toNat).live = some (r, at_)) :
    completes (.egpSlotTimeout n) s fun t =>
      slotOf t n.toNat = ⟨(slotOf s n.toNat).gen + 1, none⟩
      ∧ regGet t 0x820C = BitVec.ofNat 32 (min 0xFFFFFFFF ((regGet s 0x820C).toNat + 1))
      ∧ bitOf (regGet t 0x8210) 1 = true
      ∧ countsExpiry (if r.op.isPeer then 0x16 else 0x15) s t := by
  refine completes_of_run (f := egpTimeout n.toNat) rfl ?_
  rw [egpTimeout_live (s := begin_ s) hon hlive]
  generalize htok : tokenFor n.toNat (slotOf (begin_ s) n.toNat).gen = tok
  have hs : Steady (slotExpired n.toNat (begin_ s)) (onlyIf r.isMirror (degrade r.cause tok.toNat)
      (egpDone r none 0 (onlyIf r.op.isPeer (bump 0x6048) (slotTimeout r tok (slotExpired n.toNat (begin_ s)))))) :=
    onlyIf_steady (fun _ h => degrade_steady h) (egpDone_steady (onlyIf_steady (fun _ h => bump_steady (by decide) h)
      (steady_keeps (timeout_keeps (by decide) ..) (steady_refl _))))
  obtain ⟨-, hcount, hstatus⟩ := hs
  refine ⟨?_, ?_, ?_, ?_⟩
  · refine (slotOf_of_slots (egp_slots_of_seen (onlyIf_keeps _ _ _ (degrade_keeps (by decide) ..))) _).trans ?_
    refine (egpDone_slot ..).trans ((slotOf_of_slots (egp_slots_of_seen (s := slotExpired n.toNat (begin_ s)) ?_) _).trans ?_)
    · exact (onlyIf_keeps _ _ _ (bump_keeps _ _ (by decide +kernel))).trans (timeout_keeps (by decide) ..)
    · exact slotOf_retire_same ..
  · rw [hcount]
    unfold slotExpired
    rw [regGet_sqSet_other _ _ (by decide), regGet_bump_same, sat_eq_min]
    rfl
  · rw [show (0x8210 : Nat) = rEgpStatus from rfl, hstatus]
    unfold slotExpired
    rw [regGet_sqSet_same, sqWord_bit _ _ (by decide)]
    exact Bool.or_true _
  · refine (congrArg (kget 0 · _) (evt_expiries_of_seen (s := slotTimeout r tok (slotExpired n.toNat (begin_ s))) ?_)).trans ?_
    · exact (onlyIf_keeps _ _ _ (degrade_keeps (by decide) ..)).trans ((egpDone_keeps (by decide) ..).trans
        (onlyIf_keeps _ _ _ (bump_keeps _ _ (by decide +kernel))))
    · exact (timeout_counts ..).trans (congrArg (BitVec.ofNat 32) (sat_eq_min ..))

end Sys2Proof.Machine

namespace Sys2Proof
open Machine

/-- Settles O18. -/
theorem egressRules : Obligations.EgressRules :=
  ⟨fun _ _ _ _ => egpIssue_completes,
    fun _ _ st stale e src data _ _ hon hlive htok => egpResponse_retires hon hlive htok st stale e src data,
    fun _ _ _ _ e src data _ _ _ _ hon hlive htok hwhy hq ha hst hu =>
      egpResponse_remoteRead hon hlive htok hwhy hq ha hst hu e src data,
    fun _ _ st stale e src data hon h => egpResponse_counts hon h st stale e src data,
    fun _ _ _ _ => egpTimeout_completes⟩

end Sys2Proof
end

section
/-! SUPPORT. A state in which two reads stand in the table under one number, one of them answered. No state that is reached
from reset is such a one. -/

namespace Sys2Proof.Machine

/-- A read of a mirrored line that is in the read queue under the number 7. -/
def mirroredRead (answered : Bool) : Req :=
  { id := 7, port := 1, op := .read, addr := 77, lla := 77, tag := 5, gen := 0, label := 0, part := 0
    src := 0, xid := 0, epoch := 0, phase := .readQ, answered := answered, written := false, data := 0, mask := 0
    beat := false, mirrored := true, colour := none, tier := none, ftag := 0, localC := .unknown, peerC := .unknown
    dirtyWait := false, drainHeld := false, rides := none }

/-- A healthy pair at the primary, whose first sub-channel holds the lost read of number 7 unanswered. -/
def heldTwice : State :=
  { State.reset with
    glb := { Glb.reset with ctl := .service }
    mir := { State.reset.mir with primary := true, pair := .healthy }
    reqs := [mirroredRead false, mirroredRead true]
    sched := vmod State.reset.sched 0 fun q => { q with heldRds := [⟨7, 77, 0, ⟨.uncorrectable, 0, [], false⟩⟩] } }

end Sys2Proof.Machine

namespace Sys2Proof

open Sys2Proof.Machine

/-- Refutes O24: where two requests share the number of a held read, the release that asks the peer for its line moves both
to the peer, and the one that was answered before is still answered. -/
theorem not_readsAndBursts : ¬ Obligations.ReadsAndBursts := by
  unfold Obligations.ReadsAndBursts
  rintro ⟨-, -, -, -, hrecover, -⟩
  obtain ⟨t, ht, -, -, hreqs, -⟩ := hrecover heldTwice 0 ⟨7, 77, 0, ⟨.uncorrectable, 0, [], false⟩⟩ [] (mirroredRead false)
    (by decide +kernel) (by decide +kernel) (by decide +kernel) (by decide +kernel) (by decide +kernel) (by decide +kernel)
  have answered : (match exec (.heldReadRelease 0) heldTwice with
      | .next t => t.reqs.any fun q => decide (q.id = 7) && q.answered
      | _ => true) = true := by
    decide +kernel
  rw [ht] at answered
  obtain ⟨q, hq, ha⟩ := List.any_eq_true.1 answered
  simp only [Bool.and_eq_true, decide_eq_true_eq] at ha
  exact absurd (hreqs q hq ha.1).2 (by simp [ha.2])

end Sys2Proof
end

section
/-! SUPPORT. Selection: what leaves the queues of a sub-channel alone, and what only marks their entries. -/

namespace Sys2Proof.Machine

variable {s t : State} {x : Sc} {p : WrEnt → Prop}

/-- An entry with the property `p` stands in the write queue. -/
def Queued (x : Sc) (p : WrEnt → Prop) (s : State) : Prop := ∃ e ∈ (s.sched.get x).wq, p e

theorem queued_of_sched (e : t.sched = s.sched) (h : Queued x p s) : Queued x p t := by rwa [Queued, e]

theorem queued_keeps (e : t.seen 0x1F7FFFFFFFFFFFFFFFFFFFFFFFFFFFFFFFFFFFFFFFFFF =
      s.seen 0x1F7FFFFFFFFFFFFFFFFFFFFFFFFFFFFFFFFFFFFFFFFFF) (h : Queued x p s) : Queued x p t :=
  queued_of_sched (sched_of_seen e) h

theorem updSched_queued {y : Sc} {f : Sched → Sched}
    (hf : ∀ q, (∃ e ∈ q.wq, p e) → ∃ e ∈ (f q).wq, p e) (h : Queued x p s) : Queued x p (updSched y f s) := by
  unfold Queued updSched
  by_cases hxy : x = y
  · subst hxy
    rw [vget_vmod_same]
    exact hf _ h
  · rw [vget_vmod_other _ _ hxy]
    exact h

theorem updSched_queued_same {y : Sc} {f : Sched → Sched} (hf : ∀ q, (f q).wq = q.wq) (h : Queued x p s) :
    Queued x p (updSched y f s) := updSched_queued (fun q hq => by rwa [hf]) h

theorem ite_queued {c : Prop} [Decidable c] (hs : Queued x p s) (ht : Queued x p t) : Queued x p (if c then s else t) := by
  split
  · exact hs
  · exact ht

theorem copyPut_queued {c : Ch} {l : Lla} {d : Line} (h : Queued x p s) : Queued x p (copyPut c l d s) :=
  onlyIf_inv (fun h => updSched_queued_same (fun q => by split <;> rfl) h) h

theorem pumpInit_queued {r : Nat} (h : Queued x p s) : Queued x p (pumpInit r s) :=
  ite_queued (queued_keeps (initDone_keeps (by decide) _) (copyPut_queued h)) h

theorem pumpDirty_queued {k : Nat} (h : Queued x p s) : Queued x p (pumpDirty k s) :=
  ite_queued (copyPut_queued h) h

theorem pumpCopy_queued (h : Queued x p s) : Queued x p (pumpCopy s) :=
  queued_keeps ((recordRelease_keeps (by decide) _).trans (dirtyRelease_keeps (by decide) _))
    (forAll_inv _ (fun _ _ => pumpDirty_queued) (forAll_inv _ (fun _ _ => pumpInit_queued) h))

theorem setDirty_queued {r : Nat} (h : Queued x p s) : Queued x p (setDirty r s) := by
  unfold setDirty copyWrite
  exact ite_queued h (pumpCopy_queued (queued_keeps (s := s) (by simp) h))

theorem settle_queued {id : Nat} (h : Queued x p s) : Queued x p (settle id s) := by
  unfold settle
  split
  · exact h
  · split
    · exact queued_keeps (answerSettled_keeps (by decide) ..) h
    · exact ite_queued (queued_keeps (updReq_keeps (by decide) ..) (setDirty_queued h))
        (queued_keeps (answerSettled_keeps (by decide) ..) (setDirty_queued h))
    · exact queued_keeps (s := s) (by simp) h
    · exact queued_keeps (s := s) (by simp) h
    · exact h

theorem settlePeer_queued {id : Nat} {c : Commit} (h : Queued x p s) : Queued x p (settlePeer id c s) :=
  forAll_inv _ (fun _ _ h => settle_queued (queued_keeps (updReq_keeps (by decide) ..) h)) h

theorem forward_queued {id : Nat} {data : Line} {poison : Bool} (h : Queued x p s) : Queued x p (forward id data poison s) := by
  unfold forward
  split
  · exact h
  · exact ite_queued (ite_queued (queued_keeps (s := s) (by simp) h) (queued_keeps (s := s) (by simp) h)) (settlePeer_queued h)

/-- A read that is answered by forwarding leaves the read queue only. -/
theorem answerForwarded_queued {y : Sc} {id : Nat} {line : Line} {poison : Bool} (h : Queued x p s) :
    Queued x p (answerForwarded y id line poison s) :=
  queued_keeps ((answer_keeps (by decide) ..).trans (bump_keeps _ _ (by simp)))
    (updSched_queued_same (fun _ => rfl) h)

theorem answerWaiting_queued {y : Sc} {wr : Nat} {line : Line} {poison : Bool} (h : Queued x p s) :
    Queued x p (answerWaiting y wr line poison s) := forAll_inv _ (fun _ _ h => answerForwarded_queued h) h

theorem forwardEntry_queued {y : Sc} {id : Nat} {line : Line} {poison : Bool} (hp : ∀ e, p e → p { e with forwarded := true })
    (h : Queued x p s) : Queued x p (forwardEntry y id line poison s) := by
  unfold forwardEntry
  split
  · exact h
  · refine ite_queued (updSched_queued (fun q ⟨e, he, hpe⟩ => ?_) (forward_queued h)) h
    refine ⟨_, List.mem_map_of_mem he, ?_⟩
    split
    · exact hp e hpe
    · exact hpe

/-- An older write that is superseded is the only one to leave the queue. -/
theorem supersede1_queued {y : Sc} {keep : Nat} {f : WrEnt} (hp : ∀ e, p e → e.id ≠ f.id) (h : Queued x p s) :
    Queued x p (supersede1 y keep f s) := by
  have left : Queued x p (bump (rSch y 6) (updSched y (fun q => { q with wq := q.wq.filter fun g => g.id ≠ f.id }) s)) := by
    refine queued_keeps (bump_keeps _ _ (by simp)) (updSched_queued (fun q ⟨e, he, hpe⟩ => ?_) h)
    exact ⟨e, List.mem_filter.2 ⟨he, by simpa using hp e hpe⟩, hpe⟩
  have written := queued_keeps (writtenToDram_keeps (by decide) f.id _) left
  unfold supersede1
  dsimp only
  split
  · exact written
  · exact ite_queued (ite_queued (queued_keeps (updReq_keeps (by decide) ..) written) (settlePeer_queued written)) written

theorem supersede_queued {y : Sc} {l : Lla} {keep : Nat} (hp : ∀ e, p e → e.id = keep) (h : Queued x p s) :
    Queued x p (supersede y l keep s) := by
  unfold supersede
  generalize hl : (s.sched.get y).wq.filter (fun e => decide (e.lla = l) && !e.issued && decide (e.id ≠ keep)) = fs
  have hk : ∀ f ∈ fs, f.id ≠ keep := fun f hf => by
    rw [← hl] at hf
    simpa using (Bool.and_eq_true_iff.1 (List.mem_filter.1 hf).2).2
  clear hl
  unfold forAll
  induction fs generalizing s with
  | nil => exact h
  | cons f fs ih =>
    refine ih (supersede1_queued (fun e hpe he => ?_) h) fun g hg => hk g (List.mem_cons_of_mem _ hg)
    exact hk f List.mem_cons_self (he.symm.trans (hp e hpe))

theorem panicUpdate_sched (s : State) : (panicUpdate s).sched = s.sched ∨ (panicUpdate s).sched = (urgeRtp s).sched := by
  unfold panicUpdate
  dsimp only
  split
  · left
    split
    · exact sched_of_seen (colourHeads_keeps (by decide) _)
    · rfl
  · split
    · exact .inr ((sched_of_seen (policyPanic_keeps (by decide) _)).trans rfl)
    · exact .inl rfl

theorem ingressLeft_sched (s : State) : (ingressLeft s).sched = s.sched ∨ (ingressLeft s).sched = (urgeRtp s).sched := by
  have hc : (colourHeads s).sched = s.sched := sched_of_seen (colourHeads_keeps (by decide) _)
  refine (panicUpdate_sched (colourHeads s)).imp (fun h => h.trans hc) fun h => h.trans ?_
  exact congrArg (Vector.map _) hc

/-- Panic may make entries urgent and does nothing else to them. -/
theorem ingressLeft_queued (hp : ∀ e b, p e → p { e with urgent := b }) (h : Queued x p s) : Queued x p (ingressLeft s) := by
  rcases ingressLeft_sched s with hs | hs
  · exact queued_of_sched hs h
  · obtain ⟨e, he, hpe⟩ := h
    refine ⟨{ e with urgent := e.urgent || e.rtp }, ?_, hp e _ hpe⟩
    rw [hs]
    simp only [urgeRtp, vget_map]
    exact List.mem_map_of_mem he

theorem ingressLeft_rq {e : RdEnt} (he : e ∈ (s.sched.get x).rq) :
    ∃ b, { e with urgent := b } ∈ ((ingressLeft s).sched.get x).rq := by
  rcases ingressLeft_sched s with hs | hs
  · exact ⟨e.urgent, hs ▸ he⟩
  · refine ⟨e.urgent || e.rtp, ?_⟩
    rw [hs]
    simp only [urgeRtp, vget_map]
    exact List.mem_map_of_mem (f := fun e : RdEnt => { e with urgent := e.urgent || e.rtp }) he

end Sys2Proof.Machine
end

section
/-! SUPPORT. The selected head on its way out of the ingress stage (R273 to R282). -/

namespace Sys2Proof.Machine

variable {s t : State}

theorem forAll_begin {α : Type} {f : α → State → State} (l : List α) (hf : ∀ a s, f a (begin_ s) = begin_ (f a s)) (s : State) :
    forAll l f (begin_ s) = begin_ (forAll l f s) := by
  unfold forAll
  induction l generalizing s with
  | nil => rfl
  | cons a l ih =>
    refine (congrArg (fun u => l.foldl (fun s a => f a s) u) (hf a s)).trans (ih _)

theorem countDrainHolds_begin (x : Sc) (s : State) : countDrainHolds x (begin_ s) = begin_ (countDrainHolds x s) :=
  forAll_begin (f := fun (r : Req) s => sqSet 0x3050 0x1 (bump 0x3070 (updReq r.id (fun r => { r with drainHeld := true }) s)))
    ((heads s x).filter fun r => nearlyEligible s r && drainHolds s r && !r.drainHeld) (fun _ _ => rfl) s

theorem bestReq_begin (s : State) (l : List Req) : bestReq (begin_ s) l = bestReq s l := by
  induction l with
  | nil => rfl
  | cons r l ih =>
    unfold bestReq
    rw [ih]
    rfl

theorem ingressSelect_begin {x : Sc} {u : State} (hu : u = countDrainHolds x s) :
    ingressSelect x (begin_ s) = match bestReq u ((heads u x).filter (eligible u)) with
      | none => begin_ u
      | some r => selectReq x r (begin_ u) := by
  unfold ingressSelect
  dsimp only
  rw [countDrainHolds_begin, ← hu, bestReq_begin]
  rfl

theorem bestReq_mem {l : List Req} {r : Req} (h : bestReq s l = some r) : r ∈ l := by
  induction l generalizing r with
  | nil => exact nomatch h
  | cons q l ih =>
    unfold bestReq at h
    split at h
    · simp_all
    · next b hb =>
      have hr : r = q ∨ r = b := by
        simp only [Option.some.injEq] at h
        split at h <;> simp [← h]
      rcases hr with rfl | rfl
      · exact List.mem_cons_self
      · exact List.mem_cons_of_mem _ (ih hb)

/-- The head that is selected, charged and not yet gone. -/
def chosen (x : Sc) (r : Req) (s : State) : State :=
  let t := ((tierNow s r).map Fin.val).getD 4
  let borrow := !shareOk s r
  let s := onlyIf (t == 0) (bump 0x9044) (onlyIf borrow (bump 0x9048) (noteSelect x t borrow s))
  chargeSelect r (if t = 0 then s
    else updQos (fun q => { q with vt := vmod q.vt x fun v => vset v (finOr 4 t) r.ftag }) s)

/-- A selected green request of a guaranteed partition, or one in tier 0, is urgent (R280). -/
def chosenUrgent (s : State) (r : Req) : Bool :=
  ((tierNow s r).map Fin.val).getD 4 == 0 || (r.colour = some .green && (partOf s r.part.toNat).cls == 2)

theorem selectReq_eq (x : Sc) (r : Req) (s : State) :
    selectReq x r s = ingressLeft (leaveIngress (chosenUrgent s r) r (chosen x r s)) := by
  rfl

/-- The selection itself changes the service state alone. -/
theorem chosen_keeps (x : Sc) (r : Req) (s : State) :
    (chosen x r s).seen 0x400000000000000000000000000700000000000 = s.seen 0x400000000000000000000000000700000000000 := by
  unfold chosen
  dsimp only
  split <;> simp

theorem chosen_live (x : Sc) (r : Req) (s : State) (l : Lla) : rankLive (chosen x r s) l = rankLive s l :=
  rankLive_congr (glb_ch_of_seen (seen_mono (by decide) (chosen_keeps ..)))
    (alert_of_seen (seen_mono (by decide) (chosen_keeps ..))) l

/-- A head of a rank in service that is no message of the peer costs 64 of the throttle bucket (R282). -/
theorem chosen_tb {x : Sc} {r : Req} (hx : scOf r.lla = x) (hop : r.op ≠ .peerMessage) (hl : rankLive s r.lla = true) :
    (chosen x r s).qos.tb.get x = s.qos.tb.get x - 64 := by
  unfold chosen
  dsimp only
  generalize hu : (if ((tierNow s r).map Fin.val).getD 4 = 0 then _ else _ : State) = u
  have hs : u.seen 0x400000000000000000000000000300000000000 = s.seen 0x400000000000000000000000000300000000000 := by
    rw [← hu]
    split <;> simp
  have hlive : rankLive u r.lla = true := (rankLive_congr (glb_ch_of_seen (seen_mono (by decide) hs))
    (alert_of_seen (seen_mono (by decide) hs)) r.lla).trans hl
  have charged : chargeSelect r u = tbDebit (scOf r.lla) (shaperDebit r.part.toNat u) := by
    unfold chargeSelect uncharged deadFails
    rw [hlive]
    exact if_neg (by simp [hop])
  rw [charged, hx]
  have hd : (shaperDebit r.part.toNat u).qos.tb = s.qos.tb :=
    (qos_tb_of_seen (shaperDebit_keeps (by decide) ..)).trans (qos_tb_of_seen (seen_mono (by decide) hs))
  unfold tbDebit
  simp [hd]

theorem ingressLeft_tb (s : State) : (ingressLeft s).qos.tb = s.qos.tb := qos_tb_of_seen (ingressLeft_keeps (by decide) _)

end Sys2Proof.Machine
end

section
/-! SUPPORT. A read and a full write that leave the ingress stage (R185, R188, R189). -/

namespace Sys2Proof.Machine

variable {s t u : State} {x : Sc} {r : Req}

/-- The requests under a number are in a phase. -/
def Phased (id : Nat) (ph : Phase) (s : State) : Prop := ∀ q ∈ s.reqs, q.id = id → q.phase = ph

theorem phased_of_reqs {id : Nat} {ph : Phase} (e : t.reqs = s.reqs) (h : Phased id ph s) : Phased id ph t := by
  rwa [Phased, e]

theorem updReq_phased {id n : Nat} {ph : Phase} {f : Req → Req} (hf : ∀ q, (f q).id = q.id ∧ (f q).phase = q.phase)
    (h : Phased id ph s) : Phased id ph (updReq n f s) := by
  intro q hq
  obtain ⟨a, ha, rfl⟩ := List.mem_map.1 hq
  split
  · rw [(hf a).1, (hf a).2]
    exact h a ha
  · exact h a ha

theorem enterTier_phased {id : Nat} {ph : Phase} {q : Req} {tier : Option (Fin 5)} (h : Phased id ph s) :
    Phased id ph (enterTier q tier s) := by
  unfold enterTier
  split
  · exact h
  · split
    · exact updReq_phased (fun _ => ⟨rfl, rfl⟩) h
    · exact updReq_phased (fun _ => ⟨rfl, rfl⟩) (phased_of_reqs (s := s) rfl h)

theorem colourHead_phased {id : Nat} {ph : Phase} {q : Req} (h : Phased id ph s) : Phased id ph (colourHead q s) := by
  unfold colourHead
  exact enterTier_phased (updReq_phased (fun _ => ⟨rfl, rfl⟩) (phased_of_reqs (s := s) rfl h))

theorem colourHeads_phased {id : Nat} {ph : Phase} (h : Phased id ph s) : Phased id ph (colourHeads s) :=
  forAll_inv (f := colourHead) _ (fun _ _ => colourHead_phased) (phased_of_reqs (s := s) (t := dropTags s) rfl h)

theorem ingressLeft_phased {id : Nat} {ph : Phase} (h : Phased id ph s) : Phased id ph (ingressLeft s) := by
  have coloured := colourHeads_phased h
  unfold ingressLeft panicUpdate
  dsimp only
  split
  · split
    · exact colourHeads_phased (phased_of_reqs (s := colourHeads s) rfl coloured)
    · exact phased_of_reqs (s := colourHeads s) rfl coloured
  · split
    · exact phased_of_reqs (s := colourHeads s) (reqs_of_seen (by simp)) coloured
    · exact phased_of_reqs (s := colourHeads s) rfl coloured

/-- The entry of a read in the read queue. -/
def readEntry (urgent : Bool) (r : Req) (s : State) : RdEnt :=
  { id := r.id, lla := r.lla, part := r.part, stamp := ccNow s (scOf r.lla), urgent := urgent, rtp := r.port = 4, fwd := .none
    issued := false, aged := false }

theorem readEnter_waits {urgent : Bool} (hy : youngest (s.sched.get (scOf r.lla)) r.lla = none)
    (hl : lineRecord (s.sched.get (scOf r.lla)) r.lla = none) :
    readEnter urgent r s = schPeak (scOf r.lla) (updSched (scOf r.lla) (fun q => { q with rq := q.rq ++ [readEntry urgent r s] })
      (updReq r.id (fun r => { r with phase := .readQ }) s)) := by
  have hu : unissued (s.sched.get (scOf r.lla)) r.lla = none := by
    have hnone := List.getLast?_eq_none_iff.1 hy
    refine List.getLast?_eq_none_iff.2 (List.filter_eq_nil_iff.2 fun e he h => ?_)
    simp only [Bool.and_eq_true, decide_eq_true_eq] at h
    exact List.filter_eq_nil_iff.1 hnone e he (decide_eq_true h.1)
  unfold readEnter
  dsimp only
  rw [hu, hl]
  rfl

theorem readEnter_queued {urgent : Bool} (hy : youngest (s.sched.get (scOf r.lla)) r.lla = none)
    (hl : lineRecord (s.sched.get (scOf r.lla)) r.lla = none) :
    readEntry urgent r s ∈ ((readEnter urgent r s).sched.get (scOf r.lla)).rq := by
  rw [readEnter_waits hy hl, sched_of_seen (schPeak_keeps (by decide) ..)]
  simp [updSched]

theorem readEnter_phased {urgent : Bool} (hy : youngest (s.sched.get (scOf r.lla)) r.lla = none)
    (hl : lineRecord (s.sched.get (scOf r.lla)) r.lla = none) : Phased r.id .readQ (readEnter urgent r s) := by
  rw [readEnter_waits hy hl]
  refine phased_of_reqs (reqs_of_seen (schPeak_keeps (by decide) ..)) fun q hq hid => ?_
  obtain ⟨a, -, rfl⟩ := List.mem_map.1 hq
  by_cases hra : a.id = r.id
  · simp [hra]
  · simp [hra] at hid

theorem leaveIngress_read {urgent : Bool} (hop : r.op = .read) (hl : rankLive s r.lla = true) :
    leaveIngress urgent r s = readEnter urgent r s := by
  unfold leaveIngress
  rw [if_neg (by simp [Req.nothing, hop]), if_neg (by simp [hop, Op.isWrite]), if_pos hl]

theorem leaveIngress_writeFull {urgent : Bool} (hop : r.op = .writeFull) (hl : rankLive s r.lla = true) :
    leaveIngress urgent r s = writeEnter urgent r s := by
  unfold leaveIngress
  rw [if_neg (by simp [Req.nothing, hop]), if_pos (by simp [hop, Op.isWrite]), if_pos hl]

/-- The entry of a full write in the write queue. -/
def writeEntry (urgent : Bool) (r : Req) (s : State) : WrEnt :=
  { id := r.id, lla := r.lla, part := r.part, poison := r.poisons, data := r.data, mask := r.mask, stamp := ccNow s (scOf r.lla)
    urgent := urgent, rtp := r.port = 4, merge := .full, issued := false, aged := false, forwarded := false }

/-- A full write stands in the queue and its response is given. -/
def writeTaken (urgent : Bool) (r : Req) (s : State) : State :=
  writeAccepted r (updSched (scOf r.lla) (fun q => { q with wq := q.wq ++ [writeEntry urgent r s] }) s)

theorem writeEnter_full {urgent : Bool} (hop : r.op = .writeFull) :
    writeEnter urgent r s = schPeak (scOf r.lla) (forwardEntry (scOf r.lla) r.id r.data r.poisons
      (supersede (scOf r.lla) r.lla r.id
        (forAll ((s.sched.get (scOf r.lla)).wq.filter fun f => f.lla = r.lla && !f.issued)
          (fun f s => answerWaiting (scOf r.lla) f.id r.data r.poisons s) (writeTaken urgent r s)))) := by
  have hw : r.wholeLine = true := by simp [Req.wholeLine, hop]
  unfold writeEnter
  simp only [hw, Bool.true_or, if_true]
  rfl

theorem findReq_of_mem (hn : (s.reqs.map Req.id).Nodup) (hr : r ∈ s.reqs) : findReq s r.id = some r := by
  have key : ∀ l : List Req, (l.map Req.id).Nodup → r ∈ l → l.find? (fun q => decide (q.id = r.id)) = some r := by
    intro l
    induction l with
    | nil => exact fun _ h => absurd h List.not_mem_nil
    | cons q l ih =>
      intro hn hr
      obtain ⟨hq, hn⟩ := List.nodup_cons.1 hn
      rcases List.mem_cons.1 hr with rfl | hr
      · simp
      · have hne : q.id ≠ r.id := fun e => hq (e ▸ List.mem_map_of_mem hr)
        simpa [hne] using ih hn hr
  exact key _ hn hr

theorem writeAccepted_unmirrored (hop : r.op = .writeFull) (hm : r.mirrored = false) :
    writeAccepted r s = answer r.id .ok 0 (updReq r.id (fun r => { r with phase := .writeQ }) s) := by
  unfold writeAccepted
  rw [if_neg (by simp [hop])]
  exact if_neg (by simp [Req.twoSided, hm])

/-- An unmirrored full write is answered when it enters its queue (R16). -/
theorem writeTaken_answers {urgent : Bool} (hop : r.op = .writeFull) (hm : r.mirrored = false) (hr : findReq s r.id = some r)
    (ha : r.answered = false) (hh : s.glb.ctl ≠ .held) :
    .rsp r.port r.tag r.gen .ok 0 r.src r.xid false (peerEpochFor s r) ∈ (writeTaken urgent r s).out := by
  unfold writeTaken
  rw [writeAccepted_unmirrored hop hm]
  generalize hv : updReq r.id (fun r => { r with phase := .writeQ }) (updSched (scOf r.lla) _ s) = v
  have hf : findReq v r.id = some { r with phase := .writeQ } := by
    rw [← hv]
    exact findReq_updReq_same (s := updSched (scOf r.lla) (fun q => { q with wq := q.wq ++ [writeEntry urgent r s] }) s)
      (f := fun r => { r with phase := .writeQ }) hr fun _ h => h
  have hc : v.glb = s.glb := by
    rw [← hv]
    rfl
  have hmir : v.mir = s.mir := by
    rw [← hv]
    rfl
  have he : peerEpochFor v { r with phase := .writeQ } = peerEpochFor s r := by
    unfold peerEpochFor
    rw [hmir]
  have hans : answer r.id .ok 0 v = answerX r.id .ok 0 false (peerEpochFor s r) v := by
    unfold answer
    rw [hf]
    exact congrArg (answerX r.id .ok 0 false · v) he
  rw [hans]
  exact answerX_mem (s := v) hf ha (hc ▸ hh) .ok 0 false _

/-- An unissued full-line entry of the write `r`. -/
def EntryOf (r : Req) (e : WrEnt) : Prop :=
  e.id = r.id ∧ e.lla = r.lla ∧ e.data = r.data ∧ e.poison = false ∧ e.merge = .full ∧ e.issued = false

theorem writeTaken_queued {urgent : Bool} (hop : r.op = .writeFull) (hm : r.mirrored = false) :
    Queued (scOf r.lla) (EntryOf r) (writeTaken urgent r s) := by
  unfold writeTaken
  rw [writeAccepted_unmirrored hop hm]
  refine queued_keeps ((answer_keeps (by decide) ..).trans (updReq_keeps (by decide) ..)) ?_
  refine ⟨writeEntry urgent r s, ?_, rfl, rfl, rfl, by simp [writeEntry, Req.poisons, hop], rfl, rfl⟩
  simp [updSched]

theorem writeEnter_queued {urgent : Bool} (hop : r.op = .writeFull) (hm : r.mirrored = false) :
    Queued (scOf r.lla) (EntryOf r) (writeEnter urgent r s) := by
  rw [writeEnter_full hop]
  exact queued_keeps (schPeak_keeps (by decide) ..) (forwardEntry_queued (fun _ h => h) (supersede_queued (fun _ h => h.1)
    (forAll_inv _ (fun _ _ h => answerWaiting_queued h) (writeTaken_queued hop hm))))

theorem writeEnter_out {urgent : Bool} (hop : r.op = .writeFull) : Later (writeTaken urgent r s) (writeEnter urgent r s) := by
  rw [writeEnter_full hop]
  exact later_keeps (schPeak_keeps (by decide) ..) (forwardEntry_later (supersede_later (forAll_later
    (fun _ _ h => answerWaiting_later h) (later_refl _))))

end Sys2Proof.Machine
end

section
/-! SUPPORT. The arbiter grants the input and watches the waiting requesters (R216, R217, R224). -/

namespace Sys2Proof.Machine

variable {s t : State} {x : Sc} {h : Fin 7}

/-- The input is held: by whom, for how many bursts so far, and the count of the grants of requester `h`. -/
def Holding (x : Sc) (h : Fin 7) (holder : Option (Fin 7)) (burst : Nat) (grants : Word) (s : State) : Prop :=
  (s.sched.get x).holder = holder ∧ (s.sched.get x).burst = burst ∧ regGet s (rMnt x h 0) = grants

variable {holder : Option (Fin 7)} {burst : Nat} {grants : Word}

theorem rMnt_grants_ne (q : Fin 7) {i : Nat} (hi : i = 1 ∨ i = 2) : rMnt x h 0 ≠ rMnt x q i := by
  unfold rMnt
  omega

theorem updSched_holding {f : Sched → Sched} (hf : ∀ q, (f q).holder = q.holder ∧ (f q).burst = q.burst)
    (hs : Holding x h holder burst grants s) : Holding x h holder burst grants (updSched x f s) := by
  obtain ⟨hh, hb, hg⟩ := hs
  exact ⟨by simp [updSched, hf, hh], by simp [updSched, hf, hb], hg⟩

theorem endWait_holding {q : Fin 7} (hs : Holding x h holder burst grants s) :
    Holding x h holder burst grants (endWait x q s) := by
  unfold endWait
  split
  · exact hs
  · next n hn =>
    obtain ⟨hh, hb, hg⟩ := updSched_holding (f := fun z => { z with waitFrom := vset z.waitFrom q none })
      (fun _ => ⟨rfl, rfl⟩) hs
    exact ⟨hh, hb, (regGet_regSet_other _ _ (rMnt_grants_ne q (.inr rfl))).trans
      ((regGet_bump_other _ (rMnt_grants_ne q (.inl rfl))).trans hg)⟩

theorem startWait_holding {q : Fin 7} (hs : Holding x h holder burst grants s) :
    Holding x h holder burst grants (startWait x q s) := by
  unfold startWait
  split
  · exact hs
  · exact updSched_holding (fun _ => ⟨rfl, rfl⟩) hs

theorem waits_holding (hs : Holding x h holder burst grants s) : Holding x h holder burst grants (waits x s) := by
  refine forAll_inv (P := Holding x h holder burst grants) _ (fun q s hs => ?_) hs
  split
  · split
    · exact hs
    · exact startWait_holding hs
  · exact endWait_holding hs

theorem holding_keeps (e : t.seen 0x500000000000 = s.seen 0x500000000000) (hs : Holding x h holder burst grants s) :
    Holding x h holder burst grants t := by
  rwa [Holding, sched_of_seen (seen_mono (by decide) e), regGet_congr (regs_of_seen (seen_mono (by decide) e))]

theorem updMaint_holding {q : Fin 7} {f : List MntCmd → List MntCmd} (hs : Holding x h holder burst grants s) :
    Holding x h holder burst grants (updMaint x q f s) := updSched_holding (fun _ => ⟨rfl, rfl⟩) hs

theorem offerHead_holding (hs : Holding x h holder burst grants s) : Holding x h holder burst grants (offerHead x s) := by
  unfold offerHead
  split
  · exact hs
  · next q m hw =>
    split
    · exact hs
    · dsimp only
      split
      · exact holding_keeps (glgCharge_keeps (by decide) ..) (updMaint_holding hs)
      · exact updMaint_holding hs

theorem grant_holding (x : Sc) (h : Fin 7) (s : State) : Holding x h (some h) 0
    (BitVec.ofNat 32 (min 0xFFFFFFFF ((regGet s (rMnt x h 0)).toNat + 1))) (grant x h s) := by
  obtain ⟨-, -, hg⟩ := endWait_holding (q := h) (s := s) (x := x) (h := h) ⟨rfl, rfl, rfl⟩
  refine ⟨by simp [grant, updSched], by simp [grant, updSched], ?_⟩
  refine (regGet_bump_same ..).trans ?_
  rw [sat_eq_min, hg]

theorem arbitrate_free (hfree : (s.sched.get x).holder = none) : arbitrate x s = offerHead x (waits x (match nextHolder s x with
    | some h => grant x h s
    | none => updSched x (fun z => { z with holder := none }) s)) := by
  have hp : preempt x s = s := by
    unfold preempt
    rw [hfree]
  have hk : keeps s x = false := by
    unfold keeps
    rw [hfree]
  unfold arbitrate
  dsimp only
  rw [hp, hk]
  rfl

/-- The first requester in rank order gets a free input (R216). -/
theorem nextHolder_first (hfree : (s.sched.get x).holder = none) (hr : requesting s x h = true)
    (hfirst : ∀ k < h, requesting s x k = false) : nextHolder s x = some h := by
  have hhead : ((fins 7).filter (requesting s x)).head? = some h := by
    rw [List.head?_filter, List.find?_eq_some_iff_getElem]
    refine ⟨hr, h.val, by simp [fins], by simp [fins], fun j hj => ?_⟩
    simpa [fins] using hfirst _ hj
  have hall : ∀ l : List (Fin 7), (l.filter fun k => decide (some k ≠ none)) = l := fun l => by simp
  unfold nextHolder
  simp only [hfree, Option.filter_none, hall]
  revert hhead
  cases (fins 7).filter (requesting s x) with
  | nil => exact nofun
  | cons k l => exact id

theorem nextHolder_none (hr : ∀ k, requesting s x k = false) : nextHolder s x = none := by
  have hl : (fins 7).filter (requesting s x) = [] := List.filter_eq_nil_iff.2 fun k _ => by simp [hr k]
  unfold nextHolder
  rw [hl]
  rfl

/-! ### A zeroed region -/

/-- A region that has left the zeroing queue is marked, or waits for its bitmap-copy line. -/
def Zeroed (r : Nat) (s : State) : Prop :=
  (s.glb.init.getLsbD r = true ∨ r ∈ s.glb.initWait) ∧ r ∉ s.glb.onDemand.get (scN (r / 2 ^ 18))

theorem setBit_same (m : BitVec 1048576) {r : Nat} (hr : r < 1048576) : (setBit m r).getLsbD r = true := by
  unfold setBit
  rw [BitVec.getLsbD_or, BitVec.getLsbD_ofNat, Nat.testBit_shiftLeft]
  simp [hr]

theorem pumpInit_zeroed {r : Nat} (hr : r < 1048576) (hw : r ∈ s.glb.initWait)
    (hd : r ∉ s.glb.onDemand.get (scN (r / 2 ^ 18))) : Zeroed r (pumpInit r s) := by
  unfold pumpInit
  dsimp only
  split
  · rw [Zeroed, glb_init_of_seen ((initDone_keeps (by decide) _).trans (copyPut_keeps (by decide) ..)),
      glb_onDemand_of_seen ((initDone_keeps (by decide) _).trans (copyPut_keeps (by decide) ..))]
    exact ⟨.inl (setBit_same _ hr), hd⟩
  · exact ⟨.inr hw, hd⟩

theorem regionDone_zeroed {r : Nat} (hr : r < 1048576) (s : State) : Zeroed r (regionDone r s) := by
  unfold regionDone
  dsimp only
  refine pumpInit_zeroed hr ?_ ?_
  · change r ∈ (if s.glb.initWait.contains r then s.glb.initWait else s.glb.initWait ++ [r])
    split
    · next h => exact List.contains_iff_mem.1 h
    · simp
  · simp [updGlb]

theorem regionZeroed_done {r : Nat} (hi : s.glb.init.getLsbD r = false) (hz : 2 ^ 18 ≤ zeroDone s (scN (r / 2 ^ 18)) r)
    (hm : (s.sched.get (scN (r / 2 ^ 18))).maint.toList.any (fun l => l.any (MntCmd.zeroes r)) = false)
    (hl : (s.sched.get (scN (r / 2 ^ 18))).lines = []) : regionZeroed r s = regionDone r s := by
  unfold regionZeroed
  dsimp only
  rw [if_neg (by rw [hi]; exact nofun), hm, hl, decide_eq_true hz]
  rfl

end Sys2Proof.Machine
end

section
/-! The selection, the arbiter and a zeroed region (R160, R185, R216, R217, R263, R273 to R282). -/

namespace Sys2Proof

open Machine

variable {s u : State} {x : Sc} {r : Req}

theorem chosen_sched (x : Sc) (r : Req) (s : State) : (chosen x r s).sched = s.sched :=
  sched_of_seen (seen_mono (by decide) (chosen_keeps ..))

theorem chosen_reqs (x : Sc) (r : Req) (s : State) : (chosen x r s).reqs = s.reqs :=
  reqs_of_seen (seen_mono (by decide) (chosen_keeps ..))

theorem ingressSelect_chosen (hu : u = countDrainHolds x s) (hb : bestReq u ((heads u x).filter (eligible u)) = some r) :
    ingressSelect x (begin_ s) = ingressLeft (leaveIngress (chosenUrgent (begin_ u) r) r (chosen x r (begin_ u))) := by
  rw [ingressSelect_begin hu, hb]
  exact selectReq_eq ..

theorem countDrainHolds_tb (hu : u = countDrainHolds x s) : u.qos.tb = s.qos.tb := by
  rw [hu]
  exact qos_tb_of_seen (countDrainHolds_keeps (by decide) ..)

/-- The debit of a selected head stands when it has left (R282). -/
theorem selected_tb (hu : u = countDrainHolds x s) (hx : scOf r.lla = x) (hop : r.op ≠ .peerMessage)
    (hl : rankLive u r.lla = true) (urgent : Bool) :
    (ingressLeft (leaveIngress urgent r (chosen x r (begin_ u)))).qos.tb.get x = s.qos.tb.get x - 64 := by
  rw [ingressLeft_tb, qos_tb_of_seen (leaveIngress_keeps (by decide) ..), chosen_tb (s := begin_ u) hx hop hl,
    ← countDrainHolds_tb hu]
  rfl

theorem read_selected (hu : u = countDrainHolds x s) (hb : bestReq u ((heads u x).filter (eligible u)) = some r)
    (hx : scOf r.lla = x) (hop : r.op = .read) (hl : rankLive u r.lla = true)
    (hy : youngest (u.sched.get x) r.lla = none) (hline : lineRecord (u.sched.get x) r.lla = none) :
    completes (.ingressSelect x) s fun t =>
      (∃ e ∈ (t.sched.get x).rq, e.id = r.id ∧ e.lla = r.lla ∧ e.part = r.part ∧ e.issued = false)
      ∧ (∀ q ∈ t.reqs, q.id = r.id → q.phase = .readQ)
      ∧ t.qos.tb.get x = s.qos.tb.get x - 64 := by
  have htb := selected_tb hu hx (by simp [hop]) hl (chosenUrgent (begin_ u) r)
  have hsched : (chosen x r (begin_ u)).sched = u.sched := chosen_sched ..
  subst hx
  refine completes_of_run (f := ingressSelect (scOf r.lla)) rfl ?_
  rw [ingressSelect_chosen hu hb]
  refine ⟨?_, ?_, htb⟩
  all_goals rw [leaveIngress_read hop ((chosen_live _ _ (begin_ u) _).trans hl)]
  · obtain ⟨b, hb⟩ := ingressLeft_rq (readEnter_queued (urgent := chosenUrgent (begin_ u) r) (by rw [hsched, hy])
      (by rw [hsched, hline]))
    exact ⟨_, hb, rfl, rfl, rfl, rfl⟩
  · exact ingressLeft_phased (readEnter_phased (by rw [hsched, hy]) (by rw [hsched, hline]))

theorem write_selected (hf : idsFresh s) (hu : u = countDrainHolds x s)
    (hb : bestReq u ((heads u x).filter (eligible u)) = some r)
    (hx : scOf r.lla = x) (hop : r.op = .writeFull) (hm : r.mirrored = false) (ha : r.answered = false)
    (hl : rankLive u r.lla = true) :
    completes (.ingressSelect x) s fun t =>
      (∃ e ∈ (t.sched.get x).wq, e.id = r.id ∧ e.lla = r.lla ∧ e.data = r.data ∧ e.poison = false ∧ e.merge = .full
        ∧ e.issued = false)
      ∧ .rsp r.port r.tag r.gen .ok 0 r.src r.xid false (peerEpochFor s r) ∈ t.out
      ∧ t.qos.tb.get x = s.qos.tb.get x - 64 := by
  have htb := selected_tb hu hx (by simp [hop]) hl (chosenUrgent (begin_ u) r)
  obtain ⟨hhead, helig⟩ := List.mem_filter.1 (bestReq_mem hb)
  have hmem : r ∈ u.reqs := (List.mem_filter.1 hhead).1
  have hnodup : (u.reqs.map Req.id).Nodup := by
    rw [hu]
    exact (countDrainHolds_later (later_refl s)).1.nodup hf.1
  have hctl : u.glb.ctl = .service := by
    simp only [eligible, nearlyEligible, stateAdmits, Bool.and_eq_true, decide_eq_true_eq] at helig
    exact helig.1.1.1.1.1.1.1.1
  have hreq : findReq (chosen x r (begin_ u)) r.id = some r := by
    unfold findReq
    rw [chosen_reqs]
    exact findReq_of_mem hnodup hmem
  have hglb : (chosen x r (begin_ u)).glb = u.glb :=
    glb_of_seen (s := begin_ u) (seen_mono (by decide) (chosen_keeps ..))
  have hepoch : peerEpochFor (chosen x r (begin_ u)) r = peerEpochFor s r := by
    simp [peerEpochFor, hop, Op.isPeer]
  subst hx
  refine completes_of_run (f := ingressSelect (scOf r.lla)) rfl ?_
  rw [ingressSelect_chosen hu hb]
  refine ⟨?_, ?_, htb⟩
  all_goals rw [leaveIngress_writeFull hop ((chosen_live _ _ (begin_ u) _).trans hl)]
  · exact ingressLeft_queued (fun _ _ h => h) (writeEnter_queued hop hm)
  · refine (ingressLeft_later (writeEnter_out hop)).mem_out ?_
    rw [← hepoch]
    exact writeTaken_answers hop hm hreq ha (by rw [hglb, hctl]; exact nofun)

theorem none_selected (hu : u = countDrainHolds x s) (hn : (heads u x).filter (eligible u) = []) :
    completes (.ingressSelect x) s fun t => t = { u with out := [], raised := 0 } := by
  refine completes_of_run (f := ingressSelect x) rfl ?_
  rw [ingressSelect_begin hu, hn]
  rfl

/-- The states in which the arbiter works. -/
def Arbitrates (s : State) : Prop :=
  s.glb.ctl = .castOn ∨ s.glb.ctl = .service ∨ s.glb.ctl = .quiesced ∨ s.glb.ctl = .gearChange ∨ s.glb.ctl = .bindOff

theorem mntArbitrate_arbitrates (hc : Arbitrates s) :
    mntArbitrate x (begin_ s) = arbitrate x (mntOffers x (phyGo x (pprGo x (begin_ s)))) := by
  unfold mntArbitrate
  refine if_pos ?_
  have hc' : Arbitrates (begin_ s) := hc
  simpa [Arbitrates, or_assoc] using hc'

theorem free_granted {h : Fin 7} (hc : Arbitrates s) (hu : u = mntOffers x (phyGo x (pprGo x (begin_ s))))
    (hfree : (u.sched.get x).holder = none) (hr : requesting u x h = true) (hfirst : ∀ k < h, requesting u x k = false) :
    completes (.mntArbitrate x) s fun t =>
      (t.sched.get x).holder = some h
      ∧ (t.sched.get x).burst = 0
      ∧ regGet t (rMnt x h 0) = BitVec.ofNat 32 (min 0xFFFFFFFF ((regGet u (rMnt x h 0)).toNat + 1)) := by
  refine completes_of_run (f := mntArbitrate x) rfl ?_
  rw [mntArbitrate_arbitrates hc, ← hu, arbitrate_free hfree, nextHolder_first hfree hr hfirst]
  exact offerHead_holding (waits_holding (grant_holding x h u))

theorem free_ungranted (hc : Arbitrates s) (hu : u = mntOffers x (phyGo x (pprGo x (begin_ s))))
    (hfree : (u.sched.get x).holder = none) (hr : ∀ k, requesting u x k = false) :
    completes (.mntArbitrate x) s fun t => (t.sched.get x).holder = none := by
  refine completes_of_run (f := mntArbitrate x) rfl ?_
  rw [mntArbitrate_arbitrates hc, ← hu, arbitrate_free hfree, nextHolder_none hr]
  have hn : Holding x 0 none (u.sched.get x).burst (regGet u (rMnt x 0 0))
      (updSched x (fun z => { z with holder := none }) u) := ⟨by simp [updSched], by simp [updSched], rfl⟩
  exact (offerHead_holding (waits_holding hn)).1

theorem region_zeroed {r : BitVec 20} (hi : s.glb.init.getLsbD r.toNat = false)
    (hz : 2 ^ 18 ≤ zeroDone s (scN (r.toNat / 2 ^ 18)) r.toNat)
    (hm : (s.sched.get (scN (r.toNat / 2 ^ 18))).maint.toList.any (fun l => l.any (MntCmd.zeroes r.toNat)) = false)
    (hl : (s.sched.get (scN (r.toNat / 2 ^ 18))).lines = []) :
    completes (.regionZeroed r) s fun t =>
      (t.glb.init.getLsbD r.toNat = true ∨ r.toNat ∈ t.glb.initWait)
      ∧ r.toNat ∉ t.glb.onDemand.get (scN (r.toNat / 2 ^ 18)) := by
  refine completes_of_run (f := regionZeroed r.toNat) rfl ?_
  rw [regionZeroed_done (s := begin_ s) hi hz hm hl]
  exact regionDone_zeroed r.isLt _

/-- Settles O21. -/
theorem selectionAndArbitration : Obligations.SelectionAndArbitration :=
  ⟨fun _ _ _ _ => read_selected, fun _ _ _ _ => write_selected, fun _ _ _ => none_selected, fun _ _ _ _ => free_granted,
    fun _ _ _ => free_ungranted, fun _ _ _ => region_zeroed⟩

end Sys2Proof
end

section
/-! SUPPORT. The frame of every command: the pieces of State outside the list of the command, read off the parts that it may
change. -/

namespace Sys2Proof.Machine

/-- Every command has a meaning. -/
theorem exec_next (c : Instr) (s : State) : ∃ t, exec c s = .next t := by
  cases c with
  | qptDataAccess a => obtain ⟨_, _ | _⟩ := a <;> exact ⟨_, rfl⟩
  | glgIDescDataAccess i a => obtain ⟨_, _ | _⟩ := a <;> exact ⟨_, rfl⟩
  | glgStateDataAccess a => obtain ⟨_, _ | _⟩ := a <;> exact ⟨_, rfl⟩
  | _ => exact ⟨_, rfl⟩

theorem parts_lt (c : Instr) : parts c < 2 ^ 177 := by
  cases c <;> dsimp only [parts] <;> decide

/-- Each of the pieces ps is in the list l, or none of its parts is among the parts n. -/
def covers (n : Nat) (l ps : List Piece) : Bool := ps.all fun p => n &&& pieceParts p == 0 || decide (p ∈ l)

/-- The clocks, the controller, Cast-On, the pause and power. -/
def controlPieces : List Piece :=
  [.clock, .control, .halt, .castOnStep, .gear, .straps, .powerFail, .coreClock, .supply, .pll, .fuses, .ackLine, .channels,
    .slots, .training, .regions, .service, .pauseInput, .pause, .ranksPower, .wake, .throttle, .temperature, .bindOff]

/-- The ports, the requests, the partitions and the egress port. -/
def portPieces : List Piece :=
  [.ports, .requests, .numbers, .partitions, .virtualTime, .buckets, .wheel, .partitionTable, .panic, .rtpPeak, .creditRound,
    .egressQueue, .egressSlots]

/-- The event records, the pending protected write and the groups of registers. -/
def recordPieces : List Piece :=
  [.records, .chain, .limits, .expiries, .protectedWrite] ++ regsOf (List.range 20)

theorem covers_control (c : Instr) : covers (parts c) (mayChange c) controlPieces = true := by
  cases c <;> dsimp only [parts, mayChange] <;> decide +kernel

theorem covers_port (c : Instr) : covers (parts c) (mayChange c) portPieces = true := by
  cases c <;> dsimp only [parts, mayChange] <;> decide +kernel

theorem covers_record (c : Instr) : covers (parts c) (mayChange c) recordPieces = true := by
  cases c <;> dsimp only [parts, mayChange] <;> decide +kernel

variable {c : Instr} {s t : State}

theorem same_of_covers {ps : List Piece} {p : Piece} (h : exec c s = .next t) (hc : covers (parts c) (mayChange c) ps = true)
    (hp : p ∈ ps) (hm : p ∉ mayChange c) : same p s t := by
  have hq := List.all_eq_true.1 hc p hp
  simp only [hm, decide_false, Bool.or_false, beq_iff_eq] at hq
  exact same_of_seen p (exec_parts h) hq (parts_lt c)

/-- Only the assertion of reset is listed with the time base. -/
theorem clock_not_mem (hc : c ≠ .aonRstAssert) : Piece.clock ∉ mayChange c := by
  cases c with
  | aonRstAssert => exact absurd rfl hc
  | _ => exact of_decide_eq_false rfl

/-- Only reset hides the queue, which it keeps. -/
theorem exec_pending (h : exec c s = .next t) : t.pending = s.pending := by
  by_cases hr : c = .aonRstAssert
  · subst hr
    exact of_run (P := fun t => t.pending = s.pending) h rfl
  · refine same_of_seen .queue (exec_parts h) ?_ (parts_lt c)
    cases c with
    | aonRstAssert => exact absurd rfl hr
    | _ => dsimp only [parts]; rfl

end Sys2Proof.Machine

namespace Sys2Proof

open Sys2Proof.Machine

theorem completes_of_exec {c : Instr} {s : State} {P : State → Prop} (h : ∀ t, exec c s = .next t → P t) : completes c s P := by
  obtain ⟨t, ht⟩ := exec_next c s
  exact ⟨t, ht, h t ht⟩

theorem completes_same {c : Instr} {s : State} {ps : List Piece} {p : Piece} (hc : covers (parts c) (mayChange c) ps = true)
    (hp : p ∈ ps) (hm : p ∉ mayChange c) : completes c s fun t => same p s t :=
  completes_of_exec fun _ h => same_of_covers h hc hp hm

/-- Settles O50. -/
theorem frameOfControlAndPower : Obligations.FrameOfControlAndPower := fun c _ _ => completes_same (covers_control c)

/-- Settles O51. -/
theorem frameOfPortsAndQos : Obligations.FrameOfPortsAndQos := fun c _ _ => completes_same (covers_port c)

theorem record_same {c : Instr} {s : State} {p : Piece}
    (hp : p ∈ [Piece.records, .chain, .limits, .expiries, .protectedWrite, .queue]) (hm : p ∉ mayChange c) :
    completes c s fun t => same p s t := by
  by_cases hq : p = .queue
  · subst hq
    exact completes_of_exec fun _ => exec_pending
  · refine completes_same (covers_record c) (List.mem_append_left _ ?_) hm
    simpa [hq] using hp

theorem register_same {c : Instr} {s : State} {off : Nat} (hm : Piece.regs (regGroup off) ∉ mayChange c) :
    completes c s fun t => regGet t off = regGet s off := by
  refine completes_of_exec fun t h => same_of_covers h (covers_record c) (List.mem_append_right _ ?_) hm off rfl
  exact List.mem_map_of_mem (List.mem_range.2 (regGroup_lt off))

/-- Settles O54. -/
theorem frameOfRecordsAndRegisters : Obligations.FrameOfRecordsAndRegisters :=
  ⟨fun _ _ _ => record_same, fun _ _ _ => register_same, fun _ _ => completes_of_exec fun _ => exec_pending⟩

end Sys2Proof
end

section
/-! SUPPORT. One cycle of aclk, and the machine right after reset. -/

namespace Sys2Proof.Machine

variable {s t : State}

theorem tick_begin (s : State) : tick (begin_ s) = cyclePasses s := rfl

theorem idle_eq (hc : s.glb.ctl ≠ .reset) : idle s = qzTick (cyclePasses s) := by
  unfold idle
  rw [if_neg hc, tick_begin]

theorem cyclePasses_qz (s : State) : (cyclePasses s).qz = s.qz :=
  qz_of_seen (forAll_keeps _ _ _ fun x t => codesGoOn_keeps (by decide) x t)

theorem cyclePasses_glb (s : State) : (cyclePasses s).glb = { s.glb with
    now := s.glb.now + 1
    cc := if s.glb.coreRun then s.glb.cc + 2 * rateOf s s.glb.gear else s.glb.cc
    ackGap := false } :=
  glb_of_seen (forAll_keeps _ _ _ fun x t => codesGoOn_keeps (by decide) x t)

theorem step_idle (hp : s.pending = []) : step s = .next (idle s) := by unfold step; rw [hp]

theorem step_front {c : Instr} {rest : List Instr} (hp : s.pending = c :: rest) :
    step s = exec c { s with pending := rest } := by unfold step; rw [hp]

/-! ### What becomes of a pause at the edge (R76, R78) -/

theorem qzTick_waits (h : s.qz.req = true ∨ (s.qz.ph ≠ .paused ∧ s.qz.ph ≠ .ended)) : qzTick s = s := by
  unfold qzTick ackFalls
  rcases h with h | ⟨hp, he⟩
  · rw [if_pos h]
  · simp [hp, he]

theorem ackFalls_ended (hr : s.qz.req = false) (hp : s.qz.ph = .ended) :
    ackFalls s = { s with qz := { s.qz with ph := .idle, ack := false } } := by
  unfold ackFalls
  exact if_pos (by simp [hr, hp])

theorem qzTick_ended (hr : s.qz.req = false) (hp : s.qz.ph = .ended) :
    qzTick s = { s with qz := { s.qz with ph := .idle, ack := false } } := by
  unfold qzTick
  rw [if_neg (by simp [hr]), if_neg (by simp [hp]), ackFalls_ended hr hp]

theorem qzTick_deep (hc : s.glb.ctl = .quiesced) (hr : s.qz.req = false) (hp : s.qz.ph = .paused) (hd : s.qz.deep = true) :
    qzTick s = { s with qz := { s.qz with ph := .exiting } } := by
  unfold qzTick endPause
  rw [if_neg (by simp [hr]), if_pos hp, if_neg (by simp [hp]), if_pos (by simp [hc, hd])]
  rfl

/-- A pause that has ended does not come back on the way into SERVICE. -/
theorem arriveService_ended (hp : s.qz.ph = .ended) :
    (arriveService s).qz = s.qz ∧ (arriveService s).glb.ctl = .service := by
  have hd : ¬ (cycleEnds true s).qz.ph = .deferred := by rw [show (cycleEnds true s).qz = s.qz from rfl, hp]; decide
  refine ⟨?_, (arriveService_ctl s).resolve_right fun h => ?_⟩
  · unfold arriveService
    dsimp only
    rw [if_neg hd]
    exact qz_of_seen (by simp)
  · exact absurd (hp.symm.trans h.2) (by decide)

theorem qzTick_finishes (hr : s.qz.req = false) (hp : s.qz.ph = .paused) (hd : s.glb.ctl = .quiesced → s.qz.deep = false) :
    (qzTick s).qz = { s.qz with ph := .idle, ack := false, paused := false }
      ∧ (qzTick s).glb.ctl = if s.glb.ctl = .quiesced then .service else s.glb.ctl := by
  have he : qzTick s = finishPause s := by
    unfold qzTick endPause
    rw [if_neg (by simp [hr]), if_pos hp, if_neg (by simp [hp]), if_neg (by simpa using hd)]
  rw [he]
  unfold finishPause
  dsimp only
  split
  · next hc =>
    obtain ⟨hq, hctl⟩ := arriveService_ended (s := updQz (fun q => { q with ph := .ended, paused := false }) s) rfl
    rw [ackFalls_ended (by rw [hq]; exact hr) (by rw [hq]; rfl)]
    exact ⟨by rw [hq]; rfl, hctl.trans (if_pos (show s.glb.ctl = .quiesced from hc)).symm⟩
  · next hc =>
    rw [ackFalls_ended (by exact hr) rfl]
    exact ⟨rfl, (if_neg (show ¬ s.glb.ctl = .quiesced from hc)).symm⟩

theorem qzTick_now (s : State) : (qzTick s).glb.now = s.glb.now := glb_now_of_seen (qzTick_keeps (by decide) s)

theorem idle_now (s : State) : (idle s).glb.now = if s.glb.ctl = .reset then s.glb.now else s.glb.now + 1 := by
  split
  · next hc => unfold idle; rw [if_pos hc]; rfl
  · next hc => rw [idle_eq hc, qzTick_now, cyclePasses_glb]

end Sys2Proof.Machine

namespace Sys2Proof

open Sys2Proof.Machine

variable {s t : State}

theorem step_cycle (hp : s.pending = []) (hc : s.glb.ctl ≠ .reset) : step s = .next (qzTick (cyclePasses s)) := by
  rw [step_idle hp, idle_eq hc]

theorem step_finishes (hp : s.pending = []) (hc : s.glb.ctl ≠ .reset) (hr : s.qz.req = false) (hph : s.qz.ph = .paused)
    (hd : s.glb.ctl = .quiesced → s.qz.deep = false) :
    ∃ t, step s = .next t ∧ t.qz.ph = .idle ∧ t.qz.ack = false ∧ t.qz.paused = false ∧ t.glb.now = s.glb.now + 1
      ∧ t.glb.ctl = if s.glb.ctl = .quiesced then .service else s.glb.ctl := by
  have hg := cyclePasses_glb s
  have hq := cyclePasses_qz s
  obtain ⟨hqz, hctl⟩ := qzTick_finishes (s := cyclePasses s) (by rw [hq]; exact hr) (by rw [hq]; exact hph)
    (by rw [hg, hq]; exact hd)
  refine ⟨_, step_cycle hp hc, ?_, ?_, ?_, ?_, ?_⟩
  · rw [hqz]
  · rw [hqz]
  · rw [hqz]
  · rw [qzTick_now, hg]
  · rw [hctl, hg]

/-- Settles O45. -/
theorem stepRunsTheFrontCommand : Obligations.StepRunsTheFrontCommand := by
  refine ⟨fun _ _ _ => step_front, fun s hp hc hq => ?_, fun s hp hc hr hph => ?_, fun s hp hc hr hph hd => ?_,
    fun _ => step_finishes, fun s hp hc => ?_⟩
  · rw [step_cycle hp hc, qzTick_waits (by rw [cyclePasses_qz]; exact hq)]
  · rw [step_cycle hp hc, qzTick_ended (by rw [cyclePasses_qz]; exact hr) (by rw [cyclePasses_qz]; exact hph), cyclePasses_qz]
  · have hq := cyclePasses_qz s
    rw [step_cycle hp (by rw [hc]; decide), qzTick_deep (by rw [cyclePasses_glb]; exact hc) (by rw [hq]; exact hr)
      (by rw [hq]; exact hph) (by rw [hq]; exact hd), hq]
  · rw [step_idle hp]
    unfold idle
    rw [if_pos hc]
    rfl

theorem exec_now {c : Instr} (hc : c ≠ .aonRstAssert) (h : exec c s = .next t) : t.glb.now = s.glb.now :=
  (same_of_covers (p := .clock) h (covers_control c) (List.mem_cons_self ..) (clock_not_mem hc)).1

/-- Settles O60: reset sets the time base to 0, and no other command may change it. -/
theorem timeBase : Obligations.TimeBase := by
  intro s t h
  split
  · next hp =>
    rw [step_idle hp] at h
    exact Host.Outcome.next.inj h ▸ idle_now s
  · next hp =>
    rw [step_front hp] at h
    exact of_run (P := fun t => t.glb.now = 0) h rfl
  · next c rest hc hp =>
    rw [step_front hp] at h
    exact exec_now (s := { s with pending := rest }) hc h

/-- Settles O46. -/
theorem resetState : Obligations.ResetState :=
  ⟨rfl, rfl, rfl, rfl, rfl, by decide, rfl, rfl, rfl, rfl, fun _ => rfl, by decide, by decide⟩

end Sys2Proof
end

section
/-! SUPPORT. A write on the register port: when it takes effect, and what it does to a register of each type (R33 to R46). -/

namespace Sys2Proof.Machine

variable {s : State} {a : RegAcc} {off al : Nat} {w : Word} {r : RegRow}

/-! ### The port -/

/-- An accepted write that needs no wake and is not inert takes effect and is answered OK. -/
theorem portWrite_takes (hp : portReady s = true) (ha : a.allowed = true) (hd : (s.glb.ctl = .dormant && a.wakes) = false)
    (hi : inert s a = false) : portWrite a (begin_ s) = respOk 0 (regWrite a.off a.alias_ a.data (begin_ s)) := by
  have hi' : inert (begin_ s) a = false := hi
  unfold portWrite writeNow
  rw [show portReady (begin_ s) = true from hp, ha, show (decide ((begin_ s).glb.ctl = .dormant) && a.wakes) = false from hd, hi']
  rfl

theorem portWrite_open (h : portOpen s a) : portWrite a (begin_ s) = respOk 0 (regWrite a.off a.alias_ a.data (begin_ s)) := by
  obtain ⟨hp, ha, hd, hi⟩ := h
  exact portWrite_takes hp ha (by simp [hd]) hi

theorem portWrite_denied (hp : portReady s = true) (ha : a.allowed = false) : portWrite a (begin_ s) = emit (.reg 1 0) (begin_ s) := by
  unfold portWrite
  rw [show portReady (begin_ s) = true from hp, ha]
  rfl

theorem portReady_reset (hc : s.glb.ctl = .reset) : portReady s = false := by
  unfold portReady
  rw [hc]
  rfl

theorem portWrite_shut (hp : portReady s = false) : portWrite a (begin_ s) = begin_ s := by
  unfold portWrite
  rw [show portReady (begin_ s) = false from hp]
  rfl

/-- The four rows of the table that are the write of any register. -/
theorem exec_write {c : Instr} (hc : c ∈ [Instr.registerWrite a, .sqWrite a, .ppWrite a, .indexWrite a]) (s : State) :
    exec c s = run (portWrite a) s := by
  simp only [List.mem_cons, List.not_mem_nil, or_false] at hc
  rcases hc with rfl | rfl | rfl | rfl <;> rfl

/-! ### A write to a register of each type -/

theorem regWrite_none (hr : rowOf off = none) : regWrite off al w s = s := by unfold regWrite; rw [hr]

theorem regWrite_fixed (hr : rowOf off = some r) (hk : r.kind ∈ [RegKind.ro, .cfg, .live]) : regWrite off al w s = s := by
  simp only [List.mem_cons, List.not_mem_nil, or_false] at hk
  unfold regWrite
  rw [hr]
  rcases hk with hk | hk | hk <;> simp only [hk]

theorem regWrite_plain (hr : rowOf off = some r) (hk : r.kind = .rw) : regWrite off al w s = rwStore r off al w s := by
  unfold regWrite; rw [hr]; simp only [hk]

theorem regWrite_half (hr : rowOf off = some r) (hk : r.kind = .wd) :
    regWrite off al w s = onlyIf (al == 0) (rwStore r off 0 w) s := by
  unfold regWrite; rw [hr]; simp only [hk]

theorem regWrite_sq (hr : rowOf off = some r) (hk : r.kind = .sq) :
    regWrite off al w s = onlyIf (al == 0) (sqClear off w) s := by
  unfold regWrite; rw [hr]; simp only [hk]

theorem regWrite_pp (hk : kindAt off .pp = true) : regWrite off al w s = onlyIf (al == 0) (ppStore off w) s := by
  obtain ⟨r, hr, hk⟩ := (Option.any_eq_true _ _).1 hk
  unfold regWrite; rw [hr]; simp only [of_decide_eq_true hk]

theorem regWrite_companion (hr : rowOf off = some r) (hk : r.kind = .ppc) :
    regWrite off al w s = onlyIf (al == 0) (ppAnswer (off - 4) w) s := by
  unfold regWrite; rw [hr]; simp only [hk]

/-- Only plain registers have aliases (R38). -/
theorem regWrite_alias (hr : rowOf off = some r) (hk : r.kind ≠ .rw) (ha : al ≠ 0) : regWrite off al w s = s := by
  have hal : (al == 0) = false := by simpa using ha
  unfold regWrite onlyIf
  rw [hr, hal]
  cases h : r.kind with
  | rw => exact absurd h hk
  | _ => simp [h]

/-! ### Plain registers -/

theorem aliased_eq (al : Nat) (v w : Word) : aliased al v w =
    if al = 1 then v ||| w else if al = 2 then v &&& ~~~w else if al = 3 then v ^^^ w else w := by
  unfold aliased
  split
  · rfl
  · rfl
  · rfl
  · next h1 h2 h3 => rw [if_neg h1, if_neg h2, if_neg h3]

/-- The registers whose write starts something of its own. -/
def startingRegs : List Nat := [0x20000, 0x20040, 0x12044, 0x30200, 0xA004, 0x8140]

/-- Beside those, a write can only put a wide value into effect. -/
theorem afterStore_plain (ho : off ∉ startingRegs) (s : State) :
    afterStore off s = onlyIf (wideHalf off && off ≠ wideLow off) (wideSync off) s := by
  simp only [startingRegs, List.mem_cons, List.not_mem_nil, or_false, not_or] at ho
  obtain ⟨h1, h2, h3, h4, h5, h6⟩ := ho
  unfold afterStore onlyIf
  rw [if_neg h1, if_neg h2, if_neg h3, if_neg h4, if_neg h5, if_neg h6]

theorem afterStore_wide (ho : off ∉ startingRegs) (s : State) : afterStore off s = { s with glg := (afterStore off s).glg } := by
  rw [afterStore_plain ho]
  unfold onlyIf wideSync
  dsimp only
  split
  · split <;> rfl
  · rfl

/-- The word that a write of w through one of the aliases leaves at `off`: reserved bits stay (R37, R38). -/
def stored (r : RegRow) (s : State) (off al : Nat) (w : Word) : Word :=
  (regGet s off &&& ~~~r.mask) ||| (aliased al (regGet s off) w &&& r.mask)

theorem rwStore_unlocked (hl : puLocked s off = false) : rwStore r off al w s = afterStore off (regSet off (stored r s off al w) s) := by
  unfold rwStore
  rw [hl]
  rfl

theorem rwStore_plain (hl : puLocked s off = false) (ho : off ∉ startingRegs) :
    rwStore r off al w s = { s with
      regs := kset s.regs off (stored r s off al w)
      glg := (afterStore off (regSet off (stored r s off al w) s)).glg } := by
  rw [rwStore_unlocked hl, afterStore_wide ho]
  rfl

theorem puLocked_below (ho : off < 0x30800) : puLocked s off = false := by
  unfold puLocked
  rw [decide_eq_false (by omega)]
  rfl

/-- A WD half is no word of a rule set: those are plain registers. -/
theorem puLocked_half (hr : rowOf off = some r) (hk : r.kind = .wd) (s : State) : puLocked s off = false := by
  have below : ∀ r ∈ regsGlg, r.kind = .wd → 0 < r.stride ∧ r.base + r.n * r.stride ≤ 0x30800 := by decide +kernel
  unfold puLocked
  rw [decide_eq_false, Bool.false_and]
  rintro ⟨hlo, hhi⟩
  have hblock : blockRows off = regsGlg := by
    unfold blockRows
    repeat rw [if_neg (by omega)]
  unfold rowOf at hr
  rw [hblock] at hr
  obtain ⟨hstride, hend⟩ := below r (List.mem_of_find?_eq_some hr) hk
  have hhits : r.hits off = true := List.find?_some (p := fun r : RegRow => r.hits off) hr
  simp only [RegRow.hits, Bool.and_eq_true, decide_eq_true_eq] at hhits
  obtain ⟨⟨⟨hbase, hn⟩, -⟩, -⟩ := hhits
  have hoff := (Nat.div_lt_iff_lt_mul hstride).1 hn
  omega

end Sys2Proof.Machine
end

section
/-! The register port: plain registers, aliases, SQ registers, reads (R33 to R41, R53). -/

namespace Sys2Proof.Machine

variable {s : State} {off : Nat} {v w : Word}

/-! ### SQ registers (R41) -/

theorem sqClear_match (h : w >>> 24 = regGet s off >>> 24) :
    sqClear off w s = regSet off (regGet s off &&& ~~~(w &&& 0x00FFFFFF)) s := if_pos h

theorem sqClear_mismatch (h : w >>> 24 ≠ regGet s off >>> 24) : sqClear off w s = s := if_neg h

theorem cleared_bit (v w : Word) {n : Nat} (h : n < 24) :
    bitOf (v &&& ~~~(w &&& 0x00FFFFFF)) n = (bitOf v n && !bitOf w n) := by
  have h32 : n < 32 := by omega
  simp only [bitOf, BitVec.getLsbD_and, BitVec.getLsbD_not, low24_bit, h, h32, decide_true, Bool.and_true, Bool.true_and]

theorem cleared_seq (v w : Word) : (v &&& ~~~(w &&& 0x00FFFFFF)) >>> 24 = v >>> 24 := by
  apply BitVec.eq_of_getLsbD_eq
  intro i hi
  have h24 : ¬ 24 + i < 24 := by omega
  simp only [BitVec.getLsbD_ushiftRight, BitVec.getLsbD_and, BitVec.getLsbD_not, low24_bit, h24, decide_false, Bool.and_false,
    Bool.not_false, Bool.and_true]
  by_cases h : 24 + i < 32
  · simp only [h, decide_true, Bool.and_true]
  · simp only [BitVec.getLsbD_of_ge v (24 + i) (by omega), Bool.false_and]

end Sys2Proof.Machine

namespace Sys2Proof

open Sys2Proof.Machine

variable {s : State} {a : RegAcc} {r : RegRow}

theorem write_stores {c : Instr} (hc : c ∈ [Instr.registerWrite a, .sqWrite a, .ppWrite a, .indexWrite a]) (hp : portOpen s a)
    (hr : rowOf a.off = some r) (hk : r.kind = .rw) (hl : puLocked s a.off = false) (ho : a.off ∉ startingRegs) :
    completes c s fun t => t = { s with
      regs := kset s.regs a.off (stored r s a.off a.alias_ a.data)
      glg := t.glg
      out := [.reg 0 0]
      raised := 0 } := by
  refine completes_of_run (exec_write hc s) ?_
  rw [portWrite_open hp, regWrite_plain hr hk, rwStore_plain (s := begin_ s) hl ho]
  rfl

theorem stored_eq (s : State) (a : RegAcc) (r : RegRow) : stored r s a.off a.alias_ a.data = (regGet s a.off &&& ~~~r.mask) |||
    ((if a.alias_ = 1 then regGet s a.off ||| a.data else if a.alias_ = 2 then regGet s a.off &&& ~~~a.data
      else if a.alias_ = 3 then regGet s a.off ^^^ a.data else a.data) &&& r.mask) := by
  rw [stored, aliased_eq]

theorem completes.imp {c : Instr} {P Q : State → Prop} (h : completes c s P) (hpq : ∀ t, P t → Q t) : completes c s Q := by
  obtain ⟨t, ht, hp⟩ := h
  exact ⟨t, ht, hpq t hp⟩

theorem registerWrite_plain (hp : portOpen s a) (hr : rowOf a.off = some r) (hk : r.kind = .rw) (hl : puLocked s a.off = false)
    (ho : a.off ∉ startingRegs) : completes (.registerWrite a) s fun t =>
      t.regs = kset s.regs a.off ((regGet s a.off &&& ~~~r.mask) |||
        ((if a.alias_ = 1 then regGet s a.off ||| a.data else if a.alias_ = 2 then regGet s a.off &&& ~~~a.data
          else if a.alias_ = 3 then regGet s a.off ^^^ a.data else a.data) &&& r.mask))
      ∧ t.out = [.reg 0 0] ∧ t.glb = s.glb ∧ t.evt = s.evt :=
  (write_stores (by simp) hp hr hk hl ho).imp fun t ht => by rw [ht, stored_eq]; exact ⟨rfl, rfl, rfl, rfl⟩

theorem indexWrite_plain (hp : portOpen s a) (hr : rowOf a.off = some r) (hk : r.kind = .rw)
    (ho : a.off ∈ [0xA000, 0x140B0, 0x20044, 0x30020]) : completes (.indexWrite a) s fun t =>
      t.regs = kset s.regs a.off ((regGet s a.off &&& ~~~r.mask) |||
        ((if a.alias_ = 1 then regGet s a.off ||| a.data else if a.alias_ = 2 then regGet s a.off &&& ~~~a.data
          else if a.alias_ = 3 then regGet s a.off ^^^ a.data else a.data) &&& r.mask))
      ∧ t.out = [.reg 0 0] ∧ t.qos = s.qos := by
  have hb : ∀ o ∈ [0xA000, 0x140B0, 0x20044, 0x30020], o < 0x30800 ∧ o ∉ startingRegs := by decide
  obtain ⟨hlow, hplain⟩ := hb _ ho
  refine (write_stores (by simp) hp hr hk (puLocked_below hlow) hplain).imp fun t ht => ?_
  rw [ht, stored_eq]
  exact ⟨rfl, rfl, rfl⟩

theorem registerWrite_half (hp : portOpen s a) (hr : rowOf a.off = some r) (hk : r.kind = .wd) (ha : a.alias_ = 0)
    (ho : a.off ≠ 0x12044) : completes (.registerWrite a) s fun t =>
      t.regs = kset s.regs a.off ((regGet s a.off &&& ~~~r.mask) ||| (a.data &&& r.mask))
      ∧ t.out = [.reg 0 0] ∧ t.glb = s.glb ∧ t.evt = s.evt := by
  have plain : ∀ o ∈ startingRegs, o ≠ 0x12044 → kindAt o .wd = false := by decide +kernel
  have hplain : a.off ∉ startingRegs := fun h => by
    have := plain _ h ho
    simp [kindAt, hr, hk] at this
  refine completes_of_run (f := portWrite a) rfl ?_
  rw [portWrite_open hp, regWrite_half hr hk, ha, show ((0 : Nat) == 0) = true from rfl, onlyIf, if_pos rfl,
    rwStore_plain (puLocked_half hr hk _) hplain]
  exact ⟨rfl, rfl, rfl, rfl⟩

theorem write_ignored {c : Instr} (hc : c ∈ [Instr.registerWrite a, .sqWrite a, .ppWrite a, .indexWrite a])
    (hp : portReady s = true) (ha : a.allowed = true) (hd : s.glb.ctl ≠ .dormant)
    (hw : regWrite a.off a.alias_ a.data (begin_ s) = begin_ s) :
    completes c s fun t => t = { s with out := [.reg 0 0], raised := 0 } := by
  refine completes_of_run (exec_write hc s) ?_
  unfold portWrite writeNow
  rw [show portReady (begin_ s) = true from hp, ha, show decide ((begin_ s).glb.ctl = .dormant) = false from decide_eq_false hd,
    hw, ite_self]
  rfl

/-! ### Reads (R33, R36, R38, R39, R53) -/

theorem readAnswer_open (hp : portReady s = true) : 
    (a.allowed = false → readAnswer a s = some (.reg 1 0))
      ∧ (a.allowed = true → rowOf a.off = none → readAnswer a s = some (.reg 0 0))
      ∧ (a.allowed = true → a.alias_ ≠ 0 → readAnswer a s = some (.reg 0 (regRead s a.off)))
      ∧ (a.allowed = true → a.alias_ = 0 → (∀ r, rowOf a.off = some r → r.kind ≠ .port) →
        readAnswer a s = some (.reg 0 (regRead s a.off))) := by
  unfold readAnswer
  refine ⟨fun h => ?_, fun h hr => ?_, fun h hal => ?_, fun h hal hk => ?_⟩
  · simp [hp, h]
  · simp [hp, h, hr, regRead]
  · simp [hp, h, hal]
  · have hn : (rowOf a.off).any (fun r => r.kind = .port) = false := by
      cases hr : rowOf a.off with
      | none => rfl
      | some r => simpa using hk r hr
    simp [hp, h, hn]

/-- Settles O9. -/
theorem registerWriteRules : Obligations.RegisterWriteRules := by
  refine ⟨fun s a r hp hr hk hl ho => registerWrite_plain hp hr hk hl ho, fun s a r hp hr hk ho => indexWrite_plain hp hr hk ho,
    fun s a hp ha => ?_, fun s a r hp hr hk hal => ?_, fun s a hp hr => ?_, fun s a hc => ?_,
    fun s a r hp hr hk ha ho => registerWrite_half hp hr hk ha ho, fun s a hp => readAnswer_open hp, fun s a hc => ?_⟩
  · refine completes_of_run (f := portWrite a) rfl ?_
    rw [portWrite_denied hp ha]
    rfl
  · obtain ⟨hready, ha, hd, -⟩ := hp
    exact write_ignored (by simp) hready ha hd (regWrite_alias hr hk hal)
  · obtain ⟨hready, ha, hd, -⟩ := hp
    exact write_ignored (by simp) hready ha hd (regWrite_none hr)
  · refine completes_of_run (f := portWrite a) rfl ?_
    rw [portWrite_shut (portReady_reset hc)]
    rfl
  · unfold readAnswer
    rw [portReady_reset hc]
    rfl

theorem sqWrite_clears (hp : portOpen s a) (hr : rowOf a.off = some r) (hk : r.kind = .sq) (ha : a.alias_ = 0) :
    completes (.sqWrite a) s fun t => t = respOk 0 (sqClear a.off a.data (begin_ s)) := by
  refine completes_of_run (f := portWrite a) rfl ?_
  rw [portWrite_open hp, regWrite_sq hr hk, ha]
  rfl

/-- Settles O10: a write with the register's sequence clears its bits, another one is answered alone. -/
theorem sqWriteClearsOnMatch : Obligations.SqWriteClearsOnMatch := by
  refine ⟨fun s a r hp hr hk ha hm => ?_, fun s a r hp hr hk ha hm => ?_⟩
  · refine (sqWrite_clears hp hr hk ha).imp fun t ht => ?_
    have hg : regGet t a.off = regGet s a.off &&& ~~~(a.data &&& 0x00FFFFFF) := by
      rw [ht, sqClear_match (s := begin_ s) hm]
      exact regGet_regSet_same _ _ _
    rw [hg, ht, sqClear_match (s := begin_ s) hm]
    exact ⟨fun n hn => cleared_bit _ _ hn, cleared_seq _ _, rfl, rfl⟩
  · refine (sqWrite_clears hp hr hk ha).imp fun t ht => ?_
    rw [ht, sqClear_mismatch (s := begin_ s) hm]
    rfl

/-- Settles O47. -/
theorem aliasWriteElsewhere : Obligations.AliasWriteElsewhere := fun _ _ _ _ hp ha hd hr hk hal hc =>
  (write_ignored hc hp ha hd (regWrite_alias hr hk hal)).imp fun _ ht => ⟨ht, by rw [ht]⟩

end Sys2Proof
end

section
/-! SUPPORT. The frame of a register write: the pieces outside a list, and every register but its target. -/

namespace Sys2Proof.Machine

variable {s t : State} {a : RegAcc} {off al : Nat} {w : Word}

/-- The DRAM side, the pair, the domain, the image and the Gliog. -/
def unitPieces : List Piece :=
  [.scheduler, .alert, .refresh, .refreshRate, .rowCounters, .backoff, .rolling, .phy, .lifeline, .bootPoint, .gearChange,
    .shadow, .faultUnits, .errorLog, .scrub, .repair, .sparing, .debug, .scrubFetch,
    .pairRole, .pairState, .epoch, .peerKnown, .heartbeats, .dirty, .resilver, .roleChange, .pairRecord, .pairRequest, .lineLocks,
    .inbox, .sequence, .census, .snapshot, .outbox, .image, .fetch, .reload, .broadcast, .instances, .stateWindow, .ruleSets,
    .mailbox, .crcSets, .queue]

/-- The pieces of State; of registers, those of the groups that registers have. -/
def allPieces : List Piece := controlPieces ++ portPieces ++ recordPieces ++ unitPieces

theorem mem_allPieces (p : Piece) : p ∈ allPieces ∨ ∃ k, 20 ≤ k ∧ p = .regs k := by
  cases p with
  | regs k =>
    by_cases hk : k < 20
    · have h : Piece.regs k ∈ recordPieces := List.mem_append_right _ (List.mem_map_of_mem (List.mem_range.2 hk))
      exact .inl (List.mem_append_left _ (List.mem_append_right _ h))
    · exact .inr ⟨k, by omega, rfl⟩
  | _ => exact .inl (of_decide_eq_true rfl)

/-- What only hides parts of the pieces of a list leaves every other piece. -/
theorem same_outside {n : Nat} {l : List Piece} (h : t.seen n = s.seen n) (hn : n < 2 ^ 177) (hc : covers n l allPieces = true) :
    ∀ p ∉ l, same p s t := by
  intro p hp
  rcases mem_allPieces p with hm | ⟨k, hk, rfl⟩
  · have hq := List.all_eq_true.1 hc p hm
    simp only [hp, decide_false, Bool.or_false, beq_iff_eq] at hq
    exact same_of_seen p h hq hn
  · intro o ho
    exact absurd (regGroup_lt o) (by omega)

/-! ### What a write hides beside the PLL, the wake and the outputs -/

/-- The parts of a wake that a write may start, and the outputs. -/
abbrev wakeParts : Nat := 0x60000000006000000000000000000000000000001000

/-- Beside those, the parts of a plain or SQ register of a group. -/
abbrev storeParts (k : Nat) : Nat := wakeParts ||| 0x200000000000000000000000000000000 ||| 2 ^ (147 + k)

theorem storeParts_facts (k : Nat) (hk : k < 20) : storeParts k / 2 ^ (147 + k) % 2 = 1 ∧ wakeParts &&& storeParts k = wakeParts
    ∧ 0x200000000000000000000000000000000 &&& storeParts k = 0x200000000000000000000000000000000
    ∧ storeParts k < 2 ^ 177 ∧ covers (storeParts k) [.pll, .wake, .crcSets, .regs k] allPieces = true := by
  have h : ∀ k : Fin 20, storeParts k / 2 ^ (147 + k.val) % 2 = 1 ∧ wakeParts &&& storeParts k = wakeParts
    ∧ 0x200000000000000000000000000000000 &&& storeParts k = 0x200000000000000000000000000000000
    ∧ storeParts k < 2 ^ 177 ∧ covers (storeParts k) [.pll, .wake, .crcSets, .regs k] allPieces = true := by decide +kernel
  exact h ⟨k, hk⟩

theorem kindAt_pp (h : a.isPp = true) : kindAt a.off .pp = true := h

theorem regWrite_fixed_all (hk : (rowOf off).all (fun r => r.kind ∈ [RegKind.ro, .cfg, .live]) = true) :
    regWrite off al w s = s := by
  cases hr : rowOf off with
  | none => exact regWrite_none hr
  | some r => exact regWrite_fixed hr (by simpa [hr] using hk)

theorem afterStore_plain_keeps {hid : Nat} (hw : 0x200000000000000000000000000000000 &&& hid = 0x200000000000000000000000000000000)
    (ho : off ∉ startingRegs) (s : State) : (afterStore off s).seen hid = s.seen hid := by
  rw [afterStore_plain ho]
  exact onlyIf_keeps _ _ _ (wideSync_keeps hw _ _)

theorem rwStore_plain_keeps {hid : Nat} (hw : 0x200000000000000000000000000000000 &&& hid = 0x200000000000000000000000000000000)
    (hg : hid / 2 ^ (147 + regGroup off) % 2 = 1) (ho : off ∉ startingRegs) (r : RegRow) (al : Nat) (w : Word) (s : State) :
    (rwStore r off al w s).seen hid = s.seen hid := by
  unfold rwStore
  split
  · rfl
  · dsimp only
    rw [afterStore_plain_keeps hw ho, regSet_keeps _ _ _ hg]

/-- The write of a plain, wide or SQ register that starts nothing stays within the register's group and the wide values. -/
theorem regWrite_stored_keeps {hid : Nat}
    (hw : 0x200000000000000000000000000000000 &&& hid = 0x200000000000000000000000000000000)
    (hg : hid / 2 ^ (147 + regGroup off) % 2 = 1) (hk : (rowOf off).any (fun r => r.kind ∈ [RegKind.rw, .wd, .sq]) = true)
    (ho : off ∉ startingRegs) (al : Nat) (w : Word) (s : State) : (regWrite off al w s).seen hid = s.seen hid := by
  obtain ⟨r, hr, hk⟩ := (Option.any_eq_true _ _).1 hk
  simp only [List.mem_cons, List.not_mem_nil, or_false, decide_eq_true_eq] at hk
  rcases hk with hk | hk | hk
  · rw [regWrite_plain hr hk, rwStore_plain_keeps hw hg ho]
  · rw [regWrite_half hr hk]
    exact onlyIf_keeps _ _ _ (rwStore_plain_keeps hw hg ho _ _ _ _)
  · rw [regWrite_sq hr hk]
    exact onlyIf_keeps _ _ _ (sqClear_keeps _ _ _ hg)

/-- s and t agree in every register but the one at `off`. -/
def OnlyReg (off : Nat) (s t : State) : Prop := ∀ o, o ≠ off → regGet t o = regGet s o

theorem onlyReg_regs (h : t.regs = s.regs) : OnlyReg off s t := fun o _ => regGet_congr h o

theorem onlyReg_onlyIf {b : Bool} {f : State → State} (h : OnlyReg off s (f s)) : OnlyReg off s (onlyIf b f s) := by
  unfold onlyIf
  split
  · exact h
  · exact onlyReg_regs rfl

theorem rwStore_onlyReg (ho : off ∉ startingRegs) (r : RegRow) (al : Nat) (w : Word) (s : State) :
    OnlyReg off s (rwStore r off al w s) := by
  cases hl : puLocked s off with
  | true => exact onlyReg_regs (by unfold rwStore; rw [hl]; rfl)
  | false =>
    rw [rwStore_plain hl ho]
    exact fun o h => regGet_regSet_other s _ h

theorem regWrite_onlyReg (hk : (rowOf off).any (fun r => r.kind ∈ [RegKind.rw, .wd, .sq]) = true) (ho : off ∉ startingRegs)
    (al : Nat) (w : Word) (s : State) : OnlyReg off s (regWrite off al w s) := by
  obtain ⟨r, hr, hk⟩ := (Option.any_eq_true _ _).1 hk
  simp only [List.mem_cons, List.not_mem_nil, or_false, decide_eq_true_eq] at hk
  rcases hk with hk | hk | hk
  · rw [regWrite_plain hr hk]
    exact rwStore_onlyReg ho _ _ _ _
  · rw [regWrite_half hr hk]
    exact onlyReg_onlyIf (rwStore_onlyReg ho _ _ _ _)
  · rw [regWrite_sq hr hk]
    refine onlyReg_onlyIf ?_
    unfold sqClear
    dsimp only
    split
    · exact fun o h => regGet_regSet_other s _ h
    · exact onlyReg_regs rfl

theorem portWrite_onlyReg (h : OnlyReg a.off s (regWrite a.off a.alias_ a.data s)) : OnlyReg a.off s (portWrite a s) := by
  unfold portWrite
  split
  · exact onlyReg_regs rfl
  · split
    · exact onlyReg_regs rfl
    · split
      · exact onlyReg_regs (regs_of_seen (startWake_keeps (by decide) _))
      · unfold writeNow
        split
        · exact onlyReg_regs rfl
        · exact h

end Sys2Proof.Machine

namespace Sys2Proof

open Sys2Proof.Machine

/-- A write keeps on the port what the write of the register itself keeps. -/
theorem write_keeps {a : RegAcc} {c : Instr} {s : State} {n : Nat} {l : List Piece}
    (hc : c ∈ [Instr.registerWrite a, .sqWrite a, .ppWrite a, .indexWrite a]) (hw : wakeParts &&& n = wakeParts)
    (hn : n < 2 ^ 177) (hl : covers n l allPieces = true)
    (h : ∀ al t, (regWrite a.off al a.data t).seen n = t.seen n) :
    completes c s fun t => ∀ p ∉ l, same p s t := by
  refine completes_of_run (exec_write hc s) (same_outside ?_ hn hl)
  exact (portWrite_at (sub_trans (by decide) hw) a _ fun al => h al _).trans (begin__keeps (sub_trans (by decide) hw) s)

/-- Settles O55: a fixed register is not written; a plain, wide or SQ register is stored in its group; a write to a protected
register leaves a pending value or a fault. -/
theorem registerWriteFrame : Obligations.RegisterWriteFrame := by
  refine ⟨fun s a c hc hk => ?_, fun s a c hc hk ho => ?_, fun s a c hc hk => ?_⟩
  · exact write_keeps (n := wakeParts) hc rfl (by decide) rfl fun al t => by rw [regWrite_fixed_all hk]
  · obtain ⟨hg, hw, hwide, hn, hl⟩ := storeParts_facts _ (regGroup_lt a.off)
    obtain ⟨t, ht, hsame⟩ := write_keeps (s := s) hc hw hn hl fun al t => regWrite_stored_keeps hwide hg hk ho al a.data t
    have hone := portWrite_onlyReg (regWrite_onlyReg hk ho a.alias_ a.data (begin_ s))
    exact ⟨t, ht, hsame, of_run (P := OnlyReg a.off s) ((exec_write hc s).symm.trans ht) hone⟩
  · refine write_keeps (n := 0x60800011206000000000000000000000000000001000) hc rfl (by decide) rfl fun al t => ?_
    rw [regWrite_pp (kindAt_pp hk)]
    exact onlyIf_keeps _ _ _ (ppStore_keeps rfl _ _ _)

end Sys2Proof
end

section
/-! SUPPORT. Protected pairs: the pending value, its commit and its faults (R43 to R46). -/

namespace Sys2Proof.Machine

variable {s t : State} {a : RegAcc} {p : PpPend} {off : Nat} {v w : Word} {own : Word → Bool} {priv : Bool}

/-! ### A fault -/

theorem bufferRec_evt (ws : BitVec 16 → List Word) (src : Nat) (sev : Fin 8) (q : Option PpPend) (s : State) :
    (bufferRec ws src sev { s with pp := q }).evt = (bufferRec ws src sev s).evt := by
  unfold bufferRec raisedSplit
  dsimp only
  by_cases room : s.evt.buf.length < 16
  · rw [if_pos room, if_pos room]
  · rw [if_neg room, if_neg room]
    rfl

/-- The record of a fault does not depend on the pending value. -/
theorem protectFault_evt (reason off : Nat) (v : Word) (q : Option PpPend) (s : State) :
    (protectFault reason off v { s with pp := q }).evt = (protectFault reason off v s).evt := by
  have low : ¬ 3 ≤ (0 : Fin 8).val := by decide
  unfold protectFault raise
  dsimp only
  rw [if_neg low, if_neg low]
  by_cases hf : (0 : Fin 8).val < regFld s rEvtCfg 29 27
  · rw [if_pos hf, if_pos (show (0 : Fin 8).val < regFld { s with pp := q } rEvtCfg 29 27 from hf)]
    rfl
  · rw [if_neg hf, if_neg (show ¬ (0 : Fin 8).val < regFld { s with pp := q } rEvtCfg 29 27 from hf)]
    exact bufferRec_evt _ _ _ q (bump rEvtRaised s)

/-- The fault is recorded, nothing is pending and nothing is put out. -/
def Faulted (reason off : Nat) (v : Word) (s t : State) : Prop := t.pp = none ∧ faultRecorded reason off v s t ∧ t.out = []

theorem protectFault_faulted (reason off : Nat) (v : Word) (hp : s.pp = none) :
    Faulted reason off v s (protectFault reason off v (begin_ s)) := by
  refine ⟨?_, rfl, ?_⟩
  · exact (pp_of_seen (protectFault_keeps (by decide) ..)).trans hp
  · exact out_of_seen (protectFault_keeps (by decide) ..)

theorem discardPp_faulted (reason : Nat) (p : PpPend) (v : Word) (s : State) :
    Faulted reason p.off v s (discardPp reason p v (begin_ s)) := by
  refine ⟨?_, ?_, ?_⟩
  · exact pp_of_seen (t := discardPp reason p v (begin_ s)) (s := { begin_ s with pp := none }) (protectFault_keeps (by decide) ..)
  · exact congrArg Evt.buf (protectFault_evt ..)
  · exact out_of_seen (discardPp_keeps (by decide) ..)

theorem Faulted.answered {reason off : Nat} {v : Word} {t : State} (h : Faulted reason off v s t) :
    (respOk 0 t).pp = none ∧ faultRecorded reason off v s (respOk 0 t) ∧ (respOk 0 t).out = [.reg 0 0] := by
  obtain ⟨hp, hf, ho⟩ := h
  exact ⟨hp, hf, by show t.out ++ _ = _; rw [ho]; rfl⟩

/-! ### The pending value -/

theorem ppExpire_none (hp : s.pp = none) : ppExpire s = s := by unfold ppExpire; rw [hp]

theorem ppExpire_early (hp : s.pp = some p) (hl : ppLate s p = false) : ppExpire s = s := by
  unfold ppExpire
  rw [hp]
  simp [hl]

/-- The value held pending at `off` from now on (R43, R44). -/
def pendingAt (s : State) (off : Nat) (v : Word) : PpPend := ⟨off, v, if s.glb.coreRun then s.glb.cc else s.glb.now, s.glb.coreRun⟩

theorem ppStore_locked (hp : s.pp = none) (hl : regBit s 0x20 (blockOf off) = true) : ppStore off v s = protectFault 4 off v s := by
  unfold ppStore
  rw [ppExpire_none hp]
  exact if_pos hl

theorem ppStore_pends (hp : s.pp = none) (hl : regBit s 0x20 (blockOf off) = false) :
    ppStore off v s = { s with pp := some (pendingAt s off v) } := by
  unfold ppStore
  rw [ppExpire_none hp]
  dsimp only
  rw [if_neg (by rw [hl]; decide), hp]
  rfl

theorem ppStore_supersedes (hp : s.pp = some p) (ht : ppLate s p = false) (ho : p.off ≠ off)
    (hl : regBit s 0x20 (blockOf off) = false) :
    ppStore off v s = { discardPp 5 p p.val s with pp := some (pendingAt s off v) } := by
  have hg : pendingAt (discardPp 5 p p.val s) off v = pendingAt s off v := by
    unfold pendingAt
    rw [show (discardPp 5 p p.val s).glb = s.glb from glb_of_seen (discardPp_keeps (by decide) ..)]
  rw [← hg]
  unfold ppStore
  rw [ppExpire_early hp ht]
  dsimp only
  rw [if_neg (by rw [hl]; decide)]
  simp only [hp, if_neg ho]
  rfl

theorem ppAnswer_none (hp : s.pp = none) : ppAnswer off v s = protectFault 3 off v s := by
  unfold ppAnswer
  rw [ppExpire_none hp]
  dsimp only
  rw [hp]

theorem ppAnswer_other (hp : s.pp = some p) (hl : ppLate s p = false) (ho : p.off ≠ off) : ppAnswer off v s = discardPp 6 p v s := by
  unfold ppAnswer
  rw [ppExpire_early hp hl]
  dsimp only
  rw [hp]
  exact if_pos ho

theorem ppAnswer_wrong (hp : s.pp = some p) (hl : ppLate s p = false) (ho : p.off = off) (hv : v ≠ ~~~p.val) :
    ppAnswer off v s = discardPp 2 p p.val s := by
  unfold ppAnswer
  rw [ppExpire_early hp hl]
  dsimp only
  rw [hp]
  exact (if_neg fun h => h ho).trans (if_neg hv)

theorem ppAnswer_commits (hp : s.pp = some p) (hl : ppLate s p = false) (ho : p.off = off) (hv : v = ~~~p.val) :
    ppAnswer off v s = ppCommit off p.val { s with pp := none } := by
  unfold ppAnswer
  rw [ppExpire_early hp hl]
  dsimp only
  rw [hp]
  exact (if_neg fun h => h ho).trans (if_pos hv)

/-! ### GLB and EVT, which every state answers -/

theorem inert_aon (hw : a.win = false) (hb : blockOf a.off ≤ 1) : inert s a = false := by
  unfold inert RegAcc.aon
  simp [hw, show blockOf a.off ≤ 2 by omega, hb]

theorem winAcc_at (priv : Bool) (w : Word) (h : off < 0x40000) (h4 : off % 4 = 0) :
    (winAcc priv off w).off = off ∧ (winAcc priv off w).alias_ = 0 := by
  have hb : (winAcc priv off w).byte = off := by
    show 4 * (BitVec.ofNat 18 (off / 4)).toNat = off
    rw [BitVec.toNat_ofNat]
    omega
  constructor
  · show (winAcc priv off w).byte % 0x40000 = off
    omega
  · show (winAcc priv off w).byte / 0x40000 = 0
    omega

theorem lockCompanion_wakes (w : Word) : (winAcc true (0x20 + 4) w).wakes = false := by
  obtain ⟨ho, -⟩ := winAcc_at true w (off := 0x20 + 4) (by decide) (by decide)
  unfold RegAcc.wakes RegAcc.aon RegAcc.isPp
  rw [ho]
  rfl

/-! ### The write of a companion -/

/-- The companion write of a protected register that has the row's value pending commits it, in every state in which the port
takes the write. -/
theorem confirmRow_commits (hp : s.pp = some p) (hl : ppLate s p = false) (ho : p.off = off) (hown : own p.val = true)
    (hoff : (winAcc true (off + 4) (~~~p.val)).off = off + 4) (hal : (winAcc true (off + 4) (~~~p.val)).alias_ = 0)
    (hk : kindAt (off + 4) .ppc = true) (hr : portReady s = true)
    (hd : (s.glb.ctl = .dormant && (winAcc true (off + 4) (~~~p.val)).wakes) = false)
    (hi : inert s (winAcc true (off + 4) (~~~p.val)) = false) :
    confirmRow off own true (~~~p.val) (begin_ s) = respOk 0 (ppCommit off p.val { begin_ s with pp := none }) := by
  have hrow : ¬ ((begin_ s).pp.any fun q => decide (q.off = off ∧ ~~~p.val = ~~~q.val) && !own q.val) = true := by
    rw [show (begin_ s).pp = some p from hp]
    simp [hown]
  unfold confirmRow
  rw [if_neg hrow, portWrite_takes hr rfl hd hi, hoff, hal, regWrite_ppc hk]
  exact congrArg (respOk 0) (ppAnswer_commits (s := begin_ s) hp hl ho rfl)

theorem ppConfirm_writes (hrow : (s.pp.any fun p => decide (p.off + 4 = a.off ∧ a.data = ~~~p.val) && hasRow p.off p.val) = false)
    (h : portOpen s a) (hk : kindAt a.off .ppc = true) (ha : a.alias_ = 0) :
    ppConfirm a (begin_ s) = respOk 0 (ppAnswer (a.off - 4) a.data (begin_ s)) := by
  obtain ⟨r, hr, hk⟩ := (Option.any_eq_true _ _).1 hk
  unfold ppConfirm
  rw [if_neg (by rw [show (begin_ s).pp = s.pp from rfl, hrow]; decide), portWrite_open h,
    regWrite_companion hr (of_decide_eq_true hk), ha]
  rfl

theorem companion_above (hk : kindAt off .ppc = true) : 4 ≤ off := by
  have h : ∀ o < 4, kindAt o .ppc = false := by decide +kernel
  by_contra hlt
  rw [h off (by omega)] at hk
  exact absurd hk (by decide)

end Sys2Proof.Machine

namespace Sys2Proof

open Sys2Proof.Machine

variable {s : State} {a : RegAcc} {p : PpPend}

theorem ppWrite_stores (h : portOpen s a) (hk : a.isPp = true) (ha : a.alias_ = 0) :
    completes (.ppWrite a) s fun t => t = respOk 0 (ppStore a.off a.data (begin_ s)) := by
  refine completes_of_run (f := portWrite a) rfl ?_
  rw [portWrite_open h, regWrite_pp (kindAt_pp hk), ha]
  rfl

theorem ppConfirm_answers {P : State → Prop} (h : portOpen s a) (hk : kindAt a.off .ppc = true) (ha : a.alias_ = 0)
    (hrow : (s.pp.any fun p => decide (p.off + 4 = a.off ∧ a.data = ~~~p.val) && hasRow p.off p.val) = false)
    (hp : P (respOk 0 (ppAnswer (a.off - 4) a.data (begin_ s)))) : completes (.ppConfirm a) s P := by
  refine completes_of_run (f := ppConfirm a) rfl ?_
  rw [ppConfirm_writes hrow h hk ha]
  exact hp

theorem kindAt_of_row {off : Nat} {r : RegRow} {k : RegKind} (hr : rowOf off = some r) (hk : r.kind = k) : kindAt off k = true := by
  simp [kindAt, hr, hk]

theorem plainPair_commits (h : portOpen s a) (ha : a.alias_ = 0) (hp : s.pp = some p) (hl : ppLate s p = false)
    (ho : p.off + 4 = a.off) (hplain : p.off ∈ [0x3018, 0x9000, 0x10004, 0x14004]) (hv : a.data = ~~~p.val) :
    completes (.ppConfirm a) s fun t =>
      t.pp = none ∧ t.regs = kset s.regs p.off (p.val &&& maskOf p.off) ∧ t.evt = s.evt ∧ t.out = [.reg 0 0] := by
  have facts : ∀ o ∈ [0x3018, 0x9000, 0x10004, 0x14004], kindAt (o + 4) .ppc = true := by decide +kernel
  have noRow : hasRow p.off p.val = false := by
    simp only [List.mem_cons, List.not_mem_nil, or_false] at hplain
    rcases hplain with e | e | e | e <;> simp [hasRow, e]
  have commit : ∀ u, ppCommit p.off p.val u = regSet p.off (p.val &&& maskOf p.off) u := fun u => by
    simp only [List.mem_cons, List.not_mem_nil, or_false] at hplain
    rcases hplain with e | e | e | e <;> simp [ppCommit, ppAction, e]
  refine ppConfirm_answers h (ho ▸ facts _ hplain) ha (by rw [hp]; simp [noRow]) ?_
  rw [ppAnswer_commits (s := begin_ s) hp hl (by omega) hv, show a.off - 4 = p.off by omega, commit]
  exact ⟨rfl, rfl, rfl, rfl⟩

theorem lockSet_commits {v : Word} (hr : portReady s = true) (hp : s.pp = some p) (ho : p.off = 0x20) (hl : ppLate s p = false)
    (hv : v = ~~~p.val) : completes (.glbLockSet true v) s fun t =>
      t.pp = none ∧ t.regs = kset s.regs 0x20 (regGet s 0x20 ||| (p.val &&& 0x0003FFFF)) ∧ t.out = [.reg 0 0] := by
  subst hv
  refine completes_of_run (f := confirmRow 0x20 opAny true (~~~p.val)) rfl ?_
  obtain ⟨hoff, hal⟩ := winAcc_at true (~~~p.val) (off := 0x20 + 4) (by decide) (by decide)
  rw [confirmRow_commits hp hl ho rfl hoff hal (by decide) hr ((Bool.and_eq_false_iff).2 (.inr (lockCompanion_wakes _)))
    (inert_aon rfl (by rw [hoff]; decide))]
  exact ⟨rfl, rfl, rfl⟩

/-- Settles O11. -/
theorem protectedPairRules : Obligations.ProtectedPairRules := by
  refine ⟨fun s a h hk ha hl hp => ?_, fun s a h hk ha hl hp => ?_, fun s a p h hk ha hl hp ht ho => ?_, fun s p hp => ?_,
    fun s a r h hr hk ha hp => ?_, fun s a r p h hr hk ha hp hl ho => ?_, fun s a r p h hr hk ha hp hl ho hv => ?_,
    fun s a p h ha hp hl ho hm hv => plainPair_commits h ha hp hl ho hm hv,
    fun s v p hr hp ho hl hv => lockSet_commits hr hp ho hl hv⟩
  · refine (ppWrite_stores h hk ha).imp fun t ht => ?_
    rw [ht, ppStore_pends (s := begin_ s) hp hl]
    exact ⟨rfl, rfl, rfl, rfl⟩
  · refine (ppWrite_stores h hk ha).imp fun t ht => ?_
    rw [ht, ppStore_locked (s := begin_ s) hp hl]
    exact (protectFault_faulted 4 _ _ hp).answered
  · refine (ppWrite_stores h hk ha).imp fun t e => ?_
    rw [e, ppStore_supersedes (s := begin_ s) hp ht ho hl]
    exact ⟨rfl, (discardPp_faulted 5 p _ s).2.1⟩
  · refine completes_of_run (f := ppWindowExpiry) rfl ?_
    unfold ppWindowExpiry
    rw [show (begin_ s).pp = some p from hp]
    exact ⟨(discardPp_faulted 1 p _ s).1, (discardPp_faulted 1 p _ s).2.1⟩
  · refine ppConfirm_answers h (kindAt_of_row hr hk) ha (by rw [hp]; rfl) ?_
    rw [ppAnswer_none (s := begin_ s) hp]
    exact (protectFault_faulted 3 _ _ hp).answered
  · have hab := companion_above (kindAt_of_row hr hk)
    refine ppConfirm_answers h (kindAt_of_row hr hk) ha (by rw [hp]; simp [ho]) ?_
    rw [ppAnswer_other (s := begin_ s) hp hl (by omega)]
    exact (discardPp_faulted 6 p _ s).answered
  · refine ppConfirm_answers h (kindAt_of_row hr hk) ha (by rw [hp]; simp [hv]) ?_
    rw [ppAnswer_wrong (s := begin_ s) hp hl (by omega) hv]
    exact (discardPp_faulted 2 p _ s).answered

end Sys2Proof
end

section
/-! SUPPORT. Fields of words: a field is its bits. -/

namespace Sys2Proof.Machine

variable {v w m : Word} {hi lo n : Nat}

theorem fld_testBit (w : Word) (hi lo i : Nat) : (fld w hi lo).testBit i = (decide (i < hi + 1 - lo) && w.getLsbD (lo + i)) := by
  unfold fld
  rw [Nat.testBit_mod_two_pow, Nat.testBit_div_two_pow, Nat.add_comm i]
  rfl

theorem fld_congr (h : ∀ i, lo ≤ i → i ≤ hi → v.getLsbD i = w.getLsbD i) : fld v hi lo = fld w hi lo := by
  apply Nat.eq_of_testBit_eq
  intro i
  rw [fld_testBit, fld_testBit]
  by_cases hlt : i < hi + 1 - lo
  · rw [h (lo + i) (by omega) (by omega)]
  · simp only [hlt, decide_false, Bool.false_and]

/-- A field is the number whose bits it holds. -/
theorem fld_eq (hn : n < 2 ^ (hi + 1 - lo)) (h : ∀ i, lo ≤ i → i ≤ hi → w.getLsbD i = n.testBit (i - lo)) : fld w hi lo = n := by
  apply Nat.eq_of_testBit_eq
  intro i
  rw [fld_testBit]
  by_cases hlt : i < hi + 1 - lo
  · rw [h (lo + i) (by omega) (by omega), Nat.add_sub_cancel_left, decide_eq_true hlt, Bool.true_and]
  · rw [decide_eq_false hlt, Bool.false_and]
    exact (Nat.testBit_lt_two_pow (lt_of_lt_of_le hn (Nat.pow_le_pow_right (by omega) (by omega)))).symm

theorem fld_ofNat (hn : n < 2 ^ (hi + 1)) (h32 : hi < 32) : fld (BitVec.ofNat 32 n) hi 0 = n :=
  fld_eq hn fun i _ hi' => by rw [BitVec.getLsbD_ofNat, decide_eq_true (by omega), Bool.true_and, Nat.sub_zero]

theorem stored_bit_in {i : Nat} (hm : m.getLsbD i = true) : ((v &&& ~~~m) ||| (w &&& m)).getLsbD i = w.getLsbD i := by
  simp only [BitVec.getLsbD_or, BitVec.getLsbD_and, BitVec.getLsbD_not, hm, Bool.not_true, Bool.and_false, Bool.and_true,
    Bool.false_or]

theorem stored_bit_out {i : Nat} (hi : i < 32) (hm : m.getLsbD i = false) :
    ((v &&& ~~~m) ||| (w &&& m)).getLsbD i = v.getLsbD i := by
  simp only [BitVec.getLsbD_or, BitVec.getLsbD_and, BitVec.getLsbD_not, hm, hi, decide_true, Bool.not_false, Bool.and_false,
    Bool.and_true, Bool.or_false]

/-- A field that the mask of a store covers is that of the value stored. -/
theorem fld_stored (hm : ∀ i ≤ hi, lo ≤ i → m.getLsbD i = true) : fld ((v &&& ~~~m) ||| (w &&& m)) hi lo = fld w hi lo :=
  fld_congr fun i hlo hhi => stored_bit_in (hm i hhi hlo)

theorem stored_and (v w m : Word) : ((v &&& ~~~m) ||| (w &&& m)) &&& m = w &&& m := by
  apply BitVec.eq_of_getLsbD_eq
  intro i _
  simp only [BitVec.getLsbD_and, BitVec.getLsbD_or, BitVec.getLsbD_not]
  cases m.getLsbD i <;> simp

/-- The mask of a field. -/
theorem fieldMask_bit (h : lo ≤ hi) (h32 : hi < 32) (i : Nat) :
    (BitVec.ofNat 32 (2 ^ (hi + 1) - 2 ^ lo)).getLsbD i = decide (lo ≤ i ∧ i ≤ hi) := by
  have e : 2 ^ (hi + 1) - 2 ^ lo = 2 ^ lo * (2 ^ (hi + 1 - lo) - 1) := by
    rw [Nat.mul_sub, ← Nat.pow_add, Nat.mul_one]
    congr 2
    omega
  rw [BitVec.getLsbD_ofNat, e, Nat.testBit_two_pow_mul, Nat.testBit_two_pow_sub_one, ← Bool.decide_and, ← Bool.decide_and]
  exact decide_eq_decide.2 (by omega)

variable {s : State} {off : Nat}

/-- A field that regPut has put. -/
theorem regFld_regPut_same (h : lo ≤ hi) (h32 : hi < 32) (hn : n < 2 ^ (hi + 1 - lo)) (off : Nat) (s : State) :
    regFld (regPut off hi lo n s) off hi lo = n := by
  unfold regFld regPut
  dsimp only
  rw [regGet_regSet_same]
  refine fld_eq hn fun i hlo hhi => ?_
  rw [stored_bit_in (by rw [fieldMask_bit h h32]; simp [hlo, hhi]), BitVec.getLsbD_shiftLeft, BitVec.getLsbD_ofNat]
  simp [show i < 32 by omega, show ¬ i < lo by omega, show i - lo < 32 by omega]

/-- A bit outside the field that regPut puts. -/
theorem bitOf_regPut_out (h : lo ≤ hi) (h32 : hi < 32) (off v : Nat) (s : State) {i : Nat} (hi32 : i < 32) (ho : i < lo ∨ hi < i) :
    bitOf (regGet (regPut off hi lo v s) off) i = bitOf (regGet s off) i := by
  unfold regPut
  dsimp only
  rw [regGet_regSet_same]
  exact stored_bit_out hi32 (by rw [fieldMask_bit h h32]; simp; omega)

theorem regFld_regPut_out (h : lo ≤ hi) (h32 : hi < 32) (off v : Nat) (s : State) {hi' lo' : Nat} (h32' : hi' < 32)
    (ho : hi' < lo ∨ hi < lo') : regFld (regPut off hi lo v s) off hi' lo' = regFld s off hi' lo' :=
  fld_congr fun i hlo hhi => bitOf_regPut_out h h32 off v s (by omega) (by omega)

/-- The number that a 64-bit pair of registers holds. -/
theorem regGet64_regSet64 (off n : Nat) (s : State) : regGet64 (regSet64 off n s) off = n % 2 ^ 64 := by
  unfold regGet64 regSet64
  rw [regGet_regSet_other _ _ (by omega), regGet_regSet_same, regGet_regSet_same, BitVec.toNat_ofNat, BitVec.toNat_ofNat]
  omega

theorem regGet_regSet64_other (n : Nat) (s : State) {o p : Nat} (h : p ≠ o) (h' : p ≠ o + 4) :
    regGet (regSet64 o n s) p = regGet s p := by
  unfold regSet64
  rw [regGet_regSet_other _ _ h', regGet_regSet_other _ _ h]

end Sys2Proof.Machine
end

section
/-! The event queue on the register port (R49, R50, R506 to R514). -/

namespace Sys2Proof.Machine

variable {s t : State} {r : ChainRec} {w : Stage} {ws : List Stage} {rest : List ChainRec}

/-! ### An access that the port takes -/

theorem onPort_open (hp : portReady s = true) (f : State → State) : onPort true f (begin_ s) = f (begin_ s) := by
  unfold onPort
  rw [show portReady (begin_ s) = true from hp]
  rfl

theorem imagePort_applied (ha : s.img.applied = true) (f : State → State) : imagePort f s = f s := if_pos ha

theorem imagePort_before (ha : s.img.applied = false) (f : State → State) : imagePort f s = respOk 0 s :=
  if_neg (by rw [ha]; decide)

theorem portRead_open (hp : portReady s = true) (ha : s.img.applied = true) (f : State → Word × State) :
    portRead true f (begin_ s) = respOk (f (begin_ s)).1 (f (begin_ s)).2 := by
  unfold portRead
  rw [show portReady (begin_ s) = true from hp]
  exact imagePort_applied (s := begin_ s) ha fun s => respOk (f s).1 (f s).2

/-! ### Parity errors -/

theorem parityErrors_zero (s : State) : parityErrors 0 s = s := rfl

theorem parityErrors_one (s : State) : parityErrors 1 s = sqSet rEvtStatus 0x4 (bump rEvtParity s) := rfl

theorem parityErrors_evt (n : Nat) (s : State) : (parityErrors n s).evt = s.evt ∧ (parityErrors n s).out = s.out := by
  unfold parityErrors forAll
  refine List.foldlRecOn (motive := fun t : State => t.evt = s.evt ∧ t.out = s.out) _ _ ⟨rfl, rfl⟩ fun t h _ _ => h

theorem newlyBad_sound (l : List Stage) (h : ∀ w ∈ l, w.fails = false) : newlyBad l = 0 := by
  unfold newlyBad
  exact List.countP_eq_zero.2 fun w hw => by simp [h w hw]

theorem checked_sound (h : w.fails = false) : w.checked = w := by
  unfold Stage.checked
  rw [h, Bool.or_false]

theorem upset_zero (w : Stage) : w.upset 0 = w := by simp [Stage.upset]

theorem stageOf_sound (w : Word) : (Stage.of w).fails = false := by simp [Stage.fails, Stage.of]

/-! ### Reading a word -/

theorem evtDataRead_empty (u : BitVec 33) (hc : s.evt.chain = []) : evtDataRead u s = respOk 0 s := by
  unfold evtDataRead headWord
  simp only [hc, List.head?_nil, Option.bind_none]

theorem evtDataRead_word (u : BitVec 33) (hc : s.evt.chain = r :: rest) (hw : r.words = w :: ws) :
    evtDataRead u s = emit (.reg (if (w.upset u).checked.bad then 2 else 0) (w.upset u).word)
      (parityErrors (newlyBad [w.upset u]) (updEvt (fun e => { e with chain := popWord e.chain }) s)) := by
  unfold evtDataRead headWord
  simp only [hc, hw, List.head?_cons, Option.bind_some]

/-- The chain after its head word has been read: an emptied record is gone. -/
theorem popWord_cons (hw : r.words = w :: ws) :
    popWord (r :: rest) = if ws = [] then rest else { r with words := ws, begun := true } :: rest := by
  simp only [popWord, hw]
  cases ws <;> simp

theorem popWord_words (hw : r.words = w :: ws) :
    (popWord (r :: rest)).flatMap (·.words) = ws ++ rest.flatMap (·.words) := by
  rw [popWord_cons hw]
  split
  · next h => rw [h]; rfl
  · rfl

/-- What a read of the chain answers and leaves. -/
theorem evtDataRead_reads (u : BitVec 33) (hc : s.evt.chain = r :: rest) (hw : r.words = w :: ws) :
    (evtDataRead u (begin_ s)).out = [.reg (if w.bad ∨ (w.upset u).fails then 2 else 0) (w.upset u).word]
      ∧ (evtDataRead u (begin_ s)).evt = { s.evt with chain := popWord (r :: rest) } := by
  rw [evtDataRead_word (s := begin_ s) u hc hw]
  obtain ⟨hevt, hout⟩ := parityErrors_evt (newlyBad [w.upset u]) (updEvt (fun e => { e with chain := popWord e.chain }) (begin_ s))
  have hbad : (w.upset u).checked.bad = true ↔ w.bad = true ∨ (w.upset u).fails = true := by
    rw [show (w.upset u).checked.bad = (w.bad || (w.upset u).fails) from rfl, Bool.or_eq_true]
  constructor
  · show (parityErrors _ _).out ++ _ = _
    rw [hout]
    simp only [hbad]
    rfl
  · exact hevt.trans (by rw [← hc]; rfl)

/-! ### Flush, chain writes and the delay -/

theorem checkChain_sound (h : ∀ c ∈ s.evt.chain, ∀ w ∈ c.words, w.fails = false) : checkChain s = s := by
  have hstages : newlyBad (chainStages s.evt.chain) = 0 := newlyBad_sound _ fun w hw => by
    obtain ⟨c, hc, hw⟩ := List.mem_flatMap.1 hw
    exact h c hc w hw
  have hmap : (s.evt.chain.map fun r => { r with words := r.words.map Stage.checked }) = s.evt.chain := by
    refine (List.map_congr_left fun c hc => ?_).trans (List.map_id _)
    rw [show c.words.map Stage.checked = c.words from
      (List.map_congr_left fun w hw => checked_sound (h c hc w hw)).trans (List.map_id _)]
    rfl
  unfold checkChain
  rw [hstages, parityErrors_zero]
  unfold updEvt
  dsimp only
  rw [hmap]

/-- The record as the chain holds it. -/
def chained (s : State) (r : Rec) : ChainRec :=
  ⟨r.words.map Stage.of, r.sev, BitVec.ofNat 16 (fld (r.words.headD 0) 15 0), false, false, s.glb.now, 0⟩

theorem takeRec_moves {r : Rec} (hp : s.evt.pend = none) (hd : r.drops = none) (hroom : r.words.length + 4 ≤ chainFree s) :
    takeRec r s = sqSet rEvtStatus 0x1 { s with evt := { s.evt with buf := s.evt.buf.drop 1, chain := s.evt.chain ++ [chained s r] } } := by
  have hroom' : r.words.length + 4 ≤ chainFree (updEvt (fun e => { e with buf := e.buf.drop 1 }) s) := hroom
  unfold takeRec
  dsimp only
  rw [show (updEvt (fun e => { e with buf := e.buf.drop 1 }) s).evt.pend = none from hp]
  simp only [if_pos hroom', hd]
  rfl

theorem evtChainTake_first {r : Rec} {rest : List Rec} (hp : s.evt.pend = none) (hb : s.evt.buf = r :: rest) :
    evtChainTake [] s = checkChain (takeRec r s) := by
  unfold evtChainTake
  rw [show forAll ([] : List (Nat × BitVec 33))
    (fun u s => updEvt (fun e => { e with chain := modStage (Stage.upset u.2) u.1 e.chain }) s) s = s from rfl]
  simp only [hp, hb]

theorem evtIrqDelay_waits (hc : s.evt.chain = r :: rest) : evtIrqDelay s =
    { s with evt := { s.evt with chain := { r with waited := max r.waited (regFld s 0x2000 15 0) } :: rest } } := by
  unfold evtIrqDelay updEvt
  simp only [hc]
  rfl

/-! ### The snapshot -/

theorem domSnapRead_word {w : Word} {ws : List Word} (hs : s.dom.snap = w :: ws) :
    (domSnapRead s).out = s.out ++ [.reg 0 w]
      ∧ (domSnapRead s).dom.snap = (if ws = [] then (s.dom.snapHeld.map snapWords).getD [] else ws)
      ∧ (domSnapRead s).dom.snapHeld = if ws = [] then none else s.dom.snapHeld := by
  unfold domSnapRead
  simp only [hs]
  split
  · next h =>
    subst h
    cases hh : s.dom.snapHeld with
    | none => simp [respOk, emit, updDom, hh]
    | some g => simp [respOk, emit, updDom, hh]
  · exact ⟨rfl, rfl, rfl⟩

theorem domSnapRead_empty (hs : s.dom.snap = []) : domSnapRead s = respOk 0 s := by
  unfold domSnapRead
  simp only [hs]

/-! ### Completion records (R465, R469) -/

theorem instOf_updInst_same (i : InstId) (f : Inst → Inst) (s : State) : instOf (updInst i f s) i = f (instOf s i) :=
  vget_vmod_same _ _ _

theorem putRecord_inst (i : InstId) (d : Desc) (st : Fin 16) (ws : List Word) (s : State) :
    ∃ r, instOf (putRecord i d st ws s) i = { instOf s i with cpl := (instOf s i).cpl ++ [r] } :=
  ⟨_, instOf_updInst_same i _ s⟩

/-- Aborted descriptors only add records behind those that wait. -/
theorem flushDead_behind (i : InstId) (s : State) :
    (instOf s i).cpl <+: (instOf (flushDead i s) i).cpl ∧ (instOf (flushDead i s) i).cplPos = (instOf s i).cplPos := by
  unfold flushDead forAll
  refine List.foldlRecOn (motive := fun t => (instOf s i).cpl <+: (instOf t i).cpl ∧ (instOf t i).cplPos = (instOf s i).cplPos)
    _ _ ⟨List.prefix_refl _, rfl⟩ fun t ⟨hcpl, hpos⟩ _ _ => ?_
  dsimp only
  split
  · next d q _ =>
    split
    · obtain ⟨r, hr⟩ := putRecord_inst i d 2 [0, 0, 0, 0] (updInst i (fun a => { a with queue := q }) t)
      rw [hr, instOf_updInst_same]
      exact ⟨hcpl.trans (List.prefix_append _ _), hpos⟩
    · exact ⟨hcpl, hpos⟩
  · exact ⟨hcpl, hpos⟩

theorem cplData_empty {i : InstId} (hc : (instOf s i).cpl = []) : cplData i s = (0, s) := by
  unfold cplData
  simp only [hc]

theorem cplData_record {i : InstId} {r : Vector Word 6} {rest : List (Vector Word 6)} (hc : (instOf s i).cpl = r :: rest) :
    (cplData i s).1 = r.toList.getD (instOf s i).cplPos 0
      ∧ (cplData i s).2.out = s.out
      ∧ if 5 ≤ (instOf s i).cplPos then (instOf (cplData i s).2 i).cplPos = 0 ∧ rest <+: (instOf (cplData i s).2 i).cpl
        else instOf (cplData i s).2 i = { instOf s i with cplPos := (instOf s i).cplPos + 1 } := by
  by_cases h : 5 ≤ (instOf s i).cplPos
  · simp only [cplData, hc, if_pos h]
    obtain ⟨hcpl, hpos⟩ := flushDead_behind i (updInst i (fun a => { a with cpl := rest, cplPos := 0 }) s)
    rw [instOf_updInst_same] at hcpl hpos
    exact ⟨trivial, out_of_seen (flushDead_keeps (by decide) ..), hpos, hcpl⟩
  · simp only [cplData, hc, if_neg h]
    exact ⟨trivial, rfl, (instOf_updInst_same ..).trans (by rw [← hc])⟩

end Sys2Proof.Machine

namespace Sys2Proof

open Sys2Proof.Machine

variable {s : State} {r : ChainRec} {w : Stage} {ws : List Stage} {rest : List ChainRec} {u : BitVec 33}

theorem read_empty (hp : portReady s = true) (hc : s.evt.chain = []) (u : BitVec 33) :
    completes (.evtDataRead true u) s fun t => t = { s with out := [.reg 0 0], raised := 0 } := by
  refine completes_of_run (f := onPort true (evtDataRead u)) rfl ?_
  rw [onPort_open hp, evtDataRead_empty (s := begin_ s) u hc]
  rfl

theorem read_word (hp : portReady s = true) (hc : s.evt.chain = r :: rest) (hw : r.words = w :: ws) (u : BitVec 33) :
    completes (.evtDataRead true u) s fun t => t = evtDataRead u (begin_ s)
      ∧ t.out = [.reg (if w.bad ∨ (w.upset u).fails then 2 else 0) (w.upset u).word]
      ∧ t.evt = { s.evt with chain := popWord (r :: rest) } := by
  refine completes_of_run (f := onPort true (evtDataRead u)) rfl ?_
  rw [onPort_open hp]
  exact ⟨rfl, evtDataRead_reads u hc hw⟩

theorem read_sound (hp : portReady s = true) (hc : s.evt.chain = r :: rest) (hw : r.words = w :: ws) (hs : w.fails = false) :
    completes (.evtDataRead true 0) s fun t =>
      t.out = [.reg (if w.bad then 2 else 0) w.word]
      ∧ (t.evt.chain = if ws = [] then rest else { r with words := ws, begun := true } :: rest)
      ∧ t.regs = s.regs ∧ t.evt.buf = s.evt.buf := by
  have hnone : newlyBad [w] = 0 := newlyBad_sound _ fun x hx => by rw [List.mem_singleton.1 hx]; exact hs
  refine (read_word hp hc hw 0).imp fun t ⟨he, hout, hevt⟩ => ?_
  rw [upset_zero, hs] at hout
  refine ⟨by simpa using hout, ?_, ?_, by rw [hevt]⟩
  · rw [hevt, popWord_cons hw]
  · rw [he, evtDataRead_word (s := begin_ s) 0 hc hw, upset_zero, hnone]
    rfl

theorem read_failing (hp : portReady s = true) (hc : s.evt.chain = r :: rest) (hw : r.words = w :: ws) (hb : w.bad = false)
    (hf : (w.upset u).fails = true) : completes (.evtDataRead true u) s fun t =>
      t.out = [.reg 2 (w.upset u).word]
      ∧ (t.evt.chain = if ws = [] then rest else { r with words := ws, begun := true } :: rest)
      ∧ regGet t 0x2050 = BitVec.ofNat 32 (min 0xFFFFFFFF ((regGet s 0x2050).toNat + 1))
      ∧ bitOf (regGet t 0x2010) 2 = true := by
  have hone : newlyBad [w.upset u] = 1 := by
    have hb' : (w.upset u).bad = false := hb
    simp [newlyBad, hb', hf]
  refine (read_word hp hc hw u).imp fun t ⟨he, hout, hevt⟩ => ?_
  rw [hf] at hout
  have hregs : ∀ o, regGet t o = regGet (sqSet rEvtStatus 0x4 (bump rEvtParity s)) o := by
    rw [he, evtDataRead_word (s := begin_ s) u hc hw, hone, parityErrors_one]
    exact fun _ => rfl
  refine ⟨by simpa using hout, by rw [hevt, popWord_cons hw], ?_, ?_⟩
  · rw [hregs, regGet_sqSet_other _ _ (by decide), rEvtParity, regGet_bump_same, sat_eq_min]
  · rw [hregs, rEvtStatus, regGet_sqSet_same, sqWord_bit _ _ (by decide)]
    exact Bool.or_eq_true_iff.2 (.inr (by decide))

theorem flush_discards {v : Word} (hp : portReady s = true) (hv : bitOf v 0 = true) : completes (.evtFlush true v) s fun t =>
    t.evt.chain = []
    ∧ regGet t 0x204C = BitVec.ofNat 32 (min 0xFFFFFFFF ((regGet s 0x204C).toNat + s.evt.chain.length))
    ∧ t.out = [.reg 0 0] := by
  refine completes_of_run (f := onPort true fun s => respOk 0 (onlyIf (bitOf v 0) evtFlush s)) rfl ?_
  rw [onPort_open hp, hv, onlyIf, if_pos rfl]
  refine ⟨rfl, ?_, rfl⟩
  show regGet (evtFlush (begin_ s)) 0x204C = _
  rw [evtFlush, regGet_sqSet_other _ _ (by decide), rEvtFlushed, bumpBy, regGet_regSet_same, sat_eq_min]
  rfl

theorem chain_takes {r : Rec} {rest : List Rec} (hp : s.evt.pend = none) (hb : s.evt.buf = r :: rest) (hd : r.drops = none)
    (hroom : r.words.length + 4 ≤ chainFree s) (hs : ∀ c ∈ s.evt.chain, ∀ w ∈ c.words, w.fails = false) :
    completes (.evtChainTake []) s fun t =>
      t.evt.buf = rest
      ∧ t.evt.chain = s.evt.chain ++ [⟨r.words.map Stage.of, r.sev, BitVec.ofNat 16 (fld (r.words.headD 0) 15 0), false, false, s.glb.now, 0⟩]
      ∧ bitOf (regGet t 0x2010) 0 = true := by
  refine completes_of_run (f := evtChainTake []) rfl ?_
  rw [evtChainTake_first (s := begin_ s) hp hb, takeRec_moves (s := begin_ s) hp hd hroom, checkChain_sound]
  · refine ⟨congrArg (List.drop 1) hb, rfl, ?_⟩
    rw [rEvtStatus, regGet_sqSet_same, sqWord_bit _ _ (by decide)]
    exact Bool.or_eq_true_iff.2 (.inr (by decide))
  · intro c hc w hw
    rcases List.mem_append.1 hc with hc | hc
    · exact hs c hc w hw
    · rw [List.mem_singleton.1 hc] at hw
      obtain ⟨x, -, rfl⟩ := List.mem_map.1 hw
      exact stageOf_sound x

theorem delay_passes (hc : s.evt.chain = r :: rest) (hd : regFld s 0x2000 15 0 ≠ 0) : completes .evtIrqDelayExpiry s fun t =>
    t.evt = { s.evt with chain := { r with waited := max r.waited (regFld s 0x2000 15 0) } :: rest }
    ∧ irqDelayed t = true ∧ t.regs = s.regs := by
  refine completes_of_run (f := evtIrqDelay) rfl ?_
  rw [evtIrqDelay_waits (s := begin_ s) hc]
  refine ⟨rfl, ?_, rfl⟩
  refine Bool.and_eq_true_iff.2 ⟨decide_eq_true hd, ?_⟩
  exact (Option.any_some ..).trans (decide_eq_true (.inl (le_max_right ..)))

theorem snap_word {w : Word} {ws : List Word} (hp : portReady s = true) (ha : s.img.applied = true) (hs : s.dom.snap = w :: ws) :
    completes (.domSnapDataRead true) s fun t =>
      t.out = [.reg 0 w]
      ∧ (t.dom.snap = if ws = [] then (s.dom.snapHeld.map snapWords).getD [] else ws)
      ∧ (t.dom.snapHeld = if ws = [] then none else s.dom.snapHeld) := by
  refine completes_of_run (f := onPort true (imagePort domSnapRead)) rfl ?_
  rw [onPort_open hp, imagePort_applied (s := begin_ s) ha]
  exact domSnapRead_word (s := begin_ s) hs

theorem snap_empty (hp : portReady s = true) (ha : s.img.applied = true) (hs : s.dom.snap = []) :
    completes (.domSnapDataRead true) s fun t => t = { s with out := [.reg 0 0], raised := 0 } := by
  refine completes_of_run (f := onPort true (imagePort domSnapRead)) rfl ?_
  rw [onPort_open hp, imagePort_applied (s := begin_ s) ha, domSnapRead_empty (s := begin_ s) hs]
  rfl

theorem snap_reads (hp : portReady s = true) (ha : s.img.applied = true) : completes (.domSnapDataRead true) s fun t =>
    t.out = [.reg 0 (s.dom.snap.headD 0)]
    ∧ (t.dom.snap = if s.dom.snap.length = 1 ∧ s.dom.snapHeld.isSome then (s.dom.snapHeld.map snapWords).getD []
      else s.dom.snap.drop 1) := by
  cases hs : s.dom.snap with
  | nil => exact (snap_empty hp ha hs).imp fun t ht => by rw [ht]; exact ⟨rfl, by simp [hs]⟩
  | cons w ws =>
    refine (snap_word hp ha hs).imp fun t ⟨hout, hsnap, _⟩ => ⟨hout, hsnap.trans ?_⟩
    cases ws <;> cases s.dom.snapHeld <;> simp

theorem cpl_record {i : InstId} {priv : Bool} {r : Vector Word 6} {rest : List (Vector Word 6)} (hp : portReady s = true)
    (ha : s.img.applied = true) (hi : (!isMgr i || priv) = true) (hc : (instOf s i).cpl = r :: rest) :
    completes (.glgICplDataRead i priv) s fun t =>
      t.out = [.reg 0 (r.toList.getD (instOf s i).cplPos 0)]
      ∧ (if 5 ≤ (instOf s i).cplPos then (instOf t i).cplPos = 0 ∧ rest <+: (instOf t i).cpl
      else instOf t i = { instOf s i with cplPos := (instOf s i).cplPos + 1 }) := by
  refine completes_of_run (f := portRead (!isMgr i || priv) (cplData i)) rfl ?_
  obtain ⟨hword, hout, hinst⟩ := cplData_record (s := begin_ s) hc
  rw [hi, portRead_open hp ha]
  refine ⟨?_, hinst⟩
  show (cplData i (begin_ s)).2.out ++ _ = _
  rw [hout, hword]
  rfl

theorem cpl_empty {i : InstId} {priv : Bool} (hp : portReady s = true) (ha : s.img.applied = true)
    (hi : (!isMgr i || priv) = true) (hc : (instOf s i).cpl = []) :
    completes (.glgICplDataRead i priv) s fun t => t = { s with out := [.reg 0 0], raised := 0 } := by
  refine completes_of_run (f := portRead (!isMgr i || priv) (cplData i)) rfl ?_
  rw [hi, portRead_open hp ha, cplData_empty (s := begin_ s) hc]
  rfl

/-- Settles O13. -/
theorem eventPort : Obligations.EventPort :=
  ⟨fun _ u hp hc => read_empty hp hc u, fun _ _ _ _ _ => read_sound, fun _ _ _ _ _ _ => read_failing, fun _ _ => flush_discards,
    fun _ _ _ => chain_takes, fun _ _ _ => delay_passes, fun _ => snap_reads⟩

/-- Settles O48. -/
theorem queueDataPorts : Obligations.QueueDataPorts := by
  refine ⟨fun s u r w ws rest hp hc hw => ?_, fun _ u hp hc => read_empty hp hc u, fun _ _ _ => snap_word, fun _ => snap_empty,
    fun _ _ _ _ _ => cpl_record, fun _ _ _ => cpl_empty⟩
  refine (read_word hp hc hw u).imp fun t ⟨_, hout, hevt⟩ => ⟨hout, ?_⟩
  rw [hevt]
  exact popWord_words hw

end Sys2Proof
end

section
/-! Index registers, indexed ports and probes (R48, R51, R184, R328, R363, R464). -/

namespace Sys2Proof.Machine

variable {s t : State} {off : Nat} {w : Word}

/-! ### A write of the window itself -/

/-- What the register at `off` holds after a write of w: its reserved bits stay (R37). -/
def fieldsPut (off : Nat) (v w : Word) : Word := (v &&& ~~~maskOf off) ||| (w &&& maskOf off)

theorem winWrite_open (h : off < 0x40000) (h4 : off % 4 = 0) (hp : portOpen s (winAcc true off w)) :
    portWrite (winAcc true off w) (begin_ s) = respOk 0 (regWrite off 0 w (begin_ s)) := by
  obtain ⟨hoff, hal⟩ := winAcc_at true w h h4
  rw [portWrite_open hp, hoff, hal]
  rfl

theorem rwStore_low {r : RegRow} (hr : rowOf off = some r) (ho : off < 0x30800) :
    rwStore r off 0 w s = afterStore off (regSet off (fieldsPut off (regGet s off) w) s) := by
  rw [rwStore_unlocked (puLocked_below ho), fieldsPut, show maskOf off = r.mask by unfold maskOf; rw [hr], stored, aliased_eq]
  rfl

/-- A starting register takes its value and starts what it starts. -/
theorem regWrite_starts (hk : kindAt off .rw = true ∨ kindAt off .wd = true) (ho : off < 0x30800) (w : Word) (s : State) :
    regWrite off 0 w s = afterStore off (regSet off (fieldsPut off (regGet s off) w) s) := by
  rcases hk with hk | hk
  · obtain ⟨r, hr, hk⟩ := (Option.any_eq_true _ _).1 hk
    rw [regWrite_plain hr (of_decide_eq_true hk), rwStore_low hr ho]
  · obtain ⟨r, hr, hk⟩ := (Option.any_eq_true _ _).1 hk
    rw [regWrite_half hr (of_decide_eq_true hk), ← rwStore_low hr ho]
    rfl

/-! ### The ports -/

theorem llRead_word (h : regFld s 0x20044 8 0 < 272) :
    llRead s = regPut 0x20044 8 0 (regFld s 0x20044 8 0 + 1) (respOk (s.phy.llBuf.getD (regFld s 0x20044 8 0) 0) s) := by
  unfold llRead
  exact if_neg (by omega)

theorem llRead_end (h : ¬ regFld s 0x20044 8 0 < 272) : llRead s = respOk 0 s := by
  unfold llRead
  exact if_pos (by omega)

theorem rplData_word (h : regFld s 0x140B0 9 0 < 512) : rplData s =
    (if regFld s 0x140B0 9 0 % 2 = 0 then (s.ras.rpl.getD (regFld s 0x140B0 9 0 / 2) (0, 0)).1
      else (s.ras.rpl.getD (regFld s 0x140B0 9 0 / 2) (0, 0)).2,
    regSet 0x140B0 (BitVec.ofNat 32 (regFld s 0x140B0 9 0 + 1)) s) := by
  unfold rplData
  exact if_neg (by omega)

theorem rplData_end (h : ¬ regFld s 0x140B0 9 0 < 512) : rplData s = (0, s) := by
  unfold rplData
  exact if_pos (by omega)

theorem qptData_read (h : regFld s 0xA000 4 0 < 16) : qptData none s =
    (qptWord s (regFld s 0xA004 11 0) (regFld s 0xA000 4 0), regSet 0xA000 (BitVec.ofNat 32 (regFld s 0xA000 4 0 + 1)) s) := by
  unfold qptData
  exact if_neg (by omega)

theorem qptData_write (w : Word) (h : regFld s 0xA000 4 0 < 16) : qptData (some w) s =
    (0, updQos (fun q => { q with staging := q.staging.setIfInBounds (regFld s 0xA000 4 0) (w &&& qptMask (regFld s 0xA000 4 0)) })
      (regSet 0xA000 (BitVec.ofNat 32 (regFld s 0xA000 4 0 + 1)) s)) := by
  unfold qptData
  exact if_neg (by omega)

theorem qptData_end (w : Option Word) (h : ¬ regFld s 0xA000 4 0 < 16) : qptData w s = (0, s) := by
  unfold qptData
  exact if_pos (by omega)

theorem qptPort_write (w : Word) (s : State) : regWrite 0xA008 0 w s = (qptData (some w) s).2 := by
  rw [regWrite_port (show kindAt 0xA008 .port = true by decide +kernel)]
  rfl

/-- An index that a port has set to the number n. -/
theorem regFld_regSet_ofNat {hi n : Nat} (hn : n < 2 ^ (hi + 1)) (h32 : hi < 32) (off : Nat) (s : State) :
    regFld (regSet off (BitVec.ofNat 32 n) s) off hi 0 = n := by
  unfold regFld
  rw [regGet_regSet_same, fld_ofNat hn h32]

/-! ### The digest probe (R464) -/

/-- The bytes of the probe data. -/
def probeBytes (s : State) : List Byte := (List.range 4).flatMap fun k => wordBytes (regGet s (0x30204 + 4 * k))

/-- The store to GLG_PROBE leaves the CRC set that it names. -/
theorem crcSetOf_regSet (v : Word) (c : Nat) (hc : c < 8) (s : State) : crcSetOf (regSet 0x30200 v s) c = crcSetOf s c := by
  unfold crcSetOf
  dsimp only
  rw [regGet_regSet_other _ _ (by omega)]
  rfl

theorem probeBytes_regSet (v : Word) (s : State) : probeBytes (regSet 0x30200 v s) = probeBytes s := by
  unfold probeBytes
  exact List.flatMap_congr fun k _ => by rw [regGet_regSet_other _ _ (by omega)]

theorem actProbe_eq (v : Word) (s : State) : actProbe v s =
    if (crcSetOf s (fld v 18 16)).width = 0 then regSet64 0x30218 0 (regSet 0x30200 (v &&& 0x0007001F ||| 0xC0000000) s)
    else regSet64 0x30218 (crc (crcSetOf s (fld v 18 16)).param ((probeBytes s).take (min 16 (fld v 4 0))))
      (regSet 0x30200 (v &&& 0x0007001F ||| 0x80000000) s) := rfl

/-- The state bits of GLG_PROBE: done, and that the CRC set has no width. -/
theorem probeBits (v : Word) : (bitOf (v &&& 0x0007001F ||| 0xC0000000) 31 = true ∧ bitOf (v &&& 0x0007001F ||| 0xC0000000) 30 = true)
    ∧ bitOf (v &&& 0x0007001F ||| 0x80000000) 31 = true ∧ bitOf (v &&& 0x0007001F ||| 0x80000000) 30 = false := by
  simp [bitOf]

theorem fld_lt (w : Word) (hi lo : Nat) : fld w hi lo < 2 ^ (hi + 1 - lo) := Nat.mod_lt _ (Nat.two_pow_pos _)

end Sys2Proof.Machine

namespace Sys2Proof

open Sys2Proof.Machine

variable {s : State} {w : Word}

theorem llSel_writes (hp : portOpen s (winAcc true 0x20040 w)) : completes (.phyLlSelWrite true w) s fun t =>
    t.phy.llBuf = kget [] s.phy.lifeline (llKey (chN (fld w 2 2)) (gearN (fld w 1 0)))
    ∧ regGet t 0x20040 = w &&& 7 ∧ regGet t 0x20044 = 0 ∧ t.out = [.reg 0 0] := by
  refine completes_of_run (f := portWrite (winAcc true 0x20040 w)) rfl ?_
  rw [winWrite_open (by decide) rfl hp, regWrite_starts (.inl (by decide +kernel)) (by decide)]
  generalize hv : fieldsPut 0x20040 (regGet (begin_ s) 0x20040) w = v
  have hbits : ∀ hi lo, hi ≤ 2 → fld v hi lo = fld w hi lo := fun hi lo h => by
    rw [← hv]
    refine fld_stored fun i hi' _ => ?_
    have hi2 : i ≤ 2 := hi'.trans h
    interval_cases i <;> rfl
  have hlow : v &&& 7 = w &&& 7 := by rw [← hv]; exact stored_and _ w 7
  rw [show afterStore 0x20040 (regSet 0x20040 v (begin_ s)) = llSelect (regGet (regSet 0x20040 v (begin_ s)) 0x20040)
    (regSet 0x20040 v (begin_ s)) from rfl, regGet_regSet_same]
  refine ⟨?_, ?_, ?_, rfl⟩
  · rw [← hbits 2 2 (by decide), ← hbits 1 0 (by decide)]
    rfl
  · rw [← hlow]
    exact (regGet_regSet_other _ _ (by decide)).trans (regGet_regSet_same ..)
  · exact regGet_regSet_same ..

theorem llData_reads (hp : portReady s = true) (ha : s.img.applied = true) : completes (.phyLlDataRead true) s fun t =>
    if regFld s 0x20044 8 0 < 272
    then t.out = [.reg 0 (s.phy.llBuf.getD (regFld s 0x20044 8 0) 0)] ∧ regFld t 0x20044 8 0 = regFld s 0x20044 8 0 + 1
    else t = { s with out := [.reg 0 0], raised := 0 } := by
  refine completes_of_run (f := onPort true (imagePort llRead)) rfl ?_
  rw [onPort_open hp, imagePort_applied (s := begin_ s) ha]
  split
  · next h =>
    rw [llRead_word (s := begin_ s) h]
    exact ⟨rfl, regFld_regPut_same (by decide) (by decide) (show regFld s 0x20044 8 0 + 1 < 2 ^ 9 by omega) _ _⟩
  · next h =>
    rw [llRead_end (s := begin_ s) h]
    rfl

theorem llData_before (hp : portReady s = true) (ha : s.img.applied = false) : completes (.phyLlDataRead true) s fun t =>
    t = { s with out := [.reg 0 0], raised := 0 } := by
  refine completes_of_run (f := onPort true (imagePort llRead)) rfl ?_
  rw [onPort_open hp, imagePort_before (s := begin_ s) ha]
  rfl

theorem rplData_reads (hp : portReady s = true) (ha : s.img.applied = true) : completes (.rasRplDataRead true) s fun t =>
    if regFld s 0x140B0 9 0 < 512
    then t.out = [.reg 0 (if regFld s 0x140B0 9 0 % 2 = 0 then (s.ras.rpl.getD (regFld s 0x140B0 9 0 / 2) (0, 0)).1
      else (s.ras.rpl.getD (regFld s 0x140B0 9 0 / 2) (0, 0)).2)]
      ∧ regFld t 0x140B0 9 0 = regFld s 0x140B0 9 0 + 1
    else t = { s with out := [.reg 0 0], raised := 0 } := by
  refine completes_of_run (f := portRead true rplData) rfl ?_
  rw [portRead_open hp ha]
  split
  · next h =>
    rw [rplData_word (s := begin_ s) h]
    exact ⟨rfl, regFld_regSet_ofNat (show regFld s 0x140B0 9 0 + 1 < 2 ^ 10 by omega) (by decide) _ _⟩
  · next h =>
    rw [rplData_end (s := begin_ s) h]
    rfl

theorem rdSel_writes (hp : portOpen s (winAcc true 0xA004 w)) : completes (.qptRdSelWrite true w) s fun t =>
    regGet t 0xA004 = (regGet s 0xA004 &&& 0xFFFFF000) ||| (w &&& 0xFFF) ∧ regGet t 0xA000 = 0 ∧ t.out = [.reg 0 0] := by
  refine completes_of_run (f := portWrite (winAcc true 0xA004 w)) rfl ?_
  rw [winWrite_open (by decide) rfl hp, regWrite_starts (.inl (by decide +kernel)) (by decide)]
  exact ⟨(regGet_regSet_other _ _ (by decide)).trans (regGet_regSet_same ..), regGet_regSet_same .., rfl⟩

theorem qptPort_writes (hp : portOpen s (winAcc true 0xA008 w)) : completes (.qptDataAccess ⟨true, some w⟩) s fun t =>
    t.out = [.reg 0 0]
    ∧ (if regFld s 0xA000 4 0 < 16
      then regFld t 0xA000 4 0 = regFld s 0xA000 4 0 + 1
        ∧ t.qos = { s.qos with staging := s.qos.staging.setIfInBounds (regFld s 0xA000 4 0) (w &&& qptMask (regFld s 0xA000 4 0)) }
      else t.qos = s.qos ∧ t.regs = s.regs) := by
  refine completes_of_run (f := portWrite (winAcc true 0xA008 w)) rfl ?_
  rw [winWrite_open (by decide) rfl hp, qptPort_write]
  split
  · next h =>
    rw [qptData_write (s := begin_ s) w h]
    exact ⟨rfl, regFld_regSet_ofNat (show regFld s 0xA000 4 0 + 1 < 2 ^ 5 by omega) (by decide) _ _, rfl⟩
  · next h =>
    rw [qptData_end (s := begin_ s) _ h]
    exact ⟨rfl, rfl, rfl⟩

theorem qptPort_reads (hp : portReady s = true) (ha : s.img.applied = true) : completes (.qptDataAccess ⟨true, none⟩) s fun t =>
    if regFld s 0xA000 4 0 < 16
    then regFld t 0xA000 4 0 = regFld s 0xA000 4 0 + 1
      ∧ t.out = [.reg 0 (qptWord s (regFld s 0xA004 11 0) (regFld s 0xA000 4 0))]
    else t = { s with out := [.reg 0 0], raised := 0 } := by
  refine completes_of_run (f := portRead true (qptData none)) rfl ?_
  rw [portRead_open hp ha]
  split
  · next h =>
    rw [qptData_read (s := begin_ s) h]
    exact ⟨regFld_regSet_ofNat (show regFld s 0xA000 4 0 + 1 < 2 ^ 5 by omega) (by decide) _ _, rfl⟩
  · next h =>
    rw [qptData_end (s := begin_ s) _ h]
    rfl

theorem mapProbe_answers {u : State} (hp : portOpen s (winAcc true 0x12044 w))
    (hu : u = regSet 0x12044 ((regGet s 0x12044 &&& 0x7F000000) ||| (w &&& 0x80FFFFFF)) s) :
    completes (.mapProbe true w) s fun t =>
      t.regs = (regSet 0x12050 (pack [(1, 31),
        ((probeOf u ((regGet u 0x12040).toNat + 2 ^ 32 * fld w 23 0) (bitOf w 31)).2.1, 16),
        ((probeOf u ((regGet u 0x12040).toNat + 2 ^ 32 * fld w 23 0) (bitOf w 31)).1, 0)])
        (regSet64 0x12048 (probeOf u ((regGet u 0x12040).toNat + 2 ^ 32 * fld w 23 0) (bitOf w 31)).2.2 u)).regs
      ∧ t.out = [.reg 0 0] := by
  have hv : regGet u 0x12044 = fieldsPut 0x12044 (regGet s 0x12044) w := by rw [hu]; exact regGet_regSet_same ..
  have haddr : fld (regGet u 0x12044) 23 0 = fld w 23 0 := by
    rw [hv]
    exact fld_stored fun i hi _ => by interval_cases i <;> rfl
  have hback : bitOf (regGet u 0x12044) 31 = bitOf w 31 := by
    rw [hv]
    exact stored_bit_in rfl
  refine completes_of_run (f := portWrite (winAcc true 0x12044 w)) rfl ?_
  rw [winWrite_open (by decide) rfl hp,
    regWrite_starts (.inr (by decide +kernel)) (by decide), ← haddr, ← hback, hu]
  exact ⟨rfl, rfl⟩

theorem glgProbe_answers (hp : portOpen s (winAcc true 0x30200 w)) {c : CrcSet} (hc : c = crcSetOf s (fld w 18 16)) :
    completes (.glgProbe true w) s fun t =>
      t.out = [.reg 0 0] ∧ bitOf (regGet t 0x30200) 31 = true
      ∧ if c.width = 0 then bitOf (regGet t 0x30200) 30 = true ∧ regGet64 t 0x30218 = 0
        else bitOf (regGet t 0x30200) 30 = false ∧ regGet64 t 0x30218
          = crc c.param (((List.range 4).flatMap fun k => wordBytes (regGet s (0x30204 + 4 * k))).take (min 16 (fld w 4 0))) % 2 ^ 64 := by
  refine completes_of_run (f := portWrite (winAcc true 0x30200 w)) rfl ?_
  rw [winWrite_open (by decide) rfl hp,
    regWrite_starts (.inl (by decide +kernel)) (by decide)]
  generalize hv : fieldsPut 0x30200 (regGet (begin_ s) 0x30200) w = v
  have hset : fld v 18 16 = fld w 18 16 := by
    rw [← hv]
    exact fld_stored fun i hi hlo => by interval_cases i <;> rfl
  have hlen : fld v 4 0 = fld w 4 0 := by
    rw [← hv]
    exact fld_stored fun i hi hlo => by interval_cases i <;> rfl
  rw [show afterStore 0x30200 (regSet 0x30200 v (begin_ s)) = actProbe (regGet (regSet 0x30200 v (begin_ s)) 0x30200)
    (regSet 0x30200 v (begin_ s)) from rfl, regGet_regSet_same, actProbe_eq, hset, hlen, crcSetOf_regSet _ _ (fld_lt w 18 16),
    probeBytes_regSet, show crcSetOf (begin_ s) (fld w 18 16) = c from hc.symm]
  obtain ⟨⟨hdone, hnone⟩, hdone', hsome⟩ := probeBits v
  have hstate : ∀ (n : Nat) (x : Word) (u : State), regGet (respOk 0 (regSet64 0x30218 n (regSet 0x30200 x u))) 0x30200 = x :=
    fun n x u => (regGet_regSet64_other _ _ (by decide) (by decide)).trans (regGet_regSet_same ..)
  split
  · exact ⟨rfl, by rw [hstate]; exact hdone, by rw [hstate]; exact hnone, regGet64_regSet64 ..⟩
  · exact ⟨rfl, by rw [hstate]; exact hdone', by rw [hstate]; exact hsome, regGet64_regSet64 ..⟩

/-- Settles O12: the write of an index or probe register is the store of its field bits and what it starts. -/
theorem indexedPortsAndProbe : Obligations.IndexedPortsAndProbe :=
  ⟨fun _ _ => llSel_writes, fun _ => llData_reads, fun _ => llData_before, fun _ => rplData_reads, fun _ _ => rdSel_writes,
    fun _ _ => qptPort_writes, fun _ => qptPort_reads, fun _ _ _ => mapProbe_answers, fun _ _ _ hp hc => glgProbe_answers hp hc⟩

end Sys2Proof
end

section
/-! SUPPORT. The commit of a protected register whose value starts something (R43), and the fields of a packed word. -/

namespace Sys2Proof.Machine

variable {s t : State} {off : Nat} {v w : Word} {own : Word → Bool}

/-- The state in which a confirmed value of the register at `off` starts its work. -/
def taken (off : Nat) (v : Word) (s : State) : State := regSet off (v &&& maskOf off) { begin_ s with pp := none }

theorem regGet_taken {o : Nat} (h : o ≠ off) : regGet (taken off v s) o = regGet s o := regGet_regSet_other _ _ h

theorem not_inert (hs : s.glb.served = true) (hh : s.glb.ctl ≠ .held) (a : RegAcc) : inert s a = false := by
  unfold inert
  simp [hs, hh]

theorem confirmRow_confirmed (h : confirms s off v) (hlow : off + 4 < 0x40000) (h4 : (off + 4) % 4 = 0)
    (hk : kindAt (off + 4) .ppc = true) (hown : own v = true) :
    confirmRow off own true (~~~v) (begin_ s) = respOk 0 (ppCommit off v { begin_ s with pp := none }) := by
  obtain ⟨hr, hserved, hdormant, hheld, hpp⟩ := h
  obtain ⟨p, hp, hpend⟩ := (Option.any_eq_true _ _).1 hpp
  simp only [Bool.and_eq_true, decide_eq_true_eq, Bool.not_eq_true'] at hpend
  obtain ⟨⟨ho, rfl⟩, hl⟩ := hpend
  obtain ⟨hoff, hal⟩ := winAcc_at true (~~~p.val) hlow h4
  exact confirmRow_commits hp hl ho hown hoff hal hk hr (by simp [hdormant]) (not_inert hserved hheld _)

@[simp] theorem regGet_respOk (d : Word) (s : State) (o : Nat) : regGet (respOk d s) o = regGet s o := rfl

@[simp] theorem regFld_respOk (d : Word) (s : State) (o hi lo : Nat) : regFld (respOk d s) o hi lo = fld (regGet s o) hi lo := rfl

@[simp] theorem instOf_respOk (d : Word) (s : State) (i : InstId) : instOf (respOk d s) i = instOf s i := rfl

theorem glg_respOk (d : Word) (s : State) : (respOk d s).glg = s.glg := rfl

theorem oldJobs_respOk (d : Word) (s : State) : oldJobs (respOk d s) = oldJobs s := rfl

/-! ### Fields of a packed word -/

theorem pack_bit (x lo : Nat) (r : List (Nat × Nat)) {k : Nat} (hk : k < 32) :
    (pack ((x, lo) :: r)).getLsbD k = ((decide (lo ≤ k) && x.testBit (k - lo)) || (pack r).getLsbD k) := by
  rw [pack, BitVec.getLsbD_or, BitVec.getLsbD_shiftLeft, BitVec.getLsbD_ofNat]
  by_cases h : lo ≤ k
  · simp [h, hk, show ¬ k < lo by omega, show k - lo < 32 by omega]
  · simp [h, show k < lo by omega]

/-- Above the fields of a packed word there is nothing. -/
theorem pack_bit_above {l : List (Nat × Nat)} {k : Nat} (hk : k < 32) (h : ∀ e ∈ l, e.1 < 2 ^ (k - e.2)) : (pack l).getLsbD k = false := by
  induction l with
  | nil => simp [pack]
  | cons e l ih =>
    obtain ⟨x, lo⟩ := e
    rw [pack_bit _ _ _ hk, ih fun e he => h e (List.mem_cons_of_mem _ he), Nat.testBit_lt_two_pow (h _ List.mem_cons_self)]
    simp

/-- The top field of a packed word. -/
theorem fld_pack {x hi lo : Nat} {l : List (Nat × Nat)} (hx : x < 2 ^ (hi + 1 - lo)) (h32 : hi < 32)
    (h : ∀ e ∈ l, e.1 < 2 ^ (lo - e.2)) : fld (pack ((x, lo) :: l)) hi lo = x := by
  refine fld_eq hx fun k hlo hhi => ?_
  rw [pack_bit _ _ _ (by omega), pack_bit_above (by omega) fun e he =>
    (h e he).trans_le (Nat.pow_le_pow_right (by decide) (by omega)), decide_eq_true hlo, Bool.true_and, Bool.or_false]

end Sys2Proof.Machine
end

section
/-! The manager's mailbox (R471 to R474), the swap of the rule sets (R479) and the re-arming (R478). -/

namespace Sys2Proof.Machine

variable {s t u : State} {i : InstId} {v : Word}

/-! ### The mailbox -/

theorem mbox_confirmed {own : Word → Bool} (h : confirms s 0x30010 v) (hown : own v = true) :
    confirmRow 0x30010 own true (~~~v) (begin_ s) = respOk 0 (actMbox v (taken 0x30010 v s)) :=
  confirmRow_confirmed h (by decide) (by decide) (by decide +kernel) hown

/-- A command whose epoch is current runs. -/
theorem actMbox_runs {op : Nat} (hop : fld v 31 28 = op) (h1 : 1 ≤ op) (h8 : op ≤ 8) (hm : mboxFor u v i) : actMbox v u = mboxRun op i u := by
  obtain ⟨hbusy, hi, he⟩ := hm
  have hi65 : fld v 6 0 < 65 := hi ▸ i.isLt
  have hinst : (⟨fld v 6 0, hi65⟩ : InstId) = i := Fin.ext hi.symm
  unfold actMbox
  dsimp only
  rw [if_neg (by omega), if_neg (by rw [hbusy]; decide), dif_pos hi65, hinst, if_neg (by simpa using he), hop]

/-- A command of another epoch is answered with code 2 and counted. -/
theorem actMbox_stale (h1 : 1 ≤ fld v 31 28) (h8 : fld v 31 28 ≤ 8) (hbusy : u.glg.mboxBusy = false) (hi : i.val = fld v 6 0)
    (he : fld v 23 16 ≠ (instOf u i).epoch.toNat) : actMbox v u = bump 0x30074 (glgStat 0x20 (mboxEnd 2 i u)) := by
  have hi65 : fld v 6 0 < 65 := hi ▸ i.isLt
  have hinst : (⟨fld v 6 0, hi65⟩ : InstId) = i := Fin.ext hi.symm
  unfold actMbox
  dsimp only
  rw [if_neg (by omega), if_neg (by rw [hbusy]; decide), dif_pos hi65, hinst, if_pos he]

theorem actMbox_out (v : Word) (s : State) : (actMbox v s).out = s.out := out_of_seen (actMbox_keeps (by decide) v s)

/-! ### The end of a command -/

/-- GLG_MBOX_RESULT of a command that has ended. -/
def mboxResult (code : Nat) (i : InstId) (s : State) : Word := pack [(code, 28), ((instOf s i).epoch.toNat, 16), (i.val, 0)]

theorem mboxEnd_glg (code : Nat) (i : InstId) (s : State) : (mboxEnd code i s).glg = { s.glg with mboxBusy := false } := by
  unfold mboxEnd onlyIf
  dsimp only
  split <;> rfl

theorem mboxEnd_inst (code : Nat) (i j : InstId) (s : State) : instOf (mboxEnd code i s) j = instOf s j := by
  unfold instOf
  rw [mboxEnd_glg]

theorem mboxEnd_result (code : Nat) (i : InstId) (s : State) : regGet (mboxEnd code i s) 0x30018 = mboxResult code i s := by
  unfold mboxEnd onlyIf
  dsimp only
  split
  · exact (regGet_sqSet_other _ _ (by decide)).trans (regGet_regSet_same ..)
  · exact regGet_regSet_same ..

theorem mboxEnd_other (code : Nat) (i : InstId) (s : State) {o : Nat} (h : o ≠ 0x30018) (h' : o ≠ 0x30000) :
    regGet (mboxEnd code i s) o = regGet s o := by
  unfold mboxEnd onlyIf
  dsimp only
  split
  · exact (regGet_sqSet_other _ _ h').trans (regGet_regSet_other _ _ h)
  · exact regGet_regSet_other _ _ h

/-- A command that has run flags its end. -/
theorem mboxEnd_flag (i : InstId) (s : State) : bitOf (regGet (mboxEnd 0 i s) 0x30000) 0 = true := by
  unfold mboxEnd
  dsimp only
  rw [show ((0 : Nat) == 0) = true from rfl, onlyIf, if_pos rfl, glgStat, regGet_sqSet_same, sqWord_bit _ _ (by decide)]
  exact Bool.or_true _

theorem mboxResult_fields (i : InstId) (s : State) : ∀ e ∈ [((instOf s i).epoch.toNat, 16), (i.val, 0)], e.1 < 2 ^ (28 - e.2) := by
  have he : (instOf s i).epoch.toNat < 2 ^ 12 := (instOf s i).epoch.isLt.trans (by decide)
  have hi : i.val < 2 ^ 28 := i.isLt.trans (by decide)
  simpa using ⟨he, hi⟩

theorem mboxResult_code {code : Nat} (h : code < 16) (i : InstId) (s : State) : fld (mboxResult code i s) 31 28 = code :=
  fld_pack h (by decide) (mboxResult_fields i s)

theorem mboxResult_code3 {code : Nat} (h : code < 8) (i : InstId) (s : State) : fld (mboxResult code i s) 30 28 = code :=
  fld_pack h (by decide) (mboxResult_fields i s)

theorem mboxResult_done (i : InstId) (s : State) : mboxResult 0 i s = pack [((instOf s i).epoch.toNat, 16), (i.val, 0)] := by
  simp [mboxResult, pack]

/-! ### Swaps and instances -/

theorem swapCheck_glg (s : State) :
    (swapCheck s).glg = { s.glg with swapPending := s.glg.swapPending && decide (oldJobs s ≠ 0) } := by
  unfold swapCheck
  by_cases h : (s.glg.swapPending && oldJobs s == 0) = true
  · rw [if_pos h]
    obtain ⟨-, h0⟩ := (Bool.and_eq_true _ _).mp h
    rw [show decide (oldJobs s ≠ 0) = false by simpa using h0, Bool.and_false]
    rfl
  · rw [if_neg h, show (s.glg.swapPending && decide (oldJobs s ≠ 0)) = s.glg.swapPending by
      cases hp : s.glg.swapPending
      · rfl
      · simpa [hp] using h]

theorem swapCheck_oldJobs (s : State) : oldJobs (swapCheck s) = oldJobs s := by
  unfold oldJobs
  rw [swapCheck_glg]

theorem swapCheck_inst (j : InstId) (s : State) : instOf (swapCheck s) j = instOf s j := by
  unfold instOf
  rw [swapCheck_glg]

/-- A start anew under the next owner epoch. -/
def Inst.anew (on : Bool) (label : BitVec 12) (a : Inst) : Inst :=
  { Inst.reset on with epoch := a.epoch + 1, label := label, refuse := a.refuse }

theorem assign_inst (i : InstId) (label : BitVec 12) (on : Bool) (s : State) :
    instOf (assign i label on s) i = (instOf s i).anew on label := by
  unfold assign
  dsimp only
  rw [swapCheck_inst]
  exact instOf_updInst_same ..

theorem assign_img (i : InstId) (label : BitVec 12) (on : Bool) (s : State) : (assign i label on s).img = s.img :=
  img_of_seen (assign_keeps (by decide) i label on s)

theorem thaw_inst (i : InstId) (s : State) : instOf (thaw i s) i = (instOf s i).thawed s.glg.activeSet := by
  unfold thaw
  rw [swapCheck_inst]
  exact instOf_updInst_same ..

theorem thaw_img (i : InstId) (s : State) : (thaw i s).img = s.img := img_of_seen (thaw_keeps (by decide) i s)

/-- A restart-class reload freezes again what runs. -/
theorem holdAgain_inst (i : InstId) (s : State) (hf : (instOf s i).frozen = false) (hr : (instOf s i).freezeReq = false) :
    instOf (holdAgain i s) i = if glgHeld s ∧ (instOf s i).enabled = true then { instOf s i with freezeReq := true, rlHold := true }
      else instOf s i := by
  unfold holdAgain onlyIf
  by_cases hh : glgHeld s = true
  · have hc : ((instOf s i).enabled && !(instOf s i).frozen && !(instOf s i).freezeReq) = (instOf s i).enabled := by simp [hf, hr]
    rw [if_pos hh, instOf_updInst_same, hc]
    simp [hh]
  · simp [hh]

/-! ### What each command runs -/

theorem mboxRun_assign (v : Word) (hi : isMgr i = false) : mboxRun 1 i (taken 0x30010 v s) =
    mboxEnd 0 i (holdAgain i (assign i ((regGet s 0x30008).setWidth 12) true (taken 0x30010 v s))) := by
  rw [← regGet_taken (v := v) (show 0x30008 ≠ 0x30010 by decide)]
  exact if_neg (by rw [hi]; decide)

theorem mboxRun_unassign (v : Word) (hi : isMgr i = false) : mboxRun 2 i (taken 0x30010 v s) =
    mboxEnd 0 i (assign i ((regGet s 0x30008).setWidth 12) false (taken 0x30010 v s)) := by
  rw [← regGet_taken (v := v) (show 0x30008 ≠ 0x30010 by decide)]
  exact if_neg (by rw [hi]; decide)

theorem mboxRun_freeze (he : (instOf s i).enabled = true) (hf : (instOf s i).frozen = false) : mboxRun 4 i s =
    regSet 0x30018 (pack [(1, 31), ((instOf s i).epoch.toNat, 16), (i.val, 0)])
      (updGlg (fun g => { g with mboxBusy := true }) (updInst i (fun a => { a with freezeReq := true, rlHold := false }) s)) :=
  (if_neg (by rw [he]; decide)).trans (if_neg (by rw [hf]; decide))

/-- The state window and the instances after a SAVE. -/
theorem saved_glg (i : InstId) (w : Vector Word 128) (s : State) :
    (mboxEnd 0 i (regSet 0x30020 0 (updGlg (fun g => { g with window := w }) s))).glg.window = w
      ∧ (mboxEnd 0 i (regSet 0x30020 0 (updGlg (fun g => { g with window := w }) s))).glg.inst = s.glg.inst := by
  rw [mboxEnd_glg]
  exact ⟨rfl, rfl⟩

theorem mboxRun_save (hf : (instOf s i).frozen = true) : mboxRun 6 i s =
    mboxEnd 0 i (regSet 0x30020 0 (updGlg (fun g => { g with window := Vector.ofFn fun k => (blobOf s i).getD k.val 0 }) s)) :=
  if_neg (by rw [hf]; decide)

/-- The blob is made of the instances and the controller's identity. -/
theorem blobOf_congr (hg : t.glg = s.glg) (hb : t.glb = s.glb) : blobOf t i = blobOf s i := by
  unfold blobOf instOf
  rw [hg, hb]

theorem mboxRun_restore (he : (instOf s i).enabled = true) (hf : (instOf s i).frozen = true) (hj : (instOf s i).job = none)
    (hq : (instOf s i).queue = []) (hc : (instOf s i).cpl = []) (hb : blobOk s.glg.window.toList = true) :
    mboxRun 7 i s = mboxEnd 0 i (restore i s.glg.window.toList s) :=
  (if_neg (by rw [he, hf, hj, hq, hc]; decide)).trans (if_pos hb)

theorem mboxRun_notify (v : Word) : mboxRun 8 i (taken 0x30010 v s) =
    mboxEnd 0 i (pageStat i 0x10 (regSet (rPage i 0x24) (regGet s 0x30008 &&& 0xFFFF) (taken 0x30010 v s))) := by
  rw [← regGet_taken (v := v) (show 0x30008 ≠ 0x30010 by decide)]
  rfl

/-- ASSIGN in a restart-class reload leaves the `Inst` held (R481). -/
theorem assigned_inst (i : InstId) (label : BitVec 12) (s : State) : instOf (holdAgain i (assign i label true s)) i =
    { (instOf s i).anew true label with freezeReq := glgHeld s, rlHold := glgHeld s } := by
  have hheld : glgHeld (assign i label true s) = glgHeld s := by
    unfold glgHeld
    rw [assign_img]
  rw [holdAgain_inst i _ (by rw [assign_inst]; rfl) (by rw [assign_inst]; rfl), hheld, assign_inst]
  cases glgHeld s <;> rfl

theorem rethawed_inst (i : InstId) (s : State) : instOf (holdAgain i (thaw i s)) i =
    if glgHeld s ∧ (instOf s i).enabled = true then { (instOf s i).thawed s.glg.activeSet with freezeReq := true, rlHold := true }
    else (instOf s i).thawed s.glg.activeSet := by
  have hheld : glgHeld (thaw i s) = glgHeld s := by
    unfold glgHeld
    rw [thaw_img]
  rw [holdAgain_inst i _ (by rw [thaw_inst]; rfl) (by rw [thaw_inst]; rfl), hheld, thaw_inst]
  rfl

/-- A blob brings its job, its descriptors and its records; the freeze stays. -/
theorem restore_inst (i : InstId) (w : List Word) (s : State) :
    (instOf (restore i w s) i).job.isSome = bitOf (w.getD 2 0) 0
      ∧ (instOf (restore i w s) i).queue.length = min 4 (fld (w.getD 2 0) 18 16)
      ∧ (instOf (restore i w s) i).cpl.length = min 4 (fld (w.getD 2 0) 22 20)
      ∧ (instOf (restore i w s) i).frozen = (instOf s i).frozen := by
  unfold restore
  rw [instOf_updInst_same]
  dsimp only
  rw [List.length_map, List.length_map, List.length_range, List.length_range]
  refine ⟨?_, rfl, rfl, rfl⟩
  split
  · next hbit => rw [hbit]; rfl
  · next hbit => rw [Bool.not_eq_true _ |>.mp hbit]; rfl

/-! ### An abort (R469) -/

/-- What becomes of a job while its collected writes are issued: a reason to stop from ABORTED on stands. -/
def JobKept (j k : Job) : Prop := k.d = j.d ∧ k.ended = j.ended ∧ ∀ c : Fin 16, 2 ≤ c.val → j.stop = some c → k.stop = some c

/-- The job goes on, under the same owner epoch. -/
def Continues (i : InstId) (s t : State) : Prop :=
  (instOf t i).epoch = (instOf s i).epoch ∧ ∀ j, (instOf s i).job = some j → ∃ k, (instOf t i).job = some k ∧ JobKept j k

theorem JobKept.refl (j : Job) : JobKept j j := ⟨rfl, rfl, fun _ _ h => h⟩

theorem Continues.of_inst (h : instOf t i = instOf s i) : Continues i s t := by
  refine ⟨by rw [h], fun j hj => ⟨j, by rw [h, hj], .refl j⟩⟩

theorem Continues.trans (h : Continues i s t) (h' : Continues i t u) : Continues i s u := by
  obtain ⟨he, hj⟩ := h
  obtain ⟨he', hj'⟩ := h'
  refine ⟨he'.trans he, fun j h => ?_⟩
  obtain ⟨k, hk, hd, hend, hs⟩ := hj j h
  obtain ⟨l, hl, hd', hend', hs'⟩ := hj' k hk
  exact ⟨l, hl, hd'.trans hd, hend'.trans hend, fun c hc h => hs' c hc (hs c hc h)⟩

theorem updJob_inst (i : InstId) (f : Job → Job) (s : State) :
    instOf (updJob i f s) i = { instOf s i with job := (instOf s i).job.map f } := instOf_updInst_same ..

theorem Continues.updJob {f : Job → Job} (hf : ∀ j, (instOf s i).job = some j → JobKept j (f j)) : Continues i s (updJob i f s) := by
  rw [Continues, updJob_inst]
  exact ⟨rfl, fun j hj => ⟨f j, by simp [hj], hf j hj⟩⟩

theorem stopJob_continues (i : InstId) (c : Fin 16) (s : State) : Continues i s (stopJob i c s) := by
  refine Continues.updJob fun j _ => ?_
  split
  · next h => exact ⟨rfl, rfl, fun c _ hc => by simp [hc] at h⟩
  · exact .refl j

theorem violationLate_inst (i k : InstId) (j : Job) (kind : Nat) (nm : Bool) (s : State) : instOf (violationLate i j kind nm s) k = instOf s k :=
  congrArg (Vector.get · k) (glg_inst_of_seen (violationLate_keeps (by decide) i j kind nm s))

theorem violation_inst (i k : InstId) (j : Job) (kind : Nat) (nm : Bool) (a : Nat) (s : State) :
    instOf (violation i j kind nm a s) k = instOf s k :=
  congrArg (Vector.get · k) (glg_inst_of_seen (violation_keeps (by decide) i j kind nm a s))

theorem setBuf_continues (i : InstId) (kind : Nat) (b : Option (LineAddr × Line × BitVec 64)) (s : State) :
    Continues i s (setBuf i kind b s) := by
  refine Continues.updJob fun j _ => ?_
  split <;> exact ⟨rfl, rfl, fun _ _ h => h⟩

theorem flushBuf_continues (i : InstId) (kind : Nat) (s : State) : Continues i s (flushBuf i kind s) := by
  unfold flushBuf
  split
  · exact .of_inst rfl
  · next j _ =>
    split
    · exact .of_inst rfl
    · refine (setBuf_continues i kind none s).trans ?_
      dsimp only
      split
      · exact (Continues.of_inst (violationLate_inst ..)).trans (stopJob_continues ..)
      · exact .of_inst rfl

/-- Only a job without a reason to stop from ABORTED on fetches a chained descriptor. -/
theorem wantsChain_stop {j : Job} (h : j.wantsChain = true) {c : Fin 16} (hc : 2 ≤ c.val) : j.stop ≠ some c := by
  intro hs
  simp only [Job.wantsChain, Job.status, hs, Bool.and_eq_true, decide_eq_true_eq] at h
  omega

theorem chainPump_continues (i : InstId) (s : State) : Continues i s (chainPump i s) := by
  unfold chainPump
  split
  · exact .of_inst rfl
  · next j hj =>
    split
    · exact .of_inst rfl
    · next hw =>
      have hwant : j.wantsChain = true := by
        simp only [Bool.or_eq_true, Bool.not_eq_true', not_or, Bool.not_eq_false] at hw
        exact hw.1.2
      split
      · refine (Continues.of_inst (violation_inst ..)).trans (.updJob fun k hk => ?_)
        rw [violation_inst, hj] at hk
        obtain rfl := Option.some.inj hk
        exact ⟨rfl, rfl, fun c hc h => absurd h (wantsChain_stop hwant hc)⟩
      · exact (Continues.updJob (f := fun j => { j with chain := some false }) fun _ _ => ⟨rfl, rfl, fun _ _ h => h⟩).trans
          (.of_inst rfl)

/-- A job that is over and has no line under way ends, with what it collected issued. -/
theorem closeJob_ends {j : Job} (hj : (instOf s i).job = some j) (ho : j.over = true) (hs : j.slots = []) (hv : j.verify = none)
    (he : j.ended = false) : Continues i (updJob i (fun j => { j with ended := true }) s) (closeJob i s) := by
  unfold closeJob
  simp only [hj, ho, hs, hv, he, List.isEmpty_nil, Option.isSome_none, Bool.not_true, Bool.or_false, Bool.false_eq_true, if_false,
    Bool.not_false, onlyIf, if_true]
  exact ((flushBuf_continues ..).trans (flushBuf_continues ..)).trans (chainPump_continues ..)

theorem closeJob_waits {j : Job} (hj : (instOf s i).job = some j) (hs : j.slots ≠ []) : closeJob i s = s := by
  unfold closeJob
  have hne : j.slots.isEmpty = false := by simpa using hs
  simp [hj, hne]

/-- The end of a job leaves the owner epoch. -/
theorem closeJob_epoch (i : InstId) (s : State) : (instOf (closeJob i s) i).epoch = (instOf s i).epoch := by
  unfold closeJob onlyIf
  split
  · rfl
  · split
    · rfl
    · dsimp only
      rw [(chainPump_continues i _).1]
      split
      · rw [((flushBuf_continues ..).trans (flushBuf_continues ..)).1, updJob_inst]
      · rfl

/-- The reason that an abort gives a job. -/
def aborting (j : Job) : Job := if j.ended then j else { j with verify := none, stop := some (j.stop.getD 2) }

theorem abortJob_eq (i : InstId) (s : State) : abortJob i s = closeJob i (updJob i aborting s) := rfl

theorem abortJob_epoch (i : InstId) (s : State) : (instOf (abortJob i s) i).epoch = (instOf s i).epoch := by
  rw [abortJob_eq, closeJob_epoch, updJob_inst]

theorem abortJob_stops {j : Job} (hj : (instOf s i).job = some j) (he : j.ended = false) :
    ∃ k, (instOf (abortJob i s) i).job = some k ∧ k.d = j.d ∧ k.ended = j.slots.isEmpty ∧ (j.stop = none → k.stop = some 2) := by
  have ha : aborting j = { j with verify := none, stop := some (j.stop.getD 2) } := if_neg (by rw [he]; decide)
  have hu : (instOf (updJob i aborting s) i).job = some { j with verify := none, stop := some (j.stop.getD 2) } := by
    rw [updJob_inst, ← ha]
    simp [hj]
  rw [abortJob_eq]
  by_cases hs : j.slots = []
  · obtain ⟨-, hc⟩ := closeJob_ends hu (by simp [Job.over]) hs rfl he
    obtain ⟨k, hk, hd, hend, hstop⟩ := hc { j with verify := none, stop := some (j.stop.getD 2), ended := true }
      (by rw [updJob_inst, hu]; rfl)
    exact ⟨k, hk, hd, by rw [hend, hs]; rfl, fun hn => hstop 2 (by decide) (by rw [hn]; rfl)⟩
  · rw [closeJob_waits hu hs]
    exact ⟨_, hu, rfl, by rw [he]; simpa using hs, fun hn => by simp [hn]⟩

/-- Aborted descriptors leave the queue for their records; nothing else changes but the records. -/
theorem flushDead_leaves (i : InstId) (s : State) :
    ∃ q l, q <:+ (instOf s i).queue ∧ instOf (flushDead i s) i = { instOf s i with queue := q, cpl := l } := by
  unfold flushDead forAll
  refine List.foldlRecOn (motive := fun t => ∃ q l, q <:+ (instOf s i).queue ∧ instOf t i = { instOf s i with queue := q, cpl := l })
    _ _ ⟨_, _, List.suffix_refl _, rfl⟩ fun t ⟨q, l, hq, ht⟩ _ _ => ?_
  dsimp only
  split
  · next d r hr =>
    split
    · obtain ⟨x, hx⟩ := putRecord_inst i d 2 [0, 0, 0, 0] (updInst i (fun a => { a with queue := r }) t)
      rw [hx, instOf_updInst_same]
      refine ⟨r, l ++ [x], ?_, by rw [ht]⟩
      rw [ht] at hr
      exact (List.suffix_cons d r).trans (hr ▸ hq)
    · exact ⟨q, l, hq, ht⟩
  · exact ⟨q, l, hq, ht⟩

/-- ABORT of the queue: no descriptor waits but as aborted. -/
theorem killQueue_leaves (i : InstId) (s : State) :
    (instOf (killQueue i s) i).job = (instOf s i).job ∧ (instOf (killQueue i s) i).epoch = (instOf s i).epoch
      ∧ (instOf (killQueue i s) i).chained = none ∧ ∀ d ∈ (instOf (killQueue i s) i).queue, d.dead = true := by
  unfold killQueue
  obtain ⟨q, l, hq, ht⟩ := flushDead_leaves i (updInst i (fun a => { a with
    chained := none, queue := (a.chained.toList ++ a.queue).map fun d => { d with dead := true } }) s)
  rw [instOf_updInst_same] at hq ht
  rw [ht]
  refine ⟨rfl, rfl, rfl, fun d hd => ?_⟩
  obtain ⟨e, -, rfl⟩ := List.mem_map.1 (hq.subset hd)
  rfl

end Sys2Proof.Machine

namespace Sys2Proof

open Sys2Proof.Machine

variable {s : State} {i : InstId} {v : Word}

/-! ### The mailbox commands -/

/-- A mailbox row with a command of the current epoch runs it and is answered. -/
theorem mbox_completes {op : Nat} {c : Instr} {x : State} {P : State → Prop} (h : confirms s 0x30010 v) (hop : fld v 31 28 = op)
    (hm : mboxFor s v i) (hc : 1 ≤ op ∧ op ≤ 8 ∧ exec c s = run (confirmRow 0x30010 (opIs op) true (~~~v)) s)
    (hrun : mboxRun op i (taken 0x30010 v s) = x) (hp : (respOk 0 x).out = [.reg 0 0] → P (respOk 0 x)) : completes c s P := by
  obtain ⟨h1, h8, hc⟩ := hc
  refine completes_of_run hc ?_
  have hact : actMbox v (taken 0x30010 v s) = x := (actMbox_runs (u := taken 0x30010 v s) hop h1 h8 hm).trans hrun
  rw [mbox_confirmed h (by simp [opIs, hop]), hact]
  refine hp ?_
  rw [← hact]
  exact congrArg (· ++ [Out.reg 0 0]) (actMbox_out v (taken 0x30010 v s))

theorem mbox_assigns (h : confirms s 0x30010 v) (hop : fld v 31 28 = 1) (hm : mboxFor s v i) (hi : isMgr i = false) :
    completes (.mboxAssign true (~~~v)) s fun t =>
      instOf t i = { Inst.reset true with epoch := (instOf s i).epoch + 1, label := (regGet s 0x30008).setWidth 12, refuse := (instOf s i).refuse, freezeReq := glgHeld s, rlHold := glgHeld s }
      ∧ regGet t 0x30018 = pack [(((instOf s i).epoch + 1).toNat, 16), (i.val, 0)]
      ∧ bitOf (regGet t 0x30000) 0 = true
      ∧ t.out = [.reg 0 0] := by
  refine mbox_completes (x := mboxEnd 0 i (holdAgain i (assign i ((regGet s 0x30008).setWidth 12) true (taken 0x30010 v s)))) h hop hm
    ⟨by decide, by decide, rfl⟩ (mboxRun_assign _ hi) fun hout => ?_
  have hinst := assigned_inst i ((regGet s 0x30008).setWidth 12) (taken 0x30010 v s)
  rw [instOf_respOk, regGet_respOk, regGet_respOk, mboxEnd_inst, mboxEnd_result, mboxResult_done, hinst]
  exact ⟨rfl, rfl, mboxEnd_flag .., hout⟩

theorem mbox_unassigns (h : confirms s 0x30010 v) (hop : fld v 31 28 = 2) (hm : mboxFor s v i) (hi : isMgr i = false) :
    completes (.mboxUnassign true (~~~v)) s fun t =>
      instOf t i = { Inst.reset false with epoch := (instOf s i).epoch + 1, label := (regGet s 0x30008).setWidth 12, refuse := (instOf s i).refuse }
      ∧ regGet t 0x30018 = pack [(((instOf s i).epoch + 1).toNat, 16), (i.val, 0)]
      ∧ bitOf (regGet t 0x30000) 0 = true
      ∧ t.out = [.reg 0 0] := by
  refine mbox_completes (x := mboxEnd 0 i (assign i ((regGet s 0x30008).setWidth 12) false (taken 0x30010 v s))) h hop hm
    ⟨by decide, by decide, rfl⟩ (mboxRun_unassign _ hi) fun hout => ?_
  rw [instOf_respOk, regGet_respOk, regGet_respOk, mboxEnd_inst, mboxEnd_result, mboxResult_done, assign_inst]
  exact ⟨rfl, rfl, mboxEnd_flag .., hout⟩

theorem mbox_aborts (h : confirms s 0x30010 v) (hop : fld v 31 28 = 3) (hm : mboxFor s v i) :
    completes (.mboxAbort true (~~~v)) s fun t =>
      (∀ j, (instOf s i).job = some j → j.ended = false → ∃ k, (instOf t i).job = some k ∧ k.d = j.d
        ∧ k.ended = j.slots.isEmpty ∧ (j.stop = none → k.stop = some 2))
      ∧ (instOf t i).chained = none
      ∧ (∀ d ∈ (instOf t i).queue, d.dead = true)
      ∧ (instOf t i).epoch = (instOf s i).epoch
      ∧ bitOf (regGet t 0x30000) 0 = true
      ∧ t.out = [.reg 0 0] := by
  refine mbox_completes (x := mboxEnd 0 i (killQueue i (abortJob i (taken 0x30010 v s)))) h hop hm
    ⟨by decide, by decide, rfl⟩ rfl fun hout => ?_
  obtain ⟨hjob, hepoch, hchained, hdead⟩ := killQueue_leaves i (abortJob i (taken 0x30010 v s))
  rw [abortJob_epoch] at hepoch
  rw [instOf_respOk, regGet_respOk, mboxEnd_inst, hjob]
  exact ⟨fun j hj he => abortJob_stops (s := taken 0x30010 v s) hj he, hchained, hdead, hepoch, mboxEnd_flag .., hout⟩

theorem mbox_freezes (h : confirms s 0x30010 v) (hop : fld v 31 28 = 4) (hm : mboxFor s v i) (he : (instOf s i).enabled = true)
    (hf : (instOf s i).frozen = false) :
    completes (.mboxFreeze true (~~~v)) s fun t =>
      instOf t i = { instOf s i with freezeReq := true, rlHold := false }
      ∧ t.glg.mboxBusy = true
      ∧ bitOf (regGet t 0x30018) 31 = true
      ∧ t.out = [.reg 0 0] := by
  refine mbox_completes h hop hm ⟨by decide, by decide, rfl⟩ (mboxRun_freeze (s := taken 0x30010 v s) he hf) fun hout => ?_
  rw [instOf_respOk, regGet_respOk, regGet_regSet_same, bitOf, pack_bit _ _ _ (by decide)]
  exact ⟨instOf_updInst_same .., rfl, rfl, hout⟩

theorem thawed_runs (set : Bool) (a : Inst) : (a.thawed set).frozen = false ∧ (a.thawed set).freezeReq = false
    ∧ (a.thawed set).job = a.job.map fun j => { j with ruleSet := set } := ⟨rfl, rfl, rfl⟩

theorem mbox_thaws (h : confirms s 0x30010 v) (hop : fld v 31 28 = 5) (hm : mboxFor s v i) :
    completes (.mboxThaw true (~~~v)) s fun t =>
      instOf t i = (if glgHeld s
        ∧ (instOf s i).enabled = true then { (instOf s i).thawed s.glg.activeSet with freezeReq := true, rlHold := true } else (instOf s i).thawed s.glg.activeSet)
      ∧ ((instOf s i).thawed s.glg.activeSet).frozen = false ∧ ((instOf s i).thawed s.glg.activeSet).freezeReq = false
      ∧ (((instOf s i).thawed s.glg.activeSet).job = (instOf s i).job.map fun j => { j with ruleSet := s.glg.activeSet })
      ∧ regFld t 0x30018 31 28 = 0
      ∧ bitOf (regGet t 0x30000) 0 = true
      ∧ t.out = [.reg 0 0] := by
  refine mbox_completes (x := mboxEnd 0 i (holdAgain i (thaw i (taken 0x30010 v s)))) h hop hm
    ⟨by decide, by decide, rfl⟩ rfl fun hout => ?_
  obtain ⟨hfrozen, hreq, hjob⟩ := thawed_runs s.glg.activeSet (instOf s i)
  rw [instOf_respOk, regFld_respOk, regGet_respOk, mboxEnd_inst, mboxEnd_result, mboxResult_code (by decide)]
  exact ⟨rethawed_inst i (taken 0x30010 v s), hfrozen, hreq, hjob, rfl, mboxEnd_flag .., hout⟩

theorem mbox_saves (h : confirms s 0x30010 v) (hop : fld v 31 28 = 6) (hm : mboxFor s v i) (hf : (instOf s i).frozen = true) :
    completes (.mboxSave true (~~~v)) s fun t =>
      (∀ n : Fin 128, t.glg.window.get n = (blobOf s i).getD n.val 0)
      ∧ t.glg.inst = s.glg.inst
      ∧ regGet t 0x30020 = 0
      ∧ bitOf (regGet t 0x30000) 0 = true
      ∧ t.out = [.reg 0 0] := by
  refine mbox_completes h hop hm ⟨by decide, by decide, rfl⟩ (mboxRun_save (s := taken 0x30010 v s) hf) fun hout => ?_
  obtain ⟨hwindow, hinst⟩ := saved_glg i (Vector.ofFn fun k => (blobOf (taken 0x30010 v s) i).getD k.val 0) (taken 0x30010 v s)
  rw [regGet_respOk, regGet_respOk, glg_respOk, hwindow, hinst, mboxEnd_other 0 i _ (by decide) (by decide), regGet_regSet_same,
    blobOf_congr (s := s) (t := taken 0x30010 v s) rfl rfl]
  exact ⟨fun n => vget_ofFn .., rfl, rfl, mboxEnd_flag .., hout⟩

theorem mbox_restores (h : confirms s 0x30010 v) (hop : fld v 31 28 = 7) (hm : mboxFor s v i) (he : (instOf s i).enabled = true)
    (hf : (instOf s i).frozen = true) (hj : (instOf s i).job = none) (hq : (instOf s i).queue = []) (hc : (instOf s i).cpl = [])
    (hb : blobOk s.glg.window.toList = true) :
    completes (.mboxRestore true (~~~v)) s fun t =>
      (instOf t i).job.isSome = bitOf (s.glg.window.toList.getD 2 0) 0
      ∧ (instOf t i).queue.length = min 4 (fld (s.glg.window.toList.getD 2 0) 18 16)
      ∧ (instOf t i).cpl.length = min 4 (fld (s.glg.window.toList.getD 2 0) 22 20)
      ∧ (instOf t i).frozen = true
      ∧ regFld t 0x30018 31 28 = 0
      ∧ t.out = [.reg 0 0] := by
  refine mbox_completes h hop hm ⟨by decide, by decide, rfl⟩ (mboxRun_restore (s := taken 0x30010 v s) he hf hj hq hc hb) fun hout => ?_
  obtain ⟨hjob, hqueue, hcpl, hfrozen⟩ := restore_inst i s.glg.window.toList (taken 0x30010 v s)
  rw [instOf_respOk, regFld_respOk, mboxEnd_inst, mboxEnd_result, mboxResult_code (by decide)]
  exact ⟨hjob, hqueue, hcpl, hfrozen.trans hf, rfl, hout⟩

/-- The registers of a page lie in none of the words of the manager that the mailbox writes. -/
theorem rPage_apart (i : InstId) (o : Nat) : rPage i o ≠ 0x30018 ∧ rPage i o ≠ 0x30000 := by
  unfold rPage
  split <;> omega

theorem rPage_inj {o o' : Nat} (h : o ≠ o') (i : InstId) : rPage i o ≠ rPage i o' := by
  unfold rPage
  omega

theorem mbox_notifies (h : confirms s 0x30010 v) (hop : fld v 31 28 = 8) (hm : mboxFor s v i) :
    completes (.mboxNotify true (~~~v)) s fun t =>
      t.glg = s.glg
      ∧ regGet t (rPage i 0x24) = regGet s 0x30008 &&& 0xFFFF
      ∧ bitOf (regGet t (rPage i 0x14)) 4 = true
      ∧ bitOf (regGet t 0x30000) 0 = true
      ∧ t.out = [.reg 0 0] := by
  refine mbox_completes h hop hm ⟨by decide, by decide, rfl⟩ (mboxRun_notify v) fun hout => ?_
  obtain ⟨hbusy, -, -⟩ := hm
  obtain ⟨hres, hstat⟩ := rPage_apart i 0x24
  obtain ⟨hres', hstat'⟩ := rPage_apart i 0x14
  rw [regGet_respOk, regGet_respOk, regGet_respOk, glg_respOk, mboxEnd_glg, mboxEnd_other 0 i _ hres hstat,
    mboxEnd_other 0 i _ hres' hstat', pageStat, regGet_sqSet_other _ _ (rPage_inj (by decide) i), regGet_regSet_same,
    regGet_sqSet_same, sqWord_bit _ _ (by decide)]
  refine ⟨?_, rfl, Bool.or_true _, mboxEnd_flag .., hout⟩
  rw [← hbusy]
  rfl

/-- The rows of the table that are mailbox commands, by their operation. -/
theorem exec_mbox {op : Nat} {c : Instr} {d : Word} (hc : (op, c) ∈ [(1, Instr.mboxAssign true d), (2, .mboxUnassign true d),
      (3, .mboxAbort true d), (4, .mboxFreeze true d), (5, .mboxThaw true d), (6, .mboxSave true d), (7, .mboxRestore true d),
      (8, .mboxNotify true d)]) (s : State) :
    1 ≤ op ∧ op ≤ 8 ∧ exec c s = run (confirmRow 0x30010 (opIs op) true d) s := by
  simp only [List.mem_cons, Prod.mk.injEq, List.not_mem_nil, or_false] at hc
  rcases hc with ⟨rfl, rfl⟩ | ⟨rfl, rfl⟩ | ⟨rfl, rfl⟩ | ⟨rfl, rfl⟩ | ⟨rfl, rfl⟩ | ⟨rfl, rfl⟩ | ⟨rfl, rfl⟩ | ⟨rfl, rfl⟩ <;>
    exact ⟨by decide, by decide, rfl⟩

theorem mbox_stale {c : Instr} (h : confirms s 0x30010 v)
    (hc : (fld v 31 28, c) ∈ [(1, Instr.mboxAssign true (~~~v)), (2, .mboxUnassign true (~~~v)), (3, .mboxAbort true (~~~v)),
      (4, .mboxFreeze true (~~~v)), (5, .mboxThaw true (~~~v)), (6, .mboxSave true (~~~v)),
      (7, .mboxRestore true (~~~v)), (8, .mboxNotify true (~~~v))])
    (hbusy : s.glg.mboxBusy = false) (hi : i.val = fld v 6 0) (he : fld v 23 16 ≠ (instOf s i).epoch.toNat) :
    completes c s fun t =>
      t.glg = s.glg
      ∧ regFld t 0x30018 30 28 = 2
      ∧ bitOf (regGet t 0x30000) 5 = true
      ∧ regGet t 0x30074 = BitVec.ofNat 32 (min 0xFFFFFFFF ((regGet s 0x30074).toNat + 1)) := by
  obtain ⟨h1, h8, hexec⟩ := exec_mbox hc s
  refine completes_of_run hexec ?_
  rw [mbox_confirmed h (by simp [opIs]), actMbox_stale (u := taken 0x30010 v s) h1 h8 hbusy hi he]
  rw [glg_respOk, regFld_respOk, regGet_respOk, regGet_respOk, regGet_bump_other _ (by decide), regGet_bump_other _ (by decide),
    regGet_bump_same, glgStat, regGet_sqSet_other _ _ (by decide), regGet_sqSet_same, regGet_sqSet_other _ _ (by decide),
    mboxEnd_result, mboxResult_code3 (by decide), mboxEnd_other 2 i _ (o := 0x30074) (by decide) (by decide), regGet_taken (by decide), sat_eq_min,
    sqWord_bit _ _ (by decide)]
  refine ⟨?_, rfl, Bool.or_true _, rfl⟩
  refine (mboxEnd_glg 2 i (taken 0x30010 v s)).trans ?_
  rw [← hbusy]
  rfl

/-! ### The protection unit -/

theorem swap_runs (hv : bitOf v 0 = true) (hp : s.glg.swapPending = false) : ppCommit 0x30030 v { begin_ s with pp := none } =
    swapCheck (updGlg (fun g => { g with activeSet := !g.activeSet, swapPending := true }) (taken 0x30030 v s)) := by
  rw [show ppCommit 0x30030 v { begin_ s with pp := none } = actSwap v (taken 0x30030 v s) from rfl]
  unfold actSwap
  exact if_pos (by rw [hv, show (taken 0x30030 v s).glg.swapPending = false from hp]; rfl)

theorem swap_activates (h : confirms s 0x30030 v) (hv : bitOf v 0 = true) (hp : s.glg.swapPending = false) :
    completes (.glgPuSwap true (~~~v)) s fun t =>
      t.glg.activeSet = !s.glg.activeSet
      ∧ t.glg.swapPending = decide (oldJobs t ≠ 0)
      ∧ t.glg.inst = s.glg.inst
      ∧ t.out = [.reg 0 0] := by
  refine completes_of_run (f := confirmRow 0x30030 opAny true (~~~v)) rfl ?_
  rw [confirmRow_confirmed h (by decide) (by decide) (by decide +kernel) rfl]
  rw [swap_runs hv hp]
  generalize hu : updGlg (fun g => { g with activeSet := !g.activeSet, swapPending := true }) (taken 0x30030 v s) = u
  have hglg : u.glg = { s.glg with activeSet := !s.glg.activeSet, swapPending := true } := by rw [← hu]; rfl
  have hout : u.out = [] := by rw [← hu]; rfl
  have hset := swapCheck_glg u
  refine ⟨?_, ?_, ?_, congrArg (· ++ [Out.reg 0 0]) ((out_of_seen (swapCheck_keeps (by decide) u)).trans hout)⟩
  · rw [glg_respOk, hset, hglg]
  · rw [glg_respOk, oldJobs_respOk, swapCheck_oldJobs, hset, hglg]
    exact Bool.true_and _
  · rw [glg_respOk, hset, hglg]

theorem regGet_regPut_congr {t : State} {off : Nat} (hi lo x : Nat) (h : regGet t off = regGet s off) :
    regGet (regPut off hi lo x t) off = regGet (regPut off hi lo x s) off := by
  unfold regPut
  dsimp only
  rw [regGet_regSet_same, regGet_regSet_same, h]

/-- The valid bit of a violation register is cleared, and nothing else of it changes. -/
theorem rearmed_bit (off : Nat) (s : State) : bitOf (regGet (regPut off 31 31 0 s) off) 31 = false := by
  have h : fld (regGet (regPut off 31 31 0 s) off) 31 31 = 0 := regFld_regPut_same (by decide) (by decide) (by decide) off s
  have hbit := fld_testBit (regGet (regPut off 31 31 0 s) off) 31 31 0
  rw [h] at hbit
  simpa [bitOf] using hbit.symm

theorem rearmed_rest (off : Nat) (s : State) : fld (regGet (regPut off 31 31 0 s) off) 30 0 = regFld s off 30 0 :=
  regFld_regPut_out (by decide) (by decide) off 0 s (by decide) (.inl (by decide))

theorem rearm_writes (c : Instr) (hp : portOpen s (winAcc true 0x30050 v)) (hc : exec c s = run (portWrite (winAcc true 0x30050 v)) s)
    {P : State → Prop} (h : P (respOk 0 (actRearm v (begin_ s)))) : completes c s P := by
  refine completes_of_run hc ?_
  rw [winWrite_open (by decide) rfl hp, regWrite_wo (show kindAt 0x30050 .wo = true by decide +kernel)]
  exact h

theorem rearm_precise (hp : portOpen s (winAcc true 0x30050 v)) (hv : bitOf v 0 = true) :
    completes (.pvRearmPrecise true v) s fun t =>
      bitOf (regGet t 0x30040) 31 = false
      ∧ regFld t 0x30040 30 0 = regFld s 0x30040 30 0
      ∧ t.out = [.reg 0 0] := by
  refine rearm_writes _ hp rfl ?_
  have hreg : regGet (actRearm v (begin_ s)) 0x30040 = regGet (regPut 0x30040 31 31 0 s) 0x30040 := by
    unfold actRearm onlyIf
    dsimp only
    rw [if_pos hv]
    split
    · exact regGet_regPut_other _ _ _ _ (by decide)
    · rfl
  rw [regGet_respOk, regFld_respOk, hreg]
  exact ⟨rearmed_bit .., rearmed_rest .., congrArg (· ++ [Out.reg 0 0]) (out_of_seen (actRearm_keeps (by decide) v (begin_ s)))⟩

theorem rearm_imprecise (hp : portOpen s (winAcc true 0x30050 v)) (hv : bitOf v 1 = true) :
    completes (.pvRearmImprecise true v) s fun t =>
      bitOf (regGet t 0x3004C) 31 = false
      ∧ regFld t 0x3004C 30 0 = regFld s 0x3004C 30 0
      ∧ t.out = [.reg 0 0] := by
  refine rearm_writes _ hp rfl ?_
  have hreg : regGet (actRearm v (begin_ s)) 0x3004C = regGet (regPut 0x3004C 31 31 0 s) 0x3004C := by
    unfold actRearm onlyIf
    dsimp only
    rw [if_pos hv]
    split
    · exact regGet_regPut_congr _ _ _ (regGet_regPut_other _ _ _ _ (by decide))
    · rfl
  rw [regGet_respOk, regFld_respOk, hreg]
  exact ⟨rearmed_bit .., rearmed_rest .., congrArg (· ++ [Out.reg 0 0]) (out_of_seen (actRearm_keeps (by decide) v (begin_ s)))⟩

/-- Settles O44. -/
theorem gliogManager : Obligations.GliogManager :=
  ⟨fun _ _ _ => mbox_assigns, fun _ _ _ => mbox_unassigns, fun _ _ _ => mbox_aborts, fun _ _ _ => mbox_freezes,
    fun _ _ _ => mbox_thaws, fun _ _ _ => mbox_saves, fun _ _ _ => mbox_restores, fun _ _ _ => mbox_notifies,
    fun _ _ _ _ => mbox_stale, fun _ _ => swap_activates, fun _ _ => rearm_precise, fun _ _ => rearm_imprecise⟩

end Sys2Proof
end

section
/-! Requests to the data-integrity block (R356, R365) and debug operations (R227). -/

namespace Sys2Proof.Machine

variable {s t : State} {v : Word} {l : Lla}

/-! ### What a request reads of the map -/

/-- The registers of the map read the same, and the channels stand as they were. -/
def SameGeometry (s t : State) : Prop :=
  (∀ o, 0x12000 ≤ o → o < 0x13000 → regGet t o = regGet s o) ∧ t.glb = s.glb ∧ t.alert = s.alert

theorem sliceFrom_covered (s : State) (d : Nat) (l : List Nat) : sliceFrom s d l ≠ .unpopulated := by
  induction l with
  | nil => exact Revmap.noConfusion
  | cons n l ih =>
    unfold sliceFrom
    split
    · exact ih
    · split
      · exact Revmap.noConfusion
      · exact ih

/-- The coordinates lie outside what the image populates. -/
def beyond (s : State) (c : Coord) : Bool := !chConf s (chN c.ch) || nCs s ≤ c.cs || nLr s ≤ c.lr || nRows s ≤ c.row

theorem rev_eq (s : State) (l : Lla) : rev s l = if beyond s (hash s (unpackLla l)) = true then .unpopulated
    else if nRows s - 192 ≤ (hash s (unpackLla l)).row then .carveOut
    else sliceFrom s (join s (hash s (unpackLla l))) (List.range 16) := rfl

theorem rev_unpopulated (s : State) (l : Lla) : rev s l = .unpopulated ↔ beyond s (hash s (unpackLla l)) = true := by
  rw [rev_eq]
  by_cases h : beyond s (hash s (unpackLla l)) = true
  · exact iff_of_true (if_pos h) h
  · refine iff_of_false ?_ h
    rw [if_neg h]
    split
    · exact Revmap.noConfusion
    · exact sliceFrom_covered _ _ _

theorem SameGeometry.nCs (h : SameGeometry s t) : nCs t = nCs s := by
  unfold Machine.nCs csLog regFld
  rw [h.1 _ (by decide) (by decide)]

theorem SameGeometry.nLr (h : SameGeometry s t) : nLr t = nLr s := by
  unfold Machine.nLr lrLog regFld
  rw [h.1 _ (by decide) (by decide)]

theorem SameGeometry.nUnits (h : SameGeometry s t) : nUnits t = nUnits s := by
  unfold Machine.nUnits
  rw [h.nCs, h.nLr]

theorem SameGeometry.isX8 (h : SameGeometry s t) : isX8 t = isX8 s := by
  unfold Machine.isX8 regBit
  rw [h.1 _ (by decide) (by decide)]

theorem SameGeometry.csLive (h : SameGeometry s t) (c : Ch) (cs : Nat) : csLive t c cs = csLive s c cs := by
  obtain ⟨-, hglb, halert⟩ := h
  unfold Machine.csLive chLive
  rw [hglb, halert]

theorem SameGeometry.hash (h : SameGeometry s t) (c : Coord) : hash t c = hash s c := by
  have hb : ∀ n ≤ 5, hashBit t c n = hashBit s c n := fun n hn => by
    rw [hashBit, hashBit, h.1 _ (by omega) (by omega)]
  unfold Machine.hash
  rw [hb 0 (by decide), hb 1 (by decide), hb 2 (by decide), hb 3 (by decide), hb 4 (by decide), hb 5 (by decide)]

theorem SameGeometry.beyond (h : SameGeometry s t) (c : Coord) : beyond t c = beyond s c := by
  unfold Machine.beyond chConf nRows regFld regBit
  rw [h.nCs, h.nLr, h.1 _ (by decide) (by decide)]

theorem SameGeometry.lineUsable (h : SameGeometry s t) (l : Lla) : lineUsable t l = lineUsable s l := by
  have hrev : rev t l = .unpopulated ↔ rev s l = .unpopulated := by rw [rev_unpopulated, rev_unpopulated, h.hash, h.beyond]
  have hrank : rankLive t l = rankLive s l := h.csLive (chN (unpackLla l).ch) (unpackLla l).cs
  unfold Machine.lineUsable
  rw [hrank, decide_eq_decide.2 (not_congr hrev)]

theorem SameGeometry.taken (v : Word) {off : Nat} (ho : 0x13000 ≤ off) (s : State) : SameGeometry s (taken off v s) :=
  ⟨fun o _ h => regGet_taken (by omega), rfl, rfl⟩

/-! ### RAS_REQ -/

theorem ras_confirmed {own : Word → Bool} (h : confirms s 0x14020 v) (hown : own v = true) :
    confirmRow 0x14020 own true (~~~v) (begin_ s) = respOk 0 (actRasReq v (taken 0x14020 v s)) :=
  confirmRow_confirmed h (by decide) (by decide) (by decide +kernel) hown

theorem setResult_reads (busy : Bool) (code : Nat) (s : State) :
    regGet (setResult busy code s) rReqResult = pack [(b2n busy, 31), (code, 28)] := regGet_regSet_same ..

theorem reqBusy_taken (v : Word) (s : State) : reqBusy (taken 0x14020 v s) = reqBusy s :=
  congrArg (bitOf · 31) (regGet_taken (by decide))

theorem reqLla_taken (v : Word) (s : State) : reqLla (taken 0x14020 v s) = reqLla s := by
  unfold reqLla regGet64
  rw [regGet_taken (by decide), regGet_taken (by decide)]

theorem actRasReq_busy (h : reqBusy s = true) : actRasReq v s = setResult true 1 s := if_pos h

theorem actRasReq_repair (h : reqBusy s = false) (hop : fld v 31 28 = 1) : actRasReq v s = actRepair v s := by
  unfold actRasReq
  rw [if_neg (by rw [h]; decide), hop]
  rfl

theorem actRasReq_spare (h : reqBusy s = false) (hop : fld v 31 28 = 2) : actRasReq v s = actSpare v s := by
  unfold actRasReq
  rw [if_neg (by rw [h]; decide), hop]
  rfl

theorem actRasReq_clear (h : reqBusy s = false) (hop : fld v 31 28 = 3) : actRasReq v s = actClear s := by
  unfold actRasReq
  rw [if_neg (by rw [h]; decide), hop]
  rfl

theorem actRepair_disabled (h : regBit s 0x14000 4 = false) : actRepair v s = setResult false 3 s := by
  unfold actRepair
  exact if_pos (by rw [h]; rfl)

theorem actRepair_waits (h : regBit s 0x14000 4 = true) (hl : lineUsable s (reqLla s) = true) (hd : fld v 27 24 < devCount (isX8 s)) :
    actRepair v s = setResult true 0
      (updRas (fun a => { a with pprWait := a.pprWait ++ [(scOf (reqLla s), reqLla s, fld v 27 24, 0, true)] }) s) := by
  unfold actRepair
  dsimp only
  rw [if_neg (by rw [h]; decide), if_neg (by simpa [hl] using hd)]

theorem actSpare_waits (hc : csLive s (chN (fld v 23 23)) (fld v 22 21) = true) (hn : fld v 22 21 < nCs s)
    (hm : spareMay s (chN (fld v 23 23)) = true) : actSpare v s = setResult true 0
      (spareAsk (chN (fld v 23 23)) ⟨2, BitVec.ofNat 2 (fld v 22 21), scA (chN (fld v 23 23)), 0, 0xF, 0⟩ s) := by
  unfold actSpare
  dsimp only
  rw [if_neg (by simpa [hc] using hn), if_neg (by rw [hm]; decide)]

theorem actClear_clears {x : Sc} {u : Nat} (hx : x = scN (regFld s 0x14090 7 6)) (hu : u = regFld s 0x14090 5 0) (hn : u < nUnits s)
    (hc : csLive s (chOf x) (u / max 1 (nLr s)) = true) :
    actClear s = setResult false 0 (setUnit x u { rasUnit s x u with cnt := Vector.replicate 10 0, ue := 0 } s) := by
  unfold actClear
  dsimp only
  rw [← hx, ← hu, if_neg (by simpa [hc] using hn)]

theorem rasUnit_setUnit_same (x : Sc) (u : Nat) (r : RasUnit) (s : State) : rasUnit (setUnit x u r s) x u = r := by
  unfold rasUnit setUnit kget updRas
  rw [kfind_kset_same]
  rfl

/-! ### DBG_OP -/

theorem dbg_confirmed {own : Word → Bool} (h : confirms s 0x38000 v) (hown : own v = true) (hd : s.ras.dbg = none) :
    confirmRow 0x38000 own true (~~~v) (begin_ s) = respOk 0 (actDbg v (taken 0x38000 v s)) := by
  rw [confirmRow_confirmed h (by decide) (by decide) (by decide +kernel) hown]
  unfold ppCommit
  dsimp only
  rw [if_neg (by decide), if_neg (by simp [hd]), if_neg (by decide)]
  rfl

/-- The state in which the work of a debug operation is offered. -/
def dbgBegun (v : Word) (l : Lla) (s : State) : State :=
  regSet rDbgStatus 0x80000000 (updRas (fun a => { a with dbg := some ⟨v, l⟩ }) s)

theorem SameGeometry.dbgBegun (h : SameGeometry s t) (v : Word) (l : Lla) : SameGeometry s (dbgBegun v l t) := by
  obtain ⟨hr, hglb, halert⟩ := h
  exact ⟨fun o h12 h13 => (regGet_regSet_other _ _ (by unfold rDbgStatus; omega)).trans (hr o h12 h13), hglb, halert⟩

theorem actDbg_reads (hd : s.ras.dbg = none) (hop : fld v 31 28 = 1) (hl : l = BitVec.ofNat 38 (regGet64 s 0x38008))
    (hu : lineUsable (dbgBegun v l s) l = true) (hz : readsZero (dbgBegun v l s) l = false) :
    actDbg v s = mntAdd (scOf l) 1 (.lineRead .debug l) (dbgBegun v l s) := by
  subst hl
  unfold actDbg
  rw [if_neg (by rw [hd]; decide)]
  simp only [hop]
  exact (if_neg (by rw [show lineUsable (regSet rDbgStatus 0x80000000 _) _ = true from hu]; decide)).trans
    (if_neg (by rw [show readsZero (regSet rDbgStatus 0x80000000 _) _ = false from hz]; decide))

theorem actDbg_registers (hd : s.ras.dbg = none) (hop : fld v 31 28 = 2) (hl : l = BitVec.ofNat 38 (regGet64 s 0x38008))
    (hc : csLive (dbgBegun v l s) (chOf (scN (fld v 25 24))) (fld v 23 22) = true) (hcs : fld v 23 22 < nCs (dbgBegun v l s))
    (hlr : fld v 21 18 < nLr (dbgBegun v l s)) :
    actDbg v s = mntAdd (scN (fld v 25 24)) 1 (.mode .mrr (BitVec.ofNat 2 (fld v 23 22)) (BitVec.ofNat 4 (fld v 21 18))
      (.get (.addr (BitVec.ofNat 8 (fld v 7 0))))) (dbgBegun v l s) := by
  have hsc : Dbg.sc ⟨v, l⟩ = scN (fld v 25 24) := if_neg (by rw [hop]; decide)
  subst hl
  unfold actDbg
  rw [if_neg (by rw [hd]; decide)]
  simp only [hop, hsc]
  refine if_neg (show ¬ (!csLive (dbgBegun v (BitVec.ofNat 38 (regGet64 s 0x38008)) s) _ _ || decide
    (nCs (dbgBegun v (BitVec.ofNat 38 (regGet64 s 0x38008)) s) ≤ _ ∨ nLr (dbgBegun v (BitVec.ofNat 38 (regGet64 s 0x38008)) s) ≤ _)) = true
    from ?_)
  rw [hc, decide_eq_false (not_or.2 ⟨not_le.2 hcs, not_le.2 hlr⟩)]
  decide

theorem mntAdd_maint (x : Sc) (q : Fin 7) (o : MntOp) (s : State) :
    ((mntAdd x q o s).sched.get x).maint.get q = (s.sched.get x).maint.get q ++ [⟨o, none, false, [], none⟩] := by
  unfold mntAdd mntAddFor updSched
  dsimp only
  rw [vget_vmod_same, vget_vmod_same]

/-! ### DBG_OP_DONE -/

/-- A row of registers that is written from a list of words. -/
theorem forAll_regSet_reads (base : Nat) (f : Nat → Word) {m n : Nat} (hn : n < m) (s : State) :
    regGet (forAll (List.range m) (fun k s => regSet (base + 4 * k) (f k) s) s) (base + 4 * n) = f n := by
  induction m with
  | zero => exact absurd hn (Nat.not_lt_zero n)
  | succ m ih =>
    unfold forAll at ih ⊢
    rw [List.range_succ, List.foldl_append, List.foldl_cons, List.foldl_nil]
    by_cases h : n = m
    · rw [h, regGet_regSet_same]
    · rw [regGet_regSet_other _ _ (by omega), ih (by omega)]

theorem dbgEnd_status (outcome : Nat) (data : List Word) (s : State) :
    regGet (dbgEnd outcome data s) 0x38010 = pack [(1, 30), (outcome, 27)] := regGet_regSet_same ..

theorem regGet_updRas (f : Ras → Ras) (s : State) (o : Nat) : regGet (updRas f s) o = regGet s o := rfl

theorem dbgEnd_data (outcome : Nat) (data : List Word) (s : State) {n : Nat} (hn : n < 16) :
    regGet (dbgEnd outcome data s) (0x38040 + 4 * n) = data.getD n 0 := by
  unfold dbgEnd
  dsimp only
  rw [regGet_regSet_other _ _ (by unfold rDbgStatus; omega), regGet_updRas, forAll_regSet_reads 0x38040 (fun n => data.getD n 0) hn]

theorem dbgEnd_over (outcome : Nat) (data : List Word) (s : State) : (dbgEnd outcome data s).ras.dbg = none := rfl

theorem takeTag_first {x : Sc} {f : Origin → Bool} {g : RdTag} (h : (s.sched.get x).pipe.find? (fun r => f r.origin) = some g) :
    takeTag x f s = some (g, updSched x (fun q => { q with pipe := q.pipe.filter fun v => v ≠ g }) s) := by
  unfold takeTag
  rw [h]

/-- The words that a debug read shows: the corrected line, or the burst as it was received. -/
def dbgLine (s : State) (g : RdTag) (rx : Capture) : Line := (correctedAt s g.lla (g.burst s rx)).getD (rawLine (g.burst s rx))

theorem dbgOpDone_line {d : Dbg} {g : RdTag} {rx : Capture} (hd : s.ras.dbg = some d)
    (hg : (s.sched.get d.sc).pipe.find? (fun r => r.origin.isDebug) = some g) :
    dbgOpDone (.line rx) s = dbgEnd (g.decode s rx).outcome.dbgCode ((List.range 16).map (lineWord (dbgLine s g rx)))
      (readSeen g rx (g.decode s rx) (updSched d.sc (fun q => { q with pipe := q.pipe.filter fun v => v ≠ g }) s)) := by
  unfold dbgOpDone
  simp only [hd, takeTag_first hg]
  rfl

theorem dbgOpDone_mrr {d : Dbg} {vals : List Byte} (hd : s.ras.dbg = some d) (hop : fld d.op 31 28 = 2) (hi : mrrIssued s d.sc = true)
    (hx : isX8 s = false) : dbgOpDone (.mrr vals) s = dbgEnd 0 ((List.range 10).map fun n => (vals.getD n 0).setWidth 32) s := by
  unfold dbgOpDone
  simp only [hd, hop, hi, hx, Bool.false_and, Bool.false_eq_true, if_false, and_self, if_true]

end Sys2Proof.Machine

namespace Sys2Proof

open Sys2Proof.Machine

variable {s : State} {v : Word}

/-! ### Requests -/

/-- A row of RAS_REQ is answered after what its value does. -/
theorem ras_completes {op : Nat} {c : Instr} {x : State} {P : State → Prop} (h : confirms s 0x14020 v) (hop : fld v 31 28 = op)
    (hc : exec c s = run (confirmRow 0x14020 (opIs op) true (~~~v)) s) (hx : actRasReq v (taken 0x14020 v s) = x)
    (hp : P (respOk 0 x)) : completes c s P := by
  refine completes_of_run hc ?_
  rw [ras_confirmed h (by simp [opIs, hop]), hx]
  exact hp

theorem repair_taken (h : confirms s 0x14020 v) (hop : fld v 31 28 = 1) (hb : reqBusy s = false) (he : regBit s 0x14000 4 = true)
    (hl : lineUsable s (reqLla s) = true) (hd : fld v 27 24 < devCount (isX8 s)) :
    completes (.softRepairReq true (~~~v)) s fun t =>
      t.ras.pprWait = s.ras.pprWait ++ [(scOf (reqLla s), reqLla s, fld v 27 24, 0, true)]
      ∧ regGet t 0x14034 = 0x80000000 ∧ t.pp = none ∧ t.out = [.reg 0 0] := by
  have hgeo := SameGeometry.taken v (off := 0x14020) (by decide) s
  have hact := actRepair_waits (v := v) (s := taken 0x14020 v s) ((congrArg (bitOf · 4) (regGet_taken (by decide))).trans he)
    (by rw [reqLla_taken, hgeo.lineUsable, hl]) (by rw [hgeo.isX8]; exact hd)
  rw [reqLla_taken] at hact
  exact ras_completes h hop rfl ((actRasReq_repair ((reqBusy_taken v s).trans hb) hop).trans hact)
    ⟨rfl, setResult_reads true 0 _, rfl, rfl⟩

theorem repair_disabled (h : confirms s 0x14020 v) (hop : fld v 31 28 = 1) (hb : reqBusy s = false) (he : regBit s 0x14000 4 = false) :
    completes (.softRepairReq true (~~~v)) s fun t => t.ras = s.ras ∧ regFld t 0x14034 30 28 = 3 ∧ t.out = [.reg 0 0] := by
  have hact := actRepair_disabled (v := v) (s := taken 0x14020 v s) ((congrArg (bitOf · 4) (regGet_taken (by decide))).trans he)
  exact ras_completes h hop rfl ((actRasReq_repair ((reqBusy_taken v s).trans hb) hop).trans hact)
    ⟨rfl, congrArg (fld · 30 28) (setResult_reads false 3 _), rfl⟩

theorem sparing_taken (h : confirms s 0x14020 v) (hop : fld v 31 28 = 2) (hb : reqBusy s = false)
    (hc : csLive s (chN (fld v 23 23)) (fld v 22 21) = true) (hn : fld v 22 21 < nCs s) (hm : spareMay s (chN (fld v 23 23)) = true) :
    completes (.sparingReq true (~~~v)) s fun t =>
      (t.ras.spare.get (chN (fld v 23 23))).waiting = (s.ras.spare.get (chN (fld v 23 23))).waiting
        ++ [⟨2, BitVec.ofNat 2 (fld v 22 21), scA (chN (fld v 23 23)), 0, 0xF, 0⟩]
      ∧ regGet t 0x14034 = 0x80000000 ∧ t.pp = none ∧ t.out = [.reg 0 0] := by
  have hgeo := SameGeometry.taken v (off := 0x14020) (by decide) s
  have hmay : spareMay (taken 0x14020 v s) (chN (fld v 23 23)) = true := by
    rw [← hm]
    exact congrArg (fun w => bitOf w 2 && _) (regGet_taken (by decide))
  have hact := actSpare_waits (v := v) (s := taken 0x14020 v s) (by rw [hgeo.csLive, hc]) (by rw [hgeo.nCs]; exact hn) hmay
  exact ras_completes h hop rfl ((actRasReq_spare ((reqBusy_taken v s).trans hb) hop).trans hact)
    ⟨congrArg Spare.waiting (vget_vmod_same ..), setResult_reads true 0 _, rfl, rfl⟩

theorem counters_cleared {x : Sc} {u : Nat} (h : confirms s 0x14020 v) (hop : fld v 31 28 = 3) (hb : reqBusy s = false)
    (hx : x = scN (regFld s 0x14090 7 6)) (hu : u = regFld s 0x14090 5 0) (hn : u < nUnits s)
    (hc : csLive s (chOf x) (u / max 1 (nLr s)) = true) :
    completes (.clearCounters true (~~~v)) s fun t =>
      rasUnit t x u = ⟨Vector.replicate 10 0, 0, (rasUnit s x u).mark⟩ ∧ regGet t 0x14034 = 0 ∧ t.pp = none ∧ t.out = [.reg 0 0] := by
  have hgeo := SameGeometry.taken v (off := 0x14020) (by decide) s
  have hsel : ∀ hi lo, regFld (taken 0x14020 v s) 0x14090 hi lo = regFld s 0x14090 hi lo := fun hi lo =>
    congrArg (fld · hi lo) (regGet_taken (by decide))
  have hact := actClear_clears (s := taken 0x14020 v s) (x := x) (u := u) (by rw [hsel, hx]) (by rw [hsel, hu])
    (by rw [hgeo.nUnits]; exact hn) (by rw [hgeo.csLive, hgeo.nLr, hc])
  exact ras_completes h hop rfl ((actRasReq_clear ((reqBusy_taken v s).trans hb) hop).trans hact)
    ⟨rasUnit_setUnit_same .., setResult_reads false 0 _, rfl, rfl⟩

/-- A request while one is in progress shows code 1 and changes nothing else but the request register. -/
theorem ras_busy {op : Nat} {c : Instr} (h : confirms s 0x14020 v) (hop : fld v 31 28 = op)
    (hc : exec c s = run (confirmRow 0x14020 (opIs op) true (~~~v)) s) (hb : reqBusy s = true) :
    completes c s fun t =>
      t.regs = kset (kset s.regs 0x14020 (v &&& maskOf 0x14020)) 0x14034 0x90000000
      ∧ { t with regs := s.regs } = { s with pp := none, out := [.reg 0 0], raised := 0 } :=
  ras_completes h hop hc (actRasReq_busy ((reqBusy_taken v s).trans hb)) ⟨rfl, rfl⟩

/-! ### Debug operations -/

theorem dbg_completes {op : Nat} {c : Instr} {x : State} {P : State → Prop} (h : confirms s 0x38000 v) (hop : fld v 31 28 = op)
    (hd : s.ras.dbg = none) (hc : exec c s = run (confirmRow 0x38000 (opIs op) true (~~~v)) s)
    (hx : actDbg v (taken 0x38000 v s) = x) (hp : P (respOk 0 x)) : completes c s P := by
  refine completes_of_run hc ?_
  rw [dbg_confirmed h (by simp [opIs, hop]) hd, hx]
  exact hp

theorem dbgLla_taken (v : Word) (s : State) : regGet64 (taken 0x38000 v s) 0x38008 = regGet64 s 0x38008 := by
  unfold regGet64
  rw [regGet_taken (by decide), regGet_taken (by decide)]

theorem dbgRead_begins {l : Lla} (h : confirms s 0x38000 v) (hop : fld v 31 28 = 1) (hd : s.ras.dbg = none)
    (hl : l = BitVec.ofNat 38 (regGet64 s 0x38008)) (hu : lineUsable s l = true) (hz : readsZero s l = false) :
    completes (.dbgReadLine true (~~~v)) s fun t =>
      t.ras.dbg = some ⟨v, l⟩
      ∧ (t.sched.get (scOf l)).maint.get 1 = (s.sched.get (scOf l)).maint.get 1 ++ [⟨.lineRead .debug l, none, false, [], none⟩]
      ∧ regGet t 0x38010 = 0x80000000
      ∧ t.out = [.reg 0 0] := by
  have hgeo := (SameGeometry.taken v (off := 0x38000) (by decide) s).dbgBegun v l
  have hact := actDbg_reads (s := taken 0x38000 v s) hd hop (by rw [dbgLla_taken, hl]) (by rw [hgeo.lineUsable, hu]) hz
  exact dbg_completes h hop hd rfl hact ⟨rfl, mntAdd_maint (scOf l) 1 _ (dbgBegun v l (taken 0x38000 v s)), regGet_regSet_same .., rfl⟩

theorem dbgMrr_begins (h : confirms s 0x38000 v) (hop : fld v 31 28 = 2) (hd : s.ras.dbg = none)
    (hc : csLive s (chOf (scN (fld v 25 24))) (fld v 23 22) = true) (hcs : fld v 23 22 < nCs s) (hlr : fld v 21 18 < nLr s) :
    completes (.dbgMrr true (~~~v)) s fun t =>
      (∃ d, t.ras.dbg = some d ∧ d.op = v)
      ∧ (t.sched.get (scN (fld v 25 24))).maint.get 1 = (s.sched.get (scN (fld v 25 24))).maint.get 1
        ++ [⟨.mode .mrr (BitVec.ofNat 2 (fld v 23 22)) (BitVec.ofNat 4 (fld v 21 18)) (.get (.addr (BitVec.ofNat 8 (fld v 7 0)))), none, false, [], none⟩]
      ∧ regGet t 0x38010 = 0x80000000
      ∧ t.out = [.reg 0 0] := by
  have hgeo := (SameGeometry.taken v (off := 0x38000) (by decide) s).dbgBegun v (BitVec.ofNat 38 (regGet64 s 0x38008))
  have hact := actDbg_registers (s := taken 0x38000 v s) (l := BitVec.ofNat 38 (regGet64 s 0x38008)) hd hop (by rw [dbgLla_taken])
    (by rw [hgeo.csLive, hc]) (by rw [hgeo.nCs]; exact hcs) (by rw [hgeo.nLr]; exact hlr)
  exact dbg_completes h hop hd rfl hact ⟨⟨_, rfl, rfl⟩,
    mntAdd_maint (scN (fld v 25 24)) 1 _ (dbgBegun v (BitVec.ofNat 38 (regGet64 s 0x38008)) (taken 0x38000 v s)),
    regGet_regSet_same .., rfl⟩

theorem dbgLine_done {d : Dbg} {g : RdTag} {rx : Capture} (hd : s.ras.dbg = some d)
    (hg : (s.sched.get d.sc).pipe.find? (fun r => r.origin.isDebug) = some g) :
    completes (.dbgOpDone (.line rx)) s fun t =>
      t.ras.dbg = none
      ∧ g ∉ (t.sched.get d.sc).pipe
      ∧ regGet t 0x38010 = pack [(1, 30), ((g.decode s rx).outcome.dbgCode, 27)]
      ∧ (∀ n : Fin 16, regGet t (0x38040 + 4 * n.val) = lineWord ((correctedAt s g.lla (g.burst s rx)).getD (rawLine (g.burst s rx))) n.val) := by
  refine completes_of_run (f := dbgOpDone (.line rx)) rfl ?_
  rw [dbgOpDone_line (s := begin_ s) hd hg]
  refine ⟨dbgEnd_over .., ?_, dbgEnd_status .., fun n => ?_⟩
  · rw [sched_of_seen (dbgEnd_keeps (by decide) ..), sched_of_seen (readSeen_keeps (by decide) ..), updSched, vget_vmod_same]
    simp
  · rw [dbgEnd_data _ _ _ n.isLt, List.getD_eq_getElem _ _ (by simp), List.getElem_map, List.getElem_range]
    rfl

theorem dbgMrr_done {d : Dbg} {vals : List Byte} (hd : s.ras.dbg = some d) (hop : fld d.op 31 28 = 2) (hi : mrrIssued s d.sc = true)
    (hx : isX8 s = false) :
    completes (.dbgOpDone (.mrr vals)) s fun t =>
      t.ras.dbg = none
      ∧ regGet t 0x38010 = 0x40000000
      ∧ (∀ n : Fin 10, regGet t (0x38040 + 4 * n.val) = (vals.getD n.val 0).setWidth 32) := by
  refine completes_of_run (f := dbgOpDone (.mrr vals)) rfl ?_
  rw [dbgOpDone_mrr (s := begin_ s) hd hop hi hx]
  refine ⟨dbgEnd_over .., dbgEnd_status .., fun n => ?_⟩
  rw [dbgEnd_data _ _ _ (n.isLt.trans (by decide)), List.getD_eq_getElem _ _ (by simp), List.getElem_map, List.getElem_range]

/-- Settles O36. -/
theorem rasRequestsAndDebug : Obligations.RasRequestsAndDebug :=
  ⟨fun _ _ => repair_taken, fun _ _ => repair_disabled, fun _ _ => sparing_taken, fun _ _ _ _ => counters_cleared,
    fun _ _ h hop => ras_busy h hop rfl, fun _ _ h hop => ras_busy h hop rfl, fun _ _ h hop => ras_busy h hop rfl,
    fun _ _ _ => dbgRead_begins, fun _ _ => dbgMrr_begins, fun _ _ _ _ => dbgLine_done, fun _ _ _ => dbgMrr_done⟩

end Sys2Proof
end

section
/-! SUPPORT. The quiesce protocol: where a pause starts, and what its end leaves of it (R74 to R80). -/

namespace Sys2Proof.Machine

variable {s : State}

/-! ### The end of a pause (R76, R78) -/

theorem ackFalls_waits (hp : s.qz.ph ≠ .ended) : ackFalls s = s := by
  unfold ackFalls
  exact if_neg (by simp [hp])

theorem ackFalls_qz (hp : s.qz.ph = .ended) :
    (ackFalls s).qz = { s.qz with ph := if s.qz.req then .ended else .idle, ack := s.qz.req && s.qz.ack } := by
  cases hr : s.qz.req with
  | false => rw [ackFalls_ended hr hp]; rfl
  | true =>
    unfold ackFalls
    rw [if_neg (by simp [hr]), if_pos rfl, Bool.true_and, ← hp]

theorem finishPause_serves (hc : s.glb.ctl = .quiesced) :
    (finishPause s).glb.ctl = .service ∧ (finishPause s).qz =
      { s.qz with paused := false, ph := if s.qz.req then .ended else .idle, ack := s.qz.req && s.qz.ack } := by
  obtain ⟨hq, hctl⟩ := arriveService_ended (s := updQz (fun q => { q with ph := .ended, paused := false }) s) rfl
  unfold finishPause
  dsimp only
  rw [if_pos (show (updQz _ s).glb.ctl = .quiesced from hc)]
  refine ⟨ctl_keeps (ackFalls_keeps (by decide) _) hctl, ?_⟩
  rw [ackFalls_qz (by rw [hq]; rfl), hq]
  rfl

theorem finishPause_elsewhere (hc : s.glb.ctl ≠ .quiesced) (hr : s.qz.req = false) :
    finishPause s = { s with qz := { s.qz with paused := false, ph := .idle, ack := false } } := by
  unfold finishPause
  dsimp only
  rw [if_neg (show ¬ (updQz _ s).glb.ctl = .quiesced from hc), ackFalls_ended (by exact hr) rfl]
  rfl

theorem endPause_waits (hp : s.qz.ph ≠ .paused) : endPause s = s := if_pos hp

theorem endPause_deep (hp : s.qz.ph = .paused) (hc : s.glb.ctl = .quiesced) (hd : s.qz.deep = true) :
    endPause s = { s with qz := { s.qz with ph := .exiting } } := by
  unfold endPause
  rw [if_neg (by simp [hp]), if_pos (by simp [hc, hd])]
  rfl

theorem endPause_finishes (hp : s.qz.ph = .paused) (hd : s.glb.ctl = .quiesced → s.qz.deep = false) :
    endPause s = finishPause s := by
  unfold endPause
  rw [if_neg (by simp [hp]), if_neg (by simpa using hd)]

/-- The level of qz_req is low. -/
def reqLow (s : State) : State := updQz (fun q => { q with req := false }) s

theorem qzReqFall_eq (hr : s.qz.req = true) : qzReqFall s = ackFalls (endPause (reqLow s)) := by
  unfold qzReqFall
  exact if_neg (by simp [hr])

end Sys2Proof.Machine
end

section
/-! The end of a pause or drain (R76, R78). -/

namespace Sys2Proof
open Machine

variable {s : State}

theorem hold_ends_shallow (hh : s.qz.hold ≠ 0xFFFF) (hp : s.qz.ph = .paused) (hc : s.glb.ctl = .quiesced)
    (hd : s.qz.deep = false) :
    completes .qzHoldExpiry s fun t =>
      t.glb.ctl = .service
      ∧ t.qz = { s.qz with paused := false, ph := if s.qz.req then .ended else .idle, ack := s.qz.req && s.qz.ack } := by
  refine completes_of_run (f := qzHoldExpiry) rfl ?_
  rw [qzHoldExpiry, if_neg (show ¬ (begin_ s).qz.hold = 0xFFFF from hh), endPause_finishes (s := begin_ s) hp fun _ => hd]
  exact finishPause_serves (s := begin_ s) hc

theorem hold_ends_deep (hh : s.qz.hold ≠ 0xFFFF) (hp : s.qz.ph = .paused) (hc : s.glb.ctl = .quiesced)
    (hd : s.qz.deep = true) :
    completes .qzHoldExpiry s fun t => t = { s with qz := { s.qz with ph := .exiting }, out := [], raised := 0 } := by
  refine completes_of_run (f := qzHoldExpiry) rfl ?_
  rw [qzHoldExpiry, if_neg (show ¬ (begin_ s).qz.hold = 0xFFFF from hh), endPause_deep (s := begin_ s) hp hc hd]
  rfl

theorem fall_ends_shallow (hr : s.qz.req = true) (hp : s.qz.ph = .paused) (hc : s.glb.ctl = .quiesced)
    (hd : s.qz.deep = false) :
    completes .qzReqFall s fun t =>
      t.glb.ctl = .service ∧ t.qz = { s.qz with req := false, paused := false, ph := .idle, ack := false } := by
  obtain ⟨hctl, hqz⟩ := finishPause_serves (s := reqLow (begin_ s)) hc
  refine completes_of_run (f := qzReqFall) rfl ?_
  rw [qzReqFall_eq (s := begin_ s) hr, endPause_finishes (s := reqLow (begin_ s)) hp fun _ => hd,
    ackFalls_waits (by rw [hqz]; exact nofun)]
  exact ⟨hctl, hqz⟩

theorem fall_ends_deep (hr : s.qz.req = true) (hp : s.qz.ph = .paused) (hc : s.glb.ctl = .quiesced)
    (hd : s.qz.deep = true) :
    completes .qzReqFall s fun t =>
      t = { s with qz := { s.qz with req := false, ph := .exiting }, out := [], raised := 0 } := by
  refine completes_of_run (f := qzReqFall) rfl ?_
  rw [qzReqFall_eq (s := begin_ s) hr, endPause_deep (s := reqLow (begin_ s)) hp hc hd, ackFalls_waits (by exact nofun)]
  rfl

theorem fall_ends_elsewhere (hr : s.qz.req = true) (hp : s.qz.ph = .paused) (hc : s.glb.ctl ≠ .quiesced) :
    completes .qzReqFall s fun t =>
      t = { s with qz := { s.qz with req := false, paused := false, ph := .idle, ack := false }, out := [], raised := 0 } := by
  refine completes_of_run (f := qzReqFall) rfl ?_
  rw [qzReqFall_eq (s := begin_ s) hr, endPause_finishes (s := reqLow (begin_ s)) hp fun h => absurd h hc,
    finishPause_elsewhere (s := reqLow (begin_ s)) hc rfl, ackFalls_waits (by exact nofun)]
  rfl

theorem fall_noted (hr : s.qz.req = true) (hp : s.qz.ph ≠ .paused) (he : s.qz.ph ≠ .ended) :
    completes .qzReqFall s fun t => t = { s with qz := { s.qz with req := false }, out := [], raised := 0 } := by
  refine completes_of_run (f := qzReqFall) rfl ?_
  rw [qzReqFall_eq (s := begin_ s) hr, endPause_waits (s := reqLow (begin_ s)) hp,
    ackFalls_waits (s := reqLow (begin_ s)) he]
  rfl

theorem fall_lowers_ack (hr : s.qz.req = true) (he : s.qz.ph = .ended) :
    completes .qzReqFall s fun t =>
      t = { s with qz := { s.qz with req := false, ph := .idle, ack := false }, out := [], raised := 0 } := by
  refine completes_of_run (f := qzReqFall) rfl ?_
  rw [qzReqFall_eq (s := begin_ s) hr, endPause_waits (s := reqLow (begin_ s)) (fun h => nomatch he.symm.trans h),
    ackFalls_ended (s := reqLow (begin_ s)) rfl he]
  rfl

theorem deep_exit_done (hc : s.glb.ctl = .quiesced) (hp : s.qz.ph = .exiting) :
    completes .deepPauseExitDone s fun t =>
      t.glb.ctl = .service
      ∧ t.qz.paused = false
      ∧ (t.qz.ph = if s.qz.req then .ended else .idle)
      ∧ (∀ x ∈ liveScs s, t.pwr.sc.get x ≠ .selfRefresh) := by
  have exits : deepPauseExitDone (begin_ s) = finishPause (srExitAll (begin_ s)) :=
    if_pos (Bool.and_eq_true_iff.2 ⟨decide_eq_true hc, decide_eq_true hp⟩)
  have hq : (srExitAll (begin_ s)).qz = s.qz := qz_of_seen (s := begin_ s) (by simp)
  obtain ⟨hctl, hqz⟩ := finishPause_serves (ctl_keeps (srExitAll_keeps (by decide) (begin_ s)) hc)
  refine completes_of_run (f := deepPauseExitDone) rfl ?_
  rw [exits, hqz, hq]
  refine ⟨hctl, rfl, rfl, fun x hx => ?_⟩
  rw [pwr_sc_of_seen (finishPause_keeps (by decide) _)]
  exact srExitAll_wakes (s := begin_ s) hx

/-- Settles O20: a shallow pause arrives in SERVICE at once, a deep one past its exit from self-refresh. -/
theorem pauseEnds : Obligations.PauseEnds :=
  ⟨fun _ => hold_ends_shallow, fun _ => hold_ends_deep, fun _ => fall_ends_shallow, fun _ => fall_ends_deep,
    fun _ => fall_ends_elsewhere, fun _ => fall_noted, fun _ => fall_lowers_ack, fun _ => deep_exit_done⟩

end Sys2Proof
end

section
/-! SUPPORT. The start of a pause: what it leaves of the ports, the requesters and the ranks (R74 to R76). -/

namespace Sys2Proof.Machine

variable {s : State}

/-! ### The requesters are masked (R75, R219) -/

theorem endWait_maskVec (x y : Sc) (q : Fin 7) (s : State) :
    ((endWait y q s).sched.get x).maskVec = (s.sched.get x).maskVec := by
  unfold endWait
  split
  · rfl
  · by_cases hxy : x = y
    · subst hxy
      simp [regSet, bump, bumpBy, updSched]
    · simp [regSet, bump, bumpBy, updSched, vget_vmod_other _ _ hxy]

theorem setMask_masks_other {x y : Sc} (hxy : x ≠ y) (on : Bool) (s : State) :
    ((setMask y on s).sched.get x).maskVec = (s.sched.get x).maskVec := by
  have waits : ((onlyIf on (forAll (fins 7) (endWait y)) s).sched.get x).maskVec = (s.sched.get x).maskVec :=
    onlyIf_inv (P := fun u => (u.sched.get x).maskVec = (s.sched.get x).maskVec)
      (forAll_inv _ fun q u h => (endWait_maskVec x y q u).trans h) rfl
  rw [← waits]
  simp [setMask, updSched, vget_vmod_other _ _ hxy]

theorem setMask_stays {x y : Sc} (h : (s.sched.get x).maskVec = BitVec.allOnes 7) :
    ((setMask y true s).sched.get x).maskVec = BitVec.allOnes 7 := by
  by_cases hxy : x = y
  · rw [hxy, setMask_masks]
    rfl
  · rw [setMask_masks_other hxy, h]

/-! ### QUIESCED is entered (R74, R75, R76) -/

theorem cycleEnds_held (level : Bool) (p : PortId) (s : State) : ((cycleEnds level s).ports.get p).held = level := by
  simp [cycleEnds]

theorem pauseStarts_held (p : PortId) (s : State) : ((pauseStarts s).ports.get p).held = true := by
  have e : (pauseStarts s).ports = (cycleEnds true s).ports := by
    unfold pauseStarts
    dsimp only
    split
    · exact ports_of_seen (by simp)
    · exact ports_of_seen (by simp)
  rw [e, cycleEnds_held]

theorem pauseStarts_qz (s : State) : (pauseStarts s).qz =
    if s.qz.deep then { s.qz with ph := .waitSr } else { s.qz with ph := .paused, ack := true, paused := true } := by
  have hq : (enter .quiesced (cycleEnds true s)).qz = s.qz := qz_of_seen (by simp)
  unfold pauseStarts
  dsimp only
  rw [hq]
  split
  · rw [qz_of_seen (forAll_keeps _ _ _ fun x u => setMask_keeps (by decide) x true u), updQz, hq]
  · rw [updQz, hq]

theorem pauseStarts_masks {x : Sc} (hd : s.qz.deep = true) (hx : x ∈ liveScs s) :
    ((pauseStarts s).sched.get x).maskVec = BitVec.allOnes 7 := by
  have hq : (enter .quiesced (cycleEnds true s)).qz = s.qz := qz_of_seen (by simp)
  have hl : liveScs (enter .quiesced (cycleEnds true s)) = liveScs s := by
    unfold liveScs chLive
    rw [(enter_does ..).1, alert_of_seen (s := s) (by simp)]
    rfl
  unfold pauseStarts
  dsimp only
  rw [if_pos (by rw [hq]; exact hd), hl]
  exact forAll_reach (f := fun x => setMask x true) (P := fun _ => True)
    (Q := fun u => (u.sched.get x).maskVec = BitVec.allOnes 7) hx
    (fun _ _ _ => trivial) (fun _ _ => setMask_stays) (fun u _ => setMask_masks x true u) trivial

/-! ### The ranks enter self-refresh (R75, R482) -/

theorem srEnter_asleep {x : Sc} (h : s.pwr.sc.get x = .selfRefresh) : srEnter x s = s := if_pos h

theorem powerUp_sc_other {x y : Sc} (hxy : x ≠ y) (s : State) : (powerUp y s).pwr.sc.get x = s.pwr.sc.get x := by
  have ranks : (toRanks y .pdx false s).pwr.sc = s.pwr.sc := pwr_sc_of_seen (toRanks_keeps (by decide) ..)
  unfold powerUp
  split
  · rw [pwr_sc_of_seen (setMask_keeps (by decide) ..), updPwr, ranks]
    exact vget_vset_other _ _ hxy
  · rfl

/-- No entry takes another sub-channel out of self-refresh. -/
theorem srEnter_keeps_asleep {x y : Sc} (h : s.pwr.sc.get x = .selfRefresh) : (srEnter y s).pwr.sc.get x = .selfRefresh := by
  by_cases hxy : x = y
  · rwa [← hxy, srEnter_asleep h]
  by_cases hy : s.pwr.sc.get y = .selfRefresh
  · rwa [srEnter_asleep hy]
  · have ranks : (toRanks y .sre false (toRanks y .preAb true (powerUp y s))).pwr.sc = (powerUp y s).pwr.sc :=
      pwr_sc_of_seen ((toRanks_keeps (by decide) ..).trans (toRanks_keeps (by decide) ..))
    rw [srEnter_awake hy, srEntered, pwr_sc_of_seen ((noteSr_keeps (by decide) ..).trans (setMask_keeps (by decide) ..)),
      updPwr, ranks, vget_vset_other _ _ hxy, powerUp_sc_other hxy, h]

theorem srEnter_sleeps (x : Sc) (s : State) : (srEnter x s).pwr.sc.get x = .selfRefresh := by
  by_cases h : s.pwr.sc.get x = .selfRefresh
  · rwa [srEnter_asleep h]
  · exact srEnter_sc h

theorem srEnterAll_sleeps {x : Sc} (hx : x ∈ liveScs s) : (srEnterAll s).pwr.sc.get x = .selfRefresh :=
  forAll_reach (f := srEnter) (P := fun _ => True) (Q := fun s => s.pwr.sc.get x = .selfRefresh) hx (fun _ _ _ => trivial)
    (fun _ _ => srEnter_keeps_asleep) (fun s _ => srEnter_sleeps x s) trivial

/-! ### A rise of qz_req (R73, R77, R80) -/

section
variable (hold : BitVec 16) (deep : Bool) (hr : s.qz.req = false) (ha : s.qz.ack = false)
include hr ha

theorem qzReqRise_service (hc : s.glb.ctl = .service) : qzReqRise hold deep s =
    { s with qz := ⟨true, hold, deep, if hold = 0 then .barrier else .boundary, false, false⟩ } := by
  unfold qzReqRise
  rw [if_neg (by simp [hr, ha, hc])]
  simp only [hc]
  rfl

theorem qzReqRise_waits (hc : s.glb.ctl = .castOn ∨ s.glb.ctl = .gearChange) : qzReqRise hold deep s =
    { s with qz := ⟨true, hold, deep, .deferred, false, false⟩ } := by
  unfold qzReqRise
  rcases hc with hc | hc
  all_goals
    rw [if_neg (by simp [hr, ha, hc])]
    simp only [hc]
    rfl

theorem qzReqRise_idle (hc : s.glb.ctl = .dormant ∨ s.glb.ctl = .halted) : qzReqRise hold deep s =
    { s with qz := ⟨true, hold, deep, if hold = 0 then .ended else .paused, true, decide (hold ≠ 0)⟩ } := by
  unfold qzReqRise
  rcases hc with hc | hc
  all_goals
    rw [if_neg (by simp [hr, ha, hc])]
    simp only [hc]
    by_cases hz : hold = 0
    · simp only [hz, if_true]
      rfl
    · simp only [hz, if_false, ne_eq, not_false_eq_true, decide_true]
      rfl

theorem qzReqRise_noted (hc : s.glb.ctl = .quiesced ∨ s.glb.ctl = .held) : qzReqRise hold deep s =
    { s with qz := { s.qz with req := true } } := by
  unfold qzReqRise
  rcases hc with hc | hc
  all_goals
    rw [if_neg (by simp [hr, ha, hc])]
    simp only [hc]
    rfl

end

end Sys2Proof.Machine
end

section
/-! The beginning of a pause or drain (R73 to R77, R80). -/

namespace Sys2Proof
open Machine

variable {s : State} {hold : BitVec 16} {deep : Bool}

theorem rise_in_service (hr : s.qz.req = false) (ha : s.qz.ack = false) (hc : s.glb.ctl = .service) :
    completes (.qzReqRise hold deep) s fun t =>
      t.qz = ⟨true, hold, deep, if hold = 0 then .barrier else .boundary, false, false⟩
      ∧ t.glb.ctl = .service
      ∧ t.ports = s.ports
      ∧ t.out = [] := by
  refine completes_of_run (f := qzReqRise hold deep) rfl ?_
  rw [qzReqRise_service (s := begin_ s) hold deep hr ha hc]
  exact ⟨rfl, hc, rfl, rfl⟩

theorem rise_deferred (hr : s.qz.req = false) (ha : s.qz.ack = false) (hc : s.glb.ctl = .castOn ∨ s.glb.ctl = .gearChange) :
    completes (.qzReqRise hold deep) s fun t =>
      t = { s with qz := ⟨true, hold, deep, .deferred, false, false⟩, out := [], raised := 0 } := by
  refine completes_of_run (f := qzReqRise hold deep) rfl ?_
  rw [qzReqRise_waits (s := begin_ s) hold deep hr ha hc]
  rfl

theorem rise_acknowledged (hr : s.qz.req = false) (ha : s.qz.ack = false) (hc : s.glb.ctl = .dormant ∨ s.glb.ctl = .halted) :
    completes (.qzReqRise hold deep) s fun t =>
      t = { s with
        qz := ⟨true, hold, deep, if hold = 0 then .ended else .paused, true, decide (hold ≠ 0)⟩, out := [], raised := 0 } := by
  refine completes_of_run (f := qzReqRise hold deep) rfl ?_
  rw [qzReqRise_idle (s := begin_ s) hold deep hr ha hc]
  rfl

theorem rise_noted (hr : s.qz.req = false) (ha : s.qz.ack = false) (hc : s.glb.ctl = .quiesced ∨ s.glb.ctl = .held) :
    completes (.qzReqRise hold deep) s fun t => t = { s with qz := { s.qz with req := true }, out := [], raised := 0 } := by
  refine completes_of_run (f := qzReqRise hold deep) rfl ?_
  rw [qzReqRise_noted (s := begin_ s) hold deep hr ha hc]
  rfl

theorem pause_takes_effect (hc : s.glb.ctl = .service) (hp : s.qz.ph = .boundary) (hw : s.reqs.any Req.outside = false)
    (hb : (liveScs s).all (hostBusDone s) = true) :
    completes .pauseTakeEffect s fun t =>
      t.glb.ctl = .quiesced
      ∧ (∀ p : PortId, (t.ports.get p).held = true)
      ∧ (if s.qz.deep then t.qz = { s.qz with ph := .waitSr }
        ∧ ∀ x ∈ liveScs s, ∀ m : Fin 7, (t.sched.get x).maskVec.getLsbD m.val = true
      else t.qz = { s.qz with ph := .paused, ack := true, paused := true }) := by
  have starts : pauseTakeEffect (begin_ s) = pauseStarts (begin_ s) := by
    have hc' : (begin_ s).glb.ctl = .service := hc
    have hp' : (begin_ s).qz.ph = .boundary := hp
    have hw' : (begin_ s).reqs.any Req.outside = false := hw
    have hb' : (liveScs (begin_ s)).all (hostBusDone (begin_ s)) = true := hb
    unfold pauseTakeEffect
    rw [hc', hp', hw', hb']
    rfl
  refine completes_of_run (f := pauseTakeEffect) rfl ?_
  rw [starts]
  refine ⟨pauseStarts_ctl _, fun p => pauseStarts_held p _, ?_⟩
  have hq := pauseStarts_qz (begin_ s)
  split
  · next hd =>
    refine ⟨hq.trans (if_pos hd), fun x hx m => ?_⟩
    rw [pauseStarts_masks (s := begin_ s) hd hx, BitVec.getLsbD_allOnes]
    exact decide_eq_true m.isLt
  · next hd => exact hq.trans (if_neg hd)

theorem deep_pause_asleep (hc : s.glb.ctl = .quiesced) (hp : s.qz.ph = .waitSr) (hb : (liveScs s).all (busDone s) = true)
    (hm : repairMode s = false) :
    completes .deepPauseSrDone s fun t =>
      t.qz = { s.qz with ph := .paused, ack := true, paused := true }
      ∧ t.glb.ctl = .quiesced
      ∧ (∀ x ∈ liveScs s, t.pwr.sc.get x = .selfRefresh) := by
  have pauses : deepPauseSrDone (begin_ s)
      = updQz (fun q => { q with ph := .paused, ack := true, paused := true }) (srEnterAll (begin_ s)) := by
    have hc' : (begin_ s).glb.ctl = .quiesced := hc
    have hp' : (begin_ s).qz.ph = .waitSr := hp
    have hb' : (liveScs (begin_ s)).all (busDone (begin_ s)) = true := hb
    have hm' : repairMode (begin_ s) = false := hm
    unfold deepPauseSrDone
    rw [hc', hp', hb', hm']
    rfl
  have hq : (srEnterAll (begin_ s)).qz = s.qz := qz_of_seen (s := begin_ s) (by simp)
  refine completes_of_run (f := deepPauseSrDone) rfl ?_
  rw [pauses]
  refine ⟨?_, ctl_keeps (s := begin_ s) (by simp) hc, fun x hx => srEnterAll_sleeps (s := begin_ s) hx⟩
  rw [updQz, hq]

theorem drain_completes (hc : s.glb.ctl = .service) (hp : s.qz.ph = .barrier) (ha : allAnswered s = true) :
    completes .drainBarrierComplete s fun t =>
      t = { cycleEnds true s with qz := { s.qz with ph := .ended, ack := true }, out := [], raised := 0 } := by
  have ends : drainBarrierComplete (begin_ s) = barrierEnds (begin_ s) := by
    have hc' : (begin_ s).glb.ctl = .service := hc
    have hp' : (begin_ s).qz.ph = .barrier := hp
    have ha' : allAnswered (begin_ s) = true := ha
    unfold drainBarrierComplete
    rw [hc', hp', ha']
    rfl
  exact completes_of_run (f := drainBarrierComplete) rfl ends

/-- Settles O19: the state decides what a rise of qz_req begins, and each boundary leaves what its entry leaves. -/
theorem pauseBegins : Obligations.PauseBegins :=
  ⟨fun _ _ _ => rise_in_service, fun _ _ _ => rise_deferred, fun _ _ _ => rise_acknowledged, fun _ _ _ => rise_noted,
    fun _ => pause_takes_effect, fun _ => deep_pause_asleep, fun _ => drain_completes⟩

end Sys2Proof
end


section
/-! SUPPORT. The way from Cast-On into SERVICE, past a pause or a drain barrier that waited (R77, R80, R162), and the timers
that halt Cast-On (R170, R518). -/

namespace Sys2Proof.Machine

variable {s t : State}

theorem atStep_iff {n : Byte} : atStep s n = true ↔ s.glb.ctl = .castOn ∧ s.glb.step = n := by
  simp [atStep]

/-- An expiry stays counted under what leaves the counts alone. -/
theorem countsExpiry_of_timeout {code : Nat} {sev : Fin 8} {src : Nat} {esc : Bool} {subject detail : Nat}
    (e : t.seen 0x1fffffffbffffffffffffffffffffffffffffffffffff =
      (timeout code sev src esc subject detail s).seen 0x1fffffffbffffffffffffffffffffffffffffffffffff) :
    countsExpiry code s t := by
  rw [countsExpiry, evt_expiries_of_seen e, timeout_counts, sat_eq_min]

/-! ### SERVICE is entered (R80, R162) -/

theorem enterService_glb (s : State) : (enterService s).glb = { s.glb with ctl := .service } := by
  unfold enterService
  rw [(enter_does ..).1, glb_of_seen (onlyIf_keeps _ _ _ (regSet64_keeps _ _ _ (by decide +kernel) (by decide +kernel)))]

/-- A drain barrier that waited is taken in SERVICE. -/
def barrierTaken (s : State) : State := updQz (fun q => { q with ph := .barrier }) (enterService (cycleEnds true s))

theorem arriveService_drains (hp : s.qz.ph = .deferred) (hh : s.qz.hold = 0) :
    arriveService s = panicUpdate (servicePump (onlyIf (allAnswered (barrierTaken s)) barrierEnds (barrierTaken s))) := by
  unfold arriveService
  dsimp only
  rw [if_pos (show (cycleEnds true s).qz.ph = .deferred from hp), if_pos (show (cycleEnds true s).qz.hold = 0 from hh)]
  rfl

theorem arriveService_pauses (hp : s.qz.ph = .deferred) (hh : s.qz.hold ≠ 0) :
    arriveService s = panicUpdate (pauseStarts (cycleEnds true s)) := by
  unfold arriveService
  dsimp only
  rw [if_pos (show (cycleEnds true s).qz.ph = .deferred from hp), if_neg (show ¬ (cycleEnds true s).qz.hold = 0 from hh)]

theorem arriveService_undeferred (hp : s.qz.ph ≠ .deferred) : (arriveService s).glb.ctl = .service :=
  (arriveService_ctl s).resolve_right fun h => hp h.2

theorem barrierTaken_ctl (s : State) : (barrierTaken s).glb.ctl = .service := congrArg Glb.ctl (enterService_glb _)

theorem barrierTaken_qz (s : State) : (barrierTaken s).qz = { s.qz with ph := .barrier } := by
  have hq : (enterService (cycleEnds true s)).qz = s.qz := qz_of_seen (by simp)
  rw [barrierTaken, updQz, hq]

theorem barrierTaken_reqs (s : State) : (barrierTaken s).reqs = s.reqs := reqs_of_seen (by simp [barrierTaken])

theorem arriveService_drains_ctl (hp : s.qz.ph = .deferred) (hh : s.qz.hold = 0) : (arriveService s).glb.ctl = .service := by
  rw [arriveService_drains hp hh]
  exact ctl_keeps (s := barrierTaken s) (by simp) (barrierTaken_ctl s)

theorem arriveService_drains_qz (hp : s.qz.ph = .deferred) (hh : s.qz.hold = 0) : (arriveService s).qz =
    if allAnswered s then { s.qz with ph := .ended, ack := true } else { s.qz with ph := .barrier } := by
  have ha : allAnswered (barrierTaken s) = allAnswered s := by rw [allAnswered, barrierTaken_reqs, allAnswered]
  have pumped : ∀ u, (panicUpdate (servicePump u)).qz = u.qz := fun u => qz_of_seen (by simp)
  rw [arriveService_drains hp hh, pumped, ha, onlyIf]
  split
  · show { (barrierTaken s).qz with ph := .ended, ack := true } = _
    rw [barrierTaken_qz]
  · exact barrierTaken_qz s

theorem arriveService_pauses_held (hp : s.qz.ph = .deferred) (hh : s.qz.hold ≠ 0) (p : PortId) :
    ((arriveService s).ports.get p).held = true := by
  rw [arriveService_pauses hp hh, ports_of_seen (panicUpdate_keeps (by decide) _)]
  exact pauseStarts_held ..

theorem arriveService_pauses_qz (hp : s.qz.ph = .deferred) (hh : s.qz.hold ≠ 0) : (arriveService s).qz =
    if s.qz.deep then { s.qz with ph := .waitSr } else { s.qz with ph := .paused, ack := true, paused := true } := by
  rw [arriveService_pauses hp hh, qz_of_seen (panicUpdate_keeps (by decide) _)]
  exact pauseStarts_qz (cycleEnds true s)

theorem arriveService_pauses_ctl (hp : s.qz.ph = .deferred) (hh : s.qz.hold ≠ 0) : (arriveService s).glb.ctl = .quiesced := by
  rw [arriveService_pauses hp hh]
  exact ctl_keeps (panicUpdate_keeps (by decide) _) (pauseStarts_ctl _)

/-- The state in which SERVICE_ENTRY arrives: Cast-On is over, the pair joins and the instances are thawed. -/
def castOnOver (s : State) : State :=
  glgRelease s.glb.restart (updGlb (fun g => { g with served := true, restart := false }) (joinStart (noteRetained s)))

theorem serviceEntry_arrives (h : atStep s 0x0B = true) (he : earlyService (image s) = true ∨ initLeft s = 0) :
    serviceEntry s = arriveService (castOnOver s) := by
  have hn : (!atStep s 0x0B || (!earlyService (image s) && initLeft s ≠ 0)) = false := by
    rw [h]
    rcases he with he | he
    · simp [he]
    · simp [he]
  unfold serviceEntry
  rw [hn]
  rfl

theorem serviceEntry_waits (he : earlyService (image s) = false) (hi : initLeft s ≠ 0) : serviceEntry s = s :=
  if_pos (by simp [he, hi])

theorem castOnOver_qz (s : State) : (castOnOver s).qz = s.qz := qz_of_seen (by simp [castOnOver])

theorem castOnOver_reqs (s : State) : (castOnOver s).reqs = s.reqs := reqs_of_seen (by simp [castOnOver])

theorem arrived_marks (s : State) :
    (arriveService (castOnOver s)).glb.served = true ∧ (arriveService (castOnOver s)).glb.restart = false := by
  have marked : (castOnOver s).glb = (updGlb (fun g => { g with served := true, restart := false })
      (joinStart (noteRetained s))).glb := glb_of_seen (glgRelease_keeps (by decide) ..)
  rw [glb_served_of_seen (arriveService_keeps (by decide) _), glb_restart_of_seen (arriveService_keeps (by decide) _), marked]
  exact ⟨rfl, rfl⟩

/-! ### The carve-outs (R157, R159) -/

theorem carved_iff : carved s = true ↔
    (∀ x ∈ liveScs s, ∀ m ∈ ((s.sched.get x).maint.get 2) ++ ((s.sched.get x).maint.get 3), m.carves = false)
      ∧ ∀ x ∈ liveScs s, ∀ w ∈ (s.sched.get x).lines, w.done = true := by
  simp only [carved, List.all_eq_true, Bool.and_eq_true, Bool.not_eq_true', List.any_eq_false, List.mem_append,
    Bool.not_eq_true]
  constructor
  · intro h
    exact ⟨fun x hx m hm => hm.elim ((h x hx).1.1 m) ((h x hx).1.2 m), fun x hx => (h x hx).2⟩
  · intro ⟨hm, hl⟩ x hx
    exact ⟨⟨fun m h => hm x hx m (.inl h), fun m h => hm x hx m (.inr h)⟩, hl x hx⟩

end Sys2Proof.Machine
end

section
/-! The end of the carve-outs, their watchdog, and the entry of SERVICE (R157, R159, R162, R170). -/

namespace Sys2Proof
open Machine

variable {s : State}

theorem carve_out_done (h : atStep s 0x0A = true)
    (hm : ∀ x ∈ liveScs s, ∀ m ∈ ((s.sched.get x).maint.get 2) ++ ((s.sched.get x).maint.get 3), m.carves = false)
    (hl : ∀ x ∈ liveScs s, ∀ w ∈ (s.sched.get x).lines, w.done = true) :
    completes .carveOutDone s fun t =>
      t.glb.ctl = .castOn ∧ t.glb.step = 0x0B ∧ t.glb.init = s.glb.init ∧ t.out = [] := by
  have ends : carveOutDone (begin_ s) = toStep 0x0B (begin_ s) :=
    if_pos (Bool.and_eq_true_iff.2 ⟨h, (carved_iff (s := begin_ s)).2 ⟨hm, hl⟩⟩)
  refine completes_of_run (f := carveOutDone) rfl ?_
  rw [ends]
  exact ⟨castOn_of_atStep (s := s) h, rfl, rfl, rfl⟩

theorem carve_out_waits {x : Sc} {m : MntCmd} (hx : x ∈ liveScs s)
    (hm : m ∈ ((s.sched.get x).maint.get 2) ++ ((s.sched.get x).maint.get 3)) (hc : m.carves = true) :
    completes .carveOutDone s fun t => t = begin_ s := by
  have hn : ¬ carved (begin_ s) = true := fun h => by
    rw [(carved_iff (s := begin_ s)).1 h |>.1 x hx m hm] at hc
    exact nomatch hc
  exact completes_of_run (f := carveOutDone) rfl (if_neg fun h => hn (Bool.and_eq_true_iff.1 h).2)

theorem carve_out_halts {x : Sc} (h : atStep s 0x0A = true) :
    completes (.carveOutWatchdog x) s fun t =>
      t.glb.ctl = .halted ∧ t.glb.haltCause = 0x0C ∧ countsExpiry 0x0B s t := by
  refine completes_of_run (f := carveOutWatchdog x) rfl ?_
  rw [carveOutWatchdog, if_pos (show atStep (begin_ s) 0x0A = true from h)]
  exact ⟨(halt_does ..).1, (halt_does ..).2.1, countsExpiry_of_timeout (s := begin_ s) (halt_keeps (by decide) ..)⟩

section
variable (h : atStep s 0x0B = true) (he : earlyService (image s) = true ∨ initLeft s = 0)
include h he

theorem service_entered (hp : s.qz.ph ≠ .deferred) :
    completes .serviceEntry s fun t => t.glb.ctl = .service ∧ t.glb.served = true ∧ t.glb.restart = false := by
  refine completes_of_run (f := serviceEntry) rfl ?_
  rw [serviceEntry_arrives (s := begin_ s) h he]
  exact ⟨arriveService_undeferred (by rw [castOnOver_qz]; exact hp), arrived_marks _⟩

theorem service_pauses (hp : s.qz.ph = .deferred) (hh : s.qz.hold ≠ 0) :
    completes .serviceEntry s fun t =>
      t.glb.ctl = .quiesced
      ∧ t.glb.served = true
      ∧ t.glb.restart = false
      ∧ (∀ p : PortId, (t.ports.get p).held = true)
      ∧ (if s.qz.deep then t.qz = { s.qz with ph := .waitSr }
        else t.qz = { s.qz with ph := .paused, ack := true, paused := true }) := by
  have hq : (castOnOver (begin_ s)).qz = s.qz := castOnOver_qz _
  have hp' : (castOnOver (begin_ s)).qz.ph = .deferred := by rw [hq, hp]
  have hh' : (castOnOver (begin_ s)).qz.hold ≠ 0 := by rwa [hq]
  obtain ⟨hserved, hrestart⟩ := arrived_marks (begin_ s)
  refine completes_of_run (f := serviceEntry) rfl ?_
  rw [serviceEntry_arrives (s := begin_ s) h he, arriveService_pauses_qz hp' hh', hq]
  refine ⟨arriveService_pauses_ctl hp' hh', hserved, hrestart, arriveService_pauses_held hp' hh', ?_⟩
  split <;> rfl

theorem service_drains (hp : s.qz.ph = .deferred) (hh : s.qz.hold = 0) :
    completes .serviceEntry s fun t =>
      t.glb.ctl = .service
      ∧ t.glb.served = true
      ∧ t.glb.restart = false
      ∧ (if allAnswered s then t.qz = { s.qz with ph := .ended, ack := true } else t.qz = { s.qz with ph := .barrier }) := by
  have hq : (castOnOver (begin_ s)).qz = s.qz := castOnOver_qz _
  have hp' : (castOnOver (begin_ s)).qz.ph = .deferred := by rw [hq, hp]
  have hh' : (castOnOver (begin_ s)).qz.hold = 0 := by rw [hq, hh]
  have ha : allAnswered (castOnOver (begin_ s)) = allAnswered s := by rw [allAnswered, castOnOver_reqs]; rfl
  obtain ⟨hserved, hrestart⟩ := arrived_marks (begin_ s)
  refine completes_of_run (f := serviceEntry) rfl ?_
  rw [serviceEntry_arrives (s := begin_ s) h he, arriveService_drains_qz hp' hh', hq, ha]
  refine ⟨arriveService_drains_ctl hp' hh', hserved, hrestart, ?_⟩
  split <;> rfl

end

theorem service_waits (he : earlyService (image s) = false) (hi : initLeft s ≠ 0) :
    completes .serviceEntry s fun t => t.glb = s.glb ∧ t.regs = s.regs ∧ t.out = [] := by
  refine completes_of_run (f := serviceEntry) rfl ?_
  rw [serviceEntry_waits (s := begin_ s) he hi]
  exact ⟨rfl, rfl, rfl⟩

/-- Settles O8: what waits at SERVICE_ENTRY decides where it arrives. -/
theorem carveOutAndService : Obligations.CarveOutAndService :=
  ⟨fun _ => carve_out_done, fun _ _ _ _ => carve_out_waits, fun _ _ => carve_out_halts, fun _ => service_entered,
    fun _ => service_pauses, fun _ => service_drains, fun _ _ => service_waits⟩

end Sys2Proof
end


section
/-! SUPPORT. The release of aon_rst_n (R61, R64, R66). -/

namespace Sys2Proof.Machine

variable {s : State} {id : BitVec 10} {en : BitVec 2} {base : BitVec 6} {pf : Bool}

/-- The straps are sampled, and a latch of a channel that is not enabled clears (R61, R64). -/
def strapped (id : BitVec 10) (en : BitVec 2) (base : BitVec 6) (pf : Bool) (s : State) : State :=
  updGlb (fun g => { g with
    ctlId := id, chanEn := en, imgBase := base, pfN := pf, vddqOk := true
    ch := Vector.ofFn fun c => Chan.reset ((g.ch.get c).latch && en.getLsbD c.val) }) s

theorem aonRstRelease_glb (hc : s.glb.ctl = .reset) :
    (aonRstRelease id en base pf s).glb = { (strapped id en base pf s).glb with ctl := .castOn, step := 1 } := by
  unfold aonRstRelease
  rw [if_neg (by simp [hc]), glb_of_seen (panicUpdate_keeps (by decide) _), toStep, updGlb, (enter_does ..).1]
  rfl

theorem aonRstRelease_change (hc : s.glb.ctl = .reset) : regBit (aonRstRelease id en base pf s) 0x10 1 = true := by
  unfold aonRstRelease
  rw [if_neg (by simp [hc]), regBit, regGet_of_seen (panicUpdate_keeps (hid := 0xA04020000000000000000000000C050100000000000)
    (by decide) _) 0x10 (by decide +kernel)]
  exact enter_change .castOn _

end Sys2Proof.Machine
end

section
/-! Reset, its release with the straps, and the way to the image fetch (R61 to R67, R131). -/

namespace Sys2Proof
open Machine

variable {s : State} {id : BitVec 10} {en : BitVec 2} {base : BitVec 6} {pf : Bool}

theorem reset_asserted (s : State) :
    completes .aonRstAssert s fun t =>
      t.glb.ctl = .reset
      ∧ t.glb.now = 0
      ∧ t.regs = State.reset.regs
      ∧ t.pp = none
      ∧ t.reqs = []
      ∧ t.evt = State.reset.evt
      ∧ t.pending = s.pending
      ∧ t.glb.pfN = s.glb.pfN
      ∧ t.glb.vddqOk = s.glb.vddqOk
      ∧ (∀ c : Ch, (t.glb.ch.get c).latch = (s.glb.ch.get c).latch) := by
  refine completes_of_run (f := aonRstAssert) rfl ⟨rfl, rfl, rfl, rfl, rfl, rfl, rfl, rfl, rfl, fun c => ?_⟩
  show ((s.glb.ch.map fun h => Chan.reset h.latch).get c).latch = _
  rw [vget_map]
  rfl

theorem reset_released (hc : s.glb.ctl = .reset) :
    completes (.aonRstRelease id en base pf) s fun t =>
      t.glb.ctl = .castOn
      ∧ t.glb.step = 1
      ∧ t.glb.ctlId = id
      ∧ t.glb.chanEn = en
      ∧ t.glb.imgBase = base
      ∧ t.glb.pfN = pf
      ∧ t.glb.now = s.glb.now
      ∧ regBit t 0x10 1 = true
      ∧ (∀ c : Ch, (t.glb.ch.get c).latch = ((s.glb.ch.get c).latch && en.getLsbD c.val)) := by
  refine completes_of_run (f := aonRstRelease id en base pf) rfl ?_
  rw [aonRstRelease_glb (s := begin_ s) hc]
  refine ⟨rfl, rfl, rfl, rfl, rfl, rfl, rfl, aonRstRelease_change (s := begin_ s) hc, fun c => ?_⟩
  exact congrArg Chan.latch (vget_ofFn (fun c => Chan.reset ((s.glb.ch.get c).latch && en.getLsbD c.val)) c)

theorem fetch_started (h : atStep s 1 = true) :
    completes .aonStartDone s fun t =>
      t.glb.step = 2 ∧ t.glb.pfN = true ∧ t.img.staging = [] ∧ t.img.fetch = some ⟨false, s.glb.imgBase, none⟩ := by
  refine completes_of_run (f := aonStartDone) rfl ?_
  rw [aonStartDone, if_pos (show atStep (begin_ s) 1 = true from h)]
  exact ⟨rfl, rfl, rfl, rfl⟩

/-- Settles O1. -/
theorem resetAndStraps : Obligations.ResetAndStraps :=
  ⟨reset_asserted, fun _ _ _ _ _ => reset_released, fun _ => fetch_started⟩

end Sys2Proof
end


section
/-! SUPPORT. The judgement of the staged image, and the words of the fuse map (R67, R135, R136). -/

namespace Sys2Proof.Machine

variable {s t : State} {w : Word}

/-! ### The staged image -/

theorem imgVerifyDone_passes (h : atStep s 3 = true) (hv : verify s.img.staging s.glb.ctlId.toNat = none) :
    imgVerifyDone s = toStep 4 (countIgnored s.img.staging (updGlb (fun g => { g with fuses := [] }) (showVerify none s))) := by
  unfold imgVerifyDone
  rw [h, hv]
  rfl

theorem imgVerifyDone_fails {b : Nat × Nat × Nat} (h : atStep s 3 = true)
    (hv : verify s.img.staging s.glb.ctlId.toNat = some b) : imgVerifyDone s = halt 0x03 (showVerify (some b) s) := by
  unfold imgVerifyDone
  rw [h, hv]
  rfl

/-! ### The fuses -/

theorem fuseRd_gap (h : t.glb.ackGap = true) : fuseRd t = false := by
  rw [fuseRd, h]
  exact Bool.and_false _

/-- The word is appended to the map, and fuse_rd is low for the rest of the cycle (R67). -/
def fuseTaken (w : Word) (s : State) : State := updGlb (fun g => { g with fuses := g.fuses ++ [w], ackGap := true }) s

theorem fuseWordAck_more (hr : fuseRd s = true) (hn : s.glb.fuses.length + 1 < 0x280) : fuseWordAck w s = fuseTaken w s := by
  unfold fuseWordAck
  rw [if_neg (by simp [hr])]
  exact if_pos (by simpa [wordTaken] using hn)

theorem fuseWordAck_good (hr : fuseRd s = true) (hn : ¬ s.glb.fuses.length + 1 < 0x280)
    (hf : fusesOk (s.glb.fuses ++ [w]) = true) : fuseWordAck w s = toStep 5 (updGlb (fun g => { g with pllTries := 0 }) (fuseTaken w s)) := by
  unfold fuseWordAck
  rw [if_neg (by simp [hr])]
  exact (if_neg (by simpa [wordTaken] using hn)).trans (if_pos hf)

theorem fuseWordAck_bad (hr : fuseRd s = true) (hn : ¬ s.glb.fuses.length + 1 < 0x280)
    (hf : ¬ fusesOk (s.glb.fuses ++ [w]) = true) : fuseWordAck w s = halt 0x05 (fuseTaken w s) := by
  unfold fuseWordAck
  rw [if_neg (by simp [hr])]
  exact (if_neg (by simpa [wordTaken] using hn)).trans (if_neg hf)

end Sys2Proof.Machine
end

section
/-! Verification of the image and the fuse map (R67, R135, R136). -/

namespace Sys2Proof
open Machine

variable {s : State} {w : Word}

theorem image_verified (h : atStep s 3 = true) :
    completes .imgVerifyDone s fun t =>
      (if verify s.img.staging s.glb.ctlId.toNat = none then t.glb.ctl = .castOn ∧ t.glb.step = 4 ∧ t.glb.fuses = []
      else t.glb.ctl = .halted ∧ t.glb.haltCause = 0x03) := by
  refine completes_of_run (f := imgVerifyDone) rfl ?_
  cases hv : verify s.img.staging s.glb.ctlId.toNat with
  | none =>
    rw [imgVerifyDone_passes (s := begin_ s) h hv, if_pos rfl]
    exact ⟨castOn_of_atStep (s := s) h, rfl, rfl⟩
  | some b =>
    rw [imgVerifyDone_fails (s := begin_ s) h hv, if_neg (Option.some_ne_none b)]
    exact ⟨(halt_does ..).1, (halt_does ..).2.1⟩

theorem fuse_taken (hr : fuseRd s = true) :
    completes (.fuseWordAck w) s fun t =>
      t.glb.fuses = s.glb.fuses ++ [w]
      ∧ fuseRd t = false
      ∧ (if s.glb.fuses.length + 1 < 0x280 then t.glb.ctl = .castOn ∧ t.glb.step = 4
      else if fusesOk (s.glb.fuses ++ [w]) then t.glb.ctl = .castOn ∧ t.glb.step = 5
      else t.glb.ctl = .halted ∧ t.glb.haltCause = 0x05)
      ∧ (t.glb.ctl = s.glb.ctl ∨ t.glb.ctl = .halted) := by
  have hc : s.glb.ctl = .castOn := castOn_of_fuseRd hr
  have hs : s.glb.step = 4 := by
    simp only [fuseRd, Bool.and_eq_true] at hr
    exact (atStep_iff.1 hr.1.1).2
  refine completes_of_run (f := fuseWordAck w) rfl ?_
  by_cases hn : s.glb.fuses.length + 1 < 0x280
  · rw [fuseWordAck_more (s := begin_ s) hr hn, if_pos hn]
    exact ⟨rfl, fuseRd_gap rfl, ⟨hc, hs⟩, .inl rfl⟩
  rw [if_neg hn]
  by_cases hf : fusesOk (s.glb.fuses ++ [w]) = true
  · rw [fuseWordAck_good (s := begin_ s) hr hn hf, if_pos hf]
    exact ⟨rfl, fuseRd_gap rfl, ⟨hc, rfl⟩, .inl rfl⟩
  · have halted := halt_does 0x05 (fuseTaken w (begin_ s))
    rw [fuseWordAck_bad (s := begin_ s) hr hn hf, if_neg hf]
    refine ⟨glb_fuses_of_seen (halt_keeps (by decide) ..), fuseRd_gap (glb_ackGap_of_seen (halt_keeps (by decide) ..)),
      ⟨halted.1, halted.2.1⟩, .inr halted.1⟩

theorem fuse_late (hr : fuseRd s = true) :
    completes .fuseWordTimeout s fun t => t.glb.ctl = .halted ∧ t.glb.haltCause = 0x04 ∧ countsExpiry 0x0E s t := by
  refine completes_of_run (f := fuseWordTimeout) rfl ?_
  rw [fuseWordTimeout, if_pos (show fuseRd (begin_ s) = true from hr)]
  exact ⟨(halt_does ..).1, (halt_does ..).2.1, countsExpiry_of_timeout (s := begin_ s) (halt_keeps (by decide) ..)⟩

/-- Settles O3, by the outcome of the verification and of the fuse map. -/
theorem verifyAndFuses : Obligations.VerifyAndFuses :=
  ⟨fun _ => image_verified, fun _ _ => fuse_taken, fun _ => ⟨rfl, rfl⟩, fun _ => fuse_late⟩

end Sys2Proof
end


section
/-! SUPPORT. The fetch of an image: a word that arrives, a header that is complete, and what ends a fetch (R67, R132 to R134,
R430). -/

namespace Sys2Proof.Machine

variable {s t : State} {f : Fetch} {n : Nat} {w : Word}

/-! ### A reload is refused (R430, R431) -/

theorem bcastPhase_regGet {o : Nat} (ho : o ≠ rImgStatus) (u : BitVec 10) (ph : Fin 5) (s : State) :
    regGet (bcastPhase u ph s) o = regGet s o := by
  unfold bcastPhase onlyIf
  dsimp only
  split
  · split
    · exact regGet_sqSet_other _ _ ho
    · rfl
  · rfl

/-- The acknowledgement of a reload writes no register but IMG_STATUS. -/
theorem ackReload_regGet {o : Nat} (ho : o ≠ rImgStatus) (r : Reload) (ph : Fin 5) (n : Nat) (s : State) :
    regGet (ackReload r ph n s) o = regGet s o := by
  unfold ackReload
  split
  · rfl
  · split
    · split
      · exact bcastPhase_regGet ho ..
      · rfl
    · exact regGet_congr (regs_of_seen (sendMsg_keeps (by decide) ..)) o

theorem recordReload_regGet (r : Reload) (ph n : Nat) (before after : Word) (s : State) :
    regGet (recordReload r ph n before after s) rReload = regGet s rReload :=
  regGet_of_seen (hid := 0x40000011200000000000000000000000000000000000) (recordReload_keeps (by decide) ..) _
    (by decide +kernel)

theorem rejectReload_result (n : Nat) (s : State) :
    regGet (rejectReload n s) rReload = pack [(4, 24), (n, 16), (s.img.rl.id.toNat, 8)] := by
  unfold rejectReload refuseReload
  dsimp only
  rw [ackReload_regGet (by decide), recordReload_regGet, regGet_sqSet_other _ _ (by decide), showReload, regGet_regSet_same]

theorem rejectReload_fetch (hf : s.img.fetch = some f) (hr : f.reload = true) (n : Nat) :
    (rejectReload n s).img.fetch = none := by
  have e : (rejectReload n s).img.fetch = (endReload s).img.fetch := by
    unfold rejectReload refuseReload
    exact img_fetch_of_seen (by simp [showReload])
  rw [e]
  simp [endReload, hf, hr]

/-! ### A fetch that fails (R132, R134) -/

theorem fetchFail_reload (hr : f.reload = true) (cause : Byte) (n : Nat) (s : State) :
    fetchFail f cause n s = rejectReload n s := if_pos hr

theorem fetchFail_castOn (hr : f.reload = false) (hc : s.glb.ctl = .castOn) (cause : Byte) (n : Nat) :
    fetchFail f cause n s = halt cause (updImg (fun i => { i with fetch := none }) s) := by
  unfold fetchFail onlyIf
  rw [if_neg (by simp [hr]), if_pos (decide_eq_true hc)]

theorem fetchFail_halts_castOn (hr : f.reload = false) (hc : s.glb.ctl = .castOn) (cause : Byte) (n : Nat) :
    (fetchFail f cause n s).glb.ctl = .halted ∧ (fetchFail f cause n s).glb.haltCause = cause
      ∧ (fetchFail f cause n s).img = { s.img with fetch := none } := by
  rw [fetchFail_castOn hr hc]
  exact ⟨(halt_does ..).1, (halt_does ..).2.1, img_of_seen (halt_keeps (by decide) ..)⟩

/-! ### The words that are there (R69, R133) -/

theorem fetchedAll_known (hf : s.img.fetch = some f) (hn : f.len = some n) :
    fetchedAll s = decide (n / 4 ≤ s.img.staging.length) := by
  simp [fetchedAll, hf, hn]

theorem fetchedAll_unknown (hf : s.img.fetch = some f) (hn : f.len = none) : fetchedAll s = false := by
  simp [fetchedAll, hf, hn]

theorem fetchedAll_over (hf : s.img.fetch = none) : fetchedAll s = false := by
  simp [fetchedAll, hf]

theorem imgReq_gap (h : t.glb.ackGap = true) : imgReq t = false := by
  rw [imgReq, h]
  exact Bool.and_false _

theorem headerSeen_fits (hl : lengthOk (hdrLength s.img.staging) = true) :
    headerSeen f s = updImg (fun i => { i with fetch := some { f with len := some (hdrLength s.img.staging) } }) s :=
  if_pos hl

theorem headerSeen_unfit (hl : ¬ lengthOk (hdrLength s.img.staging) = true) :
    headerSeen f s = fetchFail f 0x03 3 (showVerify (some (2, 0, 0x08)) s) := if_neg hl

/-! ### A word is acknowledged (R67) -/

/-- The word is staged, and img_req is low for the rest of the cycle. -/
def wordStaged (w : Word) (s : State) : State := updImg (fun i => { i with staging := i.staging ++ [w] }) (wordTaken s)

/-- At Cast-On the last word ends the fetch. -/
def fetchEnds (f : Fetch) (s : State) : State :=
  if !f.reload && fetchedAll s then toStep 3 (updImg (fun i => { i with fetch := none }) s) else s

theorem fetchEnds_last (hr : f.reload = false) (ha : fetchedAll s = true) :
    fetchEnds f s = toStep 3 (updImg (fun i => { i with fetch := none }) s) := if_pos (by simp [hr, ha])

theorem fetchEnds_more (h : ¬ (f.reload = false ∧ fetchedAll s = true)) : fetchEnds f s = s := if_neg (by simpa using h)

theorem wordStaged_length (w : Word) (s : State) : (wordStaged w s).img.staging.length = s.img.staging.length + 1 :=
  List.length_append

section
variable (hf : s.img.fetch = some f) (hr : imgReq s = true)
include hf hr

theorem imgWordAck_error : imgWordAck w true s = fetchFail f 0x01 2 (wordTaken s) := by
  unfold imgWordAck
  rw [hf, hr]
  rfl

theorem imgWordAck_word (hn : s.img.staging.length ≠ 15) : imgWordAck w false s = fetchEnds f (wordStaged w s) := by
  have hn' : ¬ (wordStaged w s).img.staging.length = 16 := by rw [wordStaged_length]; omega
  unfold imgWordAck
  rw [hf, hr]
  exact congrArg (fetchEnds f) (if_neg hn')

theorem imgWordAck_header (hn : s.img.staging.length = 15) :
    imgWordAck w false s = fetchEnds f (headerSeen f (wordStaged w s)) := by
  have hn' : (wordStaged w s).img.staging.length = 16 := by rw [wordStaged_length, hn]
  unfold imgWordAck
  rw [hf, hr]
  exact congrArg (fetchEnds f) (if_pos hn')

/-- The expiry of the word timer is counted and reported (R132, R518). -/
theorem imgWordTimeout_fails : imgWordTimeout s = fetchFail f 0x02 2 (timeout 0x0D (if f.reload then 2 else 4) 0 false
    (subjStep s 0 0) (f.base.toNat * 2 ^ 16 + s.img.staging.length) s) := by
  unfold imgWordTimeout
  rw [hf, hr]
  rfl

end

end Sys2Proof.Machine
end

section
/-! The words of an image (R67, R69, R132 to R134, R430). -/

namespace Sys2Proof
open Machine

variable {s : State} {f : Fetch} {n : Nat} {w : Word}

theorem word_requested (hf : s.img.fetch = some f) :
    imgReq s = (!fetchedAll s && !s.glb.ackGap)
      ∧ imgAddr s = BitVec.ofNat 22 (f.base.toNat * 2 ^ 16 + s.img.staging.length) := by
  rw [imgReq, imgAddr, hf]
  exact ⟨rfl, rfl⟩

section
variable (hf : s.img.fetch = some f) (hr : imgReq s = true)
include hf hr

theorem word_staged (hn : f.len = some n) (hl : s.img.staging.length ≠ 15) :
    completes (.imgWordAck w false) s fun t =>
      t.img.staging = s.img.staging ++ [w]
      ∧ imgReq t = false
      ∧ (if f.reload = false ∧ n / 4 ≤ s.img.staging.length + 1 then t.glb.step = 3 ∧ t.img.fetch = none
      else t.glb.step = s.glb.step ∧ t.img.fetch = some f)
      ∧ t.glb.ctl = s.glb.ctl := by
  have ha : fetchedAll (wordStaged w (begin_ s)) = decide (n / 4 ≤ s.img.staging.length + 1) := by
    rw [fetchedAll_known (s := wordStaged w (begin_ s)) hf hn, wordStaged_length]
    rfl
  refine completes_of_run (f := imgWordAck w false) rfl ?_
  rw [imgWordAck_word (s := begin_ s) hf hr hl]
  split
  · next h =>
    rw [fetchEnds_last h.1 (ha.trans (decide_eq_true h.2))]
    exact ⟨rfl, imgReq_gap rfl, ⟨rfl, rfl⟩, rfl⟩
  · next h =>
    rw [fetchEnds_more (by rwa [ha, decide_eq_true_iff])]
    exact ⟨rfl, imgReq_gap rfl, ⟨rfl, hf⟩, rfl⟩

theorem header_word_staged (hn : f.len = none) (hl : s.img.staging.length < 15) :
    completes (.imgWordAck w false) s fun t =>
      t.img.staging = s.img.staging ++ [w] ∧ t.img.fetch = some f ∧ t.glb.step = s.glb.step ∧ imgReq t = false := by
  have ha : fetchedAll (wordStaged w (begin_ s)) = false := fetchedAll_unknown (f := f) hf hn
  refine completes_of_run (f := imgWordAck w false) rfl ?_
  rw [imgWordAck_word (s := begin_ s) hf hr hl.ne, fetchEnds_more (by simp [ha])]
  exact ⟨rfl, hf, rfl, imgReq_gap rfl⟩

theorem header_complete (hf0 : f.reload = false) (hl : s.img.staging.length = 15) (hc : s.glb.ctl = .castOn) :
    completes (.imgWordAck w false) s fun t =>
      t.img.staging = s.img.staging ++ [w]
      ∧ (if lengthOk (hdrLength (s.img.staging ++ [w])) = true
      then t.glb.ctl = .castOn ∧ (if hdrLength (s.img.staging ++ [w]) / 4 ≤ 16 then t.img.fetch = none
        ∧ t.glb.step = 3
      else t.img.fetch = some { f with len := some (hdrLength (s.img.staging ++ [w])) } ∧ t.glb.step = s.glb.step)
      else t.img.fetch = none ∧ t.glb.ctl = .halted ∧ t.glb.haltCause = 0x03) := by
  refine completes_of_run (f := imgWordAck w false) rfl ?_
  rw [imgWordAck_header (s := begin_ s) hf hr hl]
  by_cases hok : lengthOk (hdrLength (s.img.staging ++ [w])) = true
  · rw [headerSeen_fits (s := wordStaged w (begin_ s)) hok, if_pos hok]
    generalize hu : updImg _ (wordStaged w (begin_ s)) = u
    have ha : fetchedAll u = decide (hdrLength (s.img.staging ++ [w]) / 4 ≤ 16) := by
      have hlen : u.img.staging.length = 16 := by
        rw [← hu]
        exact (wordStaged_length w (begin_ s)).trans (congrArg (· + 1) hl)
      rw [fetchedAll_known (f := { f with len := some (hdrLength (s.img.staging ++ [w])) }) (by rw [← hu]; rfl) rfl, hlen]
    split
    · next h =>
      rw [fetchEnds_last hf0 (ha.trans (decide_eq_true h)), ← hu]
      exact ⟨rfl, hc, rfl, rfl⟩
    · next h =>
      rw [fetchEnds_more (by simp [ha, h]), ← hu]
      exact ⟨rfl, hc, rfl, rfl⟩
  · obtain ⟨hctl, hcause, himg⟩ := fetchFail_halts_castOn (s := showVerify (some (2, 0, 0x08)) (wordStaged w (begin_ s)))
      hf0 hc 0x03 3
    rw [headerSeen_unfit (s := wordStaged w (begin_ s)) hok, if_neg hok,
      fetchEnds_more fun h => nomatch (fetchedAll_over (congrArg Img.fetch himg)).symm.trans h.2]
    exact ⟨congrArg Img.staging himg, congrArg Img.fetch himg, hctl, hcause⟩

theorem error_halts (hf0 : f.reload = false) (hc : s.glb.ctl = .castOn) :
    completes (.imgWordAck w true) s fun t => t.glb.ctl = .halted ∧ t.glb.haltCause = 0x01 ∧ t.img.fetch = none := by
  obtain ⟨hctl, hcause, himg⟩ := fetchFail_halts_castOn (s := wordTaken (begin_ s)) hf0 hc 0x01 2
  refine completes_of_run (f := imgWordAck w true) rfl ?_
  rw [imgWordAck_error (s := begin_ s) hf hr]
  exact ⟨hctl, hcause, congrArg Img.fetch himg⟩

theorem late_word_halts (hf0 : f.reload = false) (hc : s.glb.ctl = .castOn) :
    completes .imgWordTimeout s fun t =>
      t.glb.ctl = .halted ∧ t.glb.haltCause = 0x02 ∧ t.img.fetch = none ∧ countsExpiry 0x0D s t := by
  refine completes_of_run (f := imgWordTimeout) rfl ?_
  rw [imgWordTimeout_fails (s := begin_ s) hf hr]
  obtain ⟨hctl, hcause, himg⟩ := fetchFail_halts_castOn (s := timeout 0x0D (if f.reload then 2 else 4) 0 false
    (subjStep (begin_ s) 0 0) (f.base.toNat * 2 ^ 16 + s.img.staging.length) (begin_ s)) hf0
    ((congrArg Glb.ctl (timeout_fields ..).1).trans hc) 0x02 2
  exact ⟨hctl, hcause, congrArg Img.fetch himg, countsExpiry_of_timeout (s := begin_ s) (fetchFail_keeps (by decide) ..)⟩

theorem late_word_refuses (hf1 : f.reload = true) :
    completes .imgWordTimeout s fun t =>
      t.img.fetch = none
      ∧ t.glb.ctl = s.glb.ctl
      ∧ countsExpiry 0x0D s t
      ∧ regGet t 0x4028 = pack [(4, 24), (2, 16), (s.img.rl.id.toNat, 8)] := by
  refine completes_of_run (f := imgWordTimeout) rfl ?_
  rw [imgWordTimeout_fails (s := begin_ s) hf hr, fetchFail_reload hf1]
  generalize hu : timeout 0x0D _ _ _ _ _ (begin_ s) = u
  have himg : u.img = s.img := by
    rw [← hu]
    exact img_of_seen (s := begin_ s) (timeout_keeps (by decide) ..)
  refine ⟨rejectReload_fetch (by rw [himg]; exact hf) hf1 2, ?_, ?_, (rejectReload_result 2 u).trans (by rw [himg])⟩
  · rw [glb_ctl_of_seen (rejectReload_keeps (by decide) ..), ← hu]
    exact glb_ctl_of_seen (s := begin_ s) (timeout_keeps (by decide) ..)
  · rw [← hu]
    exact countsExpiry_of_timeout (s := begin_ s) (rejectReload_keeps (by decide) ..)

theorem error_refuses (hf1 : f.reload = true) :
    completes (.imgWordAck w true) s fun t =>
      t.img.fetch = none
      ∧ t.glb.ctl = s.glb.ctl
      ∧ regGet t 0x4028 = pack [(4, 24), (2, 16), (s.img.rl.id.toNat, 8)] := by
  refine completes_of_run (f := imgWordAck w true) rfl ?_
  rw [imgWordAck_error (s := begin_ s) hf hr, fetchFail_reload hf1]
  exact ⟨rejectReload_fetch (s := wordTaken (begin_ s)) hf hf1 2, glb_ctl_of_seen (rejectReload_keeps (by decide) ..),
    rejectReload_result 2 _⟩

end

/-- Settles O2, by the place of the word in the image and by what the fetch is for. -/
theorem imageWords : Obligations.ImageWords :=
  ⟨fun _ _ => word_requested, fun _ _ _ _ => word_staged, fun _ _ _ => header_word_staged, fun _ _ _ => header_complete,
    fun _ _ _ => error_halts, fun _ _ => late_word_halts, fun _ _ => late_word_refuses, fun _ _ _ => error_refuses⟩

end Sys2Proof
end

section
/-! SUPPORT. A secondary whose next request number stands in the table already, on an accepted write. No state that is
reached from reset is such a one. -/

namespace Sys2Proof.Machine

/-- The secondary of a healthy pair at epoch 4, with peer 5, the window mirrored, and no region initialised. -/
def secondary : State :=
  { regSet 0x12110 0xC0000000 (regSet 0x6000 0x80050000 uninitialised) with
    mir := { Mir.reset with pair := .healthy, epoch := 4 } }

/-- The next number is that of a write in the table, in the region that the peer will read. -/
def secondaryTwice : State := { secondary with reqs := [waitingWrite 0 (llaOf secondary 77)] }

end Sys2Proof.Machine

namespace Sys2Proof

open Sys2Proof.Machine

/-- Refutes O17: where the next number is in the table already, on a write that waits in the same uninitialised region,
the PEER_MIRROR_READ takes that write's record for its own, finds no outstanding write, and is answered with zeros at once. -/
theorem not_peerRequests : ¬ Obligations.PeerRequests := by
  unfold Obligations.PeerRequests
  rintro ⟨-, hread, -⟩
  obtain ⟨t, ht, -, hout⟩ := hread secondaryTwice 2 ⟨⟨77, 6, 0, 0⟩, 5, 9, 4⟩ 0 77 (by decide +kernel) (by decide +kernel)
    (by decide +kernel) (by decide +kernel) rfl rfl (by decide +kernel) (by decide +kernel) (by decide +kernel)
  have answered : (match exec (.peerMirrorRead 2 ⟨⟨77, 6, 0, 0⟩, 5, 9, 4⟩) secondaryTwice with
      | .next t => t.out.isEmpty | _ => true) = false := by decide +kernel
  rw [ht] at answered
  simp [hout] at answered

end Sys2Proof
end

section
/-! SUPPORT. Colouring and panic place the requests of the ingress stage in tiers, and leave all else of them alone
(R124, R268, R276). -/

namespace Sys2Proof.Machine

variable {s t : State}

/-- A request without its place among the tiers. -/
def Req.ungraded (r : Req) : Req := { r with colour := none, tier := none, ftag := 0 }

/-- The requests of the table without their places among the tiers. -/
def ungradedReqs (s : State) : List Req := s.reqs.map Req.ungraded

theorem ungradedReqs_congr (e : t.reqs = s.reqs) : ungradedReqs t = ungradedReqs s := congrArg (List.map Req.ungraded) e

theorem updReq_ungraded {id : Nat} {f : Req → Req} (hf : ∀ q, (f q).ungraded = q.ungraded) (s : State) :
    ungradedReqs (updReq id f s) = ungradedReqs s := by
  simp only [ungradedReqs, updReq, List.map_map]
  refine List.map_congr_left fun q _ => ?_
  simp only [Function.comp_apply]
  split
  · exact hf q
  · rfl

theorem enterTier_ungraded (q : Req) (tier : Option (Fin 5)) (s : State) :
    ungradedReqs (enterTier q tier s) = ungradedReqs s := by
  unfold enterTier
  split
  · rfl
  · split
    · exact updReq_ungraded (fun _ => by rfl) s
    · exact updReq_ungraded (fun _ => by rfl) _

theorem colourHead_ungraded (q : Req) (s : State) : ungradedReqs (colourHead q s) = ungradedReqs s := by
  unfold colourHead
  exact (enterTier_ungraded ..).trans (updReq_ungraded (fun _ => by rfl) _)

theorem colourHeads_ungraded (s : State) : ungradedReqs (colourHeads s) = ungradedReqs s :=
  forAll_inv (P := fun t => ungradedReqs t = ungradedReqs s) _ (fun q _ h => (colourHead_ungraded q _).trans h) rfl

theorem panicUpdate_ungraded (s : State) : ungradedReqs (panicUpdate s) = ungradedReqs s := by
  unfold panicUpdate
  dsimp only
  split
  · split
    · exact colourHeads_ungraded _
    · rfl
  · split
    · exact ungradedReqs_congr (reqs_of_seen (by simp))
    · rfl

theorem ingressLeft_ungraded (s : State) : ungradedReqs (ingressLeft s) = ungradedReqs s :=
  (panicUpdate_ungraded _).trans (colourHeads_ungraded s)

theorem linked_ungraded (q : Req) (s : State) : ungradedReqs (linked q s) = ungradedReqs s := by
  unfold linked
  exact (ingressLeft_ungraded _).trans (ungradedReqs_congr (reqs_of_seen (by simp)))

theorem ids_of_ungraded (h : ungradedReqs t = ungradedReqs s) : t.reqs.map Req.id = s.reqs.map Req.id := by
  have e : ∀ u : State, u.reqs.map Req.id = (ungradedReqs u).map Req.id := fun u => by
    rw [ungradedReqs, List.map_map]
    rfl
  rw [e, e, h]

theorem mem_of_ungraded (h : ungradedReqs t = ungradedReqs s) {q : Req} (hq : q ∈ t.reqs) :
    ∃ r ∈ s.reqs, r.ungraded = q.ungraded := by
  have hm : q.ungraded ∈ ungradedReqs s := h ▸ List.mem_map_of_mem hq
  exact List.mem_map.1 hm

/-! ### A status bit of a port stays set (R40, R124) -/

theorem regGet_prtStatus_of_seen {hid : Nat} (e : t.seen hid = s.seen hid)
    (hk : ∀ p : PortId, hides hid (2 ^ (147 + regGroup (rPrtStatus p))) = false) (p : PortId) :
    regGet t (rPrtStatus p) = regGet s (rPrtStatus p) := regGet_of_seen e _ (hk p)

theorem sqSet_keeps_bit {o o' n : Nat} (w : Word) (hn : n < 24) (h : bitOf (regGet s o) n = true) :
    bitOf (regGet (sqSet o' w s) o) n = true := by
  by_cases ho : o = o'
  · subst ho
    rw [regGet_sqSet_same, sqWord_bit _ _ hn, h, Bool.true_or]
  · rwa [regGet_sqSet_other s w ho]

theorem panicUpdate_keeps_bit {p : PortId} {n : Nat} (hn : n < 24) (h : bitOf (regGet s (rPrtStatus p)) n = true) :
    bitOf (regGet (panicUpdate s) (rPrtStatus p)) n = true := by
  have policy : ∀ u, regGet (policyPanic u) (rPrtStatus p) = regGet u (rPrtStatus p) := fun u =>
    regGet_prtStatus_of_seen (policyPanic_keeps (hid := 0x4000000000000000000000000C000000000000000) (by decide) u)
      (by decide +kernel) p
  have coloured : ∀ u, (colourHeads u).regs = u.regs := fun u => regs_of_seen (by simp)
  unfold panicUpdate
  dsimp only
  split
  · split
    · rwa [regGet_congr (coloured _)]
    · exact h
  · split
    · rw [policy]
      exact sqSet_keeps_bit _ hn h
    · exact h

theorem ingressLeft_keeps_bit {p : PortId} {n : Nat} (hn : n < 24) (h : bitOf (regGet s (rPrtStatus p)) n = true) :
    bitOf (regGet (ingressLeft s) (rPrtStatus p)) n = true := by
  refine panicUpdate_keeps_bit hn ?_
  rwa [regGet_congr (regs_of_seen (by simp) : (colourHeads s).regs = s.regs)]

end Sys2Proof.Machine
end

section
/-! SUPPORT. What an answer does to the table, and the BARRIERs that wait for it (R110, R118, R119). -/

namespace Sys2Proof.Machine

variable {s t : State}

/-! ### One answer -/

/-- An answer leaves the table, marks the request as answered, or takes it out. -/
theorem answer1_reqs (id : Nat) (st : Status) (data : Line) (stale : Bool) (epoch : BitVec 8) (s : State) :
    (answer1 id st data stale epoch s).reqs = s.reqs
      ∨ (answer1 id st data stale epoch s).reqs = s.reqs.map (fun q => if q.id = id then { q with answered := true } else q)
      ∨ (answer1 id st data stale epoch s).reqs = s.reqs.filter (fun q => decide (q.id ≠ id)) := by
  have responded : ∀ p tag gen src xid, (respond p tag gen st data src xid stale epoch s).reqs = s.reqs :=
    fun _ _ _ _ _ => reqs_of_seen (by simp)
  have dropped : ∀ c p w u, (onlyIf c (dropInflight p w) u).reqs = u.reqs := fun _ _ _ _ => reqs_of_seen (by simp)
  unfold answer1
  split
  · exact .inl rfl
  · split
    · exact .inl rfl
    · dsimp only
      split
      · refine .inr (.inl ?_)
        rw [updReq, responded]
      · unfold finish
        split
        · exact .inl (responded ..)
        · refine .inr (.inr ?_)
          rw [dropped, responded]

/-- Each request that an answer leaves in the table stood there, perhaps unanswered. -/
theorem answer1_mem {id : Nat} {st : Status} {data : Line} {stale : Bool} {epoch : BitVec 8} {q : Req}
    (hq : q ∈ (answer1 id st data stale epoch s).reqs) : q ∈ s.reqs ∨ ∃ r ∈ s.reqs, q = { r with answered := true } := by
  rcases answer1_reqs id st data stale epoch s with e | e | e <;> rw [e] at hq
  · exact .inl hq
  · obtain ⟨r, hr, rfl⟩ := List.mem_map.1 hq
    split
    · exact .inr ⟨r, hr, rfl⟩
    · exact .inl hr
  · exact .inl (List.mem_of_mem_filter hq)

/-- An answer leaves the other requests as they are. -/
theorem mem_answer1_other {id : Nat} {st : Status} {data : Line} {stale : Bool} {epoch : BitVec 8} {q : Req}
    (hq : q ∈ s.reqs) (hne : q.id ≠ id) : q ∈ (answer1 id st data stale epoch s).reqs := by
  rcases answer1_reqs id st data stale epoch s with e | e | e <;> rw [e]
  · exact hq
  · exact List.mem_map.2 ⟨q, hq, if_neg hne⟩
  · exact List.mem_filter.2 ⟨hq, by simpa using hne⟩

theorem findReq_answer1_other {id n : Nat} {st : Status} {data : Line} {stale : Bool} {epoch : BitVec 8} (hne : n ≠ id) :
    findReq (answer1 id st data stale epoch s) n = findReq s n := by
  unfold findReq
  rcases answer1_reqs id st data stale epoch s with e | e | e <;> rw [e]
  · rw [List.find?_map]
    have hp : (fun r : Req => decide (r.id = n)) ∘ (fun q => if q.id = id then { q with answered := true } else q) =
        fun r => decide (r.id = n) := by
      funext r
      simp only [Function.comp_apply]
      split <;> rfl
    rw [hp]
    cases h : s.reqs.find? (fun r => decide (r.id = n)) with
    | none => rfl
    | some r =>
      have hr : r.id = n := by simpa using List.find?_some h
      exact congrArg some (if_neg (hr ▸ hne))
  · rw [List.find?_filter]
    congr 1
    funext r
    by_cases hr : r.id = n
    · simp [hr, hne]
    · simp [hr]

/-- The requests under a number are answered. -/
def Settled (id : Nat) (s : State) : Prop := ∀ q ∈ s.reqs, q.id = id → q.answered = true

theorem answer1_settled {id n : Nat} {st : Status} {data : Line} {stale : Bool} {epoch : BitVec 8} (h : Settled id s) :
    Settled id (answer1 n st data stale epoch s) := by
  intro q hq hid
  rcases answer1_mem hq with hq | ⟨r, -, rfl⟩
  · exact h q hq hid
  · rfl

theorem finish_settled (id : Nat) (s : State) : Settled id (finish id s) :=
  fun q hq hid => absurd hid (finish_gone id s q hq)

/-- What an answer answers is settled. -/
theorem answer1_settles {id : Nat} {r : Req} (hr : findReq s id = some r) (ha : r.answered = false) (hh : s.glb.ctl ≠ .held)
    (st : Status) (data : Line) (stale : Bool) (epoch : BitVec 8) : Settled id (answer1 id st data stale epoch s) := by
  rw [answer1_eq hr ha hh]
  dsimp only
  split
  · intro q hq hid
    obtain ⟨x, -, rfl⟩ := List.mem_map.1 hq
    by_cases hx : x.id = id
    · rw [if_pos hx]
    · rw [if_neg hx] at hid
      exact absurd hid hx
  · exact finish_settled id _

theorem barriers_settled {id : Nat} (h : Settled id s) : Settled id (barriers s) :=
  forAll_inv (P := Settled id) _ (fun b u hu => by
    split
    · exact answer1_settled hu
    · exact hu) h

theorem settled_of_ungraded {id : Nat} (e : ungradedReqs t = ungradedReqs s) (h : Settled id s) : Settled id t := by
  intro q hq hid
  obtain ⟨r, hr, hrq⟩ := mem_of_ungraded e hq
  exact (congrArg Req.answered hrq).symm.trans (h r hr ((congrArg Req.id hrq).trans hid))

/-- An answer counts in the registers as its response does. -/
theorem answerX_regs {id : Nat} {r : Req} (hr : findReq s id = some r) (ha : r.answered = false) (hh : s.glb.ctl ≠ .held)
    (st : Status) (data : Line) (stale : Bool) (epoch : BitVec 8) : (answerX id st data stale epoch s).regs =
      (respond r.port r.tag r.gen st data r.src r.xid stale epoch s).regs := by
  unfold answerX
  rw [barriers_regs, answer1_eq hr ha hh]
  dsimp only
  split
  · rfl
  · exact regs_of_seen (by simp)

/-! ### The BARRIERs -/

/-- A BARRIER is due as long as what it waits for is answered. -/
theorem answer1_due {id : Nat} {st : Status} {data : Line} {stale : Bool} {epoch : BitVec 8} {w : Req}
    (h : barrierDue s w = true) : barrierDue (answer1 id st data stale epoch s) w = true := by
  simp only [barrierDue, List.all_eq_true] at h ⊢
  intro q hq
  rcases answer1_mem hq with hq | ⟨r, -, rfl⟩
  · exact h q hq
  · simp

/-- The record w stands in the table, and its answer is due. -/
def AnswerDue (w : Req) (s : State) : Prop := findReq s w.id = some w ∧ s.glb.ctl ≠ .held ∧ barrierDue s w = true

/-- The record w has been answered OK, and its number has left the table. -/
def AnsweredOk (w : Req) (s : State) : Prop :=
  .rsp w.port w.tag w.gen .ok 0 w.src w.xid false 0 ∈ s.out ∧ ∀ q ∈ s.reqs, q.id ≠ w.id

theorem answer1_answersOk {w : Req} (h : AnswerDue w s) (ha : w.answered = false) (hw : w.op.isWrite = false) :
    AnsweredOk w (answer1 w.id .ok 0 false 0 s) := by
  obtain ⟨hfind, hctl, -⟩ := h
  rw [answer1_eq hfind ha hctl]
  simp only [hw]
  exact ⟨(finish_later (later_refl _)).mem_out (respond_mem ..), finish_gone _ _⟩

theorem answer1_answerDue {w : Req} {id : Nat} {st : Status} {data : Line} {stale : Bool} {epoch : BitVec 8}
    (h : AnswerDue w s) (hne : w.id ≠ id) : AnswerDue w (answer1 id st data stale epoch s) := by
  obtain ⟨hfind, hctl, hdue⟩ := h
  refine ⟨(findReq_answer1_other hne).trans hfind, ?_, answer1_due hdue⟩
  rwa [glb_ctl_of_seen (answer1_keeps (by decide) ..)]

theorem answer1_answeredOk {w : Req} {id : Nat} {st : Status} {data : Line} {stale : Bool} {epoch : BitVec 8}
    (h : AnsweredOk w s) : AnsweredOk w (answer1 id st data stale epoch s) := by
  obtain ⟨hout, hgone⟩ := h
  exact ⟨(answer1_later (later_refl s)).mem_out hout, (answer1_later (later_refl s)).gone hgone⟩

/-- A BARRIER whose answer is due is answered OK and leaves the table (R118). -/
theorem barriers_answeredOk {w : Req} (h : AnswerDue w s) (hph : w.phase = .barrier) (ha : w.answered = false)
    (hw : w.op.isWrite = false) : AnsweredOk w (barriers s) := by
  have listed : w ∈ s.reqs.filter (fun r => r.phase = .barrier) :=
    List.mem_filter.2 ⟨List.mem_of_find?_eq_some h.1, by simpa using hph⟩
  refine forAll_reach (P := fun u => AnswerDue w u ∨ AnsweredOk w u) (Q := AnsweredOk w) listed ?_ ?_ ?_ (.inl h)
  · intro b u hu
    split
    · rcases hu with hu | hu
      · by_cases hb : w.id = b.id
        · exact .inr (hb ▸ answer1_answersOk hu ha hw)
        · exact .inl (answer1_answerDue hu hb)
      · exact .inr (answer1_answeredOk hu)
    · exact hu
  · intro b u hu
    split
    · exact answer1_answeredOk hu
    · exact hu
  · rintro u (hu | hu)
    · rw [if_pos hu.2.2]
      exact answer1_answersOk hu ha hw
    · split
      · exact answer1_answeredOk hu
      · exact hu

theorem forAll_inv_mem {α : Type} {P : State → Prop} {f : α → State → State} (l : List α)
    (hf : ∀ a ∈ l, ∀ s, P s → P (f a s)) (h : P s) : P (forAll l f s) := by
  unfold forAll
  induction l generalizing s with
  | nil => exact h
  | cons a l ih => exact ih (fun b hb => hf b (List.mem_cons_of_mem a hb)) (hf a List.mem_cons_self s h)

theorem req_eq_of_id (hn : (s.reqs.map Req.id).Nodup) {q r : Req} (hq : q ∈ s.reqs) (hr : r ∈ s.reqs) (h : q.id = r.id) :
    q = r := Option.some.inj ((findReq_of_mem hn hq).symm.trans (h ▸ findReq_of_mem hn hr))

/-- A BARRIER waits in the table while a request accepted earlier on its port is not answered (R118). -/
theorem barriers_waits {q w : Req} (hn : (s.reqs.map Req.id).Nodup) (hq : q ∈ s.reqs) (hw : w ∈ s.reqs)
    (hport : q.port = w.port) (hid : q.id < w.id) (ha : q.answered = false) (hph : q.phase ≠ .barrier) :
    w ∈ (barriers s).reqs := by
  refine (forAll_inv_mem (P := fun u => q ∈ u.reqs ∧ w ∈ u.reqs) _ (fun b hb u hu => ?_) ⟨hq, hw⟩).2
  obtain ⟨hb, hbarrier⟩ := List.mem_filter.1 hb
  obtain ⟨huq, huw⟩ := hu
  split
  · next hdue =>
    have hbq : q.id ≠ b.id := fun e => hph (req_eq_of_id hn hq hb e ▸ of_decide_eq_true hbarrier)
    have hbw : w.id ≠ b.id := fun e => by
      obtain rfl := req_eq_of_id hn hw hb e
      simpa [hport, hid, ha] using List.all_eq_true.1 hdue q huq
    exact ⟨mem_answer1_other huq hbq, mem_answer1_other huw hbw⟩
  · exact ⟨huq, huw⟩

end Sys2Proof.Machine
end

section
/-! The BARRIER, data beats, credits, the timeout of a request and the urgency of RTP (R98, R99, R106, R107, R118, R119,
R124). -/

namespace Sys2Proof

open Sys2Proof.Machine

variable {s : State} {p : PortId}

/-! ### BARRIER (R118) -/

section

variable {h : ReqHdr}

/-- The record of a BARRIER. -/
def barrierReq (p : PortId) (h : ReqHdr) (s : State) : Req :=
  { newReq (judged p false s) (hostReq p .barrier h) .barrier with phase := .barrier }

/-- The BARRIER is in the table, and none has been answered. -/
def barrierEntered (p : PortId) (h : ReqHdr) (s : State) : State :=
  updReq s.nextId (fun q => { q with phase := .barrier }) (recorded (hostReq p .barrier h) .barrier s)

theorem barrierReq_id : (barrierReq p h s).id = s.nextId := newReq_judged_id (hostReq p .barrier h) .barrier s

theorem barrierEntered_glb : (barrierEntered p h s).glb = s.glb := recorded_glb (hostReq p .barrier h) .barrier s

theorem barrierEntered_nextId : (barrierEntered p h s).nextId = s.nextId + 1 :=
  congrArg (· + 1) (judged_nextId p false s)

theorem barrierEntered_reqs (hf : idsFresh s) : (barrierEntered p h s).reqs = s.reqs ++ [barrierReq p h s] := by
  have e : (barrierEntered p h s).reqs = (recorded (hostReq p .barrier h) .barrier s).reqs.map
      (fun q => if q.id = s.nextId then { q with phase := .barrier } else q) := rfl
  rw [e, recorded_reqs, List.map_append]
  congr 1
  · exact (List.map_congr_left fun q hq => if_neg (fresh_next hf q hq)).trans (List.map_id _)
  · exact congrArg (fun q => [q]) (if_pos (newReq_judged_id ..))

theorem barrierEntered_nodup (hf : idsFresh s) : ((barrierEntered p h s).reqs.map Req.id).Nodup := by
  rw [barrierEntered_reqs hf, List.map_append, List.nodup_append]
  refine ⟨hf.1, List.nodup_singleton _, fun n hn m hm => ?_⟩
  obtain ⟨q, hq, rfl⟩ := List.mem_map.1 hn
  rw [List.mem_singleton.1 hm]
  exact barrierReq_id ▸ fresh_next hf q hq

theorem barrierReq_mem (hf : idsFresh s) : barrierReq p h s ∈ (barrierEntered p h s).reqs := by
  rw [barrierEntered_reqs hf]
  exact List.mem_append_right _ (List.mem_singleton_self _)

/-- A BARRIER that the port takes enters the table, and the BARRIERs that are due are answered. -/
theorem barrier_taken (ht : portTakes s p false h.tag) :
    present (hostReq p .barrier h) (begin_ s) = presented p (barriers (barrierEntered p h s)) := by
  obtain ⟨hs, hc, hh, ho, hhalt⟩ := ht
  rw [present_sampled hs, take_accepted (r := hostReq p .barrier h) hc hh rfl rfl ho]
  have hctl : (recorded (hostReq p .barrier h) .barrier s).glb.ctl ≠ .halted := by rwa [recorded_glb]
  refine congrArg (presented p) ((if_neg hctl).trans ?_)
  rw [barrierEntered, ← newReq_judged_id (hostReq p .barrier h) .barrier s]
  rfl

theorem barrier_answered (hf : idsFresh s) (ht : portTakes s p false h.tag)
    (hall : ∀ r ∈ s.reqs, r.port = p → r.answered = true) : completes (.barrier p h) s fun t =>
      .rsp p h.tag h.gen .ok 0 0 0 false 0 ∈ t.out ∧ (∀ r ∈ t.reqs, r.id ≠ s.nextId) := by
  have due : AnswerDue (barrierReq p h s) (barrierEntered p h s) := by
    refine ⟨findReq_of_mem (barrierEntered_nodup hf) (barrierReq_mem hf), ?_, ?_⟩
    · rw [barrierEntered_glb]
      exact sampled_ne_held ht.1
    · rw [barrierDue, barrierEntered_reqs hf, List.all_append, Bool.and_eq_true, List.all_eq_true]
      refine ⟨fun q hq => ?_, by simp⟩
      by_cases hq' : q.port = p
      · simp [hall q hq hq']
      · have hne : q.port ≠ (barrierReq p h s).port := hq'
        simp [hne]
  obtain ⟨hout, hgone⟩ := barriers_answeredOk due rfl rfl rfl
  refine completes_of_run (f := present (hostReq p .barrier h)) rfl ?_
  rw [barrier_taken ht]
  exact ⟨hout, barrierReq_id (h := h) ▸ hgone⟩

theorem barrier_waits {q : Req} (hf : idsFresh s) (ht : portTakes s p false h.tag) (hq : q ∈ s.reqs) (hp : q.port = p)
    (ha : q.answered = false) (hph : q.phase ≠ .barrier) : completes (.barrier p h) s fun t =>
      t.nextId = s.nextId + 1 ∧ ∃ r ∈ t.reqs, r.id = s.nextId ∧ r.phase = .barrier ∧ r.answered = false := by
  have hq' : q ∈ (barrierEntered p h s).reqs := by
    rw [barrierEntered_reqs hf]
    exact List.mem_append_left _ hq
  have stays : barrierReq p h s ∈ (barriers (barrierEntered p h s)).reqs :=
    barriers_waits (barrierEntered_nodup hf) hq' (barrierReq_mem hf) hp (barrierReq_id ▸ hf.2 q hq) ha hph
  refine completes_of_run (f := present (hostReq p .barrier h)) rfl ?_
  rw [barrier_taken ht]
  refine ⟨?_, barrierReq p h s, stays, barrierReq_id, rfl, rfl⟩
  obtain ⟨-, hnext, -⟩ := barriers_later (later_refl (barrierEntered p h s))
  exact hnext.trans barrierEntered_nextId

end

/-! ### WRITE_DATA_BEAT (R106, R107, R119) -/

section

variable {data : Line} {mask : BitVec 64} {rest : List BeatDest}

/-- The port has taken the beat that it awaited first. -/
def beatTaken (p : PortId) (rest : List BeatDest) (s : State) : State := updPort p (fun q => { q with beats := rest }) s

theorem beat_dropped (hs : sampled s = true) (hb : (s.ports.get p).beats = .discard :: rest) :
    writeDataBeat p data mask (begin_ s) = beatTaken p rest (begin_ s) := by
  have e : ((begin_ s).ports.get p).beats = .discard :: rest := hb
  unfold writeDataBeat
  rw [if_neg (by simpa [sampled] using hs), e]
  rfl

theorem beat_of_req {id : Nat} (hs : sampled s = true) (hb : (s.ports.get p).beats = .req id :: rest) :
    writeDataBeat p data mask (begin_ s) = takeBeat id data mask (beatTaken p rest (begin_ s)) := by
  have e : ((begin_ s).ports.get p).beats = .req id :: rest := hb
  unfold writeDataBeat
  rw [if_neg (by simpa [sampled] using hs), e]
  rfl

theorem discarded_beat (hs : sampled s = true) (hb : (s.ports.get p).beats = .discard :: rest) :
    completes (.writeDataBeat p data mask) s fun t =>
      t = { updPort p (fun q => { q with beats := rest }) s with out := [], raised := 0 } :=
  completes_of_run (f := writeDataBeat p data mask) rfl (beat_dropped hs hb)

theorem answered_beat {id : Nat} (hs : sampled s = true) (hb : (s.ports.get p).beats = .req id :: rest)
    (ha : (findReq s id).all Req.answered = true) : completes (.writeDataBeat p data mask) s fun t =>
      t = { updPort p (fun q => { q with beats := rest }) s with out := [], raised := 0 } := by
  refine completes_of_run (f := writeDataBeat p data mask) rfl ((beat_of_req hs hb).trans ?_)
  have e : findReq (beatTaken p rest (begin_ s)) id = findReq s id := rfl
  unfold takeBeat
  rw [e]
  cases hr : findReq s id with
  | none => rfl
  | some r => exact if_pos (Bool.or_eq_true_iff.2 (.inl (by simpa [hr] using ha)))

/-- The request whose beat has come. -/
def beaten (data : Line) (mask : BitVec 64) (r : Req) : Req :=
  { r with data := data, mask := mask, beat := true, phase := .ingress }

theorem takeBeat_waiting {id : Nat} {r : Req} (hr : findReq s id = some r) (ha : r.answered = false)
    (hph : r.phase = .waitBeat) (hop : r.op ≠ .peerMessage) :
    takeBeat id data mask s = linked (beaten data mask r) (updReq id (fun _ => beaten data mask r) s) := by
  unfold takeBeat
  rw [hr]
  dsimp only
  rw [if_neg (by simp [ha, hph]), if_neg hop]
  rfl

theorem awaited_beat {id : Nat} {r : Req} (hs : sampled s = true) (hb : (s.ports.get p).beats = .req id :: rest)
    (hr : findReq s id = some r) (ha : r.answered = false) (hph : r.phase = .waitBeat) (hop : r.op ≠ .peerMessage) :
    completes (.writeDataBeat p data mask) s fun t =>
      (t.ports.get p).beats = rest
      ∧ (∃ q ∈ t.reqs, q.id = id ∧ q.data = data ∧ q.mask = mask ∧ q.beat = true ∧ q.phase = .ingress)
      ∧ t.out = [] := by
  let u := updReq id (fun _ => beaten data mask r) (beatTaken p rest (begin_ s))
  have hid : r.id = id := by simpa using List.find?_some hr
  have hu : beaten data mask r ∈ u.reqs := List.mem_map.2 ⟨r, List.mem_of_find?_eq_some hr, if_pos hid⟩
  have hports : (linked (beaten data mask r) u).ports = u.ports := ports_of_seen (linked_keeps (by decide) ..)
  obtain ⟨q, hq, hqr⟩ := mem_of_ungraded (linked_ungraded (beaten data mask r) u).symm hu
  refine completes_of_run (f := writeDataBeat p data mask) rfl ?_
  rw [beat_of_req hs hb, takeBeat_waiting (s := beatTaken p rest (begin_ s)) hr ha hph hop]
  refine ⟨?_, ⟨q, hq, (congrArg Req.id hqr).trans hid, congrArg Req.data hqr, congrArg Req.mask hqr,
    congrArg Req.beat hqr, congrArg Req.phase hqr⟩, out_of_seen (linked_keeps (by decide) ..)⟩
  rw [hports]
  exact congrArg Port.beats (vget_vmod_same ..)

end

/-! ### CREDIT_RETURN (R98, R99) -/

/-- A port with one credit more of the class. -/
def credited (p : PortId) (wr : Bool) (s : State) : State :=
  updPort p (fun q => if wr then { q with wrHeld := q.wrHeld + 1 } else { q with rdHeld := q.rdHeld + 1 }) s

theorem credited_get (p : PortId) (wr : Bool) (s : State) : (credited p wr s).ports.get p =
    { s.ports.get p with
      wrHeld := (s.ports.get p).wrHeld + (if wr then 1 else 0), rdHeld := (s.ports.get p).rdHeld + (if wr then 0 else 1) } := by
  rw [credited, updPort, vget_vmod_same]
  cases wr <;> rfl

/-- The line port that got a credit is the last one served (R99). -/
def creditServed (p : PortId) (wr : Bool) (s : State) : State :=
  if p = 4 then s else updQos (fun q => if wr then { q with lastCrdWr := p } else { q with lastCrdRd := p }) s

theorem creditServed_eq (p : PortId) (wr : Bool) (s : State) :
    creditServed p wr s = { s with qos := (creditServed p wr s).qos } := by
  unfold creditServed
  split <;> rfl

theorem creditReturn_due {wr : Bool} (hflow : creditsFlow s = true)
    (hnext : (creditOrder (if wr then s.qos.lastCrdWr else s.qos.lastCrdRd)).find? (creditDue s wr) = some p) :
    creditReturn wr s = emit (.credit p wr) (portCycles (creditServed p wr (credited p wr s))) := by
  unfold creditReturn
  rw [hflow, hnext]
  rfl

theorem credit_returned {wr : Bool} (hflow : creditsFlow s = true)
    (hnext : (creditOrder (if wr then s.qos.lastCrdWr else s.qos.lastCrdRd)).find? (creditDue s wr) = some p) :
    completes (.creditReturn wr) s fun t =>
      t.out = [.credit p wr]
      ∧ (t.ports.get p).wrHeld = (s.ports.get p).wrHeld + (if wr then 1 else 0)
      ∧ (t.ports.get p).rdHeld = (s.ports.get p).rdHeld + (if wr then 0 else 1)
      ∧ t.reqs = s.reqs ∧ t.regs = s.regs := by
  refine completes_of_run (f := creditReturn wr) rfl ?_
  rw [creditReturn_due (s := begin_ s) (p := p) hflow hnext, creditServed_eq]
  generalize (creditServed p wr (credited p wr (begin_ s))).qos = served
  let u : State := { credited p wr (begin_ s) with qos := served }
  have hport : (emit (.credit p wr) (portCycles u)).ports.get p =
      { (credited p wr (begin_ s)).ports.get p with held := holdNow u, seen := none } := vget_map ..
  refine ⟨rfl, ?_, ?_, rfl, rfl⟩ <;> rw [hport, credited_get] <;> rfl

/-! ### PORT_TRANSACTION_TIMEOUT (R119) -/

section

variable {tag : BitVec 10} {r : Req}

/-- The timeout of a request is flagged in PRT_STATUS and counted as an expiry. -/
def expiryNoted (p : PortId) (tag : BitVec 10) (r : Req) (s : State) : State :=
  timeout 0x0C 3 1 false (p.val * 2 ^ 13 + r.gen.toNat * 2 ^ 10 + tag.toNat) (r.addr.toNat % 2 ^ 32)
    (sqSet (rPrtStatus p) 0x8 s)

theorem expiryNoted_reqs : (expiryNoted p tag r s).reqs = s.reqs := reqs_of_seen (s := sqSet (rPrtStatus p) 0x8 s)
  (timeout_keeps (by decide) ..)

theorem expiryNoted_mir : (expiryNoted p tag r s).mir = s.mir := mir_of_seen (s := sqSet (rPrtStatus p) 0x8 s)
  (timeout_keeps (by decide) ..)

theorem expiryNoted_ctl : (expiryNoted p tag r s).glb.ctl = s.glb.ctl := glb_ctl_of_seen (s := sqSet (rPrtStatus p) 0x8 s)
  (timeout_keeps (by decide) ..)

theorem expiryNoted_bit : bitOf (regGet (expiryNoted p tag r s) (rPrtStatus p)) 3 = true := by
  have e : regGet (expiryNoted p tag r s) (rPrtStatus p) = regGet (sqSet (rPrtStatus p) 0x8 s) (rPrtStatus p) :=
    regGet_prtStatus_of_seen (timeout_keeps (hid := 0x40000017200000000000000000000000000000000000) (by decide) ..)
      (by decide +kernel) p
  have h3 : bitOf (0x8 : Word) 3 = true := by decide
  rw [e, regGet_sqSet_same, sqWord_bit _ _ (by decide), h3, Bool.or_true]

/-- The request that timed out has its answer. -/
def timeoutAnswered (p : PortId) (tag : BitVec 10) (r : Req) (s : State) : State :=
  answerX r.id .failed 0 false (peerEpochFor s r) (expiryNoted p tag r s)

theorem outstanding_spec (h : outstanding s p tag = some r) : r ∈ s.reqs ∧ r.port = p ∧ r.tag = tag ∧ r.answered = false := by
  obtain ⟨⟨hport, htag⟩, ha⟩ : (r.port = p ∧ r.tag = tag) ∧ r.answered = false := by simpa using List.find?_some h
  exact ⟨List.mem_of_find?_eq_some h, hport, htag, ha⟩

theorem findReq_expiryNoted (hf : idsFresh s) (h : outstanding s p tag = some r) :
    findReq (expiryNoted p tag r s) r.id = some r := by
  unfold findReq
  rw [expiryNoted_reqs]
  exact findReq_of_mem hf.1 (outstanding_spec h).1

/-- A timeout leaves the request answered; one of the ingress stage then leaves it. -/
theorem portTransactionTimeout_outstanding (hf : idsFresh s) (hctl : s.glb.ctl ≠ .held) (h : outstanding s p tag = some r) :
    portTransactionTimeout p tag s = if r.phase = .waitBeat || r.phase = .ingress
      then ingressLeft (finish r.id (timeoutAnswered p tag r s)) else timeoutAnswered p tag r s := by
  have e : answer r.id .failed 0 (expiryNoted p tag r s) = timeoutAnswered p tag r s := by
    unfold answer
    rw [findReq_expiryNoted hf h]
    dsimp only
    rw [show peerEpochFor (expiryNoted p tag r s) r = peerEpochFor s r by rw [peerEpochFor, expiryNoted_mir]; rfl]
    rfl
  unfold portTransactionTimeout
  rw [h]
  dsimp only
  rw [if_neg hctl, ← e]
  rfl

theorem timeoutAnswered_bit (hf : idsFresh s) (hctl : s.glb.ctl ≠ .held) (h : outstanding s p tag = some r) :
    bitOf (regGet (timeoutAnswered p tag r s) (rPrtStatus p)) 3 = true := by
  obtain ⟨-, -, -, ha⟩ := outstanding_spec h
  have e : (timeoutAnswered p tag r s).regs = (bump (rPrtFails r.port) (expiryNoted p tag r s)).regs :=
    answerX_regs (findReq_expiryNoted hf h) ha (by rwa [expiryNoted_ctl]) ..
  have hne : rPrtStatus p ≠ rPrtFails r.port := by simp only [rPrtStatus, rPrtFails]; omega
  rw [regGet_congr e, regGet_bump_other _ hne]
  exact expiryNoted_bit

theorem request_times_out (hf : idsFresh s) (hctl : s.glb.ctl ≠ .held) (h : outstanding s p tag = some r) :
    completes (.portTransactionTimeout p tag) s fun t =>
      countsExpiry 0x0C s t
      ∧ .rsp p tag r.gen .failed 0 r.src r.xid false (peerEpochFor s r) ∈ t.out
      ∧ (∀ q ∈ t.reqs, q.id = r.id → q.answered = true)
      ∧ bitOf (regGet t (0x800C + 0x40 * p.val)) 3 = true := by
  obtain ⟨-, hport, htag, ha⟩ := outstanding_spec h
  let u := timeoutAnswered p tag r (begin_ s)
  have hfind : findReq (expiryNoted p tag r (begin_ s)) r.id = some r := findReq_expiryNoted (s := begin_ s) hf h
  have hctl' : (expiryNoted p tag r (begin_ s)).glb.ctl ≠ .held := expiryNoted_ctl (s := begin_ s) ▸ hctl
  have rsp : .rsp p tag r.gen .failed 0 r.src r.xid false (peerEpochFor s r) ∈ u.out := by
    rw [← hport, ← htag]
    exact answerX_mem hfind ha hctl' ..
  have bit : bitOf (regGet u (rPrtStatus p)) 3 = true := timeoutAnswered_bit (s := begin_ s) hf hctl h
  refine completes_of_run (f := portTransactionTimeout p tag) rfl ?_
  rw [portTransactionTimeout_outstanding (s := begin_ s) hf hctl h]
  split
  · refine ⟨?_, (ingressLeft_later (finish_later (later_refl u))).mem_out rsp,
      settled_of_ungraded (ingressLeft_ungraded _) (finish_settled r.id u), ingressLeft_keeps_bit (by decide) ?_⟩
    · exact countsExpiry_of_timeout (s := sqSet (rPrtStatus p) 0x8 (begin_ s)) ((ingressLeft_keeps (by decide) _).trans
        ((finish_keeps (by decide) ..).trans (answerX_keeps (by decide) ..)))
    · rwa [regGet_congr (regs_of_seen (finish_keeps (by decide) ..) : (finish r.id u).regs = u.regs)]
  · exact ⟨countsExpiry_of_timeout (s := sqSet (rPrtStatus p) 0x8 (begin_ s)) (answerX_keeps (by decide) ..), rsp,
      barriers_settled (answer1_settles hfind ha hctl' .failed 0 false _), bit⟩

end

/-! ### RTP_URGENT_CHANGE (R124) -/

theorem urgent_taken (level : Bool) : completes (.rtpUrgentChange level) s fun t =>
    t.qos.urgent = level ∧ t.reqs.map Req.id = s.reqs.map Req.id ∧ t.out = [] := by
  let u := updQos (fun q => { q with urgent := level }) (begin_ s)
  refine completes_of_run (f := rtpUrgentChange level) rfl ?_
  unfold rtpUrgentChange
  dsimp only
  split
  · exact ⟨qos_urgent_of_seen (panicUpdate_keeps (by decide) u), ids_of_ungraded (panicUpdate_ungraded u),
      out_of_seen (panicUpdate_keeps (by decide) u)⟩
  · exact ⟨rfl, rfl, rfl⟩

/-- Settles O16: by what is left unanswered for a BARRIER, by what the first awaited beat belongs to, and by the rule of each
other command. -/
theorem barriersAndBeats : Obligations.BarriersAndBeats :=
  ⟨fun _ _ _ => barrier_answered, fun _ _ _ _ => barrier_waits, fun _ _ _ _ _ _ _ => awaited_beat,
    fun _ _ _ _ _ => discarded_beat, fun _ _ _ _ _ _ => answered_beat, fun _ _ _ => credit_returned,
    fun _ _ _ _ => request_times_out, fun _ => urgent_taken⟩

end Sys2Proof
end

section
/-! SUPPORT. The image comes into force and the clocks start (R137, R138, R163). -/

namespace Sys2Proof.Machine

variable {s : State}

/-- The core clock runs at the boot gear of the staged image, whose channels are those of the sequence (R137, R163). -/
def clocked (s : State) : State :=
  enterSequence s.img.staging
    (updGlb (fun g => { g with gear := gearN (bootGear s.img.staging), coreRun := true, pllTries := 0 }) s)

/-- The staged image is applied on the clock that runs (R138). -/
def imageInForce (s : State) : State := applyImage s.img.staging (clocked s)

/-- The load of the image ends: that of a restart-class reload as applied, that of Cast-On with an empty staging area
(R434, R437). -/
def loadEnds (before : Word) (s : State) : State :=
  if s.glb.restart && s.img.rl.st = .restarting then appliedReload 2 before s else updImg (fun i => { i with staging := [] }) s

theorem pllLock_locks (h : atStep s 5 = true) :
    pllLock s = panicUpdate (toStep 6 (loadEnds (regGet s 0x4000) (imageInForce s))) := by
  unfold pllLock loadEnds imageInForce clocked
  rw [h]
  exact if_neg (by simp)

theorem loadEnds_keeps {hid : Nat}
    (hw : 0x4000005120000C580200000020000000000000000000 &&& hid = 0x4000005120000C580200000020000000000000000000)
    (before : Word) (s : State) : (loadEnds before s).seen hid = s.seen hid := by
  refine seen_mono hw ?_
  unfold loadEnds
  split
  · exact appliedReload_keeps (by decide) ..
  · exact updImg_keeps _ _ (by simp)

theorem pllLock_keeps_force {hid : Nat}
    (hw : 0x4A04025120000C58020000002000C050100000000004 &&& hid = 0x4A04025120000C58020000002000C050100000000004)
    (h : atStep s 5 = true) : (pllLock s).seen hid = (imageInForce s).seen hid := by
  refine seen_mono hw ?_
  rw [pllLock_locks h, panicUpdate_keeps (by decide), toStep_keeps (by decide), loadEnds_keeps (by decide)]

theorem pllLock_keeps_clocked {hid : Nat}
    (hw : 0x4A7FFFF920020C7C020000002000C05C100000340004 &&& hid = 0x4A7FFFF920020C7C020000002000C05C100000340004)
    (h : atStep s 5 = true) : (pllLock s).seen hid = (clocked s).seen hid :=
  (pllLock_keeps_force (sub_trans (by decide) hw) h).trans (applyImage_keeps (sub_trans (by decide) hw) ..)

theorem pllLock_starts (h : atStep s 5 = true) : (pllLock s).glb.ctl = .castOn ∧ (pllLock s).glb.step = 6
    ∧ (pllLock s).glb.coreRun = true ∧ (pllLock s).glb.gear = gearN (bootGear s.img.staging) := by
  refine ⟨(glb_ctl_of_seen (pllLock_keeps_clocked (by decide) h)).trans (castOn_of_atStep h), ?_,
    glb_coreRun_of_seen (pllLock_keeps_clocked (by decide) h), glb_gear_of_seen (pllLock_keeps_clocked (by decide) h)⟩
  rw [pllLock_locks h, glb_step_of_seen (panicUpdate_keeps (by decide) _), toStep_step]

theorem applyImage_covers (m : Image) (s : State) :
    ∃ u, applyImage m s = coverUnheld (updImg (fun i => { i with words := m, applied := true }) u) := ⟨_, rfl⟩

theorem imageInForce_image (s : State) : (imageInForce s).img.applied = true ∧ (imageInForce s).img.words = s.img.staging := by
  obtain ⟨u, hu⟩ := applyImage_covers s.img.staging (clocked s)
  rw [imageInForce, hu, img_of_seen (coverUnheld_keeps (by decide) _)]
  exact ⟨rfl, rfl⟩

theorem pllLock_image (h : atStep s 5 = true) : (pllLock s).img.applied = true ∧ (pllLock s).img.words = s.img.staging := by
  rw [img_applied_of_seen (pllLock_keeps_force (by decide) h), img_words_of_seen (pllLock_keeps_force (by decide) h)]
  exact imageInForce_image s

theorem pllLock_inSeq (h : atStep s 5 = true) (c : Ch) : ((pllLock s).glb.ch.get c).inSeq
    = (s.glb.chanEn.getLsbD c.val && (profileOf s.img.staging s.glb.ctlId.toNat).channels.testBit c.val) := by
  rw [glb_ch_of_seen (pllLock_keeps_clocked (by decide) h)]
  unfold clocked enterSequence
  simp [updGlb]

theorem pllLockTimeout_retries (h : atStep s 5 = true) (ht : s.glb.pllTries < 2) :
    pllLockTimeout s = updGlb (fun g => { g with pllTries := g.pllTries + 1 })
      (timeout 0x0F 1 0 false (subjStep s 0 0) 0 s) := by
  unfold pllLockTimeout
  rw [if_pos (Bool.or_eq_true_iff.2 (.inl h)), show decide (2 ≤ s.glb.pllTries) = false from decide_eq_false (Nat.not_le.2 ht)]
  exact if_neg (by simp)

theorem pllLockTimeout_gives_up (h : atStep s 5 = true) (ht : ¬ s.glb.pllTries < 2) :
    pllLockTimeout s = panicUpdate (dropDeferred (halt 0x06 (timeout 0x0F 4 0 false (subjStep s 0 0) 0 s))) := by
  unfold pllLockTimeout
  rw [if_pos (Bool.or_eq_true_iff.2 (.inl h)), show decide (2 ≤ s.glb.pllTries) = true from decide_eq_true (Nat.not_lt.1 ht)]
  exact if_pos rfl

/-- A wake that does not complete answers the writes that wait for it, and panic is judged (R33, R124). -/
theorem dropDeferred_panic_keeps {hid : Nat}
    (hw : 0x2A04020000600000000000000000C050100000000000 &&& hid = 0x2A04020000600000000000000000C050100000000000) (s : State) :
    (panicUpdate (dropDeferred s)).seen hid = s.seen hid :=
  (panicUpdate_keeps (sub_trans (by decide) hw) _).trans (dropDeferred_keeps (sub_trans (by decide) hw) s)

/-- SIDEBAND begins as step 7. -/
theorem sidebandStart_step (s : State) : (sidebandStart s).glb.step = 7 := by
  unfold sidebandStart
  rw [glb_step_of_seen (i3cStart_keeps (by decide) _), toStep_step]

end Sys2Proof.Machine
end

section
/-! The lock of the PLL and the calibration of the pads (R137 to R140, R163, R518). -/

namespace Sys2Proof
open Machine

variable {s : State}

theorem pll_locked (h : atStep s 5 = true) :
    completes .pllLock s fun t =>
      t.glb.ctl = .castOn
      ∧ t.glb.step = 6
      ∧ t.glb.coreRun = true
      ∧ t.glb.gear = gearN (bootGear s.img.staging)
      ∧ t.img.applied = true
      ∧ t.img.words = s.img.staging
      ∧ (∀ c : Ch, (t.glb.ch.get c).inSeq
      = (s.glb.chanEn.getLsbD c.val && (profileOf s.img.staging s.glb.ctlId.toNat).channels.testBit c.val)) := by
  obtain ⟨hctl, hstep, hrun, hgear⟩ := pllLock_starts (s := begin_ s) h
  obtain ⟨happlied, hwords⟩ := pllLock_image (s := begin_ s) h
  exact completes_of_run (f := pllLock) rfl
    ⟨hctl, hstep, hrun, hgear, happlied, hwords, pllLock_inSeq (s := begin_ s) h⟩

theorem pll_lock_late (h : atStep s 5 = true) :
    completes .pllLockTimeout s fun t =>
      countsExpiry 0x0F s t
      ∧ (if s.glb.pllTries < 2 then t.glb.ctl = .castOn ∧ t.glb.step = 5 ∧ t.glb.pllTries = s.glb.pllTries + 1
      else t.glb.ctl = .halted ∧ t.glb.haltCause = 0x06) := by
  refine completes_of_run (f := pllLockTimeout) rfl ?_
  by_cases ht : s.glb.pllTries < 2
  · have same : (timeout 0x0F 1 0 false (subjStep (begin_ s) 0 0) 0 (begin_ s)).glb = s.glb :=
      glb_of_seen (timeout_keeps (by decide) ..)
    obtain ⟨hc, hs⟩ := atStep_iff.1 h
    rw [pllLockTimeout_retries (s := begin_ s) h ht, if_pos ht]
    refine ⟨countsExpiry_of_timeout (s := begin_ s) (updGlb_keeps _ _ (by simp)), ?_⟩
    rw [updGlb, same]
    exact ⟨hc, hs, rfl⟩
  · have halted := halt_does 0x06 (timeout 0x0F 4 0 false (subjStep (begin_ s) 0 0) 0 (begin_ s))
    rw [pllLockTimeout_gives_up (s := begin_ s) h ht, if_neg ht]
    exact ⟨countsExpiry_of_timeout (s := begin_ s) ((dropDeferred_panic_keeps (by decide) _).trans (halt_keeps (by decide) ..)),
      (glb_ctl_of_seen (dropDeferred_panic_keeps (by decide) _)).trans halted.1,
      (glb_haltCause_of_seen (dropDeferred_panic_keeps (by decide) _)).trans halted.2.1⟩

theorem pads_calibrated (atEnd : Bool) (h : atStep s 6 = true) :
    completes (.phyZqDone atEnd) s fun t =>
      (if atEnd then t.glb.ctl = .halted ∧ t.glb.haltCause = 0x07 else t.glb.ctl = .castOn ∧ t.glb.step = 7) := by
  refine completes_of_run (f := phyZqDone atEnd) rfl ?_
  rw [phyZqDone, show atStep (begin_ s) 6 = true from h]
  cases atEnd with
  | true => exact ⟨(halt_does ..).1, (halt_does ..).2.1⟩
  | false => exact ⟨(glb_ctl_of_seen (sidebandStart_keeps (by decide) _)).trans (castOn_of_atStep h), sidebandStart_step _⟩

theorem pads_late (h : atStep s 6 = true) :
    completes .phyZqTimeout s fun t => t.glb.ctl = .halted ∧ t.glb.haltCause = 0x07 ∧ countsExpiry 0x10 s t := by
  refine completes_of_run (f := phyZqTimeout) rfl ?_
  rw [phyZqTimeout, if_pos (show atStep (begin_ s) 6 = true from h)]
  exact ⟨(halt_does ..).1, (halt_does ..).2.1, countsExpiry_of_timeout (s := begin_ s) (halt_keeps (by decide) ..)⟩

/-- Settles O4, by what each end of the lock and of the calibration leads to. -/
theorem clocksAndPads : Obligations.ClocksAndPads :=
  ⟨fun _ => pll_locked, fun _ => pll_lock_late, fun _ => pads_calibrated, fun _ => pads_late⟩

end Sys2Proof
end

section
/-! SUPPORT. What a transaction on the sideband leaves of its slot (R141, R142, R488 to R490). -/

namespace Sys2Proof.Machine

variable {s : State} {c : Ch} {k : Fin 2} {d : I3cDev}

theorem slotAt_updSlot (c : Ch) (k : Fin 2) (f : Slot → Slot) (s : State) :
    slotAt (updSlot c k f s) c k = f (slotAt s c k) := vget_vmod_same ..

theorem slotAt_of_seen {t : State} (e : t.seen 0x1FFFFFFFFFFFFFFFFFFFFFFFFFFFFFFFFFFFFFFFEFFFF =
    s.seen 0x1FFFFFFFFFFFFFFFFFFFFFFFFFFFFFFFFFFFFFFFEFFFF) : slotAt t c k = slotAt s c k :=
  congrArg (fun v => v.get (slotIx c k)) (glb_slot_of_seen e)

theorem i3cDone_temp (h : busOwned s c = true) (x : SensorId) (v : BitVec 16) :
    slotAt (i3cDone c k (.temp x v) s) c k = { slotAt s c k with
      sensors := vmod (slotAt s c k).sensors (sensorIx x) (takeTemp (atStep s 7) v)
      tries := vset (slotAt s c k).tries (sensorIx x) 0 } := by
  unfold i3cDone
  rw [h]
  exact slotAt_updSlot ..

theorem i3cDone_spd (h : busOwned s c = true) (h7 : atStep s 7 = true) (b : List Byte) :
    slotAt (i3cDone c k (.spd b) s) c k = { slotAt s c k with spd := some (spdInfo b), spdTries := 0 } := by
  unfold i3cDone
  rw [h, h7]
  exact slotAt_updSlot ..

theorem i3cDone_pmic (h : busOwned s c = true) (v : BitVec 16) :
    slotAt (i3cDone c k (.pmic v) s) c k = { slotAt s c k with pmicNew := some v, pmicTries := 0 } := by
  unfold i3cDone
  rw [h]
  exact slotAt_updSlot ..

theorem takeTemp_found {boot : Bool} {z : Sensor} (h : boot = true ∨ z.found = true) (v : BitVec 16) :
    takeTemp boot v z = ⟨true, v, true, true⟩ := if_pos (Bool.or_eq_true_iff.2 h)

/-- The expiry of a transaction's timer is noted (R518). -/
def i3cLate (c : Ch) (k : Fin 2) (s : State) : State := timeout 0x11 0 7 false (subjStep s c.val k.val) 0 s

theorem i3cTimeout_retries (h : busOwned s c = true) (ht : i3cTries d (slotAt s c k) < 2) :
    i3cTimeout c k d s = i3cRead c k [d] (updSlot c k (i3cRetry d) (i3cLate c k s)) := by
  have kept : slotAt (i3cLate c k s) c k = slotAt s c k := slotAt_of_seen (timeout_keeps (by decide) ..)
  unfold i3cTimeout
  rw [h]
  exact (if_neg (by simp)).trans (if_pos (kept ▸ ht))

theorem i3cTimeout_gives_up (h : busOwned s c = true) (ht : ¬ i3cTries d (slotAt s c k) < 2) :
    i3cTimeout c k d s = updSlot c k (i3cLost d (atStep s 7)) (i3cLate c k s) := by
  have kept : slotAt (i3cLate c k s) c k = slotAt s c k := slotAt_of_seen (timeout_keeps (by decide) ..)
  have step : atStep (i3cLate c k s) 7 = atStep s 7 := by
    rw [atStep, i3cLate, glb_of_seen (timeout_keeps (by decide) ..)]
    rfl
  unfold i3cTimeout
  rw [h, ← step]
  exact (if_neg (by simp)).trans (if_neg (kept ▸ ht))

/-- A transaction that is late is retried twice, then its device is given up (R142). -/
theorem i3cTimeout_slot (h : busOwned s c = true) : slotAt (i3cTimeout c k d s) c k =
    if i3cTries d (slotAt s c k) < 2 then i3cRetry d (slotAt s c k) else i3cLost d (atStep s 7) (slotAt s c k) := by
  have kept : slotAt (i3cLate c k s) c k = slotAt s c k := slotAt_of_seen (timeout_keeps (by decide) ..)
  split
  · next ht =>
    rw [i3cTimeout_retries h ht, slotAt_of_seen (i3cRead_keeps (by decide) ..), slotAt_updSlot, kept]
  · next ht => rw [i3cTimeout_gives_up h ht, slotAt_updSlot, kept]

theorem i3cTimeout_counts (h : busOwned s c = true) : countsExpiry 0x11 s (i3cTimeout c k d s) := by
  refine countsExpiry_of_timeout (sev := 0) (src := 7) (esc := false) (subject := subjStep s c.val k.val) (detail := 0) ?_
  by_cases ht : i3cTries d (slotAt s c k) < 2
  · rw [i3cTimeout_retries h ht, i3cRead_keeps (by decide), updSlot_keeps (by decide), i3cLate]
  · rw [i3cTimeout_gives_up h ht, updSlot_keeps (by decide), i3cLate]

end Sys2Proof.Machine
end

section
/-! Sideband transactions that end, and those that are late (R141 to R143, R488 to R490, R518). -/

namespace Sys2Proof
open Machine

variable {s : State} {c : Ch} {k : Fin 2}

theorem sensor_read (x : SensorId) (v : BitVec 16) (h : busOwned s c = true)
    (hf : atStep s 7 = true ∨ ((slotAt s c k).sensors.get (sensorIx x)).found = true) :
    completes (.i3cTransactionDone c k (.temp x v)) s fun t =>
      (slotAt t c k).sensors.get (sensorIx x) = ⟨true, v, true, true⟩ ∧ (slotAt t c k).tries.get (sensorIx x) = 0 := by
  refine completes_of_run (f := i3cDone c k (.temp x v)) rfl ?_
  rw [i3cDone_temp (s := begin_ s) h]
  exact ⟨(vget_vmod_same ..).trans (takeTemp_found hf v), vget_vset_same ..⟩

theorem spd_read (b : List Byte) (h : busOwned s c = true) (h7 : atStep s 7 = true) :
    completes (.i3cTransactionDone c k (.spd b)) s fun t =>
      (slotAt t c k).spd = some (spdInfo b) ∧ (slotAt t c k).spdTries = 0 := by
  refine completes_of_run (f := i3cDone c k (.spd b)) rfl ?_
  rw [i3cDone_spd (s := begin_ s) h h7]
  exact ⟨rfl, rfl⟩

theorem pmic_read (v : BitVec 16) (h : busOwned s c = true) :
    completes (.i3cTransactionDone c k (.pmic v)) s fun t => (slotAt t c k).pmicNew = some v ∧ (slotAt t c k).pmicTries = 0 := by
  refine completes_of_run (f := i3cDone c k (.pmic v)) rfl ?_
  rw [i3cDone_pmic (s := begin_ s) h]
  exact ⟨rfl, rfl⟩

theorem transaction_late (d : I3cDev) (h : busOwned s c = true) :
    completes (.i3cTransactionTimeout c k d) s fun t => countsExpiry 0x11 s t ∧ slotAt t c k =
      if i3cTries d (slotAt s c k) < 2 then i3cRetry d (slotAt s c k) else i3cLost d (atStep s 7) (slotAt s c k) :=
  completes_of_run (f := i3cTimeout c k d) rfl ⟨i3cTimeout_counts (s := begin_ s) h, i3cTimeout_slot (s := begin_ s) h⟩

theorem spd_late (h : busOwned s c = true) :
    completes (.i3cTransactionTimeout c k .spd) s fun t =>
      countsExpiry 0x11 s t
      ∧ (if (slotAt s c k).spdTries < 2
      then (slotAt t c k).spdTries = (slotAt s c k).spdTries + 1 ∧ (slotAt t c k).spd = (slotAt s c k).spd
      else (slotAt t c k).spdTries = 0 ∧ (slotAt t c k).spd = none) := by
  refine (transaction_late .spd h).imp fun t ⟨counted, slot⟩ => ⟨counted, ?_⟩
  split
  · next ht =>
    rw [slot, if_pos (show i3cTries .spd (slotAt s c k) < 2 from ht)]
    exact ⟨rfl, rfl⟩
  · next ht =>
    rw [slot, if_neg (show ¬ i3cTries .spd (slotAt s c k) < 2 from ht)]
    exact ⟨rfl, rfl⟩

theorem pmic_late (h : busOwned s c = true) :
    completes (.i3cTransactionTimeout c k .pmic) s fun t =>
      countsExpiry 0x11 s t
      ∧ (if (slotAt s c k).pmicTries < 2
      then (slotAt t c k).pmicTries = (slotAt s c k).pmicTries + 1 ∧ (slotAt t c k).pmicNew = (slotAt s c k).pmicNew
      else (slotAt t c k).pmicTries = 0 ∧ (slotAt t c k).pmicNew = none) := by
  refine (transaction_late .pmic h).imp fun t ⟨counted, slot⟩ => ⟨counted, ?_⟩
  split
  · next ht =>
    rw [slot, if_pos (show i3cTries .pmic (slotAt s c k) < 2 from ht)]
    exact ⟨rfl, rfl⟩
  · next ht =>
    rw [slot, if_neg (show ¬ i3cTries .pmic (slotAt s c k) < 2 from ht)]
    exact ⟨rfl, rfl⟩

theorem sensor_late (x : SensorId) (h : busOwned s c = true) :
    completes (.i3cTransactionTimeout c k (.sensor x)) s fun t =>
      countsExpiry 0x11 s t
      ∧ (if (slotAt s c k).tries.get (sensorIx x) < 2
      then (slotAt t c k).tries.get (sensorIx x) = (slotAt s c k).tries.get (sensorIx x) + 1
      ∧ (slotAt t c k).sensors = (slotAt s c k).sensors
      else (slotAt t c k).tries.get (sensorIx x) = 0 ∧ ((slotAt t c k).sensors.get (sensorIx x)).valid = false
      ∧ ((slotAt t c k).sensors.get (sensorIx x)).found
      = (((slotAt s c k).sensors.get (sensorIx x)).found && !atStep s 7)) := by
  refine (transaction_late (.sensor x) h).imp fun t ⟨counted, slot⟩ => ⟨counted, ?_⟩
  split
  · next ht =>
    rw [slot, if_pos (show i3cTries (.sensor x) (slotAt s c k) < 2 from ht)]
    exact ⟨vget_vmod_same .., rfl⟩
  · next ht =>
    rw [slot, if_neg (show ¬ i3cTries (.sensor x) (slotAt s c k) < 2 from ht)]
    exact ⟨vget_vset_same .., congrArg Sensor.valid (vget_vmod_same ..), congrArg Sensor.found (vget_vmod_same ..)⟩

/-- Settles O5: the slot after a transaction that ends, and after one that is late. -/
theorem sidebandResults : Obligations.SidebandResults :=
  ⟨fun _ _ _ => sensor_read, fun _ _ _ => spd_read, fun _ _ _ => pmic_read, fun _ _ _ => spd_late, fun _ _ _ => pmic_late,
    fun _ _ _ => sensor_late⟩

end Sys2Proof
end

section
/-! SUPPORT. An expiry that may lead to HALTED, and what makes a channel live (R145, R518, R519). -/

namespace Sys2Proof.Machine

variable {s t : State} {c d : Ch}

theorem timeoutBy_expiries (always : Bool) (code : Nat) (sev : Fin 8) (src : Nat) (esc : Bool) (subject detail : Nat)
    (s : State) : (timeoutBy always code sev src esc subject detail s).evt.expiries = (expired code s).evt.expiries := by
  unfold timeoutBy
  exact evt_expiries_of_seen (limited_keeps (by decide) _ _ _ _ fun n t => by simp)

/-- An expiry stays counted under what leaves the counts alone, whether or not it leads to HALTED. -/
theorem countsExpiry_of_timeoutBy {always : Bool} {code : Nat} {sev : Fin 8} {src : Nat} {esc : Bool} {subject detail : Nat}
    (e : t.seen 0x1fffffffbffffffffffffffffffffffffffffffffffff =
      (timeoutBy always code sev src esc subject detail s).seen 0x1fffffffbffffffffffffffffffffffffffffffffffff) :
    countsExpiry code s t := by
  rw [countsExpiry, evt_expiries_of_seen e, timeoutBy_expiries, ← sat_eq_min]
  simp [expired, kget]

theorem chLive_congr (ha : t.alert = s.alert) (hi : (t.glb.ch.get c).inSeq = (s.glb.ch.get c).inSeq)
    (hx : (t.glb.ch.get c).excluded = (s.glb.ch.get c).excluded) : chLive t c = chLive s c := by
  rw [chLive, ha, hi, hx, chLive]

theorem chLive_of_seen (e : t.seen 0x1EFFFFFFFFFFFFFFFFFFFFFFFFFFFFFFFFFFFFFFF7FFF =
    s.seen 0x1EFFFFFFFFFFFFFFFFFFFFFFFFFFFFFFFFFFFFFFF7FFF) : chLive t c = chLive s c := by
  have ch : t.glb.ch = s.glb.ch := glb_ch_of_seen (seen_mono (by decide) e)
  exact chLive_congr (alert_of_seen (seen_mono (by decide) e)) (by rw [ch]) (by rw [ch])

theorem orHalt_live (h : chLive s c = true) : orHalt s = s := if_pos (List.any_eq_true.2 ⟨c, mem_fins c, h⟩)

theorem orHalt_dead (h : ∀ c, chLive s c = false) : orHalt s = halt 0x08 s :=
  if_neg fun ha => by
    obtain ⟨c, -, hc⟩ := List.any_eq_true.1 ha
    exact Bool.false_ne_true ((h c).symm.trans hc)

theorem updCh_get (c d : Ch) (f : Chan → Chan) (s : State) :
    (updCh c f s).glb.ch.get d = if d = c then f (s.glb.ch.get d) else s.glb.ch.get d := by
  split
  · next e => rw [e]; exact vget_vmod_same ..
  · next e => exact vget_vmod_other _ _ e

/-- One update of each channel of a list. -/
theorem forAll_updCh_get {l : List Ch} (hl : l.Nodup) (f : Chan → Chan) (s : State) (d : Ch) :
    (forAll l (fun c => updCh c f) s).glb.ch.get d = if d ∈ l then f (s.glb.ch.get d) else s.glb.ch.get d := by
  unfold forAll
  induction l generalizing s with
  | nil => rfl
  | cons a l ih =>
    obtain ⟨ha, hl⟩ := List.nodup_cons.1 hl
    rw [List.foldl_cons, ih hl, updCh_get]
    by_cases e : d = a
    · subst e
      simp [ha]
    · simp [e]

end Sys2Proof.Machine
end

section
/-! SUPPORT. The end of the population check (R143 to R147). -/

namespace Sys2Proof.Machine

variable {s : State} {c : Ch}

/-- The channels found empty are noted (R145). -/
def emptyNoted (s : State) : State := forAll ((fins 2).filter (noDimm s)) noteEmpty s

theorem emptyNoted_get (s : State) (c : Ch) : (emptyNoted s).glb.ch.get c =
    if noDimm s c then { s.glb.ch.get c with unpopulated := true, latch := false, inSr := false } else s.glb.ch.get c := by
  refine (forAll_updCh_get ((List.nodup_finRange 2).filter _) _ s c).trans ?_
  simp only [List.mem_filter, List.mem_finRange, true_and]

theorem emptyNoted_latch (s : State) (c : Ch) :
    ((emptyNoted s).glb.ch.get c).latch = ((s.glb.ch.get c).latch && !noDimm s c) := by
  rw [emptyNoted_get]
  cases noDimm s c <;> simp

theorem emptyNoted_live (s : State) (c : Ch) : chLive (emptyNoted s) c = chLive s c := by
  refine chLive_congr (alert_of_seen (forAll_keeps _ _ _ fun c s => noteEmpty_keeps (by decide) c s)) ?_ ?_ <;>
    rw [emptyNoted_get] <;> split <;> rfl

theorem emptyNoted_ctl (s : State) : (emptyNoted s).glb.ctl = s.glb.ctl :=
  glb_ctl_of_seen (forAll_keeps _ _ _ fun c s => noteEmpty_keeps (by decide) c s)

theorem sidebandDone_agrees (h : atStep s 7 = true) (hm : ∀ c, mismatch s c = false) (hl : chLive s c = true) :
    sidebandDone s = dimmInitStart (emptyNoted s) := by
  have agrees : (fins 2).filter (mismatch s) = [] := List.filter_eq_nil_iff.2 fun c _ => by simp [hm c]
  have live : chLive (emptyNoted s) c = true := (emptyNoted_live s c).trans hl
  have castOn : (emptyNoted s).glb.ctl = .castOn := (emptyNoted_ctl s).trans (castOn_of_atStep h)
  have noted : forAll ((fins 2).filter fun c => noDimm s c && !([] : List Ch).contains c) noteEmpty s = emptyNoted s := by
    simp [emptyNoted]
  unfold sidebandDone
  rw [h, agrees]
  refine (if_neg (by simp)).trans ((if_neg (by simp)).trans ?_)
  rw [noted]
  show (if (orHalt (emptyNoted s)).glb.ctl = .castOn then dimmInitStart (orHalt (emptyNoted s)) else orHalt (emptyNoted s)) = _
  rw [orHalt_live live, if_pos castOn]

theorem sidebandDone_differs (h : atStep s 7 = true) (hm : mismatch s c = true) (hp : strictPop s = true) :
    sidebandDone s = halt 0x09 s := by
  have differs : ((fins 2).filter (mismatch s)).isEmpty = false :=
    List.isEmpty_eq_false_iff_exists_mem.2 ⟨c, List.mem_filter.2 ⟨mem_fins c, hm⟩⟩
  unfold sidebandDone
  rw [h]
  exact (if_neg (by simp)).trans (if_pos (by simp [differs, hp]))

/-! ### DIMM_INIT begins (R147) -/

/-- The path of a channel goes by its latch, and its pads are on. -/
def Chan.onPath (b : Bool) (h : Chan) : Prop := h.latch = b ∧ h.retPath = b ∧ h.padsOn = true

/-- A channel with its path chosen, at a restart or not. -/
def Chan.chosen (restart : Bool) (h : Chan) : Chan := { h with retPath := h.latch, kept := restart && h.latch, padsOn := true }

theorem choosePath_get (a : Ch) (s : State) (c : Ch) : (choosePath a s).glb.ch.get c =
    if c = a then (s.glb.ch.get c).chosen s.glb.restart else s.glb.ch.get c := by
  rw [← updCh_get]
  unfold choosePath
  dsimp only
  split
  · rw [glb_ch_of_seen (takeSparing_keeps (by decide) ..)]
    rfl
  · rw [glb_ch_of_seen (coldStart_keeps (by decide) ..)]
    rfl

theorem choosePath_latch (a : Ch) (s : State) (c : Ch) : ((choosePath a s).glb.ch.get c).latch = (s.glb.ch.get c).latch := by
  rw [choosePath_get]
  split <;> rfl

theorem choosePath_chooses (c : Ch) {b : Bool} (h : (s.glb.ch.get c).latch = b) : ((choosePath c s).glb.ch.get c).onPath b := by
  rw [choosePath_get, if_pos rfl]
  exact ⟨h, h, rfl⟩

theorem choosePath_keeps_path (a : Ch) {b : Bool} (h : (s.glb.ch.get c).onPath b) : ((choosePath a s).glb.ch.get c).onPath b := by
  by_cases e : c = a
  · subst e
    exact choosePath_chooses c h.1
  · rwa [choosePath_get, if_neg e]

/-- What DIMM_INIT starts from: no counters, and no need of refresh management known (R241, R257). -/
def initCleared (s : State) : State := regPut 0x10000 18 18 0 (resetCounter s)

theorem initCleared_keeps {hid : Nat}
    (hw : 0x84000000000000000000000000000000FEC80000000 &&& hid = 0x84000000000000000000000000000000FEC80000000) (s : State) :
    (initCleared s).seen hid = s.seen hid := by
  refine seen_mono hw ?_
  unfold initCleared
  rw [regPut_keeps _ _ _ _ _ (by decide +kernel), resetCounter_keeps (by decide)]

theorem dimmInitStart_step (s : State) : (dimmInitStart s).glb.step = 8 := toStep_step ..

theorem dimmInitStart_chooses (h : chLive s c = true) : ((dimmInitStart s).glb.ch.get c).onPath (s.glb.ch.get c).latch := by
  have cleared : ∀ c, (initCleared s).glb.ch.get c = s.glb.ch.get c := fun c => by
    rw [glb_ch_of_seen (initCleared_keeps (by decide) s)]
  have live : chLive (initCleared s) c = true := (chLive_of_seen (initCleared_keeps (by decide) s)).trans h
  have kept : (dimmInitStart s).glb.ch =
      (forAll ((fins 2).filter (chLive (initCleared s))) choosePath (initCleared s)).glb.ch := by
    unfold dimmInitStart initCleared
    exact glb_ch_of_seen ((toStep_keeps (by decide) ..).trans (coverUnheld_keeps (by decide) _))
  rw [kept]
  refine forAll_reach (P := fun u => (u.glb.ch.get c).latch = (s.glb.ch.get c).latch)
    (Q := fun u => (u.glb.ch.get c).onPath (s.glb.ch.get c).latch) (List.mem_filter.2 ⟨mem_fins c, live⟩)
    (fun a u hu => (choosePath_latch a u c).trans hu) (fun a u => choosePath_keeps_path a) (fun u => choosePath_chooses c) ?_
  rw [cleared]

end Sys2Proof.Machine
end

section
/-! SUPPORT. A channel at DIMM_INIT: initialised, or excluded (R144, R145, R147, R148). -/

namespace Sys2Proof.Machine

variable {s : State} {c d : Ch} {r : InitReport}

/-- A channel whose ranks have left self-refresh (R147). -/
def Chan.awake (h : Chan) : Chan := { h with latch := false, inSr := false }

/-- A channel whose settings are written (R147). -/
def Chan.ready (h : Chan) : Chan := { h with released := true, initDone := true }

theorem initWake_get (c d : Ch) (s : State) :
    (initWake c s).glb.ch.get d = if d = c then (s.glb.ch.get d).awake else s.glb.ch.get d := by
  have kept : (initWake c s).glb.ch = (updCh c Chan.awake s).glb.ch := by
    refine glb_ch_of_seen ?_
    unfold initWake
    dsimp only
    rw [initPut_keeps (by decide), onlyIf_keeps _ _ _ (dckStart_keeps (by decide) c _),
      forAll_keeps _ _ _ fun x s => updSched_keeps (by decide) x _ s]
    rfl
  rw [kept, updCh_get]

theorem initCh_get (c d : Ch) (differs : Bool) (s : State) :
    (initCh c differs s).glb.ch.get d = if d = c then (s.glb.ch.get d).ready else s.glb.ch.get d := by
  have kept : (initCh c differs s).glb.ch = (updCh c Chan.ready s).glb.ch := by
    refine glb_ch_of_seen ?_
    unfold initCh
    dsimp only
    rw [forAll_keeps _ _ _ fun x s => (buildCalendar_keeps (by decide) x _).trans
      ((setMask_keeps (by decide) x false _).trans (updPwr_keeps _ s (by simp))),
      restReplaced_keeps (by decide), initPut_keeps (by decide)]
    rfl
  rw [kept, updCh_get]

theorem initReport_get (c d : Ch) (r : InitReport) (s : State) :
    (initReport c r s).glb.ch.get d = if d = c then (s.glb.ch.get d).ready else s.glb.ch.get d := by
  have asked : (onlyIf r.rfmRequired (regPut 0x10000 18 18 1) s).glb.ch = s.glb.ch :=
    glb_ch_of_seen (onlyIf_keeps _ _ _ (regPut_keeps _ _ _ _ _ (by decide +kernel)))
  have repaired : ∀ (cold : Bool) u, (onlyIf cold (fun s =>
      noteHard c r.hardDone (coldRecords c r.hardDone (coldRepairs c r.hardDone s))) u).glb.ch = u.glb.ch := fun cold u =>
    glb_ch_of_seen (onlyIf_keeps cold _ u ((noteHard_keeps (by decide) ..).trans ((coldRecords_keeps (by decide) ..).trans
      (coldRepairs_keeps (by decide) ..))))
  unfold initReport
  dsimp only
  rw [repaired, initCh_get, asked]

theorem reported_get (c d : Ch) (r : InitReport) (s : State) : (initReport c r (initWake c s)).glb.ch.get d =
    if d = c then (s.glb.ch.get d).awake.ready else s.glb.ch.get d := by
  rw [initReport_get, initWake_get]
  split <;> rfl

theorem reported_keeps {hid : Nat}
    (hw : 0x6842B0112008000000000000010000000CFC80008000 &&& hid = 0x6842B0112008000000000000010000000CFC80008000)
    (c : Ch) (r : InitReport) (s : State) : (initReport c r (initWake c s)).seen hid = s.seen hid :=
  (initReport_keeps hw ..).trans (initWake_keeps (sub_trans (by decide) hw) ..)

theorem reported_live (c d : Ch) (r : InitReport) (s : State) : chLive (initReport c r (initWake c s)) d = chLive s d := by
  refine chLive_congr (alert_of_seen (reported_keeps (by decide) ..)) ?_ ?_ <;> rw [reported_get] <;> split <;> rfl

theorem reported_atStep (c : Ch) (r : InitReport) (s : State) (n : Byte) :
    atStep (initReport c r (initWake c s)) n = atStep s n := by
  rw [atStep, glb_ctl_of_seen (reported_keeps (by decide) ..), glb_step_of_seen (reported_keeps (by decide) ..), atStep]

/-! ### The channels that are left (R145, R148) -/

theorem dropInit_get (c d : Ch) (s : State) : (dropInit c s).glb.ch.get d =
    if d = c then { s.glb.ch.get d with
      latch := (s.glb.ch.get d).retPath, inSr := (s.glb.ch.get d).retPath, released := false, excluded := true }
    else s.glb.ch.get d := by
  have kept : ∀ u, (exclude c u).glb.ch = (updCh c (fun h => { h with excluded := true }) u).glb.ch := fun u =>
    glb_ch_of_seen ((coverUnheld_keeps (by decide) _).trans (sqSet_keeps _ _ _ (by decide +kernel)))
  rw [dropInit, kept, updCh_get, updCh_get]
  split <;> rfl

theorem dropInit_live (c d : Ch) (s : State) : chLive (dropInit c s) d = true ↔ d ≠ c ∧ chLive s d = true := by
  by_cases e : d = c
  · simp [chLive, dropInit_get, e]
  · have same : chLive (dropInit c s) d = chLive s d :=
      chLive_congr (alert_of_seen (dropInit_keeps (by decide) ..)) (by rw [dropInit_get, if_neg e])
        (by rw [dropInit_get, if_neg e])
    simp [same, e]

/-- Excluding a channel ends Cast-On where no other one is live (R145). -/
theorem orHalt_dropInit_ctl (c : Ch) (s : State) : (orHalt (dropInit c s)).glb.ctl =
    if ∃ d : Ch, d ≠ c ∧ chLive s d = true then s.glb.ctl else .halted := by
  split
  · next h =>
    obtain ⟨d, hd⟩ := h
    rw [orHalt_live ((dropInit_live c d s).2 hd), glb_ctl_of_seen (dropInit_keeps (by decide) ..)]
  · next h =>
    have dead : ∀ d, chLive (dropInit c s) d = false := fun d =>
      Bool.eq_false_iff.2 fun hd => h ⟨d, (dropInit_live c d s).1 hd⟩
    rw [orHalt_dead dead, halt_ctl]

theorem halt_excluded (cause : Byte) (s : State) (c : Ch) :
    ((halt cause s).glb.ch.get c).excluded = (s.glb.ch.get c).excluded := by
  unfold halt
  rw [(enter_does ..).1]
  simp [updGlb]

theorem orHalt_excluded (s : State) (c : Ch) : ((orHalt s).glb.ch.get c).excluded = (s.glb.ch.get c).excluded := by
  unfold orHalt
  split
  · rfl
  · exact halt_excluded ..

/-! ### The end of the step (R147, R149) -/

theorem allInit_iff : allInit s = true ↔ ∀ d, chLive s d = true → (s.glb.ch.get d).initDone = true := by
  simp [allInit, fins, ← Bool.not_eq_true, imp_iff_not_or]

/-- Training begins once every live channel is initialised. -/
def initEnds (s : State) : State := if s.glb.ctl = .castOn && allInit s then trainingStart s else s

theorem initEnds_keeps {hid : Nat}
    (hw : 0x2800B0000000000000000000000002000CFC8002000C &&& hid = 0x2800B0000000000000000000000002000CFC8002000C) (s : State) :
    (initEnds s).seen hid = s.seen hid := by
  unfold initEnds
  split
  · exact trainingStart_keeps hw s
  · rfl

theorem trainingStart_step (s : State) : (trainingStart s).glb.step = 9 := by
  unfold trainingStart
  rw [glb_step_of_seen (gearTrain_keeps (by decide) ..), toStep_step]

theorem initEnds_step (h : atStep s 8 = true) : (initEnds s).glb.step = if allInit s then 9 else 8 := by
  obtain ⟨hc, hs⟩ := atStep_iff.1 h
  unfold initEnds
  cases allInit s with
  | true => simpa [hc] using trainingStart_step s
  | false => simpa using hs

section
variable (h : atStep s 8 = true) (hl : chLive s c = true) (hi : (s.glb.ch.get c).initDone = false)
include h hl hi

theorem dimmInitDone_present (hf : featuresOk r.features = true) :
    dimmInitDone c r s = initEnds (initReport c r (initWake c s)) := by
  unfold dimmInitDone
  rw [h, hl, hi, hf]
  exact if_neg (by simp)

theorem dimmInitDone_missing (hf : featuresOk r.features = false) (hp : strictPop s = true) :
    dimmInitDone c r s = initEnds (halt 0x09 (initWake c s)) := by
  have policy : strictPop (initWake c s) = true := by
    rw [strictPop, image, img_words_of_seen (initWake_keeps (by decide) ..)]
    exact hp
  unfold dimmInitDone
  rw [h, hl, hi, hf]
  refine (if_neg (by simp)).trans ?_
  show initEnds (if strictPop (initWake c s) = true then _ else _) = _
  rw [if_pos policy]

theorem dimmInitTimeout_drops : ∃ always, dimmInitTimeout c s =
    initEnds (orHalt (dropInit c (timeoutBy always 0x0A 3 0 false (subjStep s c.val 0) 0 s))) := by
  unfold dimmInitTimeout
  rw [h, hl, hi]
  exact ⟨_, if_neg (by simp)⟩

end

end Sys2Proof.Machine
end

section
/-! The population check and the initialisation of the DIMMs (R143 to R148, R518, R530). -/

namespace Sys2Proof
open Machine

variable {s : State} {c : Ch} {r : InitReport}

theorem population_agrees (h : atStep s 7 = true) (hm : ∀ c : Ch, mismatch s c = false) (hl : ∃ c : Ch, chLive s c = true) :
    completes .sidebandDone s fun t =>
      t.glb.ctl = .castOn
      ∧ t.glb.step = 8
      ∧ (∀ c : Ch, chLive s c = true → (t.glb.ch.get c).retPath = ((s.glb.ch.get c).latch && !noDimm s c)
        ∧ (t.glb.ch.get c).padsOn = true) := by
  obtain ⟨d, hd⟩ := hl
  refine completes_of_run (f := sidebandDone) rfl ?_
  rw [sidebandDone_agrees (s := begin_ s) h hm hd]
  refine ⟨?_, dimmInitStart_step _, fun c hc => ?_⟩
  · exact (glb_ctl_of_seen (dimmInitStart_keeps (by decide) _)).trans ((emptyNoted_ctl _).trans (castOn_of_atStep h))
  · obtain ⟨-, path, pads⟩ := dimmInitStart_chooses ((emptyNoted_live (begin_ s) c).trans hc)
    exact ⟨path.trans (emptyNoted_latch (begin_ s) c), pads⟩

theorem population_differs (h : atStep s 7 = true) (hm : ∃ c : Ch, mismatch s c = true) (hp : strictPop s = true) :
    completes .sidebandDone s fun t => t.glb.ctl = .halted ∧ t.glb.haltCause = 0x09 := by
  obtain ⟨c, hc⟩ := hm
  refine completes_of_run (f := sidebandDone) rfl ?_
  rw [sidebandDone_differs (s := begin_ s) h hc hp]
  exact ⟨(halt_does ..).1, (halt_does ..).2.1⟩

section
variable (h : atStep s 8 = true) (hl : chLive s c = true) (hi : (s.glb.ch.get c).initDone = false)
include h hl hi

theorem channel_initialised (hf : featuresOk r.features = true) :
    completes (.dimmInitDone c r) s fun t =>
      (t.glb.ch.get c).initDone = true
      ∧ (t.glb.ch.get c).latch = false
      ∧ (t.glb.ch.get c).inSr = false
      ∧ (t.glb.ch.get c).released = true
      ∧ t.glb.ctl = .castOn
      ∧ (t.glb.step = if ∃ d : Ch, d ≠ c ∧ chLive s d = true ∧ (s.glb.ch.get d).initDone = false then 8 else 9) := by
  let u := initReport c r (initWake c (begin_ s))
  have step8 : atStep u 8 = true := (reported_atStep ..).trans h
  have done : u.glb.ch.get c = (s.glb.ch.get c).awake.ready := (reported_get c c r (begin_ s)).trans (if_pos rfl)
  have all : allInit u = true ↔ ¬ ∃ d : Ch, d ≠ c ∧ chLive s d = true ∧ (s.glb.ch.get d).initDone = false := by
    have live : ∀ d, chLive u d = chLive s d := fun d => reported_live c d r (begin_ s)
    have rest : ∀ d, d ≠ c → u.glb.ch.get d = s.glb.ch.get d := fun d e => (reported_get c d r (begin_ s)).trans (if_neg e)
    rw [allInit_iff]
    constructor
    · rintro ha ⟨d, e, hd, hn⟩
      rw [← rest d e, ha d ((live d).trans hd)] at hn
      exact Bool.noConfusion hn
    · intro hn d hd
      by_cases e : d = c
      · rw [e, done]
        rfl
      · rw [rest d e]
        exact Bool.of_not_eq_false fun hf => hn ⟨d, e, (live d).symm.trans hd, hf⟩
  refine completes_of_run (f := dimmInitDone c r) rfl ?_
  rw [dimmInitDone_present (s := begin_ s) h hl hi hf, glb_ch_of_seen (initEnds_keeps (by decide) _), done, initEnds_step step8]
  refine ⟨rfl, rfl, rfl, rfl, (glb_ctl_of_seen (initEnds_keeps (by decide) _)).trans (castOn_of_atStep step8), ?_⟩
  split
  · next ha => rw [if_neg (all.1 ha)]
  · next ha => rw [if_pos (not_not.1 fun hn => ha (all.2 hn))]

theorem feature_missing (hf : featuresOk r.features = false) (hp : strictPop s = true) :
    completes (.dimmInitDone c r) s fun t => t.glb.ctl = .halted ∧ t.glb.haltCause = 0x09 := by
  refine completes_of_run (f := dimmInitDone c r) rfl ?_
  rw [dimmInitDone_missing (s := begin_ s) h hl hi hf hp]
  exact ⟨(glb_ctl_of_seen (initEnds_keeps (by decide) _)).trans (halt_does ..).1,
    (glb_haltCause_of_seen (initEnds_keeps (by decide) _)).trans (halt_does ..).2.1⟩

theorem initialisation_late :
    completes (.dimmInitTimeout c) s fun t =>
      countsExpiry 0x0A s t
      ∧ (t.glb.ch.get c).excluded = true
      ∧ (t.glb.ctl = if ∃ d : Ch, d ≠ c ∧ chLive s d = true then .castOn else .halted) := by
  obtain ⟨always, drops⟩ := dimmInitTimeout_drops (s := begin_ s) h hl hi
  let u := timeoutBy always 0x0A 3 0 false (subjStep (begin_ s) c.val 0) 0 (begin_ s)
  have same : u.glb = s.glb := glb_of_seen (timeoutBy_keeps (by decide) ..)
  have live : ∀ d, chLive u d = chLive s d := fun d => chLive_of_seen (s := begin_ s) (timeoutBy_keeps (by decide) ..)
  refine completes_of_run (f := dimmInitTimeout c) rfl ?_
  rw [drops]
  refine ⟨countsExpiry_of_timeoutBy (s := begin_ s) ((initEnds_keeps (by decide) _).trans ((orHalt_keeps (by decide) _).trans
    (dropInit_keeps (by decide) ..))), ?_, ?_⟩
  · rw [glb_ch_of_seen (initEnds_keeps (by decide) _), orHalt_excluded, dropInit_get, if_pos rfl]
  · rw [glb_ctl_of_seen (initEnds_keeps (by decide) _), orHalt_dropInit_ctl]
    show (if ∃ d : Ch, d ≠ c ∧ chLive u d = true then u.glb.ctl else .halted) = _
    simp only [live, same, castOn_of_atStep (s := s) h]

end

/-- Settles O6: where the population check and each end of a channel's initialisation lead. -/
theorem populationAndInit : Obligations.PopulationAndInit :=
  ⟨fun _ => population_agrees, fun _ => population_differs, fun _ _ _ => channel_initialised, fun _ _ _ => feature_missing,
    fun _ _ => initialisation_late⟩

end Sys2Proof
end

section
/-! SUPPORT. A training step: what it runs, and where it goes from there (R149 to R155, R294, R319, R320). -/

namespace Sys2Proof.Machine

variable {s u : State} {x : Sc} {k : Nat} {l : List Nat} {r : TrainResult} {ret : Option RetentionRead}

theorem trainOf_updTrain (x : Sc) (f : Train → Train) (s : State) : trainOf (updTrain x f s) x = f (trainOf s x) :=
  vget_vmod_same ..

theorem trainOf_of_seen (e : u.seen 0x1FFFFFFFFFFFFFFFFFFFFFFFFFFFFFFFFFFFFFFFDFFFF =
    s.seen 0x1FFFFFFFFFFFFFFFFFFFFFFFFFFFFFFFFFFFFFFFDFFFF) : trainOf u x = trainOf s x :=
  congrArg (fun v => v.get x) (glb_train_of_seen e)

theorem mem_liveScs : x ∈ liveScs s ↔ chLive s (chOf x) = true := by
  simp [liveScs, fins]

/-- While a chip select is left on a live sub-channel, neither the gear nor the channel is done. -/
theorem gearsGoOn_waits (hl : chLive s (chOf x) = true) (hk : (trainOf s x).left ≠ []) :
    gearsGoOn ret (chOf x) s = s := by
  have left : (trainOf s x).left.isEmpty = false := List.isEmpty_eq_false_iff.2 hk
  have channel : ((trainOf s (scA (chOf x))).left.isEmpty && (trainOf s (scB (chOf x))).left.isEmpty) = false := by
    rcases scA_or_scB x with e | e
    · rw [← e, left, Bool.false_and]
    · rw [← e, left, Bool.and_false]
  have gear : ((liveScs s).all fun x => (trainOf s x).left.isEmpty) = false :=
    List.all_eq_false.2 ⟨x, mem_liveScs.2 hl, by simp [left]⟩
  unfold gearsGoOn
  simp only [channel, Bool.and_false, Bool.false_eq_true, if_false, gear]

theorem afterStep_waits (hl : chLive s (chOf x) = true) (hk : (trainOf s x).left ≠ []) : afterStep x ret s = s := by
  unfold afterStep
  rw [gearsGoOn_waits hl hk, ite_self]

/-- A sub-channel whose record alone changes goes on with the chip selects that are left. -/
theorem afterStep_updTrain {f : Train → Train} (hl : chLive s (chOf x) = true) (hk : (f (trainOf s x)).left ≠ []) :
    afterStep x ret (updTrain x f s) = updTrain x f s :=
  afterStep_waits hl (by rwa [trainOf_updTrain])

/-! ### The next step, the same one again, and the full training (R151, R155) -/

/-- The chip select is at its next step. -/
def Train.next (t : Train) : Train := { t with step := t.step + 1, lr := 0, tries := 0 }

/-- The step is tried again (R151). -/
def Train.again (t : Train) : Train := { t with tries := t.tries + 1 }

/-- A restored chip select starts its full training (R155). -/
def Train.fullStart (t : Train) : Train :=
  { t with ll := .full, mustFull := true, step := 0, lr := 0, tries := 0, eyes := t.eyes0 }

theorem stepPassed_next (hc : stepCode s x ≠ 8)
    (hn : (trainOf s x).step + 1 < (trainSteps s s.glb.gear (trainOf s x).ll).length) :
    stepPassed x s = updTrain x Train.next s := by
  unfold stepPassed
  exact (if_neg (by simp [hc])).trans (if_pos hn)

theorem stepAgain_repeats (ht : (trainOf s x).tries < 2) : stepAgain x k s = updTrain x Train.again s := if_pos ht

theorem stepFailed_restored (h : (trainOf s x).ll ≠ .full) : stepFailed x k s = updTrain x Train.fullStart s := if_pos h

theorem stepFailed_repeats (h : (trainOf s x).ll = .full) (ht : (trainOf s x).tries < 2) :
    stepFailed x k s = updTrain x Train.again s := (if_neg (not_not.2 h)).trans (stepAgain_repeats ht)

/-- The steps that run are those of the image's program for the gear. -/
theorem stepsAt_congr (hi : u.img.words = s.img.words) (hg : u.glb.gear = s.glb.gear) (ll : LlUse) :
    trainSteps u u.glb.gear ll = trainSteps s s.glb.gear ll := by
  have image : image u = image s := hi
  rw [trainSteps, image, hg, trainSteps]

theorem stepCode_congr (hi : u.img.words = s.img.words) (hg : u.glb.gear = s.glb.gear)
    (hs : (trainOf u x).step = (trainOf s x).step) (hl : (trainOf u x).ll = (trainOf s x).ll) : stepCode u x = stepCode s x := by
  show (trainSteps u u.glb.gear (trainOf u x).ll).getD (trainOf u x).step 0 = _
  rw [stepsAt_congr hi hg, hs, hl]
  rfl

/-! ### The commands and the outcome of a step (R215, R319) -/

/-- A step has put its commands on the bus, under the grant of the training requester (R215). -/
def stepRun (x : Sc) (k : Nat) (r : TrainResult) (s : State) : State := stepCmds x k r (grant x 2 s)

/-- The training requester gives back its grant. -/
def giveBack (x : Sc) (s : State) : State := updSched x (fun q => { q with holder := none }) s

theorem stepRun_keeps {hid : Nat}
    (hw : 0x2800B0000000000000000000000000000CFC00000000 &&& hid = 0x2800B0000000000000000000000000000CFC00000000)
    (x : Sc) (k : Nat) (r : TrainResult) (s : State) : (stepRun x k r s).seen hid = s.seen hid :=
  (stepCmds_keeps (sub_trans (by decide) hw) ..).trans (grant_keeps (sub_trans (by decide) hw) ..)

theorem giveBack_keeps {hid : Nat}
    (hw : 0x8000000000000000000000000000000000000000000 &&& hid = 0x8000000000000000000000000000000000000000000)
    (x : Sc) (s : State) : (giveBack x s).seen hid = s.seen hid := updSched_keeps hw ..

theorem giveBack_stepRun_keeps {hid : Nat}
    (hw : 0x2800B0000000000000000000000000000CFC00000000 &&& hid = 0x2800B0000000000000000000000000000CFC00000000)
    (x : Sc) (k : Nat) (r : TrainResult) (s : State) : (giveBack x (stepRun x k r s)).seen hid = s.seen hid :=
  (giveBack_keeps (sub_trans (by decide) hw) ..).trans (stepRun_keeps hw ..)

/-- Where a sub-channel goes from a step with an outcome. -/
def stepGoes (x : Sc) (k : Nat) (ret : Option RetentionRead) (out : Option State) (s : State) : State :=
  let s := giveBack x (out.getD s)
  afterStep x ret (if out.isSome then stepPassed x s else stepFailed x k s)

section
variable (h9 : atStep s 9 = true) (hl : chLive s (chOf x) = true) (hk : (trainOf s x).left = k :: l)
include h9 hl hk

theorem trainingStepDone_runs (hf : stepFits (stepCode s x) r = true) : trainingStepDone x r ret s =
    stepGoes x k ret (stepOutcome x k (stepCode s x) r (stepRun x k r s)) (stepRun x k r s) := by
  unfold trainingStepDone
  rw [h9, hl, hk]
  exact (if_neg (by simp)).trans (if_neg (by simp [hf]))

/-- A step that passes and is not the last one leads to the next. -/
theorem trainingStepDone_passes (hf : stepFits (stepCode s x) r = true) (h8 : stepCode s x ≠ 8)
    (ho : stepOutcome x k (stepCode s x) r (stepRun x k r s) = some u)
    (hleft : (trainOf u x).left = (trainOf s x).left) (hstep : (trainOf u x).step = (trainOf s x).step)
    (hll : (trainOf u x).ll = (trainOf s x).ll)
    (hn : (trainOf s x).step + 1 < (trainSteps s s.glb.gear (trainOf s x).ll).length) :
    trainingStepDone x r ret s = updTrain x Train.next (giveBack x u) := by
  have kept : ∀ {hid : Nat},
      0xA800B0080000000000000000000002000CFC00020000 &&& hid = 0xA800B0080000000000000000000002000CFC00020000 →
      (giveBack x u).seen hid = s.seen hid := fun hw =>
    (giveBack_keeps (sub_trans (by decide) hw) ..).trans ((stepOutcome_keeps (sub_trans (by decide) hw) ho).trans
      (stepRun_keeps (sub_trans (by decide) hw) ..))
  have words : (giveBack x u).img.words = s.img.words := img_words_of_seen (kept (by decide))
  have gear : (giveBack x u).glb.gear = s.glb.gear := glb_gear_of_seen (kept (by decide))
  have live : chLive (giveBack x u) (chOf x) = true :=
    (chLive_of_seen (kept (by decide))).trans hl
  have code : stepCode (giveBack x u) x = stepCode s x := stepCode_congr words gear hstep hll
  have more : (trainOf (giveBack x u) x).step + 1
      < (trainSteps (giveBack x u) (giveBack x u).glb.gear (trainOf (giveBack x u) x).ll).length := by
    show (trainOf u x).step + 1 < (trainSteps (giveBack x u) (giveBack x u).glb.gear (trainOf u x).ll).length
    rwa [stepsAt_congr words gear, hstep, hll]
  rw [trainingStepDone_runs h9 hl hk hf, ho]
  show afterStep x ret (stepPassed x (giveBack x u)) = _
  rw [stepPassed_next (by rwa [code]) more]
  refine afterStep_updTrain live ?_
  show (trainOf u x).left ≠ []
  rw [hleft, hk]
  exact List.cons_ne_nil k l

/-- A step that fails changes the record of its sub-channel alone, where the chip select stays in the training. -/
theorem trainingStepDone_fails {f : Train → Train} (hf : stepFits (stepCode s x) r = true)
    (ho : stepOutcome x k (stepCode s x) r (stepRun x k r s) = none)
    (hg : ∀ u, trainOf u x = trainOf s x → stepFailed x k u = updTrain x f u)
    (hleft : (f (trainOf s x)).left = (trainOf s x).left) :
    trainingStepDone x r ret s = updTrain x f (giveBack x (stepRun x k r s)) := by
  have train : trainOf (giveBack x (stepRun x k r s)) x = trainOf s x := trainOf_of_seen (giveBack_stepRun_keeps (by decide) ..)
  have live : chLive (giveBack x (stepRun x k r s)) (chOf x) = true :=
    (chLive_of_seen (giveBack_stepRun_keeps (by decide) ..)).trans hl
  rw [trainingStepDone_runs h9 hl hk hf, ho]
  show afterStep x ret (stepFailed x k (giveBack x (stepRun x k r s))) = _
  rw [hg _ train]
  refine afterStep_updTrain live ?_
  rw [train, hleft, hk]
  exact List.cons_ne_nil k l

end

end Sys2Proof.Machine
end

section
/-! SUPPORT. CA_ALIGN, READ_CENTRE, and the timer of a step (R132, R151, R155, R320). -/

namespace Sys2Proof.Machine

variable {s : State} {x : Sc} {e : TrainEyes} {k : Nat} {l : List Nat} {ret : Option RetentionRead}

/-- Of the eight phases that pass before the first chip select, the one that it shows is left. -/
theorem phases_one (k : BitVec 3) :
    (List.range 8).filter (fun i => (255).testBit i && [k].contains (BitVec.ofNat 3 i)) = [k.toNat] := by
  revert k
  decide

/-- CA_ALIGN takes the one phase that passes (R155). -/
theorem caAlign_one {k : BitVec 3} (hl : (trainOf s x).ll = .full) (he : (trainOf s x).eyes = []) (hp : e.caPhases = [k]) :
    caAlign x e s = some (nextFree
      (eyesTake x [(eyeKey 5 0, ((2 ^ k.toNat : Nat), 0))] { s.phy.sc.get x with caPhase := k } s)) := by
  have ok : (List.range 8).filter (fun i => (kget (255, 0) (trainOf s x).eyes (eyeKey 5 0)).1.toNat.testBit i
      && e.caPhases.contains (BitVec.ofNat 3 i)) = [k.toNat] := by
    rw [he, hp]
    exact phases_one k
  unfold caAlign
  simp only [ok]
  rw [if_neg (by simp [hl]), if_neg (by simp)]
  simp [Nat.mod_one]

theorem caAlign_takes {p : BitVec 3} (hl : (trainOf s x).ll = .full) (he : (trainOf s x).eyes = []) (hp : e.caPhases = [p]) :
    ∃ u eyes, caAlign x e s = some u ∧ u.phy.sc.get x = { s.phy.sc.get x with caPhase := p }
      ∧ trainOf u x = { trainOf s x with eyes := eyes } :=
  ⟨_, _, caAlign_one hl he hp, vget_vmod_same .., trainOf_updTrain ..⟩

/-- An eye narrower than PHY_MIN_WIDTH fails READ_CENTRE (R155, R320). -/
theorem readCentre_narrow (hl : (trainOf s x).ll = .full) (he : (trainOf s x).eyes = [])
    (hw : ∃ p ∈ e.rx, p.hi - p.lo < trainWidth s) : readCentre x e s = none := by
  have narrow : wideEnough (trainWidth s) (meetEyes (trainOf s x) 1 e.rx) = false := by
    obtain ⟨p, hp, hlt⟩ := hw
    obtain ⟨i, hi⟩ := List.mem_iff_getElem?.1 hp
    refine List.all_eq_false.2 ⟨_, List.mem_map_of_mem (List.mk_mem_zipIdx_iff_getElem?.2 hi), ?_⟩
    simp [he, kfind, hlt]
  unfold readCentre
  dsimp only
  rw [if_neg (by simp [hl]), if_pos (by simp [narrow])]

theorem stepRun_width (x : Sc) (k : Nat) (r : TrainResult) (s : State) : trainWidth (stepRun x k r s) = trainWidth s := by
  have kept : ∀ i : Fin 4, regGet (stepRun x k r s) (0x20004 + 4 * i.val) = regGet s (0x20004 + 4 * i.val) := fun i =>
    regGet_of_seen (stepRun_keeps (hid := 0x2800B0000000000000000000000000000CFC00000000) rfl x k r s) _
      (by revert i; decide +kernel)
  unfold trainWidth scoutWords
  simp only [kept]

section
variable (h9 : atStep s 9 = true) (hl : chLive s (chOf x) = true) (hk : (trainOf s x).left = k :: l)
include h9 hl hk

/-- CA_ALIGN passes with the one phase that every chip select passes at. -/
theorem caAlign_goes_on {p : BitVec 3} (hc : stepCode s x = 1) (hfull : (trainOf s x).ll = .full)
    (he : (trainOf s x).eyes = []) (hp : e.caPhases = [p])
    (hn : (trainOf s x).step + 1 < (trainSteps s s.glb.gear .full).length) :
    (trainingStepDone x (.eyes e) ret s).phy.sc.get x = { s.phy.sc.get x with caPhase := p }
      ∧ (trainOf (trainingStepDone x (.eyes e) ret s) x).step = (trainOf s x).step + 1
      ∧ (trainOf (trainingStepDone x (.eyes e) ret s) x).tries = 0 := by
  have train : trainOf (stepRun x k (.eyes e) s) x = trainOf s x := trainOf_of_seen (stepRun_keeps (by decide) ..)
  have phy : (stepRun x k (.eyes e) s).phy = s.phy := phy_of_seen (stepRun_keeps (by decide) ..)
  obtain ⟨u, eyes, out, phase, taken⟩ :=
    caAlign_takes (s := stepRun x k (.eyes e) s) (by rw [train, hfull]) (by rw [train, he]) hp
  rw [phy] at phase
  rw [train] at taken
  have passes : stepOutcome x k (stepCode s x) (.eyes e) (stepRun x k (.eyes e) s) = some u := by
    rw [hc]
    exact out
  rw [trainingStepDone_passes h9 hl hk (by rw [hc]; rfl) (by rw [hc]; decide) passes (by rw [taken]) (by rw [taken])
    (by rw [taken]) (by rwa [hfull]), trainOf_updTrain]
  refine ⟨phase, ?_, rfl⟩
  show (trainOf u x).step + 1 = _
  rw [taken]

/-- A READ_CENTRE with a narrow eye fails, and is tried again. -/
theorem readCentre_repeats (hc : stepCode s x = 4) (hfull : (trainOf s x).ll = .full) (he : (trainOf s x).eyes = [])
    (hw : ∃ p ∈ e.rx, p.hi - p.lo < trainWidth s) (ht : (trainOf s x).tries < 2) :
    trainingStepDone x (.eyes e) ret s = updTrain x Train.again (giveBack x (stepRun x k (.eyes e) s)) := by
  have train : trainOf (stepRun x k (.eyes e) s) x = trainOf s x := trainOf_of_seen (stepRun_keeps (by decide) ..)
  have out : stepOutcome x k (stepCode s x) (.eyes e) (stepRun x k (.eyes e) s) = none := by
    rw [hc]
    exact readCentre_narrow (by rw [train, hfull]) (by rw [train, he]) (by rwa [stepRun_width])
  exact trainingStepDone_fails h9 hl hk (by rw [hc]; rfl) out
    (fun u hu => stepFailed_repeats (by rwa [hu]) (by rwa [hu])) rfl

theorem trainingStepTimeout_repeats (ht : (trainOf s x).tries < 2) :
    ∃ always, trainingStepTimeout x ret s = updTrain x Train.again
      (timeoutBy always 0x12 2 3 false (subjSc x (k % 4) (trainOf s x).lr) (stepCode s x) s) := by
  have runs : ∃ always, trainingStepTimeout x ret s = afterStep x ret (stepAgain x k
      (timeoutBy always 0x12 2 3 false (subjSc x (k % 4) (trainOf s x).lr) (stepCode s x) s)) := by
    unfold trainingStepTimeout
    rw [h9, hl, hk]
    exact ⟨_, if_neg (by simp)⟩
  obtain ⟨always, runs⟩ := runs
  have train : trainOf (timeoutBy always 0x12 2 3 false (subjSc x (k % 4) (trainOf s x).lr) (stepCode s x) s) x = trainOf s x :=
    trainOf_of_seen (timeoutBy_keeps (by decide) ..)
  refine ⟨always, ?_⟩
  rw [runs, stepAgain_repeats (by rwa [train])]
  refine afterStep_updTrain ((chLive_of_seen (timeoutBy_keeps (by decide) ..)).trans hl) ?_
  rw [train]
  show (trainOf s x).left ≠ []
  rw [hk]
  exact List.cons_ne_nil k l

end

end Sys2Proof.Machine
end

section
/-! Training steps that pass, fail or are late (R132, R150, R151, R155, R294, R319, R320, R518). -/

namespace Sys2Proof
open Machine

variable {s : State} {x : Sc} {r : TrainResult} {e : TrainEyes} {p : BitVec 3} {ret : Option RetentionRead}

section
variable (h9 : atStep s 9 = true) (hl : chLive s (chOf x) = true) (hk : (trainOf s x).left ≠ [])
include h9 hl hk

/-- SAVE and RCD_OUT leave nothing of their own: the step goes on from what its commands leave. -/
theorem plain_step_passes (hr : ∀ k code u, stepOutcome x k code r u = some u) (hf : stepFits (stepCode s x) r = true)
    (h8 : stepCode s x ≠ 8) (hn : (trainOf s x).step + 1 < (trainSteps s s.glb.gear (trainOf s x).ll).length) :
    completes (.trainingStepDone x r ret) s fun t =>
      trainOf t x = { trainOf s x with step := (trainOf s x).step + 1, lr := 0, tries := 0 } ∧ t.phy = s.phy ∧ t.ras = s.ras := by
  obtain ⟨k, l, hk⟩ := List.exists_cons_of_ne_nil hk
  have train : trainOf (stepRun x k r (begin_ s)) x = trainOf s x :=
    trainOf_of_seen (s := begin_ s) (stepRun_keeps (by decide) ..)
  refine completes_of_run (f := trainingStepDone x r ret) rfl ?_
  rw [trainingStepDone_passes (s := begin_ s) h9 hl hk hf h8 (hr ..) (by rw [train]; rfl) (by rw [train]; rfl)
    (by rw [train]; rfl) hn, trainOf_updTrain]
  refine ⟨congrArg Train.next train, ?_, ?_⟩
  · exact phy_of_seen (s := begin_ s) (giveBack_stepRun_keeps (by decide) ..)
  · exact ras_of_seen (s := begin_ s) (giveBack_stepRun_keeps (by decide) ..)

theorem save_passes (hc : stepCode s x = 9)
    (hn : (trainOf s x).step + 1 < (trainSteps s s.glb.gear (trainOf s x).ll).length) :
    completes (.trainingStepDone x .done ret) s fun t =>
      trainOf t x = { trainOf s x with step := (trainOf s x).step + 1, lr := 0, tries := 0 } ∧ t.phy = s.phy ∧ t.ras = s.ras :=
  plain_step_passes h9 hl hk (fun _ _ _ => rfl) (by simp [hc, stepFits]) (by simp [hc]) hn

theorem rcdOut_passes (ws : List Byte) (hc : stepCode s x = 2)
    (hn : (trainOf s x).step + 1 < (trainSteps s s.glb.gear (trainOf s x).ll).length) :
    completes (.trainingStepDone x (.rcdOut ws) ret) s fun t =>
      trainOf t x = { trainOf s x with step := (trainOf s x).step + 1, lr := 0, tries := 0 }
      ∧ t.phy.sc = s.phy.sc
      ∧ t.phy.lifeline = s.phy.lifeline :=
  (plain_step_passes h9 hl hk (fun _ _ _ => rfl) (by simp [hc, stepFits]) (by simp [hc]) hn).imp
    fun _ ⟨train, phy, _⟩ => ⟨train, congrArg Phy.sc phy, congrArg Phy.lifeline phy⟩

theorem caAlign_passes (hc : stepCode s x = 1) (hfull : (trainOf s x).ll = .full) (he : (trainOf s x).eyes = [])
    (hp : e.caPhases = [p]) (hn : (trainOf s x).step + 1 < (trainSteps s s.glb.gear .full).length) :
    completes (.trainingStepDone x (.eyes e) ret) s fun t =>
      (t.phy.sc.get x).caPhase = p
      ∧ (t.phy.sc.get x).lanes = (s.phy.sc.get x).lanes
      ∧ (trainOf t x).step = (trainOf s x).step + 1
      ∧ (trainOf t x).tries = 0 := by
  obtain ⟨k, l, hk⟩ := List.exists_cons_of_ne_nil hk
  obtain ⟨phase, on⟩ := caAlign_goes_on (s := begin_ s) (ret := ret) h9 hl hk hc hfull he hp hn
  exact completes_of_run (f := trainingStepDone x (.eyes e) ret) rfl
    ⟨congrArg PhySc.caPhase phase, (congrArg PhySc.lanes phase :), on⟩

theorem readCentre_fails (hc : stepCode s x = 4) (hfull : (trainOf s x).ll = .full) (he : (trainOf s x).eyes = [])
    (hw : ∃ p ∈ e.rx, p.hi - p.lo < trainWidth s) (ht : (trainOf s x).tries < 2) :
    completes (.trainingStepDone x (.eyes e) ret) s fun t =>
      trainOf t x = { trainOf s x with tries := (trainOf s x).tries + 1 } ∧ t.phy = s.phy := by
  obtain ⟨k, l, hk⟩ := List.exists_cons_of_ne_nil hk
  refine completes_of_run (f := trainingStepDone x (.eyes e) ret) rfl ?_
  rw [readCentre_repeats (s := begin_ s) h9 hl hk hc hfull he hw ht, trainOf_updTrain]
  exact ⟨congrArg Train.again (trainOf_of_seen (s := begin_ s) (giveBack_stepRun_keeps (by decide) ..)),
    phy_of_seen (s := begin_ s) (giveBack_stepRun_keeps (by decide) ..)⟩

/-- A step that reports a failure changes the record of its sub-channel as a failed step does. -/
theorem failure_taken {f : Train → Train} (hg : ∀ k u, trainOf u x = trainOf s x → stepFailed x k u = updTrain x f u)
    (hleft : (f (trainOf s x)).left = (trainOf s x).left) :
    completes (.trainingStepDone x .fail ret) s fun t => trainOf t x = f (trainOf s x) := by
  obtain ⟨k, l, hk⟩ := List.exists_cons_of_ne_nil hk
  refine completes_of_run (f := trainingStepDone x .fail ret) rfl ?_
  rw [trainingStepDone_fails (s := begin_ s) h9 hl hk rfl rfl (hg k) hleft, trainOf_updTrain]
  exact congrArg f (trainOf_of_seen (s := begin_ s) (giveBack_stepRun_keeps (by decide) ..))

theorem restored_starts_over (h : (trainOf s x).ll ≠ .full) :
    completes (.trainingStepDone x .fail ret) s fun t =>
      trainOf t x = { trainOf s x with
        ll := .full, mustFull := true, step := 0, lr := 0, tries := 0, eyes := (trainOf s x).eyes0 } :=
  failure_taken h9 hl hk (f := Train.fullStart) (fun _ _ hu => stepFailed_restored (by rwa [hu])) rfl

theorem step_repeats (h : (trainOf s x).ll = .full) (ht : (trainOf s x).tries < 2) :
    completes (.trainingStepDone x .fail ret) s fun t => trainOf t x = { trainOf s x with tries := (trainOf s x).tries + 1 } :=
  failure_taken h9 hl hk (f := Train.again) (fun _ _ hu => stepFailed_repeats (by rwa [hu]) (by rwa [hu])) rfl

theorem step_late (ht : (trainOf s x).tries < 2) :
    completes (.trainingStepTimeout x ret) s fun t =>
      countsExpiry 0x12 s t ∧ trainOf t x = { trainOf s x with tries := (trainOf s x).tries + 1 } := by
  obtain ⟨k, l, hk⟩ := List.exists_cons_of_ne_nil hk
  obtain ⟨always, late⟩ := trainingStepTimeout_repeats (s := begin_ s) (ret := ret) h9 hl hk ht
  refine completes_of_run (f := trainingStepTimeout x ret) rfl ?_
  rw [late, trainOf_updTrain]
  exact ⟨countsExpiry_of_timeoutBy (s := begin_ s) (updTrain_keeps (by decide) ..),
    congrArg Train.again (trainOf_of_seen (s := begin_ s) (timeoutBy_keeps (by decide) ..))⟩

end

theorem other_step_ignored (hf : stepFits (stepCode s x) r = false) :
    completes (.trainingStepDone x r ret) s fun t => t = begin_ s := by
  refine completes_of_run (f := trainingStepDone x r ret) rfl ?_
  unfold trainingStepDone
  split
  · rfl
  · split
    · rfl
    · exact if_pos (by rw [show stepCode (begin_ s) x = stepCode s x from rfl, hf]; rfl)

/-- Settles O7: by the outcome of the step, and by the record of the chip select that fails it. -/
theorem trainingSteps : Obligations.TrainingSteps :=
  ⟨fun _ _ _ => save_passes, fun _ _ ws _ h9 hl hk => rcdOut_passes h9 hl hk ws, fun _ _ _ _ _ => caAlign_passes,
    fun _ _ _ _ => readCentre_fails, fun _ _ _ => restored_starts_over, fun _ _ _ => step_repeats,
    fun _ _ _ _ => other_step_ignored, fun _ _ _ => step_late⟩

end Sys2Proof
end

section
/-! The frame of the schedulers, the alerts, refresh, the PHY and error handling. -/

namespace Sys2Proof.Machine

/-- The schedulers, the alerts, refresh, the PHY and error handling. -/
def dramPieces : List Piece :=
  [.scheduler, .alert, .refresh, .refreshRate, .rowCounters, .backoff, .rolling, .phy, .lifeline, .bootPoint, .gearChange,
    .shadow, .faultUnits, .errorLog, .scrub, .repair, .sparing, .debug, .scrubFetch]

theorem covers_dram (c : Instr) : covers (parts c) (mayChange c) dramPieces = true := by
  cases c <;> dsimp only [parts, mayChange] <;> decide +kernel

end Sys2Proof.Machine

namespace Sys2Proof

open Sys2Proof.Machine

/-- Settles O52: no command changes a part of a piece that is not listed for it. -/
theorem frameOfDram : Obligations.FrameOfDram := fun c _ _ => completes_same (covers_dram c)

end Sys2Proof
end

section
/-! SUPPORT. The pace of the sub-channels: their clocks, replays and watchdogs, which the queues, the maintenance work and the
bus leave alone; and the operations that put no command on a bus. -/

namespace Sys2Proof.Machine

variable {b s t : State} {x : Sc}

/-- The clock of a sub-channel, its replay and its watchdog. -/
def Sched.pace (q : Sched) : Nat × Replay × List RdTag × Nat × Option Nat := (q.ck, q.replay, q.lost, q.replayEnd, q.wdogLast)

/-- The clock, the replay and the watchdog of every sub-channel are those of `b`. -/
def Paced (b s : State) : Prop := ∀ x, (s.sched.get x).pace = (b.sched.get x).pace

theorem Paced.ck (h : Paced b s) : (s.sched.get x).ck = (b.sched.get x).ck := congrArg Prod.fst (h x)

theorem Paced.replay (h : Paced b s) : (s.sched.get x).replay = (b.sched.get x).replay := congrArg (·.2.1) (h x)

theorem Paced.wdogLast (h : Paced b s) : (s.sched.get x).wdogLast = (b.sched.get x).wdogLast := congrArg (·.2.2.2.2) (h x)

theorem paced_refl (s : State) : Paced s s := fun _ => rfl

theorem updSched_paced {f : Sched → Sched} (hf : ∀ q, (f q).pace = q.pace) (h : Paced b s) : Paced b (updSched x f s) := by
  intro y
  by_cases hy : y = x
  · subst hy
    simp only [updSched, vget_vmod_same, hf]
    exact h y
  · simp only [updSched, vget_vmod_other _ _ hy]
    exact h y

/-- A command on a bus. -/
def Out.onBus : Out → Bool
  | .cmd _ _ _ => true
  | _ => false

/-- `s` comes after `b` without a command on a bus, and with the pace of every sub-channel as it was. -/
def Still (b s : State) : Prop := Paced b s ∧ ∀ o ∈ s.out, o.onBus = true → o ∈ b.out

theorem still_refl (s : State) : Still s s := ⟨paced_refl s, fun _ ho _ => ho⟩

/-- What changes neither a scheduler nor the outputs. -/
theorem still_keeps
    (e : t.seen 0x1D7FFFFFFFFFFFFFFFFFFFFFFFFFFFFFFFFFFFFFFFFFF =
      s.seen 0x1D7FFFFFFFFFFFFFFFFFFFFFFFFFFFFFFFFFFFFFFFFFF)
    (h : Still b s) : Still b t := by
  have es : t.sched = s.sched := sched_of_seen (seen_mono (by decide) e)
  have eo : t.out = s.out := out_of_seen (seen_mono (by decide) e)
  rwa [Still, Paced, es, eo]

theorem updSched_still {f : Sched → Sched} (hf : ∀ q, (f q).pace = q.pace) (h : Still b s) : Still b (updSched x f s) :=
  ⟨updSched_paced hf h.1, h.2⟩

theorem emit_still {o : Out} (ho : o.onBus = false) (h : Still b s) : Still b (emit o s) :=
  ⟨h.1, fun u hu hb => (List.mem_append.1 hu).elim (h.2 u · hb) fun e =>
    absurd (List.mem_singleton.1 e ▸ hb) (by rw [ho]; exact Bool.false_ne_true)⟩

theorem updRef_still {f : Ref → Ref} (h : Still b s) : Still b (updRef f s) := h

theorem updReq_still {id : Nat} {f : Req → Req} (h : Still b s) : Still b (updReq id f s) := h

theorem ite_still {c : Prop} [Decidable c] (hs : Still b s) (ht : Still b t) : Still b (if c then s else t) := by
  split
  · exact hs
  · exact ht

/-! ### Answers and the copy-line buffers (R110, R535) -/

theorem respond_still {p : PortId} {tag : BitVec 10} {gen : BitVec 2} {st : Status} {data : Line} {src : BitVec 10}
    {xid : BitVec 16} {stale : Bool} {epoch : BitVec 8} (h : Still b s) :
    Still b (respond p tag gen st data src xid stale epoch s) := by
  unfold respond
  dsimp only
  split
  all_goals exact emit_still rfl h

theorem answer1_still {id : Nat} {st : Status} {data : Line} {stale : Bool} {epoch : BitVec 8} (h : Still b s) :
    Still b (answer1 id st data stale epoch s) := by
  unfold answer1
  split
  · exact h
  · exact ite_still h (ite_still (respond_still h) (still_keeps (finish_keeps (by decide) ..) (respond_still h)))

theorem answer_still {id : Nat} {st : Status} {data : Line} (h : Still b s) : Still b (answer id st data s) := by
  unfold answer answerX barriers
  split
  · exact h
  · exact forAll_inv _ (fun _ _ h => ite_still (answer1_still h) h) (answer1_still h)

theorem answerSettled_still {id : Nat} (h : Still b s) : Still b (answerSettled id s) :=
  onlyIf_inv (still_keeps (finish_keeps (by decide) ..)) (answer_still h)

/-- The pace and the host queues of every sub-channel are those of `b`. -/
def SameQueues (b s : State) : Prop := ∀ x, (s.sched.get x).pace = (b.sched.get x).pace
  ∧ (s.sched.get x).rq = (b.sched.get x).rq ∧ (s.sched.get x).wq = (b.sched.get x).wq

theorem sameQueues_refl (s : State) : SameQueues s s := fun _ => ⟨rfl, rfl, rfl⟩

theorem sameQueues_keeps (e : t.seen 0x1F7FFFFFFFFFFFFFFFFFFFFFFFFFFFFFFFFFFFFFFFFFF =
      s.seen 0x1F7FFFFFFFFFFFFFFFFFFFFFFFFFFFFFFFFFFFFFFFFFF) (h : SameQueues b s) : SameQueues b t := by
  rwa [SameQueues, sched_of_seen e]

theorem ite_sameQueues {c : Prop} [Decidable c] (hs : SameQueues b s) (ht : SameQueues b t) :
    SameQueues b (if c then s else t) := by
  split
  · exact hs
  · exact ht

theorem copyPut_sameQueues {c : Ch} {l : Lla} {d : Line} (h : SameQueues b s) : SameQueues b (copyPut c l d s) := by
  refine onlyIf_inv (fun h y => ?_) h
  by_cases hy : y = scA c
  · subst hy
    simp only [updSched, vget_vmod_same]
    split
    all_goals exact h _
  · simp only [updSched, vget_vmod_other _ _ hy]
    exact h y

theorem pumpInit_sameQueues {r : Nat} (h : SameQueues b s) : SameQueues b (pumpInit r s) :=
  ite_sameQueues (sameQueues_keeps (initDone_keeps (by decide) _) (copyPut_sameQueues h)) h

theorem pumpDirty_sameQueues {k : Nat} (h : SameQueues b s) : SameQueues b (pumpDirty k s) :=
  ite_sameQueues (copyPut_sameQueues h) h

/-- What waits for room enters the copy-line buffers. -/
theorem pumped_sameQueues (l m : List Nat) (h : SameQueues b s) : SameQueues b (forAll l pumpDirty (forAll m pumpInit s)) :=
  forAll_inv (P := SameQueues b) _ (fun _ _ h => pumpDirty_sameQueues h)
    (forAll_inv (P := SameQueues b) _ (fun _ _ h => pumpInit_sameQueues h) h)

theorem pumpCopy_sameQueues (h : SameQueues b s) : SameQueues b (pumpCopy s) :=
  sameQueues_keeps ((recordRelease_keeps (by decide) _).trans (dirtyRelease_keeps (by decide) _)) (pumped_sameQueues _ _ h)

theorem dirtyRelease_still (h : Still b s) : Still b (dirtyRelease s) := by
  unfold dirtyRelease
  exact forAll_inv _ (fun _ _ h => answerSettled_still (updReq_still h)) h

theorem pumped_still (l m : List Nat) (h : Still b s) : Still b (forAll l pumpDirty (forAll m pumpInit s)) := by
  have ho : (forAll l pumpDirty (forAll m pumpInit s)).out = s.out := out_of_seen (by simp)
  exact ⟨fun x => (pumped_sameQueues l m (sameQueues_refl s) x).1.trans (h.1 x), ho ▸ h.2⟩

theorem pumpCopy_still (h : Still b s) : Still b (pumpCopy s) :=
  still_keeps (recordRelease_keeps (by decide) _) (dirtyRelease_still (pumped_still _ _ h))

/-! ### The Row Counter (08) -/

theorem mntAdd_still {h : Fin 7} {o : MntOp} (hs : Still b s) : Still b (mntAdd x h o s) := updSched_still (fun _ => rfl) hs

theorem ledgerFetch_still {k : Nat} (h : Still b s) : Still b (ledgerFetch k s) := ite_still h (mntAdd_still h)

theorem raaOwe_still {u k : Nat} (h : Still b s) : Still b (raaOwe x u k s) := ite_still (mntAdd_still h) h

theorem raaCount_still {u k : Nat} (h : Still b s) : Still b (raaCount x u k s) := ite_still (raaOwe_still h) h

theorem raaLower_still {u : Nat} {p : Nat → Bool} (h : Still b s) : Still b (raaLower x u p s) := by
  unfold raaLower
  exact ite_still (forAll_inv _ (fun _ _ h => raaOwe_still h) h) h

theorem promote_still {u k row : Nat} {g : RcGroup} (h : Still b s) : Still b (promote x u k row g s) := by
  unfold promote
  exact forAll_inv _ (fun _ _ h => mntAdd_still (updRef_still h)) h

theorem countRow_still {u k row : Nat} {ledger : Bool} (h : Still b s) : Still b (countRow x u k row ledger s) := by
  unfold countRow
  dsimp only
  split
  · exact still_keeps (countCached_keeps (by decide) ..) h
  · exact ite_still (still_keeps (makeDue_keeps (by decide) ..) h) (ledgerFetch_still h)

theorem actCounted_still {c : Cmd} {ledger : Bool} (h : Still b s) : Still b (actCounted x c ledger s) := by
  have counted : ∀ u k row g, Still b (raaCount x u k (setGroup x u k row g s)) := fun u k row g => raaCount_still h
  unfold actCounted
  dsimp only
  split
  · exact ite_still (promote_still (counted ..)) (counted ..)
  · exact onlyIf_inv (still_keeps (makeDue_keeps (by decide) ..)) (onlyIf_inv id (counted ..))
  · exact countRow_still (counted ..)

theorem noteHeld_still {c : Cmd} (h : Still b s) : Still b (noteHeld x c s) := by
  have fetched : ∀ p q k, Still b (onlyIf p (ledgerFetch k) (onlyIf q (sqSet 0x10030 0x10) s)) := fun _ _ _ =>
    onlyIf_inv ledgerFetch_still (onlyIf_inv id h)
  exact ite_still (fetched ..) (fetched ..)

theorem zeroCounter_still {u k row : Nat} (h : Still b s) : Still b (zeroCounter x u k row s) := by
  unfold zeroCounter
  dsimp only
  split
  · exact h
  · exact ite_still (ledgerFetch_still h) h

theorem mitigated_still {d : DueRow} (h : Still b s) : Still b (mitigated d s) :=
  still_keeps (mitigation_keeps (by decide) ..) (zeroCounter_still (x := d.sc) h)

theorem setIssued_still {u : Nat} (h : Still b s) : Still b (setIssued x u s) := by
  have counted : Still b (onlyIf (decide ((refUnit s x u).debt ≤ 0)) (bump (rRef x 2)) (bump (rRef x 0) s)) :=
    onlyIf_inv (fun h => h) h
  exact raaLower_still (still_keeps (judgeEmergency_keeps (by decide) ..) counted)

end Sys2Proof.Machine
end

section
/-! SUPPORT. One cc of a scheduler: the commands that it puts on the bus, and its clock (R196, R197). -/

namespace Sys2Proof.Machine

variable {b s t : State} {x : Sc} {k : Nat}

/-! ### What a cc does beside its commands -/

theorem updMaint_still {h : Fin 7} {f : List MntCmd → List MntCmd} (hs : Still b s) : Still b (updMaint x h f s) :=
  updSched_still (fun _ => rfl) hs

theorem seqEnd_still (h : Still b s) : Still b (seqEnd x s) :=
  still_keeps (gearTake_keeps (by decide) _) (updSched_still (fun _ => rfl) h)

theorem codesGoOn_still (h : Still b s) : Still b (codesGoOn x s) := by
  have moved : Still b (windowsTo 2049 x (ckNow s x) (startIdle x s)) :=
    still_keeps (windowsTo_keeps (by decide) ..) (still_keeps (startIdle_keeps (by decide) ..) h)
  exact ite_still (ite_still (seqEnd_still moved) moved) h

theorem dropLines_still {n : Nat} (h : Still b s) : Still b (dropLines x n s) := updSched_still (fun _ => rfl) h

theorem ageAll_still {n : Nat} (h : Still b s) : Still b (ageAll x n s) := by
  unfold ageAll
  exact onlyIf_inv (fun h => h) (updSched_still (fun _ => rfl) h)

theorem modeUpdate_still (h : Still b s) : Still b (modeUpdate x s) := by
  unfold modeUpdate
  dsimp only
  split
  · exact ite_still (updSched_still (fun _ => rfl) h) h
  · split
    · exact updSched_still (fun _ => rfl) h
    · exact h

theorem offerHead_still (h : Still b s) : Still b (offerHead x s) := by
  unfold offerHead
  split
  · exact h
  · refine ite_still h ?_
    dsimp only
    split
    · exact still_keeps (glgCharge_keeps (by decide) ..) (updMaint_still h)
    · exact updMaint_still h

theorem noteHolds_still (h : Still b s) : Still b (noteHolds x s) := by
  unfold noteHolds
  refine ite_still h (forAll_inv _ (fun w s h => ?_) h)
  split
  · exact ite_still (noteHeld_still h) h
  · exact h

theorem countGated_still {n : Nat} {l : List Cand} (h : Still b s) : Still b (countGated x n l s) := by
  unfold countGated
  refine forAll_inv _ (fun c s h => ?_) h
  exact ite_still (updSched_still (fun _ => rfl) h) h

/-! ### The work that a command serves -/

theorem writeBurst_still {n : Nat} {c : Cmd} {src : WrSrc} {l : Lla} {d : Line} {p : Bool} (h : Still b s) :
    Still b (writeBurst x n c src l d p s) := emit_still rfl (updSched_still (fun _ => rfl) h)

theorem pipeAdd_still {o : Origin} {l : Lla} {n : Nat} (h : Still b s) : Still b (pipeAdd x o l n s) :=
  updSched_still (fun _ => rfl) h

theorem unlockLine_still {l : Lla} (h : Still b s) : Still b (unlockLine x l s) := updSched_still (fun _ => rfl) h

theorem lockFor_still {o : Origin} {l : Lla} (h : Still b s) : Still b (lockFor x o l s) := by
  unfold lockFor
  split
  · exact h
  · exact onlyIf_inv (updSched_still fun _ => rfl) h

theorem boCount_still {f : BindOff → BindOff} (h : Still b s) : Still b (boCount f s) := onlyIf_inv id h

theorem filled_still {h : Fin 7} {l : Lla} {n : Nat} {d : Line} (hs : Still b s) : Still b (filled x h l n d s) :=
  ite_still (updMaint_still hs) (updMaint_still hs)

theorem serveMaint_still {n : Nat} {h : Fin 7} {c : Cmd} (hs : Still b s) : Still b (serveMaint x n h c s) := by
  have begun : Still b (updSched x (fun q => { q with burst := q.burst + 1 }) s) := updSched_still (fun _ => rfl) hs
  have done : Still b (mntDone x h (updSched x (fun q => { q with burst := q.burst + 1 }) s)) := updMaint_still begun
  unfold serveMaint
  dsimp only
  split
  · exact begun
  · split
    · exact pipeAdd_still (lockFor_still done)
    · exact onlyIf_inv (still_keeps (ledgerWritten_keeps (by decide) ..)) (onlyIf_inv unlockLine_still (writeBurst_still done))
    · exact still_keeps (copied_keeps (by decide) ..) (unlockLine_still (writeBurst_still done))
    · exact writeBurst_still (filled_still begun)
    · exact setIssued_still done
    · exact ite_still (setIssued_still done) (updMaint_still begun)
    · have low : ∀ p q, Still b (raaLower x p (fun _ => true) (onlyIf q (forgetRfm x p) (mntDone x h
          (updSched x (fun q => { q with burst := q.burst + 1 }) s)))) := fun _ _ =>
        raaLower_still (onlyIf_inv updMaint_still done)
      exact ite_still (still_keeps (aboIssued_keeps (by decide) ..) (low ..))
        (still_keeps (mitigation_keeps (by decide) ..) (low ..))
    · exact still_keeps (mitigation_keeps (by decide) ..) (raaLower_still (s := mntDone x h _) done)
    · exact mitigated_still done
    · exact mitigated_still done
    · exact ite_still done begun
    · exact begun

theorem serveHost_still {n : Nat} {c : Cand} (h : Still b s) : Still b (serveHost x n c s) := by
  unfold serveHost
  dsimp only
  split
  · split
    · exact h
    · exact pipeAdd_still (updSched_still (fun _ => rfl) h)
  · split
    · exact h
    · exact pipeAdd_still (updSched_still (fun _ => rfl) h)
  · split
    · exact h
    · exact boCount_still (writeBurst_still (updSched_still (fun _ => rfl) h))
  · split
    · exact h
    · exact pumpCopy_still (boCount_still (writeBurst_still (updSched_still (fun _ => rfl) h)))
  · exact h

theorem replayWrite_still {n : Nat} {c : Cmd} {later : List Cmd} (h : Still b s) : Still b (replayWrite x n c later s) := by
  unfold replayWrite
  dsimp only
  split
  · exact h
  · exact emit_still rfl (updSched_still (fun _ => rfl) h)

theorem replaySet_still {c : Cmd} (h : Still b s) : Still b (replaySet x c s) :=
  ite_still (setIssued_still (updMaint_still h)) (updMaint_still (updMaint_still h))

/-! ### The earliest ck of a command -/

theorem le_foldl_max {α : Type} (f : Nat → α → Nat) (hf : ∀ n a, n ≤ f n a) (l : List α) (n : Nat) : n ≤ l.foldl f n := by
  induction l generalizing n with
  | nil => exact Nat.le_refl n
  | cons a l ih => exact (hf n a).trans (ih _)

theorem le_earliestPin (s : State) (q : Sched) (n : Nat) (c : Cmd) : n ≤ earliestPin s q n c :=
  ((Nat.le_max_left _ _).trans (Nat.le_max_left _ _)).trans (le_foldl_max _ (fun _ _ => Nat.le_max_left ..) _ _)

theorem le_forcedAt (s : State) (q : Sched) (c : Cmd) (n : Nat) : n ≤ forcedAt s q c n := by
  unfold forcedAt
  split
  · exact Nat.le_max_left ..
  · exact Nat.le_refl n

theorem le_earliest (s : State) (x : Sc) (n : Nat) (c : Cmd) : n ≤ earliest s x n c :=
  (le_foldl_max _ (fun _ _ => Nat.le_max_left ..) _ _).trans (le_forcedAt ..)

/-! ### The commands of a cc -/

/-- What sub-channel `x` may put out in a cc whose first ck is `k`: commands of its own, with a ck within the four of the cc,
or a precharge with a later one. -/
def OnCc (x : Sc) (k : Nat) : Out → Prop
  | .cmd y ck c => y = x ∧ k ≤ ck ∧ (ck < k + 4 ∨ c.kind = .pre)
  | _ => True

/-- A cc of sub-channel `x` that begins at ck `k` is under way. -/
def InCc (x : Sc) (k : Nat) (s : State) : Prop := (s.sched.get x).ck = k ∧ ∀ o ∈ s.out, OnCc x k o

theorem onCc_of_offBus {o : Out} (h : o.onBus = false) : OnCc x k o := by
  cases o with
  | cmd => exact nomatch h
  | _ => trivial

theorem Still.inCc (hs : Still s t) (h : InCc x k s) : InCc x k t := by
  refine ⟨hs.1.ck.trans h.1, fun o ho => ?_⟩
  cases hb : o.onBus with
  | false => exact onCc_of_offBus hb
  | true => exact h.2 o (hs.2 o ho hb)

theorem emit_inCc {o : Out} (ho : OnCc x k o) (h : InCc x k s) : InCc x k (emit o s) :=
  ⟨h.1, fun u hu => (List.mem_append.1 hu).elim (h.2 u) fun e => List.mem_singleton.1 e ▸ ho⟩

theorem emitAll_inCc {n : Nat} {pins : List Cmd} (hp : ∀ d ∈ pins, OnCc x k (.cmd x n d)) (h : InCc x k s) :
    InCc x k (forAll pins (fun c s => emit (.cmd x n c) s) s) := by
  unfold forAll
  induction pins generalizing s with
  | nil => exact h
  | cons d pins ih =>
    exact ih (fun e he => hp e (List.mem_cons_of_mem _ he)) (emit_inCc (hp d List.mem_cons_self) h)

/-- Beside its outputs a command changes nothing of the pace, and puts nothing else on a bus. -/
theorem busPins_still (x : Sc) (n : Nat) (pins : List Cmd) (c : Cmd) (cap ledger : Bool) (s : State) :
    Still (forAll pins (fun c s => emit (.cmd x n c) s) s) (busPins x n pins c cap ledger s) := by
  have noted : ∀ f hit, (∀ q, (f q).pace = q.pace) → Still (forAll pins (fun c s => emit (.cmd x n c) s) s)
      (countCmd x c hit (updSched x f (forAll pins (fun c s => emit (.cmd x n c) s) s))) := fun f hit hf =>
    still_keeps (countCmd_keeps (by decide) ..) (updSched_still hf (still_refl _))
  unfold busPins
  dsimp only
  split
  · exact actCounted_still (updRef_still (noted _ _ fun _ => rfl))
  · exact noted _ _ fun _ => rfl

theorem busPins_inCc {n : Nat} {pins : List Cmd} {c : Cmd} {cap ledger : Bool} (hp : ∀ d ∈ pins, OnCc x k (.cmd x n d))
    (h : InCc x k s) : InCc x k (busPins x n pins c cap ledger s) := (busPins_still ..).inCc (emitAll_inCc hp h)

/-- A command goes to its chip select, to the spare, or to both (R366, R367). -/
theorem pinCmds_subset (s : State) (x : Sc) (c : Cmd) :
    pinCmds s x c ⊆ [c, { c with cs := (s.ras.spare.get (chOf x)).cs }] := by
  unfold pinCmds
  dsimp only
  repeat' split
  all_goals simp

theorem busCmd_inCc {n : Nat} {c : Cmd} {cap ledger : Bool} (hn : k ≤ n) (hk : n < k + 4) (h : InCc x k s) :
    InCc x k (busCmd x n c cap ledger s) := busPins_inCc (fun _ _ => ⟨rfl, hn, .inl hk⟩) h

/-- A precharge of the chip select that a copy leaves behind may fall later than the cc (R200, R366). -/
theorem twinPre_inCc {n : Nat} {c : Cmd} {due : Bool} (hn : k ≤ n) (h : InCc x k s) : InCc x k (twinPre x n c due s) := by
  unfold twinPre
  dsimp only
  split
  · refine forAll_inv _ (fun i s h => busPins_inCc (fun d hd => ?_) h) h
    rw [List.mem_singleton.1 hd]
    exact ⟨rfl, hn.trans (le_earliestPin ..), .inr rfl⟩
  · exact h

theorem put_inCc {n : Nat} {c : Cmd} {due cap ledger : Bool} (hn : k ≤ n) (hk : n < k + 4) (h : InCc x k s) :
    InCc x k (twinPre x n c due (busCmd x n c cap ledger s)) := twinPre_inCc hn (busCmd_inCc hn hk h)

/-- A change of the scheduler of `x` that leaves its clock. -/
theorem updSched_inCc {f : Sched → Sched} (hf : ∀ q, (f q).ck = q.ck) (h : InCc x k s) : InCc x k (updSched x f s) := by
  refine ⟨?_, h.2⟩
  simp only [updSched, vget_vmod_same, hf]
  exact h.1

theorem issue_inCc {c : Cand} (hc : earliest s x k c.cmd < k + 4) (h : InCc x k s) : InCc x k (issue x k c s) := by
  have gated := updSched_inCc (f := fun q => { q with gated := q.gated.filter fun g => g ≠ (c.order, c.cmd.kind) })
    (fun _ => rfl) h
  unfold issue
  dsimp only
  generalize updSched x _ s = u at gated ⊢
  split
  · exact (serveMaint_still (still_refl _)).inCc (put_inCc (le_earliest ..) hc gated)
  · exact (serveHost_still (still_refl _)).inCc (put_inCc (le_earliest ..) hc gated)

theorem bestCand_mem {l : List Cand} {c : Cand} (h : bestCand l = some c) : c ∈ l := by
  induction l generalizing c with
  | nil => exact nomatch h
  | cons a l ih =>
    unfold bestCand at h
    split at h
    · exact Option.some.inj h ▸ List.mem_cons_self
    · next d hd =>
      rw [← Option.some.inj h]
      split
      · exact List.mem_cons_self
      · exact List.mem_cons_of_mem _ (ih hd)

/-- What a cc chooses is ready in it (R196). -/
theorem issueOne_inCc (h : InCc x k s) : InCc x k (issueOne x k s) := by
  unfold issueOne
  split
  · next c hc =>
    have hr : ready s x k c = true := (List.mem_filter.1 (bestCand_mem hc)).2
    exact issue_inCc (of_decide_eq_true (Bool.and_eq_true_iff.1 hr).1) h
  · exact h

theorem replayRead_inCc {n : Nat} {c : Cmd} (h : InCc x k s) : InCc x k (replayRead x n c s) := by
  unfold replayRead
  split
  · exact h
  · exact updSched_inCc (fun _ => rfl) h

theorem ite_inCc {c : Prop} [Decidable c] (hs : InCc x k s) (ht : InCc x k t) : InCc x k (if c then s else t) := by
  split
  · exact hs
  · exact ht

/-- A replayed command goes onto the bus in the cc in which it is due (R210). -/
theorem replayOne_inCc (h : InCc x k s) : InCc x k (replayOne x k s) := by
  unfold replayOne
  dsimp only
  split
  · next r hr =>
    generalize seqNext s x r = r'
    have ran := updSched_inCc (f := fun q => { q with replay := .running r' }) (fun _ => rfl) h
    split
    · exact ran
    · next c rest _ =>
      generalize updSched x _ s = u at ran ⊢
      refine ite_inCc (updSched_inCc (fun _ => rfl) ran) (ite_inCc ran ?_)
      split
      · exact ran
      · next hd =>
        have put := put_inCc (c := replayCmd u x c) (due := closesDue u x (replayCmd u x c)) (cap := false) (ledger := false)
          (le_earliest u x k _) (Nat.lt_of_not_le hd) ran
        generalize twinPre x _ _ _ _ = v at put ⊢
        have next := updSched_inCc (f := fun q => { q with replay := .running { r' with todo := rest } }) (fun _ => rfl) put
        split
        · split
          · exact (replayWrite_still (still_refl _)).inCc next
          · exact replayRead_inCc next
          · exact onlyIf_inv (replaySet_still (still_refl _)).inCc next
          · exact onlyIf_inv (replaySet_still (still_refl _)).inCc next
          · exact next
        · exact put
  · exact h

/-! ### The cc -/

/-- The first ck of the next cc of a sub-channel (R196). -/
def nextCc (s : State) (x : Sc) : Nat := max ((s.sched.get x).ck + 4) (4 * s.glb.cc)

theorem powerUp_idle (h : s.pwr.sc.get x ≠ .powerDown) : powerUp x s = s := if_neg h

theorem codesGoOn_busOn (x y : Sc) (s : State) : busOn (codesGoOn x s) y = busOn s y := by
  have hg : (codesGoOn x s).glb = s.glb := glb_of_seen (codesGoOn_keeps (by decide) ..)
  have ha : (codesGoOn x s).alert = s.alert := alert_of_seen (codesGoOn_keeps (by decide) ..)
  have hp : (codesGoOn x s).pwr = s.pwr := pwr_of_seen (codesGoOn_keeps (by decide) ..)
  unfold busOn chLive
  rw [hg, ha, hp]

/-- A sub-channel that is not in power-down does not leave it. -/
theorem codesGoOn_powerUp (p : Bool) (h : s.pwr.sc.get x ≠ .powerDown) :
    onlyIf p (powerUp x) (codesGoOn x s) = codesGoOn x s := by
  have hp : (codesGoOn x s).pwr = s.pwr := pwr_of_seen (codesGoOn_keeps (by decide) ..)
  exact onlyIf_inv (P := (· = codesGoOn x s)) (fun _ => powerUp_idle (by rwa [hp])) rfl

theorem schedulerCc_off (hb : busOn s x = false) (h : s.pwr.sc.get x ≠ .powerDown) : schedulerCc x s = codesGoOn x s := by
  unfold schedulerCc
  dsimp only
  rw [codesGoOn_powerUp _ h, codesGoOn_busOn, hb]
  rfl

theorem schedulerCc_inCc (hb : busOn s x = true) (ho : s.out = []) : InCc x (nextCc s x) (schedulerCc x s) := by
  have ha : s.pwr.sc.get x ≠ .powerDown := fun h => by simp [busOn, h] at hb
  have hu := codesGoOn_still (x := x) (still_refl s)
  have hcc : (codesGoOn x s).glb.cc = s.glb.cc := glb_cc_of_seen (codesGoOn_keeps (by decide) ..)
  have hk : max (((codesGoOn x s).sched.get x).ck + 4) (4 * (codesGoOn x s).glb.cc) = nextCc s x := by
    rw [hu.1.ck, hcc, nextCc]
  unfold schedulerCc
  dsimp only
  rw [codesGoOn_powerUp _ ha, codesGoOn_busOn, hb, hk, Bool.not_true, if_neg Bool.false_ne_true]
  generalize nextCc s x = k
  generalize codesGoOn x s = u at hu ⊢
  have clocked : InCc x k (updSched x (fun q => { q with ck := k }) u) := by
    refine ⟨by simp [updSched], fun o hm => onCc_of_offBus (Bool.eq_false_iff.2 fun hb => ?_)⟩
    exact absurd (hu.2 o hm hb) (ho ▸ List.not_mem_nil)
  have begun := onlyIf_inv (P := InCc x k) (c := replayFree u x) (f := dropLines x k)
    (dropLines_still (still_refl _)).inCc clocked
  generalize onlyIf (replayFree u x) _ _ = v at begun ⊢
  split
  · refine ite_inCc begun ?_
    have held : Still v (noteHolds x (modeUpdate x (ageAll x (k / 4) (offerHead x v)))) :=
      noteHolds_still (modeUpdate_still (ageAll_still (offerHead_still (still_refl v))))
    exact issueOne_inCc ((offerHead_still (still_refl _)).inCc (issueOne_inCc ((countGated_still held).inCc begun)))
  · exact replayOne_inCc (replayOne_inCc begun)

end Sys2Proof.Machine
end

section
/-! One cc of a sub-channel (R196, R197, R207, R482, R494). -/

namespace Sys2Proof.Machine

variable {s : State} {x : Sc}

theorem recoverySleep_idle {c : Ch} (h : (s.alert.get c).recovering = false) : recoverySleep c s = s :=
  if_neg (by simp [h])

/-- With the core clock, a cycle of every port ends before the cc (R102). -/
def ported (s : State) : State := if s.glb.coreRun then portCycles s else s

/-- The ports are all that such a cycle changes. -/
theorem ported_ports (s : State) : ∃ p, ported s = { s with ports := p } := by
  unfold ported
  split
  · exact ⟨_, rfl⟩
  · exact ⟨s.ports, rfl⟩

theorem schedulerIssue_ported (h : (s.alert.get (chOf x)).recovering = false) :
    schedulerIssue x s = if (ported s).glb.ctl = .bindOff && (boScs (ported s)).contains x && !boAsleep (ported s) x
      && boDone (ported s) x then srEnter x (ported s) else schedulerCc x (ported s) := by
  have hrun : onlyIf s.glb.coreRun (fun s => recoverySleep (chOf x) (portCycles s)) s = ported s := by
    unfold onlyIf ported
    exact congrArg (if s.glb.coreRun then · else s) (recoverySleep_idle (s := portCycles s) h)
  unfold schedulerIssue
  rw [hrun]

theorem schedulerIssue_serving (hc : s.glb.ctl ≠ .bindOff) (h : (s.alert.get (chOf x)).recovering = false) :
    schedulerIssue x s = schedulerCc x (ported s) := by
  obtain ⟨p, hp⟩ := ported_ports s
  rw [schedulerIssue_ported h]
  exact if_neg (by simp [hp, hc])

theorem schedulerIssue_drained (hc : s.glb.ctl = .bindOff) (h : (s.alert.get (chOf x)).recovering = false) (hx : x ∈ boScs s)
    (ha : boAsleep s x = false) (hd : boDone s x = true) : schedulerIssue x s = srEnter x (ported s) := by
  obtain ⟨p, hp⟩ := ported_ports s
  rw [schedulerIssue_ported h, hp]
  refine if_pos ?_
  show (decide (s.glb.ctl = .bindOff) && (boScs s).contains x && !boAsleep s x && boDone s x) = true
  simp [hc, hx, ha, hd]

end Sys2Proof.Machine

namespace Sys2Proof

open Sys2Proof.Machine

variable {s : State} {x : Sc}

theorem cc_issues (hb : busOn s x = true) (hc : s.glb.ctl ≠ .bindOff) (hr : (s.alert.get (chOf x)).recovering = false) :
    completes (.schedulerIssue x) s fun t => InCc x (nextCc s x) t := by
  obtain ⟨p, hp⟩ := ported_ports (begin_ s)
  refine completes_of_run (f := schedulerIssue x) rfl ?_
  rw [schedulerIssue_serving (s := begin_ s) hc hr, hp]
  exact schedulerCc_inCc (s := { begin_ s with ports := p }) hb rfl

theorem cc_idles (hb : busOn s x = false) (ha : s.pwr.sc.get x ≠ .powerDown) (hc : s.glb.ctl ≠ .bindOff)
    (hr : (s.alert.get (chOf x)).recovering = false) :
    completes (.schedulerIssue x) s fun t => t = codesGoOn x (ported (begin_ s)) := by
  obtain ⟨p, hp⟩ := ported_ports (begin_ s)
  refine completes_of_run (f := schedulerIssue x) rfl ?_
  rw [schedulerIssue_serving (s := begin_ s) hc hr, hp]
  exact schedulerCc_off (s := { begin_ s with ports := p }) hb ha

theorem drained_sleeps (hc : s.glb.ctl = .bindOff) (hr : (s.alert.get (chOf x)).recovering = false) (hx : x ∈ boScs s)
    (ha : boAsleep s x = false) (hd : boDone s x = true) :
    completes (.schedulerIssue x) s fun t => t.pwr.sc.get x = .selfRefresh
      ∧ (∀ m : Fin 7, (t.sched.get x).maskVec.getLsbD m.val = true) ∧ t.reqs = s.reqs := by
  obtain ⟨p, hp⟩ := ported_ports (begin_ s)
  have hs : s.pwr.sc.get x ≠ .selfRefresh := fun h => by simp [boAsleep, h] at ha
  refine completes_of_run (f := schedulerIssue x) rfl ?_
  rw [schedulerIssue_drained (s := begin_ s) hc hr hx ha hd, hp]
  refine ⟨srEnter_sc hs, fun m => ?_, reqs_of_seen (srEnter_keeps (by decide) ..)⟩
  rw [srEnter_masks (s := { begin_ s with ports := p }) hs]
  revert m
  decide

/-- Settles O23: a cc puts out what is ready in it, and without its bus a sub-channel issues nothing. -/
theorem schedulerIssueRules : Obligations.SchedulerIssueRules := by
  refine ⟨fun s x hb hc hr => ?_, fun _ _ hb ha hc hr => cc_idles hb ha hc hr,
    fun _ _ hc hr hx ha hd => drained_sleeps hc hr hx ha hd⟩
  obtain ⟨t, ht, hk, ho⟩ := cc_issues hb hc hr
  refine ⟨t, ht, hk, fun o hm => ?_⟩
  have h := ho o hm
  cases o with
  | cmd y ck c => exact h
  | _ => trivial

end Sys2Proof
end

section
/-! SUPPORT. Both sub-channels of a channel: its freeze at an alert, and its resumption (R208, R209). -/

namespace Sys2Proof.Machine

variable {b s t : State} {c : Ch} {x y : Sc}

theorem scA_ne_scB (c : Ch) : scA c ≠ scB c := by
  revert c
  decide

theorem mem_scs : x ∈ [scA c, scB c] ↔ x = scA c ∨ x = scB c := by simp

/-- An update of both sub-channels of a channel that may depend on the state, but not on the other sub-channel. -/
theorem forScs_get {F : State → Sc → Sched → Sched} (hF : ∀ s x y f, x ≠ y → F (updSched y f s) x = F s x) (s : State)
    (hx : x ∈ [scA c, scB c]) :
    (forAll [scA c, scB c] (fun x s => updSched x (F s x) s) s).sched.get x = F s x (s.sched.get x) := by
  have hab := scA_ne_scB c
  simp only [forAll, List.foldl_cons, List.foldl_nil]
  rcases mem_scs.1 hx with rfl | rfl
  · simp [updSched, vget_vmod_other _ _ hab]
  · rw [hF _ _ _ _ hab.symm]
    simp [updSched, vget_vmod_other _ _ hab.symm]

/-- What the update of one sub-channel keeps of every scheduler. -/
theorem updSched_has {p : Sched → Prop} {f : Sched → Sched} (hf : ∀ q, p q → p (f q)) (h : p (s.sched.get x)) :
    p ((updSched y f s).sched.get x) := by
  by_cases hy : x = y
  · subst hy
    simpa [updSched] using hf _ h
  · simpa [updSched, vget_vmod_other _ _ hy] using h

/-! ### The freeze -/

theorem freeze_updSched_other (s : State) (x y : Sc) (f : Sched → Sched) (h : x ≠ y) :
    freeze (updSched y f s) x = freeze s x := by
  have hq : (updSched y f s).sched.get x = s.sched.get x := vget_vmod_other _ _ h
  have hk : ckNow (updSched y f s) x = ckNow s x := by
    unfold ckNow
    rw [hq]
    rfl
  have hw : wholly (updSched y f s) x = wholly s x := by
    unfold wholly
    rw [hk]
    rfl
  unfold freeze inWindow
  rw [hk, hw]
  rfl

theorem freezeCh_get (s : State) (hx : x ∈ [scA c, scB c]) : (freezeCh c s).sched.get x = freeze s x (s.sched.get x) :=
  forScs_get freeze_updSched_other s hx

/-! ### The channel goes on -/

theorem requeue_paced {r : RdTag} (h : Paced b s) : Paced b (requeue x r s) := by
  unfold requeue
  split
  · exact updSched_paced (fun _ => rfl) h
  · exact updSched_paced (fun _ => rfl) h
  · exact updSched_paced (fun _ => rfl) (updSched_paced (x := x) (f := fun q => { q with locks := _ }) (fun _ => rfl) h)

/-- A sub-channel goes on: its lost reads are read again. -/
def resumeSc (x : Sc) (s : State) : State :=
  forAll (s.sched.get x).lost (requeue x) (updSched x (fun q => { q with lost := [], replay := .none }) s)

theorem resume_eq (c : Ch) (s : State) : resume c s = resumeSc (scB c) (resumeSc (scA c) s) := rfl

theorem resumeSc_paced (x : Sc) (s : State) :
    Paced (updSched x (fun q => { q with lost := [], replay := .none }) s) (resumeSc x s) :=
  forAll_inv (P := Paced _) _ (fun _ _ h => requeue_paced h) (paced_refl _)

theorem resumeSc_same (x : Sc) (s : State) :
    ((resumeSc x s).sched.get x).pace = { s.sched.get x with lost := [], replay := .none }.pace := by
  rw [resumeSc_paced x s x]
  simp [updSched]

theorem resumeSc_other (s : State) (h : y ≠ x) : ((resumeSc x s).sched.get y).pace = (s.sched.get y).pace := by
  rw [resumeSc_paced x s y]
  simp [updSched, vget_vmod_other _ _ h]

/-- Nothing of an alert is left in a channel that goes on; its clocks and watchdogs stay as they are. -/
theorem resume_get (s : State) (hx : x ∈ [scA c, scB c]) : ((resume c s).sched.get x).replay = .none
    ∧ ((resume c s).sched.get x).lost = [] ∧ ((resume c s).sched.get x).replayEnd = (s.sched.get x).replayEnd := by
  have hab := scA_ne_scB c
  have hp : ∃ n m, ((resume c s).sched.get x).pace = (n, .none, [], (s.sched.get x).replayEnd, m) := by
    rw [resume_eq]
    rcases mem_scs.1 hx with rfl | rfl
    · rw [resumeSc_other _ hab, resumeSc_same]
      exact ⟨_, _, rfl⟩
    · have h := resumeSc_other s hab.symm
      simp only [Sched.pace, Prod.mk.injEq] at h
      obtain ⟨-, -, -, he, -⟩ := h
      rw [resumeSc_same, ← he]
      exact ⟨_, _, rfl⟩
  obtain ⟨n, m, h⟩ := hp
  simp only [Sched.pace, Prod.mk.injEq] at h
  obtain ⟨-, hr, hl, he, -⟩ := h
  exact ⟨hr, hl, he⟩

end Sys2Proof.Machine
end

section
/-! SUPPORT. A channel goes out of service, and a recovery begins (R212, R371, R372). -/

namespace Sys2Proof.Machine

variable {b s t : State} {c : Ch} {x y : Sc}

/-! ### Status bits (R40) -/

theorem regGet_status_of_seen (e : t.seen 0x1FFFDFFFFFFFFFFFFFFFFFFFFFFFFFFFFFFFFFFFFFFFF =
    s.seen 0x1FFFDFFFFFFFFFFFFFFFFFFFFFFFFFFFFFFFFFFFFFFFF) : regGet t rRasStatus = regGet s rRasStatus :=
  regGet_of_seen e rRasStatus (by rw [show regGroup rRasStatus = 14 from rfl]; decide)

theorem sqSet_sets (o : Nat) {n : Nat} (hn : n < 24) (s : State) : bitOf (regGet (sqSet o (pack [(1, n)]) s) o) n = true := by
  have one : ∀ k : Fin 24, bitOf (pack [(1, k.val)]) k.val = true := by decide
  rw [regGet_sqSet_same, sqWord_bit _ _ hn, one ⟨n, hn⟩, Bool.or_true]

/-! ### The entries of a channel that is lost -/

theorem setDirty_sameQueues {r : Nat} (h : SameQueues b s) : SameQueues b (setDirty r s) := by
  unfold setDirty copyWrite
  exact ite_sameQueues h (pumpCopy_sameQueues h)

theorem settle_sameQueues {id : Nat} (h : SameQueues b s) : SameQueues b (settle id s) := by
  unfold settle
  split
  · exact h
  · split
    · exact sameQueues_keeps (answerSettled_keeps (by decide) ..) h
    · exact ite_sameQueues (setDirty_sameQueues h) (sameQueues_keeps (answerSettled_keeps (by decide) ..) (setDirty_sameQueues h))
    · exact sameQueues_keeps (s := s) (by simp) h
    · exact sameQueues_keeps (s := s) (by simp) h
    · exact h

theorem settlePeer_sameQueues {id : Nat} {k : Commit} (h : SameQueues b s) : SameQueues b (settlePeer id k s) := by
  unfold settlePeer
  exact forAll_inv _ (fun r u h => settle_sameQueues (sameQueues_keeps (updReq_keeps (by decide) ..) h)) h

theorem forward_sameQueues {id : Nat} {d : Line} {p : Bool} (h : SameQueues b s) : SameQueues b (forward id d p s) := by
  unfold forward
  split
  · exact h
  · exact ite_sameQueues (ite_sameQueues (sameQueues_keeps (s := s) (by simp) h) h) (settlePeer_sameQueues h)

theorem writeDead_sameQueues {r : Req} (h : SameQueues b s) : SameQueues b (writeDead r s) := by
  unfold writeDead
  dsimp only
  refine ite_sameQueues (sameQueues_keeps (finish_keeps (by decide) ..) h) (ite_sameQueues ?_ ?_)
  · exact ite_sameQueues (settlePeer_sameQueues h) (ite_sameQueues (forward_sameQueues h) h)
  · exact sameQueues_keeps (failReq_keeps (by decide) ..) h

/-- The queues of a sub-channel are emptied before its entries are given up. -/
def cleared (x : Sc) (s : State) : State := updSched x (fun q => { q with
  rq := [], wq := [], copy := [], pipe := [], lost := [], heldRds := [], locks := [], rows := []
  replay := .none, maint := Vector.replicate 7 [], holder := none }) s

theorem strandSc_sameQueues (x : Sc) (s : State) : SameQueues (cleared x s) (strandSc x s) := by
  have start : SameQueues (cleared x s) (cleared x s) := sameQueues_refl _
  unfold strandSc
  dsimp only
  refine forAll_inv (P := SameQueues (cleared x s)) _ (fun e u h => ?_)
    (forAll_inv (P := SameQueues (cleared x s)) _ (fun e u h => ?_) start)
  · split
    · exact sameQueues_keeps (s := u) (by split <;> simp) h
    · exact h
  · split
    · refine ite_sameQueues (writeDead_sameQueues h) (ite_sameQueues ?_ ?_)
      · exact sameQueues_keeps (finish_keeps (by decide) ..) h
      · exact sameQueues_keeps (writtenToDram_keeps (by decide) ..) h
    · exact h

/-- No host entry of the sub-channel is left. -/
def NoEntries (x : Sc) (s : State) : Prop := (s.sched.get x).rq = [] ∧ (s.sched.get x).wq = []

theorem noEntries_of_sameQueues (e : SameQueues s t) (h : NoEntries x s) : NoEntries x t :=
  ⟨(e x).2.1.trans h.1, (e x).2.2.trans h.2⟩

theorem strandSc_noEntries (x : Sc) (s : State) : NoEntries x (strandSc x s) :=
  noEntries_of_sameQueues (strandSc_sameQueues x s) (by simp [NoEntries, cleared, updSched])

theorem strandSc_keeps_noEntries (h : NoEntries y s) : NoEntries y (strandSc x s) := by
  have start : NoEntries y (cleared x s) := by
    unfold NoEntries cleared
    exact updSched_has (p := fun q => q.rq = [] ∧ q.wq = []) (fun _ _ => ⟨rfl, rfl⟩) h
  exact noEntries_of_sameQueues (strandSc_sameQueues x s) start

/-! ### A channel goes out of service -/

/-- The record of a channel that goes out of service (R372). -/
def Alert.lost (a : Alert) : Alert := { a with recovering := false, oos := true, low := false }

/-- The channel is out of service and reported, and what data integrity had under way on it ends; its entries are still there. -/
def losing (c : Ch) (s : State) : State :=
  let lost := ([scA c, scB c].map fun x => (s.sched.get x).wq.length).sum
  let t := (s.glb.now - (s.alert.get c).recFrom) / us 1
  rasLose c (sqSet rRasStatus (pack [(1, 16 + c.val)]) (updAlert c Alert.lost (failRecord c 2 lost t 4 s)))

theorem loseChannel_eq (c : Ch) (s : State) :
    loseChannel c s = reqRole 0 (pumpCopy (chInit c (strandSc (scB c) (strandSc (scA c) (losing c s))))) := rfl

theorem losing_alert (c : Ch) (s : State) : (losing c s).alert = vmod s.alert c Alert.lost := by
  have hf : ∀ n k, (failRecord c 2 n k 4 s).alert = s.alert := fun _ _ => alert_of_seen (failRecord_keeps (by decide) ..)
  exact (alert_of_seen (rasLose_keeps (by decide) ..)).trans (congrArg (vmod · c Alert.lost) (hf ..))

theorem loseChannel_alert (c : Ch) (s : State) : (loseChannel c s).alert.get c = (s.alert.get c).lost := by
  rw [loseChannel_eq, alert_of_seen (s := losing c s) (by simp), losing_alert, vget_vmod_same]

theorem loseChannel_noEntries (s : State) (hx : x ∈ [scA c, scB c]) : NoEntries x (loseChannel c s) := by
  have stranded : NoEntries x (strandSc (scB c) (strandSc (scA c) (losing c s))) := by
    rcases mem_scs.1 hx with rfl | rfl
    · exact strandSc_keeps_noEntries (strandSc_noEntries ..)
    · exact strandSc_noEntries ..
  have initialised : SameQueues (strandSc (scB c) (strandSc (scA c) (losing c s)))
      (chInit c (strandSc (scB c) (strandSc (scA c) (losing c s)))) :=
    sameQueues_keeps (chInit_keeps (by decide) ..) (sameQueues_refl _)
  rw [loseChannel_eq]
  exact noEntries_of_sameQueues (sameQueues_keeps (reqRole_keeps (by decide) ..) (pumpCopy_sameQueues initialised)) stranded

theorem regGet_status_setResult (p : Bool) (n : Nat) (s : State) : regGet (setResult p n s) rRasStatus = regGet s rRasStatus :=
  regGet_regSet_other s _ (by decide)

/-- What data integrity had under way ends without a bit of its own in RAS_STATUS (R366, R372). -/
theorem abandonSparing_status (c : Ch) (s : State) : regGet (abandonSparing c s) rRasStatus = regGet s rRasStatus := by
  have result : ∀ p q n u, regGet (onlyIf p (setResult q n) u) rRasStatus = regGet u rRasStatus := fun p q n u =>
    onlyIf_inv (P := fun v => regGet v rRasStatus = regGet u rRasStatus) (fun h => (regGet_status_setResult ..).trans h) rfl
  unfold abandonSparing
  dsimp only
  split
  · refine (regGet_status_of_seen (forAll_keeps _ _ _ fun x u => ?_)).trans ((result ..).trans
      ((regGet_status_of_seen (markedRecord_keeps (by decide) ..)).trans (result ..)))
    simp
  · exact result ..

theorem dropRepairs_status (c : Ch) (s : State) : regGet (dropRepairs c s) rRasStatus = regGet s rRasStatus := by
  have result : ∀ p q n u, regGet (onlyIf p (setResult q n) u) rRasStatus = regGet u rRasStatus := fun p q n u =>
    onlyIf_inv (P := fun v => regGet v rRasStatus = regGet u rRasStatus) (fun h => (regGet_status_setResult ..).trans h) rfl
  unfold dropRepairs
  dsimp only
  split
  · refine Eq.trans (regGet_status_of_seen (onlyIf_keeps _ _ _ ?_)) (result ..)
    simp
  · exact result ..

theorem rasLose_status (c : Ch) (s : State) : regGet (rasLose c s) rRasStatus = regGet s rRasStatus := by
  have dropped := (dropRepairs_status c (abandonSparing c s)).trans (abandonSparing_status c s)
  unfold rasLose
  dsimp only
  split
  · exact (regGet_status_of_seen (dbgEnd_keeps (by decide) ..)).trans dropped
  · exact dropped

/-- The loss of a channel is shown (R372). -/
theorem loseChannel_status (c : Ch) (s : State) : bitOf (regGet (loseChannel c s) rRasStatus) (16 + c.val) = true := by
  rw [loseChannel_eq, regGet_status_of_seen (s := losing c s) (by simp)]
  unfold losing
  rw [rasLose_status]
  exact sqSet_sets _ (by omega) _

theorem recoveryFails_eq (c : Ch) (s : State) : recoveryFails c s =
    loseChannel c (onlyIf (s.alert.get c).byWdog (timeout 0x09 4 4 false (subjSc (scA c) 0 0) 0) s) := rfl

end Sys2Proof.Machine
end

section
/-! SUPPORT. The start of a recovery and its end, an alert's release, and the attempts of a replay (R210 to R214, R370, R371). -/

namespace Sys2Proof.Machine

variable {b s t : State} {c : Ch} {x y : Sc}

/-! ### A recovery begins -/

/-- The record of a channel whose recovery begins (R371). -/
def Alert.recover (f : BitVec 2) (wdog on : Bool) (now : Nat) (a : Alert) : Alert :=
  { a with failedSc := f, slept := false, byWdog := wdog, recovering := on, recFrom := now, low := false }

/-- A recovery has been recorded; the sub-channels have not taken notice. -/
def recoveryTold (c : Ch) (f : BitVec 2) (wdog : Bool) (s : State) : State :=
  failRecord c 0 0 0 3 (updAlert c (Alert.recover f wdog (s.glb.ctl ≠ .bindOff) s.glb.now) s)

theorem recoveryTold_alert (c : Ch) (f : BitVec 2) (wdog : Bool) (s : State) : (recoveryTold c f wdog s).alert =
    vmod s.alert c (Alert.recover f wdog (s.glb.ctl ≠ .bindOff) s.glb.now) := alert_of_seen (failRecord_keeps (by decide) ..)

theorem recoveryTold_ctl (c : Ch) (f : BitVec 2) (wdog : Bool) (s : State) : (recoveryTold c f wdog s).glb.ctl = s.glb.ctl :=
  glb_ctl_of_seen (failRecord_keeps (by decide) ..)

theorem recoveryTold_sched (c : Ch) (f : BitVec 2) (wdog : Bool) (s : State) : (recoveryTold c f wdog s).sched = s.sched :=
  sched_of_seen (failRecord_keeps (by decide) ..)

theorem startRecovery_eq (c : Ch) (f : BitVec 2) (wdog : Bool) (s : State) : startRecovery c f wdog s =
    if (recoveryTold c f wdog s).glb.ctl = .bindOff then loseUnissued c (recoveryTold c f wdog s)
    else forAll [scA c, scB c] (fun x s => updSched x (fun q => { q with replay := .failed }) s) (recoveryTold c f wdog s) := rfl

theorem startRecovery_alert (c : Ch) (f : BitVec 2) (wdog : Bool) (s : State) : (startRecovery c f wdog s).alert.get c =
    (s.alert.get c).recover f wdog (s.glb.ctl ≠ .bindOff) s.glb.now := by
  have told : (startRecovery c f wdog s).alert = (recoveryTold c f wdog s).alert := by
    rw [startRecovery_eq]
    split
    · exact alert_of_seen (loseUnissued_keeps (by decide) ..)
    · exact alert_of_seen (by simp)
  rw [told, recoveryTold_alert, vget_vmod_same]

/-- No command is issued until the recovery (R212). -/
theorem startRecovery_failed (hc : s.glb.ctl ≠ .bindOff) {f : BitVec 2} {wdog : Bool} (hx : x ∈ [scA c, scB c]) :
    ((startRecovery c f wdog s).sched.get x).replay = .failed := by
  rw [startRecovery_eq, if_neg (by rwa [recoveryTold_ctl]),
    forScs_get (F := fun _ _ q => { q with replay := .failed }) (fun _ _ _ _ _ => rfl) _ hx]

/-- The last expiry of the progress watchdog of `x` was at `w` (R213). -/
def Watched (x : Sc) (w : Option Nat) (s : State) : Prop := (s.sched.get x).wdogLast = w

theorem updSched_watched {w : Option Nat} {f : Sched → Sched} (hf : ∀ q, (f q).wdogLast = q.wdogLast) (h : Watched x w s) :
    Watched x w (updSched y f s) := updSched_has (p := fun q => q.wdogLast = w) (fun q hq => (hf q).trans hq) h

theorem boCount_watched {w : Option Nat} {f : BindOff → BindOff} (h : Watched x w s) : Watched x w (boCount f s) :=
  onlyIf_inv (fun h => h) h

theorem updMir_watched {w : Option Nat} {f : Mir → Mir} (h : Watched x w s) : Watched x w (updMir f s) := h

theorem freezeCh_watched {w : Option Nat} (h : Watched x w s) : Watched x w (freezeCh c s) := by
  unfold freezeCh
  refine forAll_inv _ (fun y u h => ?_) h
  exact updSched_watched (fun _ => rfl) h

theorem startRecovery_watched {f : BitVec 2} {wdog : Bool} {w : Option Nat} (h : Watched x w s) :
    Watched x w (startRecovery c f wdog s) := by
  have told : Watched x w (recoveryTold c f wdog s) := by rwa [Watched, recoveryTold_sched]
  rw [startRecovery_eq]
  split
  · unfold loseUnissued
    refine forAll_inv _ (fun y u h => ?_) told
    exact boCount_watched (updMir_watched (updSched_watched (fun _ => rfl) h))
  · refine forAll_inv _ (fun y u h => ?_) told
    exact updSched_watched (fun _ => rfl) h

/-- The third attempt of a replay fails (R212). -/
theorem replayFail_recovers (hc : s.glb.ctl ≠ .bindOff) :
    ((replayFail c s).alert.get c).recovering = true ∧ ((replayFail c s).alert.get c).low = false
      ∧ ∀ x ∈ [scA c, scB c], ((replayFail c s).sched.get x).replay = .failed := by
  have marked : ∀ p q, (onlyIf p (sqSet (rSchStatus (scA c)) 0x8) (onlyIf q (sqSet (rSchStatus (scB c)) 0x8) s)).glb.ctl ≠ .bindOff :=
    fun p q => onlyIf_inv (P := fun u => u.glb.ctl ≠ .bindOff) (fun h => h)
      (onlyIf_inv (P := fun u => u.glb.ctl ≠ .bindOff) (fun h => h) hc)
  unfold replayFail
  refine ⟨?_, ?_, fun x hx => startRecovery_failed (marked _ _) hx⟩
  · rw [startRecovery_alert]
    exact decide_eq_true (marked _ _)
  · rw [startRecovery_alert]
    rfl

/-! ### An alert is released (R210, R242, R370) -/

theorem endWait_still {h : Fin 7} (hs : Still b s) : Still b (endWait x h s) := by
  unfold endWait
  split
  · exact hs
  · exact updSched_still (fun _ => rfl) hs

theorem grant_still {h : Fin 7} (hs : Still b s) : Still b (grant x h s) := updSched_still (fun _ => rfl) (endWait_still hs)

theorem startWait_still {h : Fin 7} (hs : Still b s) : Still b (startWait x h s) :=
  ite_still hs (updSched_still (fun _ => rfl) hs)

theorem preempt_still (h : Still b s) : Still b (preempt x s) := by
  unfold preempt
  split
  · exact h
  · exact ite_still (grant_still (startWait_still h)) h

/-- A back-off request only puts up work of refresh (R242). -/
theorem aboRequest_still (h : Still b s) : Still b (aboRequest c s) := by
  unfold aboRequest
  dsimp only
  refine forAll_inv _ (fun y u h => preempt_still ?_) (updRef_still h)
  refine forAll_inv _ (fun _ v h => ?_) (onlyIf_inv (fun h => h) h)
  exact forAll_inv _ (fun _ _ h => mntAdd_still h) h

/-- The channel takes note of the end of an alert. -/
def released (c : Ch) (s : State) : State := updAlert c (fun a => { a with low := false }) s

theorem alertRelease_fails {w : Nat} (hl : (s.alert.get c).low = true) (ha : (s.alert.get c).again = true)
    (hn : 3 ≤ (s.alert.get c).attempts) (hw : alertClass s w ≠ 3) :
    alertRelease c w s = replayFail c (expired 0x01 (released c s)) := by
  have hk : alertClass (released c s) w ≠ 3 := hw
  unfold alertRelease
  simp only [hl, ha, hn, Bool.not_true, Bool.false_eq_true, if_false, decide_true, Bool.and_true, if_true]
  exact if_neg hk

theorem alertRelease_replays {w : Nat} (hl : (s.alert.get c).low = true) (ha : (s.alert.get c).again = false)
    (hw : alertClass s w ≠ 3) : alertRelease c w s = startReplay c (alertClass s w) w (released c s) := by
  have hk : alertClass (released c s) w ≠ 3 := hw
  unfold alertRelease
  simp only [hl, ha, Bool.not_true, Bool.false_eq_true, if_false, Bool.false_and]
  exact if_neg hk

/-- A back-off request has been taken (R242). -/
def backedOff (c : Ch) (s : State) : State := updAlert c (fun a => { a with again := false }) (aboRequest c (released c s))

theorem alertRelease_backsOff {w : Nat} (hl : (s.alert.get c).low = true) (hw : alertClass s w = 3) :
    alertRelease c w s = if interrupted (backedOff c s) c then
      forAll [scA c, scB c] (fun x s => updSched x unfreeze s) (backedOff c s) else resume c (backedOff c s) := by
  have hk : alertClass (released c s) w = 3 := hw
  unfold alertRelease
  simp only [hl, Bool.not_true, Bool.false_eq_true, if_false]
  exact if_pos hk

theorem backedOff_alert (c : Ch) (s : State) :
    (backedOff c s).alert.get c = { s.alert.get c with low := false, again := false } := by
  have ha : (aboRequest c (released c s)).alert = (released c s).alert := alert_of_seen (aboRequest_keeps (by decide) ..)
  unfold backedOff updAlert
  dsimp only
  rw [vget_vmod_same, ha]
  simp [released, updAlert]

theorem backedOff_replay (c : Ch) (x : Sc) (s : State) : ((backedOff c s).sched.get x).replay = (s.sched.get x).replay :=
  (aboRequest_still (c := c) (still_refl (released c s))).1.replay

theorem backedOff_interrupted (c : Ch) (s : State) : interrupted (backedOff c s) c = interrupted s c := by
  unfold interrupted
  simp only [backedOff_replay]

/-- The sequences that the alert interrupted go on (R242). -/
theorem unfrozen_replay (s : State) (hx : x ∈ [scA c, scB c]) :
    ((forAll [scA c, scB c] (fun x s => updSched x unfreeze s) s).sched.get x).replay = (unfreeze (s.sched.get x)).replay :=
  congrArg Sched.replay (forScs_get (F := fun _ _ => unfreeze) (fun _ _ _ _ _ => rfl) s hx)

/-! ### A replay starts, and an attempt ends (R210 to R212) -/

/-- The first attempt of an alert of the class has been recorded (R210, R370). -/
def classified (c : Ch) (cls : Fin 4) (w : Nat) (aff : BitVec 2) (s : State) : State :=
  let cmds := max (s.sched.get (scA c)).window.length (s.sched.get (scB c)).window.length
  updAlert c (fun a => { a with cls := cls, width := w, attempts := 1, affected := aff, cmds := cmds, again := false }) s

/-- The sub-channels that an alert of the class affects, as bits. -/
def hitBy (s : State) (c : Ch) (cls : Fin 4) : BitVec 2 :=
  BitVec.ofNat 2 (b2n (affects s cls (scA c)) + 2 * b2n (affects s cls (scB c)))

/-- One sub-channel of a replay that starts. -/
def joinReplay (cls : Fin 4) (aff : BitVec 2) (x : Sc) (n : Nat) (s : State) : State :=
  let s := updSched x (fun q => { q with crcOnly := decide (cls = 1) }) s
  if aff.getLsbD n then startAttempt x 1 s else s

theorem startReplay_first {cls : Fin 4} {w : Nat} (ha : (s.alert.get c).again = false) :
    startReplay c cls w s =
      if hitBy s c cls = 0 then
        updAlert c (fun a => { a with attempts := 0 }) (resume c (replayRecord c (classified c cls w (hitBy s c cls) s)))
      else joinReplay cls (hitBy s c cls) (scB c) 1 (joinReplay cls (hitBy s c cls) (scA c) 0
        (boCount (fun b => { b with replayRan := true }) (classified c cls w (hitBy s c cls) s))) := by
  unfold startReplay
  simp only [ha, Bool.false_and, Bool.or_false, Bool.false_eq_true, if_false, Bool.not_false, Bool.true_or, Bool.and_true]
  rfl

end Sys2Proof.Machine
end

section
/-! SUPPORT. The attempts of a replay, the end of a recovery, and the progress watchdog (R210 to R214, R371). -/

namespace Sys2Proof.Machine

variable {b s t : State} {c : Ch} {x y : Sc}

theorem startAttempt_get (x : Sc) (n : Nat) (s : State) : (startAttempt x n s).sched.get x =
    { s.sched.get x with
      attempts := n, since := [], replay := .running ⟨1, replayClose (s.sched.get x), replayBody (s.sched.get x)⟩ } :=
  vget_vmod_same ..

theorem joinReplay_hit {cls : Fin 4} {aff : BitVec 2} {n : Nat} (h : aff.getLsbD n = true) :
    ((joinReplay cls aff x n s).sched.get x).replay.runs = true ∧ ((joinReplay cls aff x n s).sched.get x).attempts = 1 := by
  unfold joinReplay
  dsimp only
  rw [if_pos h, startAttempt_get]
  exact ⟨rfl, rfl⟩

theorem joinReplay_other {cls : Fin 4} {aff : BitVec 2} {n : Nat} (h : y ≠ x) :
    (joinReplay cls aff x n s).sched.get y = s.sched.get y := by
  unfold joinReplay
  dsimp only
  split
  · exact (vget_vmod_other _ _ h).trans (vget_vmod_other _ _ h)
  · exact vget_vmod_other _ _ h

theorem joinReplay_alert (cls : Fin 4) (aff : BitVec 2) (x : Sc) (n : Nat) (s : State) :
    (joinReplay cls aff x n s).alert = s.alert := by
  unfold joinReplay
  dsimp only
  split
  · exact alert_of_seen (startAttempt_keeps (by decide) ..)
  · rfl

theorem hitBy_bit (s : State) (c : Ch) (cls : Fin 4) : (hitBy s c cls).getLsbD 0 = affects s cls (scA c) := by
  unfold hitBy
  cases affects s cls (scA c) <;> cases affects s cls (scB c) <;> rfl

theorem hitBy_zero {cls : Fin 4} (ha : affects s cls (scA c) = false) (hb : affects s cls (scB c) = false) :
    hitBy s c cls = 0 := by
  unfold hitBy
  rw [ha, hb]
  rfl

/-- An affected sub-channel A starts its sequence (R210). -/
theorem startReplay_hits {cls : Fin 4} {w : Nat} (ha : (s.alert.get c).again = false) (h : affects s cls (scA c) = true) :
    ((startReplay c cls w s).alert.get c = (classified c cls w (hitBy s c cls) s).alert.get c)
      ∧ ((startReplay c cls w s).sched.get (scA c)).replay.runs = true
      ∧ ((startReplay c cls w s).sched.get (scA c)).attempts = 1 := by
  have bit : (hitBy s c cls).getLsbD 0 = true := (hitBy_bit ..).trans h
  have nonzero : hitBy s c cls ≠ 0 := fun e => by simp [e] at bit
  rw [startReplay_first ha, if_neg nonzero, joinReplay_other (scA_ne_scB c), joinReplay_alert, joinReplay_alert]
  exact ⟨congrArg (·.get c) (alert_of_seen (boCount_keeps (by decide) ..)), joinReplay_hit bit⟩

/-- An alert that affects neither sub-channel is recorded, and the channel goes on. -/
theorem startReplay_misses {cls : Fin 4} {w : Nat} (ha : (s.alert.get c).again = false)
    (hA : affects s cls (scA c) = false) (hB : affects s cls (scB c) = false) :
    startReplay c cls w s =
      updAlert c (fun a => { a with attempts := 0 }) (resume c (replayRecord c (classified c cls w 0 s))) := by
  rw [startReplay_first ha, hitBy_zero hA hB, if_pos rfl]

/-! ### An attempt ends (R210 to R212) -/

/-- The attempt of one sub-channel ends, counted by the class of the alert. -/
def endAttempt (cls : Fin 4) (x : Sc) (s : State) : State :=
  if (s.sched.get x).replay.runs then
    bump (rRas x (if cls = 1 then 8 else 7)) (sqSet (rSchStatus x) 0x4 (updSched x (fun q => { q with replayEnd := q.ck }) s))
  else s

theorem endAttempt_same (cls : Fin 4) (x : Sc) (s : State) : ((endAttempt cls x s).sched.get x).replayEnd =
    if (s.sched.get x).replay.runs then (s.sched.get x).ck else (s.sched.get x).replayEnd := by
  unfold endAttempt
  split
  · exact congrArg Sched.replayEnd (vget_vmod_same ..)
  · rfl

theorem endAttempt_other (cls : Fin 4) (s : State) (h : y ≠ x) : (endAttempt cls x s).sched.get y = s.sched.get y := by
  unfold endAttempt
  split
  · exact vget_vmod_other _ _ h
  · rfl

/-- Both sub-channels have ended their attempts. -/
def attemptsEnd (c : Ch) (s : State) : State :=
  endAttempt (s.alert.get c).cls (scB c) (endAttempt (s.alert.get c).cls (scA c) s)

theorem attemptsEnd_get (s : State) (hx : x ∈ [scA c, scB c]) : ((attemptsEnd c s).sched.get x).replayEnd =
    if (s.sched.get x).replay.runs then (s.sched.get x).ck else (s.sched.get x).replayEnd := by
  have hab := scA_ne_scB c
  unfold attemptsEnd
  rcases mem_scs.1 hx with rfl | rfl
  · rw [endAttempt_other _ _ hab, endAttempt_same]
  · rw [endAttempt_same, endAttempt_other _ _ hab.symm]

theorem replayAttemptEnd_ends (hl : (s.alert.get c).low = false) (ho : ∀ x ∈ [scA c, scB c], (s.sched.get x).replay.over = true)
    (hr : (s.sched.get (scA c)).replay.runs = true ∨ (s.sched.get (scB c)).replay.runs = true) :
    replayAttemptEnd c s = resume c (replayRecord c (sqSet rRasStatus (pack [(1, 12 + c.val)]) (attemptsEnd c s))) := by
  have oA := ho _ (mem_scs.2 (.inl rfl))
  have oB := ho _ (mem_scs.2 (.inr rfl))
  have goes : ¬ ((s.alert.get c).low || !((s.sched.get (scA c)).replay.over && (s.sched.get (scB c)).replay.over)
      || !((s.sched.get (scA c)).replay.runs || (s.sched.get (scB c)).replay.runs)) = true := by
    rw [hl, oA, oB, Bool.or_eq_true_iff.2 hr]
    decide
  unfold replayAttemptEnd
  exact if_neg goes

/-- A replay that has ended is shown (R210). -/
theorem replayAttemptEnd_status (c : Ch) (s : State) :
    bitOf (regGet (resume c (replayRecord c (sqSet rRasStatus (pack [(1, 12 + c.val)]) s))) rRasStatus) (12 + c.val) = true := by
  rw [regGet_status_of_seen (s := sqSet rRasStatus (pack [(1, 12 + c.val)]) s) (by simp)]
  exact sqSet_sets _ (by omega) _

/-! ### A recovery ends (R371) -/

/-- CA_ALIGN has run on both sub-channels of a channel that sleeps. -/
def aligned (c : Ch) (s : State) : State :=
  forAll [scA c, scB c] recoveryAlign (dckStop c (onlyIf (!(s.alert.get c).slept) (forAll [scA c, scB c] sleepRanks) s))

/-- What the sleep of the ranks of a channel, where it is still to come, leaves alone. -/
@[simp] theorem ranksSleep_keeps {hid : Nat}
    (hw : 0x280090000000000000000000000000000CFC00000000 &&& hid = 0x280090000000000000000000000000000CFC00000000) (p : Bool)
    (c : Ch) (s : State) : (onlyIf p (forAll [scA c, scB c] sleepRanks) s).seen hid = s.seen hid :=
  onlyIf_keeps _ _ _ (forAll_keeps _ _ _ (sleepRanks_keeps hw))

theorem aligned_alert (c : Ch) (s : State) : (aligned c s).alert = s.alert := alert_of_seen (by simp [aligned])

theorem aligned_expiries (c : Ch) (s : State) : (aligned c s).evt.expiries = s.evt.expiries :=
  evt_expiries_of_seen (by simp [aligned])

/-- The phases that CA_ALIGN found are taken (R371). -/
def phased (c : Ch) (pa pb : BitVec 3) (s : State) : State :=
  updPhySc (scB c) (fun p => { p with caPhase := pb }) (updPhySc (scA c) (fun p => { p with caPhase := pa }) (dckStart c s))

theorem phased_get (c : Ch) (pa pb : BitVec 3) (s : State) :
    ((phased c pa pb s).phy.sc.get (scA c)).caPhase = pa ∧ ((phased c pa pb s).phy.sc.get (scB c)).caPhase = pb := by
  have hab := scA_ne_scB c
  unfold phased updPhySc
  dsimp only
  rw [vget_vmod_other _ _ hab, vget_vmod_same, vget_vmod_same]
  exact ⟨rfl, rfl⟩

/-- The ranks wake, one mode register of each is read, and the last window's writes are issued again (R371). -/
def rewritten (c : Ch) (s : State) : State :=
  forAll [scA c, scB c] rewriteWindow
    (forAll [scA c, scB c] (fun x s => toRanks x .mrr false s (.get .check)) (forAll [scA c, scB c] wakeRanks s))

/-- Service has resumed but for the end of the recovery itself. -/
def recovered (c : Ch) (pa pb : BitVec 3) (s : State) : State :=
  let t := (s.glb.now - (s.alert.get c).recFrom) / us 1
  sqSet rRasStatus (pack [(1, 14 + c.val)]) (failRecord c 1 0 t 1 (freezeCh c (rewritten c (phased c pa pb (aligned c s)))))

theorem recoveryDone_phases (pa pb : BitVec 3) (hr : (s.alert.get c).recovering = true) :
    recoveryDone c (some pa) (some pb) s = updAlert c (fun a => { a with recovering := false, slept := false, attempts := 0 })
      (resume c (recovered c pa pb s)) := by
  have goes : ¬ (!(s.alert.get c).recovering) = true := by simp [hr]
  unfold recoveryDone
  exact if_neg goes

theorem recoveryDone_fails {pa pb : Option (BitVec 3)} (hr : (s.alert.get c).recovering = true) (h : pa = none ∨ pb = none) :
    recoveryDone c pa pb s = recoveryFails c (aligned c s) := by
  have goes : ¬ (!(s.alert.get c).recovering) = true := by simp [hr]
  unfold recoveryDone
  rcases h with rfl | rfl
  · exact if_neg goes
  · cases pa <;> exact if_neg goes

theorem recovered_phases (c : Ch) (pa pb : BitVec 3) (s : State) :
    ((resume c (recovered c pa pb s)).phy.sc.get (scA c)).caPhase = pa
      ∧ ((resume c (recovered c pa pb s)).phy.sc.get (scB c)).caPhase = pb := by
  have e : (resume c (recovered c pa pb s)).phy = (phased c pa pb (aligned c s)).phy := phy_of_seen (by simp [recovered, rewritten])
  rw [e]
  exact phased_get ..

theorem recovered_status (c : Ch) (pa pb : BitVec 3) (s : State) :
    bitOf (regGet (resume c (recovered c pa pb s)) rRasStatus) (14 + c.val) = true := by
  rw [regGet_status_of_seen (s := recovered c pa pb s) (resume_keeps (by decide) ..)]
  exact sqSet_sets _ (by omega) _

/-- A recovery that fails takes the channel out of service, and counts an expiry where a watchdog has caused it (R371, R518). -/
theorem recoveryFails_counts (c : Ch) (s : State) :
    if (s.alert.get c).byWdog then countsExpiry 0x09 s (recoveryFails c s)
    else (recoveryFails c s).evt.expiries = s.evt.expiries := by
  rw [recoveryFails_eq]
  cases (s.alert.get c).byWdog with
  | true => exact countsExpiry_of_timeout (loseChannel_keeps (by decide) ..)
  | false => exact evt_expiries_of_seen (loseChannel_keeps (by decide) ..)

theorem recoveryFails_alert (c : Ch) (s : State) : (recoveryFails c s).alert.get c = (s.alert.get c).lost := by
  have told : ∀ p, (onlyIf p (timeout 0x09 4 4 false (subjSc (scA c) 0 0) 0) s).alert = s.alert := fun p =>
    alert_of_seen (by simp)
  rw [recoveryFails_eq, loseChannel_alert, told]

/-! ### The progress watchdog (R213, R214) -/

theorem busCmd_paced {n : Nat} {d : Cmd} {cap ledger : Bool} (h : Paced b s) : Paced b (busCmd x n d cap ledger s) := by
  have out : ∀ pins, Paced b (forAll pins (fun d s => emit (.cmd x n d) s) s) := fun pins =>
    forAll_inv (f := fun d s => emit (.cmd x n d) s) pins (fun _ _ h => h) h
  exact fun y => ((busPins_still ..).1 y).trans (out _ y)

theorem toRanks_paced {k : CmdKind} {lrs : Bool} {arg : CmdArg} (h : Paced b s) : Paced b (toRanks x k lrs s arg) := by
  unfold toRanks
  exact forAll_inv _ (fun _ _ h => forAll_inv _ (fun _ _ h => busCmd_paced h) h) h

end Sys2Proof.Machine
end

section
/-! SUPPORT. The commands of an alert, of a recovery and of the progress watchdog, each as its parts (R208 to R214, R371, R517). -/

namespace Sys2Proof.Machine

variable {b s t : State} {c : Ch} {x y : Sc}

theorem countsExpiry_of_expired {code : Nat}
    (e : t.seen 0x1fffffffbffffffffffffffffffffffffffffffffffff =
      (expired code s).seen 0x1fffffffbffffffffffffffffffffffffffffffffffff) : countsExpiry code s t := by
  rw [countsExpiry, evt_expiries_of_seen e, ← sat_eq_min]
  simp [expired, kget]

theorem updAlert_get (c : Ch) (f : Alert → Alert) (s : State) : (updAlert c f s).alert.get c = f (s.alert.get c) :=
  vget_vmod_same ..

theorem updAlert_sched (c : Ch) (f : Alert → Alert) (s : State) : (updAlert c f s).sched = s.sched := rfl

theorem updAlert_phy (c : Ch) (f : Alert → Alert) (s : State) : (updAlert c f s).phy = s.phy := rfl

theorem regGet_updAlert (c : Ch) (f : Alert → Alert) (s : State) (o : Nat) : regGet (updAlert c f s) o = regGet s o := rfl

theorem classified_low (c : Ch) (cls : Fin 4) (w : Nat) (aff : BitVec 2) (s : State) :
    ((classified c cls w aff s).alert.get c).low = (s.alert.get c).low := by
  unfold classified
  dsimp only
  rw [updAlert_get]

theorem released_get (c : Ch) (s : State) : (released c s).alert.get c = { s.alert.get c with low := false } := updAlert_get ..

/-- Nothing of an alert is left in the sub-channels of a channel that goes on. -/
theorem resume_clears (s : State) :
    ∀ x ∈ [scA c, scB c], ((resume c s).sched.get x).replay = .none ∧ ((resume c s).sched.get x).lost = [] := fun _ hx =>
  let ⟨rests, lost, _⟩ := resume_get s hx
  ⟨rests, lost⟩

theorem unfreeze_congr {p q : Sched} (h : p.replay = q.replay) : (unfreeze p).replay = (unfreeze q).replay := by
  unfold unfreeze
  rw [h]

/-! ### An alert is recognised (R208, R371) -/

/-- The channel takes note of an alert. -/
def alerting (c : Ch) (s : State) : State := updAlert c (fun a => { a with low := true, again := inAttempt s c }) (pprAlert c s)

theorem alertRecognised_freezes (hw : alertWatched s c = true) (hl : (s.alert.get c).low = false)
    (hr : (s.alert.get c).recovering = false) : alertRecognised c s = freezeCh c (alerting c s) := by
  have heard : ¬ (!alertWatched s c || (s.alert.get c).low) = true := by simp [hw, hl]
  have serves : ¬ (s.alert.get c).recovering = true := by simp [hr]
  unfold alertRecognised
  exact (if_neg heard).trans (if_neg serves)

theorem freezeCh_alerting_alert (c : Ch) (s : State) : (freezeCh c (alerting c s)).alert.get c =
    { s.alert.get c with low := true, again := inAttempt s c } := by
  rw [alert_of_seen (s := alerting c s) (freezeCh_keeps (by decide) ..)]
  exact vget_vmod_same ..

theorem alertRecognised_fails (hw : alertWatched s c = true) (hl : (s.alert.get c).low = false)
    (hr : (s.alert.get c).recovering = true) (hs : (s.alert.get c).slept = true) : alertRecognised c s = recoveryFails c s := by
  have heard : ¬ (!alertWatched s c || (s.alert.get c).low) = true := by simp [hw, hl]
  unfold alertRecognised
  dsimp only
  rw [if_neg heard, if_pos hr, hs]
  exact if_pos rfl

theorem alertRecognised_ignored (hr : (s.alert.get c).recovering = true) (hs : (s.alert.get c).slept = false) :
    alertRecognised c s = s := by
  unfold alertRecognised
  dsimp only
  rw [if_pos hr, hs]
  exact ite_self _

/-- A channel goes out of service where its recovery fails. -/
theorem recoveryFails_shows (c : Ch) (s : State) : ((recoveryFails c s).alert.get c).oos = true
    ∧ ((recoveryFails c s).alert.get c).recovering = false
    ∧ bitOf (regGet (recoveryFails c s) rRasStatus) (16 + c.val) = true := by
  refine ⟨?_, ?_, ?_⟩
  · rw [recoveryFails_alert, Alert.lost]
  · rw [recoveryFails_alert, Alert.lost]
  · rw [recoveryFails_eq]
    exact loseChannel_status ..

/-! ### ALERT_n stays low, and a recovery takes too long (R371, R517) -/

/-- An alert that stays low counts as a third attempt that has failed. -/
def heldLow (c : Ch) (s : State) : State :=
  updAlert c (fun a => { a with affected := if a.again && decide (a.affected ≠ 0) then a.affected else 3, attempts := 3 })
    (timeout 0x02 3 4 false (subjSc (scA c) 0 0) 0 s)

theorem alertHeldLow_fails (hl : (s.alert.get c).low = true) : alertHeldLow c s = replayFail c (heldLow c s) := by
  have low : ¬ (!(s.alert.get c).low) = true := by simp [hl]
  unfold alertHeldLow
  exact if_neg low

theorem heldLow_ctl (c : Ch) (s : State) : (heldLow c s).glb.ctl = s.glb.ctl := glb_ctl_of_seen (by simp [heldLow])

theorem recoveryTimeout_loses (hr : (s.alert.get c).recovering = true) :
    recoveryTimeout c s = loseChannel c (timeout 0x09 4 4 false (subjSc (scA c) 0 0) 0 s) := by
  have recovers : ¬ (!(s.alert.get c).recovering) = true := by simp [hr]
  unfold recoveryTimeout
  exact if_neg recovers

/-! ### The progress watchdog (R213, R214) -/

/-- The expiry is counted and reported. -/
def wdogCounted (x : Sc) (again : Bool) (s : State) : State :=
  sqSet (rSchStatus x) 0x10 (timeoutBy again 0x08 (if again then 3 else 1) 2 again (subjSc x 0 0) 0 s)

/-- The time of an expiry is kept. -/
def wdogTold (x : Sc) (s : State) : State := updSched x (fun q => { q with wdogLast := some s.glb.now }) s

/-- When the last command of a kind is over on the bus. -/
def lastOn (k : CmdKind → Bool) (f : Issued → Nat) (q : Sched) : Nat :=
  (q.hist.filter fun h => k h.cmd.kind).foldl (fun m h => max m (f h)) q.ck

/-- Bursts in progress complete, and every rank is precharged. -/
def rowsClose (x : Sc) (s : State) : State :=
  toRanks x .preAb true (updSched x (fun q => { q with ck := lastOn CmdKind.isCol (fun h =>
    h.ck + (if h.cmd.kind = .wr then tim s pCwl + tim s pWbl else tim s pCl + 8)) q }) s)

/-- The timing engine starts again with every bank idle. -/
def timingRestarts (x : Sc) (s : State) : State :=
  updSched x (fun q => { q with rows := [], hist := [], ck := lastOn (· = .preAb) Issued.ck q + tim s pRp }) s

/-- The progress watchdog has expired within the last 1 ms (R214). -/
def wdogAgain (s : State) (x : Sc) : Bool := (s.sched.get x).wdogLast.any fun t => decide (s.glb.now ≤ t + ms 1)

theorem watchdog_acts (hb : busOn s x = true) (hf : (s.sched.get x).replay ≠ .failed) (hw : hasWork s x = true) :
    watchdog x s =
      if wdogAgain s x then
        startRecovery (chOf x) (if x.val % 2 = 0 then 1 else 2) true (freezeCh (chOf x) (wdogTold x (wdogCounted x (wdogAgain s x) s)))
      else timingRestarts x (rowsClose x (wdogTold x (wdogCounted x (wdogAgain s x) s))) := by
  have stuck : ¬ (!busOn s x || decide ((s.sched.get x).replay = .failed) || !hasWork s x) = true := by simp [hb, hf, hw]
  unfold watchdog
  exact if_neg stuck

/-- The effect of a second expiry within 1 ms, which starts a recovery (R214). -/
def wdogRecovery (x : Sc) (f : BitVec 2) (s : State) : State :=
  startRecovery (chOf x) f true (freezeCh (chOf x) (wdogTold x (wdogCounted x true s)))

/-- The effect of any other expiry, which closes every row (R214). -/
def wdogRestart (x : Sc) (s : State) : State := timingRestarts x (rowsClose x (wdogTold x (wdogCounted x false s)))

theorem watchdog_again (hb : busOn s x = true) (hf : (s.sched.get x).replay ≠ .failed) (hw : hasWork s x = true)
    (ha : wdogAgain s x = true) : watchdog x s = wdogRecovery x (if x.val % 2 = 0 then 1 else 2) s := by
  rw [watchdog_acts hb hf hw, ha, if_pos rfl, wdogRecovery]

theorem watchdog_first (hb : busOn s x = true) (hf : (s.sched.get x).replay ≠ .failed) (hw : hasWork s x = true)
    (ha : wdogAgain s x = false) : watchdog x s = wdogRestart x s := by
  rw [watchdog_acts hb hf hw, ha, if_neg Bool.false_ne_true, wdogRestart]

theorem wdogCounted_now (x : Sc) (again : Bool) (s : State) : (wdogCounted x again s).glb.now = s.glb.now :=
  glb_now_of_seen (by simp [wdogCounted])

theorem wdogCounted_ctl (x : Sc) (again : Bool) (s : State) : (wdogCounted x again s).glb.ctl = s.glb.ctl :=
  glb_ctl_of_seen (by simp [wdogCounted])

theorem wdogTold_watched (x : Sc) (s : State) : Watched x (some s.glb.now) (wdogTold x s) := by
  simp [Watched, wdogTold, updSched]

theorem toRanks_watched {k : CmdKind} {lrs : Bool} {arg : CmdArg} {w : Option Nat} (h : Watched x w s) :
    Watched x w (toRanks x k lrs s arg) := (toRanks_paced (paced_refl s)).wdogLast.trans h

theorem wdogRecovery_watched (x : Sc) (f : BitVec 2) (s : State) : Watched x (some s.glb.now) (wdogRecovery x f s) := by
  have told := wdogTold_watched x (wdogCounted x true s)
  rw [wdogCounted_now] at told
  exact startRecovery_watched (freezeCh_watched told)

theorem wdogRecovery_counts (x : Sc) (f : BitVec 2) (s : State) : countsExpiry 0x08 s (wdogRecovery x f s) :=
  countsExpiry_of_timeoutBy (s := s) (always := true) (sev := 3) (src := 2) (esc := true) (subject := subjSc x 0 0) (detail := 0)
    (by simp [wdogRecovery, wdogTold, wdogCounted])

theorem wdogRecovery_recovering (x : Sc) (f : BitVec 2) (s : State) :
    ((wdogRecovery x f s).alert.get (chOf x)).recovering = decide (s.glb.ctl ≠ .bindOff) := by
  have ctl : (freezeCh (chOf x) (wdogTold x (wdogCounted x true s))).glb.ctl = s.glb.ctl :=
    (glb_ctl_of_seen (s := wdogCounted x true s) (by simp [wdogTold])).trans (wdogCounted_ctl ..)
  rw [wdogRecovery, startRecovery_alert, Alert.recover, ctl]

theorem wdogRestart_watched (x : Sc) (s : State) : Watched x (some s.glb.now) (wdogRestart x s) := by
  have told := wdogTold_watched x (wdogCounted x false s)
  rw [wdogCounted_now] at told
  unfold wdogRestart timingRestarts rowsClose
  exact updSched_watched (fun _ => rfl) (toRanks_watched (updSched_watched (fun _ => rfl) told))

theorem wdogRestart_counts (x : Sc) (s : State) : countsExpiry 0x08 s (wdogRestart x s) :=
  countsExpiry_of_timeoutBy (s := s) (always := false) (sev := 1) (src := 2) (esc := false) (subject := subjSc x 0 0) (detail := 0)
    (by simp [wdogRestart, timingRestarts, rowsClose, wdogTold, wdogCounted])

/-- Every row is closed, and the channel goes on. -/
theorem wdogRestart_closes (x : Sc) (s : State) : ((wdogRestart x s).sched.get x).rows = []
    ∧ ((wdogRestart x s).sched.get x).hist = [] ∧ (wdogRestart x s).alert = s.alert := by
  refine ⟨?_, ?_, alert_of_seen (by simp [wdogRestart, timingRestarts, rowsClose, wdogTold, wdogCounted])⟩
  · simp [wdogRestart, timingRestarts, updSched]
  · simp [wdogRestart, timingRestarts, updSched]

end Sys2Proof.Machine

namespace Sys2Proof

open Sys2Proof.Machine

variable {s : State} {c : Ch} {x : Sc}

/-! ### The alert (R208 to R212) -/

theorem alert_freezes (hw : alertWatched s c = true) (hl : (s.alert.get c).low = false)
    (hr : (s.alert.get c).recovering = false) :
    completes (.alertRecognised c) s fun t => (t.alert.get c).low = true ∧ (t.alert.get c).again = inAttempt s c
      ∧ ∀ x ∈ [scA c, scB c], t.sched.get x = freeze (alerting c (begin_ s)) x (s.sched.get x) := by
  refine completes_of_run (f := alertRecognised c) rfl ?_
  rw [alertRecognised_freezes (s := begin_ s) hw hl hr, freezeCh_alerting_alert]
  exact ⟨rfl, rfl, fun x hx => freezeCh_get _ hx⟩

theorem alert_endsRecovery (hw : alertWatched s c = true) (hl : (s.alert.get c).low = false)
    (hr : (s.alert.get c).recovering = true) (hs : (s.alert.get c).slept = true) :
    completes (.alertRecognised c) s fun t => (t.alert.get c).oos = true ∧ (t.alert.get c).recovering = false
      ∧ bitOf (regGet t 0x14030) (16 + c.val) = true := by
  refine completes_of_run (f := alertRecognised c) rfl ?_
  rw [alertRecognised_fails (s := begin_ s) hw hl hr hs]
  exact recoveryFails_shows ..

theorem alert_ignored (hr : (s.alert.get c).recovering = true) (hs : (s.alert.get c).slept = false) :
    completes (.alertRecognised c) s fun t => t = begin_ s := by
  refine completes_of_run (f := alertRecognised c) rfl ?_
  exact alertRecognised_ignored (s := begin_ s) hr hs

/-- The third attempt of a replay fails. -/
theorem release_recovers {w : BitVec 16} (hc : s.glb.ctl ≠ .bindOff) (hl : (s.alert.get c).low = true)
    (ha : (s.alert.get c).again = true) (hn : 3 ≤ (s.alert.get c).attempts) (hw : alertClass s w.toNat ≠ 3) :
    completes (.alertRelease c w) s fun t => (t.alert.get c).recovering = true ∧ (t.alert.get c).low = false
      ∧ countsExpiry 0x01 s t ∧ ∀ x ∈ [scA c, scB c], (t.sched.get x).replay = .failed := by
  refine completes_of_run (f := alertRelease c w.toNat) rfl ?_
  rw [alertRelease_fails (s := begin_ s) hl ha hn hw]
  obtain ⟨recovering, low, failed⟩ := replayFail_recovers (c := c) (s := expired 0x01 (released c (begin_ s))) hc
  exact ⟨recovering, low, countsExpiry_of_expired (s := released c (begin_ s)) (replayFail_keeps (by decide) ..), failed⟩

theorem release_replays {w : BitVec 16} (hl : (s.alert.get c).low = true) (ha : (s.alert.get c).again = false)
    (hw : alertClass s w.toNat ≠ 3) (hA : affects s (alertClass s w.toNat) (scA c) = true) :
    completes (.alertRelease c w) s fun t => (t.alert.get c).low = false ∧ (t.alert.get c).cls = alertClass s w.toNat
      ∧ (t.alert.get c).attempts = 1 ∧ (t.alert.get c).affected.getLsbD 0 = true
      ∧ (t.sched.get (scA c)).replay.runs = true ∧ (t.sched.get (scA c)).attempts = 1 := by
  have again : ((released c (begin_ s)).alert.get c).again = false := (congrArg Alert.again (released_get ..)).trans ha
  have low : ((released c (begin_ s)).alert.get c).low = false := congrArg Alert.low (released_get ..)
  refine completes_of_run (f := alertRelease c w.toNat) rfl ?_
  rw [alertRelease_replays (s := begin_ s) hl ha hw]
  obtain ⟨record, runs, attempts⟩ := startReplay_hits (w := w.toNat) (cls := alertClass (begin_ s) w.toNat) again hA
  have noted : (classified c (alertClass (begin_ s) w.toNat) w.toNat (hitBy (released c (begin_ s)) c (alertClass (begin_ s) w.toNat))
      (released c (begin_ s))).alert.get c = _ := vget_vmod_same ..
  rw [record, noted]
  exact ⟨low, rfl, rfl, (hitBy_bit ..).trans hA, runs, attempts⟩

theorem release_spares {w : BitVec 16} (hl : (s.alert.get c).low = true) (ha : (s.alert.get c).again = false)
    (hw : alertClass s w.toNat ≠ 3) (hA : affects s (alertClass s w.toNat) (scA c) = false)
    (hB : affects s (alertClass s w.toNat) (scB c) = false) :
    completes (.alertRelease c w) s fun t => (t.alert.get c).low = false ∧ (t.alert.get c).attempts = 0
      ∧ ∀ x ∈ [scA c, scB c], (t.sched.get x).replay = .none ∧ (t.sched.get x).lost = [] := by
  have again : ((released c (begin_ s)).alert.get c).again = false := (congrArg Alert.again (released_get ..)).trans ha
  have low : ((released c (begin_ s)).alert.get c).low = false := congrArg Alert.low (released_get ..)
  have kept : ∀ cls w aff u, ((resume c (replayRecord c (classified c cls w aff u))).alert.get c).low = (u.alert.get c).low := by
    intro cls w aff u
    rw [alert_of_seen (s := classified c cls w aff u) (by simp), classified_low]
  refine completes_of_run (f := alertRelease c w.toNat) rfl ?_
  rw [alertRelease_replays (s := begin_ s) hl ha hw, startReplay_misses (cls := alertClass (begin_ s) w.toNat) again hA hB,
    updAlert_get, updAlert_sched]
  refine ⟨?_, rfl, resume_clears _⟩
  dsimp only
  rw [kept, low]

theorem release_goesOn {w : BitVec 16} (hl : (s.alert.get c).low = true) (hw : alertClass s w.toNat = 3)
    (hi : interrupted s c = false) :
    completes (.alertRelease c w) s fun t => (t.alert.get c).low = false
      ∧ ∀ x ∈ [scA c, scB c], (t.sched.get x).replay = .none ∧ (t.sched.get x).lost = [] := by
  have free : ¬ interrupted (backedOff c (begin_ s)) c = true := by
    rw [backedOff_interrupted]
    exact ne_true_of_eq_false hi
  refine completes_of_run (f := alertRelease c w.toNat) rfl ?_
  rw [alertRelease_backsOff (s := begin_ s) hl hw, if_neg free]
  refine ⟨?_, resume_clears _⟩
  rw [alert_of_seen (s := backedOff c (begin_ s)) (resume_keeps (by decide) ..), backedOff_alert]

theorem release_unfreezes {w : BitVec 16} (hl : (s.alert.get c).low = true) (hw : alertClass s w.toNat = 3)
    (hi : interrupted s c = true) :
    completes (.alertRelease c w) s fun t => (t.alert.get c).low = false
      ∧ ∀ x ∈ [scA c, scB c], (t.sched.get x).replay = (unfreeze (s.sched.get x)).replay := by
  have held : interrupted (backedOff c (begin_ s)) c = true := (backedOff_interrupted ..).trans hi
  refine completes_of_run (f := alertRelease c w.toNat) rfl ?_
  rw [alertRelease_backsOff (s := begin_ s) hl hw, if_pos held]
  refine ⟨?_, fun x hx => ?_⟩
  · rw [alert_of_seen (s := backedOff c (begin_ s)) (by simp), backedOff_alert]
  · rw [unfrozen_replay _ hx]
    exact unfreeze_congr (backedOff_replay c x (begin_ s))

theorem attempt_ends (hl : (s.alert.get c).low = false) (ho : ∀ x ∈ [scA c, scB c], (s.sched.get x).replay.over = true)
    (hr : (s.sched.get (scA c)).replay.runs = true ∨ (s.sched.get (scB c)).replay.runs = true) :
    completes (.replayAttemptEnd c) s fun t => bitOf (regGet t 0x14030) (12 + c.val) = true
      ∧ ∀ x ∈ [scA c, scB c], (t.sched.get x).replay = .none ∧ (t.sched.get x).lost = []
        ∧ (t.sched.get x).replayEnd = if (s.sched.get x).replay.runs then (s.sched.get x).ck else (s.sched.get x).replayEnd := by
  refine completes_of_run (f := replayAttemptEnd c) rfl ?_
  rw [replayAttemptEnd_ends (s := begin_ s) hl ho hr]
  refine ⟨replayAttemptEnd_status .., fun x hx => ?_⟩
  obtain ⟨rests, lost, ended⟩ := resume_get (replayRecord c (sqSet rRasStatus (pack [(1, 12 + c.val)]) (attemptsEnd c (begin_ s)))) hx
  have kept : (replayRecord c (sqSet rRasStatus (pack [(1, 12 + c.val)]) (attemptsEnd c (begin_ s)))).sched =
      (attemptsEnd c (begin_ s)).sched := sched_of_seen (by simp)
  rw [kept, attemptsEnd_get _ hx] at ended
  exact ⟨rests, lost, ended⟩

theorem heldLow_recovers (hl : (s.alert.get c).low = true) (hc : s.glb.ctl ≠ .bindOff) :
    completes (.alertHeldLowTimeout c) s fun t => countsExpiry 0x02 s t ∧ (t.alert.get c).recovering = true
      ∧ (t.alert.get c).low = false ∧ ∀ x ∈ [scA c, scB c], (t.sched.get x).replay = .failed := by
  have counted := countsExpiry_of_timeout (s := begin_ s) (code := 0x02) (sev := 3) (src := 4) (esc := false)
    (subject := subjSc (scA c) 0 0) (detail := 0) (t := replayFail c (heldLow c (begin_ s))) (by simp [heldLow])
  refine completes_of_run (f := alertHeldLow c) rfl ?_
  rw [alertHeldLow_fails (s := begin_ s) hl]
  exact ⟨counted, replayFail_recovers (by rwa [heldLow_ctl])⟩

/-! ### The end of a recovery (R371, R372) -/

theorem recovery_resumes (pa pb : BitVec 3) (hr : (s.alert.get c).recovering = true) :
    completes (.channelRecoveryDone ⟨c, some pa, some pb⟩) s fun t => (t.phy.sc.get (scA c)).caPhase = pa
      ∧ (t.phy.sc.get (scB c)).caPhase = pb ∧ (t.alert.get c).recovering = false ∧ (t.alert.get c).attempts = 0
      ∧ bitOf (regGet t 0x14030) (14 + c.val) = true
      ∧ ∀ x ∈ [scA c, scB c], (t.sched.get x).replay = .none ∧ (t.sched.get x).lost = [] := by
  obtain ⟨phaseA, phaseB⟩ := recovered_phases c pa pb (begin_ s)
  refine completes_of_run (f := recoveryDone c (some pa) (some pb)) rfl ?_
  rw [recoveryDone_phases (s := begin_ s) pa pb hr, updAlert_get, updAlert_sched, updAlert_phy, regGet_updAlert]
  exact ⟨phaseA, phaseB, rfl, rfl, recovered_status .., resume_clears _⟩

theorem recovery_fails {pa pb : Option (BitVec 3)} (hr : (s.alert.get c).recovering = true) (h : pa = none ∨ pb = none) :
    completes (.channelRecoveryDone ⟨c, pa, pb⟩) s fun t => (t.alert.get c).oos = true ∧ (t.alert.get c).recovering = false
      ∧ bitOf (regGet t 0x14030) (16 + c.val) = true
      ∧ if (s.alert.get c).byWdog then countsExpiry 0x09 s t else t.evt.expiries = s.evt.expiries := by
  have counts := recoveryFails_counts c (aligned c (begin_ s))
  rw [countsExpiry, aligned_alert, aligned_expiries] at counts
  obtain ⟨lost, ended, shown⟩ := recoveryFails_shows c (aligned c (begin_ s))
  refine completes_of_run (f := recoveryDone c pa pb) rfl ?_
  rw [recoveryDone_fails (s := begin_ s) hr h]
  exact ⟨lost, ended, shown, counts⟩

theorem recovery_timesOut (hr : (s.alert.get c).recovering = true) :
    completes (.channelRecoveryTimeout c) s fun t => countsExpiry 0x09 s t ∧ (t.alert.get c).oos = true
      ∧ (t.alert.get c).recovering = false ∧ bitOf (regGet t 0x14030) (16 + c.val) = true
      ∧ ∀ x ∈ [scA c, scB c], NoEntries x t := by
  refine completes_of_run (f := recoveryTimeout c) rfl ?_
  rw [recoveryTimeout_loses (s := begin_ s) hr, loseChannel_alert]
  exact ⟨countsExpiry_of_timeout (s := begin_ s) (loseChannel_keeps (by decide) ..), rfl, rfl, loseChannel_status ..,
    fun _ hx => loseChannel_noEntries _ hx⟩

/-! ### The progress watchdog (R213, R214) -/

theorem watchdog_expires (hb : busOn s x = true) (hf : (s.sched.get x).replay ≠ .failed) (hw : hasWork s x = true) :
    completes (.progressWatchdogExpiry x) s fun t => countsExpiry 0x08 s t ∧ Watched x (some s.glb.now) t
      ∧ if wdogAgain s x then (t.alert.get (chOf x)).recovering = decide (s.glb.ctl ≠ .bindOff)
        else (t.sched.get x).rows = [] ∧ (t.sched.get x).hist = [] ∧ t.alert = s.alert := by
  refine completes_of_run (f := watchdog x) rfl ?_
  cases again : wdogAgain s x with
  | true =>
    rw [watchdog_again (s := begin_ s) hb hf hw again, if_pos rfl]
    exact ⟨wdogRecovery_counts x _ (begin_ s), wdogRecovery_watched x _ (begin_ s), wdogRecovery_recovering x _ (begin_ s)⟩
  | false =>
    rw [watchdog_first (s := begin_ s) hb hf hw again, if_neg Bool.false_ne_true]
    exact ⟨wdogRestart_counts x (begin_ s), wdogRestart_watched x (begin_ s), wdogRestart_closes x (begin_ s)⟩

/-- Settles O25, command by command. -/
theorem alertsAndReplay : Obligations.AlertsAndReplay := by
  refine ⟨fun s c hw hl hr => ?_, fun _ _ hw hl hr hs => alert_endsRecovery hw hl hr hs, fun _ _ hr hs => alert_ignored hr hs,
    fun _ _ _ hc hl ha hn hw => release_recovers hc hl ha hn hw, fun _ _ _ hl ha hw hA => release_replays hl ha hw hA,
    fun _ _ _ hl ha hw hA hB => release_spares hl ha hw hA hB, fun _ _ _ hl _ hw hi => release_goesOn hl hw hi,
    fun _ _ _ hl hw hi => release_unfreezes hl hw hi, fun _ _ hl ho hr => attempt_ends hl ho hr, fun _ _ hl hc => heldLow_recovers hl hc,
    fun _ _ pa pb hr => recovery_resumes pa pb hr, fun _ _ _ _ hr h => recovery_fails hr h, fun _ _ hr => recovery_timesOut hr,
    fun _ _ hb hf hw => watchdog_expires hb hf hw⟩
  obtain ⟨t, ht, low, again, frozen⟩ := alert_freezes hw hl hr
  refine ⟨t, ht, low, again, fun x hx => ?_⟩
  rw [frozen x hx]
  exact ⟨rfl, rfl, rfl, rfl⟩

end Sys2Proof
end

section
/-! SUPPORT. The refresh calendar of a unit: what a slot, a postponement and an epoch leave of its record (R231 to R239,
R251 to R253). -/

namespace Sys2Proof.Machine

variable {s t : State} {c : Ch} {x : Sc} {u : Nat}

/-! ### The record of a unit -/

theorem refUnit_of_units (h : t.ref.units = s.ref.units) (x : Sc) (u : Nat) : refUnit t x u = refUnit s x u := by
  rw [refUnit, h, refUnit]

theorem refUnit_setRefUnit (x : Sc) (u : Nat) (r : RefUnit) (s : State) : refUnit (setRefUnit x u r s) x u = r := by
  simp [refUnit, setRefUnit, updRef, kget]

/-- A record that was written stands under what leaves the records alone. -/
theorem refUnit_written {r : RefUnit} (e : t.seen 0x1FFFFFFFFFFFFFFFFFFFFFFFFFFFFFFFFFFFF7FFFFFFF =
    (setRefUnit x u r s).seen 0x1FFFFFFFFFFFFFFFFFFFFFFFFFFFFFFFFFFFF7FFFFFFF) : refUnit t x u = r :=
  (refUnit_of_units (ref_units_of_seen e) x u).trans (refUnit_setRefUnit ..)

theorem regFld_refCfg_of_seen (e : t.seen 0x1FFBFFFFFFFFFFFFFFFFFFFFFFFFFFFFFFFFFFFFFFFFF =
    s.seen 0x1FFBFFFFFFFFFFFFFFFFFFFFFFFFFFFFFFFFFFFFFFFFF) (hi lo : Nat) : regFld t 0x10000 hi lo = regFld s 0x10000 hi lo := by
  rw [regFld, regGet_of_seen e 0x10000 (by rw [regGroup_10000]; decide), regFld]

theorem lPost_of_seen (e : t.seen 0x1FFBFFFFFFFFFFFFFFFFFFFFFFFFFFFFFFFFFFFFFFFFF =
    s.seen 0x1FFBFFFFFFFFFFFFFFFFFFFFFFFFFFFFFFFFFFFFFFFFF) : lPost t = lPost s := by
  rw [lPost, regFld_refCfg_of_seen e, lPost]

/-- The emergency state follows the debt, and nothing else of the unit changes (R236). -/
theorem judgeEmergency_unit (x : Sc) (u : Nat) (s : State) : refUnit (judgeEmergency x u s) x u =
    { refUnit s x u with emergency := decide ((lPost s : Int) ≤ (refUnit s x u).debt) } := by
  unfold judgeEmergency
  dsimp only
  split
  · next h => rw [h]
  · split
    · exact refUnit_written (s := s) (by simp)
    · exact refUnit_setRefUnit ..

/-! ### The period of a slot (R228, R229, R239) -/

theorem regGroup_pRefi (g : Gear) : regGroup (0xE010 + 0x200 * g.val + 4 * pRefi) = 11 := by
  revert g
  decide +kernel

/-- The period depends on the gear, the configured timing, the refresh mode and doubled refresh only. -/
theorem slotPeriod_of_seen (e : t.seen 0x1FFBFBFFFFFFFFFFFFFFFFFFFFFFFFFFFFFFEFFFFFFF7 =
    s.seen 0x1FFBFBFFFFFFFFFFFFFFFFFFFFFFFFFFFFFFEFFFFFFF7) (c : Ch) : slotPeriod t c = slotPeriod s c := by
  have gear : t.glb.gear = s.glb.gear := glb_gear_of_seen (seen_mono (by decide) e)
  have doubled : t.ref.doubled = s.ref.doubled := ref_doubled_of_seen (seen_mono (by decide) e)
  have refi : tim t pRefi = tim s pRefi := by
    rw [tim, timOf, gear, regGet_of_seen e _ (by rw [regGroup_pRefi]; decide), tim, timOf]
  rw [slotPeriod, refMode, regFld_refCfg_of_seen (seen_mono (by decide) e), refi, doubled, slotPeriod, refMode]

/-! ### A slot (R231, R233, R236, R239) -/

theorem judgeDoubled_doubled (c : Ch) (s : State) : (judgeDoubled c s).ref.doubled.get c = doubledNext s c :=
  vget_vset_same ..

/-- A unit after its slot, before its emergency state is judged. -/
def RefUnit.slotted (r : RefUnit) (period : Nat) : RefUnit :=
  { r with debt := r.debt + 1, next := r.next + period, gate := if 1 ≤ r.debt + 1 then some r.next else r.gate }

/-- The decision on doubled refresh is taken and the slot is counted. -/
def slotCounted (x : Sc) (u : Nat) (s : State) : State :=
  setRefUnit x u ((refUnit s x u).slotted (slotPeriod (judgeDoubled (chOf x) s) (chOf x))) (judgeDoubled (chOf x) s)

/-- A slot that counts, whether or not it asks for a set. -/
theorem refreshSlot_counts (hs : slotsCount s x u = true) (hp : s.pwr.sc.get x ≠ .powerDown) : ∃ (p : Bool) (o : MntOp),
    refreshSlot x u s = preempt x (judgeEmergency x u (onlyIf p (mntAdd x 0 o) (slotCounted x u s))) := by
  have counts : ¬ (!slotsCount s x u) = true := by simp [hs]
  have unit : refUnit (judgeDoubled (chOf x) s) x u = refUnit s x u :=
    refUnit_of_units (ref_units_of_seen (judgeDoubled_keeps (by decide) ..)) x u
  refine ⟨decide (1 ≤ (refUnit s x u).debt + 1) && !(((slotCounted x u s).sched.get x).maint.get 0).any (MntCmd.isSet u),
    setWork (slotCounted x u s) u, ?_⟩
  unfold refreshSlot
  rw [if_neg counts, powerUp_idle hp]
  dsimp only
  rw [unit]
  rfl

/-- What follows the count of a slot changes the unit in its emergency state alone, and leaves its period. -/
theorem slotCounted_then (p : Bool) (o : MntOp) (x : Sc) (u : Nat) (s : State)
    (ht : t = preempt x (judgeEmergency x u (onlyIf p (mntAdd x 0 o) (slotCounted x u s)))) :
    refUnit t x u = { (refUnit s x u).slotted (slotPeriod t (chOf x)) with
      emergency := decide ((lPost s : Int) ≤ (refUnit s x u).debt + 1) } := by
  have period : slotPeriod t (chOf x) = slotPeriod (judgeDoubled (chOf x) s) (chOf x) := by
    rw [ht]
    exact slotPeriod_of_seen (by simp [slotCounted]) _
  have limit : lPost (onlyIf p (mntAdd x 0 o) (slotCounted x u s)) = lPost s := lPost_of_seen (by simp [slotCounted])
  have asked : refUnit (onlyIf p (mntAdd x 0 o) (slotCounted x u s)) x u =
      (refUnit s x u).slotted (slotPeriod (judgeDoubled (chOf x) s) (chOf x)) :=
    refUnit_written (s := judgeDoubled (chOf x) s) (by simp [slotCounted])
  rw [period, ht, refUnit_of_units (ref_units_of_seen (preempt_keeps (by decide) ..)), judgeEmergency_unit, limit, asked]
  rfl

theorem refreshSlot_unit (hs : slotsCount s x u = true) (hp : s.pwr.sc.get x ≠ .powerDown) :
    refUnit (refreshSlot x u s) x u = { (refUnit s x u).slotted (slotPeriod (refreshSlot x u s) (chOf x)) with
      emergency := decide ((lPost s : Int) ≤ (refUnit s x u).debt + 1) } := by
  obtain ⟨p, o, e⟩ := refreshSlot_counts hs hp
  exact slotCounted_then p o x u s e

theorem refreshSlot_doubled (hs : slotsCount s x u = true) (hp : s.pwr.sc.get x ≠ .powerDown) :
    (refreshSlot x u s).ref.doubled.get (chOf x) = doubledNext s (chOf x) := by
  obtain ⟨p, o, e⟩ := refreshSlot_counts hs hp
  have kept : (refreshSlot x u s).ref.doubled = (judgeDoubled (chOf x) s).ref.doubled := by
    rw [e]
    exact ref_doubled_of_seen (by simp [slotCounted])
  rw [kept, judgeDoubled_doubled]

/-! ### A postponement (R235) -/

theorem refreshPostpone_opens (hg : (refUnit s x u).gate ≠ none) (he : (refUnit s x u).emergency = false) :
    refreshPostpone x u s = bump (rRef x 1) (setRefUnit x u { refUnit s x u with gate := none } s) := by
  have closed : ¬ ((refUnit s x u).gate.isNone || (refUnit s x u).emergency) = true := by simp [hg, he]
  unfold refreshPostpone
  exact if_neg closed

/-! ### An epoch (R251 to R253, R258) -/

/-- The unit's record at an advance of its epoch. -/
def advanced (s : State) (x : Sc) (u : Nat) : RefUnit :=
  { refUnit s x u with
    epoch := (refUnit s x u).epoch + 1, passCount := (refUnit s x u).passCount - nPass s, rc := regGet s 0x10004 }

theorem epochAdvance_advances (hc : calendar s x u = true) (hn : nPass s ≤ (refUnit s x u).passCount) :
    epochAdvance x u s = sweepGroups x u (dropLedger x u (setRefUnit x u (advanced s x u) s)) := by
  have due : ¬ (!calendar s x u || decide ((refUnit s x u).passCount < nPass s)) = true := by simp [hc, hn]
  unfold epochAdvance
  exact if_neg due

theorem dropped_posted (x : Sc) (u : Nat) (s : State) :
    ∀ p ∈ (sweepGroups x u (dropLedger x u s)).ref.posted, p.1 / 2 ^ 18 ≠ unitKey x u := by
  intro p hp
  have kept := (List.mem_filter.1 (show p ∈ s.ref.posted.filter _ from hp)).2
  simpa using kept

theorem dropped_cache (x : Sc) (u : Nat) (s : State) : (sweepGroups x u (dropLedger x u s)).ref.cache =
    s.ref.cache.filter fun e => decide (e.1 / 2 ^ 18 ≠ unitKey x u) :=
  List.filter_congr fun _ _ => (decide_not ..).symm

end Sys2Proof.Machine
end

section
/-! SUPPORT. The deadline of a back-off request, and polls of mode register 4 (R239, R240, R242, R483, R492). -/

namespace Sys2Proof.Machine

variable {s t : State} {c : Ch} {x y : Sc} {u : Nat} {o : MntOp}

/-! ### The deadline of a back-off request (R242) -/

theorem aboOwed_of_abo (h : t.ref.abo = s.ref.abo) (c : Ch) : aboOwed t c = aboOwed s c := by
  rw [aboOwed, h, aboOwed]

/-- The deadline of the oldest request whose deadline was still to come has passed. -/
def deadlinePassed (c : Ch) (s : State) : State := updRef (fun a => { a with abo := vmod a.abo c aboPass }) s

/-- Host ACTs are held while an RFM is owed. -/
def actsHeld (c : Ch) (s : State) : State :=
  onlyIf (decide (0 < aboOwed s c)) (updRef fun a => { a with aboLate := vset a.aboLate c true }) s

theorem actsHeld_abo (c : Ch) (s : State) : (actsHeld c s).ref.abo = s.ref.abo := ref_abo_of_seen (by simp [actsHeld])

theorem actsHeld_late (c : Ch) (s : State) :
    (actsHeld c s).ref.aboLate.get c = (s.ref.aboLate.get c || decide (0 < aboOwed s c)) := by
  unfold actsHeld onlyIf
  split
  · next owed => simp [updRef, owed]
  · next none => simp [none]

theorem backoffDeadline_passes {r : AboReq} (h : (s.ref.abo.get c).find? (fun r => !r.passed) = some r) :
    backoffDeadline c s = if r.begun then actsHeld c (deadlinePassed c s)
      else timeout 0x03 1 2 false (subjSc (scA c) 0 0) 0 (actsHeld c (deadlinePassed c s)) := by
  have waits : (s.ref.abo.get c).any (fun r => !r.passed) = true :=
    List.any_eq_true.2 ⟨r, List.mem_of_find?_eq_some h, List.find?_some (p := fun r : AboReq => !r.passed) h⟩
  unfold backoffDeadline
  rw [h, waits]
  change (if (!r.begun) = true then _ else _) = _
  cases r.begun
  · rfl
  · rfl

theorem backoffDeadline_ref {r : AboReq} (h : (s.ref.abo.get c).find? (fun r => !r.passed) = some r) :
    (backoffDeadline c s).ref = (actsHeld c (deadlinePassed c s)).ref := by
  rw [backoffDeadline_passes h]
  split
  · rfl
  · exact ref_of_seen (timeout_keeps (by decide) ..)

/-! ### A poll of mode register 4 (R239, R240) -/

theorem chOf_scs (hx : x ∈ [scA c, scB c]) : chOf x = c := by
  revert c x
  decide

/-- The refresh requester of a sub-channel has a command to put out. -/
def Asked (x : Sc) (o : MntOp) (s : State) : Prop := ((s.sched.get x).maint.get 0).any (fun m => decide (m.op = o)) = true

theorem mntAdd_asked (x : Sc) (o : MntOp) (s : State) : Asked x o (mntAdd x 0 o s) := by
  simp [Asked, mntAdd, mntAddFor, updSched]

theorem mntAdd_keeps_asked {o' : MntOp} (h : Asked x o s) : Asked x o (mntAdd y 0 o' s) := by
  refine updSched_has (p := fun q => (q.maint.get 0).any (fun m => decide (m.op = o)) = true) (fun q hq => ?_) h
  rw [vget_vmod_same, List.any_append, hq, Bool.true_or]

/-- The read of mode register 4 of a unit. -/
def mr4Read (s : State) (u : Nat) : MntOp :=
  .mode .mrr (BitVec.ofNat 2 (u / nLr s)) (BitVec.ofNat 4 (u % nLr s)) (.get (.addr 4))

/-- The units of a channel in service. -/
def unitsLive (s : State) (c : Ch) : List Nat := (List.range (nUnits s)).filter fun u => csLive s c (u / nLr s)

/-- A read is put up unless it is asked for already. -/
def askMr4 (x : Sc) (u : Nat) (s : State) : State :=
  if ((s.sched.get x).maint.get 0).any fun m => m.op = mr4Read s u then s else mntAdd x 0 (mr4Read s u) s

theorem mr4Reads_eq (x : Sc) (s : State) : mr4Reads x s = forAll (unitsLive s (chOf x)) (askMr4 x) s := rfl

theorem askMr4_keeps_asked (h : Asked x o s) : Asked x o (askMr4 y u s) := by
  unfold askMr4
  split
  · exact h
  · exact mntAdd_keeps_asked h

theorem askMr4_asks (x : Sc) (u : Nat) (s : State) : Asked x (mr4Read s u) (askMr4 x u s) := by
  unfold askMr4
  split
  · next asked => exact asked
  · exact mntAdd_asked ..

theorem askMr4_regs (x : Sc) (u : Nat) (s : State) : (askMr4 x u s).regs = s.regs := by
  unfold askMr4
  split <;> rfl

theorem nLr_of_regs (h : t.regs = s.regs) : nLr t = nLr s := by
  rw [nLr, lrLog, regFld, regGet_congr h, nLr, lrLog, regFld]

theorem nUnits_of_regs (h : t.regs = s.regs) : nUnits t = nUnits s := by
  rw [nUnits, nLr_of_regs h, nCs, csLog, regFld, regGet_congr h, nUnits, nCs, csLog, regFld]

theorem mr4Read_of_regs (h : t.regs = s.regs) (u : Nat) : mr4Read t u = mr4Read s u := by
  rw [mr4Read, nLr_of_regs h, mr4Read]

theorem unitsLive_mr4Reads (c : Ch) (x : Sc) (s : State) : unitsLive (mr4Reads x s) c = unitsLive s c := by
  have regs : (mr4Reads x s).regs = s.regs := regs_of_seen (mr4Reads_keeps (by decide) ..)
  have glb : (mr4Reads x s).glb = s.glb := glb_of_seen (mr4Reads_keeps (by decide) ..)
  have alert : (mr4Reads x s).alert = s.alert := alert_of_seen (mr4Reads_keeps (by decide) ..)
  simp only [unitsLive, nUnits_of_regs regs, nLr_of_regs regs, csLive, chLive, glb, alert]

/-- A poll asks for a read of every unit in service (R240). -/
theorem mr4Reads_asks (hu : u ∈ unitsLive s (chOf x)) : Asked x (mr4Read s u) (mr4Reads x s) := by
  rw [mr4Reads_eq]
  refine forAll_reach (P := fun t => t.regs = s.regs) (Q := Asked x (mr4Read s u)) hu
    (fun a t h => (askMr4_regs x a t).trans h) (fun _ _ => askMr4_keeps_asked) (fun t h => ?_) rfl
  rw [← mr4Read_of_regs h]
  exact askMr4_asks x u t

theorem mr4Reads_keeps_asked (h : Asked x o s) : Asked x o (mr4Reads y s) := by
  rw [mr4Reads_eq]
  exact forAll_inv (P := Asked x o) _ (fun _ _ => askMr4_keeps_asked) h

/-- Both sub-channels of a channel are asked, and the field that is read is kept (R240). -/
def mr4Taken (c : Ch) (r : Mr4Poll) (s : State) : State :=
  updRef (fun a => { a with mr4 := vset a.mr4 c (mr4Top r.slot0 r.slot1) }) (mr4Reads (scB c) (mr4Reads (scA c) s))

theorem mr4Taken_ref (c : Ch) (r : Mr4Poll) (s : State) :
    (mr4Taken c r s).ref = { s.ref with mr4 := vset s.ref.mr4 c (mr4Top r.slot0 r.slot1) } := by
  have kept : (mr4Reads (scB c) (mr4Reads (scA c) s)).ref = s.ref := ref_of_seen (by simp)
  unfold mr4Taken updRef
  dsimp only
  rw [kept]

theorem mr4Taken_asks (r : Mr4Poll) (hu : u ∈ unitsLive s c) (hx : x ∈ [scA c, scB c]) :
    Asked x (mr4Read s u) (mr4Taken c r s) := by
  have regs : (mr4Reads (scA c) s).regs = s.regs := regs_of_seen (mr4Reads_keeps (by decide) ..)
  have live : u ∈ unitsLive s (chOf x) := by rwa [chOf_scs hx]
  change Asked x _ (mr4Reads (scB c) (mr4Reads (scA c) s))
  rcases mem_scs.1 hx with rfl | rfl
  · exact mr4Reads_keeps_asked (mr4Reads_asks live)
  · rw [← mr4Read_of_regs regs]
    exact mr4Reads_asks (by rwa [unitsLive_mr4Reads])

theorem mr4Top_above {a b : Mr4Rate} (h : a = .above2 ∨ b = .above2) : mr4Top a b = .above2 := by
  rcases h with rfl | rfl
  · rfl
  · cases a <;> rfl

theorem becomeCritical_critical (r : Reading) (s : State) : (becomeCritical r s).pwr.critical = true := by
  have told : ∀ u, (criticalRecord false r (deliverU (tFloor u) u)).pwr = u.pwr := fun u => pwr_of_seen (by simp)
  unfold becomeCritical
  split
  · next h => exact h
  · exact congrArg Pwr.critical (told _)

/-- A field above 2× is critical (R240). -/
def mr4Judged (c : Ch) (r : Mr4Poll) (s : State) : State :=
  if mr4Top r.slot0 r.slot1 = .above2 then becomeCritical ⟨0, c.val, if r.slot0 = .above2 then 0 else 1, 3⟩ s else s

theorem mr4Judged_ref_sched (c : Ch) (r : Mr4Poll) (s : State) :
    (mr4Judged c r s).ref = s.ref ∧ (mr4Judged c r s).sched = s.sched := by
  unfold mr4Judged
  split
  · exact ⟨ref_of_seen (becomeCritical_keeps (by decide) ..), sched_of_seen (becomeCritical_keeps (by decide) ..)⟩
  · exact ⟨rfl, rfl⟩

theorem mr4Judged_critical {r : Mr4Poll} (h : r.slot0 = .above2 ∨ r.slot1 = .above2) (c : Ch) (s : State) :
    (mr4Judged c r s).pwr.critical = true := by
  unfold mr4Judged
  rw [if_pos (mr4Top_above h)]
  exact becomeCritical_critical ..

/-- A poll of a channel in service whose ranks are awake (R240). -/
theorem mr4Poll_awake (r : Mr4Poll) (hl : chLive s c = true) (hrun : s.glb.coreRun = true)
    (hA : s.pwr.sc.get (scA c) ≠ .selfRefresh) (hB : s.pwr.sc.get (scB c) ≠ .selfRefresh) :
    mr4Poll c r s = mr4Judged c r (mr4Taken c r s) := by
  have on : ¬ (!chLive s c || !s.glb.coreRun) = true := by simp [hl, hrun]
  have awake : ¬ (decide (s.pwr.sc.get (scA c) = .selfRefresh) || decide (s.pwr.sc.get (scB c) = .selfRefresh)) = true := by
    simp [hA, hB]
  unfold mr4Poll
  exact (if_neg on).trans (if_neg awake)

/-- In self-refresh a poll is noted as due (R483). -/
theorem mr4Poll_asleep (r : Mr4Poll) (hl : chLive s c = true) (hrun : s.glb.coreRun = true)
    (h : s.pwr.sc.get (scA c) = .selfRefresh ∨ s.pwr.sc.get (scB c) = .selfRefresh) :
    mr4Poll c r s = dueAsleep (scB c) (dueAsleep (scA c) s) := by
  have on : ¬ (!chLive s c || !s.glb.coreRun) = true := by simp [hl, hrun]
  have asleep : (decide (s.pwr.sc.get (scA c) = .selfRefresh) || decide (s.pwr.sc.get (scB c) = .selfRefresh)) = true := by
    simpa using h
  unfold mr4Poll
  exact (if_neg on).trans (if_pos asleep)

theorem dueAsleep_sc (x : Sc) (s : State) : (dueAsleep x s).pwr.sc = s.pwr.sc := by
  unfold dueAsleep
  split <;> rfl

theorem dueAsleep_due (h : s.pwr.sc.get x = .selfRefresh) : (dueAsleep x s).pwr.due.getLsbD x.val = true := by
  have bit : ∀ x : Sc, (1 <<< x.val : BitVec 4).getLsbD x.val = true := by decide
  unfold dueAsleep
  rw [if_pos h, BitVec.getLsbD_or, bit, Bool.or_true]

theorem dueAsleep_keeps_due {n : Nat} (h : s.pwr.due.getLsbD n = true) : (dueAsleep x s).pwr.due.getLsbD n = true := by
  unfold dueAsleep
  split
  · rw [BitVec.getLsbD_or, h, Bool.true_or]
  · exact h

end Sys2Proof.Machine
end

section
/-! SUPPORT. A line of row counters that arrives in the cache, and a fetch that is late (R246, R248, R249). -/

namespace Sys2Proof.Machine

variable {s t : State} {x y : Sc} {k : Nat} {g : RdTag} {p : Sched → Prop}

/-! ### Room in the cache (R248) -/

theorem mntAdd_has {q : Fin 7} {o : MntOp} (hp : ∀ q m, p q → p { q with maint := m }) (h : p (s.sched.get x)) :
    p ((mntAdd y q o s).sched.get x) :=
  updSched_has (fun _ hq => hp _ _ hq) h

/-- A line that makes room changes the maintenance work alone among what a scheduler holds. -/
theorem cacheEvict_has (k : Nat) (hp : ∀ q m, p q → p { q with maint := m }) (h : p (s.sched.get x)) :
    p ((cacheEvict k s).sched.get x) := by
  unfold cacheEvict
  dsimp only
  split
  · exact h
  · split
    · exact h
    · split
      · exact mntAdd_has (s := updRef _ s) hp h
      · exact h

/-- A line that makes room is counted where it is written back, and no other register changes. -/
theorem regGet_cacheEvict (k : Nat) {o : Nat} (ho : o ≠ 0x10048) (s : State) : regGet (cacheEvict k s) o = regGet s o := by
  unfold cacheEvict
  dsimp only
  split
  · rfl
  · split
    · rfl
    · split
      · exact regGet_bump_other _ ho
      · rfl

/-! ### A line arrives (R246, R248) -/

/-- The line stands in the cache, valid at its unit's epoch. -/
def lineCached (k : Nat) (vals : Vector (BitVec 16) 32) (dirty : Bool) (s : State) : State :=
  setCache k ⟨(refUnit (cacheEvict k s) (keySc k) (keyUnit k)).epoch, dirty, 0, vals⟩ (cacheEvict k s)

/-- The fetch of a line ends, and nothing is posted to it any more. -/
def lineFetched (k : Nat) (s : State) : State :=
  updRef (fun a => { a with posted := a.posted.filter (fun p => p.1 ≠ k), fetching := a.fetching.filter fun p => p.1 ≠ k }) s

/-- What was posted to a line is applied to it. -/
def applyPosted (k : Nat) (p : Nat × Fin 32 × Bool) (s : State) : State :=
  match cacheLine s k with
  | some l => if p.2.2 then setCache k { l with vals := vset l.vals p.2.1 0, dirty := true } s else countCached k p.2.1 l s
  | none => s

theorem applyPosted_keeps {hid : Nat} (hw : 0x9800000000 &&& hid = 0x9800000000) (k : Nat) (p : Nat × Fin 32 × Bool) (s : State) :
    (applyPosted k p s).seen hid = s.seen hid := by
  refine seen_mono hw ?_
  unfold applyPosted
  split
  · split
    · exact setCache_keeps (by decide) ..
    · exact countCached_keeps (by decide) ..
  · rfl

theorem installLine_eq (k : Nat) (vals : Vector (BitVec 16) 32) (dirty : Bool) (s : State) : installLine k vals dirty s =
    forAll ((lineCached k vals dirty s).ref.posted.filter fun p => p.1 = k) (applyPosted k)
      (lineFetched k (lineCached k vals dirty s)) := rfl

/-- What is posted to a line changes neither the fetches nor the registers. -/
theorem installLine_keeps_fetches (k : Nat) (vals : Vector (BitVec 16) 32) (dirty : Bool) (s : State) :
    (installLine k vals dirty s).ref.fetching = (lineCached k vals dirty s).ref.fetching.filter (fun e => e.1 ≠ k)
      ∧ (installLine k vals dirty s).regs = (cacheEvict k s).regs := by
  rw [installLine_eq]
  exact ⟨ref_fetching_of_seen (s := lineFetched k (lineCached k vals dirty s))
      (forAll_keeps _ _ _ fun p u => applyPosted_keeps (by decide) k p u),
    regs_of_seen (s := lineFetched k (lineCached k vals dirty s))
      (forAll_keeps _ _ _ fun p u => applyPosted_keeps (by decide) k p u)⟩

/-- A line to which nothing is posted arrives as it is. -/
theorem installLine_plain (vals : Vector (BitVec 16) 32) (dirty : Bool)
    (h : s.ref.posted.all (fun p => decide (p.1 ≠ k)) = true) :
    installLine k vals dirty s = lineFetched k (lineCached k vals dirty s) := by
  have posted : (lineCached k vals dirty s).ref.posted = s.ref.posted := ref_posted_of_seen (by simp [lineCached])
  have none : s.ref.posted.filter (fun p => decide (p.1 = k)) = [] := by
    simpa [List.filter_eq_nil_iff] using h
  rw [installLine_eq, posted, none]
  rfl

theorem lineCached_line (k : Nat) (vals : Vector (BitVec 16) 32) (dirty : Bool) (s : State) :
    ∃ n, cacheLine (lineFetched k (lineCached k vals dirty s)) k =
      some ⟨(refUnit (cacheEvict k s) (keySc k) (keyUnit k)).epoch, dirty, n, vals⟩ := by
  refine ⟨(cacheEvict k s).ref.clock, ?_⟩
  unfold cacheLine lineFetched lineCached setCache updRef
  dsimp only
  rw [kfind_kset_same]
  exact if_pos (decide_eq_true rfl)

theorem lineCached_has (k : Nat) (vals : Vector (BitVec 16) 32) (dirty : Bool) (hp : ∀ q m, p q → p { q with maint := m })
    (h : p (s.sched.get x)) : p ((lineFetched k (lineCached k vals dirty s)).sched.get x) :=
  cacheEvict_has k hp h

/-! ### The read of a line (R248) -/

/-- The read of a line leaves the pipe. -/
def pipeLeft (x : Sc) (g : RdTag) (s : State) : State :=
  updSched x (fun q => { q with pipe := q.pipe.filter fun v => v ≠ g }) s

theorem pipeLeft_pipe (x : Sc) (g : RdTag) (s : State) : g ∉ ((pipeLeft x g s).sched.get x).pipe := by
  simp [pipeLeft, updSched]

/-- The read of a line is recorded and counted as it was decoded. -/
def lineRead (x : Sc) (g : RdTag) (rx : Capture) (s : State) : State :=
  readRecord g.lla (g.decode s rx) (RasInfo.of 6 (soleDevice (isX8 s) (g.decode s rx).errs))
    (readSeen g rx (g.decode s rx) (pipeLeft x g s))

theorem lineRead_ref (x : Sc) (g : RdTag) (rx : Capture) (s : State) : (lineRead x g rx s).ref = s.ref :=
  ref_of_seen (by simp [lineRead, pipeLeft])

theorem lineRead_pipe (x : Sc) (g : RdTag) (rx : Capture) (s : State) : g ∉ ((lineRead x g rx s).sched.get x).pipe := by
  rw [sched_of_seen (s := pipeLeft x g s) (by simp [lineRead])]
  exact pipeLeft_pipe x g s

theorem ledgerFetchDone_installs {rx : Capture} (hg : (s.sched.get x).pipe.find? (fun r => r.origin.isLedger) = some g)
    (ho : g.origin = .ledger k) (hd : (g.decode s rx).outcome = .clean ∨ (g.decode s rx).outcome = .corrected)
    (hf : s.ref.fetching.any (fun e => decide (e.1 = k)) = true) :
    ledgerFetchDone x rx s = installLine k (lineCounters (g.decode s rx).data) false (lineRead x g rx s) := by
  have awaited : ¬ (!((lineRead x g rx s).ref.fetching.any fun e => decide (e.1 = k))) = true := by
    rw [lineRead_ref, hf]
    decide
  have usable : ¬ ((g.decode s rx).outcome.lost || decide ((g.decode s rx).outcome = .poison)) = true := by
    rcases hd with e | e <;> rw [e] <;> decide
  unfold ledgerFetchDone
  rw [hg]
  dsimp only
  rw [ho]
  exact (if_neg awaited).trans (if_neg usable)

/-! ### A fetch that is late (R249) -/

/-- The rows of a line whose held ACT waited for it are due, and the line arrives with the count of its group. -/
theorem failLine_fetches (k : Nat) (s : State) : (∀ e ∈ (failLine k s).ref.fetching, e.1 ≠ k)
    ∧ (failLine k s).regs = (cacheEvict k s).regs := by
  unfold failLine
  dsimp only
  obtain ⟨fetching, regs⟩ := installLine_keeps_fetches k (Vector.replicate 32 (BitVec.ofNat 16
    (groupAt s (keySc k) (keyUnit k) (keyBank s k) (keyRow s k)).count)) true s
  constructor
  · rw [ref_fetching_of_seen (forAll_keeps _ _ _ fun _ _ => makeDue_keeps (by decide) ..), fetching]
    exact fun e he => by simpa using (List.mem_filter.1 he).2
  · rw [regs_of_seen (forAll_keeps _ _ _ fun _ _ => makeDue_keeps (by decide) ..), regs]

/-- The expiry is reported, and the failed fetch is counted and shown. -/
def lateTold (x : Sc) (k : Nat) (s : State) : State :=
  sqSet 0x10030 0x80 (bump 0x10050 (timeout 0x13 1 2 false
    (subjSc x (keyUnit k / max 1 (nLr s)) (keyUnit k % max 1 (nLr s))) 0 s))

/-- The read of a line is given up. -/
def fetchGivenUp (x : Sc) (k : Nat) (s : State) : State :=
  updMaint x 3 (fun l => l.filter fun m => !m.fetches k)
    (updSched x (fun q => { q with pipe := q.pipe.filter fun r => !r.origin.ledgerIs k }) s)

theorem ledgerFetchTimeout_fails (h : s.ref.fetching.find? (fun e => decide (e.2 = x)) = some (k, x)) :
    ledgerFetchTimeout x s = failLine k (fetchGivenUp x k (lateTold x k s)) := by
  unfold ledgerFetchTimeout
  rw [h]
  rfl

theorem lateTold_counts (x : Sc) (k : Nat) (s : State) :
    regGet (lateTold x k s) 0x10050 = BitVec.ofNat 32 (min 0xFFFFFFFF ((regGet s 0x10050).toNat + 1)) := by
  have told : ∀ n, regGet (timeout 0x13 1 2 false n 0 s) 0x10050 = regGet s 0x10050 := fun n =>
    regGet_of_seen (hid := 0x1FFFF7FFFFFFFFFFFFFFFFFFFFFFFFFFFFFFFFFFFFFFF) (timeout_keeps (by decide) ..) _
      (by rw [regGroup_10050]; decide)
  rw [lateTold, regGet_sqSet_other _ _ (by decide), regGet_bump_same, sat_eq_min, told]

theorem lateTold_shows (x : Sc) (k : Nat) (s : State) : bitOf (regGet (lateTold x k s) 0x10030) 7 = true := by
  rw [lateTold, regGet_sqSet_same, sqWord_bit _ _ (by decide)]
  exact Bool.or_eq_true_iff.2 (.inr (by decide))

theorem fetchGivenUp_countsExpiry (x : Sc) (k : Nat) (s : State) :
    countsExpiry 0x13 s (failLine k (fetchGivenUp x k (lateTold x k s))) :=
  countsExpiry_of_timeout (s := s) (sev := 1) (src := 2) (esc := false) (detail := 0)
    (subject := subjSc x (keyUnit k / max 1 (nLr s)) (keyUnit k % max 1 (nLr s))) (by simp [fetchGivenUp, lateTold])

theorem regGet_failLine (k : Nat) {o : Nat} (ho : o ≠ 0x10048) (x : Sc) (s : State) :
    regGet (failLine k (fetchGivenUp x k s)) o = regGet s o :=
  (regGet_congr (failLine_fetches ..).2 o).trans (regGet_cacheEvict k ho _)

end Sys2Proof.Machine
end

section
/-! The refresh calendar, back-off deadlines, polls of mode register 4, epochs, and fetches of ledger lines (R231 to R253). -/

namespace Sys2Proof

open Sys2Proof.Machine

variable {s : State} {x : Sc} {c : Ch}

theorem slot_counts {u : Fin 64} (hs : slotsCount s x u.val = true) (hp : s.pwr.sc.get x ≠ .powerDown) :
    completes (.refreshSlot x u) s fun t => (refUnit t x u.val).debt = (refUnit s x u.val).debt + 1
      ∧ (refUnit t x u.val).next = (refUnit s x u.val).next + slotPeriod t (chOf x)
      ∧ (refUnit t x u.val).gate =
        (if 1 ≤ (refUnit s x u.val).debt + 1 then some (refUnit s x u.val).next else (refUnit s x u.val).gate)
      ∧ (refUnit t x u.val).emergency = decide ((lPost s : Int) ≤ (refUnit s x u.val).debt + 1)
      ∧ t.ref.doubled.get (chOf x) = doubledNext s (chOf x) := by
  refine completes_of_run (f := refreshSlot x u.val) rfl ?_
  rw [refreshSlot_unit (s := begin_ s) hs hp]
  exact ⟨rfl, rfl, rfl, rfl, refreshSlot_doubled (s := begin_ s) hs hp⟩

theorem postponement_opens {u : Fin 64} (hg : (refUnit s x u.val).gate ≠ none) (he : (refUnit s x u.val).emergency = false) :
    completes (.refreshPostpone x u) s fun t => refUnit t x u.val = { refUnit s x u.val with gate := none }
      ∧ regGet t (0x10104 + 0x40 * x.val) =
        BitVec.ofNat 32 (min 0xFFFFFFFF ((regGet s (0x10104 + 0x40 * x.val)).toNat + 1)) := by
  have counter : rRef x 1 = 0x10104 + 0x40 * x.val := by unfold rRef; omega
  refine completes_of_run (f := refreshPostpone x u.val) rfl ?_
  rw [refreshPostpone_opens (s := begin_ s) hg he, ← counter, regGet_bump_same, sat_eq_min]
  exact ⟨refUnit_setRefUnit x u.val _ (begin_ s), rfl⟩

theorem deadline_passes {r : AboReq} (h : (s.ref.abo.get c).find? (fun r => !r.passed) = some r) :
    completes (.backoffRfmDeadline c) s fun t => t.ref.abo.get c = aboPass (s.ref.abo.get c)
      ∧ t.ref.aboLate.get c = (s.ref.aboLate.get c || decide (0 < aboOwed t c))
      ∧ if r.begun then t.evt = s.evt else countsExpiry 0x03 s t := by
  refine completes_of_run (f := backoffDeadline c) rfl ?_
  have ref := backoffDeadline_ref (s := begin_ s) h
  have owed : aboOwed (backoffDeadline c (begin_ s)) c = aboOwed (deadlinePassed c (begin_ s)) c :=
    aboOwed_of_abo (by rw [ref, actsHeld_abo]) c
  refine ⟨?_, ?_, ?_⟩
  · rw [ref, actsHeld_abo]
    exact vget_vmod_same ..
  · rw [owed, ref, actsHeld_late]
    rfl
  · rw [backoffDeadline_passes (s := begin_ s) h]
    split
    · exact evt_of_seen (s := begin_ s) (by simp [actsHeld, deadlinePassed])
    · have kept : (actsHeld c (deadlinePassed c (begin_ s))).evt = s.evt :=
        evt_of_seen (s := begin_ s) (by simp [actsHeld, deadlinePassed])
      rw [countsExpiry, ← kept]
      exact countsExpiry_of_timeout rfl

theorem poll_reads (r : Mr4Poll) (hl : chLive s c = true) (hrun : s.glb.coreRun = true)
    (hA : s.pwr.sc.get (scA c) ≠ .selfRefresh) (hB : s.pwr.sc.get (scB c) ≠ .selfRefresh) :
    completes (.mr4Poll c r) s fun t => t.ref = { s.ref with mr4 := vset s.ref.mr4 c (mr4Top r.slot0 r.slot1) }
      ∧ (∀ u ∈ unitsLive s c, ∀ x ∈ [scA c, scB c], Asked x (mr4Read s u) t)
      ∧ (r.slot0 = .above2 ∨ r.slot1 = .above2 → t.pwr.critical = true) := by
  refine completes_of_run (f := mr4Poll c r) rfl ?_
  rw [mr4Poll_awake (s := begin_ s) r hl hrun hA hB]
  obtain ⟨ref, sched⟩ := mr4Judged_ref_sched c r (mr4Taken c r (begin_ s))
  refine ⟨ref.trans (mr4Taken_ref ..), fun u hu x hx => ?_, fun h => mr4Judged_critical h ..⟩
  rw [Asked, sched]
  exact mr4Taken_asks (s := begin_ s) r hu hx

theorem poll_waits (r : Mr4Poll) (hl : chLive s c = true) (hrun : s.glb.coreRun = true)
    (h : s.pwr.sc.get (scA c) = .selfRefresh ∨ s.pwr.sc.get (scB c) = .selfRefresh) :
    completes (.mr4Poll c r) s fun t => t.ref = s.ref
      ∧ (∀ x ∈ [scA c, scB c], s.pwr.sc.get x = .selfRefresh → t.pwr.due.getLsbD x.val = true) ∧ t.out = [] := by
  refine completes_of_run (f := mr4Poll c r) rfl ?_
  rw [mr4Poll_asleep (s := begin_ s) r hl hrun h]
  refine ⟨ref_of_seen (s := begin_ s) (by simp), fun x hx hsleep => ?_, out_of_seen (s := begin_ s) (by simp)⟩
  rcases mem_scs.1 hx with rfl | rfl
  · exact dueAsleep_keeps_due (dueAsleep_due (s := begin_ s) hsleep)
  · exact dueAsleep_due (by rw [dueAsleep_sc]; exact hsleep)

theorem epoch_advances {u : Fin 64} (hc : calendar s x u.val = true) (hn : nPass s ≤ (refUnit s x u.val).passCount) :
    completes (.epochAdvance x u) s fun t => refUnit t x u.val = advanced s x u.val
      ∧ (∀ p ∈ t.ref.posted, p.1 / 2 ^ 18 ≠ unitKey x u.val)
      ∧ t.ref.cache = s.ref.cache.filter (fun e => decide (e.1 / 2 ^ 18 ≠ unitKey x u.val)) := by
  refine completes_of_run (f := epochAdvance x u.val) rfl ?_
  rw [epochAdvance_advances (s := begin_ s) hc hn]
  exact ⟨refUnit_written (s := begin_ s) (r := advanced (begin_ s) x u.val) (by simp), dropped_posted x u.val _,
    dropped_cache ..⟩

/-- Settles O26, command by command. -/
theorem refreshCalendar : Obligations.RefreshCalendar :=
  ⟨fun _ _ _ hs hp => slot_counts hs hp, fun _ _ _ hg he => postponement_opens hg he, fun _ _ _ h => deadline_passes h,
    fun _ _ r hl hrun hA hB => poll_reads r hl hrun hA hB, fun _ _ r hl hrun h => poll_waits r hl hrun h,
    fun _ _ _ hc hn => epoch_advances hc hn⟩

theorem line_arrives {rx : Capture} {g : RdTag} {k : Nat}
    (hg : (s.sched.get x).pipe.find? (fun r => r.origin.isLedger) = some g) (ho : g.origin = .ledger k)
    (hd : (g.decode s rx).outcome = .clean ∨ (g.decode s rx).outcome = .corrected)
    (hf : s.ref.fetching.any (fun e => decide (e.1 = k)) = true)
    (hp : s.ref.posted.all (fun p => decide (p.1 ≠ k)) = true) :
    completes (.ledgerFetchDone x rx) s fun t => (cacheLine t k).map RcLine.vals = some (lineCounters (g.decode s rx).data)
      ∧ (cacheLine t k).map RcLine.dirty = some false ∧ (∀ e ∈ t.ref.fetching, e.1 ≠ k) ∧ g ∉ (t.sched.get x).pipe := by
  refine completes_of_run (f := ledgerFetchDone x rx) rfl ?_
  have plain : (lineRead x g rx (begin_ s)).ref.posted.all (fun p => decide (p.1 ≠ k)) = true := by
    rw [lineRead_ref]
    exact hp
  rw [ledgerFetchDone_installs (s := begin_ s) hg ho hd hf, installLine_plain _ _ plain]
  obtain ⟨n, cached⟩ := lineCached_line k (lineCounters (g.decode (begin_ s) rx).data) false (lineRead x g rx (begin_ s))
  rw [cached]
  refine ⟨rfl, rfl, fun e he => by simpa using (List.mem_filter.1 he).2, ?_⟩
  exact lineCached_has (p := fun q => g ∉ q.pipe) k _ _ (fun _ _ h => h) (lineRead_pipe x g rx (begin_ s))

theorem fetch_late {k : Nat} (h : s.ref.fetching.find? (fun e => decide (e.2 = x)) = some (k, x)) :
    completes (.ledgerFetchTimeout x) s fun t => countsExpiry 0x13 s t
      ∧ regGet t 0x10050 = BitVec.ofNat 32 (min 0xFFFFFFFF ((regGet s 0x10050).toNat + 1))
      ∧ bitOf (regGet t 0x10030) 7 = true ∧ ∀ e ∈ t.ref.fetching, e.1 ≠ k := by
  refine completes_of_run (f := ledgerFetchTimeout x) rfl ?_
  rw [ledgerFetchTimeout_fails (s := begin_ s) h, regGet_failLine k (by decide), regGet_failLine k (by decide)]
  exact ⟨fetchGivenUp_countsExpiry x k (begin_ s), lateTold_counts .., lateTold_shows ..,
    (failLine_fetches ..).1⟩

/-- Settles O27, the line that arrives and the fetch that is late. -/
theorem ledgerFetches : Obligations.LedgerFetches := by
  refine ⟨fun s x rx g k d hg ho e hd hf hp => ?_, fun _ _ _ h => fetch_late h⟩
  subst e
  exact line_arrives hg ho hd hf hp

end Sys2Proof
end

section
/-! SUPPORT. The table of partitions: what a placed or coloured head, a pending change and a tick leave of its entries
(R268, R271, R284, R286, R287). -/

namespace Sys2Proof.Machine

variable {s : State} {l : Nat} {w : Vector Word 8}

/-! ### One entry of the table -/

theorem partOf_setPart_same (l : Nat) (p : Part) (s : State) : partOf (setPart l p s) l = p := by
  simp [partOf, setPart, updQos, kget]

theorem partOf_setPart_other {k : Nat} (h : l ≠ k) (p : Part) (s : State) : partOf (setPart k p s) l = partOf s l := by
  simp [partOf, setPart, updQos, kget, kfind_kset_other _ _ h]

/-- An entry that is written with its own words leaves the words of every entry as they are. -/
theorem setPart_cfg {k : Nat} {p : Part} (h : p.cfg = (partOf s k).cfg) : (partOf (setPart k p s) l).cfg = (partOf s l).cfg := by
  by_cases e : l = k
  · rw [e, partOf_setPart_same, h]
  · rw [partOf_setPart_other e]

theorem partOf_of_parts {t : State} (h : t.qos.parts = s.qos.parts) (l : Nat) : partOf t l = partOf s l :=
  congrArg (kget _ · l) h

/-- A step for every entry of the table. -/
def eachPart (f : Nat → Part → Part) (s : State) : State :=
  updQos (fun q => { q with parts := q.parts.map fun e => (e.1, f e.1 e.2) }) s

theorem kfind_map {α : Type} (m : KMap α) (f : Nat → α → α) (i : Nat) :
    kfind (m.map fun e => (e.1, f e.1 e.2)) i = (kfind m i).map (f i) := by
  induction m with
  | nil => rfl
  | cons e m ih =>
    rw [List.map_cons, kfind, kfind]
    split
    · next h => rw [h, Option.map_some]
    · exact ih

theorem eachPart_cfg {f : Nat → Part → Part} (h : ∀ k p, (f k p).cfg = p.cfg) :
    (partOf (eachPart f s) l).cfg = (partOf s l).cfg := by
  have found : kfind (eachPart f s).qos.parts l = (kfind s.qos.parts l).map (f l) := kfind_map ..
  unfold partOf kget
  rw [found]
  cases kfind s.qos.parts l with
  | none => rfl
  | some p => exact h l p

/-! ### Heads (R268, R276, R287) -/

theorem enterTier_cfg (r : Req) (tier : Option (Fin 5)) (s : State) : (partOf (enterTier r tier s) l).cfg = (partOf s l).cfg := by
  unfold enterTier
  split
  · rfl
  · cases tier with
    | none => rfl
    | some tier => exact setPart_cfg (p := { partOf s r.part.toNat with tags := _ }) rfl

theorem colourOf_cfg (p : Part) : (colourOf p).2.cfg = p.cfg := by
  unfold colourOf
  simp only [apply_ite Prod.snd, apply_ite Part.cfg, ite_self]

theorem countColour_cfg (c : Colour) (p : Part) : (countColour c p).cfg = p.cfg := by cases c <;> rfl

theorem colourHead_cfg (r : Req) (s : State) : (partOf (colourHead r s) l).cfg = (partOf s l).cfg := by
  unfold colourHead
  cases uncharged s r with
  | true => exact (enterTier_cfg ..).trans (setPart_cfg rfl)
  | false => exact (enterTier_cfg ..).trans (setPart_cfg ((countColour_cfg ..).trans (colourOf_cfg _)))

theorem recolour_cfg (s : State) : (partOf (recolour s) l).cfg = (partOf s l).cfg :=
  forAll_inv (P := fun t => (partOf t l).cfg = (partOf s l).cfg) _ (fun r _ h => (colourHead_cfg r _).trans h) rfl

theorem recolour_none (h : s.reqs.all (fun r => decide (r.colour ≠ some .red)) = true) : recolour s = s := by
  have calm : ∀ r ∈ s.reqs, r.colour ≠ some .red := by simpa using h
  unfold recolour
  rw [List.filter_eq_nil_iff.2 fun r hr => by simp [calm r hr]]
  rfl

theorem placeHeads_cfg (label : Nat) (s : State) : (partOf (placeHeads label s) l).cfg = (partOf s l).cfg := by
  refine forAll_inv (P := fun t => (partOf t l).cfg = (partOf s l).cfg) _ (fun r u h => ?_) rfl
  split
  · exact h
  · exact (enterTier_cfg ..).trans h

/-! ### A pending change (R286, R287) -/

theorem applyPart_cfg (l : Nat) (w : Vector Word 8) (s : State) : (partOf (applyPart l w s) l).cfg = w := by
  unfold applyPart
  dsimp only
  rw [placeHeads_cfg, partOf_setPart_same]
  repeat' split
  all_goals rfl

theorem applyPending_idle (h : s.qos.pendingQpt = none) (hm : s.qos.pendingMore = []) : applyPending s = s := by
  unfold applyPending
  rw [h, hm]
  rfl

/-- No change is pending after the first step of a tick. -/
theorem applyPending_done (s : State) : (applyPending s).qos.pendingQpt = none := by
  unfold applyPending
  dsimp only
  split
  · next h =>
    obtain ⟨none, -⟩ : s.qos.pendingQpt = none ∧ s.qos.pendingMore = [] := by simpa using h
    exact none
  · rfl

theorem applyPending_cfg {b : BitVec 12} (h : s.qos.pendingQpt = some (b, w)) (hm : s.qos.pendingMore = []) :
    (partOf (applyPending s) b.toNat).cfg = w := by
  have applied : (applyPending s).qos.parts = (applyPart b.toNat w s).qos.parts := by
    unfold applyPending onlyIf
    rw [h, hm]
    dsimp only
    split
    · next hempty => cases hempty
    · split <;> rfl
  rw [partOf_of_parts applied, applyPart_cfg]

/-! ### The throttle value (R282, R493) -/

theorem throttleRecord_get (kind t : Nat) (s : State) : regGet (throttleRecord kind t 0 0 s) 0x9010 = regGet s 0x9010 :=
  regGet_of_seen (hid := 0x40000013200000000000000000000000000000000000) (throttleRecord_keeps (by decide) ..) _
    (by rw [regGroup_9010]; decide)

theorem takeThrottle_tNow (s : State) : tNow (takeThrottle s) = regFld s 0x9010 26 16 := by
  have put : tNow (regPut 0x9010 10 0 (regFld s 0x9010 26 16) s) = regFld s 0x9010 26 16 :=
    regFld_regPut_same (by decide) (by decide) (show regFld s 0x9010 26 16 < 2 ^ (10 + 1 - 0) from fld_lt _ 26 16) _ s
  have counted : ∀ (c : Bool) (u : State), regGet (onlyIf c (bump 0x904C) u) 0x9010 = regGet u 0x9010 := fun c u =>
    onlyIf_inv (P := fun t => regGet t 0x9010 = regGet u 0x9010) (fun _ => regGet_bump_other _ (by decide)) rfl
  refine Eq.trans (congrArg (fld · 10 0) ?_) put
  unfold takeThrottle
  dsimp only
  split
  · rw [throttleRecord_get, regGet_sqSet_other _ _ (by decide), regGet_sqSet_other _ _ (by decide), counted]
  · split
    · rw [throttleRecord_get, counted]
    · rw [counted]

/-! ### The steps of a tick (R267) -/

/-- The tick is counted, and the pending changes and the throttle value are taken. -/
def tickBegun (s : State) : State := takeThrottle (applyPending (updQos (fun q => { q with tick := q.tick + 1 }) s))

/-- The misses of a tick are judged; `clip` holds the labels whose Tc refill was clipped (R284). -/
def missesJudged (clip : List Nat) (s : State) : State := eachPart (fun k => missStep s (clip.contains k) k) s

theorem refillTick_runs (h : s.glb.coreRun = true) : refillTick s =
    missesJudged (((tickBegun s).qos.parts.filter fun e => clips e.2).map Prod.fst) (recolour (refillAll (tickBegun s))) := by
  unfold refillTick
  exact if_neg (by rw [h]; decide)

/-- A miss that is judged leaves the words and the buckets of its partition as they are. -/
theorem missStep_buckets (s : State) (clip : Bool) (l : Nat) (p : Part) : (missStep s clip l p).cfg = p.cfg
    ∧ (missStep s clip l p).tc = p.tc ∧ (missStep s clip l p).tp = p.tp := by
  unfold missStep
  dsimp only
  repeat' split
  all_goals exact ⟨rfl, rfl, rfl⟩

theorem missesJudged_cfg (clip : List Nat) (s : State) : (partOf (missesJudged clip s) l).cfg = (partOf s l).cfg :=
  eachPart_cfg fun _ _ => (missStep_buckets ..).1

theorem missesJudged_buckets (clip : List Nat) (s : State) :
    (missesJudged clip s).qos.parts.map (fun e => (e.1, e.2.tc, e.2.tp)) = s.qos.parts.map fun e => (e.1, e.2.tc, e.2.tp) := by
  refine List.map_map.trans (List.map_congr_left fun e _ => ?_)
  obtain ⟨-, tc, tp⟩ := missStep_buckets s (clip.contains e.1) e.1 e.2
  exact congrArg (Prod.mk e.1) (congrArg₂ Prod.mk tc tp)

theorem refillAll_cfg (s : State) : (partOf (refillAll s) l).cfg = (partOf s l).cfg :=
  eachPart_cfg (f := fun _ => refillPart) fun _ _ => rfl

theorem tickBegun_idle (h : s.qos.pendingQpt = none) (hm : s.qos.pendingMore = []) :
    tickBegun s = takeThrottle (updQos (fun q => { q with tick := q.tick + 1 }) s) :=
  congrArg takeThrottle (applyPending_idle (s := updQos _ s) h hm)

theorem takeThrottle_qos (s : State) : (takeThrottle s).qos = s.qos := qos_of_seen (by simp)

/-! ### The timing wheel (R271, R272) -/

/-- Judging again whether a partition is parked leaves its shaper as it is. -/
theorem parkIf_ts (s : State) (p : Part) : (parkIf s p).ts = p.ts := by
  unfold parkIf
  split <;> rfl

theorem wheelPart_ts (s : State) (p : Part) : (wheelPart s p).ts =
    if p.shapeEn then min (p.ts + rateEff s p) (cfgBurst p.cfg * 2 ^ 18 : Nat) else p.ts := by
  unfold wheelPart
  dsimp only
  cases p.shapeEn with
  | false => rfl
  | true =>
    simp only [Bool.not_true, Bool.false_eq_true, if_false, if_true]
    split
    · rfl
    · split
      · exact parkIf_ts ..
      · rfl

/-- The slot is counted. -/
def wheelTurned (s : State) : State := updQos (fun q => { q with wheel := q.wheel + 1 }) s

theorem wheelSlot_runs (h : s.glb.coreRun = true) :
    wheelSlot s = eachPart (fun _ => wheelPart (wheelTurned s)) (wheelTurned s) := by
  unfold wheelSlot
  exact if_neg (by rw [h]; decide)

/-! ### The miss of a guarantee (R284, R285) -/

/-- A miss that is due is counted, shown and ended. -/
def missEnded (label : Nat) (s : State) : State :=
  sqSet 0x9034 0x1 (bump 0x9050 (setPart label { partOf s label with
    missDue := false, misses := BitVec.ofNat 32 (sat 0xFFFFFFFF ((partOf s label).misses.toNat + 1)) } s))

/-- Beside the ending of the miss there is only its record, which is rate-limited. -/
theorem guaranteeMiss_ends {b : BitVec 12} (h : (partOf s b.toNat).missDue = true) :
    (guaranteeMiss b s).seen 0x40000013200000000000000000000000000000000000 =
      (missEnded b.toNat s).seen 0x40000013200000000000000000000000000000000000 := by
  unfold guaranteeMiss
  dsimp only
  rw [if_neg (by rw [h]; decide)]
  split
  · exact limited_keeps (by decide) _ _ _ _ fun _ _ => raise_keeps (by decide) ..
  · rfl

theorem regGet_guaranteeMiss {b : BitVec 12} (h : (partOf s b.toNat).missDue = true) {o : Nat} (ho : regGroup o = 7) :
    regGet (guaranteeMiss b s) o = regGet (missEnded b.toNat s) o :=
  regGet_of_seen (guaranteeMiss_ends h) o (by rw [ho]; decide)

theorem missEnded_counts (l : Nat) (s : State) :
    regGet (missEnded l s) 0x9050 = BitVec.ofNat 32 (min 0xFFFFFFFF ((regGet s 0x9050).toNat + 1)) := by
  rw [missEnded, regGet_sqSet_other _ _ (by decide), regGet_bump_same, sat_eq_min]
  rfl

/-! ### A commit (R286, R288) -/

/-- A field below the lowest bit of the first value of a packed word. -/
theorem fld_pack_below (x : Nat) {lo' hi lo : Nat} (h : hi < lo') (h32 : hi < 32) (r : List (Nat × Nat)) :
    fld (pack ((x, lo') :: r)) hi lo = fld (pack r) hi lo := by
  refine fld_congr fun i _ hi' => ?_
  rw [pack_bit _ _ _ (by omega), decide_eq_false (by omega), Bool.false_and, Bool.false_or]

theorem qptStatus_code {code label : Nat} (hc : code < 8) (hl : label < 2 ^ 12) (s : State) :
    regFld (qptStatus code label s) 0xA018 30 28 = code := by
  unfold qptStatus regFld
  dsimp only
  rw [regGet_regSet_same, fld_pack_below _ (by decide) (by decide)]
  refine fld_pack hc (by decide) fun e he => ?_
  obtain rfl := List.mem_singleton.1 he
  exact hl.trans (show 2 ^ 12 < 2 ^ (28 - 0) by decide)

theorem partCode_lt (label : Nat) (w : Vector Word 8) : partCode label w < 8 := by
  unfold partCode
  repeat' split
  all_goals decide

variable {v : Word}

theorem actQpt_refuses (hv : bitOf v 31 = true) (h : s.qos.pendingQpt = none) (hm : s.qos.pendingMore = [])
    (hcode : partCode (fld v 11 0) s.qos.staging ≠ 0) :
    actQpt v s = qptStatus (partCode (fld v 11 0) s.qos.staging) (fld v 11 0) s := by
  unfold actQpt
  dsimp only
  rw [if_neg (by rw [hv]; decide), if_neg (by rw [h, hm]; decide), if_pos hcode]

theorem actQpt_pends (hv : bitOf v 31 = true) (h : s.qos.pendingQpt = none) (hm : s.qos.pendingMore = [])
    (hcode : partCode (fld v 11 0) s.qos.staging = 0) (hshares : sharesOk (qptWith s (fld v 11 0) s.qos.staging) = true) :
    actQpt v s = qptStatus 1 (fld v 11 0)
      (updQos (fun q => { q with pendingQpt := some (BitVec.ofNat 12 (fld v 11 0), s.qos.staging) }) s) := by
  unfold actQpt
  dsimp only
  rw [if_neg (by rw [hv]; decide), if_neg (by rw [h, hm]; decide), if_neg (not_not.2 hcode), if_neg (by rw [hshares]; decide)]

theorem qpt_confirmed (h : confirms s 0xA010 v) :
    confirmRow 0xA010 opAny true (~~~v) (begin_ s) = respOk 0 (actQpt v (taken 0xA010 v s)) :=
  confirmRow_confirmed h (by decide) (by decide) (by decide +kernel) rfl

end Sys2Proof.Machine
end

section
/-! Refill ticks, the timing wheel, guarantee misses and partition changes (R267 to R288). -/

namespace Sys2Proof

open Sys2Proof.Machine

variable {s : State} {v : Word}

theorem tick_refills (hrun : s.glb.coreRun = true) (hp : s.qos.pendingQpt = none) (hm : s.qos.pendingMore = [])
    (hr : s.reqs.all (fun r => decide (r.colour ≠ some .red)) = true) :
    completes .refillTick s fun t => t.qos.tick = s.qos.tick + 1
      ∧ (∀ x : Sc, t.qos.tb.get x = min (s.qos.tb.get x + (32 * regFld s 0x9010 26 16 : Nat)) 32768)
      ∧ t.qos.parts.map (fun e => (e.1, e.2.tc, e.2.tp)) = s.qos.parts.map fun e =>
        (e.1, min (e.2.tc + cfgCir e.2.cfg) (cfgCbs e.2.cfg * 2 ^ 12),
          min (e.2.tp + cfgPir e.2.cfg) (cfgPbs e.2.cfg * 2 ^ 12)) := by
  refine completes_of_run (f := refillTick) rfl ?_
  rw [refillTick_runs (s := begin_ s) hrun, tickBegun_idle (s := begin_ s) hp hm]
  generalize hu : takeThrottle (updQos (fun q => { q with tick := q.tick + 1 }) (begin_ s)) = u
  have qos : u.qos = { s.qos with tick := s.qos.tick + 1 } := by rw [← hu, takeThrottle_qos]; rfl
  have reqs : u.reqs = s.reqs := by rw [← hu]; exact reqs_of_seen (s := begin_ s) (by simp)
  have throttle : tNow u = regFld s 0x9010 26 16 := by rw [← hu, takeThrottle_tNow]; rfl
  rw [recolour_none (s := refillAll u) (by rw [← hr, ← reqs]; rfl)]
  refine ⟨congrArg Qos.tick qos, fun x => ?_, (missesJudged_buckets ..).trans ?_⟩
  · have filled : (refillAll u).qos.tb.get x = min (u.qos.tb.get x + (32 * tNow u : Nat)) 32768 := vget_map ..
    rw [qos, throttle] at filled
    exact filled
  · have filled : (refillAll u).qos.parts = u.qos.parts.map fun e => (e.1, refillPart e.2) := rfl
    rw [filled, List.map_map, qos]
    rfl

theorem tick_applies {b : BitVec 12} {w : Vector Word 8} (hrun : s.glb.coreRun = true) (hp : s.qos.pendingQpt = some (b, w))
    (hm : s.qos.pendingMore = []) :
    completes .refillTick s fun t => t.qos.pendingQpt = none ∧ (partOf t b.toNat).cfg = w := by
  refine completes_of_run (f := refillTick) rfl ?_
  rw [refillTick_runs (s := begin_ s) hrun]
  have begun : (tickBegun (begin_ s)).qos = (applyPending (updQos (fun q => { q with tick := q.tick + 1 }) (begin_ s))).qos :=
    takeThrottle_qos _
  constructor
  · have kept : (recolour (refillAll (tickBegun (begin_ s)))).qos.pendingQpt = (tickBegun (begin_ s)).qos.pendingQpt :=
      qos_pendingQpt_of_seen (by simp)
    exact kept.trans ((congrArg Qos.pendingQpt begun).trans (applyPending_done _))
  · rw [missesJudged_cfg, recolour_cfg, refillAll_cfg, partOf_of_parts (congrArg Qos.parts begun)]
    exact applyPending_cfg (s := updQos _ (begin_ s)) hp hm

theorem slot_refills (hrun : s.glb.coreRun = true) : completes .wheelSlot s fun t => t.qos.wheel = s.qos.wheel + 1
    ∧ t.qos.parts.map (fun e => (e.1, e.2.ts)) = (s.qos.parts.map fun e =>
      (e.1, if e.2.shapeEn then min (e.2.ts + rateEff s e.2) (cfgBurst e.2.cfg * 2 ^ 18 : Nat) else e.2.ts))
    ∧ t.reqs = s.reqs := by
  refine completes_of_run (f := wheelSlot) rfl ?_
  rw [wheelSlot_runs (s := begin_ s) hrun]
  exact ⟨rfl, List.map_map.trans (List.map_congr_left fun e _ => congrArg (Prod.mk e.1) (wheelPart_ts ..)), rfl⟩

theorem miss_counts {b : BitVec 12} (h : (partOf s b.toNat).missDue = true) :
    completes (.qosGuaranteeMiss b) s fun t => (partOf t b.toNat).missDue = false
      ∧ (partOf t b.toNat).misses = BitVec.ofNat 32 (min 0xFFFFFFFF ((partOf s b.toNat).misses.toNat + 1))
      ∧ regGet t 0x9050 = BitVec.ofNat 32 (min 0xFFFFFFFF ((regGet s 0x9050).toNat + 1))
      ∧ bitOf (regGet t 0x9034) 0 = true := by
  refine completes_of_run (f := guaranteeMiss b) rfl ?_
  have entry : partOf (guaranteeMiss b (begin_ s)) b.toNat = { partOf s b.toNat with
      missDue := false, misses := BitVec.ofNat 32 (sat 0xFFFFFFFF ((partOf s b.toNat).misses.toNat + 1)) } :=
    (partOf_of_parts (qos_parts_of_seen (seen_mono (by decide) (guaranteeMiss_ends (s := begin_ s) h))) _).trans
      (partOf_setPart_same ..)
  rw [entry, regGet_guaranteeMiss (s := begin_ s) h regGroup_9050, regGet_guaranteeMiss (s := begin_ s) h regGroup_9034,
    missEnded_counts, sat_eq_min]
  exact ⟨rfl, rfl, rfl, sqSet_sets 0x9034 (n := 0) (by decide) _⟩

theorem commit_pends (h : confirms s 0xA010 v) (hv : bitOf v 31 = true) (hp : s.qos.pendingQpt = none)
    (hm : s.qos.pendingMore = []) (hcode : partCode (fld v 11 0) s.qos.staging = 0)
    (hshares : sharesOk (qptWith s (fld v 11 0) s.qos.staging) = true) :
    completes (.qptCommit true (~~~v)) s fun t => t.qos.pendingQpt = some (BitVec.ofNat 12 (fld v 11 0), s.qos.staging)
      ∧ regFld t 0xA018 30 28 = 1 ∧ t.pp = none ∧ t.out = [.reg 0 0] := by
  refine completes_of_run (f := confirmRow 0xA010 opAny true (~~~v)) rfl ?_
  rw [qpt_confirmed h, actQpt_pends (s := taken 0xA010 v s) hv hp hm hcode hshares]
  exact ⟨rfl, qptStatus_code (by decide) (fld_lt v 11 0) _, rfl, rfl⟩

theorem commit_refused (h : confirms s 0xA010 v) (hv : bitOf v 31 = true) (hp : s.qos.pendingQpt = none)
    (hm : s.qos.pendingMore = []) (hcode : partCode (fld v 11 0) s.qos.staging ≠ 0) :
    completes (.qptCommit true (~~~v)) s fun t => t.qos = s.qos
      ∧ regFld t 0xA018 30 28 = partCode (fld v 11 0) s.qos.staging := by
  refine completes_of_run (f := confirmRow 0xA010 opAny true (~~~v)) rfl ?_
  rw [qpt_confirmed h, actQpt_refuses (s := taken 0xA010 v s) hv hp hm hcode]
  exact ⟨rfl, qptStatus_code (partCode_lt ..) (fld_lt v 11 0) _⟩

/-- Settles O22, command by command. -/
theorem ticksOfTheScheduler : Obligations.TicksOfTheScheduler :=
  ⟨fun _ hrun hp hm hr => tick_refills hrun hp hm hr, fun _ _ _ hrun hp hm => tick_applies hrun hp hm,
    fun _ hrun => slot_refills hrun, fun _ _ h => miss_counts h,
    fun _ _ h hv hp hm hcode hshares => commit_pends h hv hp hm hcode hshares,
    fun _ _ h hv hp hm hcode => commit_refused h hv hp hm hcode⟩

end Sys2Proof
end

section
/-! SUPPORT. A gear change at whose end panic begins, so that the power policy asks for the gear that has just failed. Panic is
judged at every change of what it rests on, so that no state that is reached from reset should be such a one. -/

namespace Sys2Proof.Machine

/-- The change from gear 0, the policy's low gear, to its high gear 1 has drained, and no request waits. rtp_urgent is 1 and may
start panic (PRT_RTP_URGENT_EN), which has not begun. -/
def urgentChange : State :=
  regSet 0x8140 0x00800000 <| regSet 0x3000 0x08000000 <| regSet 0x300C 0x10000000 <| regSet 0xE200 0x80000010 <|
    regSet 0xE000 0x8000000C { uninitialised with
      glb := { uninitialised.glb with ctl := .gearChange }
      phy := { Phy.reset with gearTo := some (1, 0) }
      qos := { uninitialised.qos with urgent := true } }

end Sys2Proof.Machine

namespace Sys2Proof

open Sys2Proof.Machine

/-- Refutes O30: gear 1 fails its read check, panic begins in SERVICE, the policy asks for gear 1 again (R487), and the code
shown is that of this request, 2 (unavailable), although no request waited during the change. -/
theorem not_gearChanges : ¬ Obligations.GearChanges := by
  unfold Obligations.GearChanges
  rintro ⟨-, -, -, -, hdone, -⟩
  obtain ⟨t, ht, -, -, -, -, -, hcode⟩ := hdone urgentChange 1 0 false (by decide +kernel) (by decide +kernel)
    (by decide +kernel) (by decide +kernel)
  have shown : (match exec (.gearChangeDone false) urgentChange with | .next t => regFld t 0x20030 30 28 | _ => 0) = 2 := by
    decide +kernel
  rw [ht] at shown
  exact absurd (shown.symm.trans (hcode (by decide +kernel))) (by decide)

end Sys2Proof
end

section
/-! SUPPORT. The lanes and strobe groups of a sub-channel after a change of one of them (R294, R299). -/

namespace Sys2Proof.Machine

variable {s t : State} {x : Sc} {g : GroupId} {i j : Fin 40}

theorem updPhySc_get (x : Sc) (f : PhySc → PhySc) (s : State) : (updPhySc x f s).phy.sc.get x = f (s.phy.sc.get x) :=
  vget_vmod_same ..

theorem laneAt_of_sc (h : t.phy.sc = s.phy.sc) (x : Sc) (i : Fin 40) : laneAt t x i = laneAt s x i := by
  rw [laneAt, h, laneAt]

theorem strobeAt_of_sc (h : t.phy.sc = s.phy.sc) (x : Sc) (g : GroupId) : strobeAt t x g = strobeAt s x g := by
  rw [strobeAt, h, strobeAt]

@[simp] theorem laneAt_updLane_same (x : Sc) (i : Fin 40) (f : Lane → Lane) (s : State) :
    laneAt (updLane x i f s) x i = f (laneAt s x i) := by
  simp [laneAt, updLane]

theorem laneAt_updLane_other (h : i ≠ j) (x : Sc) (f : Lane → Lane) (s : State) :
    laneAt (updLane x j f s) x i = laneAt s x i := by
  simp [laneAt, updLane, vget_vmod_other _ _ h]

@[simp] theorem strobeAt_updLane (x : Sc) (g : GroupId) (i : Fin 40) (f : Lane → Lane) (s : State) :
    strobeAt (updLane x i f s) x g = strobeAt s x g := by
  simp [strobeAt, updLane]

@[simp] theorem strobeAt_updGroup_same (x : Sc) (g : GroupId) (f : Group → Group) (s : State) :
    strobeAt (updGroup x g f s) x g = f (strobeAt s x g) := by
  simp [strobeAt, updGroup]

theorem lanes_updGroup (x : Sc) (g : GroupId) (f : Group → Group) (s : State) :
    ((updGroup x g f s).phy.sc.get x).lanes = (s.phy.sc.get x).lanes := by
  simp [updGroup]

@[simp] theorem laneAt_updGroup (x : Sc) (g : GroupId) (i : Fin 40) (f : Group → Group) (s : State) :
    laneAt (updGroup x g f s) x i = laneAt s x i := by
  rw [laneAt, lanes_updGroup, laneAt]

@[simp] theorem laneAt_newPoint (x : Sc) (g : GroupId) (i : Fin 40) (s : State) : laneAt (newPoint x g s) x i = laneAt s x i :=
  laneAt_updGroup ..

@[simp] theorem strobeAt_newPoint (x : Sc) (g : GroupId) (s : State) :
    strobeAt (newPoint x g s) x g = { strobeAt s x g with compared := 0 } :=
  strobeAt_updGroup_same ..

/-! ### Every lane of a group takes a change -/

theorem grpLanes_nodup (g : GroupId) : (grpLanes g).Nodup := by
  revert g
  decide +kernel

/-- Every lane of a group takes the change `f`. -/
def updLanes (x : Sc) (g : GroupId) (f : Lane → Lane) (s : State) : State := forAll (grpLanes g) (fun i => updLane x i f) s

theorem forAll_updLane {l : List (Fin 40)} (hl : l.Nodup) (x : Sc) (i : Fin 40) (f : Lane → Lane) (s : State) :
    laneAt (forAll l (fun i => updLane x i f) s) x i = if i ∈ l then f (laneAt s x i) else laneAt s x i := by
  unfold forAll
  induction l generalizing s with
  | nil => rfl
  | cons j l ih =>
    obtain ⟨hj, hl⟩ := List.nodup_cons.1 hl
    rw [List.foldl_cons, ih hl]
    by_cases hi : i = j
    · subst hi
      simp [hj]
    · simp [hi, laneAt_updLane_other hi]

@[simp] theorem laneAt_updLanes (hi : i ∈ grpLanes g) (x : Sc) (f : Lane → Lane) (s : State) :
    laneAt (updLanes x g f s) x i = f (laneAt s x i) :=
  (forAll_updLane (grpLanes_nodup g) x i f s).trans (if_pos hi)

@[simp] theorem strobeAt_updLanes (x : Sc) (g g' : GroupId) (f : Lane → Lane) (s : State) :
    strobeAt (updLanes x g f s) x g' = strobeAt s x g' :=
  forAll_inv (P := fun u => strobeAt u x g' = strobeAt s x g') _ (fun _ _ h => (strobeAt_updLane ..).trans h) rfl

theorem groupIdle_of_active (hi : i ∈ grpLanes g) (h : (laneAt s x i).phase ≠ .idle) : groupIdle s x g = false :=
  List.all_eq_false.2 ⟨i, hi, by simpa using h⟩

/-! ### A sweep begins (R302, R309) -/

/-- The lane at the first point of a sweep: the scout stands at the live codes. -/
def Lane.swept (a : Lane) : Lane :=
  ({ a with phase := .left, open_ := false } : Lane).toPoint a.liveCode.toNat a.liveVref.toNat

theorem startSweep_lane (hi : i ∈ grpLanes g) (s : State) : laneAt (startSweep x g s) x i = (laneAt s x i).swept := by
  rw [show startSweep x g s = newPoint x g (updLanes x g Lane.swept (updGroup x g _ s)) from rfl, laneAt_newPoint,
    laneAt_updLanes hi, laneAt_updGroup]

theorem startSweep_strobe (x : Sc) (g : GroupId) (s : State) : strobeAt (startSweep x g s) x g =
    { strobeAt s x g with confirming := false, exchange := false, backoff := false, cfg := scoutWords s, compared := 0 } := by
  rw [show startSweep x g s = newPoint x g (updLanes x g Lane.swept (updGroup x g _ s)) from rfl, strobeAt_newPoint,
    strobeAt_updLanes, strobeAt_updGroup_same]

/-! ### Status bits of the PHY (R40) -/

theorem regGet_phyStatus_of_seen (e : t.seen 0x1FFFBFFFFFFFFFFFFFFFFFFFFFFFFFFFFFFFFFFFFFFFF =
    s.seen 0x1FFFBFFFFFFFFFFFFFFFFFFFFFFFFFFFFFFFFFFFFFFFF) : regGet t rPhyStatus = regGet s rPhyStatus :=
  regGet_of_seen e rPhyStatus (by rw [show regGroup rPhyStatus = 15 from rfl]; decide)

end Sys2Proof.Machine
end

section
/-! SUPPORT. Scouts: a point of a sweep, a confirmation, a reject and an exchange (R300 to R307). -/

namespace Sys2Proof.Machine

variable {s t : State} {x : Sc} {g : GroupId} {i : Fin 40}

/-! ### A point and a confirmation (R300 to R305) -/

/-- Every lane of the group has judged its point, and the next points begin. -/
def pointJudged (x : Sc) (g : GroupId) (s : State) : State :=
  newPoint x g (updLanes x g (fun a => sweepPoint (strobeAt s x g).cfg a.dis a) s)

section
variable (hs : scoutState s x = true) (ho : scoutsOn s x = true) (hf : groupFrozen s x g = false)
  (he : (strobeAt s x g).exchange = false) (hb : (strobeAt s x g).backoff = false) (hi : groupIdle s x g = false)
  (hc : comparing (s.phy.sc.get x) g = true)
include hs ho hf he hb hi hc

theorem scoutPointDone_confirms (hn : (strobeAt s x g).confirming = true) : scoutPointDone x g s = confirmDone x g s := by
  unfold scoutPointDone
  simp only [hs, ho, hf, he, hb, hi, hc, hn]
  rfl

/-- The points of a sweep are judged once their bursts are compared; the sweep goes on while a lane walks. -/
theorem scoutPointDone_judges (hn : (strobeAt s x g).confirming = false)
    (hp : pointBursts (strobeAt s x g).cfg ≤ (strobeAt s x g).compared)
    (hw : groupIdle (pointJudged x g s) x g = false) : scoutPointDone x g s = pointJudged x g s := by
  unfold scoutPointDone
  simp only [hs, ho, hf, he, hb, hi, hc, hn, Nat.not_lt.2 hp]
  exact if_neg (show ¬ groupIdle (pointJudged x g s) x g = true by simp [hw])

end

/-- A left walk that passes within its span goes one step on. -/
theorem sweepPoint_left {c : Vector Word 4} {a : Lane} (hp : a.phase = .left) (hd : a.dis < edgeErr c)
    (hspan : (a.liveCode.toNat : Int) - a.c ≤ sweepSpan c) :
    sweepPoint c a.dis a = { a with c := a.c - sweepStep c, dis := 0 } := by
  unfold sweepPoint
  simp [hp, hd, hspan, Lane.toPoint]

theorem confirmDone_agrees (hd : ∀ i ∈ grpLanes g, (laneAt s x i).dis = 0)
    (hn : 16 * fld ((strobeAt s x g).cfg)[1] 7 0 ≤ (strobeAt s x g).compared) :
    confirmDone x g s = updGroup x g (fun q => { q with confirming := false, exchange := true }) s := by
  have agree : (grpLanes g).zipIdx.find? (fun e => decide (0 < (laneAt s x e.1).dis)) = none :=
    List.find?_eq_none.2 fun e he => by simp [hd e.1 (List.fst_mem_of_mem_zipIdx he)]
  unfold confirmDone
  rw [agree]
  exact if_pos hn

/-- The scouts of a group stop, and it counts bursts before its next sweep. -/
def backedAway (x : Sc) (g : GroupId) (s : State) : State :=
  updGroup x g (fun q => { q with backoff := true }) (stopScouts x g s)

theorem confirmDone_rejects (hd : ∃ i ∈ grpLanes g, 0 < (laneAt s x i).dis) :
    ∃ lane value, confirmDone x g s = newPoint x g (groupReject x g 0 6 lane value (backedAway x g s)) := by
  obtain ⟨i, hi, hd⟩ := hd
  obtain ⟨k, hk, rfl⟩ := List.mem_iff_getElem.1 hi
  have disagrees : ∃ e ∈ (grpLanes g).zipIdx, decide (0 < (laneAt s x e.1).dis) = true :=
    List.exists_mem_zipIdx'.2 ⟨k, hk, decide_eq_true hd⟩
  obtain ⟨⟨i, j⟩, found⟩ := Option.isSome_iff_exists.1 (List.find?_isSome.2 disagrees)
  unfold confirmDone
  rw [found]
  exact ⟨j, _, rfl⟩

theorem backedAway_strobe (x : Sc) (g : GroupId) (s : State) : strobeAt (backedAway x g s) x g =
    { strobeAt s x g with confirming := false, exchange := false, backoff := true } := by
  rw [backedAway, strobeAt_updGroup_same,
    show stopScouts x g s = updLanes x g (fun a => { a with phase := .idle }) (updGroup x g _ s) from rfl,
    strobeAt_updLanes, strobeAt_updGroup_same]

theorem satInc_eq (w : Word) : satInc w = BitVec.ofNat 32 (min 0xFFFFFFFF (w.toNat + 1)) := by
  rw [satInc, sat_eq_min]

theorem groupReject_strobe (kind reason lane : Nat) (value : Option Int) (x : Sc) (g : GroupId) (s : State) :
    strobeAt (groupReject x g kind reason lane value s) x g = { strobeAt s x g with
      rejects := BitVec.ofNat 32 (min 0xFFFFFFFF ((strobeAt s x g).rejects.toNat + 1))
      rejectRun := BitVec.ofNat 16 (min 0xFFFF ((strobeAt s x g).rejectRun.toNat + 1))
      reason := BitVec.ofNat 4 reason } := by
  rw [← satInc_eq, ← sat_eq_min]
  exact (strobeAt_of_sc (phy_sc_of_seen (by simp [groupReject])) x g).trans (strobeAt_updGroup_same x g (fun q => { q with
    rejects := satInc q.rejects
    rejectRun := BitVec.ofNat 16 (sat 0xFFFF (q.rejectRun.toNat + 1))
    reason := BitVec.ofNat 4 reason }) s)

theorem groupReject_shows (reason lane : Nat) (value : Option Int) (x : Sc) (g : GroupId) (s : State) :
    bitOf (regGet (groupReject x g 0 reason lane value s) rPhyStatus) (4 + x.val) = true := by
  unfold groupReject
  rw [regGet_phyStatus_of_seen (rejectRecord_keeps (by decide) ..)]
  exact sqSet_sets rPhyStatus (by omega) _

/-! ### The end of a back-off (R304) -/

theorem scoutBackoffEnd_sweeps (hs : scoutState s x = true) (ho : scoutsOn s x = true) (hf : groupFrozen s x g = false)
    (hb : (strobeAt s x g).backoff = true) (hn : 2 ^ fld ((strobeAt s x g).cfg)[3] 15 12 ≤ (strobeAt s x g).compared) :
    scoutBackoffEnd x g s = startSweep x g s := by
  unfold scoutBackoffEnd
  simp only [hs, ho, hf, hb, decide_eq_true hn]
  rfl

/-! ### An exchange (R306, R307) -/

/-- The samplers of a lane change roles. -/
def Lane.swapped (a : Lane) : Lane := { a with liveB := !a.liveB, phase := .idle }

theorem Lane.swapped_liveCode (a : Lane) : a.swapped.liveCode = a.scoutCode := by
  unfold Lane.liveCode Lane.scoutCode Lane.swapped
  cases a.liveB <;> rfl

theorem Lane.swapped_scoutCode (a : Lane) : a.swapped.scoutCode = a.liveCode := by
  unfold Lane.liveCode Lane.scoutCode Lane.swapped
  cases a.liveB <;> rfl

/-- A group after an exchange at the window that begins at ck `w`, whose lanes have moved by `moves`. -/
def Group.promoted (now w : Nat) (moves : List Int) (q : Group) : Group :=
  { q with
    promotions := satInc q.promotions, lastPromo := now, rejectRun := 0, exchange := false, lastSwap := w
    gateTo := codePlus q.gateTo (meanMove moves) }

/-- The samplers of a group have changed roles at the window that begins at ck `w`. -/
def rolesExchanged (x : Sc) (g : GroupId) (w : Nat) (s : State) : State :=
  updGroup x g (Group.promoted s.glb.now w (((grpLanes g).map (scoutEye s x)).map Eye.move)) (updLanes x g Lane.swapped s)

/-- The exchange is in the Lifeline and shown. -/
def exchangeShown (x : Sc) (g : GroupId) (s : State) : State :=
  sqSet rPhyStatus (pack [(1, x.val)]) (forAll (grpLanes g) (llSetLive x) s)

theorem roleExchange_exchanges (hs : scoutState s x = true) (ho : scoutsOn s x = true) (hf : groupFrozen s x g = false)
    (he : (strobeAt s x g).exchange = true) (hw : swapWindow s x (ckNow s x) < ckNow s x + 4) :
    ∃ move vmove width, roleExchange x g s = startSweep x g (promoteRecord x g.val 0 move vmove width
      (exchangeShown x g (rolesExchanged x g (swapWindow s x (ckNow s x)) s))) := by
  have late : decide (ckNow s x + 4 ≤ swapWindow s x (ckNow s x)) = false := decide_eq_false (by omega)
  unfold roleExchange
  simp only [hs, ho, hf, he, late]
  exact ⟨_, _, _, rfl⟩

section
variable (move vmove : Int) (width w : Nat)

theorem exchanged_sc (x : Sc) (g : GroupId) (s : State) :
    (promoteRecord x g.val 0 move vmove width (exchangeShown x g (rolesExchanged x g w s))).phy.sc =
      (rolesExchanged x g w s).phy.sc :=
  phy_sc_of_seen (by simp [exchangeShown])

theorem exchanged_lane (hi : i ∈ grpLanes g) (s : State) :
    laneAt (promoteRecord x g.val 0 move vmove width (exchangeShown x g (rolesExchanged x g w s))) x i =
      (laneAt s x i).swapped := by
  rw [laneAt_of_sc (exchanged_sc ..), rolesExchanged, laneAt_updGroup, laneAt_updLanes hi]

theorem exchanged_strobe (x : Sc) (g : GroupId) (s : State) :
    strobeAt (promoteRecord x g.val 0 move vmove width (exchangeShown x g (rolesExchanged x g w s))) x g =
      (strobeAt s x g).promoted s.glb.now w (((grpLanes g).map (scoutEye s x)).map Eye.move) := by
  rw [strobeAt_of_sc (exchanged_sc ..), rolesExchanged, strobeAt_updGroup_same, strobeAt_updLanes]

theorem exchanged_shows (x : Sc) (g : GroupId) (s : State) :
    bitOf (regGet (promoteRecord x g.val 0 move vmove width (exchangeShown x g s)) rPhyStatus) x.val = true := by
  rw [regGet_phyStatus_of_seen (promoteRecord_keeps (by decide) ..)]
  exact sqSet_sets rPhyStatus (by omega) _

end

/-! ### A forced window (R297) -/

theorem forcedSwapWindow_forces (hl : ((codesGoOn x s).phy.sc.get x).waitCk.any (fun t =>
      decide (t + 400 * rateOf (codesGoOn x s) (codesGoOn x s).glb.gear ≤ ckNow (codesGoOn x s) x)) = true)
    (hm : linesMove (codesGoOn x s) x = true) (hf : ((codesGoOn x s).sched.get x).forceWindow = false) :
    forcedSwapWindow x s =
      bump (0x20108 + 0x10 * x.val) (updSched x (fun q => { q with forceWindow := true }) (codesGoOn x s)) := by
  unfold forcedSwapWindow
  simp only [hl, hm, hf]
  rfl

theorem forcedSwapWindow_idle (hw : ((codesGoOn x s).phy.sc.get x).waitCk = none) : forcedSwapWindow x s = codesGoOn x s := by
  unfold forcedSwapWindow
  simp only [hw]
  rfl

end Sys2Proof.Machine
end

section
/-! Scouts: points, confirmations, back-off, exchanges and forced windows (R297 to R309). -/

namespace Sys2Proof

open Sys2Proof.Machine

variable {s : State} {x : Sc} {g : GroupId} {i : Fin 40} {c : Ch} {b : Bool}

theorem leftPoint_passes (hx : scAt c b = x) (hs : scoutState s x = true) (ho : scoutsOn s x = true)
    (hf : groupFrozen s x g = false) (he : (strobeAt s x g).exchange = false) (hb : (strobeAt s x g).backoff = false)
    (hn : (strobeAt s x g).confirming = false) (hc : comparing (s.phy.sc.get x) g = true)
    (hp : pointBursts (strobeAt s x g).cfg ≤ (strobeAt s x g).compared) (hi : i ∈ grpLanes g)
    (hl : (laneAt s x i).phase = .left) (hd : (laneAt s x i).dis < edgeErr (strobeAt s x g).cfg)
    (hspan : ((laneAt s x i).liveCode.toNat : Int) - (laneAt s x i).c ≤ sweepSpan (strobeAt s x g).cfg) :
    completes (.scoutPointDone c b g) s fun t =>
      laneAt t x i = { laneAt s x i with c := (laneAt s x i).c - sweepStep (strobeAt s x g).cfg, dis := 0 }
        ∧ strobeAt t x g = { strobeAt s x g with compared := 0 } ∧ t.out = [] := by
  subst hx
  refine completes_of_run (f := scoutPointDone (scAt c b) g) rfl ?_
  have lane : laneAt (pointJudged (scAt c b) g (begin_ s)) (scAt c b) i = { laneAt s (scAt c b) i with
      c := (laneAt s (scAt c b) i).c - sweepStep (strobeAt s (scAt c b) g).cfg, dis := 0 } := by
    rw [pointJudged, laneAt_newPoint, laneAt_updLanes hi]
    exact sweepPoint_left hl hd hspan
  have walks : groupIdle (pointJudged (scAt c b) g (begin_ s)) (scAt c b) g = false :=
    groupIdle_of_active hi (by rw [lane]; simp [hl])
  have idle : groupIdle (begin_ s) (scAt c b) g = false := groupIdle_of_active hi (ne_of_eq_of_ne hl (by decide))
  rw [scoutPointDone_judges (s := begin_ s) hs ho hf he hb idle hc hn hp walks]
  exact ⟨lane, by rw [pointJudged, strobeAt_newPoint, strobeAt_updLanes]; rfl,
    out_of_seen (s := begin_ s) (by simp [pointJudged, updLanes])⟩

theorem confirmation_confirms (hx : scAt c b = x) (hs : scoutState s x = true) (ho : scoutsOn s x = true)
    (hf : groupFrozen s x g = false) (he : (strobeAt s x g).exchange = false) (hb : (strobeAt s x g).backoff = false)
    (hn : (strobeAt s x g).confirming = true) (hi : groupIdle s x g = false) (hc : comparing (s.phy.sc.get x) g = true)
    (hd : ∀ i ∈ grpLanes g, (laneAt s x i).dis = 0)
    (hp : 16 * fld ((strobeAt s x g).cfg)[1] 7 0 ≤ (strobeAt s x g).compared) :
    completes (.scoutPointDone c b g) s fun t =>
      strobeAt t x g = { strobeAt s x g with confirming := false, exchange := true }
        ∧ (t.phy.sc.get x).lanes = (s.phy.sc.get x).lanes := by
  subst hx
  refine completes_of_run (f := scoutPointDone (scAt c b) g) rfl ?_
  rw [scoutPointDone_confirms (s := begin_ s) hs ho hf he hb hi hc hn, confirmDone_agrees (s := begin_ s) hd hp]
  exact ⟨strobeAt_updGroup_same .., lanes_updGroup ..⟩

theorem confirmation_rejects (hx : scAt c b = x) (hs : scoutState s x = true) (ho : scoutsOn s x = true)
    (hf : groupFrozen s x g = false) (he : (strobeAt s x g).exchange = false) (hb : (strobeAt s x g).backoff = false)
    (hn : (strobeAt s x g).confirming = true) (hi : groupIdle s x g = false) (hc : comparing (s.phy.sc.get x) g = true)
    (hd : ∃ i ∈ grpLanes g, 0 < (laneAt s x i).dis) :
    completes (.scoutPointDone c b g) s fun t => (strobeAt t x g).backoff = true ∧ (strobeAt t x g).confirming = false
      ∧ (strobeAt t x g).reason = 6
      ∧ (strobeAt t x g).rejects = BitVec.ofNat 32 (min 0xFFFFFFFF ((strobeAt s x g).rejects.toNat + 1))
      ∧ (strobeAt t x g).rejectRun = BitVec.ofNat 16 (min 0xFFFF ((strobeAt s x g).rejectRun.toNat + 1))
      ∧ bitOf (regGet t 0x20034) (4 + x.val) = true := by
  subst hx
  refine completes_of_run (f := scoutPointDone (scAt c b) g) rfl ?_
  obtain ⟨lane, value, rejects⟩ := confirmDone_rejects (s := begin_ s) hd
  rw [scoutPointDone_confirms (s := begin_ s) hs ho hf he hb hi hc hn, rejects, strobeAt_newPoint, groupReject_strobe,
    backedAway_strobe]
  exact ⟨rfl, rfl, rfl, rfl, rfl, groupReject_shows ..⟩

theorem backoff_ends (hs : scoutState s x = true) (ho : scoutsOn s x = true) (hf : groupFrozen s x g = false)
    (hb : (strobeAt s x g).backoff = true) (hn : 2 ^ fld ((strobeAt s x g).cfg)[3] 15 12 ≤ (strobeAt s x g).compared)
    (hi : i ∈ grpLanes g) :
    completes (.scoutBackoffEnd x g) s fun t => (strobeAt t x g).backoff = false ∧ (strobeAt t x g).cfg = scoutWords s
      ∧ (laneAt t x i).phase = .left ∧ (laneAt t x i).c = (laneAt s x i).liveCode.toNat
      ∧ (laneAt t x i).liveCode = (laneAt s x i).liveCode := by
  refine completes_of_run (f := scoutBackoffEnd x g) rfl ?_
  rw [scoutBackoffEnd_sweeps (s := begin_ s) hs ho hf hb hn, startSweep_strobe, startSweep_lane hi]
  exact ⟨rfl, rfl, rfl, rfl, rfl⟩

theorem roles_exchange (hs : scoutState s x = true) (ho : scoutsOn s x = true) (hf : groupFrozen s x g = false)
    (he : (strobeAt s x g).exchange = true) (hw : swapWindow s x (ckNow s x) < ckNow s x + 4) (hi : i ∈ grpLanes g) :
    completes (.roleExchange x g) s fun t => (laneAt t x i).liveB = !(laneAt s x i).liveB
      ∧ (laneAt t x i).liveCode = (laneAt s x i).scoutCode ∧ (laneAt t x i).scoutCode = (laneAt s x i).liveCode
      ∧ (strobeAt t x g).exchange = false
      ∧ (strobeAt t x g).promotions = BitVec.ofNat 32 (min 0xFFFFFFFF ((strobeAt s x g).promotions.toNat + 1))
      ∧ (strobeAt t x g).lastPromo = s.glb.now ∧ (strobeAt t x g).lastSwap = swapWindow s x (ckNow s x)
      ∧ bitOf (regGet t 0x20034) x.val = true := by
  refine completes_of_run (f := roleExchange x g) rfl ?_
  obtain ⟨move, vmove, width, exchanges⟩ := roleExchange_exchanges (s := begin_ s) hs ho hf he hw
  rw [exchanges, startSweep_strobe, startSweep_lane hi, exchanged_lane _ _ _ _ hi, exchanged_strobe, ← satInc_eq]
  refine ⟨rfl, Lane.swapped_liveCode (laneAt s x i), Lane.swapped_scoutCode (laneAt s x i), rfl, rfl, rfl, rfl, ?_⟩
  rw [show (0x20034 : Nat) = rPhyStatus from rfl, regGet_phyStatus_of_seen (startSweep_keeps (by decide) ..)]
  exact exchanged_shows ..

/-- Settles O28, command by command. -/
theorem scoutsAndExchange : Obligations.ScoutsAndExchange := by
  refine ⟨fun _ _ _ _ _ _ hx hs ho hf he hb hn hc hp hi hl hd hspan =>
      leftPoint_passes hx hs ho hf he hb hn hc hp hi hl hd hspan,
    fun _ _ _ _ _ hx hs ho hf he hb hn hi hc hd hp => confirmation_confirms hx hs ho hf he hb hn hi hc hd hp,
    fun _ _ _ _ _ hx hs ho hf he hb hn hi hc hd => confirmation_rejects hx hs ho hf he hb hn hi hc hd,
    fun _ _ _ _ hs ho hf hb hn hi => backoff_ends hs ho hf hb hn hi,
    fun _ _ _ _ hs ho hf he hw hi => roles_exchange hs ho hf he hw hi, fun s u x hu hl hm hf => ?_, fun s u x hu hw => ?_⟩
  · subst hu
    exact completes_of_run (f := forcedSwapWindow x) rfl (forcedSwapWindow_forces (s := begin_ s) hl hm hf)
  · subst hu
    exact completes_of_run (f := forcedSwapWindow x) rfl (forcedSwapWindow_idle (s := begin_ s) hw)

end Sys2Proof
end

section
/-! SUPPORT. Requests for swatch runs, and the start and the end of a run (R303, R310 to R313, R325). -/

namespace Sys2Proof.Machine

variable {s t : State} {x y : Sc} {i : Fin 40}

/-! ### Requests (R310) -/

theorem updPhySc_get_other (h : y ≠ x) (f : PhySc → PhySc) (s : State) : (updPhySc x f s).phy.sc.get y = s.phy.sc.get y :=
  vget_vmod_other _ _ h

theorem forAll_updPhySc {l : List Sc} (hl : l.Nodup) (f : PhySc → PhySc) (s : State) (y : Sc) :
    (forAll l (fun x => updPhySc x f) s).phy.sc.get y = if y ∈ l then f (s.phy.sc.get y) else s.phy.sc.get y := by
  unfold forAll
  induction l generalizing s with
  | nil => rfl
  | cons x l ih =>
    obtain ⟨hx, hl⟩ := List.nodup_cons.1 hl
    rw [List.foldl_cons, ih hl]
    by_cases hy : y = x
    · subst hy
      simp [hx]
    · simp [hy, vget_vmod_other _ _ hy]

theorem actSwatchReq_asks (v : Word) (s : State) (y : Sc) :
    ((actSwatchReq v s).phy.sc.get y).swReq = ((s.phy.sc.get y).swReq || v.getLsbD y.val) := by
  have once : ((fins 4).filter fun x : Sc => v.getLsbD x.val).Nodup := (List.nodup_finRange 4).filter _
  unfold actSwatchReq
  rw [forAll_updPhySc once (fun p => { p with swReq := true })]
  cases hv : v.getLsbD y.val <;> simp [mem_fins, hv]

theorem swatch_confirmed {v : Word} (h : confirms s 0x20020 v) :
    confirmRow 0x20020 opAny true (~~~v) (begin_ s) = respOk 0 (actSwatchReq v { begin_ s with pp := none }) :=
  confirmRow_confirmed h (by decide) (by decide) (by decide +kernel) rfl

/-! ### Transmit codes are sent to offsets (R310) -/

theorem laneAt_txTarget (f : Nat → Int) (x : Sc) (i : Fin 40) (s : State) :
    laneAt (txTarget x f s) x i = { laneAt s x i with txTo := codePlus (llTx s x i.val) (f i.val) } := by
  unfold laneAt txTarget
  rw [updPhySc_get]
  simp [Vector.get_eq_getElem]

/-- The targets of the transmit codes apart, the sub-channel is as before. -/
theorem txTarget_sc (f : Nat → Int) (x : Sc) (s : State) :
    ∃ l, (txTarget x f s).phy.sc.get x = { s.phy.sc.get x with lanes := l } :=
  ⟨_, updPhySc_get ..⟩

theorem laneAt_of_lanes (h : (t.phy.sc.get x).lanes = (s.phy.sc.get x).lanes) (i : Fin 40) : laneAt t x i = laneAt s x i := by
  rw [laneAt, h, laneAt]

/-! ### A run begins (R310, R322) -/

/-- A run with its settings, before its codes are sent to the first offset. -/
def runBegun (x : Sc) (s : State) : State :=
  updPhySc x (fun p => { p with
    seq := .swatch, swReq := false, swWanted := false, run := some ⟨.shift, 0, 0, [], [], [], swCfg s, scoutWords s⟩ }) s

/-- The codes of a run are sent to its first offset. -/
def firstOffset (x : Sc) (s : State) : State :=
  txTarget x (fun _ => swOffset (swSpan (swCfg s)) (swStep (swCfg s)) 0) (runBegun x s)

theorem swatchRunStart_begins (ha : trainAsks s x = true) (hs : (s.phy.sc.get x).seq = .idle)
    (hh : (s.sched.get x).holder = some 2) : swatchRunStart x s =
      bump (0x20104 + 0x10 * x.val) (updSched x (fun q => { q with writeHold := true }) (firstOffset x s)) := by
  unfold swatchRunStart
  simp only [ha, hs, hh]
  rfl

theorem firstOffset_sc (x : Sc) (s : State) : ∃ l, (firstOffset x s).phy.sc.get x = { s.phy.sc.get x with
    seq := .swatch, swReq := false, swWanted := false, lanes := l
    run := some ⟨.shift, 0, 0, [], [], [], swCfg s, scoutWords s⟩ } := by
  obtain ⟨l, hl⟩ := txTarget_sc (fun _ => swOffset (swSpan (swCfg s)) (swStep (swCfg s)) 0) x (runBegun x s)
  exact ⟨l, by rw [firstOffset, hl, runBegun, updPhySc_get]⟩

theorem firstOffset_lane (x : Sc) (i : Fin 40) (s : State) : laneAt (firstOffset x s) x i =
    { laneAt s x i with txTo := codePlus (llTx s x i.val) (swOffset (swSpan (swCfg s)) (swStep (swCfg s)) 0) } := by
  have lanes : laneAt (runBegun x s) x i = laneAt s x i := laneAt_of_lanes (by rw [runBegun, updPhySc_get]) i
  rw [firstOffset, laneAt_txTarget, lanes]
  rfl

/-! ### A read of a run (R312) -/

theorem updRun_run (x : Sc) (f : SwRun → SwRun) (s : State) :
    ((updRun x f s).phy.sc.get x).run = (s.phy.sc.get x).run.map f := by
  rw [updRun, updPhySc_get]

theorem compareLanes_run (g : RdTag) (rx : Capture) (d : Decoded) (x : Sc) (s : State) :
    ((compareLanes g rx d s).phy.sc.get x).run = (s.phy.sc.get x).run := by
  unfold compareLanes
  split
  · rfl
  · by_cases hx : x = scOf g.lla
    · rw [hx, updPhySc_get]
    · rw [updPhySc_get_other hx]

/-- What a read of a run leaves of it. -/
def SwRun.seen (g : RdTag) (k : Nat) (b : Burst) (r : SwRun) : SwRun :=
  { r with
    waits := r.waits - 1
    bad := r.bad ++ (badLanes b (encodeLine g.lla (swatchLine k) false)).map fun i => 40 * (unpackLla g.lla).cs + i }

theorem readDecode_swatch {g : RdTag} {k : Nat} (hg : (s.sched.get x).pipe.find? (fun r => r.origin.isRead) = some g)
    (ho : g.origin = .swatch k) (rx : Capture) : readDecode x rx s =
      updRun x (SwRun.seen g k (g.burst s rx)) (compareLanes g rx (g.decode s rx) (pipeLeft x g s)) := by
  unfold readDecode
  rw [takeTag_first hg]
  simp only [ho]
  rfl

/-! ### A run ends (R310, R325) -/

/-- The groups apart, the sub-channel is as before. -/
def OnlyGroups (x : Sc) (s t : State) : Prop := ∃ l, t.phy.sc.get x = { s.phy.sc.get x with groups := l }

theorem onlyGroups_refl (x : Sc) (s : State) : OnlyGroups x s s := ⟨_, rfl⟩

theorem OnlyGroups.trans {u : State} (h : OnlyGroups x s t) (h' : OnlyGroups x t u) : OnlyGroups x s u := by
  obtain ⟨l, hl⟩ := h
  obtain ⟨m, hm⟩ := h'
  exact ⟨m, by rw [hm, hl]⟩

theorem updGroup_onlyGroups (x : Sc) (g : GroupId) (f : Group → Group) (s : State) : OnlyGroups x s (updGroup x g f s) :=
  ⟨_, updPhySc_get ..⟩

theorem groupReject_onlyGroups (x : Sc) (g : GroupId) (kind reason lane : Nat) (value : Option Int) (s : State) :
    OnlyGroups x s (groupReject x g kind reason lane value s) := by
  unfold groupReject
  rw [OnlyGroups, phy_sc_of_seen (rejectRecord_keeps (by decide) ..), phy_sc_of_seen (onlyIf_keeps _ _ _ (sqSet_keeps _ _ _ (by simp)))]
  exact updGroup_onlyGroups ..

theorem swatchGroup_onlyGroups (x : Sc) (r : SwRun) (g : GroupId) (s : State) : OnlyGroups x s (swatchGroup x r g s).2 := by
  unfold swatchGroup
  dsimp only
  split
  · exact onlyGroups_refl x s
  · split
    · exact groupReject_onlyGroups ..
    · exact updGroup_onlyGroups ..
    · exact onlyGroups_refl x s

theorem swatchJudge_onlyGroups (x : Sc) (r : SwRun) (s : State) : OnlyGroups x s (swatchJudge x r s).2 :=
  List.foldlRecOn (motive := fun p : List SwGroup × State => OnlyGroups x s p.2) _ _ (onlyGroups_refl x s)
    fun p h g _ => h.trans (swatchGroup_onlyGroups x r g p.2)

/-- The run settles, its counts are the new N_ref values, and what oscillator tracking had moved is forgotten. -/
def runSettles (x : Sc) (counts : List Nat) (s : State) : State :=
  updPhySc x (fun p => { p with nref := counts, moved := Vector.replicate 10 0 })
    (updRun x (fun r => { r with stage := .settle }) s)

/-- The codes and reference voltages of a run that is judged are sent to where the judgement puts them. -/
def runCentred (x : Sc) (move : Nat → Int) (vref : Nat → Nat → Nat) (r : SwRun) (s : State) : State :=
  llArrived x (txTarget x move (allVrefs x vref (swatchJudge x r s).2))

/-- What the end of a run shows, in its order: rejects, the new device words, the flag of the end. -/
def runShown (x : Sc) (rejected accepted : Bool) (dev : List Word) (s : State) : State :=
  sqSet rPhyStatus (pack [(1, 8 + x.val)])
    (onlyIf accepted (llSetDev x dev) (onlyIf rejected (sqSet rPhyStatus (pack [(1, 12 + x.val)])) s))

theorem swatchRunEnd_ends {r : SwRun} (counts : List Nat) (hr : (s.phy.sc.get x).run = some r) (hj : r.stage = .judge)
    (hq : (s.phy.sc.get x).seq = .swatch) (hs : swatchState s x = true) (hh : (s.sched.get x).holder = some 2) :
    ∃ told move vmove width rejected accepted dev aim vref, swatchRunEnd x counts s =
      onlyIf told (promoteRecord x 0xF 1 move vmove width)
        (runShown x rejected accepted dev (runSettles x counts (runCentred x aim vref r s))) := by
  have told : ∀ (e : Bool) (f : State → State) (u : State), (if e then u else f u) = onlyIf (!e) f u := fun e _ _ => by
    cases e <;> rfl
  unfold swatchRunEnd
  simp only [hr, hj, hq, hs, hh, told]
  exact ⟨_, _, _, _, _, _, _, _, _, rfl⟩

theorem runCentred_sc (x : Sc) (move : Nat → Int) (vref : Nat → Nat → Nat) (r : SwRun) (s : State) :
    ∃ l m, (runCentred x move vref r s).phy.sc.get x = { s.phy.sc.get x with lanes := l, groups := m } := by
  obtain ⟨m, hm⟩ := swatchJudge_onlyGroups x r s
  obtain ⟨l, hl⟩ := txTarget_sc move x (allVrefs x vref (swatchJudge x r s).2)
  refine ⟨l, m, ?_⟩
  rw [runCentred, phy_sc_of_seen (llArrived_keeps (by decide) ..), hl, phy_sc_of_seen (allVrefs_keeps (by decide) ..), hm]

theorem runCentred_tx (x : Sc) (i : Fin 40) (move : Nat → Int) (vref : Nat → Nat → Nat) (r : SwRun) (s : State) :
    (laneAt (runCentred x move vref r s) x i).tx = (laneAt s x i).tx := by
  obtain ⟨m, hm⟩ := swatchJudge_onlyGroups x r s
  have judged : laneAt (allVrefs x vref (swatchJudge x r s).2) x i = laneAt s x i :=
    (laneAt_of_sc (phy_sc_of_seen (allVrefs_keeps (by decide) ..)) x i).trans (laneAt_of_lanes (by rw [hm]) i)
  rw [runCentred, laneAt_of_sc (phy_sc_of_seen (llArrived_keeps (by decide) ..)), laneAt_txTarget, judged]

section
variable (told rejected accepted : Bool) (move vmove : Int) (width : Nat) (dev : List Word)

theorem runShown_sc (x : Sc) (s : State) :
    (onlyIf told (promoteRecord x 0xF 1 move vmove width) (runShown x rejected accepted dev s)).phy.sc = s.phy.sc :=
  phy_sc_of_seen (by simp [runShown])

theorem runShown_shows (x : Sc) (s : State) :
    bitOf (regGet (onlyIf told (promoteRecord x 0xF 1 move vmove width) (runShown x rejected accepted dev s)) rPhyStatus)
      (8 + x.val) = true := by
  rw [regGet_phyStatus_of_seen (onlyIf_keeps _ _ _ (promoteRecord_keeps (by decide) ..))]
  exact sqSet_sets rPhyStatus (by omega) _

end

/-! ### A run is given up (R314, R315, R324) -/

/-- A run is forgotten: its codes walk, and what it still had to issue and to read is dropped. -/
def runDropped (x : Sc) (s : State) : State :=
  let u := sqSet rPhyStatus (pack [(1, 12 + x.val)]) (updPhySc x (fun p => { p with seq := .walk, run := none }) s)
  updSched x (fun q => { q with
    maint := vmod q.maint 2 fun l => l.filter fun m => !m.swatches u x
    pipe := q.pipe.filter fun t => !t.origin.isSwatch, lost := q.lost.filter fun t => !t.origin.isSwatch }) u

theorem runDropped_sc (x : Sc) (s : State) :
    (runDropped x s).phy.sc.get x = { s.phy.sc.get x with seq := .walk, run := none } :=
  updPhySc_get x (fun p => { p with seq := .walk, run := none }) s

theorem abortSwatch_aborts (hq : (s.phy.sc.get x).seq = .swatch) : ∃ tried vref,
    abortSwatch x s = onlyIf tried (allVrefs x vref) (txTarget x (fun _ => 0) (runDropped x s)) := by
  unfold abortSwatch
  simp only [hq]
  exact ⟨_, _, rfl⟩

section
variable (tried : Bool) (vref : Nat → Nat → Nat)

theorem aborted_phy (x : Sc) (s : State) :
    (onlyIf tried (allVrefs x vref) (txTarget x (fun _ => 0) (runDropped x s))).phy =
      (txTarget x (fun _ => 0) (runDropped x s)).phy :=
  phy_of_seen (by simp)

theorem aborted_sc (x : Sc) (s : State) :
    ∃ l, (onlyIf tried (allVrefs x vref) (txTarget x (fun _ => 0) (runDropped x s))).phy.sc.get x =
      { s.phy.sc.get x with seq := .walk, run := none, lanes := l } := by
  obtain ⟨l, hl⟩ := txTarget_sc (fun _ => 0) x (runDropped x s)
  refine ⟨l, ?_⟩
  rw [aborted_phy, hl, runDropped_sc]

theorem aborted_lane (x : Sc) (i : Fin 40) (s : State) :
    laneAt (onlyIf tried (allVrefs x vref) (txTarget x (fun _ => 0) (runDropped x s))) x i =
      { laneAt s x i with txTo := codePlus (llTx s x i.val) 0 } := by
  have lanes : laneAt (runDropped x s) x i = laneAt s x i := laneAt_of_lanes (by rw [runDropped_sc]) i
  rw [laneAt_of_sc (congrArg Phy.sc (aborted_phy ..)), laneAt_txTarget, lanes]
  rfl

theorem aborted_hold (x : Sc) (s : State) :
    ((onlyIf tried (allVrefs x vref) (txTarget x (fun _ => 0) (runDropped x s))).sched.get x).writeHold =
      (s.sched.get x).writeHold := by
  refine onlyIf_inv (P := fun u => (u.sched.get x).writeHold = (s.sched.get x).writeHold) (fun h => ?_) ?_
  · refine forAll_inv (P := fun u => (u.sched.get x).writeHold = (s.sched.get x).writeHold) _ (fun _ _ h => ?_) h
    refine forAll_inv (P := fun u => (u.sched.get x).writeHold = (s.sched.get x).writeHold) _ (fun _ _ h => ?_) h
    exact mntAdd_has (p := fun q => q.writeHold = (s.sched.get x).writeHold) (fun _ _ h => h) h
  · exact updSched_has (p := fun q => q.writeHold = (s.sched.get x).writeHold) (fun _ h => h) rfl

theorem aborted_shows (x : Sc) (s : State) :
    bitOf (regGet (onlyIf tried (allVrefs x vref) (txTarget x (fun _ => 0) (runDropped x s))) rPhyStatus) (12 + x.val) = true := by
  rw [regGet_phyStatus_of_seen (s := txTarget x (fun _ => 0) (runDropped x s)) (by simp)]
  exact sqSet_sets rPhyStatus (by omega) _

end

end Sys2Proof.Machine
end

section
/-! SUPPORT. Work that is put up piece by piece: oscillator commands and the lines of a Lifeline record (R316, R326). -/

namespace Sys2Proof.Machine

variable {s : State} {x : Sc} {c : Ch}

/-- A requester whose work grows by `n` pieces at each member of a list. -/
theorem forAll_maint_length {α : Type} {f : α → State → State} {q : Fin 7} {n : Nat}
    (hf : ∀ a u, (((f a u).sched.get x).maint.get q).length = ((u.sched.get x).maint.get q).length + n) (l : List α) (s : State) :
    (((forAll l f s).sched.get x).maint.get q).length = ((s.sched.get x).maint.get q).length + n * l.length := by
  unfold forAll
  induction l generalizing s with
  | nil => rfl
  | cons a l ih => rw [List.foldl_cons, ih, hf, List.length_cons, Nat.mul_succ]; omega

theorem mntAdd_length (x : Sc) (q : Fin 7) (o : MntOp) (s : State) :
    (((mntAdd x q o s).sched.get x).maint.get q).length = ((s.sched.get x).maint.get q).length + 1 := by
  rw [mntAdd_maint, List.length_append]
  rfl

/-! ### Oscillator commands (R316) -/

/-- The oscillators of a chip select are started, stopped and read. -/
def askOsc (x : Sc) (k : Nat) (s : State) : State :=
  mntAdd x 2 (.mode .mrr (BitVec.ofNat 2 k) 0 (.get .osc)) (mntAdd x 2 (.mode .mpc (BitVec.ofNat 2 k) 0 .oscStop)
    (mntAdd x 2 (.mode .mpc (BitVec.ofNat 2 k) 0 .oscStart) s))

/-- An update of the oscillators is under way with its counts. -/
def oscBegun (x : Sc) (counts : List Nat) (s : State) : State := updPhySc x (fun p => { p with seq := .osc, osc := some counts }) s

theorem oscPeriodExpiry_asks (counts : List Nat) (hb : regBit s 0x20000 (4 + x.val) = true) (hs : scoutState s x = true)
    (hw : swatchState s x = true) (hq : (s.phy.sc.get x).seq = .idle) :
    oscPeriodExpiry x counts s = forAll (swCs s x) (askOsc x) (oscBegun x counts s) := by
  have enabled : regBit s rPhyCtl (4 + x.val) = true := hb
  unfold oscPeriodExpiry
  simp only [enabled, hs, hw, hq]
  rfl

theorem oscAsked_sc (l : List Nat) (counts : List Nat) (x : Sc) (s : State) :
    (forAll l (askOsc x) (oscBegun x counts s)).phy.sc.get x = { s.phy.sc.get x with seq := .osc, osc := some counts } := by
  rw [phy_sc_of_seen (forAll_keeps _ _ _ fun _ _ => by simp [askOsc]), oscBegun, updPhySc_get]

theorem oscAsked_length (l : List Nat) (counts : List Nat) (x : Sc) (s : State) :
    (((forAll l (askOsc x) (oscBegun x counts s)).sched.get x).maint.get 2).length =
      ((s.sched.get x).maint.get 2).length + 3 * l.length :=
  forAll_maint_length (fun k u => by rw [askOsc, mntAdd_length, mntAdd_length, mntAdd_length]) l (oscBegun x counts s)

/-! ### The lines of a record (R326) -/

/-- The record of the active gear counts as saved. -/
def recordTaken (c : Ch) (s : State) : State :=
  { s with phy := { s.phy with llChanged := vset s.phy.llChanged (llKey c s.glb.gear) false } }

/-- A line of a record is put up to be written. -/
def askLine (c : Ch) (e : Lla × Line) (s : State) : State := mntAdd (scA c) 2 (.lineWrite e.1 e.2 false false) s

theorem lifelineSave_saves (hs : swatchState s (scA c) = true) (hl : s.phy.llChanged.get (llKey c s.glb.gear) = true) :
    lifelineSave c s = forAll (llLines (recordTaken c s) c s.glb.gear) (askLine c) (recordTaken c s) := by
  unfold lifelineSave
  simp only [hs, hl]
  rfl

theorem llLines_length (s : State) (c : Ch) (g : Gear) : (llLines s c g).length = 17 := by simp [llLines]

theorem saved_changed (l : List (Lla × Line)) (c : Ch) (s : State) :
    (forAll l (askLine c) (recordTaken c s)).phy.llChanged.get (llKey c s.glb.gear) = false := by
  rw [phy_llChanged_of_seen (forAll_keeps _ _ _ fun _ _ => by simp [askLine])]
  exact vget_vset_same ..

theorem saved_length (l : List (Lla × Line)) (c : Ch) (s : State) :
    (((forAll l (askLine c) (recordTaken c s)).sched.get (scA c)).maint.get 2).length =
      ((s.sched.get (scA c)).maint.get 2).length + l.length :=
  (forAll_maint_length (fun e u => mntAdd_length (scA c) 2 _ u) l (recordTaken c s)).trans (by rw [Nat.one_mul]; rfl)

end Sys2Proof.Machine
end

section
/-! SUPPORT. An oscillator update whose counts have been read: the transmit codes of each device follow its drift (R316, R317). -/

namespace Sys2Proof.Machine

variable {s t u : State} {x : Sc} {i : Fin 40} {counts : List Nat} {d : Fin 10}

/-! ### What the drift of a device depends on -/

/-- What the drift of the devices of a sub-channel depends on is the same in both states. -/
def SameDrift (x : Sc) (s t : State) : Prop :=
  t.glb = s.glb ∧ t.alert = s.alert ∧ (∀ o ≠ rPhyStatus, regGet t o = regGet s o)
    ∧ (t.phy.sc.get x).nref = (s.phy.sc.get x).nref

theorem sameDrift_refl (x : Sc) (s : State) : SameDrift x s s := ⟨rfl, rfl, fun _ _ => rfl, rfl⟩

theorem SameDrift.trans (h : SameDrift x s t) (h' : SameDrift x t u) : SameDrift x s u := by
  obtain ⟨hg, ha, hr, hn⟩ := h
  obtain ⟨hg', ha', hr', hn'⟩ := h'
  exact ⟨hg'.trans hg, ha'.trans ha, fun o ho => (hr' o ho).trans (hr o ho), hn'.trans hn⟩

theorem SameDrift.field (h : SameDrift x s t) {o : Nat} (ho : o ≠ rPhyStatus) (hi lo : Nat) : regFld t o hi lo = regFld s o hi lo := by
  obtain ⟨-, -, hr, -⟩ := h
  rw [regFld, hr o ho, regFld]

theorem SameDrift.laneDev (h : SameDrift x s t) (i : Nat) : laneDev t i = laneDev s i := by
  obtain ⟨-, -, hr, -⟩ := h
  rw [Machine.laneDev, isX8, regBit, hr _ (by decide), Machine.laneDev, isX8, regBit]

theorem SameDrift.swDevices (h : SameDrift x s t) : swDevices t = swDevices s := by
  obtain ⟨-, -, hr, -⟩ := h
  rw [Machine.swDevices, isX8, regBit, hr _ (by decide), Machine.swDevices, isX8, regBit]

theorem SameDrift.swCs (h : SameDrift x s t) : swCs t x = swCs s x := by
  have ⟨hg, ha, _, _⟩ := h
  have live : csLive t (chOf x) = csLive s (chOf x) := by
    funext k
    rw [csLive, chLive, hg, ha, csLive, chLive]
  rw [Machine.swCs, live, nCs, csLog, h.field (by decide), Machine.swCs, nCs, csLog]

theorem SameDrift.oscDelta (h : SameDrift x s t) (counts : List Nat) (d : Nat) : oscDelta t x counts d = oscDelta s x counts d := by
  have ⟨_, _, _, hn⟩ := h
  rw [Machine.oscDelta, hn, h.swCs, h.field (by decide), Machine.oscDelta]

theorem updPhySc_sameDrift {f : PhySc → PhySc} (hf : ∀ p, (f p).nref = p.nref) (s : State) : SameDrift x s (updPhySc x f s) :=
  ⟨rfl, rfl, fun _ _ => rfl, by rw [updPhySc_get, hf]⟩

/-! ### One device (R316) -/

/-- The transmit codes of a device are sent on, and what it has been moved is summed. -/
def deviceSent (x : Sc) (d : Fin 10) (m : Int) (s : State) : State :=
  updPhySc x (fun p => { p with moved := vmod p.moved d (· + m.natAbs) })
    (forAll ((fins 40).filter fun i => laneDev s i.val = d.val) (fun i => updLane x i fun l => { l with txTo := codePlus l.txTo m }) s)

/-- A device without a drift, one that has drifted beyond the limit, and one that is sent on. -/
theorem oscDevice_cases (x : Sc) (counts : List Nat) (d : Fin 10) (s : State) :
    (oscDelta s x counts d.val = none ∧ (oscDevice x counts d s).2 = s)
    ∨ (∃ m, oscDelta s x counts d.val = some m ∧ regFld s 0x20018 15 8 < m.natAbs ∧ (oscDevice x counts d s).2 = oscAsks x s)
    ∨ ∃ m full, oscDelta s x counts d.val = some m ∧ m.natAbs ≤ regFld s 0x20018 15 8
      ∧ (oscDevice x counts d s).2 = onlyIf full (oscAsks x) (deviceSent x d m s) := by
  unfold oscDevice
  split
  · next h => exact .inl ⟨h, rfl⟩
  · next m h =>
    split
    · next beyond => exact .inr (.inl ⟨m, h, beyond, rfl⟩)
    · next within => exact .inr (.inr ⟨m, _, h, Nat.not_lt.1 within, rfl⟩)

theorem oscAsks_sc (x : Sc) (s : State) : (oscAsks x s).phy.sc.get x = { s.phy.sc.get x with swWanted := true } :=
  updPhySc_get x (fun p => { p with swWanted := true }) s

theorem oscAsks_lane (x : Sc) (i : Fin 40) (s : State) : laneAt (oscAsks x s) x i = laneAt s x i :=
  laneAt_of_lanes (by rw [oscAsks_sc]) i

theorem oscAsks_osc (x : Sc) (s : State) : ((oscAsks x s).phy.sc.get x).osc = (s.phy.sc.get x).osc := by rw [oscAsks_sc]

theorem oscAsks_sameDrift (x : Sc) (s : State) : SameDrift x s (oscAsks x s) := by
  refine (updPhySc_sameDrift (f := fun p => { p with swWanted := true }) (fun _ => rfl) s).trans ⟨rfl, rfl, fun o ho => ?_, rfl⟩
  exact regGet_sqSet_other _ _ ho

theorem deviceSent_lane (m : Int) (x : Sc) (i : Fin 40) (s : State) : (laneAt (deviceSent x d m s) x i).txTo =
    if laneDev s i.val = d.val then codePlus (laneAt s x i).txTo m else (laneAt s x i).txTo := by
  have once : ((fins 40).filter fun i : Fin 40 => laneDev s i.val = d.val).Nodup := (List.nodup_finRange 40).filter _
  have moved : ∀ u, laneAt (updPhySc x (fun p => { p with moved := vmod p.moved d (· + m.natAbs) }) u) x i = laneAt u x i :=
    fun u => laneAt_of_lanes (by rw [updPhySc_get]) i
  rw [deviceSent, moved, forAll_updLane once]
  by_cases h : laneDev s i.val = d.val <;> simp [mem_fins, h]

/-- The transmit codes are sent on, and neither the counts nor what the drift depends on changes. -/
theorem deviceSent_keeps_drift (m : Int) (x : Sc) (s : State) :
    SameDrift x s (deviceSent x d m s) ∧ ((deviceSent x d m s).phy.sc.get x).osc = (s.phy.sc.get x).osc := by
  have one : ∀ (f : PhySc → PhySc) (u : State), (∀ p, (f p).nref = p.nref) → (∀ p, (f p).osc = p.osc) →
      SameDrift x s u ∧ (u.phy.sc.get x).osc = (s.phy.sc.get x).osc →
      SameDrift x s (updPhySc x f u) ∧ ((updPhySc x f u).phy.sc.get x).osc = (s.phy.sc.get x).osc := fun f u hn ho h =>
    ⟨h.1.trans (updPhySc_sameDrift hn u), by rw [updPhySc_get, ho, h.2]⟩
  refine one (fun p => { p with moved := vmod p.moved d (· + m.natAbs) }) _ (fun _ => rfl) (fun _ => rfl) ?_
  refine forAll_inv (P := fun u => SameDrift x s u ∧ (u.phy.sc.get x).osc = (s.phy.sc.get x).osc) _ (fun i u h => ?_)
    ⟨sameDrift_refl x s, rfl⟩
  exact one (fun p => { p with lanes := vmod p.lanes i fun l => { l with txTo := codePlus l.txTo m } }) u
    (fun _ => rfl) (fun _ => rfl) h

theorem oscDevice_keeps_drift (x : Sc) (counts : List Nat) (d : Fin 10) (s : State) :
    SameDrift x s (oscDevice x counts d s).2 ∧ ((oscDevice x counts d s).2.phy.sc.get x).osc = (s.phy.sc.get x).osc := by
  rcases oscDevice_cases x counts d s with ⟨-, e⟩ | ⟨m, -, -, e⟩ | ⟨m, full, -, -, e⟩ <;> rw [e]
  · exact ⟨sameDrift_refl x s, rfl⟩
  · exact ⟨oscAsks_sameDrift x s, oscAsks_osc x s⟩
  · refine onlyIf_inv (P := fun u => SameDrift x s u ∧ (u.phy.sc.get x).osc = (s.phy.sc.get x).osc) (fun h => ?_)
      (deviceSent_keeps_drift m x s)
    exact ⟨h.1.trans (oscAsks_sameDrift x _), (oscAsks_osc x _).trans h.2⟩

/-- Where an update sends the transmit code of a lane that is sent to `c`: on by the drift of its device, within the limit. -/
def oscAim (s : State) (x : Sc) (counts : List Nat) (i : Fin 40) (c : Code) : Code :=
  match oscDelta s x counts (laneDev s i.val) with
  | some m => if m.natAbs ≤ regFld s 0x20018 15 8 then codePlus c m else c
  | none => c

theorem SameDrift.oscAim (h : SameDrift x s t) (counts : List Nat) (i : Fin 40) (c : Code) :
    oscAim t x counts i c = oscAim s x counts i c := by
  rw [Machine.oscAim, h.laneDev, h.oscDelta, h.field (by decide), Machine.oscAim]

theorem oscDevice_lane (x : Sc) (counts : List Nat) (d : Fin 10) (i : Fin 40) (s : State) :
    (laneAt (oscDevice x counts d s).2 x i).txTo =
      if laneDev s i.val = d.val then oscAim s x counts i (laneAt s x i).txTo else (laneAt s x i).txTo := by
  unfold oscAim
  rcases oscDevice_cases x counts d s with ⟨hm, e⟩ | ⟨m, hm, beyond, e⟩ | ⟨m, full, hm, within, e⟩ <;> rw [e]
  · by_cases hd : laneDev s i.val = d.val <;> simp [hd, hm]
  · rw [oscAsks_lane]
    by_cases hd : laneDev s i.val = d.val <;> simp [hd, hm, Nat.not_le.2 beyond]
  · rw [onlyIf_inv (P := fun u => laneAt u x i = laneAt (deviceSent x d m s) x i) (fun h => (oscAsks_lane ..).trans h) rfl,
      deviceSent_lane]
    by_cases hd : laneDev s i.val = d.val <;> simp [hd, hm, within]

/-! ### Every device -/

/-- A fold that collects answers changes the state as its steps do. -/
theorem foldl_answers {α β : Type} (f : α → State → β × State) (l : List α) (a : List β) (s : State) :
    (l.foldl (fun (p : List β × State) d => (p.1 ++ [(f d p.2).1], (f d p.2).2)) (a, s)).2 = forAll l (fun d s => (f d s).2) s := by
  unfold forAll
  induction l generalizing a s with
  | nil => rfl
  | cons d l ih => exact ih _ _

/-- Every device of the list is sent on in turn. -/
def devicesSent (x : Sc) (counts : List Nat) (l : List (Fin 10)) (s : State) : State :=
  forAll l (fun d s => (oscDevice x counts d s).2) s

theorem devicesSent_osc (x : Sc) (counts : List Nat) (l : List (Fin 10)) (s : State) :
    ((devicesSent x counts l s).phy.sc.get x).osc = (s.phy.sc.get x).osc :=
  forAll_inv (P := fun u => (u.phy.sc.get x).osc = (s.phy.sc.get x).osc) l
    (fun d u h => (oscDevice_keeps_drift x counts d u).2.trans h) rfl

theorem devicesSent_lane {l : List (Fin 10)} (hl : l.Nodup) (x : Sc) (counts : List Nat) (i : Fin 40) (s : State) :
    (laneAt (devicesSent x counts l s) x i).txTo =
      if laneDev s i.val ∈ l.map Fin.val then oscAim s x counts i (laneAt s x i).txTo else (laneAt s x i).txTo := by
  unfold devicesSent forAll
  induction l generalizing s with
  | nil => rfl
  | cons d l ih =>
    obtain ⟨hd, hl⟩ := List.nodup_cons.1 hl
    obtain ⟨drift, -⟩ := oscDevice_keeps_drift x counts d s
    rw [List.foldl_cons, ih hl, drift.laneDev, drift.oscAim, oscDevice_lane]
    by_cases h : laneDev s i.val = d.val
    · have left : d.val ∉ l.map Fin.val := fun hm => hd ((List.mem_map_of_injective Fin.val_injective).1 hm)
      simp only [h, left, List.map_cons, List.mem_cons, true_or, if_true, if_false]
    · simp only [h, List.map_cons, List.mem_cons, false_or, if_false]

theorem laneDev_mem_swDevices (h : laneDev s i.val < devCount (isX8 s)) : laneDev s i.val ∈ (swDevices s).map Fin.val := by
  have ten : laneDev s i.val < 10 := lt_of_lt_of_le h (by unfold devCount; split <;> omega)
  exact List.mem_map.2 ⟨⟨_, ten⟩, List.mem_filter.2 ⟨mem_fins _, decide_eq_true h⟩, rfl⟩

/-- The counts of an update are taken. -/
def countsTaken (x : Sc) (s : State) : State := updPhySc x (fun p => { p with osc := none }) s

theorem oscGo_sends (ho : (s.phy.sc.get x).osc = some counts) (hm : ((s.sched.get x).maint.get 2).any MntCmd.oscs = false) :
    (oscGo x s).phy.sc = (devicesSent x counts (swDevices s) (countsTaken x s)).phy.sc := by
  have told : ∀ (p : Bool) (m : Int) (u : State), (if p then u else promoteRecord x 0xF 2 m 0 0 u).phy.sc = u.phy.sc :=
    fun p m u => by
      split
      · rfl
      · exact phy_sc_of_seen (by simp)
  unfold oscGo
  rw [ho]
  dsimp only
  rw [if_neg (by simp [hm]), told, foldl_answers (fun d s => oscDevice x counts d s)]
  rfl

/-! ### Codes on their way (R295, R296) -/

/-- What codes on their way leave of a sub-channel that reads its oscillators: the sequence, its counts, N_ref and the targets
of the transmit codes. -/
def PhySc.sent (p : PhySc) : PhySeq × Option (List Nat) × List Nat × (Fin 40 → Code) :=
  (p.seq, p.osc, p.nref, fun i => (p.lanes.get i).txTo)

/-- A sub-channel sends its transmit codes where it did. -/
def SameAim (x : Sc) (s t : State) : Prop := (t.phy.sc.get x).sent = (s.phy.sc.get x).sent

theorem SameAim.of_sc (h : t.phy.sc = s.phy.sc) : SameAim x s t := by rw [SameAim, h]

theorem SameAim.trans (h : SameAim x s t) (h' : SameAim x t u) : SameAim x s u := Eq.trans h' h

theorem updPhySc_sameAim {f : PhySc → PhySc} (hf : ∀ p, (f p).sent = p.sent) (x : Sc) (s : State) : SameAim x s (updPhySc x f s) := by
  rw [SameAim, updPhySc_get, hf]

theorem updLane_sameAim {f : Lane → Lane} (hf : ∀ a, (f a).txTo = a.txTo) (x : Sc) (i : Fin 40) (s : State) :
    SameAim x s (updLane x i f s) := by
  refine updPhySc_sameAim (fun p => ?_) x s
  have lanes : ∀ j, ((vmod p.lanes i f).get j).txTo = (p.lanes.get j).txTo := fun j => by
    by_cases h : j = i
    · rw [h, vget_vmod_same, hf]
    · rw [vget_vmod_other _ _ h]
  simp only [PhySc.sent, lanes]

theorem updGroup_sameAim (x : Sc) (g : GroupId) (f : Group → Group) (s : State) : SameAim x s (updGroup x g f s) :=
  updPhySc_sameAim (f := fun p => { p with groups := vmod p.groups g f }) (fun _ => rfl) x s

theorem updLanes_sameAim {f : Lane → Lane} (hf : ∀ a, (f a).txTo = a.txTo) (x : Sc) (g : GroupId) (s : State) :
    SameAim x s (updLanes x g f s) :=
  forAll_inv (P := SameAim x s) _ (fun i u h => h.trans (updLane_sameAim hf x i u)) rfl

theorem startSweep_sameAim (x : Sc) (g : GroupId) (s : State) : SameAim x s (startSweep x g s) := by
  have swept : ∀ u, SameAim x u (updLanes x g Lane.swept u) := updLanes_sameAim (f := Lane.swept) (fun _ => rfl) x g
  rw [show startSweep x g s = newPoint x g (updLanes x g Lane.swept (updGroup x g _ s)) from rfl]
  exact ((updGroup_sameAim x g _ s).trans (swept _)).trans (updGroup_sameAim x g _ _)

theorem startIdle_sameAim (x : Sc) (s : State) : SameAim x s (startIdle x s) := by
  unfold startIdle
  split
  · exact forAll_inv (P := SameAim x s) _ (fun g _ h => h.trans (startSweep_sameAim x g _)) rfl
  · rfl

theorem Lane.scoutStep_txTo (a : Lane) : a.scoutStep.txTo = a.txTo := by
  unfold Lane.scoutStep
  dsimp only
  split <;> rfl

theorem windowStep_sameAim (x : Sc) (s : State) : SameAim x s (windowStep x s) := by
  unfold windowStep
  refine SameAim.trans (updPhySc_sameAim (fun p => ?_) x s) (.of_sc (phy_sc_of_seen (codesArrive_keeps (by decide) ..)))
  have lanes : ∀ (scout free : Bool) (a : Lane),
      (let a := if scout then a.scoutStep else a; if free then { a with tx := slew 8 a.tx a.txTo } else a).txTo = a.txTo :=
    fun scout free a => by cases scout <;> cases free <;> simp [Lane.scoutStep_txTo]
  unfold PhySc.sent
  simp only [Vector.get_eq_getElem, Vector.getElem_ofFn, lanes]

/-- The window of a sub-channel and the wait of its lines move on. -/
theorem windowMoves_sameAim (win : PhySc → Nat) (wait : PhySc → Option Nat) (x : Sc) (s : State) :
    SameAim x s (updPhySc x (fun p => { p with winCk := win p, waitCk := wait p }) s) :=
  updPhySc_sameAim (f := fun p => { p with winCk := win p, waitCk := wait p }) (fun _ => rfl) x s

theorem windowsTo_sameAim (n : Nat) (x : Sc) (k : Nat) (s : State) : SameAim x s (windowsTo n x k s) := by
  induction n generalizing s with
  | zero => rfl
  | succ n ih =>
    unfold windowsTo
    dsimp only
    split
    · exact windowMoves_sameAim ..
    · split
      · exact windowMoves_sameAim ..
      · exact ((windowMoves_sameAim ..).trans (windowStep_sameAim x _)).trans (ih _)

/-- What the walk of the codes over at most `n` windows leaves, where codes that have arrived end their sequence. -/
def codesWalked (n : Nat) (x : Sc) (s : State) : State :=
  let u := windowsTo n x (ckNow s x) (startIdle x s)
  if seqSettles u x && !txMoves u x then seqEnd x u else u

theorem codesGoOn_cases (x : Sc) (s : State) : codesGoOn x s =
    if phyClocked s x then codesWalked 2049 x s else updPhySc x (fun p => { p with winCk := max p.winCk (ckNow s x) }) s := by
  unfold codesGoOn codesWalked
  rfl

theorem codesWalked_reading (n : Nat) (hq : (s.phy.sc.get x).seq = .osc) (ho : (s.phy.sc.get x).osc = some counts) :
    codesWalked n x s = windowsTo n x (ckNow s x) (startIdle x s) ∧ SameAim x s (codesWalked n x s) := by
  have aim : SameAim x s (windowsTo n x (ckNow s x) (startIdle x s)) := (startIdle_sameAim x s).trans (windowsTo_sameAim ..)
  obtain ⟨seq, rest⟩ := Prod.mk.inj aim
  obtain ⟨osc, -⟩ := Prod.mk.inj rest
  have same : codesWalked n x s = windowsTo n x (ckNow s x) (startIdle x s) := by
    unfold codesWalked
    dsimp only
    rw [if_neg (by simp [seqSettles, seq, osc, hq, ho])]
  exact ⟨same, by rw [same]; exact aim⟩

/-- Codes that move on while the counts of an update wait change no target, and nothing but the PHY. -/
theorem codesGoOn_reading (hq : (s.phy.sc.get x).seq = .osc) (ho : (s.phy.sc.get x).osc = some counts) :
    SameAim x s (codesGoOn x s) ∧ (codesGoOn x s).seen 0xE00000000000000 = s.seen 0xE00000000000000 := by
  rw [codesGoOn_cases]
  split
  · obtain ⟨same, aim⟩ := codesWalked_reading 2049 hq ho
    refine ⟨aim, ?_⟩
    rw [same]
    exact (windowsTo_keeps (by decide) ..).trans (startIdle_keeps (by decide) ..)
  · exact ⟨updPhySc_sameAim (f := fun p => { p with winCk := max p.winCk (ckNow s x) }) (fun _ => rfl) x s, by simp⟩

theorem swatchGo_elsewhere (h : (s.phy.sc.get x).seq ≠ .swatch) : swatchGo x s = s := by
  unfold swatchGo
  dsimp only
  split
  · rfl
  · exact if_pos (by simp [h])

/-! ### A cc of the arbiter (R216, R316) -/

theorem mntArbitrate_sc (hc : s.glb.ctl = .service) (hp : s.ras.ppr = none) : (mntArbitrate x s).phy.sc = (phyGo x s).phy.sc := by
  unfold mntArbitrate
  rw [if_pos (by simp [hc]), show pprGo x s = s by unfold pprGo; rw [hp]]
  exact phy_sc_of_seen (by simp)

theorem mntArbitrate_sends (hc : s.glb.ctl = .service) (hp : s.ras.ppr = none) (hq : (s.phy.sc.get x).seq = .osc)
    (ho : (s.phy.sc.get x).osc = some counts) (hm : ((s.sched.get x).maint.get 2).any MntCmd.oscs = false) :
    ∃ u, (mntArbitrate x s).phy.sc = (devicesSent x counts (swDevices s) (countsTaken x u)).phy.sc
      ∧ SameDrift x s u ∧ ∀ i, (laneAt u x i).txTo = (laneAt s x i).txTo := by
  obtain ⟨aim, kept⟩ := codesGoOn_reading hq ho
  obtain ⟨seq, rest⟩ := Prod.mk.inj aim
  obtain ⟨osc, rest⟩ := Prod.mk.inj rest
  obtain ⟨nref, lanes⟩ := Prod.mk.inj rest
  have drift : SameDrift x s (codesGoOn x s) := ⟨glb_of_seen (seen_mono (by decide) kept), alert_of_seen (seen_mono (by decide) kept),
    fun o _ => regGet_congr (regs_of_seen (seen_mono (by decide) kept)) o, nref⟩
  refine ⟨codesGoOn x s, ?_, drift, fun i => congrFun lanes i⟩
  rw [mntArbitrate_sc hc hp, phyGo, swatchGo_elsewhere (by rw [seq, hq]; decide), oscGo_sends (osc.trans ho)
    (by rw [sched_of_seen (seen_mono (by decide) kept), hm]), drift.swDevices]

end Sys2Proof.Machine
end

section
/-! Swatch runs, oscillator tracking and Lifeline saves are settled (R310 to R317, R322 to R326). -/

namespace Sys2Proof
open Sys2Proof.Machine

variable {s : State} {x : Sc} {i : Fin 40} {r : SwRun} {counts : List Nat}

theorem swatch_requests {v : Word} (h : confirms s 0x20020 v) :
    completes (.swatchReq true (~~~v)) s fun t => (∀ x : Sc, (t.phy.sc.get x).swReq = ((s.phy.sc.get x).swReq || v.getLsbD x.val))
      ∧ t.pp = none ∧ t.out = [.reg 0 0] := by
  refine completes_of_run (f := confirmRow 0x20020 opAny true (~~~v)) rfl ?_
  have quiet : ∀ u, (actSwatchReq v u).out = u.out := fun _ => out_of_seen (by simp)
  rw [swatch_confirmed h]
  refine ⟨actSwatchReq_asks v _, ?_, ?_⟩
  · exact pp_of_seen (s := { begin_ s with pp := none }) (by simp [respOk])
  · simp [respOk, quiet]

theorem swatch_run_starts (ha : trainAsks s x = true) (hq : (s.phy.sc.get x).seq = .idle)
    (hh : (s.sched.get x).holder = some 2) :
    completes (.swatchRunStart x) s fun t => (t.phy.sc.get x).seq = .swatch
      ∧ (t.phy.sc.get x).run = some ⟨.shift, 0, 0, [], [], [], swCfg s, scoutWords s⟩
      ∧ (t.phy.sc.get x).swReq = false ∧ (t.phy.sc.get x).swWanted = false ∧ (laneAt t x i).tx = (laneAt s x i).tx
      ∧ (laneAt t x i).txTo = codePlus (llTx s x i.val) (swOffset (swSpan (swCfg s)) (swStep (swCfg s)) 0)
      ∧ (t.sched.get x).writeHold = true
      ∧ regGet t (0x20104 + 0x10 * x.val) = BitVec.ofNat 32 (min 0xFFFFFFFF ((regGet s (0x20104 + 0x10 * x.val)).toNat + 1)) := by
  refine completes_of_run (f := swatchRunStart x) rfl ?_
  rw [swatchRunStart_begins (s := begin_ s) ha hq hh]
  obtain ⟨l, sc⟩ := firstOffset_sc x (begin_ s)
  have begun : ((bump (0x20104 + 0x10 * x.val) (updSched x (fun q => { q with writeHold := true })
      (firstOffset x (begin_ s)))).phy.sc.get x) = (firstOffset x (begin_ s)).phy.sc.get x := rfl
  have lane := firstOffset_lane x i (begin_ s)
  have sent : laneAt (bump (0x20104 + 0x10 * x.val) (updSched x (fun q => { q with writeHold := true })
      (firstOffset x (begin_ s)))) x i = laneAt (firstOffset x (begin_ s)) x i := rfl
  rw [begun, sent, sc, lane, regGet_bump_same, sat_eq_min]
  exact ⟨rfl, rfl, rfl, rfl, rfl, rfl, congrArg Sched.writeHold (vget_vmod_same ..), rfl⟩

theorem swatch_read_notes {g : RdTag} {k : Nat} (hg : (s.sched.get x).pipe.find? (fun r => r.origin.isRead) = some g)
    (ho : g.origin = .swatch k) (hr : (s.phy.sc.get x).run = some r) (rx : Capture) :
    completes (.readDecode x rx) s fun t => (t.phy.sc.get x).run = some (SwRun.seen g k (g.burst s rx) r)
      ∧ g ∉ (t.sched.get x).pipe ∧ t.reqs = s.reqs ∧ t.out = [] := by
  refine completes_of_run (f := readDecode x rx) rfl ?_
  rw [readDecode_swatch (s := begin_ s) hg ho]
  refine ⟨?_, ?_, ?_, ?_⟩
  · rw [updRun_run, compareLanes_run]
    exact congrArg (Option.map _) hr
  · rw [sched_of_seen (s := pipeLeft x g (begin_ s)) (by simp)]
    exact pipeLeft_pipe x g _
  · exact reqs_of_seen (s := begin_ s) (by simp [pipeLeft])
  · exact out_of_seen (s := begin_ s) (by simp [pipeLeft])

theorem swatch_run_ends (hr : (s.phy.sc.get x).run = some r) (hj : r.stage = .judge) (hq : (s.phy.sc.get x).seq = .swatch)
    (hs : swatchState s x = true) (hh : (s.sched.get x).holder = some 2) :
    completes (.swatchRunEnd x counts) s fun t => (t.phy.sc.get x).run = some { r with stage := .settle }
      ∧ (t.phy.sc.get x).nref = counts ∧ (t.phy.sc.get x).seq = .swatch ∧ (laneAt t x i).tx = (laneAt s x i).tx
      ∧ bitOf (regGet t 0x20034) (8 + x.val) = true := by
  refine completes_of_run (f := swatchRunEnd x counts) rfl ?_
  obtain ⟨told, move, vmove, width, rejected, accepted, dev, aim, vref, ends⟩ :=
    swatchRunEnd_ends (s := begin_ s) counts hr hj hq hs hh
  obtain ⟨l, m, sc⟩ := runCentred_sc x aim vref r (begin_ s)
  have settled : (runSettles x counts (runCentred x aim vref r (begin_ s))).phy.sc.get x =
      { s.phy.sc.get x with
        lanes := l, groups := m, run := some { r with stage := .settle }, nref := counts, moved := Vector.replicate 10 0 } := by
    rw [runSettles, updPhySc_get, updRun, updPhySc_get, sc]
    simp only [show (begin_ s).phy.sc.get x = s.phy.sc.get x from rfl, hr, Option.map_some]
  have lane : laneAt (runSettles x counts (runCentred x aim vref r (begin_ s))) x i = laneAt (runCentred x aim vref r (begin_ s)) x i :=
    laneAt_of_lanes (by rw [settled, sc]) i
  have shows := runShown_shows told rejected accepted move vmove width dev x (runSettles x counts (runCentred x aim vref r (begin_ s)))
  rw [ends, runShown_sc, settled, laneAt_of_sc (runShown_sc ..), lane, runCentred_tx]
  exact ⟨rfl, rfl, hq, rfl, shows⟩

/-- An expiry that gives a run up: it is counted, and the codes go back (R314, R324). -/
theorem run_given_up (code : Nat) (hq : (s.phy.sc.get x).seq = .swatch) {t : State}
    (ht : t = timeout code 0 3 false (subjSc x 0 0) 0 (abortSwatch x (begin_ s))) :
    countsExpiry code s t ∧ (t.phy.sc.get x).seq = .walk ∧ (t.phy.sc.get x).run = none
      ∧ (laneAt t x i).txTo = codePlus (llTx s x i.val) 0 ∧ (t.sched.get x).writeHold = (s.sched.get x).writeHold
      ∧ bitOf (regGet t 0x20034) (12 + x.val) = true := by
  subst ht
  have evt : (abortSwatch x (begin_ s)).evt = s.evt := evt_of_seen (s := begin_ s) (by simp)
  have sc : (timeout code 0 3 false (subjSc x 0 0) 0 (abortSwatch x (begin_ s))).phy.sc = (abortSwatch x (begin_ s)).phy.sc :=
    phy_sc_of_seen (timeout_keeps (by decide) ..)
  refine ⟨?_, ?_⟩
  · rw [countsExpiry, ← evt]
    exact countsExpiry_of_timeout rfl
  obtain ⟨tried, vref, aborts⟩ := abortSwatch_aborts (s := begin_ s) hq
  obtain ⟨l, aborted⟩ := aborted_sc tried vref x (begin_ s)
  rw [laneAt_of_sc sc, sc, sched_of_seen (timeout_keeps (by decide) ..), show (0x20034 : Nat) = rPhyStatus from rfl,
    regGet_phyStatus_of_seen (timeout_keeps (by decide) ..), aborts, aborted, aborted_lane, aborted_hold, aborted_shows]
  exact ⟨rfl, rfl, rfl, rfl, rfl⟩

theorem osc_commands_asked (hb : regBit s 0x20000 (4 + x.val) = true) (hs : scoutState s x = true)
    (hw : swatchState s x = true) (hq : (s.phy.sc.get x).seq = .idle) :
    completes (.oscPeriodExpiry x counts) s fun t => t.phy.sc.get x = { s.phy.sc.get x with seq := .osc, osc := some counts }
      ∧ ((t.sched.get x).maint.get 2).length = ((s.sched.get x).maint.get 2).length + 3 * (swCs s x).length := by
  refine completes_of_run (f := oscPeriodExpiry x counts) rfl ?_
  rw [oscPeriodExpiry_asks (s := begin_ s) counts hb hs hw hq]
  exact ⟨oscAsked_sc .., oscAsked_length ..⟩

theorem osc_drift_sent (hc : s.glb.ctl = .service) (hp : s.ras.ppr = none) (hq : (s.phy.sc.get x).seq = .osc)
    (ho : (s.phy.sc.get x).osc = some counts) (hm : ((s.sched.get x).maint.get 2).any MntCmd.oscs = false)
    (hd : laneDev s i.val < devCount (isX8 s)) :
    completes (.mntArbitrate x) s fun t => (t.phy.sc.get x).osc = none
      ∧ (laneAt t x i).txTo = oscAim s x counts i (laneAt s x i).txTo := by
  refine completes_of_run (f := mntArbitrate x) rfl ?_
  obtain ⟨u, sends, drift, lanes⟩ := mntArbitrate_sends (s := begin_ s) hc hp hq ho hm
  have once : (swDevices (begin_ s)).Nodup := (List.nodup_finRange 10).filter _
  have taken : SameDrift x (begin_ s) (countsTaken x u) :=
    drift.trans (updPhySc_sameDrift (f := fun p => { p with osc := none }) (fun _ => rfl) u)
  have sc : (countsTaken x u).phy.sc.get x = { u.phy.sc.get x with osc := none } := updPhySc_get ..
  have waits : laneAt (countsTaken x u) x i = laneAt u x i := laneAt_of_lanes (by rw [sc]) i
  refine ⟨?_, ?_⟩
  · rw [sends, devicesSent_osc, sc]
  · rw [laneAt_of_sc sends, devicesSent_lane once, taken.laneDev, taken.oscAim, waits, lanes]
    exact if_pos (laneDev_mem_swDevices (s := s) hd)

theorem lifeline_saved {c : Ch} (hs : swatchState s (scA c) = true) (hl : s.phy.llChanged.get (llKey c s.glb.gear) = true) :
    completes (.lifelineSave c) s fun t => t.phy.llChanged.get (llKey c s.glb.gear) = false
      ∧ ((t.sched.get (scA c)).maint.get 2).length = ((s.sched.get (scA c)).maint.get 2).length + 17 := by
  refine completes_of_run (f := lifelineSave c) rfl ?_
  rw [lifelineSave_saves (s := begin_ s) hs hl, saved_length, llLines_length]
  exact ⟨saved_changed _ c (begin_ s), rfl⟩

/-- Settles O29, command by command. -/
theorem swatchRunsAndOscillators : Obligations.SwatchRunsAndOscillators := by
  refine ⟨fun _ x h => completes_of_run (f := swatchPeriodExpiry x) rfl (if_pos h), fun _ _ h => swatch_requests h,
    fun _ _ _ ha hq hh => swatch_run_starts ha hq hh, fun _ _ rx _ _ _ hg ho hr => swatch_read_notes hg ho hr rx,
    fun _ _ _ _ _ hr hj hq hs hh => swatch_run_ends hr hj hq hs hh, fun s x i hq => ?_, fun s x i hq => ?_,
    fun _ _ _ hb hs hw hq => osc_commands_asked hb hs hw hq,
    fun _ _ _ _ hc hp hq ho hm hd => osc_drift_sent hc hp hq ho hm hd, fun _ _ hs hl => lifeline_saved hs hl⟩
  · exact completes_of_run (f := swatchHoldTimeout x) rfl (run_given_up 0x06 hq (if_pos hq))
  · obtain ⟨counted, walks, dropped, back, -, shown⟩ := run_given_up (i := i) 0x07 hq (if_pos hq)
    exact completes_of_run (f := runtimeTrainingTimeout x) rfl ⟨counted, walks, dropped, back, shown⟩

end Sys2Proof
end
